-- ==== Sys2Proof/Word.lean ====
section
/-! DEFINITION. The word types of the device: a byte of memory and a 32-bit register word (R10, R12). -/

namespace Sys2Proof

/-- One byte of device memory (R12). -/
abbrev Byte := BitVec 8

/-- One register, 32 bits wide (R10). -/
abbrev Word := BitVec 32

end Sys2Proof
end

