-- ==== Sys2Proof/Syntax.lean ====
section
/-! DEFINITION. The commands of the block (one constructor of `Instr` per row of the table of operations and events) and the plain
data that the rows carry. -/

namespace Sys2Proof

/-- The three transports of R440. -/
inductive Via where
  | host
  | spi
  | cascade
deriving DecidableEq, Repr

/-- Carrier directions: d = 0 downlink, d = 1 uplink (chapter 6). -/
inductive Dir where
  | dl
  | ul
deriving DecidableEq, Repr

/-- A command as the front end accepted it (R437, R445): its transport, the fields of its header that execution needs, its acceptance cycle,
the source of its frame on the host port (MAC · 2^128 + IPv6), and its payload. -/
structure Cmd where
  via : Via
  session : Nat
  opcode : Nat
  tag : Nat
  seq : Nat
  noReply : Bool
  target : Nat
  acceptedAt : Nat
  src : Nat
  payload : List Byte
deriving DecidableEq, Repr

/-- What a device holds of a session by the manager's table (R452): its number, STATE and ROLE as SESS_STAT codes them, the carrier slots
(direction and slot) and the beam-table blocks that it owns. -/
structure SessCopy where
  session : Nat
  state : Nat
  role : Nat
  slots : List (Nat × Nat)
  blocks : List Nat
deriving DecidableEq, Repr

/-- What a chain's RXADC brought since the last samples it was given (I and Q codes, R82), four samples per SI cycle; the last ones were
converted on the command's instant. -/
structure ChainSamples where
  ch : Nat
  adc : List (Int × Int)
deriving DecidableEq, Repr

/-- What the check of a storage word finds (R474), with the syndrome. -/
inductive EccFinding where
  | clean
  | single (syndrome : Nat)
  | double (syndrome : Nat)
deriving DecidableEq, Repr

/-- The edges of the sequencer (R367): a bias-on load, TXON on and off, a REST load, RXON on and off; and an assertion that waited for
the other pin (R370). -/
inductive SeqKind where
  | bias | txOn | txOff | rest | rxOn | rxOff | txWaited | rxWaited
deriving DecidableEq, Repr

/-- What a DOWN port brought of a unit group by its add instant (R279 to R281, R295): nothing; or the payload of its header block and those of its
data blocks, with the place of the header in its row of blocks. -/
inductive ChildArrival where
  | missing
  | blocks (first hdr : Nat) (data : List Nat)
deriving DecidableEq, Repr

/-- What a training step at a rate brought (R253 to R255): block lock, with the lane number whose pattern each lane shows and whether its polarity is
swapped (nothing for a lane without lock); equalisation, with the lanes that converged, whether it converged with margin, and each lane's
cursors; or the end of the exchange of records. -/
inductive HgStep where
  | locked (pat : List (Option (Nat × Bool)))
  | equalised (lanes : Nat) (ok : Bool) (eqs : List Nat)
  | exchanged
deriving DecidableEq, Repr

/-- A complete PRACH row from a child (R285, R286): port, beam, repetition, FLAGS and entries. -/
structure ChildRow where
  port : Nat
  beam : Nat
  rep : Nat
  flags : Nat
  row : List (Int × Int)
deriving DecidableEq, Repr

/-- What a calibration measurement brought for a chain (R398, R399): the complex response; for TXIQ and RXIQ jobs the correction fields
(GAIN, PHASE) and, for TXIQ, the LO-leakage fields (I, Q) found. -/
structure CalMeas where
  ch : Nat
  m : Int × Int
  iq : Int × Int
  lol : Int × Int
deriving DecidableEq, Repr

/-- The islands in which a DMA channel's addresses can lie (R32, R501). -/
inductive Island where
  | si | fi | mi | di
deriving DecidableEq, Repr

/-- The locked crossings of R39: SI ↔ CIq, SI ↔ GIp, or one of FI, MI or DI with the master of the transaction and its address. -/
inductive Crossing where
  | ci (q : Nat)
  | gi (p : Nat)
  | fi (mid addr : Nat)
  | mi (mid addr : Nat)
  | di (mid addr : Nat)
deriving DecidableEq, Repr

/-- What discovery reads of a link: the DA of the device that reports it (0xFF: this one), its port, the partner's capability record
(R257), and the rate and widths the link was trained to. -/
structure LinkReport where
  da : Nat
  port : Nat
  record : Nat
  rate : Nat
  txW : Nat
  rxW : Nat
deriving DecidableEq, Repr

/-- What the world brings to a command as it executes: what the checks of the storage words it reads find, the evaluators and columns that
fail a self-test (a bit per chain), and what the workers report of their links. -/
structure Aux where
  ecc : List (Nat × EccFinding)
  evals : Nat
  cols : Nat
  links : List LinkReport
deriving DecidableEq, Repr

/-- One constructor per row of the table of operations and events (spec/opcode_table.json), in the table's order. -/
inductive Instr where
  /-- HOST_COMMAND_PACKET (R445): A command packet arrives on the host port, the management SPI or the cascade UP port, and is checked in order and sorted into its queue. -/
  | hostCommandPacket (via : Via) (src : Nat) (bytes : List Byte)
  /-- SPI_READ (R440): The board controller reads the oldest outgoing packet, or a length of 0, from the SPI outgoing buffer. -/
  | spiRead
  /-- COMMAND_DISPATCH (R448): The Dehan cluster takes its next command from queue Q1, or from Q2 and Q3 in a 4:1 ratio, and executes it. -/
  | commandDispatch (x : Aux)
  /-- QUEUE_AGE_TIMEOUT (R448): A queued command reaches AGE_MS before execution starts and completes with TIMEOUT. -/
  | queueAgeTimeout (q : Nat)
  /-- LOAD_MONITOR_PUBLISH (R453): Each second the front end publishes service-time percentiles and queue occupancies, and may raise CMD_LOAD. -/
  | loadMonitorPublish
  /-- EVENT_QUEUE_ROOM (R451): Room returns in a session's full event queue, and the session receives one EVENTS_LOST event with the count. -/
  | eventQueueRoom (x n : Nat)
  /-- SPI_BUFFER_ROOM (R440): Room returns in the SPI outgoing buffer, and a reply waiting in its session's reply slot is placed there. -/
  | spiBufferRoom (x : Nat)
  /-- SESSION_OPENING_TIMEOUT (R441): A session in OPENING receives no valid SESSION_FINISH within 1 s and returns to CLOSED. -/
  | sessionOpeningTimeout (x : Nat)
  /-- SESSION_IDLE_TIMEOUT (R444): A session accepts no command for 6 × IDLE_S seconds and closes. -/
  | sessionIdleTimeout (x : Nat)
  /-- MUTE_ALL (R458): Latches or clears UMUTE, rank 4, on all 64 chains. -/
  | muteAll (c : Cmd)
  /-- PA_OFF (R458): Latches or releases rank 3 on all chains. -/
  | paOff (c : Cmd)
  /-- CHAIN_MUTE (R458): Latches or clears UMUTE on the chains in MASK. -/
  | chainMute (c : Cmd)
  /-- TUNE (R460): Derives N, F and DIV from the requested LOs and submits a TUNE to the LO sequencer. -/
  | tune (c : Cmd)
  /-- STATE_SET (R461): Moves the device between ACTIVE, TRIM, HUSH and FALLOW with the given gating and DVFS points. -/
  | stateSet (c : Cmd)
  /-- PING (R462): Returns the bytes it carries. -/
  | ping (c : Cmd)
  /-- IDENT (R462): Returns the part, silicon revision, role, DA, UID and firmware version. -/
  | ident (c : Cmd)
  /-- RESET (R462): Resets the device, a Flior core or a Hedgerow port. -/
  | reset (c : Cmd)
  /-- UNFREEZE (R546): Releases a frozen master, which resumes as R491 states. -/
  | unfreeze (c : Cmd)
  /-- FREEZE_LIST (R462): Returns the bitmap of frozen MIDs. -/
  | freezeList (c : Cmd)
  /-- CARRIER_CLAIM (R462): Gives the session ownership of a free carrier slot. -/
  | carrierClaim (c : Cmd)
  /-- CARRIER_RELEASE (R355): Stops a carrier slot and releases its ownership at the frame boundary. -/
  | carrierRelease (c : Cmd)
  /-- CARRIER_CONFIG (R462): Writes the numerology, size, layers, buffers and codes of a carrier slot. -/
  | carrierConfig (c : Cmd)
  /-- CARRIER_ENABLE (R179): Validates and enables or disables a carrier slot from its next frame boundary. -/
  | carrierEnable (c : Cmd)
  /-- CARRIER_UL_FORMAT (R462): Writes the uplink compression and launch format of a slot. -/
  | carrierUlFormat (c : Cmd)
  /-- CARRIER_GAIN (R462): Writes a slot's downlink gain or uplink digital gain. -/
  | carrierGain (c : Cmd)
  /-- PRACH_CONFIG (R195): Writes the registers of a PRACH engine and its beam engine. -/
  | prachConfig (c : Cmd)
  /-- CARRIER_STATUS (R462): Returns a slot's configuration, window counters and saturation flags. -/
  | carrierStatus (c : Cmd)
  /-- LO_MODE (R587): Sets PINGPONG or SPLIT mode, AUTO_SWAP, STBY_MIRROR and the synthesiser of each quadrant. -/
  | loMode (c : Cmd)
  /-- ARRAY_ARM (R89): Arms the LO block for the next ARRSYNC edge and completes when ALIGNED is set, or with TIMEOUT. -/
  | arrayArm (c : Cmd)
  /-- QLO_TRIM (R93): Writes the phase trim and slew limit of the named quadrants. -/
  | qloTrim (c : Cmd)
  /-- CHAIN_SET (R462): Writes enables, mutes, protection, attenuation and gain on the chains in MASK. -/
  | chainSet (c : Cmd)
  /-- ORX_CONFIG (R462): Writes the attenuation and settling time of an ORX. -/
  | orxConfig (c : Cmd)
  /-- CFR_CONFIG (R136): Writes a quadrant's crest-factor reduction settings and thresholds. -/
  | cfrConfig (c : Cmd)
  /-- CFR_PULSE (R136): Writes taps into the pulse bank that is not in force. -/
  | cfrPulse (c : Cmd)
  /-- BEAM_BLOCK_CLAIM (R219): Gives the session ownership of a beam-table block. -/
  | beamBlockClaim (c : Cmd)
  /-- BEAM_BLOCK_RELEASE (R463): Releases a beam-table block and keeps its contents. -/
  | beamBlockRelease (c : Cmd)
  /-- WSET_DECLARE (R219): Declares a weight set or makes it invalid. -/
  | wsetDeclare (c : Cmd)
  /-- WSET_WRITE (R220): Writes vectors into a weight set that is not in use. -/
  | wsetWrite (c : Cmd)
  /-- BEAM_WRITE (R221): Writes a beam vector into the page not in force and completes at its flip. -/
  | beamWrite (c : Cmd)
  /-- STEER (R228): Places up to 32 steering requests in the steering FIFO. -/
  | steer (c : Cmd)
  /-- BF_SHIFT (R212): Writes DL_SHIFT and UL_SHIFT. -/
  | bfShift (c : Cmd)
  /-- BEAM_DEFAULT (R215): Writes a slot's default beam reference. -/
  | beamDefault (c : Cmd)
  /-- GEOM_WRITE (R225): Writes words of the steering geometry region. -/
  | geomWrite (c : Cmd)
  /-- PD_CONFIG (R463): Writes the predistortion thresholds, deadline, band enable and sensors. -/
  | pdConfig (c : Cmd)
  /-- PD_CHAIN (R161): Writes a chain's predistortion enable, start bank, bypass gain, band map, neighbours and term map. -/
  | pdChain (c : Cmd) (ecc : List (Nat × EccFinding))
  /-- PD_BANK_WRITE (R159): Writes coefficients into a bank that is not in use. -/
  | pdBankWrite (c : Cmd)
  /-- PD_COMMIT (R162): Writes PRE and commits a target bank, completing on PD_UPDATED or rollback. -/
  | pdCommit (c : Cmd) (ecc : List (Nat × EccFinding))
  /-- PD_POST (R164): Writes the post-update estimate of a chain in VERIFY. -/
  | pdPost (c : Cmd)
  /-- PD_ROLLBACK (R166): Forces a rollback of a chain's predistortion lifecycle. -/
  | pdRollback (c : Cmd)
  /-- PD_STATUS (R463): Returns a chain's lifecycle state, counters and repair status. -/
  | pdStatus (c : Cmd)
  /-- PD_ADAPT (R169): Starts or stops the Skeora adaptation for the named chains. -/
  | pdAdapt (c : Cmd)
  /-- CAL_ENABLE (R394): Enables or disables the calibration sequencer and completes after the record check. -/
  | calEnable (c : Cmd)
  /-- CAL_CONFIG (R463): Writes CAL_CFG, CAL_REF and CAL_LIM. -/
  | calConfig (c : Cmd)
  /-- CAL_JOB (R398): Submits a field alignment job. -/
  | calJob (c : Cmd)
  /-- CAL_ABORT (R463): Ends the running calibration job with ABORTED. -/
  | calAbort (c : Cmd)
  /-- CAL_READ_CORR (R392): Returns the element corrections in force. -/
  | calReadCorr (c : Cmd)
  /-- CAL_FACTORY_COMMIT (R393): Writes the digest of the factory record into the next free OTP commit slot. -/
  | calFactoryCommit (c : Cmd)
  /-- SLOT_WRITE (R199): Writes entries into the shadow bank of the slot table. -/
  | slotWrite (c : Cmd)
  /-- SLOT_MU (R199): Writes the TBL_MU of the shadow bank. -/
  | slotMu (c : Cmd)
  /-- SLOT_COPY (R202): Copies the active slot-table bank into the shadow bank. -/
  | slotCopy (c : Cmd)
  /-- SLOT_COMMIT (R465): Checks the shadow bank and swaps it in at a frame boundary. -/
  | slotCommit (c : Cmd)
  /-- SLOT_CANCEL (R202): Cancels a pending slot-table swap. -/
  | slotCancel (c : Cmd)
  /-- FRAME_CONFIG (R183): Writes FRAME_OFF and UL_TA_OFF. -/
  | frameConfig (c : Cmd)
  /-- TIME_SET (R319): Writes TU_SET and requests a step of device time. -/
  | timeSet (c : Cmd)
  /-- TIME_GET (R464): Returns device time, TU_STATUS and both servos' last offsets. -/
  | timeGet (c : Cmd)
  /-- SERVO_CONFIG (R323): Writes a servo's source, gains, pull limit, lock threshold and holdover timeout. -/
  | servoConfig (c : Cmd)
  /-- TIME_SELECT (R325): Writes the servo selection, automatic switching and SyncE settings. -/
  | timeSelect (c : Cmd)
  /-- PPS_CONFIG (R331): Writes the PPS_OUT configuration and the PPS offsets. -/
  | ppsConfig (c : Cmd)
  /-- STATE_GET (R464): Returns the power state, gating, DVFS points and a power estimate. -/
  | stateGet (c : Cmd)
  /-- THERM_CONFIG (R531): Writes the thermal limits and throttle order. -/
  | thermConfig (c : Cmd)
  /-- THERM_READ (R464): Returns the 24 sensor readings and their STALE flags. -/
  | thermRead (c : Cmd)
  /-- LARK_RULE (R523): Writes the condition and action words of a Lark rule. -/
  | larkRule (c : Cmd)
  /-- REG_READ (R466): Reads register words as the session's host command agent. -/
  | regRead (c : Cmd)
  /-- REG_WRITE (R585): Writes masked register words as the session's host command agent and returns their read-back. -/
  | regWrite (c : Cmd)
  /-- MEM_READ (R466): Reads memory, returning poisoned words as zero with their count. -/
  | memRead (c : Cmd) (ecc : List (Nat × EccFinding))
  /-- MEM_WRITE (R466): Writes bytes into memory as the session's host command agent. -/
  | memWrite (c : Cmd) (ecc : List (Nat × EccFinding))
  /-- SMEM_PARTITION (R203): Writes all six SMEM region words as one. -/
  | smemPartition (c : Cmd)
  /-- BANK_RETIRE (R479): Retires an SMEM bank onto a free spare bank. -/
  | bankRetire (c : Cmd)
  /-- FW_STAGE (R554): Writes bytes into the MMEM firmware staging area. -/
  | fwStage (c : Cmd)
  /-- FW_ACTIVATE (R554): Verifies the staged object and runs the hitless firmware update, or applies a KEYOP. -/
  | fwActivate (c : Cmd)
  /-- FW_STATUS (R464): Returns the running and staged versions and the anti-rollback counter word. -/
  | fwStatus (c : Cmd)
  /-- ATTEST (R551): Returns an attestation report signed under both schemes. -/
  | attest (c : Cmd)
  /-- SESSION_OPEN (R441): Assigns a session slot and returns the signed attestation and key exchange. -/
  | sessionOpen (c : Cmd)
  /-- SESSION_FINISH (R441): Checks the credential signatures, derives the keys and opens the session. -/
  | sessionFinish (c : Cmd)
  /-- SESSION_CLOSE (R444): Closes the named session. -/
  | sessionClose (c : Cmd)
  /-- CRED_ENROLL (R552): Enrols a session credential with its role and keys. -/
  | credEnroll (c : Cmd)
  /-- CRED_REVOKE (R464): Revokes a credential and closes its open sessions. -/
  | credRevoke (c : Cmd)
  /-- CASCADE_DISCOVER (R271): Builds the cascade graph, assigning DAs outward from the manager. -/
  | cascadeDiscover (c : Cmd) (links : List LinkReport)
  /-- DA_ASSIGN (R272): Sends a DA assignment for a UID to a link partner. -/
  | daAssign (c : Cmd)
  /-- CASCADE_MAP (R273): Writes the cascade map of UIDs and DAs to CSTORE. -/
  | cascadeMap (c : Cmd)
  /-- TREE_PLAN (R278): Writes a tree plan into the shadow plan bank. -/
  | treePlan (c : Cmd)
  /-- TREE_COMMIT (R277): Commits the shadow plan bank on every named device for one frame. -/
  | treeCommit (c : Cmd)
  /-- CASCADE_STATUS (R467): Returns CASC_STATUS and the HG_STATUS of the four ports. -/
  | cascadeStatus (c : Cmd)
  /-- HG_CONTROL (R467): Writes HG_CTRL and HG_RETIRE of a Hedgerow port. -/
  | hgControl (c : Cmd)
  /-- CAPTURE (R144): Configures and arms a capture engine, completing when the capture ends. -/
  | capture (c : Cmd)
  /-- CAPTURE_ABORT (R144): Stops a capture engine. -/
  | captureAbort (c : Cmd)
  /-- PLAYBACK (R145): Configures and starts or stops the playback engine. -/
  | playback (c : Cmd)
  /-- SELFTEST (R175): Tests every evaluator and column and retires those that fail. -/
  | selftest (c : Cmd) (evals cols : Nat)
  /-- KERNEL_MODE (R432): Assigns a halted Flior core to Skeora firmware or to customer kernels. -/
  | kernelMode (c : Cmd)
  /-- KERNEL_LOAD (R433): Verifies a kernel image and loads it into the target cores. -/
  | kernelLoad (c : Cmd)
  /-- KERNEL_START (R434): Starts or resumes the session's Flior cores. -/
  | kernelStart (c : Cmd)
  /-- KERNEL_HALT (R434): Halts the session's Flior cores. -/
  | kernelHalt (c : Cmd)
  /-- KERNEL_DOORBELL (R426): Sets doorbell bits of a Flior core. -/
  | kernelDoorbell (c : Cmd)
  /-- KERNEL_STATUS (R467): Returns a core's status, PC, owner and fault address. -/
  | kernelStatus (c : Cmd)
  /-- EVENT_SUBSCRIBE (R451): Sets the session's event subscription mask. -/
  | eventSubscribe (c : Cmd)
  /-- LOG_READ (R467): Returns records of the firmware event log. -/
  | logRead (c : Cmd)
  /-- FAULT_READ (R538): Returns a reporting unit's records and overflow count, and clears them if asked. -/
  | faultRead (c : Cmd)
  /-- BOOT_LOAD (R572): Writes a piece of the boot image in host-port boot. -/
  | bootLoad (c : Cmd)
  /-- BOOT_GO (R572): Ends the host-port image load and starts its verification. -/
  | bootGo (c : Cmd)
  /-- BOOT_REQUEST (R572): Every 100 ms the boot ROM broadcasts BOOT_REQUEST with UID, SIREV and the anti-rollback count. -/
  | bootRequest
  /-- REGISTER_WRITE (R584): A write to a register without a row of its own takes effect or is refused as a whole. -/
  | registerWrite (mid addr : Nat) (v : Word)
  /-- TX_EN_WRITE (R76): A write of CH_CTRL.TX_EN starts a transmit power-up or schedules a disable. -/
  | txEnWrite (ch : Nat) (v : Bool)
  /-- RX_EN_WRITE (R76): A write of CH_CTRL.RX_EN starts a receive power-up or schedules a disable. -/
  | rxEnWrite (ch : Nat) (v : Bool)
  /-- TX_MUTE_WRITE (R78): A write of CH_CTRL.TX_MUTE drives or releases the chain's rank-4 line. -/
  | txMuteWrite (ch : Nat) (v : Bool)
  /-- RX_MUTE_WRITE (R80): A write of CH_CTRL.RX_MUTE zeroes or restores uplink samples from the next symbol boundary. -/
  | rxMuteWrite (ch : Nat) (v : Bool)
  /-- RX_PROT_WRITE (R83): A write of CH_CTRL.RX_PROT enables or ends overload protection. -/
  | rxProtWrite (ch : Nat) (v : Bool)
  /-- TX_POWER_UP_DONE (R76): A transmit power-up completes and TX_RDY rises. -/
  | txPowerUpDone (ch : Nat)
  /-- RX_POWER_UP_DONE (R76): A receive power-up completes and RX_RDY rises. -/
  | rxPowerUpDone (ch : Nat)
  /-- SYMBOL_BOUNDARY (R186): A symbol boundary of a carrier slot arrives at the port on its timeline. -/
  | symbolBoundary (d : Dir) (cs : Nat) (l : List ChainSamples) (ecc : List (Nat × EccFinding))
  /-- FRAME_BOUNDARY (R183): A 10 ms downlink or uplink frame boundary arrives on the timeline. -/
  | frameBoundary (d : Dir)
  /-- CONV_RELOCK_TIMEOUT (R541): A converter PLL not relocked at 3 consecutive frame boundaries files a class F record. -/
  | convRelockTimeout (q : Nat)
  /-- ARR_ARM_WRITE (R89): A write of LO_CTRL.ARR_ARM arms the LO block for the next ARRSYNC edge. -/
  | arrArmWrite
  /-- ARRSYNC_EDGE (R89): An ARRSYNC edge fixes the array epoch if armed, or is counted as ignored. -/
  | arrsyncEdge
  /-- LO_MODE_WRITE (R587): A write of LO_CTRL.MODE changes between PINGPONG and SPLIT. -/
  | loModeWrite (split : Bool)
  /-- TUNE_GO (R99): A write of TUNE_CMD.GO checks the staged request and starts its execution. -/
  | tuneGo
  /-- SYN_CAL_DONE (R97): A synthesiser calibration locks and settles, and the synthesiser enters READY or MIRROR. -/
  | synCalDone (syn : Nat)
  /-- SYN_CAL_TIMEOUT (R97): A calibration not locked within 14,745 cycles ends in FAILED or OUT_OF_SERVICE and raises SYN_FAIL. -/
  | synCalTimeout (syn : Nat)
  /-- SWITCH_OVER (R103): At the first eligible boundary the QLOs switch to the standby and the NCO offsets move. -/
  | switchOver
  /-- SWITCH_OVER_TRANSIENT_END (R103): 24 cycles after switch-over the former active enters READY and the TUNE completes with OK. -/
  | switchOverTransientEnd
  /-- QUIET_WINDOW_RETUNE (R105): At the start of a quiet window the active synthesiser is retuned and LO_READY falls. -/
  | quietWindowRetune
  /-- BAND_SETTLE_DONE (R56): LO_READY rises once the band paths have settled after a band change. -/
  | bandSettleDone (q : Nat)
  /-- TUNE_WAIT_TIMEOUT (R106): A TUNE that has not found its window or boundary by WAIT_FRAMES completes with TIMEOUT. -/
  | tuneWaitTimeout
  /-- LO_UNLOCK (R113): A synthesiser or QLO loses lock and LO_READY falls. -/
  | loUnlock (id : Nat)
  /-- LO_DRIFT (R115): The active synthesiser's tuning voltage leaves its safe window. -/
  | loDrift (syn : Nat)
  /-- MIRROR_RECALIBRATION (R98): After switch-over the former active is recalibrated to the new frequency and placed in MIRROR. -/
  | mirrorRecalibration
  /-- QUADRANT_RELOCK (R116): An ungated quadrant locks its QLO and converter PLL. -/
  | quadrantRelock (q : Nat) (bad : Bool)
  /-- CONV_UNLOCK (R125): A quadrant's converter PLL loses lock and the quadrant is held as for a slip. -/
  | convUnlock (q : Nat)
  /-- CS_RF_COMMIT (R129): A write of CS_RF_HI commits the carrier code pair or is refused. -/
  | csRfCommit (d : Dir) (cs hi : Nat)
  /-- CAPTURE_GO (R144): A write of CAP_CTRL.GO arms a capture engine, or its pair. -/
  | captureGo (k : Nat)
  /-- ORXSEL_DRIVE (R138): The capture engine drives ORXSEL SETTLE cycles before the capture's start instant. -/
  | orxselDrive (k : Nat)
  /-- CAPTURE_START (R142): A capture begins writing samples at its start instant. -/
  | captureStart (k : Nat) (l l2 : List (Int × Int))
  /-- CAPTURE_DONE (R144): A capture ends in DONE, SHORT or ABORTED and interrupts the Dehan cluster. -/
  | captureDone (k : Nat)
  /-- CAPTURE_TIMEOUT (R144): A capture not started by the end of its wait ends in TIMEOUT. -/
  | captureTimeout (k : Nat)
  /-- CAP_ABORT_WRITE (R144): A write of CAP_CTRL.ABORT stops a capture. -/
  | capAbortWrite (k : Nat)
  /-- PLAYBACK_START (R146): A write of PB_CTRL.START begins playback at the next downlink symbol boundary. -/
  | playbackStart
  /-- PLAYBACK_STOP (R146): A write of PB_CTRL.STOP ends playback at the next symbol boundary. -/
  | playbackStop
  /-- PD_ENABLE_WRITE (R161): A write of PD_CHCFG.EN validates the term map and moves the chain to STEADY or BYPASS. -/
  | pdEnableWrite (ch : Nat) (v : Bool) (ecc : List (Nat × EccFinding))
  /-- PD_CMD_GO (R162): A write of PD_CMD.GO accepts or refuses a commit of a target bank. -/
  | pdCmdGo (ch tgt : Nat) (ecc : List (Nat × EccFinding))
  /-- PD_CMD_ROLLBACK (R166): A write of PD_CMD.ROLLBACK forces a rollback in FADING, BAND_FADE or VERIFY. -/
  | pdCmdRollback (ch : Nat)
  /-- PD_ACL_POST (R164): A write of PD_ACL.POST compares it with PRE and verifies or rolls back. -/
  | pdAclPost (ch post : Nat)
  /-- FADE_STEP (R163): Each 1,966 cycles the working coefficients take the next of 64 fade steps. -/
  | fadeStep (ch : Nat)
  /-- FADE_COMPLETE (R163): A fade ends and the chain enters VERIFY or STEADY. -/
  | fadeComplete (ch : Nat)
  /-- VERIFY_TIMEOUT (R166): No POST arrives by the VERIFY deadline and the chain rolls back. -/
  | verifyTimeout (ch : Nat)
  /-- EVALUATOR_RESIDUE_MISMATCH (R172): An evaluator fails its residue check and the chain runs in bypass to the end of the symbol. -/
  | evaluatorResidueMismatch (ch : Nat)
  /-- CS_EN_WRITE (R179): A write of CS_CFG.EN validates the slot and schedules its start or stop. -/
  | csEnWrite (d : Dir) (cs : Nat) (v : Bool)
  /-- SLOT_CTRL_COMMIT (R200): A write of SLOT_CTRL.COMMIT starts the check of the shadow bank. -/
  | slotCtrlCommit
  /-- SLOT_CHECK_DONE (R200): The commit check ends, setting COMMIT_PEND or CHECK_FAIL. -/
  | slotCheckDone
  /-- SLOT_CTRL_CANCEL (R202): A write of SLOT_CTRL.CANCEL clears a pending swap or is refused. -/
  | slotCtrlCancel
  /-- SLOT_CTRL_COPY (R202): A write of SLOT_CTRL.COPY starts copying the active bank into the shadow bank. -/
  | slotCtrlCopy
  /-- SLOT_COPY_DONE (R202): The bank copy ends after 2,048 cycles. -/
  | slotCopyDone
  /-- PRACH_OCCASION (R193): A PRACH engine takes its occasion's repetitions and extracts the preamble rows. -/
  | prachOccasion (o : Nat) (l : List ChainSamples)
  /-- PRACH_ROWS_WRITTEN (R194): The last PRACH row is written and DONE_CNT increments. -/
  | prachRowsWritten (o : Nat)
  /-- PRACH_BEAMS_WRITTEN (R240): The PRACH combiner writes its beam rows. -/
  | prachBeamsWritten (o : Nat)
  /-- READOUT_START (R187): Readout of a downlink symbol from the layer ring starts at its scheduled instant. -/
  | readoutStart (cs : Nat) (ecc : List (Nat × EccFinding))
  /-- PLAN_INSTANT (R232): The control plane fixes a symbol's plan, resolving every beam reference. -/
  | planInstant (d : Dir) (cs : Nat)
  /-- PAGE_HOLD_EXPIRY (R222): 36,864 cycles after a flip the former page becomes writable and a waiting write proceeds. -/
  | pageHoldExpiry (id : Nat)
  /-- WS_CFG_WRITE (R219): A write of WS_CFG declares a weight set or is refused. -/
  | wsCfgWrite (ws : Nat) (v : Word)
  /-- BL_GO (R221): A write of BL_GO submits a staged vector to the beam loader. -/
  | blGo
  /-- STEER_GO (R228): A write of STEER_GO submits a steering request to the FIFO or drops it. -/
  | steerGo
  /-- STEER_COMPUTE_DONE (R230): The steering engine finishes a request's vector and the request completes. -/
  | steerComputeDone
  /-- GEOM_DATA_WRITE (R225): A write of GEOM_DATA stores a word of the steering geometry through the loader. -/
  | geomDataWrite (v : Word)
  /-- COLUMN_RESIDUE_MISMATCH (R238): A MAC column fails its residue check and its output is zeroed to the end of the symbol. -/
  | columnResidueMismatch (a : Nat) (d : Dir) (cs k : Nat)
  /-- HG_EN_WRITE (R254): A write of HG_CTRL.EN enables a port into DETECT or disables it at once. -/
  | hgEnWrite (p : Nat) (v : Bool)
  /-- HG_PARTNER_CLOCK_DETECT (R254): The partner's forwarded clock is detected and training starts. -/
  | hgPartnerClockDetect (p : Nat)
  /-- HG_TRAIN_STEP_DONE (R253): A training step at a rate completes and the port moves on or settles. -/
  | hgTrainStepDone (p : Nat) (t : HgStep)
  /-- HG_TRAIN_TIMEOUT (R254): A training step overruns its bound and the port goes DOWN with TIMEOUT. -/
  | hgTrainTimeout (p : Nat)
  /-- HG_CAP_RECORD (R258): A capability record arrives and is checked, resent or rejected. -/
  | hgCapRecord (p rec : Nat)
  /-- LATFIX (R260): A TMARK is measured, F and E are set, and the port becomes TIMED. -/
  | latfix (p : Nat) (delays : List Nat)
  /-- HG_LANE_FAIL (R263): A lane fails and LANE_DROP is sent on the reverse direction. -/
  | hgLaneFail (p lane n : Nat) (lost : Bool)
  /-- LANE_DROP (R263): A LANE_DROP control arrives and LANE_ACK is echoed. -/
  | laneDrop (p lanes instant : Nat)
  /-- LANE_ACK (R263): A LANE_ACK arrives and the repair is scheduled for the repair instant. -/
  | laneAck (p lanes instant : Nat)
  /-- LANE_ACK_TIMEOUT (R264): No LANE_ACK arrives within 1,024 cycles and the port goes DOWN with REMOTE. -/
  | laneAckTimeout (p : Nat)
  /-- LANE_REPAIR_INSTANT (R263): Both ends stripe over W − 1 lanes and HG_LANE_REPAIR is raised. -/
  | laneRepairInstant (p : Nat)
  /-- IDLE_REQ_WRITE (R266): A write of HG_CTRL.IDLE_REQ starts idle entry or a fast exit. -/
  | idleReqWrite (p : Nat) (v : Bool)
  /-- EIDLE (R266): An EIDLE exchange completes and the port enters IDLE. -/
  | eidle (p : Nat)
  /-- EXIT_BURST_DETECT (R267): A forwarded-clock burst is detected and the port starts or answers a fast exit. -/
  | exitBurstDetect (p : Nat)
  /-- FAST_EXIT_DONE (R267): The lanes relock with retained equalisation and the port returns to TIMED or UNTIMED. -/
  | fastExitDone (p : Nat) (locked : Bool) (delays : List Nat)
  /-- RETRAIN (R268): A write of HG_CTRL.RETRAIN leaves TIMED and retrains, sending DOWN_NOTICE. -/
  | retrain (p : Nat)
  /-- DOWN_NOTICE (R268): The partner's DOWN_NOTICE arrives and the port goes DOWN with REMOTE. -/
  | downNotice (p : Nat)
  /-- FORWARDED_CLOCK_LOST (R268): The forwarded clock is lost and the port goes DOWN with CLOCK. -/
  | forwardedClockLost (p : Nat)
  /-- CROSSING_SLIP (R39): A locked crossing's offset departs from its set value and the slip is handled by crossing. -/
  | crossingSlip (c : Crossing)
  /-- UL_UNIT_ADD (R295): At a unit group's add instant child entries are added or taken as zero with PARTIAL. -/
  | ulUnitAdd (cs frame sym unit : Nat) (l : List ChainSamples) (kids : List (Nat × ChildArrival)) (ecc : List (Nat × EccFinding))
  /-- SUM_CHECK_BLOCK (R296): A failed check block marks the layer's frame damaged and counts CRC_FAIL. -/
  | sumCheckBlock (port cs frame sym layer : Nat) (hdr ok : Bool) (flags : Option (List Nat))
  /-- BROADCAST_PASS (R284): The manager starts a symbol's broadcast pass BC_LEAD cycles before readout. -/
  | broadcastPass (cs frame sym : Nat)
  /-- BROADCAST_UNIT_RECEIVE (R298): A broadcast unit is forwarded and landed, or landed as zero. -/
  | broadcastUnitReceive (cs frame sym unit : Nat) (header : Bool) (rows : Option (List (List (Int × Int)))) (checks : List Nat)
  /-- PRACH_SUM_SEND (R286): At its instant a device adds complete child PRACH rows and sends its sum frame. -/
  | prachSumSend (o : Nat) (kids : List ChildRow) (bad : List Nat) (hdr : Nat)
  /-- SIDE_FRAME_RECEIVE (R303): A side frame arrives and is accepted, routed, forwarded or discarded. -/
  | sideFrameReceive (port kind dst src frag : Nat) (bytes : List Byte) (hdrOk crcOk : Bool) (table : Option (List SessCopy))
  /-- DA_ASSIGN_RECEIVE (R272): A worker takes the DA named for its UID and sets DA_VALID. -/
  | daAssignReceive (uid da : Nat)
  /-- TIME_FRAME_RECEIVE (R305): A TIME frame arrives and the worker slews, steps or faults by Δ. -/
  | timeFrameReceive (value : Nat) (traceable : Bool)
  /-- TIME_FRAME_TIMEOUT (R305): No valid TIME frame for 100 frame boundaries clears TIME_LOCK and raises TIME_FAULT. -/
  | timeFrameTimeout
  /-- UP_PORT_LOSS_TIMEOUT (R299): After 100 frame boundaries without a TIMED UP port a worker mutes every chain. -/
  | upPortLossTimeout
  /-- CASC_COMMIT (R276): A write of CASC_CTRL.COMMIT checks the shadow plan and schedules the swap. -/
  | cascCommit
  /-- CASC_CANCEL (R277): A write of CASC_CTRL.CANCEL clears a pending plan swap. -/
  | cascCancel
  /-- HP_LINK_CHANGE (R311): An Ethernet port gains or loses PCS alignment and FEC lock. -/
  | hpLinkChange (e : Nat) (pcs fec : Bool)
  /-- HP_FRAME_RECEIVE (R314): A frame arriving on an HP0 port is timestamped and classified. -/
  | hpFrameReceive (e : Nat) (frame : List Byte) (corr uncorr : Nat) (bad : Bool) (res : Int) (room : Bool)
  /-- HP1_FRAME_FORWARD (R315): A frame arriving on HP1 is forwarded to E0, with transparent-clock correction. -/
  | hp1FrameForward (frame : List Byte) (residence : Int) (room : Bool)
  /-- IQ_DATA_MESSAGE (R343): An ingress IQ data message is checked against ownership and its window and landed. -/
  | iqDataMessage (src : Nat) (msg : List Byte)
  /-- SECTION_MESSAGE (R347): A section message is checked and its records and extensions are stored or passed on. -/
  | sectionMessage (src : Nat) (msg : List Byte)
  /-- UL_BURST_POST (R360): The compression stage builds a symbol's uplink messages and posts the burst to LQ0. -/
  | ulBurstPost (cs frame sym : Nat)
  /-- PRACH_ROW_LAUNCH (R362): Each PRACH beam row is posted as a message burst to LQ0. -/
  | prachRowLaunch (o : Nat)
  /-- LQ_POST (R335): A write of LQ_POST copies a firmware frame into a launch queue. -/
  | lqPost
  /-- LAUNCH_INSTANT (R335): A timed frame's launch instant comes and it is sent, shifted or dropped. -/
  | launchInstant (e : Nat)
  /-- ETHREF_LOSS (R36): ETHREF is lost and the host port goes down. -/
  | ethrefLoss
  /-- REFCLK_LOSS (R36): REFCLK is lost, a class F fault. -/
  | refclkLoss
  /-- TU_SNAP (R319): A write of TU_CTRL.SNAP latches device time into TU_SNAP. -/
  | tuSnap
  /-- TU_STEP (R319): A write of TU_CTRL.STEP is refused, passed to the servo or made pending. -/
  | tuStep
  /-- TIME_STEP_APPLY (R319): A pending step applies on the next alignment edge and the frame grid restarts. -/
  | timeStepApply
  /-- FORCE_VALID (R334): A write of TU_CTRL.FORCE_VALID releases the carriers after wake. -/
  | forceValid
  /-- SERVO_SAMPLE (R323): A servo processes an offset sample, updating pull, f_int and state. -/
  | servoSample (x e : Nat)
  /-- SRV_CFG_WRITE (R324): A write of SRV_CFG returns the servo to FREERUN. -/
  | srvCfgWrite (x : Nat) (v : Word)
  /-- SERVO_HOLDOVER_TIMEOUT (R324): No accepted sample for HOLD_TO ms puts the servo in HOLDOVER. -/
  | servoHoldoverTimeout (x : Nat)
  /-- FREQ_SLEW_PERIOD (R326): Each 62.5 ms the VCXO frequency command moves toward the servo output by at most DF_MAX. -/
  | freqSlewPeriod
  /-- VCXO_UPDATE (R327): Every 512 cycles ADAC64 is loaded with the code for the frequency command. -/
  | vcxoUpdate
  /-- VC_EN_WRITE (R328): A write of VC_CFG.EN gives ADAC64 to or takes it from the time unit. -/
  | vcEnWrite (v : Bool)
  /-- SYNCE_GATE (R329): Each second the SyncE frequency error is measured and, in mode 2, fed to f_int. -/
  | synceGate (ferr : Int)
  /-- SYNCE_LOST (R330): The SyncE source is lost and mode-2 operation ends. -/
  | synceLost
  /-- PPS_OUT_EDGE (R331): PPS_OUT rises at the start of each second plus its offset. -/
  | ppsOutEdge
  /-- PPS_IN_EDGE (R332): A PPS_IN edge is timestamped and forms a sample for servo B, or is ignored. -/
  | ppsInEdge (eighth : Nat)
  /-- SEQ_EDGE (R367): A sequencer edge falls: a bias load, or a TXON or RXON assertion or deassertion. -/
  | seqEdge (q : Nat) (k : SeqKind) (frame e : Nat)
  /-- SEQ_EN_WRITE (R369): A write of SEQ_CFG.EN enables or disables the sequencer. -/
  | seqEnWrite (v : Bool)
  /-- ADAC_LOCK (R377): A write of ADAC_LOCK commits clear codes and modes until reset. -/
  | adacLock
  /-- ADAC_LD (R376): A write of ADAC_LD loads every channel of the named groups. -/
  | adacLd (m : Nat)
  /-- ADAC_CODE_WRITE (R376): A write of ADAC_CODE stores a code, loading it at once for GROUP 8. -/
  | adacCodeWrite (n code : Nat)
  /-- ADACLD_EDGE (R376): A rising edge of ADACLD loads the GROUP 9 channels. -/
  | adacldEdge
  /-- ADACCLR_N_CHANGE (R379): ADACCLR_N falls or rises and the aux DACs clear or return. -/
  | adacclrNChange (v : Bool)
  /-- DEGLITCH_HOLD_END (R378): A major-transition hold ends and the output tracks the newest code. -/
  | deglitchHoldEnd (n : Nat)
  /-- INPUT_QUALIFIED_EDGE (R380): A fault or GPIO input level holds for DGW cycles and becomes the qualified level. -/
  | inputQualifiedEdge (n : Nat) (level : Bool)
  /-- CHATTER_WINDOW_END (R381): A chatter window expires. -/
  | chatterWindowEnd (n : Nat)
  /-- INPUT_STUCK (R381): An input active for STUCK_TO latches STUCK and is masked. -/
  | inputStuck (n : Nat)
  /-- REARM (R381): A write of IN_STAT.REARM clears CHATTER and STUCK and resets qualification. -/
  | rearm (n : Nat) (pin : Bool)
  /-- FAULT_CLEAR (R384): A write of IN_STAT.FAULT releases a latched PAFLT group line while the input is inactive. -/
  | faultClear (n : Nat)
  /-- CAL_EN_WRITE (R394): A write of CAL_CTRL.EN starts the factory record check. -/
  | calEnWrite (v : Bool)
  /-- CAL_RECORD_CHECK_DONE (R394): Thistle finishes verifying the factory record and sets REC_OK or UNCAL. -/
  | calRecordCheckDone
  /-- CAL_GO (R398): A write of CAL_GO starts the staged calibration job. -/
  | calGo
  /-- CAL_GO_ABORT (R398): A write of CAL_GO.ABORT ends the job with ABORTED. -/
  | calGoAbort
  /-- CAL_MEASUREMENT_POST (R402): A measurement is posted and turned into drifts and correction targets. -/
  | calMeasurementPost (l : List CalMeas) (mean : Int × Int)
  /-- CAL_JOB_TIMEOUT (R398): A job not finished by its wait limit ends with TIMEOUT. -/
  | calJobTimeout
  /-- FD_START (R428): A write of FD_CTRL.START starts a halted core at FD_ENTRY or FD_PC. -/
  | fdStart (n : Nat) (resume : Bool)
  /-- FD_HALT (R428): A write of FD_CTRL.HALT halts the core at a bundle boundary. -/
  | fdHalt (n : Nat)
  /-- FD_RESET (R428): A write of FD_CTRL.RESET clears the core's registers and enters HALTED. -/
  | fdReset (n : Nat)
  /-- FD_DB_WRITE (R426): A write of FD_DB sets doorbell bits and may release a WFE. -/
  | fdDbWrite (n m : Nat)
  /-- FD_OWNER_WRITE (R432): A write of FD_OWNER.MODE zeroes the DLM and changes the core's owner. -/
  | fdOwnerWrite (mid n : Nat) (customer : Bool) (mailbox : Nat)
  /-- BUNDLE (R421): A Flior core issues a 128-bit bundle whose four slots read before they write. -/
  | bundle (n fab : Nat) (ecc : List (Nat × EccFinding))
  /-- FAR_LOAD_COMPLETE (R424): An outstanding far load returns its data. -/
  | farLoadComplete (n : Nat) (ok : Bool) (ecc : List (Nat × EccFinding))
  /-- FD_WATCHDOG (R429): FD_CYCLE exceeds the watchdog limit and the core faults with WDOG. -/
  | fdWatchdog (n : Nat)
  /-- FABRIC_ACCESS (R489): A master's fabric access is checked against its windows and performed. -/
  | fabricAccess (mid addr n : Nat) (write : Option (List Byte)) (ecc : List (Nat × EccFinding))
  /-- ARBITER_DECISION (R486): An arbiter grants the next transfer by class and age. -/
  | arbiterDecision (t : Nat) (reqs : List Nat)
  /-- MAINTENANCE_CYCLE (R476): A memory bank's maintenance cycle serves a copy, write-back, patrol or fabric access. -/
  | maintenanceCycle (m bank : Nat) (fabric : Bool) (f : EccFinding)
  /-- PATROL_READ (R477): The patrol reads the next valid word of a bank and treats it under R474. -/
  | patrolRead (m bank : Nat) (f : EccFinding)
  /-- MEM_RETIRE_GO (R479): A write of MEM_RETIRE.GO starts retiring an SMEM bank onto a spare. -/
  | memRetireGo (bank : Nat)
  /-- RETIRE_COPY_DONE (R479): The retirement copy ends and the spare serves the bank's addresses. -/
  | retireCopyDone
  /-- DMA_GO (R492): A write of CH_CTRL.GO starts a channel at its descriptor. -/
  | dmaGo (c : Nat)
  /-- DMA_ABORT (R509): A write of CH_CTRL.ABORT ends the descriptor after the current burst. -/
  | dmaAbort (c : Nat)
  /-- DMA_RESUME (R494): A write of CH_CTRL.RESUME continues from the resume point. -/
  | dmaResume (c : Nat)
  /-- DMA_BURST (R495): A channel issues a burst of up to 16 beats. -/
  | dmaBurst (express : Option Nat) (rd wdraw err : Bool) (ecc : List (Nat × EccFinding))
  /-- DMA_REQUEST (R497): A pacing request is asserted or withdrawn for a paced channel. -/
  | dmaRequest (line : Nat) (v : Bool)
  /-- DRAIN_REQUEST (R501): The power controller requests a drain of a domain's channels. -/
  | drainRequest (isl : Island) (inBurst : Nat)
  /-- DRAIN_TIMEOUT (R502): A drain not complete within DRAIN_TO aborts the channels and raises DMA_DOMAIN_DOWN. -/
  | drainTimeout (isl : Island)
  /-- STILE_READ (R503): A read of STILE acquires, reports or starts recovery of a stile. -/
  | stileRead (mid n : Nat)
  /-- STILE_RELEASE (R504): The holder's RELEASE moves a stile from HELD to FREE. -/
  | stileRelease (mid n : Nat)
  /-- STILE_CLEAN (R504): The holder's CLEAN moves a stile from RECOVERING to HELD. -/
  | stileClean (mid n : Nat)
  /-- STILE_FORCE (R505): A Dehan write of STILE_FORCE breaks a held stile. -/
  | stileForce (mid n : Nat)
  /-- DVFS_STEP (R514): The power controller moves an island one operating point. -/
  | dvfsStep
  /-- VSET_TIMEOUT (R514): A rail does not settle within VSET_TO and the DVFS sequence stops with HW_FAULT. -/
  | vsetTimeout
  /-- DVFS_WRITE (R515): A write of DVFS requests a sequenced move or sets frequency or voltage directly. -/
  | dvfsWrite (x : Nat) (v : Word)
  /-- MI_SRC_WRITE (R35): A write of CLK_CTRL.MI_SRC switches MI to its PLL. -/
  | miSrcWrite (v : Bool)
  /-- FALLOW_QUIET_INSTANT (R516): At the quiet instant RF, converters and lanes power down and drains are requested. -/
  | fallowQuietInstant (inBurst : Nat)
  /-- FALLOW_GATE (R516): After the drains, time passes to the Lark, sentinels and rings are set and islands gate. -/
  | fallowGate
  /-- LARK_EVALUATION (R525): The Lark evaluates its 16 rules each millisecond and at each qualified edge. -/
  | larkEvaluation (tick : Bool) (sup : List Int) (edges : List Nat) (levels : Nat)
  /-- WAKE (R521): A wake rule fires and the Lark reads sentinels and powers the islands. -/
  | wake (rings : Nat) (err : Int)
  /-- PLL_LOCK (R521): The REFCLK PLLs lock and the time unit reloads from the Lark. -/
  | pllLock
  /-- HUSH_REACHED (R522): The device reaches HUSH or moves on to ACTIVE or TRIM. -/
  | hushReached
  /-- SENSOR_CONVERSION (R527): A temperature sensor converts and its comparator is checked. -/
  | sensorConversion (n : Nat) (raw : Int)
  /-- SHUTDOWN_GATE (R530): About 1 s after shutdown every island except LI is gated. -/
  | shutdownGate
  /-- THROTTLE_STEP (R529): A quadrant is throttled or released after the temperature holds for its dwell. -/
  | throttleStep
  /-- FAULT_REPORT (R537): A reporting unit files a record and the fault manager notifies by class. -/
  | faultReport (unit cls code addr info sub mid : Nat)
  /-- FAULT_UNIT_CLR (R538): A write of a unit's CLR empties its records and OVF. -/
  | faultUnitClr (unit : Nat)
  /-- FM_SAFE_FORCE (R542): A Dehan write of FM_SAFE_FORCE.GO enters the safe state with cause FORCED. -/
  | fmSafeForce (mid : Nat)
  /-- SUPPLY_FAULT (R541): A core rail outside ±5 % for 1 ms files a class F record. -/
  | supplyFault (mon : Nat)
  /-- DEBUG_UNLOCK (R553): A valid debug token over JTAG unlocks core debug and enters the safe state. -/
  | debugUnlock (token : List Byte)
  /-- FW_READY (R554): New firmware reports READY and dispatch resumes. -/
  | fwReady
  /-- FW_ACTIVATE_TIMEOUT (R555): New firmware misses the 2 s limit and the previous region restarts. -/
  | fwActivateTimeout
  /-- RESET_N_LOW (R569): RESET_N falls for at least 1 µs and the device resets, or wakes from FALLOW. -/
  | resetNLow (short : Bool)
  /-- RESET_RELEASE (R571): RESET_N rises, BOOTMODE is sampled and the boot ROM starts. -/
  | resetRelease (mode : Nat) (rails : Bool)
  /-- IMAGE_LOADED (R549): A boot image has loaded and is checked, booted or rejected. -/
  | imageLoaded (a b : List Byte)
  /-- BOOT_PLL_TIMEOUT (R573): The PLLs do not lock within 100 ms and the device enters BOOT_FAIL. -/
  | bootPllTimeout
  /-- BOOT_READY (R454): The boot firmware reports READY and the front end accepts commands. -/
  | bootReady (evals cols : Nat)
  /-- CONV_PLL_RELOCK (R125): A quadrant's converter PLL regains lock after CONV_UNLOCK, so that the crossing can be re-centred at the next frame boundary. -/
  | convPllRelock (q : Nat)
  /-- FAR_STORE_COMPLETE (R424): An outstanding posted far store of a Flior core completes at the fabric, releasing a waiting FENCE or a held doorbell store. -/
  | farStoreComplete (n : Nat) (ok : Bool)
  /-- SENTINEL_CLEAR (R518): In FALLOW a bank's retention supply falls below 0.46 V and its sentinel latch clears. -/
  | sentinelClear (m b : Nat)
  /-- LARK_POWER_ON_RESET (R530): VDD_LARK falls below its power-on threshold, clearing the thermal shutdown latch and THERMTRIP_N. -/
  | larkPowerOnReset
  /-- RESET_SELF_RELEASE (R570): A device held in reset by a rail out of tolerance releases itself 1 ms after the last rail comes within tolerance. -/
  | resetSelfRelease
  /-- ETHREF_RESTORE (R574): ETHREF appears or returns, ETHREF_OK sets and the host port can come up, and in host-port boot BOOT_REQUEST sending begins. -/
  | ethrefRestore
deriving DecidableEq, Repr

end Sys2Proof
end

