-- ==== Sys2Proof/Decode.lean ====
section
/-! DEFINITION. The words of the table of operations and events. The table gives no row any bits, so no word spells a command. -/

namespace Sys2Proof

/-- The command spelled by a word of the table's bits: none, since no row of the table has bits. -/
def decodeTableWord (_nbits _w : Nat) : Option Instr := none

end Sys2Proof
end

