-- ==== Sys2Proof/Machine/Opcodes.lean ====
section
/-! DEFINITION. The opcodes of the command protocol: who may issue each and its queue (R446, R455 to R467). -/

namespace Sys2Proof.Machine

/-! ### Opcodes (R446, R455) -/

/-- Who may issue an opcode (R455): NONE, ANY, OWN or PRIV. -/
inductive Who where
  | free | any | own | priv
deriving DecidableEq, Repr

/-- An opcode with its queue and its Sessions code. -/
structure OpRow where
  opcode : Nat
  queue : Nat
  who : Who
deriving DecidableEq, Repr

/-- Rows of one Sessions code and queue. -/
def opRowsOf (queue : Nat) (who : Who) (l : List Nat) : List OpRow := l.map fun o => { opcode := o, queue := queue, who := who }

/-- The opcodes of R458 to R467. SESSION_FINISH is for an OPENING slot; order 2 of R445 sees to that. -/
def opRows : List OpRow :=
  opRowsOf 0 .any [0x0F00, 0x0F01, 0x0F02] ++
  opRowsOf 2 .free [0x0100, 0x0101, 0x0A20, 0x0A21] ++
  opRowsOf 2 .any [0x0200, 0x0220, 0x0400, 0x0506, 0x0604, 0x0731, 0x0801, 0x0811, 0x0A02, 0x0A10, 0x0A22, 0x0B05, 0x0D05, 0x0E00] ++
  opRowsOf 1 .own [0x0203, 0x0205, 0x0301, 0x0404, 0x0405, 0x0D04] ++
  opRowsOf 2 .own [0x0201, 0x0202, 0x0204, 0x0210, 0x0401, 0x0402, 0x0407, 0x0D02, 0x0D03] ++
  opRowsOf 3 .own [0x0403] ++
  opRowsOf 1 .priv [0x0303, 0x0310, 0x0503, 0x0504, 0x0505, 0x0603, 0x0710, 0x0711, 0x0B04, 0x0C01] ++
  opRowsOf 2 .priv [0x0102, 0x0110, 0x0111, 0x0300, 0x0302, 0x0311, 0x0312, 0x0406, 0x0500, 0x0501, 0x0510, 0x0600, 0x0601, 0x0602,
    0x0610, 0x0701, 0x0702, 0x0720, 0x0730, 0x0732, 0x0733, 0x0734, 0x0800, 0x0810, 0x0812] ++
  opRowsOf 2 .priv [0x0900, 0x0901, 0x0904, 0x0910, 0x0A01, 0x0A30, 0x0A31, 0x0B00, 0x0B01, 0x0B03, 0x0B10, 0x0C00, 0x0C02, 0x0C10,
    0x0D00, 0x0E02] ++
  opRowsOf 3 .priv [0x0313, 0x0408, 0x0502, 0x0700, 0x0902, 0x0903, 0x0A00, 0x0B02, 0x0D01, 0x0E01]

/-- The row of an opcode, if it is defined. -/
def opRow (opcode : Nat) : Option OpRow := opRows.find? fun r => r.opcode == opcode

/-- The queue of an opcode. -/
def opQueue (opcode : Nat) : Nat := match opRow opcode with
  | some r => r.queue
  | none => 2

end Sys2Proof.Machine
end

