-- ==== Sys2Proof/Config.lean ====
section
/-! DEFINITION. What the spec leaves open: free values and the functions of the off-model cryptography, all opaque constants. -/

namespace Sys2Proof.Config

/-- A value the spec leaves open, as a natural number: the `n`-th one the machine took. Nothing constrains it. -/
opaque freeNat : Nat → Nat

/-- By how many units of 2^−24 cycle the steering engine's phase of an element lies off the exact one (R229), for a carrier code, an azimuth, an
elevation and a position: the spec states a bound of 0.01° and no exact bits. -/
opaque steerErr (code az el x y z : Nat) : Int

/-- Fractional bits that the steering engine keeps after its `k`-th product (R229): the spec rounds each product and states no width. -/
opaque steerBits (k : Nat) : Nat

/-- By how many LSB a transform's output lies off the exact one (R188, R189), for its input and the output's index: the spec bounds it by 2. -/
opaque dftErr (x : List (Int × Int)) (i : Nat) : Int × Int

/-- The rate-change filters of R123: interpolation of a carrier by 2^m, by 3, by 2; decimation by 4, of a carrier by 2^m. -/
inductive RateFilter where
  | carrierUp | up3 | up2 | down4 | carrierDown
deriving DecidableEq, Repr

/-- A sample of a rate-change filter's output before rounding, in 2^−16 of the output's LSB, from the input samples around it: `phase` is its place
between two input samples, `m` the exponent of a carrier filter. The spec states the filters' responses and not their taps. -/
opaque rateFilter (f : RateFilter) (m phase : Nat) (w : List (Int × Int)) : Int × Int

/-- Sample `i` of the decimation of a PRACH engine (R193) to `size` samples a repetition, from the occasion's samples, in their unit. -/
opaque prachFilter (size : Nat) (x : List (Int × Int)) (i : Nat) : Int × Int

/-- The first 8 bytes of HMAC-SHA-384 under a session key (R439): a function of the key and of the bytes it covers. -/
opaque hmacTag : Nat → List Byte → List Byte

/-- SHA-384 over a list of bytes, as a number (R439, R441, R549, R551). -/
opaque sha384 : List Byte → Nat

/-- What a signed object says (R433, R547 to R549, R553), however its bytes are laid out: its kind (0 IMAGE, 1 kernel, 2 KEYOP, 3 debug
token); the target SIREV; the SHA-384 of the two public keys it carries and of its manifest; version and SVN; the flag ADVANCE;
whether every segment has the hash its manifest states; for a kernel the cores, the entry bundle, the customer slot and the
segments (bank 0 X, 1 Y, 2 C; offset; bytes); for a KEYOP its operation (0 PROGRAM_CUST, 1 REVOKE_CUST, 2 REVOKE_VENDOR, 3
DEBUG_DISABLE) and slot; the UID and the nonce it is bound to. -/
structure Signed where
  kind : Nat
  sirev : Nat
  ed : Nat
  ml : Nat
  hash : Nat
  version : Nat
  svn : Nat
  advance : Bool
  segsOk : Bool
  cores : Nat
  entry : Nat
  slot : Nat
  segs : List (Nat × Nat × List Byte)
  op : Nat
  uid : Nat
  nonce : Nat
deriving DecidableEq, Repr, Inhabited

/-- The signed object that bytes spell. The spec names its contents and not its layout. -/
opaque signed : List Byte → Signed

/-- Whether the boot configuration that comes with an image names the device a worker (R45). The spec does not say where it lies. -/
opaque bootWorker : List Byte → Bool

/-- Whether both signatures of a signed object are valid under the two public keys it carries (R547). -/
opaque sigValid : List Byte → Bool

/-- Whether a SESSION_FINISH payload holds valid signatures, by the credential with the two key hashes, over the transcript's hash
(R441). -/
opaque credValid : Nat → Nat → Nat → List Byte → Bool

/-- The SHA-384 hashes of a slot's public keys as OTP holds them at delivery (R547): Ed25519, then ML-DSA-65. -/
opaque slotHash : Nat → Nat × Nat

/-- The nonce that Thistle gave over JTAG (R553). -/
opaque jtagNonce : Nat

/-- The 48-byte session key derived by HKDF-SHA-384 from the transcript of R441: `false` K_cmd, `true` K_rsp. -/
opaque sessionKey : Bool → List Byte → Nat

/-- The device's answer to the key exchange of R441 (its X25519 share and ML-KEM-768 ciphertext) for a request. -/
opaque keyShare : List Byte → List Byte

/-- The identity keys' signatures over a report (R551): Ed25519 (64 bytes), then ML-DSA-65 (3,309 bytes). -/
opaque identitySign : List Byte → List Byte

/-- The device's identity public keys (R551): Ed25519 (32 bytes), then ML-DSA-65 (1,952 bytes). -/
opaque identityKeys : List Byte

/-- The unique identifier of the device (R551), 64 bits. -/
opaque uid : Nat

/-- Which source a MOVS names by its other fields (R418): the remainder by 3 is 0 for Pa, 1 for Ma, 2 for SR. The spec states no encoding. -/
opaque movsSource : Nat → Nat

/-- The records of the firmware's event log (R467) from a given one on, at most so many, as they stand at the `n`-th open value the machine
took. The spec states neither what a record holds nor its layout. -/
opaque logRecords (n first most : Nat) : List Byte

/-- The spare rows that a bank of SMEM (0) or BMEM (1) uses, 64 and 65 being the spare banks of SMEM: from the row repair map fixed at manufacture
(R478). -/
opaque spareRows (m bank : Nat) : Nat

/-- The calibration pilot's sample (R399) for an attenuation below full scale: the spec says that it is a fixed pseudo-noise sequence of 4,096
complex samples, band-limited about the LO, and states no sample. -/
opaque pilot (att n : Nat) : Int × Int

end Sys2Proof.Config
end

