-- ==== Sys2Proof/Machine/RegNames.lean ====
section
/-! DEFINITION. Names for the registers (their device addresses) and for their fields, as the chapters' register tables spell them.
`R.X i` is the address of register X with index i; `R.X_F i` is its field F. -/

namespace Sys2Proof.Machine

/-- A register field: the register's device address, its lowest bit and its width (R10). -/
structure Field where
  addr : Nat
  lo : Nat
  width : Nat
deriving DecidableEq, Repr

/-! ### CHB -/

def R.CH_BLKID (ch : Nat) : Nat := 0x10000000 + ch * 0x10000
def R.CH_BLKID_TYPE (ch : Nat) : Field := ⟨(R.CH_BLKID ch), 16, 16⟩
def R.CH_BLKID_VERSION (ch : Nat) : Field := ⟨(R.CH_BLKID ch), 8, 8⟩
def R.CH_BLKID_INSTANCE (ch : Nat) : Field := ⟨(R.CH_BLKID ch), 0, 8⟩
def R.CH_CTRL (ch : Nat) : Nat := 0x10000004 + ch * 0x10000
def R.CH_CTRL_RX_PROT (ch : Nat) : Field := ⟨(R.CH_CTRL ch), 10, 1⟩
def R.CH_CTRL_PHCOMP (ch : Nat) : Field := ⟨(R.CH_CTRL ch), 8, 1⟩
def R.CH_CTRL_RX_MUTE (ch : Nat) : Field := ⟨(R.CH_CTRL ch), 5, 1⟩
def R.CH_CTRL_TX_MUTE (ch : Nat) : Field := ⟨(R.CH_CTRL ch), 4, 1⟩
def R.CH_CTRL_RX_EN (ch : Nat) : Field := ⟨(R.CH_CTRL ch), 1, 1⟩
def R.CH_CTRL_TX_EN (ch : Nat) : Field := ⟨(R.CH_CTRL ch), 0, 1⟩
def R.CH_STATUS (ch : Nat) : Nat := 0x10000008 + ch * 0x10000
def R.CH_STATUS_RX_CLIP (ch : Nat) : Field := ⟨(R.CH_STATUS ch), 19, 1⟩
def R.CH_STATUS_TX_CLIP (ch : Nat) : Field := ⟨(R.CH_STATUS ch), 18, 1⟩
def R.CH_STATUS_WR_REFUSED (ch : Nat) : Field := ⟨(R.CH_STATUS ch), 16, 1⟩
def R.CH_STATUS_STALE (ch : Nat) : Field := ⟨(R.CH_STATUS ch), 12, 1⟩
def R.CH_STATUS_CORR_SLEWING (ch : Nat) : Field := ⟨(R.CH_STATUS ch), 11, 1⟩
def R.CH_STATUS_UMUTE (ch : Nat) : Field := ⟨(R.CH_STATUS ch), 10, 1⟩
def R.CH_STATUS_RX_PROTECTED (ch : Nat) : Field := ⟨(R.CH_STATUS ch), 9, 1⟩
def R.CH_STATUS_TX_HELD (ch : Nat) : Field := ⟨(R.CH_STATUS ch), 8, 1⟩
def R.CH_STATUS_BAND (ch : Nat) : Field := ⟨(R.CH_STATUS ch), 4, 2⟩
def R.CH_STATUS_RX_LIVE (ch : Nat) : Field := ⟨(R.CH_STATUS ch), 3, 1⟩
def R.CH_STATUS_TX_LIVE (ch : Nat) : Field := ⟨(R.CH_STATUS ch), 2, 1⟩
def R.CH_STATUS_RX_RDY (ch : Nat) : Field := ⟨(R.CH_STATUS ch), 1, 1⟩
def R.CH_STATUS_TX_RDY (ch : Nat) : Field := ⟨(R.CH_STATUS ch), 0, 1⟩
def R.TX_ATT (ch : Nat) : Nat := 0x10000010 + ch * 0x10000
def R.TX_ATT_ATT (ch : Nat) : Field := ⟨(R.TX_ATT ch), 0, 7⟩
def R.RX_GAIN (ch : Nat) : Nat := 0x10000014 + ch * 0x10000
def R.RX_GAIN_GAIN (ch : Nat) : Field := ⟨(R.RX_GAIN ch), 0, 6⟩
def R.TX_IQ (ch : Nat) : Nat := 0x10000020 + ch * 0x10000
def R.TX_IQ_PHASE (ch : Nat) : Field := ⟨(R.TX_IQ ch), 16, 16⟩
def R.TX_IQ_GAIN (ch : Nat) : Field := ⟨(R.TX_IQ ch), 0, 16⟩
def R.TX_LOL (ch : Nat) : Nat := 0x10000024 + ch * 0x10000
def R.TX_LOL_LOL_Q (ch : Nat) : Field := ⟨(R.TX_LOL ch), 16, 12⟩
def R.TX_LOL_LOL_I (ch : Nat) : Field := ⟨(R.TX_LOL ch), 0, 12⟩
def R.RX_IQ (ch : Nat) : Nat := 0x10000028 + ch * 0x10000
def R.RX_IQ_PHASE (ch : Nat) : Field := ⟨(R.RX_IQ ch), 16, 16⟩
def R.RX_IQ_GAIN (ch : Nat) : Field := ⟨(R.RX_IQ ch), 0, 16⟩
def R.RX_DCO_CTRL (ch : Nat) : Nat := 0x10000040 + ch * 0x10000
def R.RX_DCO_CTRL_REFRESH_THR (ch : Nat) : Field := ⟨(R.RX_DCO_CTRL ch), 16, 8⟩
def R.RX_DCO_CTRL_TRIM_REFRESH (ch : Nat) : Field := ⟨(R.RX_DCO_CTRL ch), 9, 1⟩
def R.RX_DCO_CTRL_DCT_FREEZE (ch : Nat) : Field := ⟨(R.RX_DCO_CTRL ch), 8, 1⟩
def R.RX_DCO_CTRL_DCT_K (ch : Nat) : Field := ⟨(R.RX_DCO_CTRL ch), 0, 5⟩
def R.RX_DCO_EST (ch : Nat) : Nat := 0x10000044 + ch * 0x10000
def R.RX_DCO_EST_EST_Q (ch : Nat) : Field := ⟨(R.RX_DCO_EST ch), 16, 12⟩
def R.RX_DCO_EST_EST_I (ch : Nat) : Field := ⟨(R.RX_DCO_EST ch), 0, 12⟩
def R.RX_DCO_TRIM (ch : Nat) : Nat := 0x10000048 + ch * 0x10000
def R.RX_DCO_TRIM_TRIM_Q (ch : Nat) : Field := ⟨(R.RX_DCO_TRIM ch), 16, 10⟩
def R.RX_DCO_TRIM_TRIM_I (ch : Nat) : Field := ⟨(R.RX_DCO_TRIM ch), 0, 10⟩
def R.OVL_CTRL (ch : Nat) : Nat := 0x10000050 + ch * 0x10000
def R.OVL_CTRL_PROT_CLEAR (ch : Nat) : Field := ⟨(R.OVL_CTRL ch), 16, 4⟩
def R.OVL_CTRL_CLIP_THR (ch : Nat) : Field := ⟨(R.OVL_CTRL ch), 0, 12⟩
def R.RX_CLIPCNT (ch : Nat) : Nat := 0x10000054 + ch * 0x10000
def R.RX_CLIPCNT_COUNT (ch : Nat) : Field := ⟨(R.RX_CLIPCNT ch), 0, 32⟩
def R.TX_CLIPCNT (ch : Nat) : Nat := 0x10000058 + ch * 0x10000
def R.TX_CLIPCNT_COUNT (ch : Nat) : Field := ⟨(R.TX_CLIPCNT ch), 0, 32⟩
def R.CH_CNT_CLR (ch : Nat) : Nat := 0x1000005c + ch * 0x10000
def R.CH_CNT_CLR_OVL (ch : Nat) : Field := ⟨(R.CH_CNT_CLR ch), 2, 1⟩
def R.CH_CNT_CLR_TX (ch : Nat) : Field := ⟨(R.CH_CNT_CLR ch), 1, 1⟩
def R.CH_CNT_CLR_RX (ch : Nat) : Field := ⟨(R.CH_CNT_CLR ch), 0, 1⟩
def R.RX_OVL_SYM (ch : Nat) : Nat := 0x10000060 + ch * 0x10000
def R.RX_OVL_SYM_COUNT (ch : Nat) : Field := ⟨(R.RX_OVL_SYM ch), 0, 32⟩
def R.DCO_TABLE (ch g : Nat) : Nat := 0x10000100 + ch * 0x10000 + g * 0x4
def R.DCO_TABLE_TRIM_Q (ch g : Nat) : Field := ⟨(R.DCO_TABLE ch g), 16, 10⟩
def R.DCO_TABLE_TRIM_I (ch g : Nat) : Field := ⟨(R.DCO_TABLE ch g), 0, 10⟩

/-! ### LO -/

def R.LO_BLKID : Nat := 0x11000000
def R.LO_BLKID_TYPE : Field := ⟨R.LO_BLKID, 16, 16⟩
def R.LO_BLKID_VERSION : Field := ⟨R.LO_BLKID, 8, 8⟩
def R.LO_BLKID_INSTANCE : Field := ⟨R.LO_BLKID, 0, 8⟩
def R.LO_CTRL : Nat := 0x11000004
def R.LO_CTRL_ARR_ARM : Field := ⟨R.LO_CTRL, 8, 1⟩
def R.LO_CTRL_AUTO_SWAP : Field := ⟨R.LO_CTRL, 2, 1⟩
def R.LO_CTRL_STBY_MIRROR : Field := ⟨R.LO_CTRL, 1, 1⟩
def R.LO_CTRL_MODE : Field := ⟨R.LO_CTRL, 0, 1⟩
def R.LO_STATUS : Nat := 0x11000008
def R.LO_STATUS_ALIGNED : Field := ⟨R.LO_STATUS, 27, 1⟩
def R.LO_STATUS_WR_REFUSED : Field := ⟨R.LO_STATUS, 26, 1⟩
def R.LO_STATUS_DRIFT : Field := ⟨R.LO_STATUS, 25, 1⟩
def R.LO_STATUS_TUNE_WAIT : Field := ⟨R.LO_STATUS, 24, 1⟩
def R.LO_STATUS_TUNE_BUSY : Field := ⟨R.LO_STATUS, 23, 1⟩
def R.LO_STATUS_SYNB_STATE : Field := ⟨R.LO_STATUS, 20, 3⟩
def R.LO_STATUS_SYNA_STATE : Field := ⟨R.LO_STATUS, 16, 3⟩
def R.LO_STATUS_QLO_LOCK : Field := ⟨R.LO_STATUS, 4, 4⟩
def R.LO_STATUS_LO_READY : Field := ⟨R.LO_STATUS, 0, 4⟩
def R.SYN_N : Nat := 0x11000010
def R.SYN_N_SYNB_N : Field := ⟨R.SYN_N, 16, 5⟩
def R.SYN_N_SYNA_N : Field := ⟨R.SYN_N, 0, 5⟩
def R.SYNA_F : Nat := 0x11000014
def R.SYNA_F_F : Field := ⟨R.SYNA_F, 0, 32⟩
def R.SYNB_F : Nat := 0x11000018
def R.SYNB_F_F : Field := ⟨R.SYNB_F, 0, 32⟩
def R.QLO_CFG (q : Nat) : Nat := 0x11000020 + q * 0x4
def R.QLO_CFG_SRC (q : Nat) : Field := ⟨(R.QLO_CFG q), 28, 1⟩
def R.QLO_CFG_DIV (q : Nat) : Field := ⟨(R.QLO_CFG q), 24, 3⟩
def R.QLO_CFG_TRIM_SLEW (q : Nat) : Field := ⟨(R.QLO_CFG q), 16, 8⟩
def R.QLO_CFG_TRIM (q : Nat) : Field := ⟨(R.QLO_CFG q), 0, 12⟩
def R.QLO_PHASE (q : Nat) : Nat := 0x11000030 + q * 0x4
def R.QLO_PHASE_SLEWING (q : Nat) : Field := ⟨(R.QLO_PHASE q), 16, 1⟩
def R.QLO_PHASE_TRIM_NOW (q : Nat) : Field := ⟨(R.QLO_PHASE q), 0, 12⟩
def R.TUNE_F : Nat := 0x11000040
def R.TUNE_F_F : Field := ⟨R.TUNE_F, 0, 32⟩
def R.TUNE_CFG : Nat := 0x11000044
def R.TUNE_CFG_DIV : Field := ⟨R.TUNE_CFG, 16, 12⟩
def R.TUNE_CFG_WAIT_FRAMES : Field := ⟨R.TUNE_CFG, 12, 4⟩
def R.TUNE_CFG_QMASK : Field := ⟨R.TUNE_CFG, 8, 4⟩
def R.TUNE_CFG_AT_EN : Field := ⟨R.TUNE_CFG, 6, 1⟩
def R.TUNE_CFG_RECAL : Field := ⟨R.TUNE_CFG, 5, 1⟩
def R.TUNE_CFG_N : Field := ⟨R.TUNE_CFG, 0, 5⟩
def R.TUNE_AT : Nat := 0x11000048
def R.TUNE_AT_FRAME : Field := ⟨R.TUNE_AT, 0, 10⟩
def R.TUNE_CMD : Nat := 0x1100004c
def R.TUNE_CMD_RESULT : Field := ⟨R.TUNE_CMD, 16, 16⟩
def R.TUNE_CMD_GO : Field := ⟨R.TUNE_CMD, 0, 1⟩
def R.LO_CNT (q : Nat) : Nat := 0x11000050 + q * 0x4
def R.LO_CNT_RX_LO_INVALID (q : Nat) : Field := ⟨(R.LO_CNT q), 16, 16⟩
def R.LO_CNT_TX_LO_LATE (q : Nat) : Field := ⟨(R.LO_CNT q), 0, 16⟩
def R.SYN_CNT : Nat := 0x11000060
def R.SYN_CNT_ARR_IGNORED : Field := ⟨R.SYN_CNT, 24, 8⟩
def R.SYN_CNT_SYNB_UNLOCK : Field := ⟨R.SYN_CNT, 16, 8⟩
def R.SYN_CNT_SYNA_UNLOCK : Field := ⟨R.SYN_CNT, 8, 8⟩
def R.SYN_CNT_FAILOVER : Field := ⟨R.SYN_CNT, 0, 8⟩
def R.LO_CNT_CLR : Nat := 0x11000064
def R.LO_CNT_CLR_ALL : Field := ⟨R.LO_CNT_CLR, 0, 1⟩

/-! ### DFE -/

def R.DFE_BLKID : Nat := 0x11100000
def R.DFE_BLKID_TYPE : Field := ⟨R.DFE_BLKID, 16, 16⟩
def R.DFE_BLKID_VERSION : Field := ⟨R.DFE_BLKID, 8, 8⟩
def R.DFE_BLKID_INSTANCE : Field := ⟨R.DFE_BLKID, 0, 8⟩
def R.DFE_STATUS : Nat := 0x11100004
def R.DFE_STATUS_WR_REFUSED : Field := ⟨R.DFE_STATUS, 16, 1⟩
def R.DFE_STATUS_CONV_UNLOCK : Field := ⟨R.DFE_STATUS, 8, 4⟩
def R.DFE_STATUS_CONV_LOCK : Field := ⟨R.DFE_STATUS, 0, 4⟩
def R.DFE_SAT : Nat := 0x11100008
def R.DFE_SAT_RX_DG_SAT : Field := ⟨R.DFE_SAT, 16, 8⟩
def R.DFE_SAT_BAND_SAT : Field := ⟨R.DFE_SAT, 8, 4⟩
def R.DFE_SAT_CONV_SAT : Field := ⟨R.DFE_SAT, 4, 4⟩
def R.DFE_SAT_COMP_SAT : Field := ⟨R.DFE_SAT, 0, 4⟩
def R.CS_RF_LO (d cs : Nat) : Nat := 0x11100100 + d * 0x40 + cs * 0x8
def R.CS_RF_LO_CODE_LO (d cs : Nat) : Field := ⟨(R.CS_RF_LO d cs), 0, 32⟩
def R.CS_RF_HI (d cs : Nat) : Nat := 0x11100104 + d * 0x40 + cs * 0x8
def R.CS_RF_HI_CODE_HI (d cs : Nat) : Field := ⟨(R.CS_RF_HI d cs), 0, 10⟩
def R.CS_TX_GAIN (cs : Nat) : Nat := 0x11100180 + cs * 0x4
def R.CS_TX_GAIN_GAIN (cs : Nat) : Field := ⟨(R.CS_TX_GAIN cs), 0, 16⟩
def R.CS_RX_DG (cs : Nat) : Nat := 0x111001a0 + cs * 0x4
def R.CS_RX_DG_EXP (cs : Nat) : Field := ⟨(R.CS_RX_DG cs), 16, 3⟩
def R.CS_RX_DG_MANT (cs : Nat) : Field := ⟨(R.CS_RX_DG cs), 0, 16⟩
def R.NCO_NOW_LO (d q cs : Nat) : Nat := 0x11100200 + d * 0x100 + q * 0x40 + cs * 0x8
def R.NCO_NOW_LO_FTW_LO (d q cs : Nat) : Field := ⟨(R.NCO_NOW_LO d q cs), 0, 32⟩
def R.NCO_NOW_HI (d q cs : Nat) : Nat := 0x11100204 + d * 0x100 + q * 0x40 + cs * 0x8
def R.NCO_NOW_HI_FTW_HI (d q cs : Nat) : Field := ⟨(R.NCO_NOW_HI d q cs), 0, 32⟩
def R.CFR_CFG (q : Nat) : Nat := 0x11100400 + q * 0x4
def R.CFR_CFG_PULSE_LEN (q : Nat) : Field := ⟨(R.CFR_CFG q), 16, 8⟩
def R.CFR_CFG_BANK_NOW (q : Nat) : Field := ⟨(R.CFR_CFG q), 9, 1⟩
def R.CFR_CFG_BANK (q : Nat) : Field := ⟨(R.CFR_CFG q), 8, 1⟩
def R.CFR_CFG_PK_MAX (q : Nat) : Field := ⟨(R.CFR_CFG q), 4, 4⟩
def R.CFR_CFG_HC_EN (q : Nat) : Field := ⟨(R.CFR_CFG q), 3, 1⟩
def R.CFR_CFG_STAGES (q : Nat) : Field := ⟨(R.CFR_CFG q), 1, 2⟩
def R.CFR_CFG_EN (q : Nat) : Field := ⟨(R.CFR_CFG q), 0, 1⟩
def R.CFR_THR (q st : Nat) : Nat := 0x11100410 + q * 0x10 + st * 0x4
def R.CFR_THR_THR (q st : Nat) : Field := ⟨(R.CFR_THR q st), 0, 17⟩
def R.CFR_HC (q : Nat) : Nat := 0x11100450 + q * 0x4
def R.CFR_HC_HC_THR (q : Nat) : Field := ⟨(R.CFR_HC q), 0, 17⟩
def R.CFR_PEAKS (q : Nat) : Nat := 0x11100460 + q * 0x4
def R.CFR_PEAKS_COUNT (q : Nat) : Field := ⟨(R.CFR_PEAKS q), 0, 32⟩
def R.CFR_MISSED (q : Nat) : Nat := 0x11100470 + q * 0x4
def R.CFR_MISSED_COUNT (q : Nat) : Field := ⟨(R.CFR_MISSED q), 0, 32⟩
def R.CFR_HCLIP (q : Nat) : Nat := 0x11100480 + q * 0x4
def R.CFR_HCLIP_COUNT (q : Nat) : Field := ⟨(R.CFR_HCLIP q), 0, 32⟩
def R.CFR_CNT_CLR : Nat := 0x11100490
def R.CFR_CNT_CLR_ALL : Field := ⟨R.CFR_CNT_CLR, 0, 1⟩
def R.ORX_CFG (n : Nat) : Nat := 0x11100500 + n * 0x4
def R.ORX_CFG_BUSY (n : Nat) : Field := ⟨(R.ORX_CFG n), 31, 1⟩
def R.ORX_CFG_SEL_NOW (n : Nat) : Field := ⟨(R.ORX_CFG n), 28, 3⟩
def R.ORX_CFG_SETTLE (n : Nat) : Field := ⟨(R.ORX_CFG n), 16, 10⟩
def R.ORX_CFG_ATT (n : Nat) : Field := ⟨(R.ORX_CFG n), 0, 5⟩
def R.CAP_ADDR (k : Nat) : Nat := 0x11100600 + k * 0x20
def R.CAP_ADDR_ADDR (k : Nat) : Field := ⟨(R.CAP_ADDR k), 5, 27⟩
def R.CAP_LEN (k : Nat) : Nat := 0x11100604 + k * 0x20
def R.CAP_LEN_LEN (k : Nat) : Field := ⟨(R.CAP_LEN k), 0, 16⟩
def R.CAP_CFG (k : Nat) : Nat := 0x11100608 + k * 0x20
def R.CAP_CFG_WAIT_FRAMES (k : Nat) : Field := ⟨(R.CAP_CFG k), 20, 4⟩
def R.CAP_CFG_CS (k : Nat) : Field := ⟨(R.CAP_CFG k), 16, 3⟩
def R.CAP_CFG_CH (k : Nat) : Field := ⟨(R.CAP_CFG k), 8, 6⟩
def R.CAP_CFG_PAIR (k : Nat) : Field := ⟨(R.CAP_CFG k), 6, 1⟩
def R.CAP_CFG_TRIG (k : Nat) : Field := ⟨(R.CAP_CFG k), 4, 2⟩
def R.CAP_CFG_TAP (k : Nat) : Field := ⟨(R.CAP_CFG k), 0, 4⟩
def R.CAP_AT (k : Nat) : Nat := 0x1110060c + k * 0x20
def R.CAP_AT_CYCLE (k : Nat) : Field := ⟨(R.CAP_AT k), 0, 23⟩
def R.CAP_CTRL (k : Nat) : Nat := 0x11100610 + k * 0x20
def R.CAP_CTRL_FRAME (k : Nat) : Field := ⟨(R.CAP_CTRL k), 16, 10⟩
def R.CAP_CTRL_ABORT (k : Nat) : Field := ⟨(R.CAP_CTRL k), 1, 1⟩
def R.CAP_CTRL_GO (k : Nat) : Field := ⟨(R.CAP_CTRL k), 0, 1⟩
def R.CAP_STAT (k : Nat) : Nat := 0x11100614 + k * 0x20
def R.CAP_STAT_FRAME_TS (k : Nat) : Field := ⟨(R.CAP_STAT k), 16, 10⟩
def R.CAP_STAT_DONE (k : Nat) : Field := ⟨(R.CAP_STAT k), 4, 1⟩
def R.CAP_STAT_LO_EVT (k : Nat) : Field := ⟨(R.CAP_STAT k), 3, 1⟩
def R.CAP_STAT_STATE (k : Nat) : Field := ⟨(R.CAP_STAT k), 0, 3⟩
def R.CAP_COUNT (k : Nat) : Nat := 0x11100618 + k * 0x20
def R.CAP_COUNT_COUNT (k : Nat) : Field := ⟨(R.CAP_COUNT k), 0, 17⟩
def R.CAP_TS (k : Nat) : Nat := 0x1110061c + k * 0x20
def R.CAP_TS_CYCLE_TS (k : Nat) : Field := ⟨(R.CAP_TS k), 0, 23⟩
def R.PB_ADDR : Nat := 0x11100700
def R.PB_ADDR_ADDR : Field := ⟨R.PB_ADDR, 5, 27⟩
def R.PB_LEN : Nat := 0x11100704
def R.PB_LEN_LEN : Field := ⟨R.PB_LEN, 0, 16⟩
def R.PB_CFG : Nat := 0x11100708
def R.PB_CFG_CH : Field := ⟨R.PB_CFG, 8, 6⟩
def R.PB_CFG_QMASK : Field := ⟨R.PB_CFG, 4, 4⟩
def R.PB_CFG_MODE : Field := ⟨R.PB_CFG, 1, 1⟩
def R.PB_CFG_TAP : Field := ⟨R.PB_CFG, 0, 1⟩
def R.PB_CTRL : Nat := 0x1110070c
def R.PB_CTRL_POISON : Field := ⟨R.PB_CTRL, 16, 16⟩
def R.PB_CTRL_RUN : Field := ⟨R.PB_CTRL, 2, 1⟩
def R.PB_CTRL_STOP : Field := ⟨R.PB_CTRL, 1, 1⟩
def R.PB_CTRL_START : Field := ⟨R.PB_CTRL, 0, 1⟩
def R.CFR_PULSE (q b t : Nat) : Nat := 0x11102000 + q * 0x800 + b * 0x400 + t * 0x4
def R.CFR_PULSE_P_Q (q b t : Nat) : Field := ⟨(R.CFR_PULSE q b t), 16, 16⟩
def R.CFR_PULSE_P_I (q b t : Nat) : Field := ⟨(R.CFR_PULSE q b t), 0, 16⟩
def R.PD_CFG : Nat := 0x11104004
def R.PD_CFG_ROLLBACK_THR : Field := ⟨R.PD_CFG, 16, 12⟩
def R.PD_CFG_DIV_THR : Field := ⟨R.PD_CFG, 8, 8⟩
def R.PD_CFG_VERIFY_FRAMES : Field := ⟨R.PD_CFG, 4, 4⟩
def R.PD_CFG_TBAND_EN : Field := ⟨R.PD_CFG, 0, 1⟩
def R.PD_STATUS : Nat := 0x11104008
def R.PD_STATUS_ECC_UE : Field := ⟨R.PD_STATUS, 18, 1⟩
def R.PD_STATUS_ECC_CE : Field := ⟨R.PD_STATUS, 17, 1⟩
def R.PD_STATUS_WR_REFUSED : Field := ⟨R.PD_STATUS, 16, 1⟩
def R.PD_STATUS_ECC_CE_CNT : Field := ⟨R.PD_STATUS, 0, 16⟩
def R.PD_CNT_CLR : Nat := 0x1110400c
def R.PD_CNT_CLR_ALL : Field := ⟨R.PD_CNT_CLR, 0, 1⟩
def R.PD_TSEL (q : Nat) : Nat := 0x11104010 + q * 0x4
def R.PD_TSEL_BAND_NOW (q : Nat) : Field := ⟨(R.PD_TSEL q), 16, 3⟩
def R.PD_TSEL_SENSOR (q : Nat) : Field := ⟨(R.PD_TSEL q), 0, 5⟩
def R.PD_REPAIR (q : Nat) : Nat := 0x11104020 + q * 0x4
def R.PD_REPAIR_FAILED (q : Nat) : Field := ⟨(R.PD_REPAIR q), 16, 16⟩
def R.PD_REPAIR_SPARE_FAILED (q : Nat) : Field := ⟨(R.PD_REPAIR q), 9, 1⟩
def R.PD_REPAIR_SPARE_BUSY (q : Nat) : Field := ⟨(R.PD_REPAIR q), 8, 1⟩
def R.PD_REPAIR_SPARE_CH (q : Nat) : Field := ⟨(R.PD_REPAIR q), 0, 6⟩
def R.PD_CHCFG (ch : Nat) : Nat := 0x11105000 + ch * 0x80
def R.PD_CHCFG_INIT (ch : Nat) : Field := ⟨(R.PD_CHCFG ch), 8, 3⟩
def R.PD_CHCFG_NOSPARE_MUTE (ch : Nat) : Field := ⟨(R.PD_CHCFG ch), 1, 1⟩
def R.PD_CHCFG_EN (ch : Nat) : Field := ⟨(R.PD_CHCFG ch), 0, 1⟩
def R.PD_NBR (ch : Nat) : Nat := 0x11105004 + ch * 0x80
def R.PD_NBR_V3 (ch : Nat) : Field := ⟨(R.PD_NBR ch), 31, 1⟩
def R.PD_NBR_NBR3 (ch : Nat) : Field := ⟨(R.PD_NBR ch), 24, 6⟩
def R.PD_NBR_V2 (ch : Nat) : Field := ⟨(R.PD_NBR ch), 23, 1⟩
def R.PD_NBR_NBR2 (ch : Nat) : Field := ⟨(R.PD_NBR ch), 16, 6⟩
def R.PD_NBR_V1 (ch : Nat) : Field := ⟨(R.PD_NBR ch), 15, 1⟩
def R.PD_NBR_NBR1 (ch : Nat) : Field := ⟨(R.PD_NBR ch), 8, 6⟩
def R.PD_NBR_V0 (ch : Nat) : Field := ⟨(R.PD_NBR ch), 7, 1⟩
def R.PD_NBR_NBR0 (ch : Nat) : Field := ⟨(R.PD_NBR ch), 0, 6⟩
def R.PD_TBMAP (ch : Nat) : Nat := 0x11105008 + ch * 0x80
def R.PD_TBMAP_BANKS (ch : Nat) : Field := ⟨(R.PD_TBMAP ch), 0, 15⟩
def R.PD_BYP_G (ch : Nat) : Nat := 0x1110500c + ch * 0x80
def R.PD_BYP_G_GAIN (ch : Nat) : Field := ⟨(R.PD_BYP_G ch), 0, 16⟩
def R.PD_CMD (ch : Nat) : Nat := 0x11105010 + ch * 0x80
def R.PD_CMD_TGT (ch : Nat) : Field := ⟨(R.PD_CMD ch), 8, 3⟩
def R.PD_CMD_ROLLBACK (ch : Nat) : Field := ⟨(R.PD_CMD ch), 1, 1⟩
def R.PD_CMD_GO (ch : Nat) : Field := ⟨(R.PD_CMD ch), 0, 1⟩
def R.PD_STATE (ch : Nat) : Nat := 0x11105014 + ch * 0x80
def R.PD_STATE_REFUSE (ch : Nat) : Field := ⟨(R.PD_STATE ch), 28, 3⟩
def R.PD_STATE_REASON (ch : Nat) : Field := ⟨(R.PD_STATE ch), 24, 3⟩
def R.PD_STATE_RESIDUE (ch : Nat) : Field := ⟨(R.PD_STATE ch), 21, 1⟩
def R.PD_STATE_PEND_BAND (ch : Nat) : Field := ⟨(R.PD_STATE ch), 20, 1⟩
def R.PD_STATE_BAND (ch : Nat) : Field := ⟨(R.PD_STATE ch), 16, 3⟩
def R.PD_STATE_TGT_NOW (ch : Nat) : Field := ⟨(R.PD_STATE ch), 12, 3⟩
def R.PD_STATE_GOOD (ch : Nat) : Field := ⟨(R.PD_STATE ch), 8, 3⟩
def R.PD_STATE_CUR (ch : Nat) : Field := ⟨(R.PD_STATE ch), 4, 3⟩
def R.PD_STATE_STATE (ch : Nat) : Field := ⟨(R.PD_STATE ch), 0, 3⟩
def R.PD_ACL (ch : Nat) : Nat := 0x11105018 + ch * 0x80
def R.PD_ACL_POST (ch : Nat) : Field := ⟨(R.PD_ACL ch), 16, 16⟩
def R.PD_ACL_PRE (ch : Nat) : Field := ⟨(R.PD_ACL ch), 0, 16⟩
def R.PD_CNT (ch : Nat) : Nat := 0x1110501c + ch * 0x80
def R.PD_CNT_OUT_SAT (ch : Nat) : Field := ⟨(R.PD_CNT ch), 16, 16⟩
def R.PD_CNT_IN_CLAMP (ch : Nat) : Field := ⟨(R.PD_CNT ch), 0, 16⟩
def R.PD_TERMS (ch w : Nat) : Nat := 0x11105040 + ch * 0x80 + w * 0x4
def R.PD_TERMS_T (ch w : Nat) : Field := ⟨(R.PD_TERMS ch w), 0, 32⟩
def R.COEF_I (ch b i : Nat) : Nat := 0x11110000 + ch * 0x1400 + b * 0x280 + i * 0x8
def R.COEF_I_C_I (ch b i : Nat) : Field := ⟨(R.COEF_I ch b i), 0, 24⟩
def R.COEF_Q (ch b i : Nat) : Nat := 0x11110004 + ch * 0x1400 + b * 0x280 + i * 0x8
def R.COEF_Q_C_Q (ch b i : Nat) : Field := ⟨(R.COEF_Q ch b i), 0, 24⟩

/-! ### LP -/

def R.LP_BLKID : Nat := 0x11200000
def R.LP_BLKID_TYPE : Field := ⟨R.LP_BLKID, 16, 16⟩
def R.LP_BLKID_VERSION : Field := ⟨R.LP_BLKID, 8, 8⟩
def R.LP_BLKID_INSTANCE : Field := ⟨R.LP_BLKID, 0, 8⟩
def R.LP_STATUS : Nat := 0x11200004
def R.LP_STATUS_SFN : Field := ⟨R.LP_STATUS, 16, 10⟩
def R.LP_STATUS_WR_REFUSED : Field := ⟨R.LP_STATUS, 8, 1⟩
def R.LP_STATUS_REFUSE : Field := ⟨R.LP_STATUS, 0, 4⟩
def R.FRAME_CFG : Nat := 0x11200008
def R.FRAME_CFG_FRAME_OFF : Field := ⟨R.FRAME_CFG, 0, 23⟩
def R.TA_CFG : Nat := 0x1120000c
def R.TA_CFG_UL_TA_OFF : Field := ⟨R.TA_CFG, 0, 13⟩
def R.SLOT_CTRL : Nat := 0x11200010
def R.SLOT_CTRL_COPY : Field := ⟨R.SLOT_CTRL, 2, 1⟩
def R.SLOT_CTRL_CANCEL : Field := ⟨R.SLOT_CTRL, 1, 1⟩
def R.SLOT_CTRL_COMMIT : Field := ⟨R.SLOT_CTRL, 0, 1⟩
def R.SLOT_STATUS : Nat := 0x11200014
def R.SLOT_STATUS_FAIL_IDX : Field := ⟨R.SLOT_STATUS, 16, 11⟩
def R.SLOT_STATUS_CHECK_FAIL : Field := ⟨R.SLOT_STATUS, 7, 1⟩
def R.SLOT_STATUS_SHD_LOCK : Field := ⟨R.SLOT_STATUS, 6, 1⟩
def R.SLOT_STATUS_ACT_WR : Field := ⟨R.SLOT_STATUS, 5, 1⟩
def R.SLOT_STATUS_CHECK_BUSY : Field := ⟨R.SLOT_STATUS, 3, 1⟩
def R.SLOT_STATUS_COPY_BUSY : Field := ⟨R.SLOT_STATUS, 2, 1⟩
def R.SLOT_STATUS_COMMIT_PEND : Field := ⟨R.SLOT_STATUS, 1, 1⟩
def R.SLOT_STATUS_BANK_ACT : Field := ⟨R.SLOT_STATUS, 0, 1⟩
def R.SLOT_MU (b : Nat) : Nat := 0x11200018 + b * 0x4
def R.SLOT_MU_TBL_MU (b : Nat) : Field := ⟨(R.SLOT_MU b), 0, 2⟩
def R.LP_SAT : Nat := 0x11200020
def R.LP_SAT_FFT_SAT : Field := ⟨R.LP_SAT, 8, 8⟩
def R.LP_SAT_IFFT_SAT : Field := ⟨R.LP_SAT, 0, 8⟩
def R.DIR_MISMATCH : Nat := 0x11200024
def R.DIR_MISMATCH_COUNT : Field := ⟨R.DIR_MISMATCH, 0, 32⟩
def R.LP_CNT_CLR : Nat := 0x11200028
def R.LP_CNT_CLR_ALL : Field := ⟨R.LP_CNT_CLR, 0, 1⟩
def R.CS_CFG (d cs : Nat) : Nat := 0x11200100 + d * 0x40 + cs * 0x8
def R.CS_CFG_EN_NOW (d cs : Nat) : Field := ⟨(R.CS_CFG d cs), 31, 1⟩
def R.CS_CFG_EN (d cs : Nat) : Field := ⟨(R.CS_CFG d cs), 30, 1⟩
def R.CS_CFG_OWNER (d cs : Nat) : Field := ⟨(R.CS_CFG d cs), 24, 5⟩
def R.CS_CFG_QMASK (d cs : Nat) : Field := ⟨(R.CS_CFG d cs), 20, 4⟩
def R.CS_CFG_MU (d cs : Nat) : Field := ⟨(R.CS_CFG d cs), 16, 3⟩
def R.CS_CFG_LOG2N (d cs : Nat) : Field := ⟨(R.CS_CFG d cs), 12, 4⟩
def R.CS_CFG_N_RB (d cs : Nat) : Field := ⟨(R.CS_CFG d cs), 0, 9⟩
def R.CS_FFT (d cs : Nat) : Nat := 0x11200104 + d * 0x40 + cs * 0x8
def R.CS_FFT_NL (d cs : Nat) : Field := ⟨(R.CS_FFT d cs), 20, 6⟩
def R.CS_FFT_PHC (d cs : Nat) : Field := ⟨(R.CS_FFT d cs), 18, 2⟩
def R.CS_FFT_SHIFT (d cs : Nat) : Field := ⟨(R.CS_FFT d cs), 12, 4⟩
def R.CS_FFT_WIN_ADV (d cs : Nat) : Field := ⟨(R.CS_FFT d cs), 0, 10⟩
def R.CS_F0_LO (d cs : Nat) : Nat := 0x11200180 + d * 0x40 + cs * 0x8
def R.CS_F0_LO_CODE_LO (d cs : Nat) : Field := ⟨(R.CS_F0_LO d cs), 0, 32⟩
def R.CS_F0_HI (d cs : Nat) : Nat := 0x11200184 + d * 0x40 + cs * 0x8
def R.CS_F0_HI_CODE_HI (d cs : Nat) : Field := ⟨(R.CS_F0_HI d cs), 0, 10⟩
def R.CS_BUF (cs : Nat) : Nat := 0x11200200 + cs * 0x4
def R.CS_BUF_DEPTH (cs : Nat) : Field := ⟨(R.CS_BUF cs), 24, 8⟩
def R.CS_BUF_BASE (cs : Nat) : Field := ⟨(R.CS_BUF cs), 0, 14⟩
def R.PR_CTRL (o : Nat) : Nat := 0x11200280 + o * 0x20
def R.PR_CTRL_EN (o : Nat) : Field := ⟨(R.PR_CTRL o), 31, 1⟩
def R.PR_CTRL_CS (o : Nat) : Field := ⟨(R.PR_CTRL o), 28, 3⟩
def R.PR_CTRL_CLASS (o : Nat) : Field := ⟨(R.PR_CTRL o), 26, 2⟩
def R.PR_CTRL_N_REP (o : Nat) : Field := ⟨(R.PR_CTRL o), 22, 4⟩
def R.PR_CTRL_COMBINE (o : Nat) : Field := ⟨(R.PR_CTRL o), 21, 1⟩
def R.PR_CTRL_PERIOD (o : Nat) : Field := ⟨(R.PR_CTRL o), 18, 3⟩
def R.PR_CTRL_PHASE (o : Nat) : Field := ⟨(R.PR_CTRL o), 14, 4⟩
def R.PR_START (o : Nat) : Nat := 0x11200284 + o * 0x20
def R.PR_START_START (o : Nat) : Field := ⟨(R.PR_START o), 0, 23⟩
def R.PR_CP (o : Nat) : Nat := 0x11200288 + o * 0x20
def R.PR_CP_CP (o : Nat) : Field := ⟨(R.PR_CP o), 0, 18⟩
def R.PR_FOFF (o : Nat) : Nat := 0x1120028c + o * 0x20
def R.PR_FOFF_FOFF (o : Nat) : Field := ⟨(R.PR_FOFF o), 0, 20⟩
def R.PR_STAT (o : Nat) : Nat := 0x11200290 + o * 0x20
def R.PR_STAT_DONE_CNT (o : Nat) : Field := ⟨(R.PR_STAT o), 16, 16⟩
def R.PR_STAT_SAT_CNT (o : Nat) : Field := ⟨(R.PR_STAT o), 0, 16⟩
def R.SMEM_PART (r : Nat) : Nat := 0x11200300 + r * 0x4
def R.SMEM_PART_BASE (r : Nat) : Field := ⟨(R.SMEM_PART r), 16, 9⟩
def R.SMEM_PART_SIZE (r : Nat) : Field := ⟨(R.SMEM_PART r), 0, 9⟩
def R.SLOT_TBL (b e : Nat) : Nat := 0x11210000 + b * 0x2000 + e * 0x4
def R.SLOT_TBL_PROFILE (b e : Nat) : Field := ⟨(R.SLOT_TBL b e), 8, 4⟩
def R.SLOT_TBL_CAL (b e : Nat) : Field := ⟨(R.SLOT_TBL b e), 6, 1⟩
def R.SLOT_TBL_QMASK (b e : Nat) : Field := ⟨(R.SLOT_TBL b e), 2, 4⟩
def R.SLOT_TBL_DIR (b e : Nat) : Field := ⟨(R.SLOT_TBL b e), 0, 2⟩

/-! ### BF -/

def R.BF_BLKID : Nat := 0x11300000
def R.BF_BLKID_TYPE : Field := ⟨R.BF_BLKID, 16, 16⟩
def R.BF_BLKID_VERSION : Field := ⟨R.BF_BLKID, 8, 8⟩
def R.BF_BLKID_INSTANCE : Field := ⟨R.BF_BLKID, 0, 8⟩
def R.BF_STATUS : Nat := 0x11300004
def R.BF_STATUS_WR_REFUSED : Field := ⟨R.BF_STATUS, 16, 1⟩
def R.BF_STATUS_REFUSE : Field := ⟨R.BF_STATUS, 0, 3⟩
def R.BF_SHIFT : Nat := 0x11300008
def R.BF_SHIFT_UL_SHIFT : Field := ⟨R.BF_SHIFT, 16, 3⟩
def R.BF_SHIFT_DL_SHIFT : Field := ⟨R.BF_SHIFT, 0, 3⟩
def R.BT_OWN (w : Nat) : Nat := 0x11300010 + w * 0x4
def R.BT_OWN_OWNER3 (w : Nat) : Field := ⟨(R.BT_OWN w), 24, 5⟩
def R.BT_OWN_OWNER2 (w : Nat) : Field := ⟨(R.BT_OWN w), 16, 5⟩
def R.BT_OWN_OWNER1 (w : Nat) : Field := ⟨(R.BT_OWN w), 8, 5⟩
def R.BT_OWN_OWNER0 (w : Nat) : Field := ⟨(R.BT_OWN w), 0, 5⟩
def R.BF_LMAP (d cs : Nat) : Nat := 0x11300040 + d * 0x20 + cs * 0x4
def R.BF_LMAP_DEFAULT (d cs : Nat) : Field := ⟨(R.BF_LMAP d cs), 16, 16⟩
def R.BF_LMAP_GRAN (d cs : Nat) : Field := ⟨(R.BF_LMAP d cs), 8, 3⟩
def R.BF_LMAP_LBASE (d cs : Nat) : Field := ⟨(R.BF_LMAP d cs), 0, 5⟩
def R.WS_CFG (ws : Nat) : Nat := 0x11300100 + ws * 0x4
def R.WS_CFG_INUSE (ws : Nat) : Field := ⟨(R.WS_CFG ws), 31, 1⟩
def R.WS_CFG_VALID (ws : Nat) : Field := ⟨(R.WS_CFG ws), 30, 1⟩
def R.WS_CFG_NL (ws : Nat) : Field := ⟨(R.WS_CFG ws), 16, 6⟩
def R.WS_CFG_SPAN (ws : Nat) : Field := ⟨(R.WS_CFG ws), 12, 2⟩
def R.WS_CFG_GRAN (ws : Nat) : Field := ⟨(R.WS_CFG ws), 8, 3⟩
def R.WS_CFG_DIR (ws : Nat) : Field := ⟨(R.WS_CFG ws), 4, 1⟩
def R.WS_CFG_CS (ws : Nat) : Field := ⟨(R.WS_CFG ws), 0, 3⟩
def R.BF_REPAIR (q : Nat) : Nat := 0x11300180 + q * 0x4
def R.BF_REPAIR_FAILED (q : Nat) : Field := ⟨(R.BF_REPAIR q), 16, 16⟩
def R.BF_REPAIR_SPARE_FAILED (q : Nat) : Field := ⟨(R.BF_REPAIR q), 9, 1⟩
def R.BF_REPAIR_SPARE_BUSY (q : Nat) : Field := ⟨(R.BF_REPAIR q), 8, 1⟩
def R.BF_REPAIR_SPARE_CH (q : Nat) : Field := ⟨(R.BF_REPAIR q), 0, 6⟩
def R.DL_SAT : Nat := 0x113001a0
def R.DL_SAT_COUNT : Field := ⟨R.DL_SAT, 0, 32⟩
def R.UL_LSAT : Nat := 0x113001a4
def R.UL_LSAT_COUNT : Field := ⟨R.UL_LSAT, 0, 32⟩
def R.POISON_RE : Nat := 0x113001a8
def R.POISON_RE_COUNT : Field := ⟨R.POISON_RE, 0, 32⟩
def R.WPOISON : Nat := 0x113001ac
def R.WPOISON_COUNT : Field := ⟨R.WPOISON, 0, 32⟩
def R.BAD_REF : Nat := 0x113001b0
def R.BAD_REF_COUNT : Field := ⟨R.BAD_REF, 0, 32⟩
def R.SET_WR_REFUSED : Nat := 0x113001b4
def R.SET_WR_REFUSED_COUNT : Field := ⟨R.SET_WR_REFUSED, 0, 32⟩
def R.RESIDUE : Nat := 0x113001b8
def R.RESIDUE_COUNT : Field := ⟨R.RESIDUE, 0, 32⟩
def R.BF_CNT_CLR : Nat := 0x113001c0
def R.BF_CNT_CLR_ALL : Field := ⟨R.BF_CNT_CLR, 0, 1⟩
def R.STEER_CTRL : Nat := 0x11300200
def R.STEER_CTRL_EN : Field := ⟨R.STEER_CTRL, 0, 1⟩
def R.STEER_STATUS : Nat := 0x11300204
def R.STEER_STATUS_FIFO : Field := ⟨R.STEER_STATUS, 16, 7⟩
def R.STEER_STATUS_LQ : Field := ⟨R.STEER_STATUS, 8, 6⟩
def R.STEER_STATUS_BUSY : Field := ⟨R.STEER_STATUS, 0, 1⟩
def R.STEER_CNT0 : Nat := 0x11300208
def R.STEER_CNT0_LATE : Field := ⟨R.STEER_CNT0, 16, 16⟩
def R.STEER_CNT0_SUPERSEDED : Field := ⟨R.STEER_CNT0, 0, 16⟩
def R.STEER_CNT1 : Nat := 0x1130020c
def R.STEER_CNT1_DROP : Field := ⟨R.STEER_CNT1, 16, 16⟩
def R.STEER_CNT1_SAT : Field := ⟨R.STEER_CNT1, 0, 16⟩
def R.STEER_DONE : Nat := 0x11300210
def R.STEER_DONE_COUNT : Field := ⟨R.STEER_DONE, 0, 32⟩
def R.STEER_REQ (i : Nat) : Nat := 0x11300220 + i * 0x4
def R.STEER_REQ_WORD (i : Nat) : Field := ⟨(R.STEER_REQ i), 0, 32⟩
def R.STEER_GO : Nat := 0x1130022c
def R.STEER_GO_GO : Field := ⟨R.STEER_GO, 0, 1⟩
def R.PRB_CFG (o : Nat) : Nat := 0x11300300 + o * 0x20
def R.PRB_CFG_NB (o : Nat) : Field := ⟨(R.PRB_CFG o), 0, 4⟩
def R.PRB_ID (o j : Nat) : Nat := 0x11300304 + o * 0x20 + j * 0x4
def R.PRB_ID_ID_HI (o j : Nat) : Field := ⟨(R.PRB_ID o j), 16, 12⟩
def R.PRB_ID_ID_LO (o j : Nat) : Field := ⟨(R.PRB_ID o j), 0, 12⟩
def R.BL_STAGE (i : Nat) : Nat := 0x11300400 + i * 0x4
def R.BL_STAGE_DATA (i : Nat) : Field := ⟨(R.BL_STAGE i), 0, 32⟩
def R.BL_TGT : Nat := 0x113004c0
def R.BL_TGT_KIND : Field := ⟨R.BL_TGT, 30, 2⟩
def R.BL_TGT_SET : Field := ⟨R.BL_TGT, 16, 4⟩
def R.BL_TGT_INDEX : Field := ⟨R.BL_TGT, 0, 14⟩
def R.BL_APPLY : Nat := 0x113004c4
def R.BL_APPLY_FRAME : Field := ⟨R.BL_APPLY, 22, 10⟩
def R.BL_APPLY_AT_EN : Field := ⟨R.BL_APPLY, 21, 1⟩
def R.BL_APPLY_CS : Field := ⟨R.BL_APPLY, 16, 3⟩
def R.BL_APPLY_DIR : Field := ⟨R.BL_APPLY, 15, 1⟩
def R.BL_APPLY_SYM : Field := ⟨R.BL_APPLY, 0, 12⟩
def R.BL_GO : Nat := 0x113004c8
def R.BL_GO_RESULT : Field := ⟨R.BL_GO, 16, 16⟩
def R.BL_GO_GO : Field := ⟨R.BL_GO, 0, 1⟩
def R.GEOM_ADDR : Nat := 0x113004d0
def R.GEOM_ADDR_WORD : Field := ⟨R.GEOM_ADDR, 2, 13⟩
def R.GEOM_DATA : Nat := 0x113004d4
def R.GEOM_DATA_DATA : Field := ⟨R.GEOM_DATA, 0, 32⟩
def R.BEAM_PAGE (w : Nat) : Nat := 0x11301000 + w * 0x4
def R.BEAM_PAGE_PAGE (w : Nat) : Field := ⟨(R.BEAM_PAGE w), 0, 32⟩

/-! ### HP -/

def R.HP_BLKID : Nat := 0x11400000
def R.HP_BLKID_TYPE : Field := ⟨R.HP_BLKID, 16, 16⟩
def R.HP_BLKID_VERSION : Field := ⟨R.HP_BLKID, 8, 8⟩
def R.HP_BLKID_INSTANCE : Field := ⟨R.HP_BLKID, 0, 8⟩
def R.HP_CTRL : Nat := 0x11400004
def R.HP_CTRL_PMAP : Field := ⟨R.HP_CTRL, 16, 8⟩
def R.HP_CTRL_TC_EN : Field := ⟨R.HP_CTRL, 11, 1⟩
def R.HP_CTRL_XPORT : Field := ⟨R.HP_CTRL, 10, 1⟩
def R.HP_CTRL_VLAN_EN : Field := ⟨R.HP_CTRL, 9, 1⟩
def R.HP_CTRL_HP1_EN : Field := ⟨R.HP_CTRL, 8, 1⟩
def R.HP_CTRL_CFG : Field := ⟨R.HP_CTRL, 4, 3⟩
def R.HP_CTRL_EN : Field := ⟨R.HP_CTRL, 0, 1⟩
def R.HP_STATUS : Nat := 0x11400008
def R.HP_STATUS_ETHREF_OK : Field := ⟨R.HP_STATUS, 17, 1⟩
def R.HP_STATUS_WR_REFUSED : Field := ⟨R.HP_STATUS, 16, 1⟩
def R.HP_STATUS_FEC_LOCK : Field := ⟨R.HP_STATUS, 8, 8⟩
def R.HP_STATUS_LINK : Field := ⟨R.HP_STATUS, 0, 8⟩
def R.HP_MAC_LO : Nat := 0x11400010
def R.HP_MAC_LO_MAC_LO : Field := ⟨R.HP_MAC_LO, 0, 32⟩
def R.HP_MAC_HI : Nat := 0x11400014
def R.HP_MAC_HI_MAC_HI : Field := ⟨R.HP_MAC_HI, 0, 16⟩
def R.HP_VLAN : Nat := 0x11400018
def R.HP_VLAN_PCP : Field := ⟨R.HP_VLAN, 12, 3⟩
def R.HP_VLAN_VID : Field := ⟨R.HP_VLAN, 0, 12⟩
def R.HP_IP6 (i : Nat) : Nat := 0x11400020 + i * 0x4
def R.HP_IP6_ADDR (i : Nat) : Field := ⟨(R.HP_IP6 i), 0, 32⟩
def R.HP_UDP : Nat := 0x11400030
def R.HP_UDP_PORT : Field := ⟨R.HP_UDP, 0, 16⟩
def R.HP_FWD_CNT : Nat := 0x11400040
def R.HP_FWD_CNT_FWD_OVF : Field := ⟨R.HP_FWD_CNT, 16, 16⟩
def R.HP_FWD_CNT_NOT_LOCAL : Field := ⟨R.HP_FWD_CNT, 0, 16⟩
def R.HP_TC_CNT : Nat := 0x11400044
def R.HP_TC_CNT_TC_UNSUP : Field := ⟨R.HP_TC_CNT, 16, 16⟩
def R.HP_TC_CNT_TC_DONE : Field := ⟨R.HP_TC_CNT, 0, 16⟩
def R.HP_CNT_CLR : Nat := 0x11400048
def R.HP_CNT_CLR_ALL : Field := ⟨R.HP_CNT_CLR, 0, 1⟩
def R.RX_FRAMES (e : Nat) : Nat := 0x11400100 + e * 0x20
def R.RX_FRAMES_RX_FRAMES (e : Nat) : Field := ⟨(R.RX_FRAMES e), 0, 32⟩
def R.RX_DROP (e : Nat) : Nat := 0x11400104 + e * 0x20
def R.RX_DROP_RX_DROP (e : Nat) : Field := ⟨(R.RX_DROP e), 0, 32⟩
def R.FEC_CORR (e : Nat) : Nat := 0x11400108 + e * 0x20
def R.FEC_CORR_FEC_CORR (e : Nat) : Field := ⟨(R.FEC_CORR e), 0, 32⟩
def R.FEC_UNCORR (e : Nat) : Nat := 0x1140010c + e * 0x20
def R.FEC_UNCORR_FEC_UNCORR (e : Nat) : Field := ⟨(R.FEC_UNCORR e), 0, 32⟩
def R.TX_FRAMES (e : Nat) : Nat := 0x11400110 + e * 0x20
def R.TX_FRAMES_TX_FRAMES (e : Nat) : Field := ⟨(R.TX_FRAMES e), 0, 32⟩
def R.LQ_CNT (e : Nat) : Nat := 0x11400114 + e * 0x20
def R.LQ_CNT_LATE (e : Nat) : Field := ⟨(R.LQ_CNT e), 20, 12⟩
def R.LQ_CNT_DROP (e : Nat) : Field := ⟨(R.LQ_CNT e), 8, 12⟩
def R.LQ_CNT_SHIFTED (e : Nat) : Field := ⟨(R.LQ_CNT e), 0, 8⟩
def R.TS_ADJ (e : Nat) : Nat := 0x11400118 + e * 0x20
def R.TS_ADJ_TX (e : Nat) : Field := ⟨(R.TS_ADJ e), 16, 16⟩
def R.TS_ADJ_RX (e : Nat) : Field := ⟨(R.TS_ADJ e), 0, 16⟩
def R.LQ_DESC0 : Nat := 0x11400200
def R.LQ_DESC0_ADDR : Field := ⟨R.LQ_DESC0, 0, 32⟩
def R.LQ_DESC1 : Nat := 0x11400204
def R.LQ_DESC1_LEN : Field := ⟨R.LQ_DESC1, 18, 14⟩
def R.LQ_DESC1_QUEUE : Field := ⟨R.LQ_DESC1, 16, 2⟩
def R.LQ_DESC1_PORT : Field := ⟨R.LQ_DESC1, 13, 3⟩
def R.LQ_DESC1_LATE : Field := ⟨R.LQ_DESC1, 12, 1⟩
def R.LQ_DESC1_ONE_STEP : Field := ⟨R.LQ_DESC1, 11, 1⟩
def R.LQ_DESC1_OFS : Field := ⟨R.LQ_DESC1, 0, 11⟩
def R.LQ_DESC2 : Nat := 0x11400208
def R.LQ_DESC2_NS : Field := ⟨R.LQ_DESC2, 0, 32⟩
def R.LQ_DESC3 : Nat := 0x1140020c
def R.LQ_DESC3_SEC : Field := ⟨R.LQ_DESC3, 0, 16⟩
def R.LQ_POST : Nat := 0x11400210
def R.LQ_POST_GO : Field := ⟨R.LQ_POST, 0, 1⟩
def R.LQ_STATUS : Nat := 0x11400214
def R.LQ_STATUS_RESULT : Field := ⟨R.LQ_STATUS, 16, 16⟩
def R.LQ_STATUS_FREE : Field := ⟨R.LQ_STATUS, 0, 7⟩
def R.SP_CFG : Nat := 0x11400300
def R.SP_CFG_C_OPEN : Field := ⟨R.SP_CFG, 16, 13⟩
def R.SP_CFG_SRC_CHECK : Field := ⟨R.SP_CFG, 1, 1⟩
def R.SP_STATUS : Nat := 0x11400304
def R.SP_STATUS_OPEN : Field := ⟨R.SP_STATUS, 16, 16⟩
def R.SP_STATUS_FROZEN : Field := ⟨R.SP_STATUS, 0, 16⟩
def R.SP_STORE : Nat := 0x11400308
def R.SP_STORE_FREE : Field := ⟨R.SP_STORE, 0, 14⟩
def R.SP_CNT0 : Nat := 0x11400310
def R.SP_CNT0_BAD_HDR : Field := ⟨R.SP_CNT0, 16, 16⟩
def R.SP_CNT0_BAD_LEN : Field := ⟨R.SP_CNT0, 0, 16⟩
def R.SP_CNT1 : Nat := 0x11400314
def R.SP_CNT1_NOT_OWNER : Field := ⟨R.SP_CNT1, 16, 16⟩
def R.SP_CNT1_FROZEN_DROP : Field := ⟨R.SP_CNT1, 0, 16⟩
def R.SP_CNT2 : Nat := 0x11400318
def R.SP_CNT2_STORE_FULL : Field := ⟨R.SP_CNT2, 16, 16⟩
def R.SP_CNT2_BAD_REC : Field := ⟨R.SP_CNT2, 0, 16⟩
def R.SP_CNT3 : Nat := 0x1140031c
def R.SP_CNT3_EXT_UNK : Field := ⟨R.SP_CNT3, 16, 16⟩
def R.SP_CNT3_SEQ_GAP : Field := ⟨R.SP_CNT3, 0, 16⟩
def R.SP_CNT4 : Nat := 0x11400320
def R.SP_CNT4_COMP_OVF : Field := ⟨R.SP_CNT4, 16, 16⟩
def R.SP_CNT4_DECOMP_SAT : Field := ⟨R.SP_CNT4, 0, 16⟩
def R.SP_CNT_CLR : Nat := 0x11400324
def R.SP_CNT_CLR_ALL : Field := ⟨R.SP_CNT_CLR, 0, 1⟩
def R.SP_WIN0 (d cs : Nat) : Nat := 0x11400340 + d * 0x40 + cs * 0x8
def R.SP_WIN0_EARLY (d cs : Nat) : Field := ⟨(R.SP_WIN0 d cs), 16, 16⟩
def R.SP_WIN0_LATE (d cs : Nat) : Field := ⟨(R.SP_WIN0 d cs), 0, 16⟩
def R.SP_WIN1 (d cs : Nat) : Nat := 0x11400344 + d * 0x40 + cs * 0x8
def R.SP_WIN1_HI (d cs : Nat) : Field := ⟨(R.SP_WIN1 d cs), 16, 16⟩
def R.SP_WIN1_MISS_PRB (d cs : Nat) : Field := ⟨(R.SP_WIN1 d cs), 0, 16⟩
def R.CS_UL_FMT (cs : Nat) : Nat := 0x114003c0 + cs * 0x8
def R.CS_UL_FMT_P_MSG (cs : Nat) : Field := ⟨(R.CS_UL_FMT cs), 23, 9⟩
def R.CS_UL_FMT_PORT (cs : Nat) : Field := ⟨(R.CS_UL_FMT cs), 20, 3⟩
def R.CS_UL_FMT_SHIFT (cs : Nat) : Field := ⟨(R.CS_UL_FMT cs), 16, 4⟩
def R.CS_UL_FMT_COMP (cs : Nat) : Field := ⟨(R.CS_UL_FMT cs), 12, 4⟩
def R.CS_UL_FMT_UL_ADD (cs : Nat) : Field := ⟨(R.CS_UL_FMT cs), 0, 12⟩
def R.CS_UL_PR (cs : Nat) : Nat := 0x114003c4 + cs * 0x8
def R.CS_UL_PR_PR_ADD (cs : Nat) : Field := ⟨(R.CS_UL_PR cs), 0, 12⟩
def R.SESS_SRC (ss i : Nat) : Nat := 0x11400400 + ss * 0x20 + i * 0x4
def R.SESS_SRC_WORD (ss i : Nat) : Field := ⟨(R.SESS_SRC ss i), 0, 32⟩
def R.CMD_CFG : Nat := 0x11400800
def R.CMD_CFG_SPI_URGENT : Field := ⟨R.CMD_CFG, 31, 1⟩
def R.CMD_CFG_LOAD_EVT : Field := ⟨R.CMD_CFG, 20, 1⟩
def R.CMD_CFG_IDLE_S : Field := ⟨R.CMD_CFG, 16, 4⟩
def R.CMD_CFG_LOAD_THR : Field := ⟨R.CMD_CFG, 0, 16⟩
def R.CMD_AGE : Nat := 0x11400804
def R.CMD_AGE_AGE_MS : Field := ⟨R.CMD_AGE, 0, 16⟩
def R.CMD_QOCC (k : Nat) : Nat := 0x11400810 + k * 0x4
def R.CMD_QOCC_MAX (k : Nat) : Field := ⟨(R.CMD_QOCC k), 16, 8⟩
def R.CMD_QOCC_NOW (k : Nat) : Field := ⟨(R.CMD_QOCC k), 0, 8⟩
def R.CMD_LAT0 (k : Nat) : Nat := 0x11400828 + k * 0x8
def R.CMD_LAT0_P50 (k : Nat) : Field := ⟨(R.CMD_LAT0 k), 16, 16⟩
def R.CMD_LAT0_P99 (k : Nat) : Field := ⟨(R.CMD_LAT0 k), 0, 16⟩
def R.CMD_LAT1 (k : Nat) : Nat := 0x1140082c + k * 0x8
def R.CMD_LAT1_P999 (k : Nat) : Field := ⟨(R.CMD_LAT1 k), 16, 16⟩
def R.CMD_LAT1_MAX (k : Nat) : Field := ⟨(R.CMD_LAT1 k), 0, 16⟩
def R.CMD_CNT0 : Nat := 0x11400840
def R.CMD_CNT0_AUTH_BAD : Field := ⟨R.CMD_CNT0, 16, 16⟩
def R.CMD_CNT0_REPLAY : Field := ⟨R.CMD_CNT0, 0, 16⟩
def R.CMD_CNT1 : Nat := 0x11400844
def R.CMD_CNT1_BUSY : Field := ⟨R.CMD_CNT1, 16, 16⟩
def R.CMD_CNT1_QFULL : Field := ⟨R.CMD_CNT1, 0, 16⟩
def R.CMD_CNT2 : Nat := 0x11400848
def R.CMD_CNT2_MALFORMED : Field := ⟨R.CMD_CNT2, 16, 16⟩
def R.CMD_CNT2_FROZEN_DROP : Field := ⟨R.CMD_CNT2, 0, 16⟩
def R.CMD_CNT3 : Nat := 0x1140084c
def R.CMD_CNT3_WRONG_PORT : Field := ⟨R.CMD_CNT3, 16, 16⟩
def R.CMD_CNT3_SPI_OVF : Field := ⟨R.CMD_CNT3, 0, 16⟩
def R.CMD_CNT_CLR : Nat := 0x11400850
def R.CMD_CNT_CLR_ALL : Field := ⟨R.CMD_CNT_CLR, 0, 1⟩
def R.SESS_STAT (ss : Nat) : Nat := 0x11400880 + ss * 0x4
def R.SESS_STAT_STATE (ss : Nat) : Field := ⟨(R.SESS_STAT ss), 29, 3⟩
def R.SESS_STAT_ROLE (ss : Nat) : Field := ⟨(R.SESS_STAT ss), 28, 1⟩
def R.SESS_STAT_XPORT (ss : Nat) : Field := ⟨(R.SESS_STAT ss), 26, 2⟩
def R.SESS_STAT_CRED (ss : Nat) : Field := ⟨(R.SESS_STAT ss), 23, 3⟩
def R.SESS_STAT_EVQ (ss : Nat) : Field := ⟨(R.SESS_STAT ss), 16, 7⟩
def R.SESS_STAT_HELD (ss : Nat) : Field := ⟨(R.SESS_STAT ss), 8, 8⟩
def R.SESS_STAT_CAUSE (ss : Nat) : Field := ⟨(R.SESS_STAT ss), 4, 4⟩

/-! ### HG -/

def R.HG_BLKID (p : Nat) : Nat := 0x11500000 + p * 0x10000
def R.HG_BLKID_TYPE (p : Nat) : Field := ⟨(R.HG_BLKID p), 16, 16⟩
def R.HG_BLKID_VERSION (p : Nat) : Field := ⟨(R.HG_BLKID p), 8, 8⟩
def R.HG_BLKID_INSTANCE (p : Nat) : Field := ⟨(R.HG_BLKID p), 0, 8⟩
def R.HG_CTRL (p : Nat) : Nat := 0x11500004 + p * 0x10000
def R.HG_CTRL_MIN_LANES (p : Nat) : Field := ⟨(R.HG_CTRL p), 19, 5⟩
def R.HG_CTRL_RATE_MIN (p : Nat) : Field := ⟨(R.HG_CTRL p), 16, 2⟩
def R.HG_CTRL_RATE_MAX (p : Nat) : Field := ⟨(R.HG_CTRL p), 12, 2⟩
def R.HG_CTRL_AUTO_RETRAIN (p : Nat) : Field := ⟨(R.HG_CTRL p), 8, 1⟩
def R.HG_CTRL_IDLE_REQ (p : Nat) : Field := ⟨(R.HG_CTRL p), 4, 1⟩
def R.HG_CTRL_RETRAIN (p : Nat) : Field := ⟨(R.HG_CTRL p), 3, 1⟩
def R.HG_CTRL_MODE (p : Nat) : Field := ⟨(R.HG_CTRL p), 1, 1⟩
def R.HG_CTRL_EN (p : Nat) : Field := ⟨(R.HG_CTRL p), 0, 1⟩
def R.HG_STATUS (p : Nat) : Nat := 0x11500008 + p * 0x10000
def R.HG_STATUS_STATE (p : Nat) : Field := ⟨(R.HG_STATUS p), 28, 4⟩
def R.HG_STATUS_CAUSE (p : Nat) : Field := ⟨(R.HG_STATUS p), 24, 4⟩
def R.HG_STATUS_WR_REFUSED (p : Nat) : Field := ⟨(R.HG_STATUS p), 23, 1⟩
def R.HG_STATUS_REVERSED (p : Nat) : Field := ⟨(R.HG_STATUS p), 22, 1⟩
def R.HG_STATUS_RATE_NOW (p : Nat) : Field := ⟨(R.HG_STATUS p), 20, 2⟩
def R.HG_STATUS_NO_ALIGN (p : Nat) : Field := ⟨(R.HG_STATUS p), 17, 1⟩
def R.HG_STATUS_TIMED (p : Nat) : Field := ⟨(R.HG_STATUS p), 16, 1⟩
def R.HG_STATUS_TX_W (p : Nat) : Field := ⟨(R.HG_STATUS p), 8, 5⟩
def R.HG_STATUS_RX_W (p : Nat) : Field := ⟨(R.HG_STATUS p), 0, 5⟩
def R.HG_RX_LANES (p : Nat) : Nat := 0x1150000c + p * 0x10000
def R.HG_RX_LANES_LANES (p : Nat) : Field := ⟨(R.HG_RX_LANES p), 0, 24⟩
def R.HG_TX_LANES (p : Nat) : Nat := 0x11500010 + p * 0x10000
def R.HG_TX_LANES_LANES (p : Nat) : Field := ⟨(R.HG_TX_LANES p), 0, 24⟩
def R.HG_RETIRE (p : Nat) : Nat := 0x11500014 + p * 0x10000
def R.HG_RETIRE_RETIRE (p : Nat) : Field := ⟨(R.HG_RETIRE p), 0, 24⟩
def R.HG_LAT (p : Nat) : Nat := 0x11500018 + p * 0x10000
def R.HG_LAT_DEPTH (p : Nat) : Field := ⟨(R.HG_LAT p), 8, 5⟩
def R.HG_LAT_FLIGHT (p : Nat) : Field := ⟨(R.HG_LAT p), 0, 5⟩
def R.HG_ERR_CFG (p : Nat) : Nat := 0x1150001c + p * 0x10000
def R.HG_ERR_CFG_LANE_ERR_THR (p : Nat) : Field := ⟨(R.HG_ERR_CFG p), 0, 16⟩
def R.HG_CAP_LOCAL (p i : Nat) : Nat := 0x11500020 + p * 0x10000 + i * 0x4
def R.HG_CAP_LOCAL_WORD (p i : Nat) : Field := ⟨(R.HG_CAP_LOCAL p i), 0, 32⟩
def R.HG_CAP_PEER (p i : Nat) : Nat := 0x11500040 + p * 0x10000 + i * 0x4
def R.HG_CAP_PEER_WORD (p i : Nat) : Field := ⟨(R.HG_CAP_PEER p i), 0, 32⟩
def R.HG_CNT0 (p : Nat) : Nat := 0x11500060 + p * 0x10000
def R.HG_CNT0_TRAINS (p : Nat) : Field := ⟨(R.HG_CNT0 p), 16, 16⟩
def R.HG_CNT0_DOWNS (p : Nat) : Field := ⟨(R.HG_CNT0 p), 0, 16⟩
def R.HG_CNT1 (p : Nat) : Nat := 0x11500064 + p * 0x10000
def R.HG_CNT1_REPAIRS (p : Nat) : Field := ⟨(R.HG_CNT1 p), 16, 16⟩
def R.HG_CNT1_FAST_EXITS (p : Nat) : Field := ⟨(R.HG_CNT1 p), 0, 16⟩
def R.HG_CNT_CLR (p : Nat) : Nat := 0x11500068 + p * 0x10000
def R.HG_CNT_CLR_ALL (p : Nat) : Field := ⟨(R.HG_CNT_CLR p), 0, 1⟩
def R.HG_LANE_ERR (p n : Nat) : Nat := 0x11500100 + p * 0x10000 + n * 0x4
def R.HG_LANE_ERR_COUNT (p n : Nat) : Field := ⟨(R.HG_LANE_ERR p n), 0, 32⟩
def R.HG_EQ (p n : Nat) : Nat := 0x11500180 + p * 0x10000 + n * 0x4
def R.HG_EQ_BAD (p n : Nat) : Field := ⟨(R.HG_EQ p n), 31, 1⟩
def R.HG_EQ_POST (p n : Nat) : Field := ⟨(R.HG_EQ p n), 16, 8⟩
def R.HG_EQ_MAIN (p n : Nat) : Field := ⟨(R.HG_EQ p n), 8, 8⟩
def R.HG_EQ_PRE (p n : Nat) : Field := ⟨(R.HG_EQ p n), 0, 8⟩
def R.CASC_STATUS : Nat := 0x11501000
def R.CASC_STATUS_SHORT : Field := ⟨R.CASC_STATUS, 28, 4⟩
def R.CASC_STATUS_FAIL : Field := ⟨R.CASC_STATUS, 24, 3⟩
def R.CASC_STATUS_COMMIT_SFN : Field := ⟨R.CASC_STATUS, 14, 10⟩
def R.CASC_STATUS_TIME_FAULT : Field := ⟨R.CASC_STATUS, 13, 1⟩
def R.CASC_STATUS_TIME_LOCK : Field := ⟨R.CASC_STATUS, 12, 1⟩
def R.CASC_STATUS_COMMIT_PEND : Field := ⟨R.CASC_STATUS, 11, 1⟩
def R.CASC_STATUS_PLAN_ACT : Field := ⟨R.CASC_STATUS, 10, 1⟩
def R.CASC_STATUS_ROLE : Field := ⟨R.CASC_STATUS, 7, 1⟩
def R.CASC_STATUS_DA_VALID : Field := ⟨R.CASC_STATUS, 6, 1⟩
def R.CASC_STATUS_DA : Field := ⟨R.CASC_STATUS, 0, 6⟩
def R.CASC_CTRL : Nat := 0x11501004
def R.CASC_CTRL_FRAME : Field := ⟨R.CASC_CTRL, 16, 10⟩
def R.CASC_CTRL_MAP_STRICT : Field := ⟨R.CASC_CTRL, 2, 1⟩
def R.CASC_CTRL_CANCEL : Field := ⟨R.CASC_CTRL, 1, 1⟩
def R.CASC_CTRL_COMMIT : Field := ⟨R.CASC_CTRL, 0, 1⟩
def R.PLAN_A (b : Nat) : Nat := 0x11501010 + b * 0x8
def R.PLAN_A_TREE_D (b : Nat) : Field := ⟨(R.PLAN_A b), 18, 3⟩
def R.PLAN_A_DEPTH (b : Nat) : Field := ⟨(R.PLAN_A b), 15, 3⟩
def R.PLAN_A_UP_PORT (b : Nat) : Field := ⟨(R.PLAN_A b), 8, 2⟩
def R.PLAN_A_PORT_ROLE (b : Nat) : Field := ⟨(R.PLAN_A b), 0, 8⟩
def R.PLAN_B (b : Nat) : Nat := 0x11501014 + b * 0x8
def R.PLAN_B_PR_BASE (b : Nat) : Field := ⟨(R.PLAN_B b), 16, 16⟩
def R.PLAN_B_BC_LEAD (b : Nat) : Field := ⟨(R.PLAN_B b), 0, 13⟩
def R.ROUTE (b w : Nat) : Nat := 0x11501040 + b * 0x20 + w * 0x4
def R.ROUTE_R7 (b w : Nat) : Field := ⟨(R.ROUTE b w), 31, 1⟩
def R.ROUTE_P7 (b w : Nat) : Field := ⟨(R.ROUTE b w), 28, 2⟩
def R.ROUTE_R6 (b w : Nat) : Field := ⟨(R.ROUTE b w), 27, 1⟩
def R.ROUTE_P6 (b w : Nat) : Field := ⟨(R.ROUTE b w), 24, 2⟩
def R.ROUTE_R5 (b w : Nat) : Field := ⟨(R.ROUTE b w), 23, 1⟩
def R.ROUTE_P5 (b w : Nat) : Field := ⟨(R.ROUTE b w), 20, 2⟩
def R.ROUTE_R4 (b w : Nat) : Field := ⟨(R.ROUTE b w), 19, 1⟩
def R.ROUTE_P4 (b w : Nat) : Field := ⟨(R.ROUTE b w), 16, 2⟩
def R.ROUTE_R3 (b w : Nat) : Field := ⟨(R.ROUTE b w), 15, 1⟩
def R.ROUTE_P3 (b w : Nat) : Field := ⟨(R.ROUTE b w), 12, 2⟩
def R.ROUTE_R2 (b w : Nat) : Field := ⟨(R.ROUTE b w), 11, 1⟩
def R.ROUTE_P2 (b w : Nat) : Field := ⟨(R.ROUTE b w), 8, 2⟩
def R.ROUTE_R1 (b w : Nat) : Field := ⟨(R.ROUTE b w), 7, 1⟩
def R.ROUTE_P1 (b w : Nat) : Field := ⟨(R.ROUTE b w), 4, 2⟩
def R.ROUTE_R0 (b w : Nat) : Field := ⟨(R.ROUTE b w), 3, 1⟩
def R.ROUTE_P0 (b w : Nat) : Field := ⟨(R.ROUTE b w), 0, 2⟩
def R.CASC_CNT0 : Nat := 0x11501080
def R.CASC_CNT0_SECT_LATE : Field := ⟨R.CASC_CNT0, 16, 16⟩
def R.CASC_CNT0_DL_ROW_MISSING : Field := ⟨R.CASC_CNT0, 0, 16⟩
def R.CASC_CNT1 : Nat := 0x11501084
def R.CASC_CNT1_FWD_DROP : Field := ⟨R.CASC_CNT1, 16, 16⟩
def R.CASC_CNT1_SIDE_BAD : Field := ⟨R.CASC_CNT1, 8, 8⟩
def R.CASC_CNT1_HDR_BAD : Field := ⟨R.CASC_CNT1, 0, 8⟩
def R.TIME_DELTA : Nat := 0x11501090
def R.TIME_DELTA_DELTA : Field := ⟨R.TIME_DELTA, 0, 32⟩
def R.CHILD_CNT0 (p : Nat) : Nat := 0x11501100 + p * 0x10
def R.CHILD_CNT0_MISSING (p : Nat) : Field := ⟨(R.CHILD_CNT0 p), 16, 16⟩
def R.CHILD_CNT0_ERR_UNITS (p : Nat) : Field := ⟨(R.CHILD_CNT0 p), 0, 16⟩
def R.CHILD_CNT1 (p : Nat) : Nat := 0x11501104 + p * 0x10
def R.CHILD_CNT1_CRC_FAIL (p : Nat) : Field := ⟨(R.CHILD_CNT1 p), 16, 16⟩
def R.CHILD_CNT1_TAG_MISMATCH (p : Nat) : Field := ⟨(R.CHILD_CNT1 p), 0, 16⟩
def R.SUM_SAT (p : Nat) : Nat := 0x11501108 + p * 0x10
def R.SUM_SAT_COUNT (p : Nat) : Field := ⟨(R.SUM_SAT p), 0, 32⟩
def R.CASC_CNT_CLR : Nat := 0x11501140
def R.CASC_CNT_CLR_ALL : Field := ⟨R.CASC_CNT_CLR, 0, 1⟩

/-! ### TU -/

def R.TU_BLKID : Nat := 0x11600000
def R.TU_BLKID_TYPE : Field := ⟨R.TU_BLKID, 16, 16⟩
def R.TU_BLKID_VERSION : Field := ⟨R.TU_BLKID, 8, 8⟩
def R.TU_BLKID_INSTANCE : Field := ⟨R.TU_BLKID, 0, 8⟩
def R.TU_CTRL : Nat := 0x11600004
def R.TU_CTRL_KSE : Field := ⟨R.TU_CTRL, 10, 2⟩
def R.TU_CTRL_SYNCE_MODE : Field := ⟨R.TU_CTRL, 8, 2⟩
def R.TU_CTRL_FORCE_VALID : Field := ⟨R.TU_CTRL, 6, 1⟩
def R.TU_CTRL_AUTO_SEL : Field := ⟨R.TU_CTRL, 5, 1⟩
def R.TU_CTRL_SEL : Field := ⟨R.TU_CTRL, 4, 1⟩
def R.TU_CTRL_STEP : Field := ⟨R.TU_CTRL, 2, 1⟩
def R.TU_CTRL_SNAP : Field := ⟨R.TU_CTRL, 1, 1⟩
def R.TU_STATUS : Nat := 0x11600008
def R.TU_STATUS_VC_LIMIT : Field := ⟨R.TU_STATUS, 18, 1⟩
def R.TU_STATUS_STEP_REFUSED : Field := ⟨R.TU_STATUS, 17, 1⟩
def R.TU_STATUS_STEPPED : Field := ⟨R.TU_STATUS, 16, 1⟩
def R.TU_STATUS_SYNCE_OK : Field := ⟨R.TU_STATUS, 13, 1⟩
def R.TU_STATUS_SEL_NOW : Field := ⟨R.TU_STATUS, 12, 1⟩
def R.TU_STATUS_STATE_B : Field := ⟨R.TU_STATUS, 8, 3⟩
def R.TU_STATUS_STATE_A : Field := ⟨R.TU_STATUS, 4, 3⟩
def R.TU_STATUS_VALID : Field := ⟨R.TU_STATUS, 0, 2⟩
def R.TU_SNAP0 : Nat := 0x11600010
def R.TU_SNAP0_SEC_HI : Field := ⟨R.TU_SNAP0, 0, 16⟩
def R.TU_SNAP1 : Nat := 0x11600014
def R.TU_SNAP1_SEC_LO : Field := ⟨R.TU_SNAP1, 0, 32⟩
def R.TU_SNAP2 : Nat := 0x11600018
def R.TU_SNAP2_NS : Field := ⟨R.TU_SNAP2, 0, 32⟩
def R.TU_SNAP3 : Nat := 0x1160001c
def R.TU_SNAP3_FRAC : Field := ⟨R.TU_SNAP3, 0, 16⟩
def R.TU_SET0 : Nat := 0x11600020
def R.TU_SET0_SEC_HI : Field := ⟨R.TU_SET0, 0, 16⟩
def R.TU_SET1 : Nat := 0x11600024
def R.TU_SET1_SEC_LO : Field := ⟨R.TU_SET1, 0, 32⟩
def R.TU_SET2 : Nat := 0x11600028
def R.TU_SET2_NS : Field := ⟨R.TU_SET2, 0, 32⟩
def R.TU_SET3 : Nat := 0x1160002c
def R.TU_SET3_FRAC : Field := ⟨R.TU_SET3, 0, 16⟩
def R.SRV_CFG (x : Nat) : Nat := 0x11600040 + x * 0x20
def R.SRV_CFG_SRC (x : Nat) : Field := ⟨(R.SRV_CFG x), 24, 1⟩
def R.SRV_CFG_PULL_MAX (x : Nat) : Field := ⟨(R.SRV_CFG x), 16, 7⟩
def R.SRV_CFG_KI (x : Nat) : Field := ⟨(R.SRV_CFG x), 8, 5⟩
def R.SRV_CFG_KP (x : Nat) : Field := ⟨(R.SRV_CFG x), 0, 5⟩
def R.SRV_SMP (x : Nat) : Nat := 0x11600044 + x * 0x20
def R.SRV_SMP_SMP (x : Nat) : Field := ⟨(R.SRV_SMP x), 0, 32⟩
def R.SRV_HOLD (x : Nat) : Nat := 0x11600048 + x * 0x20
def R.SRV_HOLD_LOCK_THR (x : Nat) : Field := ⟨(R.SRV_HOLD x), 16, 16⟩
def R.SRV_HOLD_HOLD_TO (x : Nat) : Field := ⟨(R.SRV_HOLD x), 0, 16⟩
def R.SRV_FREQ (x : Nat) : Nat := 0x1160004c + x * 0x20
def R.SRV_FREQ_F_INT (x : Nat) : Field := ⟨(R.SRV_FREQ x), 0, 32⟩
def R.SRV_ERR (x : Nat) : Nat := 0x11600050 + x * 0x20
def R.SRV_ERR_E (x : Nat) : Field := ⟨(R.SRV_ERR x), 0, 32⟩
def R.SRV_CNT (x : Nat) : Nat := 0x11600054 + x * 0x20
def R.SRV_CNT_ACCEPTED (x : Nat) : Field := ⟨(R.SRV_CNT x), 16, 16⟩
def R.SRV_CNT_REJECTED (x : Nat) : Field := ⟨(R.SRV_CNT x), 0, 16⟩
def R.VC_CFG : Nat := 0x11600080
def R.VC_CFG_DF_MAX : Field := ⟨R.VC_CFG, 24, 8⟩
def R.VC_CFG_EN : Field := ⟨R.VC_CFG, 16, 1⟩
def R.VC_CFG_CENTRE : Field := ⟨R.VC_CFG, 0, 12⟩
def R.VC_GAIN : Nat := 0x11600084
def R.VC_GAIN_GAIN : Field := ⟨R.VC_GAIN, 0, 32⟩
def R.VC_LIM : Nat := 0x11600088
def R.VC_LIM_LIMIT_HI : Field := ⟨R.VC_LIM, 16, 12⟩
def R.VC_LIM_LIMIT_LO : Field := ⟨R.VC_LIM, 0, 12⟩
def R.VC_NOW : Nat := 0x1160008c
def R.VC_NOW_FRAC : Field := ⟨R.VC_NOW, 16, 16⟩
def R.VC_NOW_CODE : Field := ⟨R.VC_NOW, 0, 12⟩
def R.PPS_OUT_CFG : Nat := 0x116000a0
def R.PPS_OUT_CFG_WIDTH : Field := ⟨R.PPS_OUT_CFG, 8, 8⟩
def R.PPS_OUT_CFG_GATE : Field := ⟨R.PPS_OUT_CFG, 1, 1⟩
def R.PPS_OUT_CFG_EN : Field := ⟨R.PPS_OUT_CFG, 0, 1⟩
def R.PPS_OUT_OFS : Nat := 0x116000a4
def R.PPS_OUT_OFS_OUT_OFS : Field := ⟨R.PPS_OUT_OFS, 0, 32⟩
def R.PPS_IN_OFS : Nat := 0x116000a8
def R.PPS_IN_OFS_IN_OFS : Field := ⟨R.PPS_IN_OFS, 0, 32⟩
def R.PPS_IN_TS0 : Nat := 0x116000ac
def R.PPS_IN_TS0_SEC_LO : Field := ⟨R.PPS_IN_TS0, 0, 32⟩
def R.PPS_IN_TS1 : Nat := 0x116000b0
def R.PPS_IN_TS1_NS : Field := ⟨R.PPS_IN_TS1, 0, 32⟩
def R.PPS_IN_CNT : Nat := 0x116000b4
def R.PPS_IN_CNT_EXTRA : Field := ⟨R.PPS_IN_CNT, 16, 16⟩
def R.PPS_IN_CNT_EDGES : Field := ⟨R.PPS_IN_CNT, 0, 16⟩
def R.SE_CFG : Nat := 0x116000c0
def R.SE_CFG_LANE : Field := ⟨R.SE_CFG, 0, 6⟩
def R.SE_FERR : Nat := 0x116000c4
def R.SE_FERR_FERR : Field := ⟨R.SE_FERR, 0, 32⟩
def R.TU_CNT_CLR : Nat := 0x116000e0
def R.TU_CNT_CLR_ALL : Field := ⟨R.TU_CNT_CLR, 0, 1⟩

/-! ### PA -/

def R.PA_BLKID : Nat := 0x11700000
def R.PA_BLKID_TYPE : Field := ⟨R.PA_BLKID, 16, 16⟩
def R.PA_BLKID_VERSION : Field := ⟨R.PA_BLKID, 8, 8⟩
def R.PA_BLKID_INSTANCE : Field := ⟨R.PA_BLKID, 0, 8⟩
def R.SEQ_CFG : Nat := 0x11700004
def R.SEQ_CFG_EN : Field := ⟨R.SEQ_CFG, 8, 1⟩
def R.SEQ_CFG_TR_GAP : Field := ⟨R.SEQ_CFG, 0, 8⟩
def R.SEQ_STATUS : Nat := 0x11700008
def R.SEQ_STATUS_WR_REFUSED : Field := ⟨R.SEQ_STATUS, 16, 1⟩
def R.SEQ_STATUS_CLR_N : Field := ⟨R.SEQ_STATUS, 1, 1⟩
def R.SEQ_STATUS_LOCKED : Field := ⟨R.SEQ_STATUS, 0, 1⟩
def R.TXON_LIVE (i : Nat) : Nat := 0x11700010 + i * 0x4
def R.TXON_LIVE_TXON (i : Nat) : Field := ⟨(R.TXON_LIVE i), 0, 32⟩
def R.RXON_LIVE (i : Nat) : Nat := 0x11700018 + i * 0x4
def R.RXON_LIVE_RXON (i : Nat) : Field := ⟨(R.RXON_LIVE i), 0, 32⟩
def R.ADAC_LOCK : Nat := 0x11700020
def R.ADAC_LOCK_LOCK : Field := ⟨R.ADAC_LOCK, 0, 1⟩
def R.ADAC_LD : Nat := 0x11700024
def R.ADAC_LD_LD : Field := ⟨R.ADAC_LD, 0, 8⟩
def R.SEQ_CNT : Nat := 0x11700030
def R.SEQ_CNT_OVERLAP : Field := ⟨R.SEQ_CNT, 16, 16⟩
def R.SEQ_CNT_SKIP : Field := ⟨R.SEQ_CNT, 0, 16⟩
def R.SEQ_CNT_CLR : Nat := 0x11700034
def R.SEQ_CNT_CLR_ALL : Field := ⟨R.SEQ_CNT_CLR, 0, 1⟩
def R.GPIO_OE : Nat := 0x11700040
def R.GPIO_OE_OE : Field := ⟨R.GPIO_OE, 0, 16⟩
def R.GPIO_OUT : Nat := 0x11700044
def R.GPIO_OUT_OUT : Field := ⟨R.GPIO_OUT, 0, 16⟩
def R.GPIO_IN : Nat := 0x11700048
def R.GPIO_IN_IN : Field := ⟨R.GPIO_IN, 0, 16⟩
def R.PROF_BIAS (pf : Nat) : Nat := 0x11700100 + pf * 0x10
def R.PROF_BIAS_BIAS_HOLD (pf : Nat) : Field := ⟨(R.PROF_BIAS pf), 31, 1⟩
def R.PROF_BIAS_BIAS_SET (pf : Nat) : Field := ⟨(R.PROF_BIAS pf), 0, 14⟩
def R.PROF_TX (pf : Nat) : Nat := 0x11700104 + pf * 0x10
def R.PROF_TX_TX_LAG (pf : Nat) : Field := ⟨(R.PROF_TX pf), 16, 12⟩
def R.PROF_TX_TX_LEAD (pf : Nat) : Field := ⟨(R.PROF_TX pf), 0, 12⟩
def R.PROF_RX (pf : Nat) : Nat := 0x11700108 + pf * 0x10
def R.PROF_RX_RX_LAG (pf : Nat) : Field := ⟨(R.PROF_RX pf), 16, 12⟩
def R.PROF_RX_RX_LEAD (pf : Nat) : Field := ⟨(R.PROF_RX pf), 0, 12⟩
def R.PROF_REST (pf : Nat) : Nat := 0x1170010c + pf * 0x10
def R.PROF_REST_BIAS_LAG (pf : Nat) : Field := ⟨(R.PROF_REST pf), 0, 16⟩
def R.IN_CFG (i : Nat) : Nat := 0x11700200 + i * 0x10
def R.IN_CFG_POL (i : Nat) : Field := ⟨(R.IN_CFG i), 31, 1⟩
def R.IN_CFG_LATCH (i : Nat) : Field := ⟨(R.IN_CFG i), 30, 1⟩
def R.IN_CFG_EVT (i : Nat) : Field := ⟨(R.IN_CFG i), 29, 1⟩
def R.IN_CFG_DGW (i : Nat) : Field := ⟨(R.IN_CFG i), 0, 19⟩
def R.IN_MON (i : Nat) : Nat := 0x11700204 + i * 0x10
def R.IN_MON_CHAT_N (i : Nat) : Field := ⟨(R.IN_MON i), 24, 8⟩
def R.IN_MON_CHAT_WIN (i : Nat) : Field := ⟨(R.IN_MON i), 8, 16⟩
def R.IN_STUCK (i : Nat) : Nat := 0x11700208 + i * 0x10
def R.IN_STUCK_STUCK_TO (i : Nat) : Field := ⟨(R.IN_STUCK i), 0, 16⟩
def R.IN_STAT (i : Nat) : Nat := 0x1170020c + i * 0x10
def R.IN_STAT_EDGES (i : Nat) : Field := ⟨(R.IN_STAT i), 16, 16⟩
def R.IN_STAT_FAULT (i : Nat) : Field := ⟨(R.IN_STAT i), 4, 1⟩
def R.IN_STAT_REARM (i : Nat) : Field := ⟨(R.IN_STAT i), 3, 1⟩
def R.IN_STAT_STUCK (i : Nat) : Field := ⟨(R.IN_STAT i), 2, 1⟩
def R.IN_STAT_CHATTER (i : Nat) : Field := ⟨(R.IN_STAT i), 1, 1⟩
def R.IN_STAT_LEVEL (i : Nat) : Field := ⟨(R.IN_STAT i), 0, 1⟩
def R.ADAC_CFG (n : Nat) : Nat := 0x11700600 + n * 0x10
def R.ADAC_CFG_OWNER (n : Nat) : Field := ⟨(R.ADAC_CFG n), 8, 2⟩
def R.ADAC_CFG_MODE (n : Nat) : Field := ⟨(R.ADAC_CFG n), 4, 1⟩
def R.ADAC_CFG_GROUP (n : Nat) : Field := ⟨(R.ADAC_CFG n), 0, 4⟩
def R.ADAC_CODE (n : Nat) : Nat := 0x11700604 + n * 0x10
def R.ADAC_CODE_NOW (n : Nat) : Field := ⟨(R.ADAC_CODE n), 16, 12⟩
def R.ADAC_CODE_CODE (n : Nat) : Field := ⟨(R.ADAC_CODE n), 0, 12⟩
def R.ADAC_SEQ (n : Nat) : Nat := 0x11700608 + n * 0x10
def R.ADAC_SEQ_REST (n : Nat) : Field := ⟨(R.ADAC_SEQ n), 16, 12⟩
def R.ADAC_SEQ_ON (n : Nat) : Field := ⟨(R.ADAC_SEQ n), 0, 12⟩
def R.ADAC_CLR (n : Nat) : Nat := 0x1170060c + n * 0x10
def R.ADAC_CLR_CLR (n : Nat) : Field := ⟨(R.ADAC_CLR n), 0, 12⟩

/-! ### CAL -/

def R.CAL_BLKID : Nat := 0x11800000
def R.CAL_BLKID_TYPE : Field := ⟨R.CAL_BLKID, 16, 16⟩
def R.CAL_BLKID_VERSION : Field := ⟨R.CAL_BLKID, 8, 8⟩
def R.CAL_BLKID_INSTANCE : Field := ⟨R.CAL_BLKID, 0, 8⟩
def R.CAL_CFG : Nat := 0x11800004
def R.CAL_CFG_PH_STEP : Field := ⟨R.CAL_CFG, 24, 8⟩
def R.CAL_CFG_G_STEP : Field := ⟨R.CAL_CFG, 16, 8⟩
def R.CAL_CFG_PILOT_ATT : Field := ⟨R.CAL_CFG, 8, 6⟩
def R.CAL_CFG_RXORX : Field := ⟨R.CAL_CFG, 5, 3⟩
def R.CAL_CFG_TMODE : Field := ⟨R.CAL_CFG, 4, 1⟩
def R.CAL_CFG_NAVG : Field := ⟨R.CAL_CFG, 0, 4⟩
def R.CAL_REF : Nat := 0x11800008
def R.CAL_REF_TXREF : Field := ⟨R.CAL_REF, 24, 6⟩
def R.CAL_REF_XREF : Field := ⟨R.CAL_REF, 8, 6⟩
def R.CAL_LIM : Nat := 0x1180000c
def R.CAL_LIM_OUT_G : Field := ⟨R.CAL_LIM, 16, 16⟩
def R.CAL_LIM_OUT_PH : Field := ⟨R.CAL_LIM, 0, 16⟩
def R.CAL_CTRL : Nat := 0x11800010
def R.CAL_CTRL_EN : Field := ⟨R.CAL_CTRL, 31, 1⟩
def R.CAL_STATUS : Nat := 0x11800014
def R.CAL_STATUS_UNCAL : Field := ⟨R.CAL_STATUS, 19, 4⟩
def R.CAL_STATUS_WR_REFUSED : Field := ⟨R.CAL_STATUS, 18, 1⟩
def R.CAL_STATUS_REC_OK : Field := ⟨R.CAL_STATUS, 17, 1⟩
def R.CAL_STATUS_BUSY : Field := ⟨R.CAL_STATUS, 16, 1⟩
def R.CAL_STATUS_SW_NOW : Field := ⟨R.CAL_STATUS, 0, 2⟩
def R.CAL_JOB : Nat := 0x11800018
def R.CAL_JOB_KIND : Field := ⟨R.CAL_JOB, 29, 3⟩
def R.CAL_JOB_WAIT_FRAMES : Field := ⟨R.CAL_JOB, 25, 4⟩
def R.CAL_JOB_AT_EN : Field := ⟨R.CAL_JOB, 24, 1⟩
def R.CAL_JOB_QMASK : Field := ⟨R.CAL_JOB, 20, 4⟩
def R.CAL_JOB_SENSOR : Field := ⟨R.CAL_JOB, 0, 5⟩
def R.CAL_JOB_AT : Nat := 0x1180001c
def R.CAL_JOB_AT_FRAME : Field := ⟨R.CAL_JOB_AT, 16, 10⟩
def R.CAL_JOB_AT_SYM : Field := ⟨R.CAL_JOB_AT, 0, 12⟩
def R.CAL_GO : Nat := 0x11800020
def R.CAL_GO_RESULT : Field := ⟨R.CAL_GO, 16, 16⟩
def R.CAL_GO_ABORT : Field := ⟨R.CAL_GO, 1, 1⟩
def R.CAL_GO_GO : Field := ⟨R.CAL_GO, 0, 1⟩
def R.CAL_CNT : Nat := 0x11800024
def R.CAL_CNT_DISCARD : Field := ⟨R.CAL_CNT, 16, 16⟩
def R.CAL_CNT_OUTLIER : Field := ⟨R.CAL_CNT, 0, 16⟩
def R.CAL_XPH : Nat := 0x11800028
def R.CAL_XPH_X_PH : Field := ⟨R.CAL_XPH, 0, 32⟩
def R.CAL_CNT_CLR : Nat := 0x1180002c
def R.CAL_CNT_CLR_ALL : Field := ⟨R.CAL_CNT_CLR, 0, 1⟩
def R.CAL_QSTAT (q : Nat) : Nat := 0x11800040 + q * 0x4
def R.CAL_QSTAT_BAND (q : Nat) : Field := ⟨(R.CAL_QSTAT q), 24, 3⟩
def R.CAL_QSTAT_FP (q : Nat) : Field := ⟨(R.CAL_QSTAT q), 20, 2⟩
def R.CAL_QSTAT_TEMP (q : Nat) : Field := ⟨(R.CAL_QSTAT q), 0, 12⟩
def R.CAL_DTX (ch : Nat) : Nat := 0x11800100 + ch * 0x8
def R.CAL_DTX_PH (ch : Nat) : Field := ⟨(R.CAL_DTX ch), 16, 16⟩
def R.CAL_DTX_G (ch : Nat) : Field := ⟨(R.CAL_DTX ch), 0, 16⟩
def R.CAL_DRX (ch : Nat) : Nat := 0x11800104 + ch * 0x8
def R.CAL_DRX_PH (ch : Nat) : Field := ⟨(R.CAL_DRX ch), 16, 16⟩
def R.CAL_DRX_G (ch : Nat) : Field := ⟨(R.CAL_DRX ch), 0, 16⟩

/-! ### FD -/

def R.FD_BLKID : Nat := 0x11900000
def R.FD_BLKID_TYPE : Field := ⟨R.FD_BLKID, 16, 16⟩
def R.FD_BLKID_VERSION : Field := ⟨R.FD_BLKID, 8, 8⟩
def R.FD_BLKID_INSTANCE : Field := ⟨R.FD_BLKID, 0, 8⟩
def R.FD_CTRL (n : Nat) : Nat := 0x11900100 + n * 0x40
def R.FD_CTRL_RESET (n : Nat) : Field := ⟨(R.FD_CTRL n), 3, 1⟩
def R.FD_CTRL_HALT (n : Nat) : Field := ⟨(R.FD_CTRL n), 2, 1⟩
def R.FD_CTRL_RESUME (n : Nat) : Field := ⟨(R.FD_CTRL n), 1, 1⟩
def R.FD_CTRL_START (n : Nat) : Field := ⟨(R.FD_CTRL n), 0, 1⟩
def R.FD_STATUS (n : Nat) : Nat := 0x11900104 + n * 0x40
def R.FD_STATUS_STATE (n : Nat) : Field := ⟨(R.FD_STATUS n), 28, 4⟩
def R.FD_STATUS_CAUSE (n : Nat) : Field := ⟨(R.FD_STATUS n), 24, 4⟩
def R.FD_STATUS_RB (n : Nat) : Field := ⟨(R.FD_STATUS n), 20, 4⟩
def R.FD_STATUS_WR_REFUSED (n : Nat) : Field := ⟨(R.FD_STATUS n), 7, 1⟩
def R.FD_STATUS_PWR_HALT (n : Nat) : Field := ⟨(R.FD_STATUS n), 6, 1⟩
def R.FD_STATUS_MREF (n : Nat) : Field := ⟨(R.FD_STATUS n), 4, 1⟩
def R.FD_STATUS_PSN (n : Nat) : Field := ⟨(R.FD_STATUS n), 3, 1⟩
def R.FD_STATUS_WRAPTRIM (n : Nat) : Field := ⟨(R.FD_STATUS n), 2, 1⟩
def R.FD_STATUS_SATF (n : Nat) : Field := ⟨(R.FD_STATUS n), 1, 1⟩
def R.FD_ENTRY (n : Nat) : Nat := 0x11900108 + n * 0x40
def R.FD_ENTRY_ENTRY (n : Nat) : Field := ⟨(R.FD_ENTRY n), 0, 12⟩
def R.FD_PC (n : Nat) : Nat := 0x1190010c + n * 0x40
def R.FD_PC_PC (n : Nat) : Field := ⟨(R.FD_PC n), 0, 12⟩
def R.FD_WDOG (n : Nat) : Nat := 0x11900110 + n * 0x40
def R.FD_WDOG_LIMIT (n : Nat) : Field := ⟨(R.FD_WDOG n), 0, 16⟩
def R.FD_DB (n : Nat) : Nat := 0x11900114 + n * 0x40
def R.FD_DB_DB (n : Nat) : Field := ⟨(R.FD_DB n), 0, 16⟩
def R.FD_DB_CLR (n : Nat) : Nat := 0x11900118 + n * 0x40
def R.FD_DB_CLR_CLR (n : Nat) : Field := ⟨(R.FD_DB_CLR n), 0, 16⟩
def R.FD_OWNER (n : Nat) : Nat := 0x1190011c + n * 0x40
def R.FD_OWNER_MODE (n : Nat) : Field := ⟨(R.FD_OWNER n), 31, 1⟩
def R.FD_OWNER_SESSION (n : Nat) : Field := ⟨(R.FD_OWNER n), 24, 5⟩
def R.FD_OWNER_KEYSLOT (n : Nat) : Field := ⟨(R.FD_OWNER n), 16, 2⟩
def R.FD_OWNER_KVER (n : Nat) : Field := ⟨(R.FD_OWNER n), 0, 16⟩
def R.FD_FAULT_ADDR (n : Nat) : Nat := 0x11900120 + n * 0x40
def R.FD_FAULT_ADDR_ADDR (n : Nat) : Field := ⟨(R.FD_FAULT_ADDR n), 0, 32⟩
def R.FD_STALL (n : Nat) : Nat := 0x11900124 + n * 0x40
def R.FD_STALL_COUNT (n : Nat) : Field := ⟨(R.FD_STALL n), 0, 32⟩
def R.FD_CYCLE (n : Nat) : Nat := 0x11900128 + n * 0x40
def R.FD_CYCLE_COUNT (n : Nat) : Field := ⟨(R.FD_CYCLE n), 0, 32⟩

/-! ### DMA -/

def R.DMA_BLKID : Nat := 0x11a00000
def R.DMA_BLKID_TYPE : Field := ⟨R.DMA_BLKID, 16, 16⟩
def R.DMA_BLKID_VERSION : Field := ⟨R.DMA_BLKID, 8, 8⟩
def R.DMA_BLKID_INSTANCE : Field := ⟨R.DMA_BLKID, 0, 8⟩
def R.DMA_STATUS : Nat := 0x11a00004
def R.DMA_STATUS_WR_REFUSED : Field := ⟨R.DMA_STATUS, 16, 1⟩
def R.DMA_IRQ : Nat := 0x11a00008
def R.DMA_IRQ_IRQ : Field := ⟨R.DMA_IRQ, 0, 32⟩
def R.DMA_IRQ_EN : Nat := 0x11a0000c
def R.DMA_IRQ_EN_EN : Field := ⟨R.DMA_IRQ_EN, 0, 32⟩
def R.DMA_DRAIN : Nat := 0x11a00010
def R.DMA_DRAIN_DRAIN_TO : Field := ⟨R.DMA_DRAIN, 0, 16⟩
def R.DMA_DRAINED : Nat := 0x11a00014
def R.DMA_DRAINED_DRAINED : Field := ⟨R.DMA_DRAINED, 0, 32⟩
def R.DMA_CNT_CLR : Nat := 0x11a00018
def R.DMA_CNT_CLR_ALL : Field := ⟨R.DMA_CNT_CLR, 0, 1⟩
def R.EXP_QUOTA : Nat := 0x11a00020
def R.EXP_QUOTA_QUOTA3 : Field := ⟨R.EXP_QUOTA, 24, 5⟩
def R.EXP_QUOTA_QUOTA2 : Field := ⟨R.EXP_QUOTA, 16, 5⟩
def R.EXP_QUOTA_QUOTA1 : Field := ⟨R.EXP_QUOTA, 8, 5⟩
def R.EXP_QUOTA_QUOTA0 : Field := ⟨R.EXP_QUOTA, 0, 5⟩
def R.DC_CTRL (c : Nat) : Nat := 0x11a00100 + c * 0x40
def R.DC_CTRL_RESUME (c : Nat) : Field := ⟨(R.DC_CTRL c), 2, 1⟩
def R.DC_CTRL_ABORT (c : Nat) : Field := ⟨(R.DC_CTRL c), 1, 1⟩
def R.DC_CTRL_GO (c : Nat) : Field := ⟨(R.DC_CTRL c), 0, 1⟩
def R.DC_CFG (c : Nat) : Nat := 0x11a00104 + c * 0x40
def R.DC_CFG_CSIDE (c : Nat) : Field := ⟨(R.DC_CFG c), 12, 1⟩
def R.DC_CFG_REQ (c : Nat) : Field := ⟨(R.DC_CFG c), 8, 4⟩
def R.DC_CFG_BURST (c : Nat) : Field := ⟨(R.DC_CFG c), 0, 3⟩
def R.DC_DESC (c : Nat) : Nat := 0x11a00108 + c * 0x40
def R.DC_DESC_DESC (c : Nat) : Field := ⟨(R.DC_DESC c), 4, 28⟩
def R.DC_SRC (c : Nat) : Nat := 0x11a0010c + c * 0x40
def R.DC_SRC_SRC (c : Nat) : Field := ⟨(R.DC_SRC c), 0, 32⟩
def R.DC_DST (c : Nat) : Nat := 0x11a00110 + c * 0x40
def R.DC_DST_DST (c : Nat) : Field := ⟨(R.DC_DST c), 0, 32⟩
def R.DC_LEN (c : Nat) : Nat := 0x11a00114 + c * 0x40
def R.DC_LEN_LEN (c : Nat) : Field := ⟨(R.DC_LEN c), 0, 24⟩
def R.DC_STATUS (c : Nat) : Nat := 0x11a00118 + c * 0x40
def R.DC_STATUS_STATE (c : Nat) : Field := ⟨(R.DC_STATUS c), 28, 4⟩
def R.DC_STATUS_CODE (c : Nat) : Field := ⟨(R.DC_STATUS c), 24, 3⟩
def R.DC_STATUS_WRAPTRIM (c : Nat) : Field := ⟨(R.DC_STATUS c), 9, 1⟩
def R.DC_STATUS_POISON (c : Nat) : Field := ⟨(R.DC_STATUS c), 8, 1⟩
def R.CIRC_BASE (c : Nat) : Nat := 0x11a0011c + c * 0x40
def R.CIRC_BASE_BASE (c : Nat) : Field := ⟨(R.CIRC_BASE c), 4, 28⟩
def R.CIRC_LEN (c : Nat) : Nat := 0x11a00120 + c * 0x40
def R.CIRC_LEN_LEN (c : Nat) : Field := ⟨(R.CIRC_LEN c), 4, 20⟩
def R.DC_CNT (c : Nat) : Nat := 0x11a00124 + c * 0x40
def R.DC_CNT_WDRAW (c : Nat) : Field := ⟨(R.DC_CNT c), 16, 16⟩
def R.DC_CNT_DESCS (c : Nat) : Field := ⟨(R.DC_CNT c), 0, 16⟩

/-! ### FAB -/

def R.FAB_BLKID : Nat := 0x11b00000
def R.FAB_BLKID_TYPE : Field := ⟨R.FAB_BLKID, 16, 16⟩
def R.FAB_BLKID_VERSION : Field := ⟨R.FAB_BLKID, 8, 8⟩
def R.FAB_BLKID_INSTANCE : Field := ⟨R.FAB_BLKID, 0, 8⟩
def R.FAB_STATUS : Nat := 0x11b00004
def R.FAB_STATUS_WR_REFUSED : Field := ⟨R.FAB_STATUS, 16, 1⟩
def R.XMON_STATUS : Nat := 0x11b00040
def R.XMON_STATUS_LI_OVF : Field := ⟨R.XMON_STATUS, 17, 1⟩
def R.XMON_STATUS_HI_OVF : Field := ⟨R.XMON_STATUS, 16, 1⟩
def R.XMON_STATUS_FI_SLIP : Field := ⟨R.XMON_STATUS, 10, 1⟩
def R.XMON_STATUS_MI_SLIP : Field := ⟨R.XMON_STATUS, 9, 1⟩
def R.XMON_STATUS_DI_SLIP : Field := ⟨R.XMON_STATUS, 8, 1⟩
def R.XMON_STATUS_GI_SLIP : Field := ⟨R.XMON_STATUS, 4, 4⟩
def R.XMON_STATUS_CI_SLIP : Field := ⟨R.XMON_STATUS, 0, 4⟩
def R.FAB_CLASS (w : Nat) : Nat := 0x11b00100 + w * 0x4
def R.FAB_CLASS_CLASS (w : Nat) : Field := ⟨(R.FAB_CLASS w), 0, 32⟩
def R.FAB_FROZEN (w : Nat) : Nat := 0x11b00140 + w * 0x4
def R.FAB_FROZEN_FROZEN (w : Nat) : Field := ⟨(R.FAB_FROZEN w), 0, 32⟩
def R.STILE (i : Nat) : Nat := 0x11b00400 + i * 0x4
def R.STILE_RESULT (i : Nat) : Field := ⟨(R.STILE i), 30, 2⟩
def R.STILE_MID (i : Nat) : Field := ⟨(R.STILE i), 0, 8⟩
def R.STILE_OP (i : Nat) : Field := ⟨(R.STILE i), 0, 2⟩
def R.STILE_PEEK (i : Nat) : Nat := 0x11b00500 + i * 0x4
def R.STILE_PEEK_STATE (i : Nat) : Field := ⟨(R.STILE_PEEK i), 30, 2⟩
def R.STILE_PEEK_MID (i : Nat) : Field := ⟨(R.STILE_PEEK i), 0, 8⟩
def R.STILE_FORCE : Nat := 0x11b00600
def R.STILE_FORCE_INDEX : Field := ⟨R.STILE_FORCE, 0, 6⟩
def R.STILE_CNT : Nat := 0x11b00604
def R.STILE_CNT_BREAKS : Field := ⟨R.STILE_CNT, 16, 16⟩
def R.STILE_CNT_REFUSED : Field := ⟨R.STILE_CNT, 0, 16⟩
def R.FAB_CNT_CLR : Nat := 0x11b00608
def R.FAB_CNT_CLR_ALL : Field := ⟨R.FAB_CNT_CLR, 0, 1⟩
def R.MEM_SPARE (k : Nat) : Nat := 0x11b00800 + k * 0x4
def R.MEM_SPARE_USED (k : Nat) : Field := ⟨(R.MEM_SPARE k), 31, 1⟩
def R.MEM_SPARE_COPYING (k : Nat) : Field := ⟨(R.MEM_SPARE k), 30, 1⟩
def R.MEM_SPARE_BANK (k : Nat) : Field := ⟨(R.MEM_SPARE k), 0, 6⟩
def R.MEM_RETIRE : Nat := 0x11b00808
def R.MEM_RETIRE_RESULT : Field := ⟨R.MEM_RETIRE, 16, 16⟩
def R.MEM_RETIRE_GO : Field := ⟨R.MEM_RETIRE, 8, 1⟩
def R.MEM_RETIRE_BANK : Field := ⟨R.MEM_RETIRE, 0, 6⟩
def R.MEM_WB : Nat := 0x11b0080c
def R.MEM_WB_WB_DROP : Field := ⟨R.MEM_WB, 0, 16⟩
def R.MEM_CE_S (b : Nat) : Nat := 0x11b00840 + b * 0x4
def R.MEM_CE_S_COUNT (b : Nat) : Field := ⟨(R.MEM_CE_S b), 0, 32⟩
def R.MEM_CE_B (b : Nat) : Nat := 0x11b00950 + b * 0x4
def R.MEM_CE_B_COUNT (b : Nat) : Field := ⟨(R.MEM_CE_B b), 0, 32⟩
def R.MEM_UE (m : Nat) : Nat := 0x11b00990 + m * 0x4
def R.MEM_UE_COUNT (m : Nat) : Field := ⟨(R.MEM_UE m), 0, 32⟩
def R.MEM_SROW_S (w : Nat) : Nat := 0x11b009c0 + w * 0x4
def R.MEM_SROW_S_USED (w : Nat) : Field := ⟨(R.MEM_SROW_S w), 0, 32⟩
def R.MEM_SROW_B (w : Nat) : Nat := 0x11b009f0 + w * 0x4
def R.MEM_SROW_B_USED (w : Nat) : Field := ⟨(R.MEM_SROW_B w), 0, 32⟩
def R.MEM_PASS (m : Nat) : Nat := 0x11b00a00 + m * 0x4
def R.MEM_PASS_PASSES (m : Nat) : Field := ⟨(R.MEM_PASS m), 0, 32⟩
def R.MEM_CNT_CLR : Nat := 0x11b00a20
def R.MEM_CNT_CLR_ALL : Field := ⟨R.MEM_CNT_CLR, 0, 1⟩
def R.WIN0 (m k : Nat) : Nat := 0x11b04000 + m * 0x40 + k * 0x8
def R.WIN0_BASE (m k : Nat) : Field := ⟨(R.WIN0 m k), 12, 20⟩
def R.WIN1 (m k : Nat) : Nat := 0x11b04004 + m * 0x40 + k * 0x8
def R.WIN1_EN (m k : Nat) : Field := ⟨(R.WIN1 m k), 31, 1⟩
def R.WIN1_LOCK (m k : Nat) : Field := ⟨(R.WIN1 m k), 30, 1⟩
def R.WIN1_W (m k : Nat) : Field := ⟨(R.WIN1 m k), 9, 1⟩
def R.WIN1_R (m k : Nat) : Field := ⟨(R.WIN1 m k), 8, 1⟩
def R.WIN1_SIZE (m k : Nat) : Field := ⟨(R.WIN1 m k), 0, 6⟩

/-! ### PWR -/

def R.PWR_BLKID : Nat := 0x11c00000
def R.PWR_BLKID_TYPE : Field := ⟨R.PWR_BLKID, 16, 16⟩
def R.PWR_BLKID_VERSION : Field := ⟨R.PWR_BLKID, 8, 8⟩
def R.PWR_BLKID_INSTANCE : Field := ⟨R.PWR_BLKID, 0, 8⟩
def R.PWR_STATUS : Nat := 0x11c00004
def R.PWR_STATUS_PLL_LOCK : Field := ⟨R.PWR_STATUS, 18, 1⟩
def R.PWR_STATUS_MI_WAKEOSC : Field := ⟨R.PWR_STATUS, 17, 1⟩
def R.PWR_STATUS_WR_REFUSED : Field := ⟨R.PWR_STATUS, 16, 1⟩
def R.PWR_STATUS_THROT : Field := ⟨R.PWR_STATUS, 12, 4⟩
def R.PWR_STATUS_QGATE : Field := ⟨R.PWR_STATUS, 8, 4⟩
def R.PWR_STATUS_TRANS : Field := ⟨R.PWR_STATUS, 3, 1⟩
def R.PWR_STATUS_STATE_NOW : Field := ⟨R.PWR_STATUS, 0, 3⟩
def R.PWR_CHGATE (i : Nat) : Nat := 0x11c00008 + i * 0x4
def R.PWR_CHGATE_CHG (i : Nat) : Field := ⟨(R.PWR_CHGATE i), 0, 32⟩
def R.CLK_CTRL : Nat := 0x11c00010
def R.CLK_CTRL_MI_SRC : Field := ⟨R.CLK_CTRL, 0, 1⟩
def R.PWR_TMO : Nat := 0x11c00014
def R.PWR_TMO_VSET_TO : Field := ⟨R.PWR_TMO, 0, 16⟩
def R.DVFS (x : Nat) : Nat := 0x11c00020 + x * 0x4
def R.DVFS_BUSY (x : Nat) : Field := ⟨(R.DVFS x), 31, 1⟩
def R.DVFS_VSEL (x : Nat) : Field := ⟨(R.DVFS x), 16, 2⟩
def R.DVFS_FSEL (x : Nat) : Field := ⟨(R.DVFS x), 8, 2⟩
def R.DVFS_TGT (x : Nat) : Field := ⟨(R.DVFS x), 0, 2⟩

/-! ### THERM -/

def R.THERM_BLKID : Nat := 0x11d00000
def R.THERM_BLKID_TYPE : Field := ⟨R.THERM_BLKID, 16, 16⟩
def R.THERM_BLKID_VERSION : Field := ⟨R.THERM_BLKID, 8, 8⟩
def R.THERM_BLKID_INSTANCE : Field := ⟨R.THERM_BLKID, 0, 8⟩
def R.THERM_CFG : Nat := 0x11d00004
def R.THERM_CFG_SHUT_C : Field := ⟨R.THERM_CFG, 24, 8⟩
def R.THERM_CFG_WARN_C : Field := ⟨R.THERM_CFG, 16, 8⟩
def R.THERM_CFG_THROTTLE_C : Field := ⟨R.THERM_CFG, 8, 8⟩
def R.THERM_CFG_HYST : Field := ⟨R.THERM_CFG, 0, 4⟩
def R.THERM_THR : Nat := 0x11d00008
def R.THERM_THR_DWELL : Field := ⟨R.THERM_THR, 16, 8⟩
def R.THERM_THR_ORDER : Field := ⟨R.THERM_THR, 0, 16⟩
def R.THERM_STATUS : Nat := 0x11d0000c
def R.THERM_STATUS_TMAX : Field := ⟨R.THERM_STATUS, 16, 12⟩
def R.THERM_STATUS_HOT : Field := ⟨R.THERM_STATUS, 8, 5⟩
def R.THERM_STATUS_WARN : Field := ⟨R.THERM_STATUS, 4, 1⟩
def R.THERM_STATUS_THROT : Field := ⟨R.THERM_STATUS, 0, 4⟩
def R.OTP_TWIN : Nat := 0x11d00010
def R.OTP_TWIN_HI : Field := ⟨R.OTP_TWIN, 8, 8⟩
def R.OTP_TWIN_LO : Field := ⟨R.OTP_TWIN, 0, 8⟩
def R.TEMP (n : Nat) : Nat := 0x11d00100 + n * 0x4
def R.TEMP_STALE (n : Nat) : Field := ⟨(R.TEMP n), 16, 1⟩
def R.TEMP_TEMP (n : Nat) : Field := ⟨(R.TEMP n), 0, 12⟩
def R.SENS_OFS (n : Nat) : Nat := 0x11d00180 + n * 0x4
def R.SENS_OFS_OFS (n : Nat) : Field := ⟨(R.SENS_OFS n), 0, 12⟩

/-! ### FM -/

def R.FM_BLKID : Nat := 0x11e00000
def R.FM_BLKID_TYPE : Field := ⟨R.FM_BLKID, 16, 16⟩
def R.FM_BLKID_VERSION : Field := ⟨R.FM_BLKID, 8, 8⟩
def R.FM_BLKID_INSTANCE : Field := ⟨R.FM_BLKID, 0, 8⟩
def R.FM_STATUS : Nat := 0x11e00004
def R.FM_STATUS_SAFE : Field := ⟨R.FM_STATUS, 31, 1⟩
def R.FM_STATUS_F_PEND : Field := ⟨R.FM_STATUS, 30, 1⟩
def R.FM_STATUS_WR_REFUSED : Field := ⟨R.FM_STATUS, 16, 1⟩
def R.FM_STATUS_CAUSE : Field := ⟨R.FM_STATUS, 0, 16⟩
def R.FM_TOP : Nat := 0x11e00008
def R.FM_TOP_VALID : Field := ⟨R.FM_TOP, 31, 1⟩
def R.FM_TOP_CLASS : Field := ⟨R.FM_TOP, 28, 2⟩
def R.FM_TOP_UNIT : Field := ⟨R.FM_TOP, 16, 8⟩
def R.FM_PEND (w : Nat) : Nat := 0x11e00010 + w * 0x4
def R.FM_PEND_PEND (w : Nat) : Field := ⟨(R.FM_PEND w), 0, 32⟩
def R.FM_SAFE_FORCE : Nat := 0x11e00020
def R.FM_SAFE_FORCE_GO : Field := ⟨R.FM_SAFE_FORCE, 0, 1⟩
def R.FM_REC (u r k : Nat) : Nat := 0x11e01000 + u * 0x100 + r * 0x20 + k * 0x4
def R.FM_REC_WORD (u r k : Nat) : Field := ⟨(R.FM_REC u r k), 0, 32⟩
def R.FM_OVF (u : Nat) : Nat := 0x11e01080 + u * 0x100
def R.FM_OVF_OVF (u : Nat) : Field := ⟨(R.FM_OVF u), 0, 32⟩
def R.FM_CLR (u : Nat) : Nat := 0x11e01084 + u * 0x100
def R.FM_CLR_CLR (u : Nat) : Field := ⟨(R.FM_CLR u), 0, 1⟩

/-! ### TH -/

def R.TH_BLKID : Nat := 0x11f00000
def R.TH_BLKID_TYPE : Field := ⟨R.TH_BLKID, 16, 16⟩
def R.TH_BLKID_VERSION : Field := ⟨R.TH_BLKID, 8, 8⟩
def R.TH_BLKID_INSTANCE : Field := ⟨R.TH_BLKID, 0, 8⟩
def R.TH_STATUS : Nat := 0x11f00004
def R.TH_STATUS_OWNED : Field := ⟨R.TH_STATUS, 31, 1⟩
def R.TH_STATUS_DEBUG : Field := ⟨R.TH_STATUS, 30, 1⟩
def R.TH_STATUS_DEBUG_DIS : Field := ⟨R.TH_STATUS, 29, 1⟩
def R.TH_STATUS_BOOT_SRC : Field := ⟨R.TH_STATUS, 26, 2⟩
def R.TH_STATUS_FW_REGION : Field := ⟨R.TH_STATUS, 25, 1⟩
def R.TH_STATUS_ADV_PEND : Field := ⟨R.TH_STATUS, 24, 1⟩
def R.TH_STATUS_ARB : Field := ⟨R.TH_STATUS, 0, 7⟩
def R.TH_KEYS : Nat := 0x11f00008
def R.TH_KEYS_SLOTS : Field := ⟨R.TH_KEYS, 0, 24⟩
def R.TH_ARB_LO : Nat := 0x11f00010
def R.TH_ARB_LO_LO : Field := ⟨R.TH_ARB_LO, 0, 32⟩
def R.TH_ARB_HI : Nat := 0x11f00014
def R.TH_ARB_HI_HI : Field := ⟨R.TH_ARB_HI, 0, 32⟩
def R.TH_FWVER : Nat := 0x11f00018
def R.TH_FWVER_VER : Field := ⟨R.TH_FWVER, 0, 32⟩
def R.TH_FWSTG : Nat := 0x11f0001c
def R.TH_FWSTG_VER : Field := ⟨R.TH_FWSTG, 0, 32⟩
def R.TH_SVN : Nat := 0x11f00020
def R.TH_SVN_SVN : Field := ⟨R.TH_SVN, 0, 8⟩

/-! ### LK -/

def R.LK_BLKID : Nat := 0x12000000
def R.LK_BLKID_TYPE : Field := ⟨R.LK_BLKID, 16, 16⟩
def R.LK_BLKID_VERSION : Field := ⟨R.LK_BLKID, 8, 8⟩
def R.LK_BLKID_INSTANCE : Field := ⟨R.LK_BLKID, 0, 8⟩
def R.LK_CFG : Nat := 0x12000004
def R.LK_CFG_FILT_K : Field := ⟨R.LK_CFG, 0, 3⟩
def R.LK_STATUS : Nat := 0x12000008
def R.LK_STATUS_RLOST : Field := ⟨R.LK_STATUS, 31, 1⟩
def R.LK_STATUS_HOLDING : Field := ⟨R.LK_STATUS, 16, 1⟩
def R.LK_STATUS_ALERT : Field := ⟨R.LK_STATUS, 0, 16⟩
def R.LK_RULE_COND (i : Nat) : Nat := 0x12000010 + i * 0x8
def R.LK_RULE_COND_COND (i : Nat) : Field := ⟨(R.LK_RULE_COND i), 0, 32⟩
def R.LK_RULE_ACTION (i : Nat) : Nat := 0x12000014 + i * 0x8
def R.LK_RULE_ACTION_ACTION (i : Nat) : Field := ⟨(R.LK_RULE_ACTION i), 0, 32⟩
def R.LK_LOST (k : Nat) : Nat := 0x12000100 + k * 0x4
def R.LK_LOST_SMEM (k : Nat) : Field := ⟨(R.LK_LOST k), 0, 32⟩
def R.LK_LOST_B : Nat := 0x1200010c
def R.LK_LOST_B_BMEM : Field := ⟨R.LK_LOST_B, 16, 16⟩
def R.LK_LOST_B_MMEM : Field := ⟨R.LK_LOST_B, 8, 8⟩
def R.LK_LOST_B_CSTORE : Field := ⟨R.LK_LOST_B, 0, 4⟩
def R.LK_RING : Nat := 0x12000110
def R.LK_RING_RING : Field := ⟨R.LK_RING, 0, 13⟩

end Sys2Proof.Machine
end

