-- ==== Sys2Proof/Machine/RegTable.lean ====
section
/-! DEFINITION. Every register the spec gives the device, one row each: block base, offset, index strides, reset value and fields
with their access codes (R14). One section per block; the block map is that of R17 and of each chapter's register tables. -/

namespace Sys2Proof.Machine

/-- The access codes of R14. -/
inductive Acc where
  | rw | ro | w1c | w1s | wo | rwl
deriving DecidableEq, Repr

/-- One name per register of the spec's register tables (an indexed register has one name). -/
inductive RegId where
  | CH_BLKID | CH_CTRL | CH_STATUS | TX_ATT | RX_GAIN | TX_IQ
  | TX_LOL | RX_IQ | RX_DCO_CTRL | RX_DCO_EST | RX_DCO_TRIM | OVL_CTRL
  | RX_CLIPCNT | TX_CLIPCNT | CH_CNT_CLR | RX_OVL_SYM | DCO_TABLE
  | LO_BLKID | LO_CTRL | LO_STATUS | SYN_N | SYNA_F | SYNB_F
  | QLO_CFG | QLO_PHASE | TUNE_F | TUNE_CFG | TUNE_AT | TUNE_CMD
  | LO_CNT | SYN_CNT | LO_CNT_CLR
  | DFE_BLKID | DFE_STATUS | DFE_SAT | CS_RF_LO | CS_RF_HI | CS_TX_GAIN
  | CS_RX_DG | NCO_NOW_LO | NCO_NOW_HI | CFR_CFG | CFR_THR | CFR_HC
  | CFR_PEAKS | CFR_MISSED | CFR_HCLIP | CFR_CNT_CLR | ORX_CFG | CAP_ADDR
  | CAP_LEN | CAP_CFG | CAP_AT | CAP_CTRL | CAP_STAT | CAP_COUNT
  | CAP_TS | PB_ADDR | PB_LEN | PB_CFG | PB_CTRL | CFR_PULSE
  | PD_CFG | PD_STATUS | PD_CNT_CLR | PD_TSEL | PD_REPAIR | PD_CHCFG
  | PD_NBR | PD_TBMAP | PD_BYP_G | PD_CMD | PD_STATE | PD_ACL
  | PD_CNT | PD_TERMS | COEF_I | COEF_Q
  | LP_BLKID | LP_STATUS | FRAME_CFG | TA_CFG | SLOT_CTRL | SLOT_STATUS
  | SLOT_MU | LP_SAT | DIR_MISMATCH | LP_CNT_CLR | CS_CFG | CS_FFT
  | CS_F0_LO | CS_F0_HI | CS_BUF | PR_CTRL | PR_START | PR_CP
  | PR_FOFF | PR_STAT | SMEM_PART | SLOT_TBL
  | BF_BLKID | BF_STATUS | BF_SHIFT | BT_OWN | BF_LMAP | WS_CFG
  | BF_REPAIR | DL_SAT | UL_LSAT | POISON_RE | WPOISON | BAD_REF
  | SET_WR_REFUSED | RESIDUE | BF_CNT_CLR | STEER_CTRL | STEER_STATUS | STEER_CNT0
  | STEER_CNT1 | STEER_DONE | STEER_REQ | STEER_GO | PRB_CFG | PRB_ID
  | BL_STAGE | BL_TGT | BL_APPLY | BL_GO | GEOM_ADDR | GEOM_DATA
  | BEAM_PAGE
  | HP_BLKID | HP_CTRL | HP_STATUS | HP_MAC_LO | HP_MAC_HI | HP_VLAN
  | HP_IP6 | HP_UDP | HP_FWD_CNT | HP_TC_CNT | HP_CNT_CLR | RX_FRAMES
  | RX_DROP | FEC_CORR | FEC_UNCORR | TX_FRAMES | LQ_CNT | TS_ADJ
  | LQ_DESC0 | LQ_DESC1 | LQ_DESC2 | LQ_DESC3 | LQ_POST | LQ_STATUS
  | SP_CFG | SP_STATUS | SP_STORE | SP_CNT0 | SP_CNT1 | SP_CNT2
  | SP_CNT3 | SP_CNT4 | SP_CNT_CLR | SP_WIN0 | SP_WIN1 | CS_UL_FMT
  | CS_UL_PR | SESS_SRC | CMD_CFG | CMD_AGE | CMD_QOCC | CMD_LAT0
  | CMD_LAT1 | CMD_CNT0 | CMD_CNT1 | CMD_CNT2 | CMD_CNT3 | CMD_CNT_CLR
  | SESS_STAT
  | HG_BLKID | HG_CTRL | HG_STATUS | HG_RX_LANES | HG_TX_LANES | HG_RETIRE
  | HG_LAT | HG_ERR_CFG | HG_CAP_LOCAL | HG_CAP_PEER | HG_CNT0 | HG_CNT1
  | HG_CNT_CLR | HG_LANE_ERR | HG_EQ | CASC_STATUS | CASC_CTRL | PLAN_A
  | PLAN_B | ROUTE | CASC_CNT0 | CASC_CNT1 | TIME_DELTA | CHILD_CNT0
  | CHILD_CNT1 | SUM_SAT | CASC_CNT_CLR
  | TU_BLKID | TU_CTRL | TU_STATUS | TU_SNAP0 | TU_SNAP1 | TU_SNAP2
  | TU_SNAP3 | TU_SET0 | TU_SET1 | TU_SET2 | TU_SET3 | SRV_CFG
  | SRV_SMP | SRV_HOLD | SRV_FREQ | SRV_ERR | SRV_CNT | VC_CFG
  | VC_GAIN | VC_LIM | VC_NOW | PPS_OUT_CFG | PPS_OUT_OFS | PPS_IN_OFS
  | PPS_IN_TS0 | PPS_IN_TS1 | PPS_IN_CNT | SE_CFG | SE_FERR | TU_CNT_CLR
  | PA_BLKID | SEQ_CFG | SEQ_STATUS | TXON_LIVE | RXON_LIVE | ADAC_LOCK
  | ADAC_LD | SEQ_CNT | SEQ_CNT_CLR | GPIO_OE | GPIO_OUT | GPIO_IN
  | PROF_BIAS | PROF_TX | PROF_RX | PROF_REST | IN_CFG | IN_MON
  | IN_STUCK | IN_STAT | ADAC_CFG | ADAC_CODE | ADAC_SEQ | ADAC_CLR
  | CAL_BLKID | CAL_CFG | CAL_REF | CAL_LIM | CAL_CTRL | CAL_STATUS
  | CAL_JOB | CAL_JOB_AT | CAL_GO | CAL_CNT | CAL_XPH | CAL_CNT_CLR
  | CAL_QSTAT | CAL_DTX | CAL_DRX
  | FD_BLKID | FD_CTRL | FD_STATUS | FD_ENTRY | FD_PC | FD_WDOG
  | FD_DB | FD_DB_CLR | FD_OWNER | FD_FAULT_ADDR | FD_STALL | FD_CYCLE
  | DMA_BLKID | DMA_STATUS | DMA_IRQ | DMA_IRQ_EN | DMA_DRAIN | DMA_DRAINED
  | DMA_CNT_CLR | EXP_QUOTA | DC_CTRL | DC_CFG | DC_DESC | DC_SRC
  | DC_DST | DC_LEN | DC_STATUS | CIRC_BASE | CIRC_LEN | DC_CNT
  | FAB_BLKID | FAB_STATUS | XMON_STATUS | FAB_CLASS | FAB_FROZEN | STILE
  | STILE_PEEK | STILE_FORCE | STILE_CNT | FAB_CNT_CLR | MEM_SPARE | MEM_RETIRE
  | MEM_WB | MEM_CE_S | MEM_CE_B | MEM_UE | MEM_SROW_S | MEM_SROW_B
  | MEM_PASS | MEM_CNT_CLR | WIN0 | WIN1
  | PWR_BLKID | PWR_STATUS | PWR_CHGATE | CLK_CTRL | PWR_TMO | DVFS
  | THERM_BLKID | THERM_CFG | THERM_THR | THERM_STATUS | OTP_TWIN | TEMP
  | SENS_OFS
  | FM_BLKID | FM_STATUS | FM_TOP | FM_PEND | FM_SAFE_FORCE | FM_REC
  | FM_OVF | FM_CLR
  | TH_BLKID | TH_STATUS | TH_KEYS | TH_ARB_LO | TH_ARB_HI | TH_FWVER
  | TH_FWSTG | TH_SVN
  | LK_BLKID | LK_CFG | LK_STATUS | LK_RULE_COND | LK_RULE_ACTION | LK_LOST
  | LK_LOST_B | LK_RING
deriving DecidableEq, Repr

/-- A field of a register row: bits [hi:lo] (R10) and the access code (R14). -/
structure FieldRow where
  hi : Nat
  lo : Nat
  acc : Acc
deriving DecidableEq, Repr

/-- A register row: address of the element with all indices 0, one (count, stride) pair per index (outermost first), the reset
value (`resetWord` gives the few that vary by index), whether the register is shadowed (R22), and its fields. -/
structure RegRow where
  id : RegId
  base : Nat
  dims : List (Nat × Nat)
  rst : Word
  shadowed : Bool
  fields : List FieldRow
deriving DecidableEq, Repr

/-- Registers of the CHB block (part 0). -/
def regRowsCHB0 : List RegRow := [
  ⟨.CH_BLKID, 0x10000000, [(64, 0x10000)], 0, false, [⟨31, 16, .ro⟩, ⟨15, 8, .ro⟩, ⟨7, 0, .ro⟩]⟩,
  ⟨.CH_CTRL, 0x10000004, [(64, 0x10000)], 0x00000100, false, [⟨10, 10, .rw⟩, ⟨8, 8, .rw⟩, ⟨5, 5, .rw⟩, ⟨4, 4, .rw⟩, ⟨1, 1, .rw⟩, ⟨0, 0, .rw⟩]⟩,
  ⟨.CH_STATUS, 0x10000008, [(64, 0x10000)], 0x00000030, false, [⟨19, 19, .w1c⟩, ⟨18, 18, .w1c⟩, ⟨16, 16, .w1c⟩, ⟨12, 12, .ro⟩, ⟨11, 11, .ro⟩, ⟨10, 10, .ro⟩, ⟨9, 9, .ro⟩, ⟨8, 8, .ro⟩, ⟨5, 4, .ro⟩, ⟨3, 3, .ro⟩, ⟨2, 2, .ro⟩, ⟨1, 1, .ro⟩, ⟨0, 0, .ro⟩]⟩,
  ⟨.TX_ATT, 0x10000010, [(64, 0x10000)], 0x0000007F, true, [⟨6, 0, .rw⟩]⟩,
  ⟨.RX_GAIN, 0x10000014, [(64, 0x10000)], 0, true, [⟨5, 0, .rw⟩]⟩,
  ⟨.TX_IQ, 0x10000020, [(64, 0x10000)], 0x00004000, true, [⟨31, 16, .rw⟩, ⟨15, 0, .rw⟩]⟩,
  ⟨.TX_LOL, 0x10000024, [(64, 0x10000)], 0, true, [⟨27, 16, .rw⟩, ⟨11, 0, .rw⟩]⟩,
  ⟨.RX_IQ, 0x10000028, [(64, 0x10000)], 0x00004000, true, [⟨31, 16, .rw⟩, ⟨15, 0, .rw⟩]⟩,
  ⟨.RX_DCO_CTRL, 0x10000040, [(64, 0x10000)], 0x00200212, false, [⟨23, 16, .rw⟩, ⟨9, 9, .rw⟩, ⟨8, 8, .rw⟩, ⟨4, 0, .rw⟩]⟩,
  ⟨.RX_DCO_EST, 0x10000044, [(64, 0x10000)], 0, false, [⟨27, 16, .ro⟩, ⟨11, 0, .ro⟩]⟩,
  ⟨.RX_DCO_TRIM, 0x10000048, [(64, 0x10000)], 0, false, [⟨25, 16, .ro⟩, ⟨9, 0, .ro⟩]⟩,
  ⟨.OVL_CTRL, 0x10000050, [(64, 0x10000)], 0x00040040, false, [⟨19, 16, .rw⟩, ⟨11, 0, .rw⟩]⟩,
  ⟨.RX_CLIPCNT, 0x10000054, [(64, 0x10000)], 0, false, [⟨31, 0, .ro⟩]⟩,
  ⟨.TX_CLIPCNT, 0x10000058, [(64, 0x10000)], 0, false, [⟨31, 0, .ro⟩]⟩,
  ⟨.CH_CNT_CLR, 0x1000005c, [(64, 0x10000)], 0, false, [⟨2, 2, .wo⟩, ⟨1, 1, .wo⟩, ⟨0, 0, .wo⟩]⟩,
  ⟨.RX_OVL_SYM, 0x10000060, [(64, 0x10000)], 0, false, [⟨31, 0, .ro⟩]⟩,
  ⟨.DCO_TABLE, 0x10000100, [(64, 0x10000), (61, 0x4)], 0, false, [⟨25, 16, .rw⟩, ⟨9, 0, .rw⟩]⟩]

/-- All registers of the CHB block. -/
def regRowsCHB : List RegRow := regRowsCHB0

/-- Registers of the LO block (part 0). -/
def regRowsLO0 : List RegRow := [
  ⟨.LO_BLKID, 0x11000000, [], 0x0C100100, false, [⟨31, 16, .ro⟩, ⟨15, 8, .ro⟩, ⟨7, 0, .ro⟩]⟩,
  ⟨.LO_CTRL, 0x11000004, [], 0x00000004, false, [⟨8, 8, .w1s⟩, ⟨2, 2, .rw⟩, ⟨1, 1, .rw⟩, ⟨0, 0, .rw⟩]⟩,
  ⟨.LO_STATUS, 0x11000008, [], 0, false, [⟨27, 27, .ro⟩, ⟨26, 26, .w1c⟩, ⟨25, 25, .ro⟩, ⟨24, 24, .ro⟩, ⟨23, 23, .ro⟩, ⟨22, 20, .ro⟩, ⟨18, 16, .ro⟩, ⟨7, 4, .ro⟩, ⟨3, 0, .ro⟩]⟩,
  ⟨.SYN_N, 0x11000010, [], 0, false, [⟨20, 16, .ro⟩, ⟨4, 0, .ro⟩]⟩,
  ⟨.SYNA_F, 0x11000014, [], 0, false, [⟨31, 0, .ro⟩]⟩,
  ⟨.SYNB_F, 0x11000018, [], 0, false, [⟨31, 0, .ro⟩]⟩,
  ⟨.QLO_CFG, 0x11000020, [(4, 0x4)], 0x000A0000, false, [⟨28, 28, .rw⟩, ⟨26, 24, .ro⟩, ⟨23, 16, .rw⟩, ⟨11, 0, .rw⟩]⟩,
  ⟨.QLO_PHASE, 0x11000030, [(4, 0x4)], 0, false, [⟨16, 16, .ro⟩, ⟨11, 0, .ro⟩]⟩,
  ⟨.TUNE_F, 0x11000040, [], 0, false, [⟨31, 0, .rw⟩]⟩,
  ⟨.TUNE_CFG, 0x11000044, [], 0, false, [⟨27, 16, .rw⟩, ⟨15, 12, .rw⟩, ⟨11, 8, .rw⟩, ⟨6, 6, .rw⟩, ⟨5, 5, .rw⟩, ⟨4, 0, .rw⟩]⟩,
  ⟨.TUNE_AT, 0x11000048, [], 0, false, [⟨9, 0, .rw⟩]⟩,
  ⟨.TUNE_CMD, 0x1100004c, [], 0, false, [⟨31, 16, .ro⟩, ⟨0, 0, .wo⟩]⟩,
  ⟨.LO_CNT, 0x11000050, [(4, 0x4)], 0, false, [⟨31, 16, .ro⟩, ⟨15, 0, .ro⟩]⟩,
  ⟨.SYN_CNT, 0x11000060, [], 0, false, [⟨31, 24, .ro⟩, ⟨23, 16, .ro⟩, ⟨15, 8, .ro⟩, ⟨7, 0, .ro⟩]⟩,
  ⟨.LO_CNT_CLR, 0x11000064, [], 0, false, [⟨0, 0, .wo⟩]⟩]

/-- All registers of the LO block. -/
def regRowsLO : List RegRow := regRowsLO0

/-- Registers of the DFE block (part 0). -/
def regRowsDFE0 : List RegRow := [
  ⟨.DFE_BLKID, 0x11100000, [], 0x0C110100, false, [⟨31, 16, .ro⟩, ⟨15, 8, .ro⟩, ⟨7, 0, .ro⟩]⟩,
  ⟨.DFE_STATUS, 0x11100004, [], 0, false, [⟨16, 16, .w1c⟩, ⟨11, 8, .w1c⟩, ⟨3, 0, .ro⟩]⟩,
  ⟨.DFE_SAT, 0x11100008, [], 0, false, [⟨23, 16, .w1c⟩, ⟨11, 8, .w1c⟩, ⟨7, 4, .w1c⟩, ⟨3, 0, .w1c⟩]⟩,
  ⟨.CS_RF_LO, 0x11100100, [(2, 0x40), (8, 0x8)], 0, true, [⟨31, 0, .rw⟩]⟩,
  ⟨.CS_RF_HI, 0x11100104, [(2, 0x40), (8, 0x8)], 0, true, [⟨9, 0, .rw⟩]⟩,
  ⟨.CS_TX_GAIN, 0x11100180, [(8, 0x4)], 0x00004000, true, [⟨15, 0, .rw⟩]⟩,
  ⟨.CS_RX_DG, 0x111001a0, [(8, 0x4)], 0x00004000, true, [⟨18, 16, .rw⟩, ⟨15, 0, .rw⟩]⟩,
  ⟨.NCO_NOW_LO, 0x11100200, [(2, 0x100), (4, 0x40), (8, 0x8)], 0, false, [⟨31, 0, .ro⟩]⟩,
  ⟨.NCO_NOW_HI, 0x11100204, [(2, 0x100), (4, 0x40), (8, 0x8)], 0, false, [⟨31, 0, .ro⟩]⟩,
  ⟨.CFR_CFG, 0x11100400, [(4, 0x4)], 0x007F0046, true, [⟨23, 16, .rw⟩, ⟨9, 9, .ro⟩, ⟨8, 8, .rw⟩, ⟨7, 4, .rw⟩, ⟨3, 3, .rw⟩, ⟨2, 1, .rw⟩, ⟨0, 0, .rw⟩]⟩,
  ⟨.CFR_THR, 0x11100410, [(4, 0x10), (4, 0x4)], 0x0001FFFF, true, [⟨16, 0, .rw⟩]⟩,
  ⟨.CFR_HC, 0x11100450, [(4, 0x4)], 0x0001FFFF, true, [⟨16, 0, .rw⟩]⟩,
  ⟨.CFR_PEAKS, 0x11100460, [(4, 0x4)], 0, false, [⟨31, 0, .ro⟩]⟩,
  ⟨.CFR_MISSED, 0x11100470, [(4, 0x4)], 0, false, [⟨31, 0, .ro⟩]⟩,
  ⟨.CFR_HCLIP, 0x11100480, [(4, 0x4)], 0, false, [⟨31, 0, .ro⟩]⟩,
  ⟨.CFR_CNT_CLR, 0x11100490, [], 0, false, [⟨0, 0, .wo⟩]⟩,
  ⟨.ORX_CFG, 0x11100500, [(8, 0x4)], 0x0040001F, false, [⟨31, 31, .ro⟩, ⟨30, 28, .ro⟩, ⟨25, 16, .rw⟩, ⟨4, 0, .rw⟩]⟩,
  ⟨.CAP_ADDR, 0x11100600, [(8, 0x20)], 0, false, [⟨31, 5, .rw⟩]⟩,
  ⟨.CAP_LEN, 0x11100604, [(8, 0x20)], 0, false, [⟨15, 0, .rw⟩]⟩,
  ⟨.CAP_CFG, 0x11100608, [(8, 0x20)], 0, false, [⟨23, 20, .rw⟩, ⟨18, 16, .rw⟩, ⟨13, 8, .rw⟩, ⟨6, 6, .rw⟩, ⟨5, 4, .rw⟩, ⟨3, 0, .rw⟩]⟩]

/-- Registers of the DFE block (part 1). -/
def regRowsDFE1 : List RegRow := [
  ⟨.CAP_AT, 0x1110060c, [(8, 0x20)], 0, false, [⟨22, 0, .rw⟩]⟩,
  ⟨.CAP_CTRL, 0x11100610, [(8, 0x20)], 0, false, [⟨25, 16, .rw⟩, ⟨1, 1, .wo⟩, ⟨0, 0, .wo⟩]⟩,
  ⟨.CAP_STAT, 0x11100614, [(8, 0x20)], 0, false, [⟨25, 16, .ro⟩, ⟨4, 4, .w1c⟩, ⟨3, 3, .ro⟩, ⟨2, 0, .ro⟩]⟩,
  ⟨.CAP_COUNT, 0x11100618, [(8, 0x20)], 0, false, [⟨16, 0, .ro⟩]⟩,
  ⟨.CAP_TS, 0x1110061c, [(8, 0x20)], 0, false, [⟨22, 0, .ro⟩]⟩,
  ⟨.PB_ADDR, 0x11100700, [], 0, false, [⟨31, 5, .rw⟩]⟩,
  ⟨.PB_LEN, 0x11100704, [], 0, false, [⟨15, 0, .rw⟩]⟩,
  ⟨.PB_CFG, 0x11100708, [], 0, false, [⟨13, 8, .rw⟩, ⟨7, 4, .rw⟩, ⟨1, 1, .rw⟩, ⟨0, 0, .rw⟩]⟩,
  ⟨.PB_CTRL, 0x1110070c, [], 0, false, [⟨31, 16, .ro⟩, ⟨2, 2, .ro⟩, ⟨1, 1, .wo⟩, ⟨0, 0, .wo⟩]⟩,
  ⟨.CFR_PULSE, 0x11102000, [(4, 0x800), (2, 0x400), (256, 0x4)], 0, false, [⟨31, 16, .rw⟩, ⟨15, 0, .rw⟩]⟩,
  ⟨.PD_CFG, 0x11104004, [], 0x00641040, false, [⟨27, 16, .rw⟩, ⟨15, 8, .rw⟩, ⟨7, 4, .rw⟩, ⟨0, 0, .rw⟩]⟩,
  ⟨.PD_STATUS, 0x11104008, [], 0, false, [⟨18, 18, .w1c⟩, ⟨17, 17, .w1c⟩, ⟨16, 16, .w1c⟩, ⟨15, 0, .ro⟩]⟩,
  ⟨.PD_CNT_CLR, 0x1110400c, [], 0, false, [⟨0, 0, .wo⟩]⟩,
  ⟨.PD_TSEL, 0x11104010, [(4, 0x4)], 0, false, [⟨18, 16, .ro⟩, ⟨4, 0, .rw⟩]⟩,
  ⟨.PD_REPAIR, 0x11104020, [(4, 0x4)], 0, false, [⟨31, 16, .ro⟩, ⟨9, 9, .ro⟩, ⟨8, 8, .ro⟩, ⟨5, 0, .ro⟩]⟩,
  ⟨.PD_CHCFG, 0x11105000, [(64, 0x80)], 0, false, [⟨10, 8, .rw⟩, ⟨1, 1, .rw⟩, ⟨0, 0, .rw⟩]⟩,
  ⟨.PD_NBR, 0x11105004, [(64, 0x80)], 0, false, [⟨31, 31, .rw⟩, ⟨29, 24, .rw⟩, ⟨23, 23, .rw⟩, ⟨21, 16, .rw⟩, ⟨15, 15, .rw⟩, ⟨13, 8, .rw⟩, ⟨7, 7, .rw⟩, ⟨5, 0, .rw⟩]⟩,
  ⟨.PD_TBMAP, 0x11105008, [(64, 0x80)], 0, false, [⟨14, 0, .rw⟩]⟩,
  ⟨.PD_BYP_G, 0x1110500c, [(64, 0x80)], 0x00004000, false, [⟨15, 0, .rw⟩]⟩,
  ⟨.PD_CMD, 0x11105010, [(64, 0x80)], 0, false, [⟨10, 8, .rw⟩, ⟨1, 1, .wo⟩, ⟨0, 0, .wo⟩]⟩]

/-- Registers of the DFE block (part 2). -/
def regRowsDFE2 : List RegRow := [
  ⟨.PD_STATE, 0x11105014, [(64, 0x80)], 0, false, [⟨30, 28, .ro⟩, ⟨26, 24, .ro⟩, ⟨21, 21, .w1c⟩, ⟨20, 20, .ro⟩, ⟨18, 16, .ro⟩, ⟨14, 12, .ro⟩, ⟨10, 8, .ro⟩, ⟨6, 4, .ro⟩, ⟨2, 0, .ro⟩]⟩,
  ⟨.PD_ACL, 0x11105018, [(64, 0x80)], 0, false, [⟨31, 16, .rw⟩, ⟨15, 0, .rw⟩]⟩,
  ⟨.PD_CNT, 0x1110501c, [(64, 0x80)], 0, false, [⟨31, 16, .ro⟩, ⟨15, 0, .ro⟩]⟩,
  ⟨.PD_TERMS, 0x11105040, [(64, 0x80), (16, 0x4)], 0, false, [⟨31, 0, .rw⟩]⟩,
  ⟨.COEF_I, 0x11110000, [(64, 0x1400), (8, 0x280), (80, 0x8)], 0, false, [⟨23, 0, .rw⟩]⟩,
  ⟨.COEF_Q, 0x11110004, [(64, 0x1400), (8, 0x280), (80, 0x8)], 0, false, [⟨23, 0, .rw⟩]⟩]

/-- All registers of the DFE block. -/
def regRowsDFE : List RegRow := regRowsDFE0 ++ regRowsDFE1 ++ regRowsDFE2

/-- Registers of the LP block (part 0). -/
def regRowsLP0 : List RegRow := [
  ⟨.LP_BLKID, 0x11200000, [], 0x0C120100, false, [⟨31, 16, .ro⟩, ⟨15, 8, .ro⟩, ⟨7, 0, .ro⟩]⟩,
  ⟨.LP_STATUS, 0x11200004, [], 0, false, [⟨25, 16, .ro⟩, ⟨8, 8, .w1c⟩, ⟨3, 0, .ro⟩]⟩,
  ⟨.FRAME_CFG, 0x11200008, [], 0, false, [⟨22, 0, .rw⟩]⟩,
  ⟨.TA_CFG, 0x1120000c, [], 0, false, [⟨12, 0, .rw⟩]⟩,
  ⟨.SLOT_CTRL, 0x11200010, [], 0, false, [⟨2, 2, .wo⟩, ⟨1, 1, .wo⟩, ⟨0, 0, .wo⟩]⟩,
  ⟨.SLOT_STATUS, 0x11200014, [], 0, false, [⟨26, 16, .ro⟩, ⟨7, 7, .w1c⟩, ⟨6, 6, .w1c⟩, ⟨5, 5, .w1c⟩, ⟨3, 3, .ro⟩, ⟨2, 2, .ro⟩, ⟨1, 1, .ro⟩, ⟨0, 0, .ro⟩]⟩,
  ⟨.SLOT_MU, 0x11200018, [(2, 0x4)], 0, false, [⟨1, 0, .rw⟩]⟩,
  ⟨.LP_SAT, 0x11200020, [], 0, false, [⟨15, 8, .w1c⟩, ⟨7, 0, .w1c⟩]⟩,
  ⟨.DIR_MISMATCH, 0x11200024, [], 0, false, [⟨31, 0, .ro⟩]⟩,
  ⟨.LP_CNT_CLR, 0x11200028, [], 0, false, [⟨0, 0, .wo⟩]⟩,
  ⟨.CS_CFG, 0x11200100, [(2, 0x40), (8, 0x8)], 0x1F000000, false, [⟨31, 31, .ro⟩, ⟨30, 30, .rw⟩, ⟨28, 24, .ro⟩, ⟨23, 20, .rw⟩, ⟨18, 16, .rw⟩, ⟨15, 12, .rw⟩, ⟨8, 0, .rw⟩]⟩,
  ⟨.CS_FFT, 0x11200104, [(2, 0x40), (8, 0x8)], 0x00146000, true, [⟨25, 20, .rw⟩, ⟨19, 18, .rw⟩, ⟨15, 12, .rw⟩, ⟨9, 0, .rw⟩]⟩,
  ⟨.CS_F0_LO, 0x11200180, [(2, 0x40), (8, 0x8)], 0, true, [⟨31, 0, .rw⟩]⟩,
  ⟨.CS_F0_HI, 0x11200184, [(2, 0x40), (8, 0x8)], 0, true, [⟨9, 0, .rw⟩]⟩,
  ⟨.CS_BUF, 0x11200200, [(8, 0x4)], 0, false, [⟨31, 24, .rw⟩, ⟨13, 0, .rw⟩]⟩,
  ⟨.PR_CTRL, 0x11200280, [(4, 0x20)], 0, true, [⟨31, 31, .rw⟩, ⟨30, 28, .rw⟩, ⟨27, 26, .rw⟩, ⟨25, 22, .rw⟩, ⟨21, 21, .rw⟩, ⟨20, 18, .rw⟩, ⟨17, 14, .rw⟩]⟩,
  ⟨.PR_START, 0x11200284, [(4, 0x20)], 0, true, [⟨22, 0, .rw⟩]⟩,
  ⟨.PR_CP, 0x11200288, [(4, 0x20)], 0, true, [⟨17, 0, .rw⟩]⟩,
  ⟨.PR_FOFF, 0x1120028c, [(4, 0x20)], 0, true, [⟨19, 0, .rw⟩]⟩,
  ⟨.PR_STAT, 0x11200290, [(4, 0x20)], 0, false, [⟨31, 16, .ro⟩, ⟨15, 0, .ro⟩]⟩]

/-- Registers of the LP block (part 1). -/
def regRowsLP1 : List RegRow := [
  ⟨.SMEM_PART, 0x11200300, [(6, 0x4)], 0, false, [⟨24, 16, .rw⟩, ⟨8, 0, .rw⟩]⟩,
  ⟨.SLOT_TBL, 0x11210000, [(2, 0x2000), (2048, 0x4)], 0, false, [⟨11, 8, .rw⟩, ⟨6, 6, .rw⟩, ⟨5, 2, .rw⟩, ⟨1, 0, .rw⟩]⟩]

/-- All registers of the LP block. -/
def regRowsLP : List RegRow := regRowsLP0 ++ regRowsLP1

/-- Registers of the BF block (part 0). -/
def regRowsBF0 : List RegRow := [
  ⟨.BF_BLKID, 0x11300000, [], 0x0C130100, false, [⟨31, 16, .ro⟩, ⟨15, 8, .ro⟩, ⟨7, 0, .ro⟩]⟩,
  ⟨.BF_STATUS, 0x11300004, [], 0, false, [⟨16, 16, .w1c⟩, ⟨2, 0, .ro⟩]⟩,
  ⟨.BF_SHIFT, 0x11300008, [], 0, true, [⟨18, 16, .rw⟩, ⟨2, 0, .rw⟩]⟩,
  ⟨.BT_OWN, 0x11300010, [(4, 0x4)], 0x1F1F1F1F, false, [⟨28, 24, .ro⟩, ⟨20, 16, .ro⟩, ⟨12, 8, .ro⟩, ⟨4, 0, .ro⟩]⟩,
  ⟨.BF_LMAP, 0x11300040, [(2, 0x20), (8, 0x4)], 0x80000200, true, [⟨31, 16, .rw⟩, ⟨10, 8, .rw⟩, ⟨4, 0, .rw⟩]⟩,
  ⟨.WS_CFG, 0x11300100, [(16, 0x4)], 0x00010200, false, [⟨31, 31, .ro⟩, ⟨30, 30, .rw⟩, ⟨21, 16, .rw⟩, ⟨13, 12, .rw⟩, ⟨10, 8, .rw⟩, ⟨4, 4, .rw⟩, ⟨2, 0, .rw⟩]⟩,
  ⟨.BF_REPAIR, 0x11300180, [(4, 0x4)], 0, false, [⟨31, 16, .ro⟩, ⟨9, 9, .ro⟩, ⟨8, 8, .ro⟩, ⟨5, 0, .ro⟩]⟩,
  ⟨.DL_SAT, 0x113001a0, [], 0, false, [⟨31, 0, .ro⟩]⟩,
  ⟨.UL_LSAT, 0x113001a4, [], 0, false, [⟨31, 0, .ro⟩]⟩,
  ⟨.POISON_RE, 0x113001a8, [], 0, false, [⟨31, 0, .ro⟩]⟩,
  ⟨.WPOISON, 0x113001ac, [], 0, false, [⟨31, 0, .ro⟩]⟩,
  ⟨.BAD_REF, 0x113001b0, [], 0, false, [⟨31, 0, .ro⟩]⟩,
  ⟨.SET_WR_REFUSED, 0x113001b4, [], 0, false, [⟨31, 0, .ro⟩]⟩,
  ⟨.RESIDUE, 0x113001b8, [], 0, false, [⟨31, 0, .ro⟩]⟩,
  ⟨.BF_CNT_CLR, 0x113001c0, [], 0, false, [⟨0, 0, .wo⟩]⟩,
  ⟨.STEER_CTRL, 0x11300200, [], 0x00000001, false, [⟨0, 0, .rw⟩]⟩,
  ⟨.STEER_STATUS, 0x11300204, [], 0, false, [⟨22, 16, .ro⟩, ⟨13, 8, .ro⟩, ⟨0, 0, .ro⟩]⟩,
  ⟨.STEER_CNT0, 0x11300208, [], 0, false, [⟨31, 16, .ro⟩, ⟨15, 0, .ro⟩]⟩,
  ⟨.STEER_CNT1, 0x1130020c, [], 0, false, [⟨31, 16, .ro⟩, ⟨15, 0, .ro⟩]⟩,
  ⟨.STEER_DONE, 0x11300210, [], 0, false, [⟨31, 0, .ro⟩]⟩]

/-- Registers of the BF block (part 1). -/
def regRowsBF1 : List RegRow := [
  ⟨.STEER_REQ, 0x11300220, [(3, 0x4)], 0, false, [⟨31, 0, .rw⟩]⟩,
  ⟨.STEER_GO, 0x1130022c, [], 0, false, [⟨0, 0, .wo⟩]⟩,
  ⟨.PRB_CFG, 0x11300300, [(4, 0x20)], 0, true, [⟨3, 0, .rw⟩]⟩,
  ⟨.PRB_ID, 0x11300304, [(4, 0x20), (4, 0x4)], 0, true, [⟨27, 16, .rw⟩, ⟨11, 0, .rw⟩]⟩,
  ⟨.BL_STAGE, 0x11300400, [(48, 0x4)], 0, false, [⟨31, 0, .rw⟩]⟩,
  ⟨.BL_TGT, 0x113004c0, [], 0, false, [⟨31, 30, .rw⟩, ⟨19, 16, .rw⟩, ⟨13, 0, .rw⟩]⟩,
  ⟨.BL_APPLY, 0x113004c4, [], 0, false, [⟨31, 22, .rw⟩, ⟨21, 21, .rw⟩, ⟨18, 16, .rw⟩, ⟨15, 15, .rw⟩, ⟨11, 0, .rw⟩]⟩,
  ⟨.BL_GO, 0x113004c8, [], 0, false, [⟨31, 16, .ro⟩, ⟨0, 0, .wo⟩]⟩,
  ⟨.GEOM_ADDR, 0x113004d0, [], 0, false, [⟨14, 2, .rw⟩]⟩,
  ⟨.GEOM_DATA, 0x113004d4, [], 0, false, [⟨31, 0, .rw⟩]⟩,
  ⟨.BEAM_PAGE, 0x11301000, [(128, 0x4)], 0, false, [⟨31, 0, .ro⟩]⟩]

/-- All registers of the BF block. -/
def regRowsBF : List RegRow := regRowsBF0 ++ regRowsBF1

/-- Registers of the HP block (part 0). -/
def regRowsHP0 : List RegRow := [
  ⟨.HP_BLKID, 0x11400000, [], 0x0C140100, false, [⟨31, 16, .ro⟩, ⟨15, 8, .ro⟩, ⟨7, 0, .ro⟩]⟩,
  ⟨.HP_CTRL, 0x11400004, [], 0, false, [⟨23, 16, .rw⟩, ⟨11, 11, .rw⟩, ⟨10, 10, .rw⟩, ⟨9, 9, .rw⟩, ⟨8, 8, .rw⟩, ⟨6, 4, .rw⟩, ⟨0, 0, .rw⟩]⟩,
  ⟨.HP_STATUS, 0x11400008, [], 0, false, [⟨17, 17, .ro⟩, ⟨16, 16, .w1c⟩, ⟨15, 8, .ro⟩, ⟨7, 0, .ro⟩]⟩,
  ⟨.HP_MAC_LO, 0x11400010, [], 0, false, [⟨31, 0, .rw⟩]⟩,
  ⟨.HP_MAC_HI, 0x11400014, [], 0, false, [⟨15, 0, .rw⟩]⟩,
  ⟨.HP_VLAN, 0x11400018, [], 0, false, [⟨14, 12, .rw⟩, ⟨11, 0, .rw⟩]⟩,
  ⟨.HP_IP6, 0x11400020, [(4, 0x4)], 0, false, [⟨31, 0, .rw⟩]⟩,
  ⟨.HP_UDP, 0x11400030, [], 0x0000C000, false, [⟨15, 0, .rw⟩]⟩,
  ⟨.HP_FWD_CNT, 0x11400040, [], 0, false, [⟨31, 16, .ro⟩, ⟨15, 0, .ro⟩]⟩,
  ⟨.HP_TC_CNT, 0x11400044, [], 0, false, [⟨31, 16, .ro⟩, ⟨15, 0, .ro⟩]⟩,
  ⟨.HP_CNT_CLR, 0x11400048, [], 0, false, [⟨0, 0, .wo⟩]⟩,
  ⟨.RX_FRAMES, 0x11400100, [(8, 0x20)], 0, false, [⟨31, 0, .ro⟩]⟩,
  ⟨.RX_DROP, 0x11400104, [(8, 0x20)], 0, false, [⟨31, 0, .ro⟩]⟩,
  ⟨.FEC_CORR, 0x11400108, [(8, 0x20)], 0, false, [⟨31, 0, .ro⟩]⟩,
  ⟨.FEC_UNCORR, 0x1140010c, [(8, 0x20)], 0, false, [⟨31, 0, .ro⟩]⟩,
  ⟨.TX_FRAMES, 0x11400110, [(8, 0x20)], 0, false, [⟨31, 0, .ro⟩]⟩,
  ⟨.LQ_CNT, 0x11400114, [(8, 0x20)], 0, false, [⟨31, 20, .ro⟩, ⟨19, 8, .ro⟩, ⟨7, 0, .ro⟩]⟩,
  ⟨.TS_ADJ, 0x11400118, [(8, 0x20)], 0, false, [⟨31, 16, .rw⟩, ⟨15, 0, .rw⟩]⟩,
  ⟨.LQ_DESC0, 0x11400200, [], 0, false, [⟨31, 0, .rw⟩]⟩,
  ⟨.LQ_DESC1, 0x11400204, [], 0, false, [⟨31, 18, .rw⟩, ⟨17, 16, .rw⟩, ⟨15, 13, .rw⟩, ⟨12, 12, .rw⟩, ⟨11, 11, .rw⟩, ⟨10, 0, .rw⟩]⟩]

/-- Registers of the HP block (part 1). -/
def regRowsHP1 : List RegRow := [
  ⟨.LQ_DESC2, 0x11400208, [], 0, false, [⟨31, 0, .rw⟩]⟩,
  ⟨.LQ_DESC3, 0x1140020c, [], 0, false, [⟨15, 0, .rw⟩]⟩,
  ⟨.LQ_POST, 0x11400210, [], 0, false, [⟨0, 0, .wo⟩]⟩,
  ⟨.LQ_STATUS, 0x11400214, [], 0, false, [⟨31, 16, .ro⟩, ⟨6, 0, .ro⟩]⟩,
  ⟨.SP_CFG, 0x11400300, [], 0x01E00002, false, [⟨28, 16, .rw⟩, ⟨1, 1, .rw⟩]⟩,
  ⟨.SP_STATUS, 0x11400304, [], 0, false, [⟨31, 16, .ro⟩, ⟨15, 0, .ro⟩]⟩,
  ⟨.SP_STORE, 0x11400308, [], 0x00002000, false, [⟨13, 0, .ro⟩]⟩,
  ⟨.SP_CNT0, 0x11400310, [], 0, false, [⟨31, 16, .ro⟩, ⟨15, 0, .ro⟩]⟩,
  ⟨.SP_CNT1, 0x11400314, [], 0, false, [⟨31, 16, .ro⟩, ⟨15, 0, .ro⟩]⟩,
  ⟨.SP_CNT2, 0x11400318, [], 0, false, [⟨31, 16, .ro⟩, ⟨15, 0, .ro⟩]⟩,
  ⟨.SP_CNT3, 0x1140031c, [], 0, false, [⟨31, 16, .ro⟩, ⟨15, 0, .ro⟩]⟩,
  ⟨.SP_CNT4, 0x11400320, [], 0, false, [⟨31, 16, .ro⟩, ⟨15, 0, .ro⟩]⟩,
  ⟨.SP_CNT_CLR, 0x11400324, [], 0, false, [⟨0, 0, .wo⟩]⟩,
  ⟨.SP_WIN0, 0x11400340, [(2, 0x40), (8, 0x8)], 0, false, [⟨31, 16, .ro⟩, ⟨15, 0, .ro⟩]⟩,
  ⟨.SP_WIN1, 0x11400344, [(2, 0x40), (8, 0x8)], 0, false, [⟨31, 16, .ro⟩, ⟨15, 0, .ro⟩]⟩,
  ⟨.CS_UL_FMT, 0x114003c0, [(8, 0x8)], 0x88801040, true, [⟨31, 23, .rw⟩, ⟨22, 20, .rw⟩, ⟨19, 16, .rw⟩, ⟨15, 12, .rw⟩, ⟨11, 0, .rw⟩]⟩,
  ⟨.CS_UL_PR, 0x114003c4, [(8, 0x8)], 0x00000040, true, [⟨11, 0, .rw⟩]⟩,
  ⟨.SESS_SRC, 0x11400400, [(16, 0x20), (6, 0x4)], 0, false, [⟨31, 0, .rw⟩]⟩,
  ⟨.CMD_CFG, 0x11400800, [], 0x00051388, false, [⟨31, 31, .rwl⟩, ⟨20, 20, .rw⟩, ⟨19, 16, .rw⟩, ⟨15, 0, .rw⟩]⟩,
  ⟨.CMD_AGE, 0x11400804, [], 0x00001388, false, [⟨15, 0, .rw⟩]⟩]

/-- Registers of the HP block (part 2). -/
def regRowsHP2 : List RegRow := [
  ⟨.CMD_QOCC, 0x11400810, [(4, 0x4)], 0, false, [⟨23, 16, .ro⟩, ⟨7, 0, .ro⟩]⟩,
  ⟨.CMD_LAT0, 0x11400828, [(3, 0x8)], 0, false, [⟨31, 16, .ro⟩, ⟨15, 0, .ro⟩]⟩,
  ⟨.CMD_LAT1, 0x1140082c, [(3, 0x8)], 0, false, [⟨31, 16, .ro⟩, ⟨15, 0, .ro⟩]⟩,
  ⟨.CMD_CNT0, 0x11400840, [], 0, false, [⟨31, 16, .ro⟩, ⟨15, 0, .ro⟩]⟩,
  ⟨.CMD_CNT1, 0x11400844, [], 0, false, [⟨31, 16, .ro⟩, ⟨15, 0, .ro⟩]⟩,
  ⟨.CMD_CNT2, 0x11400848, [], 0, false, [⟨31, 16, .ro⟩, ⟨15, 0, .ro⟩]⟩,
  ⟨.CMD_CNT3, 0x1140084c, [], 0, false, [⟨31, 16, .ro⟩, ⟨15, 0, .ro⟩]⟩,
  ⟨.CMD_CNT_CLR, 0x11400850, [], 0, false, [⟨0, 0, .wo⟩]⟩,
  ⟨.SESS_STAT, 0x11400880, [(16, 0x4)], 0, false, [⟨31, 29, .ro⟩, ⟨28, 28, .ro⟩, ⟨27, 26, .ro⟩, ⟨25, 23, .ro⟩, ⟨22, 16, .ro⟩, ⟨15, 8, .ro⟩, ⟨7, 4, .ro⟩]⟩]

/-- All registers of the HP block. -/
def regRowsHP : List RegRow := regRowsHP0 ++ regRowsHP1 ++ regRowsHP2

/-- Registers of the HG block (part 0). -/
def regRowsHG0 : List RegRow := [
  ⟨.HG_BLKID, 0x11500000, [(4, 0x10000)], 0, false, [⟨31, 16, .ro⟩, ⟨15, 8, .ro⟩, ⟨7, 0, .ro⟩]⟩,
  ⟨.HG_CTRL, 0x11500004, [(4, 0x10000)], 0x00802102, false, [⟨23, 19, .rw⟩, ⟨17, 16, .rw⟩, ⟨13, 12, .rw⟩, ⟨8, 8, .rw⟩, ⟨4, 4, .rw⟩, ⟨3, 3, .wo⟩, ⟨1, 1, .rw⟩, ⟨0, 0, .rw⟩]⟩,
  ⟨.HG_STATUS, 0x11500008, [(4, 0x10000)], 0, false, [⟨31, 28, .ro⟩, ⟨27, 24, .ro⟩, ⟨23, 23, .w1c⟩, ⟨22, 22, .ro⟩, ⟨21, 20, .ro⟩, ⟨17, 17, .ro⟩, ⟨16, 16, .ro⟩, ⟨12, 8, .ro⟩, ⟨4, 0, .ro⟩]⟩,
  ⟨.HG_RX_LANES, 0x1150000c, [(4, 0x10000)], 0, false, [⟨23, 0, .ro⟩]⟩,
  ⟨.HG_TX_LANES, 0x11500010, [(4, 0x10000)], 0, false, [⟨23, 0, .ro⟩]⟩,
  ⟨.HG_RETIRE, 0x11500014, [(4, 0x10000)], 0, false, [⟨23, 0, .rw⟩]⟩,
  ⟨.HG_LAT, 0x11500018, [(4, 0x10000)], 0, false, [⟨12, 8, .ro⟩, ⟨4, 0, .ro⟩]⟩,
  ⟨.HG_ERR_CFG, 0x1150001c, [(4, 0x10000)], 0x00000040, false, [⟨15, 0, .rw⟩]⟩,
  ⟨.HG_CAP_LOCAL, 0x11500020, [(4, 0x10000), (8, 0x4)], 0, false, [⟨31, 0, .ro⟩]⟩,
  ⟨.HG_CAP_PEER, 0x11500040, [(4, 0x10000), (8, 0x4)], 0, false, [⟨31, 0, .ro⟩]⟩,
  ⟨.HG_CNT0, 0x11500060, [(4, 0x10000)], 0, false, [⟨31, 16, .ro⟩, ⟨15, 0, .ro⟩]⟩,
  ⟨.HG_CNT1, 0x11500064, [(4, 0x10000)], 0, false, [⟨31, 16, .ro⟩, ⟨15, 0, .ro⟩]⟩,
  ⟨.HG_CNT_CLR, 0x11500068, [(4, 0x10000)], 0, false, [⟨0, 0, .wo⟩]⟩,
  ⟨.HG_LANE_ERR, 0x11500100, [(4, 0x10000), (24, 0x4)], 0, false, [⟨31, 0, .ro⟩]⟩,
  ⟨.HG_EQ, 0x11500180, [(4, 0x10000), (24, 0x4)], 0, false, [⟨31, 31, .ro⟩, ⟨23, 16, .ro⟩, ⟨15, 8, .ro⟩, ⟨7, 0, .ro⟩]⟩,
  ⟨.CASC_STATUS, 0x11501000, [], 0, false, [⟨31, 28, .ro⟩, ⟨26, 24, .ro⟩, ⟨23, 14, .ro⟩, ⟨13, 13, .w1c⟩, ⟨12, 12, .ro⟩, ⟨11, 11, .ro⟩, ⟨10, 10, .ro⟩, ⟨7, 7, .ro⟩, ⟨6, 6, .ro⟩, ⟨5, 0, .ro⟩]⟩,
  ⟨.CASC_CTRL, 0x11501004, [], 0, false, [⟨25, 16, .rw⟩, ⟨2, 2, .rw⟩, ⟨1, 1, .wo⟩, ⟨0, 0, .wo⟩]⟩,
  ⟨.PLAN_A, 0x11501010, [(2, 0x8)], 0, false, [⟨20, 18, .rw⟩, ⟨17, 15, .rw⟩, ⟨9, 8, .rw⟩, ⟨7, 0, .rw⟩]⟩,
  ⟨.PLAN_B, 0x11501014, [(2, 0x8)], 0, false, [⟨31, 16, .rw⟩, ⟨12, 0, .rw⟩]⟩,
  ⟨.ROUTE, 0x11501040, [(2, 0x20), (8, 0x4)], 0, false, [⟨31, 31, .rw⟩, ⟨29, 28, .rw⟩, ⟨27, 27, .rw⟩, ⟨25, 24, .rw⟩, ⟨23, 23, .rw⟩, ⟨21, 20, .rw⟩, ⟨19, 19, .rw⟩, ⟨17, 16, .rw⟩, ⟨15, 15, .rw⟩, ⟨13, 12, .rw⟩, ⟨11, 11, .rw⟩, ⟨9, 8, .rw⟩, ⟨7, 7, .rw⟩, ⟨5, 4, .rw⟩, ⟨3, 3, .rw⟩, ⟨1, 0, .rw⟩]⟩]

/-- Registers of the HG block (part 1). -/
def regRowsHG1 : List RegRow := [
  ⟨.CASC_CNT0, 0x11501080, [], 0, false, [⟨31, 16, .ro⟩, ⟨15, 0, .ro⟩]⟩,
  ⟨.CASC_CNT1, 0x11501084, [], 0, false, [⟨31, 16, .ro⟩, ⟨15, 8, .ro⟩, ⟨7, 0, .ro⟩]⟩,
  ⟨.TIME_DELTA, 0x11501090, [], 0, false, [⟨31, 0, .ro⟩]⟩,
  ⟨.CHILD_CNT0, 0x11501100, [(4, 0x10)], 0, false, [⟨31, 16, .ro⟩, ⟨15, 0, .ro⟩]⟩,
  ⟨.CHILD_CNT1, 0x11501104, [(4, 0x10)], 0, false, [⟨31, 16, .ro⟩, ⟨15, 0, .ro⟩]⟩,
  ⟨.SUM_SAT, 0x11501108, [(4, 0x10)], 0, false, [⟨31, 0, .ro⟩]⟩,
  ⟨.CASC_CNT_CLR, 0x11501140, [], 0, false, [⟨0, 0, .wo⟩]⟩]

/-- All registers of the HG block. -/
def regRowsHG : List RegRow := regRowsHG0 ++ regRowsHG1

/-- Registers of the TU block (part 0). -/
def regRowsTU0 : List RegRow := [
  ⟨.TU_BLKID, 0x11600000, [], 0x0C160100, false, [⟨31, 16, .ro⟩, ⟨15, 8, .ro⟩, ⟨7, 0, .ro⟩]⟩,
  ⟨.TU_CTRL, 0x11600004, [], 0x00000020, false, [⟨11, 10, .rw⟩, ⟨9, 8, .rw⟩, ⟨6, 6, .wo⟩, ⟨5, 5, .rw⟩, ⟨4, 4, .rw⟩, ⟨2, 2, .wo⟩, ⟨1, 1, .wo⟩]⟩,
  ⟨.TU_STATUS, 0x11600008, [], 0, false, [⟨18, 18, .ro⟩, ⟨17, 17, .w1c⟩, ⟨16, 16, .w1c⟩, ⟨13, 13, .ro⟩, ⟨12, 12, .ro⟩, ⟨10, 8, .ro⟩, ⟨6, 4, .ro⟩, ⟨1, 0, .ro⟩]⟩,
  ⟨.TU_SNAP0, 0x11600010, [], 0, false, [⟨15, 0, .ro⟩]⟩,
  ⟨.TU_SNAP1, 0x11600014, [], 0, false, [⟨31, 0, .ro⟩]⟩,
  ⟨.TU_SNAP2, 0x11600018, [], 0, false, [⟨31, 0, .ro⟩]⟩,
  ⟨.TU_SNAP3, 0x1160001c, [], 0, false, [⟨15, 0, .ro⟩]⟩,
  ⟨.TU_SET0, 0x11600020, [], 0, false, [⟨15, 0, .rw⟩]⟩,
  ⟨.TU_SET1, 0x11600024, [], 0, false, [⟨31, 0, .rw⟩]⟩,
  ⟨.TU_SET2, 0x11600028, [], 0, false, [⟨31, 0, .rw⟩]⟩,
  ⟨.TU_SET3, 0x1160002c, [], 0, false, [⟨15, 0, .rw⟩]⟩,
  ⟨.SRV_CFG, 0x11600040, [(2, 0x20)], 0, false, [⟨24, 24, .rw⟩, ⟨22, 16, .rw⟩, ⟨12, 8, .rw⟩, ⟨4, 0, .rw⟩]⟩,
  ⟨.SRV_SMP, 0x11600044, [(2, 0x20)], 0, false, [⟨31, 0, .wo⟩]⟩,
  ⟨.SRV_HOLD, 0x11600048, [(2, 0x20)], 0x006403E8, false, [⟨31, 16, .rw⟩, ⟨15, 0, .rw⟩]⟩,
  ⟨.SRV_FREQ, 0x1160004c, [(2, 0x20)], 0, false, [⟨31, 0, .ro⟩]⟩,
  ⟨.SRV_ERR, 0x11600050, [(2, 0x20)], 0, false, [⟨31, 0, .ro⟩]⟩,
  ⟨.SRV_CNT, 0x11600054, [(2, 0x20)], 0, false, [⟨31, 16, .ro⟩, ⟨15, 0, .ro⟩]⟩,
  ⟨.VC_CFG, 0x11600080, [], 0x20000800, false, [⟨31, 24, .rw⟩, ⟨16, 16, .rw⟩, ⟨11, 0, .rw⟩]⟩,
  ⟨.VC_GAIN, 0x11600084, [], 0, false, [⟨31, 0, .rw⟩]⟩,
  ⟨.VC_LIM, 0x11600088, [], 0x0FFF0000, false, [⟨27, 16, .rw⟩, ⟨11, 0, .rw⟩]⟩]

/-- Registers of the TU block (part 1). -/
def regRowsTU1 : List RegRow := [
  ⟨.VC_NOW, 0x1160008c, [], 0, false, [⟨31, 16, .ro⟩, ⟨11, 0, .ro⟩]⟩,
  ⟨.PPS_OUT_CFG, 0x116000a0, [], 0, false, [⟨15, 8, .rw⟩, ⟨1, 1, .rw⟩, ⟨0, 0, .rw⟩]⟩,
  ⟨.PPS_OUT_OFS, 0x116000a4, [], 0, false, [⟨31, 0, .rw⟩]⟩,
  ⟨.PPS_IN_OFS, 0x116000a8, [], 0, false, [⟨31, 0, .rw⟩]⟩,
  ⟨.PPS_IN_TS0, 0x116000ac, [], 0, false, [⟨31, 0, .ro⟩]⟩,
  ⟨.PPS_IN_TS1, 0x116000b0, [], 0, false, [⟨31, 0, .ro⟩]⟩,
  ⟨.PPS_IN_CNT, 0x116000b4, [], 0, false, [⟨31, 16, .ro⟩, ⟨15, 0, .ro⟩]⟩,
  ⟨.SE_CFG, 0x116000c0, [], 0, false, [⟨5, 0, .rw⟩]⟩,
  ⟨.SE_FERR, 0x116000c4, [], 0, false, [⟨31, 0, .ro⟩]⟩,
  ⟨.TU_CNT_CLR, 0x116000e0, [], 0, false, [⟨0, 0, .wo⟩]⟩]

/-- All registers of the TU block. -/
def regRowsTU : List RegRow := regRowsTU0 ++ regRowsTU1

/-- Registers of the PA block (part 0). -/
def regRowsPA0 : List RegRow := [
  ⟨.PA_BLKID, 0x11700000, [], 0x0C170100, false, [⟨31, 16, .ro⟩, ⟨15, 8, .ro⟩, ⟨7, 0, .ro⟩]⟩,
  ⟨.SEQ_CFG, 0x11700004, [], 0x00000019, false, [⟨8, 8, .rw⟩, ⟨7, 0, .rw⟩]⟩,
  ⟨.SEQ_STATUS, 0x11700008, [], 0, false, [⟨16, 16, .w1c⟩, ⟨1, 1, .ro⟩, ⟨0, 0, .ro⟩]⟩,
  ⟨.TXON_LIVE, 0x11700010, [(2, 0x4)], 0, false, [⟨31, 0, .ro⟩]⟩,
  ⟨.RXON_LIVE, 0x11700018, [(2, 0x4)], 0, false, [⟨31, 0, .ro⟩]⟩,
  ⟨.ADAC_LOCK, 0x11700020, [], 0, false, [⟨0, 0, .wo⟩]⟩,
  ⟨.ADAC_LD, 0x11700024, [], 0, false, [⟨7, 0, .wo⟩]⟩,
  ⟨.SEQ_CNT, 0x11700030, [], 0, false, [⟨31, 16, .ro⟩, ⟨15, 0, .ro⟩]⟩,
  ⟨.SEQ_CNT_CLR, 0x11700034, [], 0, false, [⟨0, 0, .wo⟩]⟩,
  ⟨.GPIO_OE, 0x11700040, [], 0, false, [⟨15, 0, .rw⟩]⟩,
  ⟨.GPIO_OUT, 0x11700044, [], 0, false, [⟨15, 0, .rw⟩]⟩,
  ⟨.GPIO_IN, 0x11700048, [], 0, false, [⟨15, 0, .ro⟩]⟩,
  ⟨.PROF_BIAS, 0x11700100, [(16, 0x10)], 0x000001EC, true, [⟨31, 31, .rw⟩, ⟨13, 0, .rw⟩]⟩,
  ⟨.PROF_TX, 0x11700104, [(16, 0x10)], 0x007B00F6, true, [⟨27, 16, .rw⟩, ⟨11, 0, .rw⟩]⟩,
  ⟨.PROF_RX, 0x11700108, [(16, 0x10)], 0x007B00F6, true, [⟨27, 16, .rw⟩, ⟨11, 0, .rw⟩]⟩,
  ⟨.PROF_REST, 0x1170010c, [(16, 0x10)], 0, true, [⟨15, 0, .rw⟩]⟩,
  ⟨.IN_CFG, 0x11700200, [(33, 0x10)], 0, false, [⟨31, 31, .rw⟩, ⟨30, 30, .rw⟩, ⟨29, 29, .rw⟩, ⟨18, 0, .rw⟩]⟩,
  ⟨.IN_MON, 0x11700204, [(33, 0x10)], 0x08003000, false, [⟨31, 24, .rw⟩, ⟨23, 8, .rw⟩]⟩,
  ⟨.IN_STUCK, 0x11700208, [(33, 0x10)], 0, false, [⟨15, 0, .rw⟩]⟩,
  ⟨.IN_STAT, 0x1170020c, [(33, 0x10)], 0, false, [⟨31, 16, .ro⟩, ⟨4, 4, .w1c⟩, ⟨3, 3, .wo⟩, ⟨2, 2, .ro⟩, ⟨1, 1, .ro⟩, ⟨0, 0, .ro⟩]⟩]

/-- Registers of the PA block (part 1). -/
def regRowsPA1 : List RegRow := [
  ⟨.ADAC_CFG, 0x11700600, [(80, 0x10)], 0, false, [⟨9, 8, .rw⟩, ⟨4, 4, .rwl⟩, ⟨3, 0, .rw⟩]⟩,
  ⟨.ADAC_CODE, 0x11700604, [(80, 0x10)], 0, false, [⟨27, 16, .ro⟩, ⟨11, 0, .rw⟩]⟩,
  ⟨.ADAC_SEQ, 0x11700608, [(64, 0x10)], 0, false, [⟨27, 16, .rw⟩, ⟨11, 0, .rw⟩]⟩,
  ⟨.ADAC_CLR, 0x1170060c, [(80, 0x10)], 0, false, [⟨11, 0, .rwl⟩]⟩]

/-- All registers of the PA block. -/
def regRowsPA : List RegRow := regRowsPA0 ++ regRowsPA1

/-- Registers of the CAL block (part 0). -/
def regRowsCAL0 : List RegRow := [
  ⟨.CAL_BLKID, 0x11800000, [], 0x0C180100, false, [⟨31, 16, .ro⟩, ⟨15, 8, .ro⟩, ⟨7, 0, .ro⟩]⟩,
  ⟨.CAL_CFG, 0x11800004, [], 0x0A010128, false, [⟨31, 24, .rw⟩, ⟨23, 16, .rw⟩, ⟨13, 8, .rw⟩, ⟨7, 5, .rw⟩, ⟨4, 4, .rw⟩, ⟨3, 0, .rw⟩]⟩,
  ⟨.CAL_REF, 0x11800008, [], 0, false, [⟨29, 24, .rw⟩, ⟨13, 8, .rw⟩]⟩,
  ⟨.CAL_LIM, 0x1180000c, [], 0x001E001E, false, [⟨31, 16, .rw⟩, ⟨15, 0, .rw⟩]⟩,
  ⟨.CAL_CTRL, 0x11800010, [], 0, false, [⟨31, 31, .rw⟩]⟩,
  ⟨.CAL_STATUS, 0x11800014, [], 0x00780000, false, [⟨22, 19, .ro⟩, ⟨18, 18, .w1c⟩, ⟨17, 17, .ro⟩, ⟨16, 16, .ro⟩, ⟨1, 0, .ro⟩]⟩,
  ⟨.CAL_JOB, 0x11800018, [], 0, false, [⟨31, 29, .rw⟩, ⟨28, 25, .rw⟩, ⟨24, 24, .rw⟩, ⟨23, 20, .rw⟩, ⟨4, 0, .rw⟩]⟩,
  ⟨.CAL_JOB_AT, 0x1180001c, [], 0, false, [⟨25, 16, .rw⟩, ⟨11, 0, .rw⟩]⟩,
  ⟨.CAL_GO, 0x11800020, [], 0, false, [⟨31, 16, .ro⟩, ⟨1, 1, .wo⟩, ⟨0, 0, .wo⟩]⟩,
  ⟨.CAL_CNT, 0x11800024, [], 0, false, [⟨31, 16, .ro⟩, ⟨15, 0, .ro⟩]⟩,
  ⟨.CAL_XPH, 0x11800028, [], 0, false, [⟨31, 0, .ro⟩]⟩,
  ⟨.CAL_CNT_CLR, 0x1180002c, [], 0, false, [⟨0, 0, .wo⟩]⟩,
  ⟨.CAL_QSTAT, 0x11800040, [(4, 0x4)], 0, false, [⟨26, 24, .ro⟩, ⟨21, 20, .ro⟩, ⟨11, 0, .ro⟩]⟩,
  ⟨.CAL_DTX, 0x11800100, [(64, 0x8)], 0, false, [⟨31, 16, .ro⟩, ⟨15, 0, .ro⟩]⟩,
  ⟨.CAL_DRX, 0x11800104, [(64, 0x8)], 0, false, [⟨31, 16, .ro⟩, ⟨15, 0, .ro⟩]⟩]

/-- All registers of the CAL block. -/
def regRowsCAL : List RegRow := regRowsCAL0

/-- Registers of the FD block (part 0). -/
def regRowsFD0 : List RegRow := [
  ⟨.FD_BLKID, 0x11900000, [], 0x0C190100, false, [⟨31, 16, .ro⟩, ⟨15, 8, .ro⟩, ⟨7, 0, .ro⟩]⟩,
  ⟨.FD_CTRL, 0x11900100, [(8, 0x40)], 0, false, [⟨3, 3, .wo⟩, ⟨2, 2, .wo⟩, ⟨1, 1, .wo⟩, ⟨0, 0, .wo⟩]⟩,
  ⟨.FD_STATUS, 0x11900104, [(8, 0x40)], 0x10000000, false, [⟨31, 28, .ro⟩, ⟨27, 24, .ro⟩, ⟨23, 20, .ro⟩, ⟨7, 7, .w1c⟩, ⟨6, 6, .w1c⟩, ⟨4, 4, .w1c⟩, ⟨3, 3, .w1c⟩, ⟨2, 2, .w1c⟩, ⟨1, 1, .w1c⟩]⟩,
  ⟨.FD_ENTRY, 0x11900108, [(8, 0x40)], 0, false, [⟨11, 0, .rw⟩]⟩,
  ⟨.FD_PC, 0x1190010c, [(8, 0x40)], 0, false, [⟨11, 0, .ro⟩]⟩,
  ⟨.FD_WDOG, 0x11900110, [(8, 0x40)], 0, false, [⟨15, 0, .rw⟩]⟩,
  ⟨.FD_DB, 0x11900114, [(8, 0x40)], 0, false, [⟨15, 0, .w1s⟩]⟩,
  ⟨.FD_DB_CLR, 0x11900118, [(8, 0x40)], 0, false, [⟨15, 0, .wo⟩]⟩,
  ⟨.FD_OWNER, 0x1190011c, [(8, 0x40)], 0, false, [⟨31, 31, .rw⟩, ⟨28, 24, .ro⟩, ⟨17, 16, .ro⟩, ⟨15, 0, .ro⟩]⟩,
  ⟨.FD_FAULT_ADDR, 0x11900120, [(8, 0x40)], 0, false, [⟨31, 0, .ro⟩]⟩,
  ⟨.FD_STALL, 0x11900124, [(8, 0x40)], 0, false, [⟨31, 0, .ro⟩]⟩,
  ⟨.FD_CYCLE, 0x11900128, [(8, 0x40)], 0, false, [⟨31, 0, .ro⟩]⟩]

/-- All registers of the FD block. -/
def regRowsFD : List RegRow := regRowsFD0

/-- Registers of the DMA block (part 0). -/
def regRowsDMA0 : List RegRow := [
  ⟨.DMA_BLKID, 0x11a00000, [], 0x0C1A0100, false, [⟨31, 16, .ro⟩, ⟨15, 8, .ro⟩, ⟨7, 0, .ro⟩]⟩,
  ⟨.DMA_STATUS, 0x11a00004, [], 0, false, [⟨16, 16, .w1c⟩]⟩,
  ⟨.DMA_IRQ, 0x11a00008, [], 0, false, [⟨31, 0, .w1c⟩]⟩,
  ⟨.DMA_IRQ_EN, 0x11a0000c, [], 0, false, [⟨31, 0, .rw⟩]⟩,
  ⟨.DMA_DRAIN, 0x11a00010, [], 0x00000064, false, [⟨15, 0, .rw⟩]⟩,
  ⟨.DMA_DRAINED, 0x11a00014, [], 0, false, [⟨31, 0, .ro⟩]⟩,
  ⟨.DMA_CNT_CLR, 0x11a00018, [], 0, false, [⟨0, 0, .wo⟩]⟩,
  ⟨.EXP_QUOTA, 0x11a00020, [], 0x04040404, false, [⟨28, 24, .rw⟩, ⟨20, 16, .rw⟩, ⟨12, 8, .rw⟩, ⟨4, 0, .rw⟩]⟩,
  ⟨.DC_CTRL, 0x11a00100, [(32, 0x40)], 0, false, [⟨2, 2, .wo⟩, ⟨1, 1, .wo⟩, ⟨0, 0, .wo⟩]⟩,
  ⟨.DC_CFG, 0x11a00104, [(32, 0x40)], 0x00000004, false, [⟨12, 12, .rw⟩, ⟨11, 8, .rw⟩, ⟨2, 0, .rw⟩]⟩,
  ⟨.DC_DESC, 0x11a00108, [(32, 0x40)], 0, false, [⟨31, 4, .rw⟩]⟩,
  ⟨.DC_SRC, 0x11a0010c, [(32, 0x40)], 0, false, [⟨31, 0, .ro⟩]⟩,
  ⟨.DC_DST, 0x11a00110, [(32, 0x40)], 0, false, [⟨31, 0, .ro⟩]⟩,
  ⟨.DC_LEN, 0x11a00114, [(32, 0x40)], 0, false, [⟨23, 0, .ro⟩]⟩,
  ⟨.DC_STATUS, 0x11a00118, [(32, 0x40)], 0, false, [⟨31, 28, .ro⟩, ⟨26, 24, .ro⟩, ⟨9, 9, .w1c⟩, ⟨8, 8, .w1c⟩]⟩,
  ⟨.CIRC_BASE, 0x11a0011c, [(32, 0x40)], 0, false, [⟨31, 4, .rw⟩]⟩,
  ⟨.CIRC_LEN, 0x11a00120, [(32, 0x40)], 0, false, [⟨23, 4, .rw⟩]⟩,
  ⟨.DC_CNT, 0x11a00124, [(32, 0x40)], 0, false, [⟨31, 16, .ro⟩, ⟨15, 0, .ro⟩]⟩]

/-- All registers of the DMA block. -/
def regRowsDMA : List RegRow := regRowsDMA0

/-- Registers of the FAB block (part 0). -/
def regRowsFAB0 : List RegRow := [
  ⟨.FAB_BLKID, 0x11b00000, [], 0x0C1B0100, false, [⟨31, 16, .ro⟩, ⟨15, 8, .ro⟩, ⟨7, 0, .ro⟩]⟩,
  ⟨.FAB_STATUS, 0x11b00004, [], 0, false, [⟨16, 16, .w1c⟩]⟩,
  ⟨.XMON_STATUS, 0x11b00040, [], 0, false, [⟨17, 17, .w1c⟩, ⟨16, 16, .w1c⟩, ⟨10, 10, .w1c⟩, ⟨9, 9, .w1c⟩, ⟨8, 8, .w1c⟩, ⟨7, 4, .w1c⟩, ⟨3, 0, .w1c⟩]⟩,
  ⟨.FAB_CLASS, 0x11b00100, [(6, 0x4)], 0, false, [⟨31, 0, .rw⟩]⟩,
  ⟨.FAB_FROZEN, 0x11b00140, [(3, 0x4)], 0, false, [⟨31, 0, .ro⟩]⟩,
  ⟨.STILE, 0x11b00400, [(64, 0x4)], 0, false, [⟨31, 30, .ro⟩, ⟨7, 0, .ro⟩, ⟨1, 0, .wo⟩]⟩,
  ⟨.STILE_PEEK, 0x11b00500, [(64, 0x4)], 0, false, [⟨31, 30, .ro⟩, ⟨7, 0, .ro⟩]⟩,
  ⟨.STILE_FORCE, 0x11b00600, [], 0, false, [⟨5, 0, .wo⟩]⟩,
  ⟨.STILE_CNT, 0x11b00604, [], 0, false, [⟨31, 16, .ro⟩, ⟨15, 0, .ro⟩]⟩,
  ⟨.FAB_CNT_CLR, 0x11b00608, [], 0, false, [⟨0, 0, .wo⟩]⟩,
  ⟨.MEM_SPARE, 0x11b00800, [(2, 0x4)], 0, false, [⟨31, 31, .ro⟩, ⟨30, 30, .ro⟩, ⟨5, 0, .ro⟩]⟩,
  ⟨.MEM_RETIRE, 0x11b00808, [], 0, false, [⟨31, 16, .ro⟩, ⟨8, 8, .wo⟩, ⟨5, 0, .rw⟩]⟩,
  ⟨.MEM_WB, 0x11b0080c, [], 0, false, [⟨15, 0, .ro⟩]⟩,
  ⟨.MEM_CE_S, 0x11b00840, [(66, 0x4)], 0, false, [⟨31, 0, .ro⟩]⟩,
  ⟨.MEM_CE_B, 0x11b00950, [(16, 0x4)], 0, false, [⟨31, 0, .ro⟩]⟩,
  ⟨.MEM_UE, 0x11b00990, [(5, 0x4)], 0, false, [⟨31, 0, .ro⟩]⟩,
  ⟨.MEM_SROW_S, 0x11b009c0, [(9, 0x4)], 0, false, [⟨31, 0, .ro⟩]⟩,
  ⟨.MEM_SROW_B, 0x11b009f0, [(2, 0x4)], 0, false, [⟨31, 0, .ro⟩]⟩,
  ⟨.MEM_PASS, 0x11b00a00, [(5, 0x4)], 0, false, [⟨31, 0, .ro⟩]⟩,
  ⟨.MEM_CNT_CLR, 0x11b00a20, [], 0, false, [⟨0, 0, .wo⟩]⟩]

/-- Registers of the FAB block (part 1). -/
def regRowsFAB1 : List RegRow := [
  ⟨.WIN0, 0x11b04000, [(91, 0x40), (8, 0x8)], 0, false, [⟨31, 12, .rw⟩]⟩,
  ⟨.WIN1, 0x11b04004, [(91, 0x40), (8, 0x8)], 0, false, [⟨31, 31, .rw⟩, ⟨30, 30, .ro⟩, ⟨9, 9, .rw⟩, ⟨8, 8, .rw⟩, ⟨5, 0, .rw⟩]⟩]

/-- All registers of the FAB block. -/
def regRowsFAB : List RegRow := regRowsFAB0 ++ regRowsFAB1

/-- Registers of the PWR block (part 0). -/
def regRowsPWR0 : List RegRow := [
  ⟨.PWR_BLKID, 0x11c00000, [], 0x0C1C0100, false, [⟨31, 16, .ro⟩, ⟨15, 8, .ro⟩, ⟨7, 0, .ro⟩]⟩,
  ⟨.PWR_STATUS, 0x11c00004, [], 0x00020000, false, [⟨18, 18, .ro⟩, ⟨17, 17, .ro⟩, ⟨16, 16, .w1c⟩, ⟨15, 12, .ro⟩, ⟨11, 8, .ro⟩, ⟨3, 3, .ro⟩, ⟨2, 0, .ro⟩]⟩,
  ⟨.PWR_CHGATE, 0x11c00008, [(2, 0x4)], 0, false, [⟨31, 0, .ro⟩]⟩,
  ⟨.CLK_CTRL, 0x11c00010, [], 0, false, [⟨0, 0, .rw⟩]⟩,
  ⟨.PWR_TMO, 0x11c00014, [], 0x000001F4, false, [⟨15, 0, .rw⟩]⟩,
  ⟨.DVFS, 0x11c00020, [(3, 0x4)], 0, false, [⟨31, 31, .ro⟩, ⟨17, 16, .rw⟩, ⟨9, 8, .rw⟩, ⟨1, 0, .rw⟩]⟩]

/-- All registers of the PWR block. -/
def regRowsPWR : List RegRow := regRowsPWR0

/-- Registers of the THERM block (part 0). -/
def regRowsTHERM0 : List RegRow := [
  ⟨.THERM_BLKID, 0x11d00000, [], 0x0C1D0100, false, [⟨31, 16, .ro⟩, ⟨15, 8, .ro⟩, ⟨7, 0, .ro⟩]⟩,
  ⟨.THERM_CFG, 0x11d00004, [], 0x7D646703, false, [⟨31, 24, .rw⟩, ⟨23, 16, .rw⟩, ⟨15, 8, .rw⟩, ⟨3, 0, .rw⟩]⟩,
  ⟨.THERM_THR, 0x11d00008, [], 0x00643210, false, [⟨23, 16, .rw⟩, ⟨15, 0, .rw⟩]⟩,
  ⟨.THERM_STATUS, 0x11d0000c, [], 0, false, [⟨27, 16, .ro⟩, ⟨12, 8, .ro⟩, ⟨4, 4, .ro⟩, ⟨3, 0, .ro⟩]⟩,
  ⟨.OTP_TWIN, 0x11d00010, [], 0x00005500, false, [⟨15, 8, .rw⟩, ⟨7, 0, .rw⟩]⟩,
  ⟨.TEMP, 0x11d00100, [(24, 0x4)], 0, false, [⟨16, 16, .ro⟩, ⟨11, 0, .ro⟩]⟩,
  ⟨.SENS_OFS, 0x11d00180, [(24, 0x4)], 0, false, [⟨11, 0, .rw⟩]⟩]

/-- All registers of the THERM block. -/
def regRowsTHERM : List RegRow := regRowsTHERM0

/-- Registers of the FM block (part 0). -/
def regRowsFM0 : List RegRow := [
  ⟨.FM_BLKID, 0x11e00000, [], 0x0C1E0100, false, [⟨31, 16, .ro⟩, ⟨15, 8, .ro⟩, ⟨7, 0, .ro⟩]⟩,
  ⟨.FM_STATUS, 0x11e00004, [], 0, false, [⟨31, 31, .ro⟩, ⟨30, 30, .ro⟩, ⟨16, 16, .w1c⟩, ⟨15, 0, .ro⟩]⟩,
  ⟨.FM_TOP, 0x11e00008, [], 0, false, [⟨31, 31, .ro⟩, ⟨29, 28, .ro⟩, ⟨23, 16, .ro⟩]⟩,
  ⟨.FM_PEND, 0x11e00010, [(2, 0x4)], 0, false, [⟨31, 0, .ro⟩]⟩,
  ⟨.FM_SAFE_FORCE, 0x11e00020, [], 0, false, [⟨0, 0, .wo⟩]⟩,
  ⟨.FM_REC, 0x11e01000, [(37, 0x100), (4, 0x20), (8, 0x4)], 0, false, [⟨31, 0, .ro⟩]⟩,
  ⟨.FM_OVF, 0x11e01080, [(37, 0x100)], 0, false, [⟨31, 0, .ro⟩]⟩,
  ⟨.FM_CLR, 0x11e01084, [(37, 0x100)], 0, false, [⟨0, 0, .wo⟩]⟩]

/-- All registers of the FM block. -/
def regRowsFM : List RegRow := regRowsFM0

/-- Registers of the TH block (part 0). -/
def regRowsTH0 : List RegRow := [
  ⟨.TH_BLKID, 0x11f00000, [], 0x0C1F0100, false, [⟨31, 16, .ro⟩, ⟨15, 8, .ro⟩, ⟨7, 0, .ro⟩]⟩,
  ⟨.TH_STATUS, 0x11f00004, [], 0, false, [⟨31, 31, .ro⟩, ⟨30, 30, .ro⟩, ⟨29, 29, .ro⟩, ⟨27, 26, .ro⟩, ⟨25, 25, .ro⟩, ⟨24, 24, .ro⟩, ⟨6, 0, .ro⟩]⟩,
  ⟨.TH_KEYS, 0x11f00008, [], 0, false, [⟨23, 0, .ro⟩]⟩,
  ⟨.TH_ARB_LO, 0x11f00010, [], 0, false, [⟨31, 0, .ro⟩]⟩,
  ⟨.TH_ARB_HI, 0x11f00014, [], 0, false, [⟨31, 0, .ro⟩]⟩,
  ⟨.TH_FWVER, 0x11f00018, [], 0, false, [⟨31, 0, .ro⟩]⟩,
  ⟨.TH_FWSTG, 0x11f0001c, [], 0, false, [⟨31, 0, .ro⟩]⟩,
  ⟨.TH_SVN, 0x11f00020, [], 0, false, [⟨7, 0, .ro⟩]⟩]

/-- All registers of the TH block. -/
def regRowsTH : List RegRow := regRowsTH0

/-- Registers of the LK block (part 0). -/
def regRowsLK0 : List RegRow := [
  ⟨.LK_BLKID, 0x12000000, [], 0x0C200100, false, [⟨31, 16, .ro⟩, ⟨15, 8, .ro⟩, ⟨7, 0, .ro⟩]⟩,
  ⟨.LK_CFG, 0x12000004, [], 0x00000003, false, [⟨2, 0, .rw⟩]⟩,
  ⟨.LK_STATUS, 0x12000008, [], 0, false, [⟨31, 31, .w1c⟩, ⟨16, 16, .ro⟩, ⟨15, 0, .w1c⟩]⟩,
  ⟨.LK_RULE_COND, 0x12000010, [(16, 0x8)], 0, false, [⟨31, 0, .rw⟩]⟩,
  ⟨.LK_RULE_ACTION, 0x12000014, [(16, 0x8)], 0, false, [⟨31, 0, .rw⟩]⟩,
  ⟨.LK_LOST, 0x12000100, [(3, 0x4)], 0, false, [⟨31, 0, .ro⟩]⟩,
  ⟨.LK_LOST_B, 0x1200010c, [], 0, false, [⟨31, 16, .ro⟩, ⟨15, 8, .ro⟩, ⟨3, 0, .ro⟩]⟩,
  ⟨.LK_RING, 0x12000110, [], 0, false, [⟨12, 0, .ro⟩]⟩]

/-- All registers of the LK block. -/
def regRowsLK : List RegRow := regRowsLK0

end Sys2Proof.Machine
end

