-- ==== Sys2Proof/Machine/State.lean ====
section
/-! DEFINITION. The state of the block as plain data, the reasons a command can stop, and the state after reset. -/

namespace Sys2Proof.Machine

/-- Registers by device address, sorted, holding only those that differ from their reset value. -/
abbrev RegFile := List (Nat × Word)

/-- Memory bytes by address, sorted, holding only those that differ from zero. -/
abbrev Memory := List Host.Cell

/-- The statuses of R450. -/
inductive Status where
  | ok | accepted | busy | queueFull | badOpcode | badParam | badLength | notPermitted | authFail | sessionClosed
  | stateConflict | resourceOwned | targetUnreachable | targetFrozen | hwFault | timeout | tempRange | aborted
deriving DecidableEq, Repr

/-- The fault classes C, D, U and F, coded 0 to 3 (R536). -/
inductive FClass where
  | clsC | clsD | clsU | clsF
deriving DecidableEq, Repr

/-- The events of R468 (COMPLETION and EVENTS_LOST are composed where they arise). -/
inductive Event where
  | ready (fwVer : Nat)
  | masterFrozen (mid cause addr : Nat)
  | safeState (cause : Nat)
  | crossingSlip (status : Nat)
  | fhNotOwner (d cs count : Nat)
  | fhEarly (d cs count : Nat)
  | fhLate (d cs count : Nat)
  | dlDataMissing (cs sfn count : Nat)
  | sectLate (sfn count : Nat)
  | rxOverload (ch sfn : Nat)
  | txLoLate (q sfn count : Nat)
  | rxLoInvalid (q sfn count : Nat)
  | loUnlock (id : Nat)
  | loFailover (syn : Nat)
  | loDrift (syn : Nat)
  | synFail (syn state : Nat)
  | loApplyLate (sfn : Nat)
  | convUnlock (q : Nat)
  | paFault (group : Nat)
  | seqOverlap (q sfn : Nat)
  | inputEdge (input level : Nat)
  | inputChatter (input : Nat)
  | inputStuck (input : Nat)
  | beamRefBad (d cs sfn : Nat)
  | steerLate (beam : Nat)
  | bfPoison (cs sym layer prb : Nat)
  | bfResidue (d column cs sfn sym : Nat)
  | bfNoSpare (column : Nat)
  | pdUpdated (ch bank : Nat)
  | pdRollback (ch reason : Nat)
  | pdBand (q band : Nat)
  | pdResidue (ch sfn sym : Nat)
  | pdNoSpare (ch : Nat)
  | calCorrMoved (sfn : Nat)
  | calRecordBad
  | calUncal (q : Nat)
  | calOutlier (mask : Nat)
  | slotSwapped (sfn : Nat)
  | timeStepped (step : Int)
  | timeLocked (servo : Nat)
  | timeHoldover (servo : Nat)
  | timeDomainSwitch (servo : Nat) (e : Int)
  | timeFault (delta : Int)
  | vcxoLimit (code : Nat)
  | synceLost (lane : Nat)
  | ppsInLost
  | stateChanged (old new : Nat)
  | retentionLost (bitmaps : List Byte)
  | thermWarn (sensor temp : Nat)
  | thermThrottle (mask : Nat)
  | memCe (memory bank count : Nat)
  | memUe (memory addr : Nat)
  | bankRetired (bank spare : Nat)
  | stileBroken (stile mid : Nat)
  | dmaDomainDown (mask : Nat)
  | sessionClosed (session cause : Nat)
  | fwActivated (version : Nat)
  | childSumMissing (port sfn missing tagMismatch errUnits : Nat)
  | hgUp (port rate txW rxW : Nat)
  | hgDown (port cause : Nat)
  | hgLaneRepair (port lane w : Nat)
  | linkShort (port direction w : Nat)
  | treeChanged (da : Nat)
  | treeDepthChanged (old new : Nat)
  | cascRoleConflict (port : Nat)
  | hpLinkUp (port : Nat)
  | hpLinkDown (port : Nat)
  | fliorSignal (core imm : Nat)
  | fliorFault (core cause pc : Nat)
  | cmdLoad (p99 : Nat)
deriving DecidableEq, Repr

/-- A packet the device sends (R437): KIND 1 reply or 2 event; `mac` is the authentication tag, empty when TAGGED is 0;
`dest` the address it goes to on the host port (MAC · 2^128 + IPv6), 0 elsewhere (R440). -/
structure Packet where
  kind : Nat
  opcode : Nat
  tag : Nat
  session : Nat
  da : Nat
  seq : Nat
  status : Nat
  hint : Nat
  payload : List Byte
  mac : List Byte
  dest : Nat
deriving DecidableEq, Repr

/-- A link control or burst that a Hedgerow port sends (R249, R267). -/
inductive LinkCtrl where
  | laneDrop (lanes instant : Nat)
  | laneAck (lanes instant : Nat)
  | eidle
  | tmark (edge : Nat)
  | downNotice (cause : Nat)
  | burst
deriving DecidableEq, Repr

/-- What leaves the device. -/
inductive Output where
  | packet (via : Via) (p : Packet)
  | sessions (port : Nat) (l : List SessCopy)
  | link (port : Nat) (c : LinkCtrl)
  | capRecord (port rec : Nat)
  | side (port kind dst src frag : Nat) (bytes : List Byte)
  | sumUnit (port cs frame sym unit : Nat) (rows : List (List (Int × Int)))
  | sumTail (port cs frame sym : Nat) (flags : List (List Nat)) (checks : List Nat)
  | bcast (port cs frame sym unit : Nat) (rows : List (List (Int × Int)))
  | bcastTail (port cs frame sym : Nat) (checks : List Nat)
  | prachRow (port sfn o beam rep flags : Nat) (row : List (Int × Int))
  | frame (port : Nat) (bytes : List Byte)
  | toHp1 (bytes : List Byte)
  | ppsEdge (eighth : Nat)
  | firmware (port stamp : Nat) (bytes : List Byte)
  | txStamp (port stamp : Nat)
  | fabric (mid addr : Nat) (bytes : List Byte)
deriving DecidableEq, Repr

/-- A servo of R323 and R324: pull and f_int in 2^−16 ppb, its last accepted offset in 2^−8 ns, the run of accepted samples within
LOCK_THR, the f_int after each of the last 64 accepted samples (newest first), and the cycle of the last accepted sample. -/
structure Servo where
  pull : Int
  fInt : Int
  lastE : Int
  run : Nat
  hist : List Int
  lastAt : Nat
deriving DecidableEq, Repr

/-- A worker's bounded slew (R306): `total` in 2^−16 ns, spread from cycle `start` over one frame. -/
structure Slew where
  start : Nat
  total : Int
deriving DecidableEq, Repr

/-- Device time (R317 to R334): time `base` (2^−16 ns since time zero) held at cycle `baseAt`; the array epoch; a step pending
(with the cycle of its alignment edge); the slew in progress; the servos; the frequency command (2^−16 ppb), the dither's remainder
(R327) and whether SyncE mode 2 has ended (R330); the cycle until which PPS_OUT is high (R331) and the cycle of the last accepted
PPS_IN edge; whether carriers are held after FALLOW (R334); the cycle of entry to FALLOW and device time then (R333); whether the
manager reports TRACEABLE (R320). -/
structure TimeX where
  epoch : Nat
  base : Nat
  baseAt : Nat
  stepAt : Option Nat
  slew : Option Slew
  servos : List Servo
  freqCmd : Int
  dither : Nat
  synceEnded : Bool
  ppsUntil : Nat
  ppsLast : Option Nat
  carriersHeld : Bool
  fallowAt : Option Nat
  parentGood : Bool
deriving DecidableEq, Repr

/-- A servo after reset. -/
def Servo.reset : Servo where
  pull := 0
  fInt := 0
  lastE := 0
  run := 0
  hist := []
  lastAt := 0

/-- What the front end and Thistle hold of a session beside SESS_STAT (R441, R442, R444, R451): its keys, the transcript of its
opening, the highest accepted SEQUENCE and the accepted values of the window below it, the run of tag failures, the next event
SEQUENCE, the waiting events and how many were not queued, its subscription mask, replies waiting for room, and the cycles of
its opening and of its last accepted command. -/
structure Session where
  kCmd : Nat
  kRsp : Nat
  transcript : List Byte
  seqHi : Nat
  seqSeen : List Nat
  tagFails : Nat
  evSeq : Nat
  events : List Packet
  lost : Nat
  mask : Nat
  replies : List Packet
  openedAt : Nat
  lastAt : Nat
deriving DecidableEq, Repr

/-- A command whose reply was ACCEPTED and that still executes: its queue and itself (R446, R450). -/
structure Running where
  queue : Nat
  cmd : Cmd
deriving DecidableEq, Repr

/-- The command front end (R437 to R454): the four queues, the running commands, the Q2 commands taken since the last of Q3,
the service times of Q1 to Q3 in this second (µs), the highest occupancies in this second, the sessions, the SPI outgoing
buffer, whether dispatch of Q1 to Q3 is stopped (R554), and the DOWN ports (a bit each) that have been sent the session table since they last
left UNTIMED and TIMED (R452); and the commands of no session that were forwarded and await their reply (R440). -/
structure FrontX where
  q0 : List Cmd
  q1 : List Cmd
  q2 : List Cmd
  q3 : List Cmd
  running : List Running
  q2Taken : Nat
  lat : List (List Nat)
  occMax : List Nat
  sess : List Session
  spiOut : List Packet
  noSess : List Packet
  stopped : Bool
  told : Nat
  anon : List Cmd
deriving DecidableEq, Repr

/-- A session that was never opened. -/
def Session.empty : Session where
  kCmd := 0
  kRsp := 0
  transcript := []
  seqHi := 0
  seqSeen := []
  tagFails := 0
  evSeq := 1
  events := []
  lost := 0
  mask := 0
  replies := []
  openedAt := 0
  lastAt := 0

/-- A filed record: its unit, its place in the unit (0 primary, 1 to 3 secondary), its class and the cycle it was filed on (R535, R539,
R556). -/
structure FaultRef where
  unit : Nat
  slot : Nat
  cls : FClass
  at_ : Nat
deriving DecidableEq, Repr

/-- The fault manager beside FM_REC and FM_STATUS: the records held, earliest filed first (R539), the cycle on which the latched
safe state was entered (R542), and the SI crossings' retry marks of R39 (masters whose transaction was retried once). -/
structure FaultX where
  held : List FaultRef
  safeAt : Option Nat
  retried : List Nat
deriving DecidableEq, Repr

/-- The gate of a chain's DAC input from a cycle on (R76, R78, R79): zeroed, with the cycle a ramp began, and whether the chain has joined. -/
structure Gate where
  from0 : Nat
  zero : Bool
  rampAt : Option Nat
  txIn : Bool
deriving DecidableEq, Repr

/-- The tracker of a chain from a cycle on (R69, R70): whether RXON and DCT_FREEZE let it update, and its shift k. -/
structure Trk where
  from0 : Nat
  run : Bool
  k : Nat
deriving DecidableEq, Repr

/-- What a chain holds beside its registers (chapter 2): the cycles by which power-ups in progress complete and the disables that
wait for their apply instant (R76); the tracker estimates in units of 2^−28 ADC LSB (R69) and the cycle until which a gain
change holds them (R65); the run of clean uplink symbols, the frame of the last RX_OVERLOAD
(R82, R83), the uplink slots in which the samples are zero for protection, whether uplink samples have started
after RX_RDY (R76) and RX_MUTE in force (R80); the transmit holds in force: TXON held, bias cleared, DAC input zeroed (with the
cycle a rank-4 ramp began and the cycle the last source released, R31, R78, R79); the run in hand: whether its bias-on instant
has come before its TXON instant, whether it will be skipped (R369), whether the bias is at its ON code; the cycles on which
TXON and RXON last deasserted, and whether an assertion of either waits (R370); counts held back while the chain is measured
(R75) and an offset table that waits for its instant (R68); whether the transmit direction has joined (R76); what the samples on their way
meet: the cycles on which the DAC input's gate (zero, ramp, joined) and the tracker's conditions (update, k) changed, latest last, and the
clipped samples of the grid's symbol in air (R70, R78, R82). -/
structure ChainX where
  txUp : Option Nat
  rxUp : Option Nat
  txDis : Bool
  rxDis : Bool
  estI : Int
  estQ : Int
  settle : Nat
  clean : Nat
  ovlFrame : Option Int
  protSlots : Nat
  rxJoined : Bool
  rxMuted : Bool
  held : Bool
  cleared : Bool
  zero : Bool
  rampAt : Option Nat
  releasedAt : Option Nat
  runOpen : Bool
  runSkip : Bool
  biasOn : Bool
  txOffAt : Option Nat
  rxOffAt : Option Nat
  txWait : Bool
  rxWait : Bool
  lateRx : Nat
  lateTx : Nat
  lateOvl : Nat
  dcoLoad : List Word
  txIn : Bool
  gateLog : List Gate
  trkLog : List Trk
  clips : Nat
deriving DecidableEq, Repr

/-- The sources of the precedence table of R30 that no register shows: rank-2 lines of the PAFLT groups (a bit per group), of
quadrants held for a slipped converter crossing or an unlocked converter PLL until a frame boundary (R39, R125) or until reset
(R541); rank 3 PA_OFF; rank 4 for a lost UP port (R299). -/
structure HoldX where
  paLine : Nat
  convHold : Nat
  convDead : Nat
  paOff : Bool
  upLost : Bool
deriving DecidableEq, Repr

/-- A chain after reset (R85). -/
def ChainX.reset : ChainX where
  txUp := none
  rxUp := none
  txDis := false
  rxDis := false
  estI := 0
  estQ := 0
  settle := 0
  clean := 0
  ovlFrame := none
  protSlots := 0
  rxJoined := false
  rxMuted := false
  held := true
  cleared := false
  zero := true
  rampAt := none
  releasedAt := none
  runOpen := false
  runSkip := false
  biasOn := false
  txOffAt := none
  rxOffAt := none
  txWait := false
  rxWait := false
  lateRx := 0
  lateTx := 0
  lateOvl := 0
  dcoLoad := []
  txIn := false
  gateLog := []
  trkLog := []
  clips := 0

/-- What a synthesiser's calibration is for (R97 to R117): a TUNE on the standby; a retune in a quiet window; a mirror; recovery on
the standby, then a switch to it; recovery in place; a drift swap; a lock regained where the synthesiser stood; the return from
HUSH or the alignment of the array; or it has lost lock and waits for the standby to recover. -/
inductive SynJob where
  | none | tune | retune | mirror | recover | inPlace | drift | regain | relight | waits
deriving DecidableEq, Repr

/-- A synthesiser beside LO_STATUS and SYN_N, SYN_F (R91, R95 to R98, R115): the start and the purpose of its calibration, the run
of calibrations that did not lock, whether it was a mirror before it lost lock, whether its tuning voltage has left the safe window
since its last calibration, and the preset of that calibration: its cycle, the fraction accumulator and the state of a
divide-by-32 of the QLO dividers. -/
structure Syn where
  calAt : Option Nat
  job : SynJob
  fails : Nat
  wasMirror : Bool
  drift : Bool
  presetAt : Nat
  acc : Nat
  divs : Nat
deriving DecidableEq, Repr

/-- Where a TUNE stands (R101, R103, R105, R108). -/
inductive TunePhase where
  | calibrating | boundary | transient | window | retuning | queued
deriving DecidableEq, Repr

/-- A TUNE as submitted at GO (R99): its command, target N, F and DIV codes, QMASK, AT_EN with its frame, RECAL, WAIT_FRAMES and the
number of the frame of GO; the synthesiser it tunes, with the N and F it had before a quiet-window retune (R108); the cycle of its
switch-over, 0 before. -/
structure Tune where
  cmd : Option Cmd
  n : Nat
  f : Nat
  divs : List Nat
  qmask : Nat
  atEn : Bool
  frame : Nat
  recal : Bool
  wait : Nat
  goFrame : Int
  syn : Nat
  wasN : Nat
  wasF : Nat
  phase : TunePhase
  doneAt : Nat
deriving DecidableEq, Repr

/-- The LO system beside its registers (chapter 3): the synthesisers, the TUNE in progress and the one waiting behind it, the
quadrants with an LO frequency in force, the end of band settling per quadrant, the quadrants held at LO_READY 0 until a symbol
boundary after a failover (R114), the quadrants inside a quiet-window retune, the quadrants that must relock (R116), a drift
swap waiting for its boundary, the cycle of the last switch-over without TUNE, per quadrant the frame of the last TX_LO_LATE and
RX_LO_INVALID events and the uplink slots whose symbol in air is invalid, and an ARRAY_ARM that waits with its deadline. -/
structure LoX where
  syns : List Syn
  tune : Option Tune
  waiting : Option Tune
  hasLo : Nat
  settleEnd : List (Option Nat)
  failHold : Nat
  retuneQ : Nat
  relockQ : Nat
  swapPend : Bool
  swapAt : Option Nat
  txLateFrame : List (Option Int)
  rxInvFrame : List (Option Int)
  rxBad : List Nat
  armJob : Option Cmd
  armDeadline : Nat
deriving DecidableEq, Repr

/-- A carrier-code pair committed and waiting for its apply instant (R129): direction and slot, and the 42-bit code. -/
structure RfCommit where
  d : Nat
  cs : Nat
  code : Nat
deriving DecidableEq, Repr

/-- A capture engine beside its registers (R142 to R144): the frame and cycle of GO, its start instant once fixed, the samples its
tap brings from there, whether it runs as a pair with its neighbour, and the command to complete. -/
structure Cap where
  goFrame : Int
  goAt : Nat
  startAt : Option Nat
  samples : List (Int × Int)
  paired : Bool
  cmd : Option Cmd
deriving DecidableEq, Repr

/-- The symbol in which playback injects (R146): its first and end cycle, the read pointer at its start, the quadrants. -/
structure PbWin where
  start : Nat
  fin : Nat
  ptr : Nat
  quads : Nat
deriving DecidableEq, Repr

/-- The digital front end beside its registers (chapter 4): the capture engines; playback armed, asked to stop, its read pointer, and the symbol in
which it injects;
per quadrant the frame boundaries passed since its converter PLL unlocked (R541). -/
structure DfeX where
  caps : List Cap
  pbArm : Bool
  pbStop : Bool
  pbPtr : Nat
  pbWin : Option PbWin
  convLost : List Nat
deriving DecidableEq, Repr

/-- A chain's predistorter beside its registers (R160 to R174): an EN change, a commit and a band fade that wait for the next
boundary; the anchor of the fade in progress, its step, and the start of the last FADING; the frame in which VERIFY began; the
band a fade leads to; the words still to be rewritten of the banks with an uncorrectable error (160 · bank + word); the cycle from which the chain is in bypass to the end of the symbol, with the frame and symbol of the
mismatch, whether the chain stays in bypass for want of a spare; the input samples before the streams' position; the saturated
outputs of each downlink slot's symbol in air (R165); and the command to complete. -/
structure PdX where
  enPend : Option Bool
  goPend : Bool
  bandDue : Bool
  fadeAt : Option Nat
  step : Nat
  lastFade : Option Nat
  verifyFrame : Int
  bandTo : Nat
  badWords : List Nat
  byp : Option Nat
  resid : Option (Nat × Nat)
  noSpare : Bool
  hist : List (Int × Int)
  sat : List Nat
  cmd : Option Cmd
deriving DecidableEq, Repr

/-- A chain's predistorter after reset (R177). -/
def PdX.reset : PdX where
  enPend := none
  goPend := false
  bandDue := false
  fadeAt := none
  step := 0
  lastFade := none
  verifyFrame := 0
  bandTo := 0
  badWords := []
  byp := none
  resid := none
  noSpare := false
  hist := []
  sat := List.replicate 8 0
  cmd := none

/-- The slot table's work in progress (R200 to R202): the cycle of a COMMIT whose check runs and the entry it will fail on; whether a
COMMIT or a CANCEL waits for the copy or the check to end; the cycle of the pending swap; the copy's first cycle; the command to
complete, whether it has been answered, and the frame in which its COMMIT is to be written (R465); the cycle of the last swap with the
former bank's numerology and last entry, by which a run that crossed it ends (R366, R386). -/
structure SlotX where
  checkAt : Option Nat
  checkFail : Option Nat
  cancelWaits : Bool
  commitWaits : Bool
  swapAt : Option Nat
  copyAt : Option Nat
  job : Option Cmd
  answered : Bool
  inFrame : Option Int
  swappedAt : Option Nat
  oldMu : Nat
  oldLast : Word
deriving DecidableEq, Repr

/-- A change of EN that waits for its frame boundary (R180, R469), and whether it releases the slot's ownership there (R355). -/
structure EnJob where
  d : Nat
  cs : Nat
  release : Bool
  cmd : Option Cmd
deriving DecidableEq, Repr

/-- A PRACH engine's occasion (R193, R194, R240, R286): the cycle of its last sample, its frame, the rows by chain and repetition, the address
of each of its beams' vectors at that cycle, whether its rows and its beam rows are still to be written, and what it ran with: slot, CLASS, μ,
stored repetitions, and the slot's UL_SHIFT, owner, CS_UL_FMT and PR_ADD in force. -/
structure PrachX where
  endAt : Option Nat
  frame : Nat
  rows : List (Nat × List (List (Int × Int)))
  beams : List Nat
  rowsDue : Bool
  beamsDue : Bool
  cs : Nat
  cls : Nat
  mu : Nat
  reps : Nat
  shift : Nat
  own : Nat
  fmt : Nat
  prAdd : Nat
deriving DecidableEq, Repr

/-- Who wrote a beam vector and waits for its flip: nobody, the loader registers, or a command (R221, R223). -/
inductive FlipSrc where
  | none
  | loader
  | cmd (c : Cmd)
deriving DecidableEq, Repr

/-- A beam vector's target and apply point (R221). -/
structure Flip where
  id : Nat
  d : Nat
  cs : Nat
  atEn : Bool
  frame : Nat
  sym : Nat
  src : FlipSrc
deriving DecidableEq, Repr

/-- A vector waiting in the loader queue for its page (R222, R224); `steer` says that the steering engine
made it, with the command and position of its request. -/
structure LqItem where
  flip : Flip
  vec : List Byte
  steer : Option (Option (Cmd × Nat))
deriving DecidableEq, Repr

/-- A steering request in the FIFO or in computation (R227, R230): its three words and the command that carries it. -/
structure SteerReq where
  w0 : Nat
  w1 : Nat
  w2 : Nat
  job : Option (Cmd × Nat)
deriving DecidableEq, Repr

/-- A steering command in progress: the status of each request once it has one. -/
structure SteerJob where
  cmd : Cmd
  done : List (Option Nat)
deriving DecidableEq, Repr

/-- What an element's weight depends on, as in force when the computation starts (R226): whether it counts (PRESENT and no poisoned
word), its position, its correction and its taper. -/
structure SteerGeom where
  use : Bool
  x : Nat
  y : Nat
  z : Nat
  corr : Int × Int
  taper : Nat
deriving DecidableEq, Repr

/-- The request in computation with its start and its geometry (R230), and whether it waits for room in the loader queue (R224). -/
structure SteerBusy where
  req : SteerReq
  start : Nat
  geom : List SteerGeom
  code : Nat
  stalled : Bool
deriving DecidableEq, Repr

/-- Where a plan takes a layer's weights for some PRBs (R215). -/
inductive VecSrc where
  | zero
  | set (ws row : Nat)
  | beam (addr : Nat)
deriving DecidableEq, Repr

/-- One resolved reference of a plan: layer, PRBs p0 to p1 − 1, source; for a set the GRAN and the groups it had. -/
structure PlanItem where
  layer : Nat
  p0 : Nat
  p1 : Nat
  src : VecSrc
  gran : Nat
  groups : Nat
deriving DecidableEq, Repr

/-- The plan of a symbol (R232): its slot, frame and symbol, the end of its MAC pass, and what it resolved, last reference last; and
the vectors that the pass reads, by address: no write reaches them before the pass ends (R222, R233). -/
structure Plan where
  d : Nat
  cs : Nat
  frame : Nat
  sym : Nat
  passEnd : Nat
  items : List PlanItem
  vecs : List (Nat × List Byte)
deriving DecidableEq, Repr

/-- A column of the MAC array zeroed in a slot from a subcarrier of its symbol on, until the spare takes over there (R238). -/
structure ColZero where
  col : Nat
  d : Nat
  cs : Nat
  k : Nat
deriving DecidableEq, Repr

/-- What the MAC array gave one antenna for a downlink symbol (R210). -/
structure DlRow where
  cs : Nat
  frame : Nat
  sym : Nat
  ch : Nat
  y : List (Int × Int)
deriving DecidableEq, Repr

/-- The beamforming engine beside its registers (chapter 7): pending flips, the loader queue, the hold of each former page, the steering
FIFO, the request in computation, steering commands in progress, plans whose pass has not ended, the last symbol planned per slot,
the shifts in force per slot, the zeroed columns, the columns left without a spare, the antenna
rows of each downlink slot's last symbol read, and the frames of the last BEAM_REF_BAD and
BF_POISON per slot (d · 8 + cs). -/
structure BeamX where
  flips : List Flip
  lq : List LqItem
  holds : List (Nat × Nat)
  fifo : List SteerReq
  busy : Option SteerBusy
  jobs : List SteerJob
  plans : List Plan
  planned : List (Option (Nat × Nat))
  shifts : List Nat
  colZero : List ColZero
  colDead : List Nat
  dlOut : List DlRow

  badFrame : List (Option Nat)
  poisonFrame : List (Option Nat)
deriving DecidableEq, Repr

/-- A lane repair in hand in one direction (R263): the lanes, the cycle of detection, whether LANE_ACK has come, the repair instant. -/
structure Repair where
  lanes : Nat
  at0 : Nat
  acked : Bool
  instant : Nat
deriving DecidableEq, Repr

/-- A Hedgerow port beside its registers (chapter 8): HG_CTRL and HG_RETIRE as taken at the start of training, the rate in training
and the one settled, the anchor of R254, the start of the rate in training and its step (0 lock, 1 equalisation, 2 exchange), the lanes that
locked, those whose polarity the receiver inverts, and whether the partner's record has come; capability records that failed their CRC, the
repairs of the receive and transmit directions, an EIDLE exchange in progress, a fast exit that waits for its end, whether an IDLE port
retained its training, the lanes the receiver accepted, and the sync-header errors per lane of a window of R263 with its number. -/
structure HgX where
  ctrl : Nat
  retire : Nat
  rate : Nat
  settled : Option Nat
  anchor : Nat
  rateAt : Nat
  phase : Nat
  locked : Nat
  inv : Nat
  peer : Bool
  crcBad : Nat
  rxFix : Option Repair
  txFix : Option Repair
  idling : Bool
  exitDue : Bool
  kept : Bool
  lanes : Nat
  errs : List Nat
  errWin : Nat
deriving DecidableEq, Repr

/-- A port right after device reset: HG_CTRL at its reset value (R270). -/
def HgX.reset : HgX :=
  { ctrl := 0x00802102, retire := 0, rate := 0, settled := none, anchor := 0, rateAt := 0, phase := 0, locked := 0, inv := 0, peer := false, crcBad := 0,
    rxFix := none, txFix := none, idling := false, exitDue := false, kept := false, lanes := 0, errs := List.replicate 24 0, errWin := 0 }

/-- An uplink sum in formation (R281, R282, R287): its slot and symbol; per layer its entries so far and its groups' flags; the next unit;
the tails still to come (port, layer). -/
structure SumFrame where
  cs : Nat
  frame : Nat
  sym : Nat
  rows : List (List (Int × Int))
  flags : List (List Nat)
  unit : Nat
  tails : List (Nat × Nat)
deriving DecidableEq, Repr

/-- A DOWN port's counts in the present frame (R297), and the symbols (slot, symbol) already counted in MISSING and TAG_MISMATCH. -/
structure ChildCnt where
  missing : Nat
  mismatch : Nat
  err : Nat
  seen : List (Nat × Nat)
  seenTag : List (Nat × Nat)
deriving DecidableEq, Repr

/-- A pending swap of the plan banks (R277): the frame's number, the cycle of its downlink boundary, and the command to complete. -/
structure PlanSwap where
  frame : Nat
  at_ : Nat
  cmd : Option Cmd
deriving DecidableEq, Repr

/-- The cascade beside its registers (chapter 9): the plan swap pending; frame boundaries passed without an UP port TIMED and without
a valid TIME frame; the sums in formation; each port's counts of frame
`childFrame`; the flags of the complete PRACH rows per engine;
packets in reassembly (keyed by 16 · port + KIND, R302), those whose rest is discarded; the frame of the last SECT_LATE; the cascade
map of CSTORE (UID and DA, R273) with whether one is held, and the graph found by discovery (port, UID, DA, rate, widths); the frame of the last
swap with PLAN_A and PLAN_B of the plan it ended (R277); the ports whose partner reported the manager's role to a manager (R274); and the cycle on
which each port's SHORT was set (R294). -/
structure CascX where
  swap : Option PlanSwap
  upLostN : Nat
  timeLostN : Nat
  sums : List SumFrame
  child : List ChildCnt
  childFrame : Nat
  prFlags : List (List Nat)
  parts : List (Nat × List Byte)
  dropping : List Nat
  lateFrame : Option Nat
  map : Option (List (Nat × Nat))
  graph : List (List Nat)
  old : Option (Nat × Word × Word)
  conflict : List Nat
  shortAt : List Nat
deriving DecidableEq, Repr

/-- A launch queue entry (R335): its queue, its launch instant in 2^−16 ns, whether it starts a burst or stands alone, the offset of
originTimestamp with ONE_STEP, and the frame. -/
structure LqEntry where
  queue : Nat
  at_ : Nat
  first : Bool
  oneStep : Option Nat
  bytes : List Byte
deriving DecidableEq, Repr

/-- The host port beside its registers (chapter 10): the launch queues of each Ethernet port, and the time (2^−16 ns) until which a
timed frame holds its wire. -/
structure HpX where
  lq : List (List LqEntry)
  wire : List Nat
deriving DecidableEq, Repr

/-- An accepted section record (R348, R350): slot, frame, first symbol and number of symbols, layer, PRBs p0 to p1 − 1, reference. -/
structure SectRec where
  d : Nat
  cs : Nat
  frame : Nat
  sym : Nat
  num : Nat
  layer : Nat
  p0 : Nat
  p1 : Nat
  ref : Nat
deriving DecidableEq, Repr

/-- The section plane beside its registers (chapter 11): the section store; the last sequence number of each ingress stream (keyed by
65,536 · message type + stream) and the next of each egress stream; the frames of the last FH_NOT_OWNER, FH_EARLY and FH_LATE per slot
(d · 8 + cs), of the last DL_DATA_MISSING per downlink slot, and the last symbol read out of each downlink ring. -/
structure SpX where
  store : List SectRec
  seqIn : List (Nat × Nat)
  seqOut : List (Nat × Nat)
  notOwner : List (Option Nat)
  early : List (Option Nat)
  late : List (Option Nat)
  miss : List (Option Nat)
  lastRead : List (Option (Nat × Nat))
deriving DecidableEq, Repr

/-- An aux DAC channel beside its registers (R375 to R379): its last loaded code, whether it stays at its clear code until its next
strobe (after the lock) or bias-on load (sequencer-owned), and the cycle on which a deglitcher hold ends. -/
structure AdacX where
  loaded : Nat
  stuckClr : Bool
  holdEnd : Option Nat
deriving DecidableEq, Repr

/-- A qualified input beside its registers (R380, R381): the synchronised pin level, the qualified physical level, the end of the
open chatter window and the edges in it, and the cycle since which the qualified level is active. -/
structure InputX where
  pin : Bool
  qual : Bool
  winEnd : Option Nat
  winEdges : Nat
  activeAt : Option Nat
deriving DecidableEq, Repr

/-- PA control (chapter 12): the 80 aux DAC channels, the 33 inputs, the frame of the last SEQ_OVERLAP of each quadrant, the cycle on
which the sequencer was last enabled (R373), the profiles in force before the boundary `profAt` (R372), and while the radio leaves ACTIVE or
TRIM, the cycles of each quadrant's TXON off edge, REST load and RXON off edge (R373). -/
structure PaX where
  adacs : List AdacX
  inputs : List InputX
  overlapFrame : List (Option Nat)
  seqFrom : Nat
  profOld : RegFile
  profAt : Nat
  leave : List (Nat × Nat × Nat)
deriving DecidableEq, Repr

/-- A calibration job as started (R398): kind, quadrants, sensor, wait, its start symbol, the frame number and cycle of GO, the command to
complete; the chains still to measure; the responses taken; TXIQ and RXIQ results are applied as they come. `from0` is the cycle
from which symbols count for the measurement in hand; `snap` the codes and LO of the quadrants at that cycle; `spoilt` says that a
condition of R400 has been seen since; `marked` that its chains are under measurement (R405). -/
structure CalJobX where
  kind : Nat
  qmask : Nat
  sensor : Nat
  wait : Nat
  start : Option (Nat × Nat)
  goFrame : Int
  goAt : Nat
  cmd : Option Cmd
  todo : List Nat
  got : List (Nat × (Int × Int))
  from0 : Nat
  snap : List Nat
  spoilt : Bool
  marked : Bool
deriving DecidableEq, Repr

/-- The calibration sequencer beside its registers (chapter 13): the cycle a record check began and the commands that wait for it; whether
the drifts have been loaded (R408); the quadrants that have a frequency point, and that have not yet evaluated a band; what TXIQ and
RXIQ jobs added to the factory corrections (keyed by 4 · chain + 0 TX_IQ, 1 RX_IQ, 2 TX_LOL: low and high field); the job; the
digests in the OTP commit slots, oldest first (R393). -/
structure CalX where
  checkAt : Option Nat
  checkCmds : List Cmd
  loaded : Bool
  fpSet : Nat
  fresh : Nat
  refine : List (Nat × (Int × Int))
  job : Option CalJobX
  digests : List Nat
deriving DecidableEq, Repr

/-- An active loop of a Flior core (R419): the first and last bundle of its body, iterations left with the one in progress, ROT, and
whether its body goes through the loop cache. -/
structure FdLoop where
  first : Nat
  last : Nat
  left : Nat
  rot : Bool
  cached : Bool
deriving DecidableEq, Repr

/-- An outstanding far load (R424): its slot operation (1 VLD, 3 SLD, 5 VLDB), its register (a physical V register or an S register),
its address, the core cycle of its issue and its bundle. -/
structure FarLoad where
  op : Nat
  dst : Nat
  addr : Nat
  issued : Nat
  pc : Nat
deriving DecidableEq, Repr

/-- A posted far store (R424): its address, its bytes and its bundle. -/
structure FarStore where
  addr : Nat
  bytes : List Byte
  pc : Nat
deriving DecidableEq, Repr

/-- A Flior core beside its control registers (R409): its vector registers (by physical number), accumulators (four lanes of I and Q
each), scalar, address and modulo registers; its loops, innermost first, and the bundles in the loop cache; the accesses
outstanding; the WFE mask while WAITING; a HALT that waits for far loads, and whether it was the instruction, after which no bundle issues; the SI cycle of START and the core cycle at which
it had been counted, and the next core cycle; for each interlocked resource the first core cycle at which it can be used (R423);
whether a kernel's session owns it, its mailbox and the hash of its kernel manifest (R432, R433, R551). -/
structure FliorX where
  v : List Nat
  acc : List (List (Int × Int))
  sr : List Nat
  pr : List Nat
  mr : List Nat
  loops : List FdLoop
  cache : List (Nat × Nat)
  loads : List FarLoad
  stores : List FarStore
  wfe : Nat
  haltDue : Bool
  halting : Bool
  baseAt : Nat
  baseCyc : Nat
  cyc : Nat
  ready : List (Nat × Nat)
  owned : Bool
  mailbox : Nat
  kernel : Option Nat
deriving DecidableEq, Repr

/-- A Flior core after reset (R436). -/
def FliorX.reset : FliorX where
  v := List.replicate 32 0
  acc := List.replicate 8 (List.replicate 4 (0, 0))
  sr := List.replicate 16 0
  pr := List.replicate 16 0
  mr := List.replicate 16 0
  loops := []
  cache := []
  loads := []
  stores := []
  wfe := 0
  haltDue := false
  halting := false
  baseAt := 0
  baseCyc := 0
  cyc := 0
  ready := []
  owned := false
  mailbox := 0
  kernel := none

/-- A bank retirement in progress (R479): the SMEM bank, the spare, the anchor cycle, the next word to copy and the command. -/
structure Retire where
  bank : Nat
  spare : Nat
  start : Nat
  next : Nat
  cmd : Option Cmd
deriving DecidableEq, Repr

/-- A single-bit error in the log of R481: the word and the second of device time. -/
structure CeEntry where
  word : Nat
  sec : Nat
deriving DecidableEq, Repr

/-- The memories beside their data (chapter 17): the words with V = 1 and their P bit (R471), sorted by word number; per ECC bank
(100 · memory + bank) the pending write-backs (R475), the patrol's next word and the cycle its next read is due (R477) and the
corrected errors of this second (R474); the banks whose patrol has wrapped in this pass; the retirement in progress; a bit per
spare that has served a bank since reset (R480); the second last published; the error log, the words whose poison a write has
cleared, and the retirements recorded by firmware (R481). -/
structure MemX where
  words : List (Nat × Bool)
  wb : List (Nat × List Nat)
  patrol : List (Nat × Nat)
  due : List (Nat × Nat)
  ceSec : List (Nat × Nat)
  wrapped : List Nat
  retire : Option Retire
  spent : Nat
  lastSec : Nat
  ceLog : List CeEntry
  cleared : List Nat
  retired : List Nat
deriving DecidableEq, Repr

/-- A piece that an express channel's read engine has read and its write engine has not written (R499): data, the offsets of poisoned
bytes. -/
structure Chunk where
  data : List Byte
  bad : List Nat
deriving DecidableEq, Repr

/-- A DMA channel beside its registers (R492 to R502): words 2 and 3 of the descriptor in hand, if one is, and whether poison was met in
it; the islands (a bit each, in the order SI, FI, MI, DI) for which it is drained and for which a drain waits; whether a freeze waits until what was read ahead is written (R491); for express channels what has been read ahead, with the read engine's next address and the
bytes it has still to read. -/
structure DmaX where
  desc : Option (Nat × Nat)
  poison : Bool
  drained : Nat
  drainDue : Nat
  freezeDue : Bool
  ahead : List Chunk
  rdSrc : Nat
  rdLen : Nat
deriving DecidableEq, Repr

/-- A DMA channel after reset (R510). -/
def DmaX.reset : DmaX where
  desc := none
  poison := false
  drained := 0
  drainDue := 0
  freezeDue := false
  ahead := []
  rdSrc := 0
  rdLen := 0

/-- The fabric (chapter 18): requesters' ages (keyed by 256 · arbiter + MID) and the MID last granted per arbiter (R486); the pacing
requests asserted (bit REQ, R497); the channels; the cycle and island of the drain in progress (R501, R502). -/
structure FabX where
  ages : List (Nat × Nat)
  granted : List (Nat × Nat)
  lines : Nat
  dma : List DmaX
  drain : List (Nat × Nat)
deriving DecidableEq, Repr

/-- A STATE_SET in progress (R461, R512 to R522): the states it leaves and enters, the gating it brings and the earliest instant of its
boundary (R513), whether that gating is in force, the quadrants it ungates, the quiet instant that is still to come and, for FALLOW,
whether it has passed; the wake report behind STATE_NOW; the command. -/
structure PwrMove where
  source : Nat
  target : Nat
  qgate : Nat
  chgate : Nat
  gateAt : Nat
  gated : Bool
  ungate : Nat
  quietAt : Option Nat
  draining : Bool
  rest : List Byte
  cmd : Option Cmd
deriving DecidableEq, Repr

/-- A wake in progress (R521, R525): WAKE_SRC, rule, whether it goes on to ACTIVE, its anchor, the Lark count's error in 2^−16 ns, the
milliseconds in FALLOW, and how far it is: 0 fired, 1 islands powered, 2 PLLs locked. -/
structure WakeX where
  src : Nat
  rule : Nat
  active : Bool
  at_ : Nat
  err : Int
  ms : Nat
  stage : Nat
deriving DecidableEq, Repr

/-- Power and thermal management beside their registers (chapter 19): latched thermal shutdown, its cycle, and whether the islands have been
gated for it (R530); per sensor the live reading with its offset, whether its last conversion was at or above SHUT_C, and the sum and
number of its readings in the present frame (R167, R396); whether THERM_WARN has been raised and not re-armed; the cycles since which
T_max has been at or above THROTTLE_C, and at or below THROTTLE_C − HYST, and of the last step (R529); the quadrants throttled, oldest
first, and the steps that wait for their frame boundary (earliest cycle, quadrant, throttled or released); the STATE_SET in progress;
the cycle on which the voltage step in hand began (R514); the Lark: filtered values of the 24
sensors and 13 supply monitors in units of 2^−32 once they have been sampled, runs of each rule, edges with their cycles, the wake rule
pending behind a HOLD or behind FALLOW entry, the wake; the sentinels lost in this FALLOW per memory (R518); QGATE and CHGATE of the
STATE_SET in force (R513; PWR_STATUS.QGATE and PWR_CHGATE show what they and throttling gate). -/
structure PowerX where
  shut : Bool
  shutAt : Nat
  dead : Bool
  live : List Int
  hot : List Bool
  acc : List (Int × Nat)
  warned : Bool
  hotSince : Option Nat
  coolSince : Option Nat
  stepAt : Nat
  throttled : List Nat
  steps : List (Nat × Nat × Bool)
  move : Option PwrMove
  vsetFrom : Nat
  filt : List (Option Int)
  runs : List Nat
  edges : List (Nat × Nat)
  pendWake : Option Nat
  wake : Option WakeX
  lost : List Nat
  qgate : Nat
  chgate : Nat
deriving DecidableEq, Repr

/-- A session credential (R552): its role, and the SHA-384 of its Ed25519 and ML-DSA-65 keys. -/
structure Cred where
  privileged : Bool
  ed : Nat
  ml : Nat
deriving DecidableEq, Repr

/-- A firmware update under way (R554): its command, its start, and what the staged manifest names. -/
structure FwJob where
  cmd : Option Cmd
  at_ : Nat
  version : Nat
  svn : Nat
  hash : Nat
  advance : Bool
deriving DecidableEq, Repr

/-- Thistle and boot (chapters 20 and 21). What OTP and the sealed store hold: the key table as TH_KEYS codes it, the hashes of the
keys programmed since delivery (slot; Ed25519, ML-DSA-65), the 64-bit counter word, DEBUG_DIS, the fused SHUT_C, the credentials. Beside them: the manifest
hashes of the running and the booted firmware, the SVN an advance waits to reach (R550), the update under way, the sampled BOOTMODE, the cycle
of the rising edge of RESET_N, whether a rail holds the device in reset, image requests made, the next BOOT_REQUEST, the BOOT_GO that
waits for its check, the advance flag of the booted image, and the cycle on which the device reset of a RESET command begins (R462). -/
structure ThX where
  keys : Nat
  hashes : List (Nat × (Nat × Nat))
  counter : Nat
  debugDis : Bool
  shutFuse : Nat
  creds : List (Option Cred)
  runHash : Nat
  bootHash : Nat
  advTo : Option Nat
  fw : Option FwJob
  mode : Nat
  from0 : Nat
  railWait : Bool
  tries : Nat
  reqAt : Nat
  bootGo : Option (Cmd × Nat)
  bootAdv : Bool
  resetAt : Option Nat
deriving DecidableEq, Repr

/-- Where start-up stands (R454, R569 to R574): held by RESET_N; the boot ROM before its PLLs lock; waiting for a boot image; the boot
firmware running; ready for commands; BOOT_FAIL. -/
inductive BootPhase where
  | held | rom | image | firmware | ready | failed
deriving DecidableEq, Repr

/-- A symbol of a carrier slot in air (R186): frame and symbol number, first and end cycle, the quadrants of QMASK on which the slot table
gives it the slot's own direction (R197), and those on which the slot's boundaries are the grid of R82 (uplink) or carry the symbol's
streams (downlink). -/
structure OpenSym where
  frame : Nat
  sym : Nat
  start : Nat
  fin : Nat
  act : Nat
  grid : Nat
deriving DecidableEq, Repr

/-- What the boundaries keep: the symbol in air of each slot (8 · d + cs); the last frame boundary handled on each timeline; the last apply
instant of each direction and quadrant (4 · d + q), and of each quadrant's trim (R63, R93); saturated samples counted where no register
holds the count (R121, R122, R131): uplink digital gain per slot, then uplink decimation, interpolation by 2, and composite, per quadrant.; the last instants
of the recurring rows (0 FREQ_SLEW_PERIOD, 1 VCXO_UPDATE, 2 LOAD_MONITOR_PUBLISH, 3 SYNCE_GATE, 4 PPS_OUT_EDGE, 5 LARK_EVALUATION). -/
structure BoundX where
  syms : List (Option OpenSym)
  frameAt : List (Option Nat)
  applied : List (Option Nat)
  trimmed : List (Option Nat)
  dgSat : List Nat
  bandSat : List Nat
  convSat : List Nat
  compSat : List Nat
  ticks : List Nat
deriving DecidableEq, Repr

/-- A downlink symbol's carrier samples (R121 step 1): slot, frame, symbol, the cycles of its first CP sample at the port and of its end, the rate
exponent m, the gain in force, and per chain the samples at fs_c, Q1.15. -/
structure Wave where
  cs : Nat
  frame : Nat
  sym : Nat
  start : Nat
  fin : Nat
  m : Nat
  gain : Nat
  chs : List (Nat × List (Int × Int))
deriving DecidableEq, Repr

/-- A frequency word of a slot on a quadrant, and the cycle from which it was in force (R127, R128). -/
structure NcoWord where
  d : Nat
  q : Nat
  cs : Nat
  from0 : Nat
  ftw : Int
deriving DecidableEq, Repr

/-- The settings of a quadrant's crest-factor reduction, with the pulse of the bank in force, from a cycle on (R136). -/
structure CfrSet where
  q : Nat
  from0 : Nat
  en : Bool
  stages : Nat
  pkMax : Nat
  thr : List Nat
  hc : Option Nat
  pulse : List (Int × Int)
deriving DecidableEq, Repr

/-- A run of a chain's samples: its first cycle, and its samples. -/
structure RxRun where
  ch : Nat
  start : Nat
  y : List (Int × Int)
deriving DecidableEq, Repr

/-- What an uplink symbol of a slot is processed with (R182, R185, R189, R190, R208), fixed at its boundary: slot, frame, symbol, first and end cycle; μ, log2 of the FFT size,
PRB, SHIFT, WIN_ADV, PHC and its angle, CS_RX_DG, UL_SHIFT and CS_UL_FMT; the quadrants of QMASK, those that are UL, the chains whose samples are zero; and the
owner. `bins` holds the subcarriers of each chain once the symbol has been transformed, and `slip` the quadrants of which samples were zeroed for a
slipped crossing (R39). -/
structure UlSym where
  cs : Nat
  frame : Nat
  sym : Nat
  start : Nat
  fin : Nat
  mu : Nat
  log2n : Nat
  rb : Nat
  shift : Nat
  adv : Nat
  theta : Option Nat
  dg : Nat
  act : Nat
  zero : Nat
  own : Nat
  slip : Nat
  mac : Nat
  fmt : Nat
  bins : Option (List (Nat × List (Int × Int)))
deriving DecidableEq, Repr

/-- The uplink gate of a quadrant from a cycle on (R39, R112): whether its samples pass, and whether its crossing is held. -/
structure RxGate where
  q : Nat
  from0 : Nat
  pass : Bool
  slip : Bool
deriving DecidableEq, Repr

/-- Samples on their way through the device (R43, R44). Downlink: the cycle up to which the streams have left, the carrier symbols in hand, the
frequency words and the settings of crest-factor reduction over the last frame, and per chain the last samples of the composite, before
crest-factor reduction, and at the DAC input. Uplink: the gates, the last corrected converter samples per chain, the decimated streams, and the
symbols of each slot. -/
structure SigX where
  txDone : Nat
  waves : List Wave
  nco : List NcoWord
  cfr : List CfrSet
  comp : List (Nat × List (Int × Int))
  pre : List (Nat × List (Int × Int))
  dac : List (Nat × List (Int × Int))
  rxGates : List RxGate
  adc : List RxRun
  rx : List RxRun
  ulSyms : List UlSym
deriving DecidableEq, Repr


/-- The state of the block: the queue of waiting commands, the registers (`regs`, as a read returns them) and the working copies of
the shadowed ones (`work`, R22), memory, the SI cycle count, the counter of free values, what has left the device, and the
state of each unit that no register shows. -/
structure State where
  pending : List Instr
  regs : RegFile
  work : RegFile
  mem : Memory
  now : Nat
  free : Nat
  out : List Output
  tm : TimeX
  fe : FrontX
  fm : FaultX
  chains : List ChainX
  hold : HoldX
  lo : LoX
  rfPend : List RfCommit
  f0Pend : List RfCommit
  dfe : DfeX
  pd : List PdX
  pdFresh : List Bool
  pdEcc : List (Nat × Bool)
  pdAdapt : Nat
  slot : SlotX
  enJobs : List EnJob
  prach : List PrachX
  bf : BeamX
  hg : List HgX
  casc : CascX
  hp : HpX
  sp : SpX
  pa : PaX
  cal : CalX
  fd : List FliorX
  memx : MemX
  fab : FabX
  pw : PowerX
  th : ThX
  boot : BootPhase
  bound : BoundX
  sig : SigX
deriving DecidableEq, Repr

/-- A command stops the machine with a fault: no command of this block does (an error of the device is an effect on its
state), so the type is empty. -/
inductive Fault where
deriving DecidableEq, Repr

/-- Why a command has no next state. -/
inductive Refusal where
  /-- Raised by `exec` for a command that has no meaning yet; safe: the model stops where the hardware goes on. -/
  | notModelled (mnemonic : String)
deriving DecidableEq, Repr

/-- The machine right after device reset: every register at its reset value, nothing listed in memory, every unit at rest
(R85, R118, R205, R309, R339, R365, R387, R408, R436, R454, R480, R485, R510, R534, R557). -/
def State.reset : State where
  pending := []
  regs := []
  work := []
  mem := []
  now := 0
  free := 0
  out := []
  tm := { epoch := 0, base := 0, baseAt := 0, stepAt := none, slew := none, servos := List.replicate 2 Servo.reset, freqCmd := 0,
          dither := 0, synceEnded := false, ppsUntil := 0, ppsLast := none, carriersHeld := false, fallowAt := none,
          parentGood := false }
  fe := { q0 := [], q1 := [], q2 := [], q3 := [], running := [], q2Taken := 0, lat := [[], [], []], occMax := [0, 0, 0, 0],
          sess := List.replicate 16 Session.empty, spiOut := [], noSess := [], stopped := false, told := 0, anon := [] }
  fm := { held := [], safeAt := none, retried := [] }
  chains := List.replicate 64 ChainX.reset
  hold := { paLine := 0, convHold := 0, convDead := 0, paOff := false, upLost := false }
  lo := { syns := List.replicate 2 { calAt := none, job := .none, fails := 0, wasMirror := false, drift := false, presetAt := 0, acc := 0, divs := 0 },
          tune := none, waiting := none,
          hasLo := 0, settleEnd := [none, none, none, none], failHold := 0, retuneQ := 0, relockQ := 0, swapPend := false,
          swapAt := none, txLateFrame := [none, none, none, none], rxInvFrame := [none, none, none, none],
          rxBad := [0, 0, 0, 0], armJob := none, armDeadline := 0 }
  rfPend := []
  f0Pend := []
  dfe := { caps := List.replicate 8 { goFrame := 0, goAt := 0, startAt := none, samples := [], paired := false, cmd := none },
           pbArm := false, pbStop := false, pbPtr := 0, pbWin := none, convLost := [0, 0, 0, 0] }
  pd := List.replicate 64 PdX.reset
  pdFresh := [true, true, true, true]
  pdEcc := []
  pdAdapt := 0
  slot := { checkAt := none, checkFail := none, cancelWaits := false, commitWaits := false, swapAt := none, copyAt := none,
            job := none, answered := false, inFrame := none, swappedAt := none, oldMu := 0, oldLast := 0 }
  enJobs := []
  prach := List.replicate 4 { endAt := none, frame := 0, rows := [], beams := [], rowsDue := false, beamsDue := false, cs := 0, cls := 0, mu := 0,
                                 reps := 0, shift := 0, own := 31, fmt := 0, prAdd := 0 }
  bf := { flips := [], lq := [], holds := [], fifo := [], busy := none, jobs := [], plans := [],
          planned := List.replicate 16 none, shifts := List.replicate 16 0, colZero := [], colDead := [], dlOut := [], 
          badFrame := List.replicate 16 none, poisonFrame := List.replicate 16 none }
  hg := List.replicate 4 HgX.reset
  casc := { swap := none, upLostN := 0, timeLostN := 0, sums := [],
            child := List.replicate 4 { missing := 0, mismatch := 0, err := 0, seen := [], seenTag := [] }, childFrame := 0,
            prFlags := List.replicate 4 [], parts := [], dropping := [], lateFrame := none, map := none, graph := [], old := none, conflict := [],
            shortAt := List.replicate 4 0 }
  hp := { lq := List.replicate 8 [], wire := List.replicate 8 0 }
  sp := { store := [], seqIn := [], seqOut := [], notOwner := List.replicate 16 none, early := List.replicate 16 none,
          late := List.replicate 16 none, miss := List.replicate 8 none, lastRead := List.replicate 8 none }
  pa := { adacs := List.replicate 80 { loaded := 0, stuckClr := false, holdEnd := none },
          inputs := List.replicate 33 { pin := true, qual := true, winEnd := none, winEdges := 0, activeAt := none },
          overlapFrame := [none, none, none, none], seqFrom := 0, profOld := [], profAt := 0, leave := [] }
  cal := { checkAt := none, checkCmds := [], loaded := false, fpSet := 0, fresh := 15, refine := [], job := none, digests := [] }
  fd := List.replicate 8 FliorX.reset
  memx := { words := [], wb := [], patrol := [], due := [], ceSec := [], wrapped := [], retire := none, spent := 0, lastSec := 0,
            ceLog := [], cleared := [], retired := [] }
  fab := { ages := [], granted := [], lines := 0, dma := List.replicate 32 DmaX.reset, drain := [] }
  pw := { shut := false, shutAt := 0, dead := false, live := List.replicate 24 0, hot := List.replicate 24 false,
          acc := List.replicate 24 (0, 0), warned := false, hotSince := none, coolSince := none, stepAt := 0, throttled := [],
          steps := [], move := none, vsetFrom := 0, filt := List.replicate 37 none, runs := List.replicate 16 0, edges := [],
          pendWake := none, wake := none, lost := [0, 0, 0, 0, 0],
          qgate := 0, chgate := 0 }
  th := { keys := 0x015015, hashes := [], counter := 0, debugDis := false, shutFuse := 125,
          creds := List.replicate 8 none, runHash := 0, bootHash := 0, advTo := none, fw := none, mode := 0, from0 := 0,
          railWait := false, tries := 0, reqAt := 0, bootGo := none, bootAdv := false, resetAt := none }
  boot := .held
  bound := { syms := List.replicate 16 none, frameAt := [none, none], applied := List.replicate 8 none, trimmed := List.replicate 4 none,
             dgSat := List.replicate 8 0, bandSat := List.replicate 4 0, convSat := List.replicate 4 0, compSat := List.replicate 4 0, ticks := List.replicate 6 0 }
  sig := { txDone := 0, waves := [], nco := [], cfr := [], comp := [], pre := [], dac := [], rxGates := [], adc := [], rx := [], ulSyms := [] }

end Sys2Proof.Machine
end

