-- ==== Sys2Proof/Machine/Ops.lean ====
section
/-! DEFINITION. The named operations over bits, registers, memory and time that every meaning is written with. -/

namespace Sys2Proof.Machine

/-! ### Bits and numbers -/

/-- Bits [hi:lo] of a number (R10). -/
def bits (n hi lo : Nat) : Nat := (n >>> lo) % 2 ^ (hi + 1 - lo)

/-- Bit `i` of a number. -/
def bit (n i : Nat) : Bool := n.testBit i

/-- A number with its `w` bits from `lo` replaced by `v`. -/
def insBits (n lo w v : Nat) : Nat := n - (n >>> lo) % 2 ^ w * 2 ^ lo + v % 2 ^ w * 2 ^ lo

/-- 1 for true, 0 for false. -/
def b2n (b : Bool) : Nat := if b then 1 else 0

/-- The two's complement value of the low `w` bits (R13). -/
def toInt (w n : Nat) : Int := if n % 2 ^ w < 2 ^ (w - 1) then (n % 2 ^ w : Nat) else (n % 2 ^ w : Nat) - (2 ^ w : Nat)

/-- The low `w` bits of an integer's two's complement form (R13). -/
def ofInt (w : Nat) (i : Int) : Nat := (i % (2 ^ w : Nat)).toNat

/-- Saturation to a signed number of `w` bits. -/
def satS (w : Nat) (i : Int) : Int := max (-(2 ^ (w - 1) : Nat)) (min i ((2 ^ (w - 1) : Nat) - 1))

/-- Clamp to an interval. -/
def clampI (lo hi i : Int) : Int := max lo (min i hi)

/-- Division by a positive number, rounded to nearest with ties to even (R13, convergent rounding). -/
def roundDiv (i : Int) (d : Nat) : Int :=
  let q := i / d
  let r := i % d
  if 2 * r < d then q else if 2 * r > d then q + 1 else if q % 2 = 0 then q else q + 1

/-- Right shift by `n` with convergent rounding (R13). -/
def roundShift (i : Int) (n : Nat) : Int := roundDiv i (2 ^ n)

/-- Quotient rounded up. -/
def ceilDiv (a b : Nat) : Nat := (a + b - 1) / b

/-- The numbers below `n` whose bit is set in `m`, in rising order. -/
def bitList (n m : Nat) : List Nat := (List.range n).filter fun i => m.testBit i

/-- A number with bit `i` set or cleared. -/
def setBit (n i : Nat) (b : Bool) : Nat := insBits n i 1 (b2n b)

/-- Bytes of a number, most significant first (R12, packets). -/
def beBytes : Nat → Nat → List Byte
  | 0, _ => []
  | k + 1, n => BitVec.ofNat 8 (n >>> (8 * k)) :: beBytes k n

/-- The number spelled by bytes, most significant first (R12). -/
def beNat (l : List Byte) : Nat := l.foldl (fun a b => a * 256 + b.toNat) 0

/-- Bytes of a number, least significant first (R12, device memory). -/
def leBytes : Nat → Nat → List Byte
  | 0, _ => []
  | k + 1, n => BitVec.ofNat 8 n :: leBytes k (n >>> 8)

/-- The number spelled by bytes, least significant first (R12). -/
def leNat : List Byte → Nat
  | [] => 0
  | b :: t => b.toNat + 256 * leNat t

/-- Update one element of a list (no effect outside it). -/
def updAt {α : Type} : List α → Nat → (α → α) → List α
  | [], _, _ => []
  | x :: t, 0, f => f x :: t
  | x :: t, n + 1, f => x :: updAt t n f

/-- Fold a step over a list of things, from left to right. -/
def forAll {α : Type} (l : List α) (f : α → State → State) (s : State) : State := l.foldl (fun s x => f x s) s

/-- A state step taken only when a condition holds. -/
def doIf (b : Bool) (f : State → State) (s : State) : State := if b then f s else s

/-! ### Sorted sparse maps -/

/-- The value listed at a key, if any. -/
def look {α : Type} : List (Nat × α) → Nat → Option α
  | [], _ => none
  | (b, w) :: t, a => if a = b then some w else look t a

/-- Put a value at a key, keeping the keys sorted. -/
def insertKey {α : Type} : List (Nat × α) → Nat → α → List (Nat × α)
  | [], a, v => [(a, v)]
  | (b, w) :: t, a, v =>
    if a < b then (a, v) :: (b, w) :: t else if a = b then (a, v) :: t else (b, w) :: insertKey t a v

/-- Remove a key. -/
def eraseKey {α : Type} : List (Nat × α) → Nat → List (Nat × α)
  | [], _ => []
  | (b, w) :: t, a => if a = b then eraseKey t a else (b, w) :: eraseKey t a

/-- Strictly rising keys. -/
def keysRise {α : Type} : List (Nat × α) → Bool
  | [] => true
  | [_] => true
  | (a, _) :: (b, w) :: t => a < b && keysRise ((b, w) :: t)

/-! ### Registers -/

/-- The rows of the block that holds an address, by bits [31:20] of the address (R17 and the chapters' block bases). -/
def blockRows (a : Nat) : List RegRow :=
  match a >>> 20 with
  | 0x110 => regRowsLO
  | 0x111 => regRowsDFE
  | 0x112 => regRowsLP
  | 0x113 => regRowsBF
  | 0x114 => regRowsHP
  | 0x115 => regRowsHG
  | 0x116 => regRowsTU
  | 0x117 => regRowsPA
  | 0x118 => regRowsCAL
  | 0x119 => regRowsFD
  | 0x11a => regRowsDMA
  | 0x11b => regRowsFAB
  | 0x11c => regRowsPWR
  | 0x11d => regRowsTHERM
  | 0x11e => regRowsFM
  | 0x11f => regRowsTH
  | 0x120 => regRowsLK
  | n => if 0x100 ≤ n ∧ n ≤ 0x103 then regRowsCHB else []

/-- The indices of an offset under (count, stride) pairs, if it is exactly the start of one element. -/
def matchDims : List (Nat × Nat) → Nat → Option (List Nat)
  | [], o => if o = 0 then some [] else none
  | (n, st) :: t, o => if o / st < n then (matchDims t (o % st)).map (o / st :: ·) else none

/-- The row and indices of the register at a word address, if the block defines one (R15). -/
def findReg (a : Nat) : Option (RegRow × List Nat) :=
  (blockRows a).findSome? fun r => if r.base ≤ a then (matchDims r.dims (a - r.base)).map (r, ·) else none

/-- Default Lark rules (R526): condition and action words of rule `i`. -/
def larkRuleReset (i : Nat) : Nat × Nat :=
  match i with
  | 0 => (0x28 <<< 25 ||| 2 <<< 23, 1 <<< 28 ||| 8 <<< 24)
  | 1 => (41 <<< 25 ||| 2 <<< 23, 1 <<< 28 ||| 8 <<< 24)
  | 2 => (46 <<< 25 ||| 2 <<< 23, 1 <<< 28 ||| 8 <<< 24)
  | 3 => (59 <<< 25 ||| 1 <<< 23 ||| 760, 3 <<< 28 ||| 15 <<< 24)
  | _ => (0, 0)

/-- The reset value of a register element: the row's, or the value the chapter states for the index. -/
def resetWord (r : RegRow) (ix : List Nat) : Word :=
  match r.id, ix with
  | .CH_BLKID, [ch] => BitVec.ofNat 32 (0x0C010100 + ch)
  | .HG_BLKID, [p] => BitVec.ofNat 32 (0x0C150100 + p)
  | .PD_TERMS, [_, w] => if w = 0 then 0x88 else 0
  | .SMEM_PART, [i] =>
    BitVec.ofNat 32 ([0x000000C0, 0x00C0001B, 0x00DB004A, 0x01250020, 0x01450010, 0x01550010].getD i 0)
  | .IN_CFG, [i] => if i < 16 then 0xC000000A else 0x8000000A
  | .FAB_CLASS, [w] => BitVec.ofNat 32 ([0x55550055, 0, 0x55555555, 0x55555555, 0x55555555, 0x001F0055].getD w 0)
  | .LK_RULE_COND, [i] => BitVec.ofNat 32 (larkRuleReset i).1
  | .LK_RULE_ACTION, [i] => BitVec.ofNat 32 (larkRuleReset i).2
  | _, _ => r.rst

/-- What the register file reads at an address that it does not list: the reset value, and 0 where no register is (R15). -/
def resetAt (a : Nat) : Word :=
  match findReg a with
  | some (r, ix) => resetWord r ix
  | none => 0

/-- Read a register file. -/
def RegFile.get (f : RegFile) (a : Nat) : Word := (look f a).getD (resetAt a)

/-- Write a register file, keeping its canonical form. -/
def RegFile.set (f : RegFile) (a : Nat) (v : Word) : RegFile := if v = resetAt a then eraseKey f a else insertKey f a v

/-- The canonical form of a register file. -/
def RegFile.wf (f : RegFile) : Bool := keysRise f && f.all fun (a, v) => v ≠ resetAt a

/-- The register at an address. -/
def State.reg (s : State) (a : Nat) : Word := s.regs.get a

/-- Set the register at an address. -/
def State.setReg (s : State) (a : Nat) (v : Word) : State := { s with regs := s.regs.set a v }

/-- The working copy of the shadowed register at an address (R22). -/
def State.wrk (s : State) (a : Nat) : Word := s.work.get a

/-- Set a working copy. -/
def State.setWrk (s : State) (a : Nat) (v : Word) : State := { s with work := s.work.set a v }

/-- A field of a word. -/
def Field.of (f : Field) (w : Word) : Nat := (w.toNat >>> f.lo) % 2 ^ f.width

/-- A word with a field replaced. -/
def Field.into (f : Field) (w : Word) (v : Nat) : Word := BitVec.ofNat 32 (insBits w.toNat f.lo f.width v)

/-- A register field's value. -/
def State.get (s : State) (f : Field) : Nat := f.of (s.reg f.addr)

/-- Set a register field. -/
def State.put (s : State) (f : Field) (v : Nat) : State := s.setReg f.addr (f.into (s.reg f.addr) v)

/-- Whether a register field is not 0. -/
def State.flag (s : State) (f : Field) : Bool := s.get f ≠ 0

/-- A field of the working copy. -/
def State.wget (s : State) (f : Field) : Nat := f.of (s.wrk f.addr)

/-- Set a field of the working copy. -/
def State.wput (s : State) (f : Field) (v : Nat) : State := s.setWrk f.addr (f.into (s.wrk f.addr) v)

/-- Move a shadowed register to its working copy (R22). -/
def State.apply (s : State) (a : Nat) : State := s.setWrk a (s.reg a)

/-- A field read as a signed number (R13). -/
def State.getS (s : State) (f : Field) : Int := toInt f.width (s.get f)

/-! ### Free values, output -/

/-- A value the spec leaves open: the next free value. -/
def State.freeVal (s : State) : Nat := Config.freeNat s.free

/-- The next free value is another one. -/
def State.freeNext (s : State) : State := { s with free := s.free + 1 }

/-- Something leaves the device. -/
def State.emit (s : State) (o : Output) : State := { s with out := s.out ++ [o] }

/-! ### Memory bytes -/

/-- The byte at an address: what no write has set reads as zero (R473, R485). -/
def Memory.get (m : Memory) (a : Nat) : Byte := (look m a).getD 0

/-- Write a byte, keeping the canonical form. -/
def Memory.set (m : Memory) (a : Nat) (v : Byte) : Memory := if v = 0 then eraseKey m a else insertKey m a v

/-- The canonical form of memory. -/
def Memory.wf (m : Memory) : Bool := keysRise m && m.all fun (_, v) => v ≠ 0

/-- Write bytes from an address upward. -/
def Memory.setList (m : Memory) : Nat → List Byte → Memory
  | _, [] => m
  | a, b :: t => Memory.setList (m.set a b) (a + 1) t

/-- The bytes of a state's memory. -/
def State.byte (s : State) (a : Nat) : Byte := s.mem.get a

/-- `n` bytes from an address upward. -/
def State.bytes (s : State) (a : Nat) : Nat → List Byte
  | 0 => []
  | n + 1 => s.byte a :: s.bytes (a + 1) n

/-- Store bytes from an address upward. -/
def State.store (s : State) (a : Nat) (l : List Byte) : State := { s with mem := s.mem.setList a l }

/-- The canonical form of a state: registers, working copies and memory each list strictly rising addresses, and nothing that reads
as an unlisted address does. -/
def State.canonical (s : State) : Bool := s.regs.wf && s.work.wf && s.mem.wf

/-! ### Instants: device time and the frame grid -/

/-- Increments of device time in `n` SI cycles from the array epoch, in 2^−16 ns (R317). -/
def timeUnits (n : Nat) : Nat := 133333 * n + (n + 2) / 3

/-- One second of device time in 2^−16 ns. -/
def secUnits : Nat := 1000000000 * 65536

/-- SI cycles in a frame (R183), a second, a half-subframe (R185). -/
def frameCycles : Nat := 4915200

/-- SI cycles in a second of device time. -/
def secCycles : Nat := 491520000

/-- SI cycles in a half-subframe (R185). -/
def halfSubCycles : Nat := 245760

/-- SI cycles in a millisecond. -/
def msCycles : Nat := 491520

/-- What a worker's slew has added by a cycle, in 2^−16 ns (R306). -/
def Slew.part (w : Slew) (c : Nat) : Int := w.total * (min (c - w.start) frameCycles : Nat) / frameCycles

/-- Device time at cycle `c`, in 2^−16 ns since time zero (R317). -/
def State.timeAt (s : State) (c : Nat) : Int :=
  s.tm.base + ((timeUnits (c - s.tm.epoch) : Nat) - (timeUnits (s.tm.baseAt - s.tm.epoch) : Nat) : Int)
    + (match s.tm.slew with | some w => w.part c | none => 0)

/-- Device time now. -/
def State.time (s : State) : Nat := (s.timeAt s.now).toNat

/-- Seconds, nanoseconds and fraction of a time in 2^−16 ns. -/
def timeSec (t : Nat) : Nat := t / secUnits % 2 ^ 48

/-- Nanoseconds of a time. -/
def timeNs (t : Nat) : Nat := t / 65536 % 1000000000

/-- Fractional nanoseconds of a time. -/
def timeFrac (t : Nat) : Nat := t % 65536

/-- The 12 bytes of device time of R305: seconds (48 bits), nanoseconds (32), fraction (16), most significant byte first. -/
def timeBytes (t : Nat) : List Byte := beBytes 6 (timeSec t) ++ beBytes 4 (timeNs t) ++ beBytes 2 (timeFrac t)

/-- Fewest cycles in which `d` units of time pass, from a multiple of three cycles after the epoch (R317). -/
def cyclesFor (d : Nat) : Nat :=
  3 * (d / 400000) + (if d % 400000 = 0 then 0 else if d % 400000 ≤ 133334 then 1 else if d % 400000 ≤ 266667 then 2 else 3)

/-- The first cycle at or after `c` on which device time is at least `t` (R317). -/
def State.cycleOf (s : State) (c t : Nat) : Nat :=
  max c (s.tm.epoch + cyclesFor ((t : Int) - s.tm.base + (timeUnits (s.tm.baseAt - s.tm.epoch) : Nat)
    - (match s.tm.slew with | some w => w.part c | none => 0)).toNat)

/-- The next start of a second after now: the second's number and its cycle (R318). -/
def State.nextSecond (s : State) : Nat × Nat :=
  let n := s.time / secUnits + 1
  (n, s.cycleOf (s.now + 1) (n * secUnits))

/-- The cycle on which the next second of device time after cycle `c` begins. -/
def State.secondAfter (s : State) (c : Nat) : Nat := s.cycleOf (c + 1) (((s.timeAt c).toNat / secUnits + 1) * secUnits)

/-- The frame grid's number of the frame that holds cycle `c`, counted from time zero, on the downlink timeline (R183). -/
def State.frameNo (s : State) (c : Nat) : Int :=
  let (n, at0) := s.nextSecond
  100 * n + ((c : Int) - s.get R.FRAME_CFG_FRAME_OFF - at0) / frameCycles

/-- The cycle on which frame `k` begins on the downlink timeline (R183). -/
def State.frameStart (s : State) (k : Int) : Int :=
  let (n, at0) := s.nextSecond
  at0 + s.get R.FRAME_CFG_FRAME_OFF + (k - 100 * n) * frameCycles

/-- The uplink advance of a direction (R184). -/
def State.advance (s : State) (d : Dir) : Nat :=
  match d with
  | .dl => 0
  | .ul => s.get R.TA_CFG_UL_TA_OFF

/-- The first boundary of a frame after cycle `c` on a timeline (R183, R184): its cycle and the frame's number. -/
def State.nextFrame (s : State) (d : Dir) (c : Nat) : Nat × Nat :=
  let k := s.frameNo (c + s.advance d) + 1
  ((s.frameStart k - s.advance d).toNat, k.toNat)

/-- SFN now on the downlink timeline (R183). -/
def State.sfn (s : State) : Nat := (s.frameNo s.now % 1024).toNat

/-- Length of a normal symbol of numerology μ (R185). -/
def symCycles (mu : Nat) : Nat := 35072 / 2 ^ mu

/-- Length of the long symbol 0 of a half-subframe (R185). -/
def longSymCycles (mu : Nat) : Nat := symCycles mu + 256

/-- Symbols in a frame (R186). -/
def symsPerFrame (mu : Nat) : Nat := 140 * 2 ^ mu

/-- The cycle in its frame on which symbol `n` begins (R185): halves of 7·2^μ symbols, the first of each long. -/
def symStart (mu n : Nat) : Nat :=
  let per := 7 * 2 ^ mu
  n / per * halfSubCycles + (if n % per = 0 then 0 else longSymCycles mu + (n % per - 1) * symCycles mu)

/-- The symbol of a frame that holds cycle `c` of the frame. -/
def symAt (mu c : Nat) : Nat :=
  let per := 7 * 2 ^ mu
  let r := c % halfSubCycles
  c / halfSubCycles * per + (if r < longSymCycles mu then 0 else 1 + (r - longSymCycles mu) / symCycles mu)

/-- The first symbol boundary after cycle `c` of numerology μ on a timeline (R186): its cycle, its frame's number, its symbol. -/
def State.nextSymbol (s : State) (d : Dir) (mu c : Nat) : Nat × Nat × Nat :=
  let k := s.frameNo (c + s.advance d)
  let start := (s.frameStart k - s.advance d).toNat
  let n := symAt mu (c - start) + 1
  if n < symsPerFrame mu then (start + symStart mu n, k.toNat, n) else (start + frameCycles, k.toNat + 1, 0)

/-- Time passes up to a cycle (never back). -/
def State.advanceTo (s : State) (c : Nat) : State := { s with now := max s.now c }

/-- The cycle count moves to the next instant of recurring row `k`, where `next c` is its first instant after cycle `c`; an instant on
this very cycle counts unless the row has acted on it. -/
def State.tickTo (s : State) (k : Nat) (next : Nat → Nat) : State :=
  let c := next (if s.bound.ticks.getD k 0 = s.now then s.now else s.now - 1)
  { s.advanceTo c with bound := { s.bound with ticks := updAt s.bound.ticks k fun _ => c } }

/-- The next alignment edge at or after now: REFCLK edges fall every second SI cycle from the epoch (R33). -/
def State.alignEdge (s : State) : Nat := s.now + (s.now - s.tm.epoch) % 2

end Sys2Proof.Machine
end

