-- ==== Sys2Proof/Machine/Polar.lean ====
section
/-! DEFINITION. Gain in dB and phase of a complex number, and back, for the interpolation, the drifts and the slews of calibration
(R397, R402, R403). The rules are over the real numbers; these functions work in fixed point, gains in 2^−48 dB and angles in 2^−48
turns, far below the last bit of every quantity that they are rounded to. -/

namespace Sys2Proof.Machine

/-- One turn in the unit of angle. -/
def turn : Nat := 2 ^ 48

/-- The terms from the `k`-th on of the power series of sine or cosine at `x`, from term `t`, in 2^−60 (`k` counts factors). -/
def trigTail (x2 : Int) : Nat → Nat → Int → Int
  | 0, _, _ => 0
  | fuel + 1, k, t => t + trigTail x2 fuel (k + 2) (-(t * x2 / 2 ^ 60) / ((k + 1) * (k + 2)))

/-- An angle in radians, in 2^−60, folded into (−π, π]. -/
def radians (a : Int) : Int :=
  let r := a % turn
  let r := if 2 * r > turn then r - turn else r
  r * 7244019458077122842 / 2 ^ 48

/-- Cosine, in 2^−60. -/
def cosOf (a : Int) : Int := let x := radians a; trigTail (x * x / 2 ^ 60) 20 0 (2 ^ 60)

/-- Sine, in 2^−60. -/
def sinOf (a : Int) : Int := let x := radians a; trigTail (x * x / 2 ^ 60) 20 1 x

/-- Bits of an angle of the upper half plane, from the half turn's half downward: the largest one not past the direction of (i, q). -/
def argBits (i q : Int) : Nat → Int → Int
  | 0, a => a
  | k + 1, a =>
    let b := a + 2 ^ k
    argBits i q k (if cosOf b * q - sinOf b * i ≥ 0 then b else a)

/-- The phase of a complex number that is not zero, in (−1/2, 1/2] turn. -/
def argOf (z : Int × Int) : Int :=
  if z.2 = 0 then (if z.1 < 0 then turn / 2 else 0)
  else if 0 < z.2 then argBits z.1 z.2 47 0
  else -(argBits z.1 (-z.2) 47 0)

/-- Bits of a base-2 logarithm after the point, of a mantissa in [1, 2) scaled by 2^60. -/
def logBits : Nat → Nat → Nat
  | 0, _ => 0
  | k + 1, m =>
    let m := m * m / 2 ^ 60
    if 2 ^ 61 ≤ m then 2 ^ k + logBits k (m / 2) else logBits k m

/-- The base-2 logarithm of a positive number, in 2^−48. -/
def log2Of (n : Nat) : Nat :=
  let e := Nat.log2 n
  e * 2 ^ 48 + logBits 48 (n * 2 ^ 60 / 2 ^ e)

/-- The gain 20·log10 of the magnitude of a complex number that is not zero, relative to 1. -/
def dbOf (z : Int × Int) : Int := (log2Of (z.1 * z.1 + z.2 * z.2).toNat : Int) * 847324110187280 |> fun x => roundShift x 48

/-- Bits of an integer square root. -/
def rootBits (n : Nat) : Nat → Nat → Nat
  | 0, r => r
  | k + 1, r => rootBits n k (if (r + 2 ^ k) * (r + 2 ^ k) ≤ n then r + 2 ^ k else r)

/-- A power of 2 with an exponent in [0, 1), in 2^−60: the product of the roots of 2 that its bits select. -/
def powBits (f : Nat) : Nat → Nat → Nat → Nat
  | 0, _, acc => acc
  | k + 1, c, acc =>
    let c := rootBits (c * 2 ^ 60) 62 0
    powBits f k c (if f.testBit k then acc * c / 2 ^ 60 else acc)

/-- The magnitude of a gain, in 2^−60. -/
def magOf (g : Int) : Nat :=
  let e := g * 191496116867664726 / 2 ^ 60
  let m := powBits (e % 2 ^ 48).toNat 48 (2 ^ 61) (2 ^ 60)
  let i := e / 2 ^ 48
  if 0 ≤ i then m * 2 ^ min i.toNat 64 else m / 2 ^ i.natAbs

/-- A gain and a phase as I and Q in Q2.14, rounded convergently and saturated (R397). -/
def fromPolar (g a : Int) : Int × Int :=
  let m : Int := magOf g
  (satS 16 (roundShift (m * cosOf a) 106), satS 16 (roundShift (m * sinOf a) 106))

/-- An angle brought into (−1/2, 1/2] turn. -/
def foldTurn (a : Int) : Int :=
  let r := a % turn
  if 2 * r > turn then r - turn else r

/-- Hundredths of a dB, rounded. -/
def centiDb (g : Int) : Int := roundShift (g * 100) 48

/-- A gain of so many hundredths of a dB. -/
def ofCentiDb (n : Int) : Int := roundDiv (n * 2 ^ 48) 100

/-- Hundredths of a degree of a folded angle, rounded. -/
def centiDeg (a : Int) : Int := roundShift (foldTurn a * 36000) 48

/-- An angle of so many hundredths of a degree. -/
def ofCentiDeg (n : Int) : Int := roundDiv (n * 2 ^ 48) 36000

/-- I and Q of a Q2.14 word, I in the low half (R407). -/
def iqOf (w : Nat) : Int × Int := (toInt 16 (w % 65536), toInt 16 (w / 65536))

/-- The word of I and Q. -/
def iqWord (z : Int × Int) : Nat := ofInt 16 z.1 + ofInt 16 z.2 * 65536

/-- The gain of a Q2.14 value. -/
def dbQ14 (z : Int × Int) : Int := dbOf z - 14 * (2 * 847324110187280)

/-- A value in part `num`/`den` of the way between two. -/
def lerp (a b : Int) (num den : Int) : Int := a + roundDiv ((b - a) * num) den.toNat

/-- A phase part of the way along the shorter arc (R397). -/
def lerpArc (a b num den : Int) : Int := a + roundDiv (foldTurn (b - a) * num) den.toNat

/-- Cosine and sine of a phase in units of 2π / 2^37: the phase truncated to 20 bits, the amplitude 18 bits (R127). -/
def sine18 (p : Nat) : Int × Int :=
  let a : Int := (p % 2 ^ 37 / 2 ^ 17 * 2 ^ 28 : Nat)
  (satS 18 (roundShift (cosOf a) 43), satS 18 (roundShift (sinOf a) 43))

/-- A sample turned by a phase (`neg`: backward), the products exact, in 2^−17 of the sample's unit. -/
def turnBy (neg : Bool) (p : Nat) (x : Int × Int) : Int × Int :=
  let (c, d) := sine18 p
  let d := if neg then -d else d
  (x.1 * c - x.2 * d, x.1 * d + x.2 * c)

/-- A sample turned by a phase, rounded convergently and saturated to `w` bits (R127, R190). -/
def rotate (w : Nat) (neg : Bool) (p : Nat) (x : Int × Int) : Int × Int :=
  let y := turnBy neg p x
  (satS w (roundShift y.1 17), satS w (roundShift y.2 17))

end Sys2Proof.Machine
end

