-- ==== Sys2Proof/Machine/Flags.lean ====
section
/-! DEFINITION. Counters, sticky flags, refusals of register writes, and access codes (R14, R15, R584). -/

namespace Sys2Proof.Machine

/-- A saturating counter field counts by `n`. -/
def State.countBy (s : State) (f : Field) (n : Nat) : State := s.put f (min (s.get f + n) (2 ^ f.width - 1))

/-- A saturating counter field counts one. -/
def State.count (s : State) (f : Field) : State := s.countBy f 1

/-- A sticky flag sets. -/
def State.raise (s : State) (f : Field) : State := s.put f 1

/-- Bit `i` of a field sets. -/
def State.raiseBit (s : State) (f : Field) (i : Nat) : State := s.put f (setBit (s.get f) i true)

/-- Bit `i` of a field clears. -/
def State.clearBit (s : State) (f : Field) (i : Nat) : State := s.put f (setBit (s.get f) i false)

/-- Bit `i` of a field takes a value. -/
def State.putBit (s : State) (f : Field) (i : Nat) (b : Bool) : State := s.put f (setBit (s.get f) i b)

/-- Whether bit `i` of a field is set. -/
def State.fbit (s : State) (f : Field) (i : Nat) : Bool := (s.get f).testBit i

/-- The word a register takes on a plain write, by the access code of each field (R14); reserved bits stay 0. A write-only
field keeps no value. -/
def plainWord (r : RegRow) (old v : Word) : Word :=
  BitVec.ofNat 32 <| r.fields.foldl (fun acc f =>
    let w := f.hi + 1 - f.lo
    let o := bits old.toNat f.hi f.lo
    let n := bits v.toNat f.hi f.lo
    let x := match f.acc with
      | .rw => n
      | .rwl => n
      | .ro => o
      | .w1c => o &&& (2 ^ w - 1 - n)
      | .w1s => o ||| n
      | .wo => 0
    acc + x * 2 ^ f.lo) 0

/-- What a read of a register returns from its word (R14): the fields' values, 0 for write-only and reserved bits. -/
def plainRead (r : RegRow) (w : Word) : Word :=
  BitVec.ofNat 32 <| r.fields.foldl (fun acc f =>
    match f.acc with
    | .wo => acc
    | _ => acc + bits w.toNat f.hi f.lo * 2 ^ f.lo) 0

/-- The plain write of a register: its word changes by the access codes (R14), and nothing else does. -/
def State.plainWrite (s : State) (r : RegRow) (a : Nat) (v : Word) : State := s.setReg a (plainWord r (s.reg a) v)

end Sys2Proof.Machine
end

