-- ==== Sys2Proof/Machine/Timeline.lean ====
section
/-! DEFINITION. The slot table and the carrier slots as the data plane reads them on the timeline (R180 to R187, R196 to R198). -/

namespace Sys2Proof.Machine

/-- d = 0 downlink, d = 1 uplink. -/
def dirIx (d : Dir) : Nat :=
  match d with
  | .dl => 0
  | .ul => 1

/-- The direction with an index. -/
def dirOf (n : Nat) : Dir := if n = 0 then .dl else .ul

/-- The quadrant of a chain (R17). -/
def quadOf (ch : Nat) : Nat := ch / 16

/-- The chains of a quadrant (R17). -/
def chainsOf (q : Nat) : List Nat := (List.range 16).map (16 * q + ·)

/-- The quadrants of a mask. -/
def quadsOf (m : Nat) : List Nat := bitList 4 m

/-- The eight slots of a direction. -/
def slots : List Nat := List.range 8

/-- Both directions with their slots. -/
def allSlots : List (Dir × Nat) := slots.map (Dir.dl, ·) ++ slots.map (Dir.ul, ·)

/-- Whether a slot is in force (EN_NOW, R180). -/
def State.active (s : State) (d : Dir) (cs : Nat) : Bool := s.flag (R.CS_CFG_EN_NOW (dirIx d) cs)

/-- The slots in force of a direction whose QMASK holds quadrant `q`. -/
def State.activeOn (s : State) (d : Dir) (q : Nat) : List Nat :=
  slots.filter fun cs => s.active d cs && s.fbit (R.CS_CFG_QMASK (dirIx d) cs) q

/-- Whether any slot is in force in a direction. -/
def State.anyActive (s : State) (d : Dir) : Bool := slots.any fun cs => s.active d cs

/-- Whether any slot is in force in either direction. -/
def State.carriersActive (s : State) : Bool := s.anyActive .dl || s.anyActive .ul

/-- A slot's numerology μ. -/
def State.slotMu (s : State) (d : Dir) (cs : Nat) : Nat := s.get (R.CS_CFG_MU (dirIx d) cs)

/-- m of R120: 15 − LOG2N − μ (R178). -/
def State.slotM (s : State) (d : Dir) (cs : Nat) : Nat := 15 - s.get (R.CS_CFG_LOG2N (dirIx d) cs) - s.slotMu d cs

/-- What the slot table makes of a symbol on a quadrant (R196, R197). -/
inductive SymDir where
  | dl
  | ul
  | guard
  | quiet
deriving DecidableEq, Repr

/-- An entry of a bank (R196). -/
def State.entry (s : State) (bank e : Nat) : Word := s.reg (R.SLOT_TBL bank e)

/-- The direction of an entry on a quadrant: quadrants outside its mask are QUIET (R196). -/
def entryDir (w : Word) (q : Nat) : SymDir :=
  if (w.toNat >>> 2).testBit q then
    match w.toNat % 4 with
    | 0 => .dl
    | 1 => .ul
    | 2 => .guard
    | _ => .quiet
  else .quiet

/-- Whether an entry is cal-eligible: CAL has meaning only with DIR = DL or UL (R196). -/
def entryCal (w : Word) : Bool := w.toNat.testBit 6 && (w.toNat % 4 == 0 || w.toNat % 4 == 1)

/-- The entries that symbol `n` of numerology μ touches in a table of numerology `t` (R197). -/
def spanned (mu t n : Nat) : List Nat :=
  if t ≤ mu then [n / 2 ^ (mu - t)] else (List.range (2 ^ (t - mu))).map (n * 2 ^ (t - mu) + ·)

/-- The direction of symbol `n` of numerology μ on a quadrant in a bank (R197): that of every spanned entry if they agree and
none is GUARD, and otherwise GUARD. -/
def State.symDirIn (s : State) (bank mu n q : Nat) : SymDir :=
  let ds := (spanned mu (s.get (R.SLOT_MU_TBL_MU bank)) n).map fun e => entryDir (s.entry bank e) q
  match ds with
  | [] => .guard
  | d :: t => if t.all (· = d) then d else .guard

/-- Whether symbol `n` is cal-eligible in a bank (R197). -/
def State.symCalIn (s : State) (bank mu n : Nat) : Bool :=
  (spanned mu (s.get (R.SLOT_MU_TBL_MU bank)) n).all fun e => entryCal (s.entry bank e)

/-- The active bank. -/
def State.bank (s : State) : Nat := s.get R.SLOT_STATUS_BANK_ACT

/-- The bank that is active at a boundary on a timeline at cycle `c`: after a pending swap the other one (R201, R371). An uplink
entry of the new bank takes effect UL_TA_OFF cycles before the swap. -/
def State.bankAt (s : State) (d : Dir) (c : Nat) : Nat :=
  match s.slot.swapAt with
  | some b => if s.flag R.SLOT_STATUS_COMMIT_PEND && b ≤ c + s.advance d then 1 - s.bank else s.bank
  | none => s.bank

/-- The direction of symbol `n` of a slot on a quadrant, for the symbol that begins at cycle `c`. -/
def State.symDir (s : State) (d : Dir) (cs n q c : Nat) : SymDir := s.symDirIn (s.bankAt d c) (s.slotMu d cs) n q

/-- The symbol of numerology μ in air at cycle `c` on a timeline: its frame, number and first cycle. -/
def State.symNow (s : State) (d : Dir) (mu c : Nat) : Nat × Nat × Nat :=
  let k := s.frameNo (c + s.advance d)
  let start := (s.frameStart k - s.advance d).toNat
  let n := symAt mu (c - start)
  (k.toNat, n, start + symStart mu n)

/-- Whether all quadrants of a mask are quiet at cycle `c` on both timelines in the active bank. -/
def State.quietAt (s : State) (qm c : Nat) : Bool :=
  (quadsOf qm).all fun q => [Dir.dl, Dir.ul].all fun d =>
    let mu := s.get (R.SLOT_MU_TBL_MU (s.bankAt d c))
    let (_, n, _) := s.symNow d mu c
    s.symDirIn (s.bankAt d c) mu n q == .quiet

/-- The next symbol boundary of the earliest-ending symbol among the slots in force of a direction on a quadrant (R63), after
now; the next alignment edge if no slot is in force there. -/
def State.applyInstant (s : State) (d : Dir) (q : Nat) : Nat :=
  match (s.activeOn d q).map fun cs => (s.nextSymbol d (s.slotMu d cs) s.now).1 with
  | [] => s.alignEdge
  | c :: t => t.foldl min c

/-- The end of symbol `n` of a frame. -/
def symEnd (mu n : Nat) : Nat := if n + 1 < symsPerFrame mu then symStart mu (n + 1) else frameCycles

/-- Length of symbol `n`. -/
def symLen (mu n : Nat) : Nat := symEnd mu n - symStart mu n

/-- Length of the cyclic prefix of symbol `n`, in carrier samples (R185): 9N/128, and 2^μ·N/128 more in the long symbol of a half-subframe. -/
def cpLen (log2n mu n : Nat) : Nat := 9 * 2 ^ log2n / 128 + (if n % (7 * 2 ^ mu) = 0 then 2 ^ mu * 2 ^ log2n / 128 else 0)

end Sys2Proof.Machine
end

