-- ==== Sys2Proof/Machine/Ranks.lean ====
section
/-! DEFINITION. The precedence of R30: which sources hold a chain's transmit outputs, and what the outputs then do (R31, R78, R79,
R378, R379). -/

namespace Sys2Proof.Machine

/-- A chain's own state. -/
def State.chain (s : State) (ch : Nat) : ChainX := s.chains.getD ch ChainX.reset

/-- Update a chain's own state. -/
def State.modChain (s : State) (ch : Nat) (f : ChainX → ChainX) : State := { s with chains := updAt s.chains ch f }

/-- The gate of a chain's DAC input is noted from cycle `c` on if it has changed (R76, R78, R79); before the first note it is as after reset. -/
def State.noteGate (c ch : Nat) (s : State) : State :=
  let x := s.chain ch
  let g : Gate := x.gateLog.getLastD { from0 := 0, zero := true, rampAt := none, txIn := false }
  if g.zero = x.zero ∧ g.rampAt = x.rampAt ∧ g.txIn = x.txIn then s
  else s.modChain ch fun x => { x with gateLog := x.gateLog ++ [{ from0 := max g.from0 c, zero := x.zero, rampAt := x.rampAt, txIn := x.txIn }] }

/-- Whether the tracker of a chain may update, and its k, are noted from now on (R70). -/
def State.noteTrk (ch : Nat) (s : State) : State :=
  let run := s.flag (R.CH_STATUS_RX_LIVE ch) && !s.flag (R.RX_DCO_CTRL_DCT_FREEZE ch)
  s.modChain ch fun x => { x with trkLog := x.trkLog ++ [{ from0 := s.now, run := run, k := s.get (R.RX_DCO_CTRL_DCT_K ch) }] }

/-- Whether uplink samples of each quadrant pass is noted from now on where it has changed (R39, R112). -/
def State.noteRx (s : State) : State :=
  forAll (List.range 4) (fun q s =>
    let slip := s.hold.convHold.testBit q || s.hold.convDead.testBit q
    let pass := s.fbit R.LO_STATUS_LO_READY q && !slip
    let last := (s.sig.rxGates.filter fun g => g.q == q).getLastD { q := q, from0 := 0, pass := false, slip := false }
    if last.pass = pass ∧ last.slip = slip then s
    else { s with sig := { s.sig with rxGates := s.sig.rxGates ++ [{ q := q, from0 := s.now, pass := pass, slip := slip }] } }) s

/-- An aux DAC channel's own state. -/
def State.adac (s : State) (n : Nat) : AdacX := s.pa.adacs.getD n { loaded := 0, stuckClr := false, holdEnd := none }

/-- Update an aux DAC channel's own state. -/
def State.modAdac (s : State) (n : Nat) (f : AdacX → AdacX) : State :=
  { s with pa := { s.pa with adacs := updAt s.pa.adacs n f } }

/-- Rank 1: latched thermal shutdown or the latched safe state (R30). -/
def State.rank1 (s : State) : Bool := s.flag R.FM_STATUS_SAFE || s.pw.shut

/-- Rank 2: the group's PAFLT line, and the quadrant holds that R39, R125 and R541 place at rank 2. -/
def State.rank2 (s : State) (ch : Nat) : Bool :=
  s.hold.paLine.testBit (ch / 4) || s.hold.convHold.testBit (quadOf ch) || s.hold.convDead.testBit (quadOf ch)

/-- Rank 3: PA_OFF. -/
def State.rank3 (s : State) : Bool := s.hold.paOff

/-- Rank 4: MUTE_ALL or CHAIN_MUTE (UMUTE), the management mute (R78), and a worker that lost its UP port (R299). -/
def State.rank4 (s : State) (ch : Nat) : Bool :=
  s.flag (R.CH_STATUS_UMUTE ch) || s.flag (R.CH_CTRL_TX_MUTE ch) || s.hold.upLost

/-- Rank 5: LO_READY low on the chain's QLO. -/
def State.rank5 (s : State) (ch : Nat) : Bool := !s.fbit R.LO_STATUS_LO_READY (quadOf ch)

/-- Whether rank 1, 2 or 3 clears the chain's bias (R30). -/
def State.biasCleared (s : State) (ch : Nat) : Bool := s.rank1 || s.rank2 ch || s.rank3

/-- Whether rank 1, 2, 3 or 5 holds TXON off (R31). -/
def State.txHeld (s : State) (ch : Nat) : Bool := s.biasCleared ch || s.rank5 ch

/-- Whether any source zeroes the DAC samples (R30). -/
def State.dacSource (s : State) (ch : Nat) : Bool := s.txHeld ch || s.rank4 ch

/-- Set TXONn (the pin, TXON_LIVE and TX_LIVE). A chain whose TX_RDY is 1 joins when TXON is driven on (R76). -/
def State.setTxon (s : State) (ch : Nat) (b : Bool) : State :=
  let was := s.flag (R.CH_STATUS_TX_LIVE ch)
  let s := (s.put (R.CH_STATUS_TX_LIVE ch) (b2n b)).putBit (R.TXON_LIVE_TXON (ch / 32)) (ch % 32) b
  let s := doIf (b && s.flag (R.CH_STATUS_TX_RDY ch)) (fun s => (s.modChain ch fun x => { x with txIn := true }).noteGate s.now ch) s
  if was && !b then s.modChain ch fun x => { x with txOffAt := some s.now } else s

/-- Set RXONn (the pin, RXON_LIVE and RX_LIVE). -/
def State.setRxon (s : State) (ch : Nat) (b : Bool) : State :=
  let was := s.flag (R.CH_STATUS_RX_LIVE ch)
  let s := (s.put (R.CH_STATUS_RX_LIVE ch) (b2n b)).putBit (R.RXON_LIVE_RXON (ch / 32)) (ch % 32) b
  let s := doIf (was != b) (State.noteTrk ch) s
  if was && !b then s.modChain ch fun x => { x with rxOffAt := some s.now } else s

/-- Whether an aux DAC channel must drive its clear code (R377, R379, R31, R373): before the lock, while ADACCLR_N is low, in
FALLOW, while rank 1 acts on every channel or rank 1 to 3 on the chain it biases, or until its next bias-on load. -/
def State.adacClear (s : State) (n : Nat) : Bool :=
  !s.flag R.SEQ_STATUS_LOCKED || !s.flag R.SEQ_STATUS_CLR_N || s.get R.PWR_STATUS_STATE_NOW == 3 || s.rank1
    || (n < 64 && s.biasCleared n) || (s.adac n).stuckClr

/-- The code a cleared channel drives (R377). -/
def State.clearCode (s : State) (n : Nat) : Nat := s.get (R.ADAC_CLR_CLR n)

/-- Drive a channel: its clear code at once, or its loaded code, through the deglitcher for a major transition (R378). -/
def State.driveAdac (n : Nat) (s : State) : State :=
  let now := s.get (R.ADAC_CODE_NOW n)
  if s.adacClear n then
    (s.put (R.ADAC_CODE_NOW n) (s.clearCode n)).modAdac n fun x => { x with holdEnd := none }
  else if (s.adac n).holdEnd.isSome then s
  else if (s.adac n).loaded / 256 ≠ now / 256 then s.modAdac n fun x => { x with holdEnd := some (s.now + 74) }
  else s.put (R.ADAC_CODE_NOW n) (s.adac n).loaded

/-- Load a code into a channel; before the lock, or while the channel is cleared, it is stored and applied at release
(R377, R379). -/
def State.loadAdac (s : State) (n code : Nat) : State := (s.modAdac n fun x => { x with loaded := code }).driveAdac n

/-- When a sequencer-owned channel is cleared, it stays at its clear code until its next bias-on load (R31, R379). -/
def State.latchClear (n : Nat) (s : State) : State :=
  if s.flag R.SEQ_STATUS_LOCKED && s.adacClear n && s.get (R.ADAC_CFG_OWNER n) == 1 then
    s.modAdac n fun x => { x with stuckClr := true }
  else s

/-- Bring one chain's outputs in line with the sources that act on it: TXON off while held (a run between its bias-on and TXON
instants is then skipped, R369), bias cleared, DAC input zero at once or by the ramp of a mute; a chain that no source zeroes
any more waits for its symbol boundary, or stops being zeroed when no downlink slot is in force on its quadrant (R31). -/
def State.settleChain (ch : Nat) (s : State) : State :=
  let held := s.txHeld ch
  let zeroing := s.dacSource ch
  let s := s.put (R.CH_STATUS_TX_HELD ch) (b2n held)
  let s := doIf held (fun s => (s.setTxon ch false).modChain ch fun x =>
    { x with runSkip := x.runSkip || x.runOpen, txWait := false }) s
  let s := s.modChain ch fun x => { x with
    held := held
    cleared := s.biasCleared ch
    biasOn := x.biasOn && !s.biasCleared ch
    rampAt := if held then none else if zeroing && !x.zero then some (x.rampAt.getD s.now) else x.rampAt
    releasedAt := if zeroing then none else if x.zero then some (x.releasedAt.getD s.now) else none
    zero := x.zero || zeroing }
  let s := doIf (!zeroing && (s.activeOn .dl (quadOf ch)).isEmpty) (fun s =>
    s.modChain ch fun x => { x with zero := false, rampAt := none, releasedAt := none }) s
  s.noteGate s.now ch

/-- Bring every chain and every aux DAC channel in line with the sources that act on it. -/
def State.settle (s : State) : State :=
  let s := (forAll (List.range 64) State.settleChain s).noteRx
  forAll (List.range 80) (fun n s => (s.latchClear n).driveAdac n) s

/-- Cycles from the DAC input, at R53 step 3, to the TX port (R583). -/
def dacToPort : Nat := 21

/-- End zero samples at a downlink symbol boundary at cycle `b`, if it lies at least 21 cycles after the release (R31): the first sample that
passes reaches the DAC input 21 cycles before it reaches the port. -/
def State.endZero (b ch : Nat) (s : State) : State :=
  match (s.chain ch).releasedAt with
  | some r => doIf (!s.dacSource ch && r + 21 ≤ b)
      (fun s => (s.modChain ch fun x => { x with zero := false, rampAt := none, releasedAt := none }).noteGate (b - dacToPort - 1) ch) s
  | none => s

/-- The gate of a chain's DAC input at sample `j` of the three of cycle `c` at the port, in 2^−60 (R76, R78, R79): zero from the cycle after a
line asserts, the raised cosine of a mute over 32 cycles from the cycle of its line, else 1. The value at each of the ramp's 96 samples is
taken on the raised cosine itself (DEDUCED: R78 names the shape and its length). -/
def State.dacGate (s : State) (ch c j : Nat) : Int :=
  let t := c - dacToPort
  let g := ((s.chain ch).gateLog.filter fun g => g.from0 < t).getLastD { from0 := 0, zero := true, rampAt := none, txIn := false }
  if !g.txIn then 0
  else if !g.zero then 2 ^ 60
  else
    match g.rampAt with
    | some l => let p := 3 * (t - l) + j; if p < 96 then (2 ^ 60 + cosOf (p * turn / 192)) / 2 else 0
    | none => 0

end Sys2Proof.Machine
end

