-- ==== Sys2Proof/Machine/Events.lean ====
section
/-! DEFINITION. Replies, completions and events as packets, and where they go (R437, R439, R440, R450, R451, R468). -/

namespace Sys2Proof.Machine

/-- The status codes of R450. -/
def statusCode (x : Status) : Nat :=
  match x with
  | .ok => 0x0000
  | .accepted => 0x0001
  | .busy => 0x0010
  | .queueFull => 0x0011
  | .badOpcode => 0x0020
  | .badParam => 0x0021
  | .badLength => 0x0022
  | .notPermitted => 0x0030
  | .authFail => 0x0031
  | .sessionClosed => 0x0032
  | .stateConflict => 0x0040
  | .resourceOwned => 0x0041
  | .targetUnreachable => 0x0050
  | .targetFrozen => 0x0051
  | .hwFault => 0x0060
  | .timeout => 0x0061
  | .tempRange => 0x0070
  | .aborted => 0x0071

/-- A signed number as `k` bytes. -/
def beInt (k : Nat) (i : Int) : List Byte := beBytes k (ofInt (8 * k) i)

/-- The code of an event and its fields after the 12 bytes of time (R468). -/
def eventWire (e : Event) : Nat × List Byte :=
  match e with
  | .ready v => (0x0181, beBytes 4 v)
  | .masterFrozen m c a => (0x0182, beBytes 1 m ++ beBytes 1 c ++ beBytes 4 a)
  | .safeState c => (0x0183, beBytes 2 c)
  | .crossingSlip x => (0x0184, beBytes 4 x)
  | .fhNotOwner d cs n => (0x0280, beBytes 1 d ++ beBytes 1 cs ++ beBytes 4 n)
  | .fhEarly d cs n => (0x0281, beBytes 1 d ++ beBytes 1 cs ++ beBytes 4 n)
  | .fhLate d cs n => (0x0282, beBytes 1 d ++ beBytes 1 cs ++ beBytes 4 n)
  | .dlDataMissing cs f n => (0x0283, beBytes 1 cs ++ beBytes 2 f ++ beBytes 4 n)
  | .sectLate f n => (0x0284, beBytes 2 f ++ beBytes 4 n)
  | .rxOverload ch f => (0x0380, beBytes 1 ch ++ beBytes 2 f)
  | .txLoLate q f n => (0x0381, beBytes 1 q ++ beBytes 2 f ++ beBytes 2 n)
  | .rxLoInvalid q f n => (0x0382, beBytes 1 q ++ beBytes 2 f ++ beBytes 2 n)
  | .loUnlock i => (0x0383, beBytes 1 i)
  | .loFailover i => (0x0384, beBytes 1 i)
  | .loDrift i => (0x0385, beBytes 1 i)
  | .synFail i st => (0x0386, beBytes 1 i ++ beBytes 1 st)
  | .loApplyLate f => (0x0387, beBytes 2 f)
  | .convUnlock q => (0x0388, beBytes 1 q)
  | .paFault g => (0x0389, beBytes 1 g)
  | .seqOverlap q f => (0x038A, beBytes 1 q ++ beBytes 2 f)
  | .inputEdge i l => (0x038B, beBytes 1 i ++ beBytes 1 l)
  | .inputChatter i => (0x038C, beBytes 1 i)
  | .inputStuck i => (0x038D, beBytes 1 i)
  | .beamRefBad d cs f => (0x0480, beBytes 1 d ++ beBytes 1 cs ++ beBytes 2 f)
  | .steerLate b => (0x0481, beBytes 2 b)
  | .bfPoison cs y l p => (0x0482, beBytes 1 cs ++ beBytes 2 y ++ beBytes 1 l ++ beBytes 2 p)
  | .bfResidue _ c cs f y => (0x0483, beBytes 1 c ++ beBytes 1 cs ++ beBytes 2 f ++ beBytes 2 y)
  | .bfNoSpare c => (0x0484, beBytes 1 c)
  | .pdUpdated ch b => (0x0580, beBytes 1 ch ++ beBytes 1 b)
  | .pdRollback ch r => (0x0581, beBytes 1 ch ++ beBytes 1 r)
  | .pdBand q b => (0x0582, beBytes 1 q ++ beBytes 1 b)
  | .pdResidue ch f y => (0x0583, beBytes 1 ch ++ beBytes 2 f ++ beBytes 2 y)
  | .pdNoSpare ch => (0x0584, beBytes 1 ch)
  | .calCorrMoved f => (0x0680, beBytes 2 f)
  | .calRecordBad => (0x0681, [])
  | .calUncal q => (0x0682, beBytes 1 q)
  | .calOutlier m => (0x0683, beBytes 8 m)
  | .slotSwapped f => (0x0780, beBytes 2 f)
  | .timeStepped d => (0x0781, beInt 8 d)
  | .timeLocked x => (0x0782, beBytes 1 x)
  | .timeHoldover x => (0x0783, beBytes 1 x)
  | .timeDomainSwitch x d => (0x0784, beBytes 1 x ++ beInt 4 d)
  | .timeFault d => (0x0785, beInt 4 d)
  | .vcxoLimit c => (0x0786, beBytes 2 c)
  | .synceLost l => (0x0787, beBytes 1 l)
  | .ppsInLost => (0x0788, [])
  | .stateChanged a b => (0x0880, beBytes 1 a ++ beBytes 1 b)
  | .retentionLost l => (0x0881, l)
  | .thermWarn x t => (0x0882, beBytes 1 x ++ beBytes 2 t)
  | .thermThrottle m => (0x0883, beBytes 1 m)
  | .memCe m b n => (0x0980, beBytes 1 m ++ beBytes 1 b ++ beBytes 2 n)
  | .memUe m a => (0x0981, beBytes 1 m ++ beBytes 4 a)
  | .bankRetired b k => (0x0982, beBytes 1 b ++ beBytes 1 k)
  | .stileBroken i m => (0x0983, beBytes 1 i ++ beBytes 1 m)
  | .dmaDomainDown m => (0x0984, beBytes 4 m)
  | .sessionClosed x c => (0x0A80, beBytes 1 x ++ beBytes 1 c)
  | .fwActivated v => (0x0A81, beBytes 4 v)
  | .childSumMissing p f a b c => (0x0B80, beBytes 1 p ++ beBytes 2 f ++ beBytes 2 a ++ beBytes 2 b ++ beBytes 2 c)
  | .hgUp p r a b => (0x0B81, beBytes 1 p ++ beBytes 1 r ++ beBytes 1 a ++ beBytes 1 b)
  | .hgDown p c => (0x0B82, beBytes 1 p ++ beBytes 1 c)
  | .hgLaneRepair p l w => (0x0B83, beBytes 1 p ++ beBytes 1 l ++ beBytes 1 w)
  | .linkShort p d w => (0x0B84, beBytes 1 p ++ beBytes 1 d ++ beBytes 1 w)
  | .treeChanged a => (0x0B85, beBytes 1 a)
  | .treeDepthChanged a b => (0x0B86, beBytes 1 a ++ beBytes 1 b)
  | .cascRoleConflict p => (0x0B87, beBytes 1 p)
  | .hpLinkUp p => (0x0B88, beBytes 1 p)
  | .hpLinkDown p => (0x0B89, beBytes 1 p)
  | .fliorSignal n i => (0x0D80, beBytes 1 n ++ beBytes 2 i)
  | .fliorFault n c p => (0x0D81, beBytes 1 n ++ beBytes 1 c ++ beBytes 2 p)
  | .cmdLoad p => (0x0E81, beBytes 2 p)

/-- The owner of a carrier slot; 0x1F when none (R181). -/
def State.slotOwner (s : State) (d cs : Nat) : Nat := s.get (R.CS_CFG_OWNER d cs)

/-- A Flior core's own state. -/
def State.flior (s : State) (n : Nat) : FliorX := s.fd.getD n FliorX.reset

/-- The owner of a Flior core (FD_OWNER.SESSION, R434); 0x1F when none. -/
def State.coreOwner (s : State) (n : Nat) : Nat := if (s.flior n).owned then s.get (R.FD_OWNER_SESSION n) else 0x1F

/-- The owner of beam-table block `b` (BT_OWN), blocks of 256 beam IDs. -/
def State.beamOwner (s : State) (b : Nat) : Nat := bits (s.reg (R.BT_OWN (b / 4))).toNat (8 * (b % 4) + 4) (8 * (b % 4))

/-- Whether an event names a resource of session `x` (R451): a slot it owns (BF_POISON belongs to the downlink, R235 and R236; BF_RESIDUE to the
direction of the pass), a beam ID in a block it owns, a Flior core it owns, or its own number. -/
def eventNames (e : Event) (x : Nat) (s : State) : Bool :=
  match e with
  | .fhNotOwner d cs _ => s.slotOwner d cs == x
  | .fhEarly d cs _ => s.slotOwner d cs == x
  | .fhLate d cs _ => s.slotOwner d cs == x
  | .dlDataMissing cs _ _ => s.slotOwner 0 cs == x
  | .beamRefBad d cs _ => s.slotOwner d cs == x
  | .steerLate b => s.beamOwner (b / 256) == x
  | .bfPoison cs _ _ _ => s.slotOwner 0 cs == x
  | .bfResidue d _ cs _ _ => s.slotOwner d cs == x
  | .fliorSignal n _ => s.coreOwner n == x
  | .fliorFault n _ _ => s.coreOwner n == x
  | .sessionClosed y _ => y == x
  | _ => false

/-- Whether the device is a worker (CASC_STATUS.ROLE, R45). -/
def State.worker (s : State) : Bool := s.flag R.CASC_STATUS_ROLE

/-- The device's own address (R47). -/
def State.ownDa (s : State) : Nat := s.get R.CASC_STATUS_DA

/-- A session's own state. -/
def State.session (s : State) (x : Nat) : Session := s.fe.sess.getD x Session.empty

/-- Update a session's own state. -/
def State.modSession (s : State) (x : Nat) (f : Session → Session) : State :=
  { s with fe := { s.fe with sess := updAt s.fe.sess x f } }

/-- SESS_STAT.STATE codes (R444): CLOSED. -/
def sessClosed : Nat := 0
/-- OPENING. -/
def sessOpening : Nat := 1
/-- OPEN. -/
def sessOpen : Nat := 2
/-- FROZEN. -/
def sessFrozen : Nat := 3

/-- The state of a session (SESS_STAT.STATE). -/
def State.sessState (s : State) (x : Nat) : Nat := s.get (R.SESS_STAT_STATE x)

/-- The transport a session is bound to: on a worker the cascade (R443), else SESS_STAT.XPORT. -/
def State.sessVia (s : State) (x : Nat) : Via :=
  if s.worker then .cascade else if s.get (R.SESS_STAT_XPORT x) = 1 then .spi else .host

/-- Where a packet of a session goes on the host port (R353, R440): its SESS_SRC, or for SESSION = 0xFF the source of the command. -/
def State.destOf (s : State) (v : Via) (x src : Nat) : Nat :=
  if v ≠ .host then 0
  else if x < 16 then
    let w (i : Nat) : Nat := s.get (R.SESS_SRC_WORD x i)
    (w 1 % 65536 * 2 ^ 32 + w 0) * 2 ^ 128 + ((w 2 * 2 ^ 32 + w 3) * 2 ^ 32 + w 4) * 2 ^ 32 + w 5
  else src

/-- The 16 header bytes of a packet the device sends (R437). -/
def Packet.header (p : Packet) : List Byte :=
  beBytes 1 (0x10 + (if p.mac = [] then 0 else 8) + p.kind) ++ beBytes 2 p.opcode ++ beBytes 2 p.tag ++ beBytes 1 p.session
    ++ beBytes 1 p.da ++ beBytes 2 p.payload.length ++ beBytes 4 p.seq ++ beBytes 2 p.status ++ beBytes 1 p.hint

/-- A packet with its tag under a key (R439): HMAC over the header as sent, with TAGGED set, and the payload. -/
def Packet.keyed (p : Packet) (key : Nat) : Packet :=
  let q := { p with mac := List.replicate 8 0 }
  { p with mac := Config.hmacTag key (q.header ++ p.payload) }

/-- Bytes a packet takes in the SPI outgoing buffer. -/
def Packet.size (p : Packet) : Nat := 16 + p.payload.length + p.mac.length

/-- Bytes held in the SPI outgoing buffer (R440). -/
def State.spiHeld (s : State) : Nat := (s.fe.spiOut.map Packet.size).sum

/-- Whether a packet fits in the 64 KiB SPI outgoing buffer. -/
def State.spiRoom (s : State) (p : Packet) : Bool := s.spiHeld + p.size ≤ 65536

/-- Put a packet into the SPI outgoing buffer. -/
def State.spiPut (s : State) (p : Packet) : State := { s with fe := { s.fe with spiOut := s.fe.spiOut ++ [p] } }

/-- SESS_STAT.EVQ shows the event queue's occupancy in units of 2 packets, at most the field's 127. -/
def State.showEvq (s : State) (x : Nat) : State :=
  s.put (R.SESS_STAT_EVQ x) (min ((s.session x).events.length / 2) 127)

/-- A field list padded with zeros to a 4-byte boundary (R468). -/
def pad4 (l : List Byte) : List Byte := l ++ List.replicate ((4 - l.length % 4) % 4) 0

/-- An event packet goes to its session (R451): numbered, tagged with K_rsp on the manager, queued on the host port, passed at once
to the SPI outgoing buffer (a full buffer drops it and counts SPI_OVF, R440), or sent up the tree untagged (R452). -/
def State.putEvent (s : State) (x : Nat) (p : Packet) : State :=
  let y := s.session x
  let p := { p with seq := y.evSeq, dest := s.destOf (s.sessVia x) x 0 }
  match s.sessVia x with
  | .cascade => (s.modSession x fun y => { y with evSeq := y.evSeq + 1 }).emit (.packet .cascade p)
  | .spi =>
    let p := p.keyed y.kRsp
    let s := s.modSession x fun y => { y with evSeq := y.evSeq + 1 }
    if s.spiRoom p then s.spiPut p else s.count R.CMD_CNT3_SPI_OVF
  | .host =>
    if y.events.length < 256 ∧ y.lost = 0 then
      (s.modSession x fun y => { y with evSeq := y.evSeq + 1, events := y.events ++ [p.keyed y.kRsp] }).showEvq x
    else s.modSession x fun y => { y with lost := y.lost + 1 }

/-- Send an event to a session (R451): the time at which it arose, then its fields. -/
def State.sendEvent (s : State) (x : Nat) (code tag status : Nat) (fields : List Byte) : State :=
  s.putEvent x { kind := 2, opcode := code, tag := tag, session := x, da := s.ownDa, seq := 0, status := status, hint := 0,
                 payload := timeBytes s.time ++ pad4 fields, mac := [], dest := 0 }

/-- Whether a session receives an event (R451): OPEN or FROZEN, and it selects the class or the event names its resources. -/
def State.receives (s : State) (e : Event) (x : Nat) : Bool :=
  (s.sessState x == sessOpen || s.sessState x == sessFrozen)
    && ((s.session x).mask.testBit ((eventWire e).1 / 256) || eventNames e x s)

/-- An event is raised (R451, R468). -/
def State.event (s : State) (e : Event) : State :=
  let (code, fields) := eventWire e
  forAll ((List.range 16).filter (s.receives e)) (fun x s => s.sendEvent x code 0 0 fields) s

/-- Events are raised in order. -/
def State.events (s : State) (l : List Event) : State := forAll l (fun e s => s.event e) s

/-- Commands of a session held in queues Q1 to Q3, waiting or executing. -/
def State.sessHeld (s : State) (x : Nat) : Nat :=
  let own (c : Cmd) : Bool := c.session == x
  (s.fe.q1.filter own).length + (s.fe.q2.filter own).length + (s.fe.q3.filter own).length
    + (s.fe.running.filter fun r => own r.cmd && r.queue ≠ 0).length

/-- SESS_STAT.HELD follows the queues. -/
def State.showHeld (s : State) (x : Nat) : State := s.put (R.SESS_STAT_HELD x) (min (s.sessHeld x) 255)

/-- HELD follows for the session of a command. -/
def State.showHeldOf (s : State) (c : Cmd) : State := if c.session < 16 then s.showHeld c.session else s

/-- A command executes no longer: its place in its queue is free (R446). -/
def State.unrun (s : State) (c : Cmd) : State :=
  State.showHeldOf { s with fe := { s.fe with running := s.fe.running.filter fun r => r.cmd ≠ c } } c

/-- The reply packet of a command (R437). -/
def State.replyPacket (s : State) (c : Cmd) (st : Status) (hint : Nat) (payload : List Byte) : Packet :=
  { kind := 1, opcode := c.opcode, tag := c.tag, session := c.session, da := s.ownDa, seq := c.seq, status := statusCode st, hint := hint
    payload := payload, mac := [], dest := s.destOf c.via c.session c.src }

/-- A packet that answers a command goes to its transport (R440); on the SPI it waits in the reply slot while there is no room. -/
def State.putReply (s : State) (c : Cmd) (p : Packet) : State :=
  match c.via with
  | .spi =>
    if s.spiRoom p then s.spiPut p
    else if c.session < 16 then s.modSession c.session fun y => { y with replies := y.replies ++ [p] }
    else { s with fe := { s.fe with noSess := s.fe.noSess ++ [p] } }
  | v => s.emit (.packet v p)

/-- Send a reply; `tagged` with the session's K_rsp where the manager sends it to a host (R445, R452). -/
def State.sendReply (s : State) (c : Cmd) (st : Status) (hint : Nat) (payload : List Byte) (tagged : Bool) : State :=
  let p := s.replyPacket c st hint payload
  s.putReply c (if tagged && c.session < 16 && c.via != .cascade then p.keyed (s.session c.session).kRsp else p)

/-- The service time of a command of Q1 to Q3, from its acceptance to its reply, in µs (R453). -/
def State.served (s : State) (c : Cmd) : State :=
  match opRow c.opcode with
  | some r =>
    if r.queue = 0 then s
    else { s with fe := { s.fe with lat := updAt s.fe.lat (r.queue - 1) fun l => l ++ [(s.now - c.acceptedAt) * 100 / 49152] } }
  | none => s

/-- The reply of a command that executed (R450): none for OK with NOREPLY; none once its session has closed (R444). Tagged for a
session. -/
def State.reply (s : State) (c : Cmd) (st : Status) (payload : List Byte) : State :=
  let s := s.served c
  if c.noReply && st == .ok then s
  else if c.session < 16 && s.sessState c.session == sessClosed then s
  else s.sendReply c st 0 payload true

/-- The COMPLETION event of a command that replied ACCEPTED (R450): OPCODE, TAG, final status and the Done fields; discarded once
the session has closed (R444). The command stops executing. -/
def State.complete (s : State) (c : Cmd) (st : Status) (done : List Byte) : State :=
  let s := s.unrun c
  if c.session < 16 && (s.sessState c.session == sessOpen || s.sessState c.session == sessFrozen) then
    s.sendEvent c.session 0x0180 c.tag (statusCode st) (beBytes 2 c.opcode ++ done)
  else s

/-- Complete the command of a job, if it has one. -/
def State.completeJob (s : State) (j : Option Cmd) (st : Status) (done : List Byte) : State :=
  match j with
  | some c => s.complete c st done
  | none => s

/-- A command goes on executing, holding its place in its queue (R446). -/
def State.keepRunning (s : State) (queue : Nat) (c : Cmd) : State :=
  State.showHeldOf { s with fe := { s.fe with running := s.fe.running ++ [{ queue := queue, cmd := c }] } } c

/-- A command replies ACCEPTED and goes on executing (R450). -/
def State.accept (s : State) (queue : Nat) (c : Cmd) : State := (s.reply c .accepted []).keepRunning queue c

end Sys2Proof.Machine
end

