-- ==== Sys2Proof/Machine/Faults.lean ====
section
/-! DEFINITION. The fault manager: records, notification, escalation and the latched safe state (R535 to R544, R556). -/

namespace Sys2Proof.Machine

/-- Whether a master is frozen (FAB_FROZEN). -/
def State.frozen (s : State) (mid : Nat) : Bool := s.fbit (R.FAB_FROZEN_FROZEN (mid / 32)) (mid % 32)

/-- Update the fault manager's own state. -/
def State.modFm (s : State) (f : FaultX → FaultX) : State := { s with fm := f s.fm }

/-- The code of a class in a record (R536). -/
def classCode (c : FClass) : Nat :=
  match c with
  | .clsC => 0
  | .clsD => 1
  | .clsU => 2
  | .clsF => 3

/-- The causes of SAFE_STATE (R543). -/
inductive SafeCause where
  | thermal | refclk | supply | thistle | fmSelf | escalation | forced | debug
deriving DecidableEq, Repr

/-- The code of a cause (R543). -/
def safeCauseCode (c : SafeCause) : Nat :=
  match c with
  | .thermal => 1
  | .refclk => 2
  | .supply => 3
  | .thistle => 4
  | .fmSelf => 5
  | .escalation => 6
  | .forced => 7
  | .debug => 8

/-- The held record of the highest class, and of those the one filed earliest (R539). -/
def topFault (l : List FaultRef) : Option FaultRef :=
  l.foldl (fun best r =>
    match best with
    | none => some r
    | some b => if classCode b.cls < classCode r.cls then some r else some b) none

/-- FM_TOP, FM_PEND and F_PEND follow the records held (R539, R540). -/
def State.showFaults (s : State) : State :=
  let s := match topFault s.fm.held with
    | some r => ((s.put R.FM_TOP_VALID 1).put R.FM_TOP_CLASS (classCode r.cls)).put R.FM_TOP_UNIT r.unit
    | none => s.setReg R.FM_TOP 0
  let pend := (s.fm.held.map FaultRef.unit).foldl (fun m u => setBit m u true) 0
  let s := (s.put (R.FM_PEND_PEND 0) (pend % 2 ^ 32)).put (R.FM_PEND_PEND 1) (pend / 2 ^ 32)
  s.put R.FM_STATUS_F_PEND (b2n (s.fm.held.any fun r => r.cls == .clsF))

/-- The interrupt line of a class to the Dehan cluster: asserted while any unit holds a record of the class (R539). -/
def State.fmIrq (s : State) (c : FClass) : Bool := s.fm.held.any fun r => r.cls == c

/-- SAFE_STATE goes to every OPEN session and into the SPI outgoing buffer (R542): untagged, with SESSION = 0xFF, for the cause
THISTLE. -/
def State.sendSafeState (s : State) (c : SafeCause) : State :=
  let openOnes := (List.range 16).filter fun x => s.sessState x == sessOpen
  let code := safeCauseCode c
  let plain (dest : Nat) : Packet :=
    { kind := 2, opcode := 0x0183, tag := 0, session := 0xFF, da := s.ownDa, seq := 0, status := 0, hint := 0,
      payload := timeBytes s.time ++ pad4 (beBytes 2 code), mac := [], dest := dest }
  let s := if c = .thistle then
      forAll openOnes (fun x s => match s.sessVia x with
        | .spi => s
        | v => s.emit (.packet v (plain (s.destOf v x 0)))) s
    else forAll openOnes (fun x s => s.sendEvent x 0x0183 0 0 (beBytes 2 code)) s
  if openOnes.any (fun x => s.sessVia x == .spi) && c != .thistle then s
  else if s.spiRoom (plain 0) then s.spiPut (plain 0) else s.count R.CMD_CNT3_SPI_OVF

/-- The device enters the latched safe state (R542): rank 1 on every chain, every TXON and RXON deasserted, every aux DAC to its
clear code, SAFE_STATE sent; the cause of the first entry is kept (R543) and a device already in it does not enter again. -/
def State.enterSafe (s : State) (c : SafeCause) : State :=
  if s.flag R.FM_STATUS_SAFE then s
  else
    let s := (s.put R.FM_STATUS_SAFE 1).put R.FM_STATUS_CAUSE (safeCauseCode c)
    let s := s.modFm fun x => { x with safeAt := some s.now }
    let s := s.settle
    let s := forAll (List.range 64) (fun ch s => s.setRxon ch false) s
    s.sendSafeState c

/-- The immediate safe state that a class F cause asks for (R541), if it does. -/
def immediateCause (unit code : Nat) : Option SafeCause :=
  match unit, code with
  | 0x00, 1 => some .fmSelf
  | 0x01, 1 => some .refclk
  | 0x02, 1 => some .supply
  | 0x04, 1 => some .thistle
  | 0x04, 2 => some .thistle
  | _, _ => none

/-- A report of an error (R586). -/
structure Report where
  unit : Nat
  cls : FClass
  code : Nat
  addr : Nat
  info : Nat
  sub : Nat
  mid : Nat
deriving DecidableEq, Repr

/-- A report with ADDR 0, INFO as given, SUB 0 and MID 0xFF (R586). -/
def mkReport (unit : Nat) (cls : FClass) (code info : Nat) : Report :=
  { unit := unit, cls := cls, code := code, addr := 0, info := info, sub := 0, mid := 0xFF }

/-- The eight words of a record (R536). -/
def recordWords (r : Report) (t : Nat) : List Nat :=
  [2 ^ 31 + classCode r.cls * 2 ^ 28 + r.unit * 2 ^ 16 + r.code, r.addr, r.info, r.sub * 256 + r.mid,
   timeSec t / 2 ^ 32, timeSec t % 2 ^ 32, timeNs t, timeFrac t]

/-- The first empty slot of a unit (R537): primary, S1, S2, S3. -/
def State.emptySlot (s : State) (u : Nat) : Option Nat :=
  (List.range 4).find? fun r => !(s.reg (R.FM_REC u r 0)).toNat.testBit 31

/-- File a record (R537): in the first empty slot, or in the overflow count when all four are full. -/
def State.fileRecord (s : State) (r : Report) : State :=
  match s.emptySlot r.unit with
  | some k =>
    let ws := recordWords r s.time
    let s := forAll (List.range 8) (fun i s => s.setReg (R.FM_REC r.unit k i) (BitVec.ofNat 32 (ws.getD i 0))) s
    (s.modFm fun x => { x with held := x.held ++ [{ unit := r.unit, slot := k, cls := r.cls, at_ := s.now }] }).showFaults
  | none => s.count (R.FM_OVF_OVF r.unit)

/-- A unit reports an error (R537, R540, R541): one record; a report filed while an F record of an earlier cycle is pending escalates
(R556), and a class F cause that is immediate enters the safe state. -/
def State.report (s : State) (r : Report) : State :=
  let fPend := s.fm.held.any fun x => x.cls == .clsF && decide (x.at_ < s.now)
  let s := s.fileRecord r
  if fPend then s.enterSafe .escalation
  else if r.cls = .clsF then
    match immediateCause r.unit r.code with
    | some c => s.enterSafe c
    | none => s
  else s

/-- A unit is cleared (R538): all four records and OVF are emptied. -/
def State.clearUnit (s : State) (u : Nat) : State :=
  let s := forAll (List.range 4) (fun k s => forAll (List.range 8) (fun i s => s.setReg (R.FM_REC u k i) 0) s) s
  let s := s.setReg (R.FM_OVF u) 0
  (s.modFm fun x => { x with held := x.held.filter fun r => r.unit ≠ u }).showFaults

/-- The reporting units that exist (R535). -/
def unitExists (u : Nat) : Bool := u ≤ 0x12 || (0x14 ≤ u && u ≤ 0x18) || (0x20 ≤ u && u ≤ 0x24)

end Sys2Proof.Machine
end

