-- ==== Sys2Proof/Machine/Chain.lean ====
section
/-! DEFINITION. Transmit and receive chains (chapter 2). -/

namespace Sys2Proof.Machine

/-- The outcome of a register write: `ok` with the state it leaves, or `error` with the state a refused write leaves (R584: no
field changes, only the block's refusal flag and code). -/
abbrev Wr := Except State State

/-- The state a write leaves, taken or refused. -/
def Wr.state (w : Wr) : State :=
  match w with
  | .ok s => s
  | .error s => s

/-- A write is refused and sets a flag (R584). -/
def refuse (f : Field) (s : State) : Wr := .error (s.raise f)

/-- Whether power management gates a quadrant, by the QGATE in force or by thermal throttling (R513). -/
def State.quadGated (s : State) (q : Nat) : Bool := s.fbit R.PWR_STATUS_QGATE q

/-- Whether the converters, RF chains, QLOs and synthesisers have power: in ACTIVE and TRIM (R511). -/
def State.radioOn (s : State) : Bool := s.get R.PWR_STATUS_STATE_NOW < 2

/-- Whether the radio still has power: in ACTIVE and TRIM, and after leaving them until the quiet instant (R373, R516). -/
def State.radioPowered (s : State) : Bool :=
  s.radioOn || (match s.pw.move with
    | some m => m.source < 2 && m.quietAt.isSome
    | none => false)

/-- Whether a chain is gated (R513), or has no power in HUSH and FALLOW (R511). -/
def State.chainGated (s : State) (ch : Nat) : Bool :=
  !s.radioPowered || s.fbit (R.PWR_CHGATE_CHG (ch / 32)) (ch % 32)

/-- SI cycles within which a power-up completes (R76). -/
def powerUpCycles : Nat := 9830

/-! ### Enables (R76, R77) -/

/-- Transmit power-down: TXON off, DAC input zero, TX analogue and DAC pair down. The bias is left to its profile's rest state. -/
def State.txDown (s : State) (ch : Nat) : State :=
  (((s.setTxon ch false).put (R.CH_STATUS_TX_RDY ch) 0).modChain ch fun x =>
    { x with txUp := none, txDis := false, txWait := false, runOpen := false, txIn := false }).noteGate s.now ch

/-- Receive power-down: RXON off, RX analogue and ADC pair down, uplink contribution zero. -/
def State.rxDown (s : State) (ch : Nat) : State :=
  ((s.setRxon ch false).put (R.CH_STATUS_RX_RDY ch) 0).modChain ch fun x =>
    { x with rxUp := none, rxDis := false, rxJoined := false, rxWait := false }

/-- A disable acts on the value of the enable at its apply instant; written back to 1, it is cancelled. -/
def State.applyTxDis (ch : Nat) (s : State) : State :=
  if (s.chain ch).txDis then
    if s.flag (R.CH_CTRL_TX_EN ch) then s.modChain ch fun x => { x with txDis := false } else s.txDown ch
  else s

/-- As `applyTxDis`, for the receive direction. -/
def State.applyRxDis (ch : Nat) (s : State) : State :=
  if (s.chain ch).rxDis then
    if s.flag (R.CH_CTRL_RX_EN ch) then s.modChain ch fun x => { x with rxDis := false } else s.rxDown ch
  else s

/-- A write of CH_CTRL.TX_EN (R76, R77): 0 → 1 starts a power-up unless the direction is in service, powering up or waiting for a
disable; 1 → 0 waits for the next apply instant, the alignment edge after the write if no slot is in force there. -/
def State.txEnWrite (s : State) (ch : Nat) (v : Bool) : State :=
  let old := s.flag (R.CH_CTRL_TX_EN ch)
  let x := s.chain ch
  let s := s.put (R.CH_CTRL_TX_EN ch) (b2n v)
  if s.chainGated ch then s
  else if !old && v then
    if s.flag (R.CH_STATUS_TX_RDY ch) || x.txDis || x.txUp.isSome then s
    else s.modChain ch fun x => { x with txUp := some (s.now + powerUpCycles) }
  else if old && !v then
    let s := s.modChain ch fun x => { x with txDis := true, runOpen := false }
    doIf (s.activeOn .dl (quadOf ch)).isEmpty (State.applyTxDis ch) s
  else s

/-- A write of CH_CTRL.RX_EN, as `txEnWrite`. -/
def State.rxEnWrite (s : State) (ch : Nat) (v : Bool) : State :=
  let old := s.flag (R.CH_CTRL_RX_EN ch)
  let x := s.chain ch
  let s := s.put (R.CH_CTRL_RX_EN ch) (b2n v)
  if s.chainGated ch then s
  else if !old && v then
    if s.flag (R.CH_STATUS_RX_RDY ch) || x.rxDis || x.rxUp.isSome then s
    else s.modChain ch fun x => { x with rxUp := some (s.now + powerUpCycles) }
  else if old && !v then
    let s := s.modChain ch fun x => { x with rxDis := true }
    doIf (s.activeOn .ul (quadOf ch)).isEmpty (State.applyRxDis ch) s
  else s

/-- Gating a chain: both directions lose power; the enables keep their values (R77). -/
def State.gateChain (ch : Nat) (s : State) : State := (s.txDown ch).rxDown ch

/-- Ungating a chain: each enabled direction powers up as though its enable had just been written (R77). -/
def State.ungateChain (ch : Nat) (s : State) : State :=
  let s := doIf (s.flag (R.CH_CTRL_TX_EN ch)) (fun s => s.modChain ch fun x => { x with txUp := some (s.now + powerUpCycles) }) s
  doIf (s.flag (R.CH_CTRL_RX_EN ch)) (fun s => s.modChain ch fun x => { x with rxUp := some (s.now + powerUpCycles) }) s

/-- A write of CH_CTRL.TX_MUTE drives or releases the rank-4 line (R78). -/
def State.txMuteWrite (s : State) (ch : Nat) (v : Bool) : State := (s.put (R.CH_CTRL_TX_MUTE ch) (b2n v)).settleChain ch

/-- A write of CH_CTRL.RX_MUTE takes effect at the next symbol boundary (R80); with no uplink slot in force, at once. -/
def State.rxMuteWrite (s : State) (ch : Nat) (v : Bool) : State :=
  let s := s.put (R.CH_CTRL_RX_MUTE ch) (b2n v)
  doIf (s.activeOn .ul (quadOf ch)).isEmpty (fun s => s.modChain ch fun x => { x with rxMuted := v }) s

/-- A write of CH_CTRL.RX_PROT (R83); protection ends at the next boundary of the grid after a 0, at once if no grid runs. -/
def State.rxProtWrite (s : State) (ch : Nat) (v : Bool) : State :=
  let s := s.put (R.CH_CTRL_RX_PROT ch) (b2n v)
  doIf (!v && (s.activeOn .ul (quadOf ch)).isEmpty) (fun s =>
    (s.put (R.CH_STATUS_RX_PROTECTED ch) 0).modChain ch fun x => { x with protSlots := 0 }) s

/-- A write of CH_CTRL: each field takes effect under its own rule. -/
def State.chCtrlWrite (s : State) (ch : Nat) (v : Word) : State :=
  let s := s.put (R.CH_CTRL_PHCOMP ch) ((R.CH_CTRL_PHCOMP ch).of v)
  let s := s.rxProtWrite ch ((R.CH_CTRL_RX_PROT ch).of v = 1)
  let s := s.rxMuteWrite ch ((R.CH_CTRL_RX_MUTE ch).of v = 1)
  let s := s.txMuteWrite ch ((R.CH_CTRL_TX_MUTE ch).of v = 1)
  let s := s.rxEnWrite ch ((R.CH_CTRL_RX_EN ch).of v = 1)
  s.txEnWrite ch ((R.CH_CTRL_TX_EN ch).of v = 1)

/-- A transmit power-up completes (R76): TX_RDY rises. -/
def State.txPowerUpDone (s : State) (ch : Nat) : State :=
  match (s.chain ch).txUp with
  | some _ => (s.put (R.CH_STATUS_TX_RDY ch) 1).modChain ch fun x => { x with txUp := none }
  | none => s

/-! ### Receive offset control (R67 to R71) -/

/-- One LSB of the ADC in the estimates' units. -/
def estLsb : Int := 2 ^ 28

/-- One update of the tracker: e + (x − e) · 2^−k, rounded convergently to 28 fractional bits (R69). -/
def trackStep (k : Nat) (e x : Int) : Int := satS 40 (e + roundShift (x * estLsb - e) k)

/-- The tracker's output for a sample: x − e, rounded convergently to 12 bits (R69). -/
def trackOut (e x : Int) : Int := satS 12 (roundShift (x * estLsb - e) 28)

/-- RX_DCO_EST shows the integer parts of the estimates, held while the chain is being calibrated (R75). -/
def State.showEst (ch : Nat) (s : State) : State :=
  if s.flag (R.CH_STATUS_STALE ch) then s
  else (s.put (R.RX_DCO_EST_EST_I ch) (ofInt 12 ((s.chain ch).estI / estLsb))).put (R.RX_DCO_EST_EST_Q ch)
    (ofInt 12 ((s.chain ch).estQ / estLsb))

/-- RX_DCO_TRIM shows the trims of the gain code in force (R67), held while the chain is being calibrated (R75). -/
def State.showTrim (ch : Nat) (s : State) : State :=
  if s.flag (R.CH_STATUS_STALE ch) then s
  else
    let g := s.wget (R.RX_GAIN_GAIN ch)
    (s.put (R.RX_DCO_TRIM_TRIM_I ch) (s.get (R.DCO_TABLE_TRIM_I ch g))).put (R.RX_DCO_TRIM_TRIM_Q ch)
      (s.get (R.DCO_TABLE_TRIM_Q ch g))

/-- Whether the tracker of a chain updates on cycle `c` (R70): RXON and DCT_FREEZE as they stood, `ul` whether the symbol in air is an uplink
symbol of the slot table, no gain-settling window; and its k. -/
def ChainX.tracks (x : ChainX) (ul : Bool) (c : Nat) : Bool × Nat :=
  match (x.trkLog.filter fun g => g.from0 ≤ c).getLast? with
  | some g => (g.run && ul && !(x.settle ≤ c + 25 && c < x.settle), g.k)
  | none => (false, 16)

/-- One refresh step of a component: the trim moves one step toward reducing |e|, and e by the equivalent 2 LSB (R71). At the end of its 10-bit
range the trim has no step to make and e does not move (DESIGN CHOICE, log 59: R71 names no end of the range). -/
def refreshStep (thr : Nat) (trim : Nat) (e : Int) : Nat × Int :=
  let t := toInt 10 trim
  if e > thr * estLsb ∧ t > -512 then (ofInt 10 (t - 1), e - 2 * estLsb)
  else if e < -(thr * estLsb) ∧ t < 511 then (ofInt 10 (t + 1), e + 2 * estLsb)
  else (trim, e)

/-- The refresh at the start of a quiet or guard symbol (R71). -/
def State.trimRefresh (ch : Nat) (s : State) : State :=
  if s.flag (R.RX_DCO_CTRL_TRIM_REFRESH ch) then
    let thr := s.get (R.RX_DCO_CTRL_REFRESH_THR ch)
    let g := s.wget (R.RX_GAIN_GAIN ch)
    let (ti, ei) := refreshStep thr (s.get (R.DCO_TABLE_TRIM_I ch g)) (s.chain ch).estI
    let (tq, eq) := refreshStep thr (s.get (R.DCO_TABLE_TRIM_Q ch g)) (s.chain ch).estQ
    let s := (s.put (R.DCO_TABLE_TRIM_I ch g) ti).put (R.DCO_TABLE_TRIM_Q ch g) tq
    ((s.modChain ch fun x => { x with estI := ei, estQ := eq }).showEst ch).showTrim ch
  else s

/-- The calibration sequencer replaces all 61 entries on one cycle; `runs` says that the receive direction runs, and then the estimates move by
twice the change of the trim in force (R68). -/
def State.loadDcoTable (runs : Bool) (ch : Nat) (s : State) : State :=
  match (s.chain ch).dcoLoad with
  | [] => s
  | l =>
    let g := s.wget (R.RX_GAIN_GAIN ch)
    let oi := s.getS (R.DCO_TABLE_TRIM_I ch g)
    let oq := s.getS (R.DCO_TABLE_TRIM_Q ch g)
    let s := forAll (List.range 61) (fun i s => s.setReg (R.DCO_TABLE ch i) (l.getD i 0)) s
    let di := s.getS (R.DCO_TABLE_TRIM_I ch g) - oi
    let dq := s.getS (R.DCO_TABLE_TRIM_Q ch g) - oq
    ((s.modChain ch fun x => { x with
      dcoLoad := []
      estI := if runs then satS 40 (x.estI + 2 * di * estLsb) else x.estI
      estQ := if runs then satS 40 (x.estQ + 2 * dq * estLsb) else x.estQ }).showEst ch).showTrim ch

/-- A table load of the calibration sequencer waits for one of the instants of R68: at once while RX_EN is 0 or the receive
direction powers up, else the start of a quiet or guard symbol. -/
def State.askDcoLoad (s : State) (ch : Nat) (l : List Word) : State :=
  let s := s.modChain ch fun x => { x with dcoLoad := l }
  doIf (!s.flag (R.CH_CTRL_RX_EN ch) || (s.chain ch).rxUp.isSome) (State.loadDcoTable false ch) s

/-- A receive power-up completes (R76): RX_RDY rises; a waiting table load takes place before it does (R68). -/
def State.rxPowerUpDone (s : State) (ch : Nat) : State :=
  match (s.chain ch).rxUp with
  | some _ =>
    let s := s.loadDcoTable false ch
    (s.put (R.CH_STATUS_RX_RDY ch) 1).modChain ch fun x => { x with rxUp := none, rxJoined := false }
  | none => s

/-! ### Shadowed registers and slews (R63, R65, R74) -/

/-- A value moved toward a target by at most `step`. -/
def slewTo (step cur tgt : Int) : Int := if tgt > cur + step then cur + step else if tgt < cur - step then cur - step else tgt

/-- A signed field of the working copy moves toward its shadow by at most `step` (R74). -/
def State.slewField (s : State) (f : Field) (step : Nat) : State :=
  s.wput f (ofInt f.width (slewTo step (toInt f.width (s.wget f)) (toInt f.width (s.get f))))

/-- CORR_SLEWING is 1 while any working correction differs from its shadow (R74). -/
def State.showSlewing (ch : Nat) (s : State) : State :=
  s.put (R.CH_STATUS_CORR_SLEWING ch) (b2n ([R.TX_IQ ch, R.RX_IQ ch, R.TX_LOL ch].any fun a => s.wrk a ≠ s.reg a))

/-- An apply instant of a chain's transmit direction (R63, R74, R76). -/
def State.applyTx (ch : Nat) (s : State) : State :=
  let s := s.apply (R.TX_ATT ch)
  let s := (s.slewField (R.TX_IQ_PHASE ch) 16).slewField (R.TX_IQ_GAIN ch) 16
  let s := (s.slewField (R.TX_LOL_LOL_Q ch) 4).slewField (R.TX_LOL_LOL_I ch) 4
  (s.showSlewing ch).applyTxDis ch

/-- An apply instant of a chain's receive direction (R63, R65, R74, R76, R80): a gain change loads the trim of the new code and
holds the tracker for 25 cycles. -/
def State.applyRx (ch : Nat) (s : State) : State :=
  let g := s.wget (R.RX_GAIN_GAIN ch)
  let s := s.apply (R.RX_GAIN ch)
  let s := doIf (s.wget (R.RX_GAIN_GAIN ch) ≠ g) (fun s =>
    (s.modChain ch fun x => { x with settle := s.now + 25 }).showTrim ch) s
  let s := (s.slewField (R.RX_IQ_PHASE ch) 16).slewField (R.RX_IQ_GAIN ch) 16
  let s := (s.showSlewing ch).applyRxDis ch
  s.modChain ch fun x => { x with
    rxMuted := s.flag (R.CH_CTRL_RX_MUTE ch)
    rxJoined := x.rxJoined || s.flag (R.CH_STATUS_RX_RDY ch) }

/-! ### Sample stages (R72, R73) -/

/-- The IQ corrector: y_q = g·x_q + p·x_i with g and p in Q2.14 (R72), saturated to `w` bits. -/
def iqCorrect (w : Nat) (g p xi xq : Int) : Int × Int := (satS w xi, satS w (roundShift (g * xq + p * xi) 14))

/-- The DAC input: a corrected sample of the predistorter's output width, Q2.16, in which a TXDAC LSB is 8 units (R153), plus the
LO-leakage offset, under a gate in 2^−60, rounded convergently to 14 bits; also whether it saturated (R53, R73). -/
def dacInput (gate lol x : Int) : Int × Bool :=
  let y := if gate = 2 ^ 60 then roundShift (x + 8 * lol) 3 else roundShift ((x + 8 * lol) * gate) 63
  (satS 14 y, satS 14 y ≠ y)

/-- The phase that the per-code table of a chain gives its TX attenuation (`d` = 0) or RX gain in force, in units of 2π / 2^37 (R65, R407): from the
record of the frequency point and the temperature selection in force, signed, 360° / 65,536. -/
def State.codePhase (s : State) (d ch : Nat) : Nat :=
  let q := quadOf ch
  let base := 0x5001000 + 0x11000 * (5 * s.get (R.CAL_QSTAT_FP q) + s.get (R.CAL_QSTAT_BAND q)) + 0x400 * ch
  let a := if d = 0 then base + 0x140 + 2 * s.wget (R.TX_ATT_ATT ch) else base + 0x240 + 2 * s.wget (R.RX_GAIN_GAIN ch)
  leNat (s.bytes a 2) * 2 ^ 21

/-- The digital rotation of R65: while PHCOMP is 1 a sample is turned back by the phase that its code adds (DEDUCED: the table holds the phase of
each code, and the rotation compensates it), to `w` bits. -/
def State.phComp (s : State) (d w ch : Nat) (x : Int × Int) : Int × Int :=
  if s.flag (R.CH_CTRL_PHCOMP ch) then rotate w true (s.codePhase d ch) x else x

/-! ### Overload (R82 to R84) -/

/-- A counter of the chain counts `n`; while the chain is being calibrated the counts are held back (R75). -/
def State.countChain (s : State) (ch : Nat) (rx tx ovl : Nat) : State :=
  if s.flag (R.CH_STATUS_STALE ch) then
    s.modChain ch fun x => { x with lateRx := x.lateRx + rx, lateTx := x.lateTx + tx, lateOvl := x.lateOvl + ovl }
  else ((s.countBy (R.RX_CLIPCNT_COUNT ch) rx).countBy (R.TX_CLIPCNT_COUNT ch) tx).countBy (R.RX_OVL_SYM_COUNT ch) ovl

/-- The calibration of a chain begins or ends (R75): held counts are added at the end, so none is lost. -/
def State.setStale (ch : Nat) (b : Bool) (s : State) : State :=
  let x := s.chain ch
  let s := s.put (R.CH_STATUS_STALE ch) (b2n b)
  if b then s
  else (((s.countChain ch x.lateRx x.lateTx x.lateOvl).modChain ch fun x =>
    { x with lateRx := 0, lateTx := 0, lateOvl := 0 }).showEst ch).showTrim ch

/-- A sample is clipped when its I or Q code is −2,048 or +2,047 (R82). -/
def clipped (p : Int × Int) : Bool := p.1 == -2048 || p.1 == 2047 || p.2 == -2048 || p.2 == 2047

/-- Clipped samples in a symbol. -/
def clipCount (l : List (Int × Int)) : Nat := (l.filter clipped).length

/-- The grid of R82 on a quadrant: the highest numerology among the uplink slots in force there, if any. -/
def State.ovlGrid (s : State) (q : Nat) : Option Nat :=
  match (s.activeOn .ul q).map fun cs => s.slotMu .ul cs with
  | [] => none
  | m :: t => some (t.foldl max m)

/-- The slot whose boundaries stand for the grid: the lowest one of the grid's numerology. -/
def State.gridSlot (s : State) (q : Nat) : Option Nat :=
  (s.activeOn .ul q).find? fun cs => some (s.slotMu .ul cs) == s.ovlGrid q

/-- Protection begins, runs or ends at a boundary of the grid (R83): `ovl` whether the symbol that ended was overloaded, `ulSym`
whether it was an uplink symbol. -/
def State.protect (s : State) (ch : Nat) (ulSym ovl : Bool) : State :=
  let need := max 1 (s.get (R.OVL_CTRL_PROT_CLEAR ch))
  if !s.flag (R.CH_CTRL_RX_PROT ch) then s.put (R.CH_STATUS_RX_PROTECTED ch) 0
  else if ovl then (s.put (R.CH_STATUS_RX_PROTECTED ch) 1).modChain ch fun x => { x with clean := 0 }
  else if ulSym && s.flag (R.CH_STATUS_RX_PROTECTED ch) then
    let s := s.modChain ch fun x => { x with clean := x.clean + 1 }
    if need ≤ (s.chain ch).clean then s.put (R.CH_STATUS_RX_PROTECTED ch) 0 else s
  else s

/-- Clipped samples of a chain are counted (R82). -/
def State.countClips (s : State) (ch n : Nat) : State :=
  if n = 0 then s else ((s.countChain ch n 0 0).raise (R.CH_STATUS_RX_CLIP ch)).modChain ch fun x => { x with clips := x.clips + n }

/-- A symbol of the grid ends (R82, R83): an uplink symbol that brought more than CLIP_THR clipped samples is overloaded, counted, and raised
once per chain and frame. -/
def State.judgeSymbol (s : State) (ch : Nat) (ulSym : Bool) (frame : Nat) : State :=
  let ovl := ulSym && s.get (R.OVL_CTRL_CLIP_THR ch) < (s.chain ch).clips
  let s := (s.modChain ch fun x => { x with clips := 0 }).countChain ch 0 0 (b2n ovl)
  let s := if ovl && (s.chain ch).ovlFrame != some (frame : Int) then
      (s.modChain ch fun x => { x with ovlFrame := some (frame : Int) }).event (.rxOverload ch (frame % 1024))
    else s
  s.protect ch ulSym ovl

/-! ### Register writes of the chain block -/

/-- A write of a chain-block register by the host or firmware (R14, R22, R62, R68, R69, R84). -/
def writeCHB (r : RegRow) (ix : List Nat) (a : Nat) (v : Word) (s : State) : Wr :=
  let ch := ix.getD 0 0
  let no := refuse (R.CH_STATUS_WR_REFUSED ch) s
  let direct := s.plainWrite r a v
  let noTx := (s.activeOn .dl (quadOf ch)).isEmpty
  let noRx := (s.activeOn .ul (quadOf ch)).isEmpty
  match r.id with
  | .CH_CTRL => .ok (s.chCtrlWrite ch v)
  | .TX_ATT => .ok (doIf noTx (State.applyTx ch) direct)
  | .TX_IQ => .ok (doIf noTx (State.applyTx ch) (direct.showSlewing ch))
  | .TX_LOL => .ok (doIf noTx (State.applyTx ch) (direct.showSlewing ch))
  | .RX_IQ => .ok (doIf noRx (State.applyRx ch) (direct.showSlewing ch))
  | .RX_GAIN => if 60 < (R.RX_GAIN_GAIN ch).of v then no else .ok (doIf noRx (State.applyRx ch) direct)
  | .RX_DCO_CTRL =>
    let k := (R.RX_DCO_CTRL_DCT_K ch).of v
    if k < 14 ∨ 24 < k then no else .ok (direct.noteTrk ch)
  | .DCO_TABLE =>
    if s.flag (R.CH_CTRL_RX_EN ch) && direct.reg a != s.reg a then no else .ok (direct.showTrim ch)
  | .CH_CNT_CLR =>
    let s := doIf (v.toNat.testBit 2) (fun s => s.put (R.RX_OVL_SYM_COUNT ch) 0) s
    let s := doIf (v.toNat.testBit 1) (fun s => s.put (R.TX_CLIPCNT_COUNT ch) 0) s
    .ok (doIf (v.toNat.testBit 0) (fun s => s.put (R.RX_CLIPCNT_COUNT ch) 0) s)
  | _ => .ok direct

/-! ### Meanings -/

/-- TX_EN_WRITE (R76). -/
def execTxEnWrite (ch : Nat) (v : Bool) (s : State) : Host.Outcome State Fault Refusal := .next (s.txEnWrite ch v)

/-- RX_EN_WRITE (R76). -/
def execRxEnWrite (ch : Nat) (v : Bool) (s : State) : Host.Outcome State Fault Refusal := .next (s.rxEnWrite ch v)

/-- TX_MUTE_WRITE (R78). -/
def execTxMuteWrite (ch : Nat) (v : Bool) (s : State) : Host.Outcome State Fault Refusal := .next (s.txMuteWrite ch v)

/-- RX_MUTE_WRITE (R80). -/
def execRxMuteWrite (ch : Nat) (v : Bool) (s : State) : Host.Outcome State Fault Refusal := .next (s.rxMuteWrite ch v)

/-- RX_PROT_WRITE (R83). -/
def execRxProtWrite (ch : Nat) (v : Bool) (s : State) : Host.Outcome State Fault Refusal := .next (s.rxProtWrite ch v)

end Sys2Proof.Machine
end

