-- ==== Sys2Proof/Machine/Nco.lean ====
section
/-! DEFINITION. Carrier placement: LO and carrier codes, the NCO words, and the rule of R57 (R86, R126 to R129). -/

namespace Sys2Proof.Machine

/-- N and F of a synthesiser in force (0 SYNA, 1 SYNB). -/
def State.synNF (s : State) (i : Nat) : Nat × Nat :=
  if i = 0 then (s.get R.SYN_N_SYNA_N, s.get R.SYNA_F_F) else (s.get R.SYN_N_SYNB_N, s.get R.SYNB_F_F)

/-- The LO code of N, F and DIV: (N · 2^32 + F) · 2^(5 − DIV) (R126). -/
def loCodeOf (n f div : Nat) : Nat := (n * 2 ^ 32 + f) * 2 ^ (5 - div)

/-- The LO code of a quadrant from the synthesiser that serves it (R126). -/
def State.loCode (s : State) (q : Nat) : Nat :=
  let (n, f) := s.synNF (s.get (R.QLO_CFG_SRC q))
  loCodeOf n f (s.get (R.QLO_CFG_DIV q))

/-- The carrier code in force of a slot (R126). -/
def State.carrierCode (s : State) (d cs : Nat) : Nat :=
  s.wget (R.CS_RF_HI_CODE_HI d cs) * 2 ^ 32 + s.wget (R.CS_RF_LO_CODE_LO d cs)

/-- Half the occupied bandwidth of a slot in code units: 6 · N_RB · Δf, with Δf = 15 kHz · 2^μ = 2^(22 + μ) units (R126, R178). -/
def State.halfBand (s : State) (d cs : Nat) : Nat := 6 * s.get (R.CS_CFG_N_RB d cs) * 2 ^ (22 + s.get (R.CS_CFG_MU d cs))

/-- Whether a code difference is at most 200 MHz: the code unit is 491.52 MHz / 2^37 (R126). -/
def within200 (x : Int) : Bool := x.natAbs * 49152 ≤ 20000 * 2 ^ 37

/-- Whether a code lies from 0.4 to 15.4 GHz. -/
def inRange (x : Int) : Bool := 40000 * 2 ^ 37 ≤ x * 49152 && x * 49152 ≤ 1540000 * 2 ^ 37

/-- R57: a carrier's occupied band lies within ±200 MHz of the LO and inside 0.4 to 15.4 GHz. -/
def carrierFits (lo code half : Nat) : Bool :=
  within200 ((code : Int) - half - lo) && within200 ((code : Int) + half - lo) && inRange ((code : Int) - half)
    && inRange ((code : Int) + half)

/-- The frequency word of a slot on a quadrant: carrier code − LO code, exact (R127). -/
def State.ftw (s : State) (d q cs : Nat) : Int := (s.carrierCode d cs : Int) - s.loCode q

/-- The frequency word of a slot on a quadrant that was in force on cycle `c` (R127, R128). -/
def State.ncoAt (s : State) (d q cs c : Nat) : Int :=
  match (s.sig.nco.filter fun w => w.d == d && w.q == q && w.cs == cs && w.from0 ≤ c).getLast? with
  | some w => w.ftw
  | none => toInt 64 (s.get (R.NCO_NOW_HI_FTW_HI d q cs) * 2 ^ 32 + s.get (R.NCO_NOW_LO_FTW_LO d q cs))

/-- NCO_NOW takes the frequency word (R128), from now on. -/
def State.setNco (d q cs : Nat) (s : State) : State :=
  let f := s.ftw d q cs
  let w := ofInt 64 f
  let word : NcoWord := { d := d, q := q, cs := cs, from0 := s.now, ftw := f }
  let s := { s with sig := { s.sig with nco := s.sig.nco ++ [word] } }
  (s.put (R.NCO_NOW_LO_FTW_LO d q cs) (w % 2 ^ 32)).put (R.NCO_NOW_HI_FTW_HI d q cs) (w / 2 ^ 32)

/-- The frequency words of every slot in force on a quadrant (R128). -/
def State.setNcoQuad (q : Nat) (s : State) : State :=
  forAll allSlots (fun (d, cs) s =>
    doIf (s.active d cs && s.fbit (R.CS_CFG_QMASK (dirIx d) cs) q) (State.setNco (dirIx d) q cs) s) s

/-- The phase of an NCO at composite sample `n` from the epoch, in units of 2π / 2^37 (R127). -/
def ncoPhase (ftw : Int) (n : Nat) : Nat := ((ftw * n) % (2 ^ 37 : Nat)).toNat

/-- Whether a quadrant has an LO frequency in force. -/
def State.tuned (s : State) (q : Nat) : Bool := s.lo.hasLo.testBit q

/-- Whether a carrier code for a slot may be committed (R129): on every quadrant of its mask with an LO in force |FTW| is at most
200 MHz, and a slot that is enabled or in force keeps R57, whose limits of 0.4 and 15.4 GHz need no LO. -/
def State.rfOk (s : State) (d cs code : Nat) : Bool :=
  let live := s.flag (R.CS_CFG_EN d cs) || s.flag (R.CS_CFG_EN_NOW d cs)
  let h := s.halfBand d cs
  (!live || (inRange ((code : Int) - h) && inRange ((code : Int) + h))) && (quadsOf (s.get (R.CS_CFG_QMASK d cs))).all fun q =>
    !s.tuned q || (within200 ((code : Int) - s.loCode q) && (!live || carrierFits (s.loCode q) code (s.halfBand d cs)))

/-- A committed carrier code applies (R128): the working pair takes it and the NCO words follow. -/
def State.applyRf (d cs : Nat) (s : State) : State :=
  match s.rfPend.find? fun p => p.d == d && p.cs == cs with
  | some p =>
    let s := (s.wput (R.CS_RF_HI_CODE_HI d cs) (p.code / 2 ^ 32)).wput (R.CS_RF_LO_CODE_LO d cs) (p.code % 2 ^ 32)
    let s := { s with rfPend := s.rfPend.filter fun p => !(p.d == d && p.cs == cs) }
    forAll (List.range 4) (fun q s => s.setNco d q cs) s
  | none => s

/-- A committed CS_F0 pair applies (chapter 6). -/
def State.applyF0 (d cs : Nat) (s : State) : State :=
  match s.f0Pend.find? fun p => p.d == d && p.cs == cs with
  | some p =>
    let s := (s.wput (R.CS_F0_HI_CODE_HI d cs) (p.code / 2 ^ 32)).wput (R.CS_F0_LO_CODE_LO d cs) (p.code % 2 ^ 32)
    { s with f0Pend := s.f0Pend.filter fun p => !(p.d == d && p.cs == cs) }
  | none => s

/-- A write of CS_RF_HI commits the pair with the last value of CS_RF_LO, or is refused (R129). It applies at the slot's next
symbol boundary, or on the first alignment edge if the slot is inactive (R128). -/
def State.rfCommit (s : State) (d cs : Nat) (hi : Nat) : Wr :=
  let code := hi % 2 ^ 10 * 2 ^ 32 + s.get (R.CS_RF_LO_CODE_LO d cs)
  if s.rfOk d cs code then
    let s := s.put (R.CS_RF_HI_CODE_HI d cs) hi
    let s := { s with rfPend := (s.rfPend.filter fun p => !(p.d == d && p.cs == cs)) ++ [{ d := d, cs := cs, code := code }] }
    .ok (doIf (!s.flag (R.CS_CFG_EN_NOW d cs)) (State.applyRf d cs) s)
  else refuse R.DFE_STATUS_WR_REFUSED s

/-- A write of CS_F0_HI commits that pair, without the check of R57. -/
def State.f0Commit (s : State) (d cs : Nat) (hi : Nat) : Wr :=
  let code := hi % 2 ^ 10 * 2 ^ 32 + s.get (R.CS_F0_LO_CODE_LO d cs)
  let s := s.put (R.CS_F0_HI_CODE_HI d cs) hi
  let s := { s with f0Pend := (s.f0Pend.filter fun p => !(p.d == d && p.cs == cs)) ++ [{ d := d, cs := cs, code := code }] }
  .ok (doIf (!s.flag (R.CS_CFG_EN_NOW d cs)) (State.applyF0 d cs) s)

/-- The band path of an LO code (R55): 0 below 3.0 GHz, 1 below 7.7 GHz, 2 above. -/
def bandOf (code : Nat) : Nat := if code * 49152 < 300000 * 2 ^ 37 then 0 else if code * 49152 < 770000 * 2 ^ 37 then 1 else 2

/-- CH_STATUS.BAND of a quadrant's chains. -/
def State.setBand (s : State) (q b : Nat) : State := forAll (chainsOf q) (fun ch s => s.put (R.CH_STATUS_BAND ch) b) s

/-- A fall of LO_READY or a switch-over on a quadrant marks the captures that run there at an ORX, TX or RX tap (R139). The ORX of
a chain observes at the LO of its quadrant (R137). -/
def State.markCaptures (q : Nat) (s : State) : State :=
  forAll (List.range 8) (fun k s =>
    doIf (s.get (R.CAP_STAT_STATE k) == 2 && quadOf (s.get (R.CAP_CFG_CH k)) == q) (fun s => s.raise (R.CAP_STAT_LO_EVT k)) s) s

/-- CS_RF_COMMIT (R129): a write of CS_RF_HI. -/
def execCsRfCommit (d : Dir) (cs hi : Nat) (s : State) : Host.Outcome State Fault Refusal :=
  .next (s.rfCommit (dirIx d) cs hi).state

end Sys2Proof.Machine
end

