-- ==== Sys2Proof/Machine/Lo.lean ====
section
/-! DEFINITION. Synthesisers, TUNE, LO readiness and the array epoch (chapter 3). -/

namespace Sys2Proof.Machine

/-! ### Synthesiser states (R95) -/

/-- OFF. -/
def synOff : Nat := 0
/-- CALIBRATING. -/
def synCal : Nat := 1
/-- READY. -/
def synReady : Nat := 2
/-- MIRROR. -/
def synMirror : Nat := 3
/-- ACTIVE. -/
def synActive : Nat := 4
/-- FAILED. -/
def synFailed : Nat := 5
/-- OUT_OF_SERVICE. -/
def synOos : Nat := 6

/-- Cycles within which a calibration locks and settles (R97). -/
def calCycles : Nat := 14745

/-- Cycles of a quiet window and of band settling within it (R105). -/
def windowCycles : Nat := 15237

/-- The state field of a synthesiser. -/
def synField (i : Nat) : Field := if i = 0 then R.LO_STATUS_SYNA_STATE else R.LO_STATUS_SYNB_STATE

/-- The state of a synthesiser. -/
def State.synState (s : State) (i : Nat) : Nat := s.get (synField i)

/-- Set the state of a synthesiser. -/
def State.setSyn (s : State) (i st : Nat) : State := s.put (synField i) st

/-- A synthesiser's own state. -/
def State.syn (s : State) (i : Nat) : Syn := 
  s.lo.syns.getD i { calAt := none, job := .none, fails := 0, wasMirror := false, drift := false, presetAt := 0, acc := 0, divs := 0 }

/-- Update the LO system's own state. -/
def State.modLo (s : State) (f : LoX → LoX) : State := { s with lo := f s.lo }

/-- Update a synthesiser's own state. -/
def State.modSyn (s : State) (i : Nat) (f : Syn → Syn) : State := s.modLo fun x => { x with syns := updAt x.syns i f }

/-- Set N and F of a synthesiser. -/
def State.setNF (s : State) (i n f : Nat) : State :=
  if i = 0 then (s.put R.SYN_N_SYNA_N n).put R.SYNA_F_F f else (s.put R.SYN_N_SYNB_N n).put R.SYNB_F_F f

/-- Whether the mode is SPLIT (R94). -/
def State.split (s : State) : Bool := s.flag R.LO_CTRL_MODE

/-- The synthesiser that serves a quadrant. -/
def State.src (s : State) (q : Nat) : Nat := s.get (R.QLO_CFG_SRC q)

/-- The quadrants a synthesiser serves, as a mask. -/
def State.serves (s : State) (i : Nat) : Nat := (List.range 4).foldl (fun m q => if s.src q = i then m + 2 ^ q else m) 0

/-- The active synthesiser of PINGPONG: the one every QLO_CFG.SRC shows (R94). -/
def State.activeSyn (s : State) : Nat := s.src 0

/-- The standby of PINGPONG. -/
def State.standby (s : State) : Nat := 1 - s.activeSyn

/-- Whether the array is aligned (R89). -/
def State.aligned (s : State) : Bool := s.flag R.LO_STATUS_ALIGNED

/-! ### LO_READY (R110) -/

/-- Whether a failover holds LO_READY of a quadrant at 0 until the next symbol boundary (R114). A quadrant with no slot in force has no
symbol to wait for: it is not held (DESIGN CHOICE, assumption log entry 15). -/
def State.failHeld (s : State) (q : Nat) : Bool :=
  s.lo.failHold.testBit q && !((s.activeOn .dl q).isEmpty && (s.activeOn .ul q).isEmpty)

/-- Whether LO_READY of a quadrant is 1 (R110): power, an ACTIVE synthesiser, the QLO locked, an LO in force, and no band settling,
quiet-window retune or failover hold open. -/
def State.loReadyNow (s : State) (q : Nat) : Bool :=
  s.radioPowered && !s.quadGated q && s.synState (s.src q) == synActive && s.fbit R.LO_STATUS_QLO_LOCK q && s.tuned q
    && (s.lo.settleEnd.getD q none).isNone && !s.lo.retuneQ.testBit q && !s.failHeld q && s.aligned

/-- LO_STATUS.DRIFT: the tuning voltage of an ACTIVE synthesiser is outside its safe window (R115). -/
def State.showDrift (s : State) : State :=
  s.put R.LO_STATUS_DRIFT (b2n ((List.range 2).any fun i => s.synState i == synActive && (s.syn i).drift))

/-- Bring LO_READY of every quadrant, and DRIFT, up to date. A fall marks captures and the uplink symbols in air; rank 5 follows. -/
def State.refreshReady (s : State) : State :=
  let s := s.showDrift
  let s := forAll (List.range 4) (fun q s =>
    let was := s.fbit R.LO_STATUS_LO_READY q
    let is := s.loReadyNow q
    let s := s.putBit R.LO_STATUS_LO_READY q is
    doIf (was && !is) (fun s => (s.markCaptures q).modLo fun x => { x with rxBad := updAt x.rxBad q fun _ => 255 }) s) s
  s.settle

/-- A synthesiser that serves a quadrant with an LO in force is ACTIVE once locked, and READY or MIRROR otherwise (R95). -/
def State.serveState (s : State) (i : Nat) : Nat :=
  if s.serves i &&& s.lo.hasLo ≠ 0 then synActive
  else if !s.split && s.flag R.LO_CTRL_STBY_MIRROR && s.synNF i == s.synNF (1 - i) then synMirror else synReady

/-! ### Calibration -/

/-- A synthesiser enters CALIBRATING toward a target (R97). No synthesiser is calibrated while ALIGNED is 0 (R117), and none that is
OUT_OF_SERVICE until device reset (R97). -/
def State.calibrate (s : State) (i n f : Nat) (j : SynJob) : State :=
  if s.aligned && s.synState i != synOos then
    ((s.setNF i n f).setSyn i synCal).modSyn i fun x => { x with calAt := some s.now, job := j, drift := false }
  else s

/-- A synthesiser is powered down; OUT_OF_SERVICE stays (R97). -/
def State.offSyn (i : Nat) (s : State) : State :=
  (doIf (s.synState i != synOos) (fun s => s.setSyn i synOff) s).modSyn i fun x => { x with calAt := none, job := .none, drift := false }

/-- The cycles of the VCO of N and F since the array epoch at cycle `t`, in units of 2^-32, modulo 32 cycles. -/
def State.vcoSince (s : State) (n f t : Nat) : Nat := ((t - s.tm.epoch) * (n * 2 ^ 32 + f)) % 2 ^ 37

/-- A calibration presets the synthesiser's fraction accumulator and the QLO dividers from the array epoch (R91). -/
def State.presetSyn (s : State) (i : Nat) : State :=
  let (n, f) := s.synNF i
  let v := s.vcoSince n f s.now
  s.modSyn i fun x => { x with presetAt := s.now, acc := v % 2 ^ 32, divs := v / 2 ^ 32 }

/-- A turn of LO phase, in the unit 2π / (3600 · 2^37) that holds both the divided VCO phase and a trim of 0.1° exactly. -/
def loTurn : Nat := 3600 * 2 ^ 37

/-- The phase of QLOq at cycle `t`, in units of `2π / loTurn` (R91): the accumulator and the dividers run on from their preset; the
working trim of the quadrant adds to it. -/
def State.qloPhase (s : State) (q t : Nat) : Nat :=
  let i := s.src q
  let (n, f) := s.synNF i
  let x := s.syn i
  let vco := x.divs * 2 ^ 32 + x.acc + (t - x.presetAt) * (n * 2 ^ 32 + f)
  let lo := (vco * 2 ^ (5 - s.get (R.QLO_CFG_DIV q))) % 2 ^ 37
  (lo * 3600 + s.get (R.QLO_PHASE_TRIM_NOW q) * 2 ^ 37) % loTurn

/-- The phase of a downlink carrier at the TX ports of a quadrant at cycle `t`, in units of `2π / loTurn`: that of its LO with the trim,
which advances it (R93), and that of its NCO, referenced to the same epoch (R92). -/
def State.txPortPhase (s : State) (q cs t : Nat) : Nat :=
  (s.qloPhase q t + ncoPhase (s.ncoAt 0 q cs t) (t - s.tm.epoch) * 3600) % loTurn

/-- The phase that the receive path of a quadrant takes from an uplink carrier, in units of `2π / loTurn`: the LO phase with the trim,
which retards the received baseband (R93), and the NCO's (R92). -/
def State.rxBasebandShift (s : State) (q cs t : Nat) : Nat :=
  (loTurn - (s.qloPhase q t + ncoPhase (s.ncoAt 1 q cs t) (t - s.tm.epoch) * 3600) % loTurn) % loTurn

/-! ### TUNE (R99 to R109) -/

/-- TUNE_BUSY, TUNE_WAIT and RESULT follow the TUNE in progress. -/
def State.showTune (s : State) : State :=
  let busy := s.lo.tune.isSome || s.lo.waiting.isSome
  let wait := match s.lo.tune with
    | some t => t.phase == .boundary || t.phase == .window
    | none => false
  (s.put R.LO_STATUS_TUNE_BUSY (b2n busy)).put R.LO_STATUS_TUNE_WAIT (b2n wait)

/-- The Done fields of a TUNE (R460): the four LO codes in force and the switch-over instant `c` as device time, all zeros (`c` = 0) if no
switch-over took place. -/
def State.tuneDone (s : State) (c : Nat) : List Byte :=
  (List.range 4).flatMap (fun q => beBytes 8 (if s.tuned q then s.loCode q else 0))
    ++ (if c = 0 then beBytes 12 0 else timeBytes (s.timeAt c).toNat)

/-- A TUNE ends with a status. -/
def State.endTune (s : State) (t : Tune) (st : Status) : State :=
  let s := s.put R.TUNE_CMD_RESULT (statusCode st)
  s.completeJob t.cmd st (s.tuneDone t.doneAt)

/-- The TUNE in progress ends with a status; nothing is in progress then. -/
def State.finishTune (s : State) (st : Status) : State :=
  match s.lo.tune with
  | some t => ((s.modLo fun x => { x with tune := none }).endTune t st).showTune
  | none => s

/-- The LO code a TUNE gives a quadrant. -/
def Tune.code (t : Tune) (q : Nat) : Nat := loCodeOf t.n t.f (t.divs.getD q 0)

/-- Whether f_VCO of N and F lies from 7.7 to 15.4 GHz with N from 15 to 31 (R86). -/
def vcoOk (n f : Nat) : Bool :=
  15 ≤ n && n ≤ 31 && 770000 * 2 ^ 32 ≤ (n * 2 ^ 32 + f) * 49152 && (n * 2 ^ 32 + f) * 49152 ≤ 1540000 * 2 ^ 32

/-- The quadrants that a TUNE would serve: all of them in PINGPONG, those of its mask in SPLIT. -/
def State.tuneQuads (s : State) (t : Tune) : List Nat := if s.split then quadsOf t.qmask else List.range 4

/-- The quadrants whose LO a TUNE changes (RECAL recalibrates those with an LO in force, R100). -/
def State.tuneChanges (s : State) (t : Tune) : List Nat :=
  (s.tuneQuads t).filter fun q => t.qmask.testBit q && (!s.tuned q || s.loCode q ≠ t.code q || t.recal)

/-- The checks of R99 and R100 at GO, in the order of the table. -/
def State.tuneCheck (s : State) (t : Tune) (allowed : Bool) : Status :=
  let ch := s.tuneChanges t
  let lost := (s.tuneQuads t).filter fun q => !t.qmask.testBit q && s.tuned q && s.loCode q ≠ t.code q
  let breaks := ch.any fun q => allSlots.any fun (d, cs) =>
    s.active d cs && s.fbit (R.CS_CFG_QMASK (dirIx d) cs) q
      && !carrierFits (t.code q) (s.carrierCode (dirIx d) cs) (s.halfBand (dirIx d) cs)
  if !vcoOk t.n t.f || (List.range 4).any (fun q => 5 < t.divs.getD q 0)
      || (quadsOf t.qmask).any (fun q => !inRange (t.code q)) then .badParam
  else if !lost.isEmpty then .badParam
  else if breaks then .badParam
  else if s.split && t.qmask ≠ s.serves 0 && t.qmask ≠ s.serves 1 then .badParam
  else if !s.aligned then .stateConflict
  else if !allowed then .resourceOwned
  else if t.recal && (s.tuneQuads t).all (fun q => !s.tuned q) && ch.all (fun q => s.tuned q) then .badParam
  else .ok

/-- Whether a TUNE changes no frequency and asks for no recalibration (R100). The target of a synthesiser in FAILED is not in force:
the next TUNE retries it (R97). -/
def State.tuneIdle (s : State) (t : Tune) : Bool :=
  !t.recal && (quadsOf t.qmask).all fun q => s.tuned q && s.loCode q == t.code q && s.synState (s.src q) != synFailed

/-- Whether a recovery after lock loss, or a drift swap's transient, keeps the synthesisers busy (R108). -/
def State.recovering (s : State) : Bool :=
  (List.range 2).any fun i => s.synState i == synCal && ((s.syn i).job == .recover || (s.syn i).job == .inPlace)

/-- The synthesiser that a TUNE changes in place: in SPLIT the one that serves the quadrants of its mask (R99), in PINGPONG the
active one. -/
def State.tuneSyn (s : State) (t : Tune) : Nat :=
  if s.split then (if t.qmask = s.serves 0 then 0 else 1) else s.activeSyn

/-- A TUNE starts (R101, R105): in PINGPONG with the standby in service the standby calibrates; otherwise it waits for a quiet
window of the quadrants its synthesiser serves. -/
def State.startTune (s : State) (t : Tune) : State :=
  if s.split || s.synState s.standby = synOos then
    let i := s.tuneSyn t
    (s.modLo fun x => { x with tune := some { t with syn := i, phase := .window } }).showTune
  else
    let i := s.standby
    let kept := s.synState i == synReady && s.synNF i == (t.n, t.f) && (s.syn i).job == .tune
    let s := s.modLo fun x => { x with swapPend := false }
    if kept then (s.modLo fun x => { x with tune := some { t with syn := i, phase := .boundary } }).showTune
    else ((s.calibrate i t.n t.f .tune).modLo fun x => { x with tune := some { t with syn := i, phase := .calibrating } }).showTune

/-- In HUSH the targets of a TUNE replace those in force (R108). -/
def State.takeTargets (s : State) (t : Tune) : State :=
  let qs := (s.tuneQuads t).filter fun q => t.qmask.testBit q || s.tuned q
  let s := s.setNF (s.tuneSyn t) t.n t.f
  forAll qs (fun q s =>
    (s.put (R.QLO_CFG_DIV q) (t.divs.getD q 0)).modLo fun x => { x with hasLo := setBit x.hasLo q true }) s

/-- The state that a TUNE is checked against: while a quiet-window retune runs, the one that its end leaves (R108). -/
def State.afterRetune (s : State) : State :=
  match s.lo.tune with
  | some t => if t.phase == .retuning then s.takeTargets t else s
  | none => s

/-- GO (R99, R100, R108): the status of the submission and the state it leaves. A TUNE that arrives while an earlier one is on the
standby and a recovery in place runs follows the row of the standby: it replaces the earlier one at once (DESIGN CHOICE, assumption
log entry 15). The device is in HUSH once its radio has lost power: until then a TUNE runs. -/
def State.tuneGo (s : State) (t : Tune) (allowed : Bool) : State × Status :=
  let st := s.afterRetune.tuneCheck t allowed
  if st ≠ .ok then (s.put R.TUNE_CMD_RESULT (statusCode st), st)
  else if s.afterRetune.tuneIdle t then (s.put R.TUNE_CMD_RESULT (statusCode .ok), .ok)
  else if !s.radioPowered then ((s.takeTargets t).put R.TUNE_CMD_RESULT (statusCode .ok), .ok)
  else
    let s := s.put R.TUNE_CMD_RESULT (statusCode .accepted)
    let queue (s : State) : State :=
      let s := match s.lo.waiting with
        | some w => s.completeJob w.cmd .aborted (s.tuneDone w.doneAt)
        | none => s
      (s.modLo fun x => { x with waiting := some { t with phase := .queued } }).showTune
    let s := match s.lo.tune with
      | some p =>
        if p.phase == .transient || p.phase == .retuning then queue s
        else
          let s := (s.modLo fun x => { x with tune := none }).completeJob p.cmd .aborted (s.tuneDone p.doneAt)
          s.startTune t
      | none => if s.recovering then queue s else s.startTune t
    (s, .accepted)

/-- The TUNE waiting behind a retune, a recovery or a transient proceeds as though submitted at its end (R108). -/
def State.startWaiting (s : State) : State :=
  match s.lo.tune, s.lo.waiting with
  | none, some w =>
    if s.recovering then s.showTune
    else
      let s := s.modLo fun x => { x with waiting := none }
      let st := s.tuneCheck w true
      if st ≠ .ok then (s.endTune w st).showTune
      else if s.tuneIdle w then (s.endTune w .ok).showTune
      else (s.put R.TUNE_CMD_RESULT (statusCode .accepted)).startTune w
  | _, _ => s.showTune

/-- The staged TUNE of the registers (TUNE_CFG, TUNE_F, TUNE_AT). -/
def State.stagedTune (s : State) (cmd : Option Cmd) : Tune :=
  let d := s.get R.TUNE_CFG_DIV
  { cmd := cmd, n := s.get R.TUNE_CFG_N, f := s.get R.TUNE_F_F,
    divs := (List.range 4).map fun q => bits d (3 * q + 2) (3 * q),
    qmask := s.get R.TUNE_CFG_QMASK, atEn := s.flag R.TUNE_CFG_AT_EN, frame := s.get R.TUNE_AT_FRAME,
    recal := s.flag R.TUNE_CFG_RECAL, wait := s.get R.TUNE_CFG_WAIT_FRAMES, goFrame := s.frameNo s.now,
    syn := 0, wasN := 0, wasF := 0, phase := .calibrating, doneAt := 0 }

/-- The cycle on which a TUNE's wait runs out (R106): the end of the WAIT_FRAMES-th frame after the frame of GO. -/
def State.tuneDeadline (s : State) (t : Tune) : Nat := (s.frameStart (t.goFrame + 1 + t.wait)).toNat

/-- The number of the first frame at or after frame `k` whose SFN is `f`. A TUNE_AT.FRAME that has passed by GO is so taken as its next
occurrence, up to 1,023 frames on (DESIGN CHOICE, assumption log entry 15). -/
def frameFrom (k : Int) (f : Nat) : Int := k + ((f : Int) - k) % 1024

/-- The next boundary after cycle `c` that ends a symbol of the slots in force on a set of quadrants, in either direction: its
cycle, direction and slot (the earliest-ending symbol, R101). -/
def State.nextEnd (s : State) (qs : List Nat) (c : Nat) : Option Nat :=
  let cs := allSlots.filter fun (d, k) => s.active d k && qs.any fun q => s.fbit (R.CS_CFG_QMASK (dirIx d) k) q
  match cs.map fun (d, k) => (s.nextSymbol d (s.slotMu d k) c).1 with
  | [] => none
  | x :: t => some (t.foldl min x)

/-- Whether every quadrant of a list is guard or quiet in the symbol that begins at cycle `c` (R102). The rule names no timeline: the
model asks it of both (DESIGN CHOICE, assumption log entry 15). -/
def State.guardAt (s : State) (qs : List Nat) (c : Nat) : Bool :=
  qs.all fun q => [Dir.dl, Dir.ul].all fun d =>
    let b := s.bankAt d c
    let mu := s.get (R.SLOT_MU_TBL_MU b)
    let (_, n, _) := s.symNow d mu c
    let x := s.symDirIn b mu n q
    x == .quiet || x == .guard

/-- The switch-over instant of a swap to a synthesiser that gives quadrants new band paths (R101, R102): the first eligible
boundary after cycle `c`, not before cycle `from0` and within `fuel` boundaries. -/
def State.findSwitch (s : State) (qs band : List Nat) (from0 : Nat) : Nat → Nat → Option Nat
  | 0, _ => none
  | fuel + 1, c =>
    match s.nextEnd qs c with
    | none => some (max (s.now + (s.now - s.tm.epoch) % 2) from0)
    | some b => if from0 ≤ b && (band.isEmpty || s.guardAt band b) then some b else s.findSwitch qs band from0 fuel b

/-- The quadrants whose band path a switch to new codes changes (R55, R102). -/
def State.bandMoves (s : State) (qs : List Nat) (code : Nat → Nat) : List Nat :=
  qs.filter fun q => s.get (R.CH_STATUS_BAND (16 * q)) ≠ bandOf (code q)

/-- The QLOs of the quadrants change source to a synthesiser (R103): DIV, band paths, LO in force, NCO offsets. A band change opens
492 cycles of settling (R56). -/
def State.switchQuads (s : State) (qs : List Nat) (i : Nat) (divs : List Nat) : State :=
  let s := forAll qs (fun q s =>
    let s := (s.put (R.QLO_CFG_DIV q) (divs.getD q 0)).put (R.QLO_CFG_SRC q) i
    let b := bandOf (s.loCode q)
    let moved := s.get (R.CH_STATUS_BAND (16 * q)) ≠ b
    let s := doIf moved (fun s => (s.setBand q b).modLo fun x =>
      { x with settleEnd := updAt x.settleEnd q fun _ => some (s.now + 492) }) s
    let s := s.modLo fun x => { x with hasLo := setBit x.hasLo q true, failHold := setBit x.failHold q false }
    let s := doIf (!s.quadGated q) (fun s => s.raiseBit R.LO_STATUS_QLO_LOCK q) s
    (s.setNcoQuad q).markCaptures q) s
  let s := doIf (!s.split) (fun s => forAll (List.range 4) (fun q s => s.put (R.QLO_CFG_SRC q) i) s) s
  (s.setSyn i synActive).refreshReady

/-- SWITCH_OVER (R101 to R103, R107, R115): at the first eligible boundary of a TUNE whose standby is READY, or of a drift swap,
within the TUNE's wait. -/
def State.switchOver (s : State) : State :=
  match s.lo.tune with
  | some t =>
    if t.phase == .boundary && s.synState t.syn == synReady then
      let qs := (List.range 4).filter fun q => t.qmask.testBit q || s.tuned q
      let k := frameFrom t.goFrame t.frame
      let from0 := if t.atEn then (s.frameStart k).toNat else 0
      match s.findSwitch qs (s.bandMoves qs t.code) from0 4096 (max (max (s.now - 1) (from0 - 1)) ((s.syn t.syn).calAt.getD 0)) with
      | some c =>
        if c ≤ s.tuneDeadline t then
          let late := t.atEn && from0 < (s.syn t.syn).calAt.getD 0
          let s := s.advanceTo c
          let s := s.modSyn t.syn fun x => { x with calAt := none, job := .none }
          let s := s.modLo fun x => { x with tune := some { t with phase := .transient, doneAt := s.now } }
          let s := s.switchQuads qs t.syn t.divs
          (doIf late (fun s => s.event (.loApplyLate s.sfn)) s).showTune
        else s
      | none => s
    else s
  | none =>
    if s.lo.swapPend && s.synState s.standby == synReady then
      let qs := (List.range 4).filter fun q => s.tuned q
      let divs := (List.range 4).map fun q => s.get (R.QLO_CFG_DIV q)
      let i := s.standby
      match s.findSwitch qs [] 0 4096 (s.now - 1) with
      | some c =>
        let s := s.advanceTo c
        let s := s.modSyn i fun x => { x with calAt := none, job := .none }
        let s := s.modLo fun x => { x with swapPend := false, swapAt := some s.now }
        s.switchQuads qs i divs
      | none => s
    else s

/-- SWITCH_OVER_TRANSIENT_END (R103, R108): 24 cycles after the switch-over the former active enters READY and the TUNE completes
with OK; a TUNE that waited behind it starts. -/
def State.transientEnd (s : State) : State :=
  let ready (s : State) (i : Nat) : State := doIf (s.synState i == synActive) (fun s => s.setSyn i synReady) s
  match s.lo.tune with
  | some t =>
    if t.phase == .transient then
      let s := s.advanceTo (t.doneAt + 24)
      ((ready s (1 - t.syn)).finishTune .ok).startWaiting
    else s
  | none =>
    match s.lo.swapAt with
    | some c =>
      let s := (s.advanceTo (c + 24)).modLo fun x => { x with swapAt := none }
      (ready s s.standby).startWaiting
    | none => s

/-- MIRROR_RECALIBRATION (R98): in PINGPONG with STBY_MIRROR set and no TUNE in progress, the READY standby is recalibrated at the
active synthesiser's f_VCO. -/
def State.mirrorRecal (s : State) : State :=
  if !s.split && s.flag R.LO_CTRL_STBY_MIRROR && s.lo.tune.isNone && !s.lo.swapPend && s.synState s.standby == synReady
      && s.synState s.activeSyn == synActive then
    let (n, f) := s.synNF s.activeSyn
    s.calibrate s.standby n f .mirror
  else s

/-- The length of the run of quiet symbols of the slot table that begins at cycle `c` (R105), up to `need` cycles. -/
def State.quietRun (s : State) (qm need : Nat) : Nat → Nat → Nat
  | 0, _ => 0
  | fuel + 1, c =>
    if need = 0 then 0
    else if s.quietAt qm c then
      let mu := s.get (R.SLOT_MU_TBL_MU (s.bankAt .dl c))
      let e := (s.nextSymbol .dl mu c).1
      (e - c) + s.quietRun qm (need - (e - c)) fuel e
    else 0

/-- The start of the next quiet window of a mask after cycle `c`, at or before cycle `last` (R105). -/
def State.findWindow (s : State) (qm last : Nat) : Nat → Nat → Option Nat
  | 0, _ => none
  | fuel + 1, c =>
    let mu := s.get (R.SLOT_MU_TBL_MU (s.bankAt .dl c))
    let b := (s.nextSymbol .dl mu c).1
    if last < b then none
    else if windowCycles ≤ s.quietRun qm windowCycles 16 b then some b
    else s.findWindow qm last fuel b

/-- QUIET_WINDOW_RETUNE (R105): at the start of the next quiet window LO_READY of the served quadrants falls and their synthesiser
calibrates to the target. One that is OUT_OF_SERVICE cannot (R97): its TUNE ends there with HW_FAULT (DESIGN CHOICE, assumption log
entry 15). -/
def State.windowRetune (s : State) : State :=
  match s.lo.tune with
  | some t =>
    if t.phase == .window then
      let qm := if s.split then t.qmask else 15
      match s.findWindow qm (s.tuneDeadline t) 20000 s.now with
      | some c =>
        let s := s.advanceTo c
        if s.synState t.syn == synOos then s.finishTune .hwFault
        else
          let (n, f) := s.synNF t.syn
          let s := s.calibrate t.syn t.n t.f .retune
          let s := s.modLo fun x => { x with retuneQ := qm, tune := some { t with phase := .retuning, wasN := n, wasF := f } }
          s.refreshReady.showTune
      | none => s
    else s
  | none => s

/-- TUNE_WAIT_TIMEOUT (R106). A standby that is recovering its lock for the TUNE goes on, to READY (R113). -/
def State.tuneTimeout (s : State) : State :=
  match s.lo.tune with
  | some t =>
    if t.phase == .boundary || t.phase == .window then
      let s := s.advanceTo (s.tuneDeadline t)
      let s := doIf (t.phase == .boundary) (fun s =>
        if s.synState t.syn == synCal then s.modSyn t.syn fun x => { x with job := .regain, wasMirror := false }
        else s.modSyn t.syn fun x => { x with calAt := none, job := .none }) s
      (s.finishTune .timeout).startWaiting
    else s
  | none => s

/-- The retune's LO is ready: the TUNE completes with OK (R105). -/
def State.endRetune (s : State) : State :=
  match s.lo.tune with
  | some t =>
    if t.phase == .retuning && s.synState t.syn == synActive
        && (quadsOf (s.serves t.syn)).all (fun q => (s.lo.settleEnd.getD q none).isNone) then
      let s := (s.modLo fun x => { x with retuneQ := 0 }).refreshReady
      (s.finishTune .ok).startWaiting
    else s
  | none => s

/-- BAND_SETTLE_DONE (R56, R105): the band paths of a quadrant have settled. -/
def State.bandSettled (s : State) (q : Nat) : State :=
  match s.lo.settleEnd.getD q none with
  | some c =>
    let s := (s.advanceTo c).modLo fun x => { x with settleEnd := updAt x.settleEnd q fun _ => none }
    s.refreshReady.endRetune
  | none => s

/-- A locked synthesiser takes the QLOs of the quadrants it serves (those with an LO in force), after which LO_READY may rise. -/
def State.lockServed (s : State) (i : Nat) : State :=
  let s := forAll (quadsOf (s.serves i &&& s.lo.hasLo)) (fun q s =>
    doIf (!s.quadGated q) (fun s => (s.raiseBit R.LO_STATUS_QLO_LOCK q).setBand q (bandOf (s.loCode q))) s) s
  (s.setSyn i (s.serveState i)).refreshReady

/-- SYN_CAL_DONE (R91, R97, R98, R105, R113 to R117): a calibration locks and settles. -/
def State.synCalDone (s : State) (i : Nat) : State :=
  if s.synState i == synCal && (s.syn i).calAt.isSome then
    let j := (s.syn i).job
    let s := (s.modSyn i fun x => { x with fails := 0, calAt := none, job := .none }).presetSyn i
    match j with
    | .tune =>
      let s := (s.setSyn i synReady).modSyn i fun x => { x with job := .tune, calAt := some s.now }
      (match s.lo.tune with
      | some t => s.modLo fun x => { x with tune := some { t with phase := .boundary } }
      | none => s).showTune
    | .retune =>
      match s.lo.tune with
      | some t =>
        let qs := quadsOf t.qmask ++ (List.range 4).filter fun q => !s.split && s.tuned q && !t.qmask.testBit q
        let s := s.switchQuads qs i t.divs
        s.endRetune
      | none => s.lockServed i
    | .mirror => s.setSyn i (if s.flag R.LO_CTRL_STBY_MIRROR && s.synNF i == s.synNF (1 - i) then synMirror else synReady)
    | .recover =>
      let bad := 1 - i
      let (n, f) := s.synNF i
      let divs := (List.range 4).map fun q => s.get (R.QLO_CFG_DIV q)
      let s := s.switchQuads (quadsOf s.lo.hasLo) i divs
      (s.calibrate bad n f .mirror).startWaiting
    | .inPlace => (s.lockServed i).startWaiting
    | .drift => (s.setSyn i synReady).modLo fun x => { x with swapPend := true }
    | .regain => s.setSyn i (if (s.syn i).wasMirror then synMirror else synReady)
    | _ => s.lockServed i
  else s

/-- SYN_CAL_TIMEOUT (R97): a calibration that has not locked ends in FAILED, or OUT_OF_SERVICE on the second in a row; SYN_FAIL is
raised, the TUNE that called for it completes with HW_FAULT, and both synthesisers out of service is a class F fault. A recovery on
the standby that fails is judged by R114 again: a standby in FAILED is calibrated once more, and with one OUT_OF_SERVICE the
synthesiser that lost lock recovers in place (DEDUCED, assumption log entry 15). -/
def State.synCalTimeout (s : State) (i : Nat) : State :=
  match (s.syn i).calAt with
  | some c =>
    if s.synState i == synCal then
      let s := s.advanceTo (c + calCycles)
      let j := (s.syn i).job
      let n := (s.syn i).fails + 1
      let st := if 2 ≤ n then synOos else synFailed
      let s := (s.setSyn i st).modSyn i fun x => { x with fails := n, calAt := none, job := .none }
      let s := s.report { mkReport 0x08 .clsU 0x0011 i with sub := st }
      let s := s.event (.synFail i st)
      let s := doIf (s.synState 0 == synOos && s.synState 1 == synOos) (fun s => s.report (mkReport 0x08 .clsF 1 0)) s
      let s := match j with
        | .tune => s.finishTune .hwFault
        | .retune => (s.modLo fun x => { x with retuneQ := 0 }).finishTune .hwFault
        | .recover =>
          let (n, f) := s.synNF i
          if st = synFailed then s.calibrate i n f .recover
          else
            let (n, f) := s.synNF (1 - i)
            s.calibrate (1 - i) n f .inPlace
        | _ => s
      s.refreshReady.startWaiting
    else s
  | none => s

/-- Lock loss of a synthesiser (R113, R114). A standby that is CALIBRATING for a mirror or a drift swap is in none of the cases of
R114: the synthesiser that lost lock then recovers in place (DESIGN CHOICE, assumption log entry 15). While the standby is calibrated
to replace it, the synthesiser that lost lock reads CALIBRATING, with no calibration of its own running (DESIGN CHOICE, the same
entry). -/
def State.synUnlock (s : State) (i : Nat) : State :=
  let st := s.synState i
  let (n, f) := s.synNF i
  let s := s.count (if i = 0 then R.SYN_CNT_SYNA_UNLOCK else R.SYN_CNT_SYNB_UNLOCK)
  if st = synActive then
    let o := 1 - i
    let so := s.synState o
    let s := forAll (quadsOf (s.serves i)) (fun q s => s.clearBit R.LO_STATUS_QLO_LOCK q) s
    let s := s.modLo fun x => { x with swapPend := false }
    if !s.split && so = synMirror then
      let qs := quadsOf s.lo.hasLo
      let divs := (List.range 4).map fun q => s.get (R.QLO_CFG_DIV q)
      let s := s.setSyn i synOff
      let s := s.refreshReady
      let s := s.switchQuads qs o divs
      let s := (s.modLo fun x => { x with failHold := s.lo.hasLo }).refreshReady
      let s := (s.count R.SYN_CNT_FAILOVER).event (.loFailover o)
      s.calibrate i n f .mirror
    else
      let serving := match s.lo.tune with
        | some t => t.phase == .calibrating || t.phase == .boundary
        | none => false
      if !s.split && !serving && (so = synReady || so = synFailed || so = synOff) then
        let s := (s.setSyn i synCal).modSyn i fun x => { x with calAt := none, job := .waits }
        (s.calibrate o n f .recover).refreshReady
      else (s.calibrate i n f .inPlace).refreshReady
  else if st = synReady ∨ st = synMirror then
    let s := s.modSyn i fun x => { x with wasMirror := st == synMirror }
    let j := if (s.syn i).job == .tune then SynJob.tune else .regain
    s.calibrate i n f j
  else s

/-- LO_UNLOCK (R113): 0 SYNA, 1 SYNB, 2 to 5 QLO0 to QLO3. A class U fault, reported and raised. The lock loss of a QLO alone is
counted in neither SYNA_UNLOCK nor SYNB_UNLOCK, which count the synthesisers' (DESIGN CHOICE, assumption log entry 15). -/
def State.loUnlock (s : State) (id : Nat) : State :=
  let s := (s.report (mkReport 0x08 .clsU 0x0010 id)).event (.loUnlock id)
  if id < 2 then s.synUnlock id
  else
    let q := id - 2
    ((s.clearBit R.LO_STATUS_QLO_LOCK q).modLo fun x => { x with relockQ := setBit x.relockQ q true }).refreshReady

/-- LO_DRIFT (R115): the tuning voltage of the active synthesiser leaves its safe window; with AUTO_SWAP in PINGPONG the standby is
calibrated at the same f_VCO for a swap, in place of a mirror's calibration if one runs. -/
def State.loDrift (s : State) (i : Nat) : State :=
  if s.synState i == synActive then
    let s := ((s.modSyn i fun x => { x with drift := true }).showDrift).event (.loDrift i)
    if !s.split && s.flag R.LO_CTRL_AUTO_SWAP && s.lo.tune.isNone && (s.syn s.standby).job != .drift && !s.lo.swapPend then
      let (n, f) := s.synNF i
      s.calibrate s.standby n f .drift
    else s
  else s

/-- Calibrate every synthesiser with a target to the targets in force (R116, R117): on return from HUSH and on alignment. -/
def State.relight (s : State) : State :=
  forAll (List.range 2) (fun i s =>
    let (n, f) := s.synNF i
    doIf (n ≠ 0 && s.synState i == synOff) (fun s => s.calibrate i n f .relight) s) s

/-- The radio is gated (R108, R116): both synthesisers OFF, every QLO unlocked. A TUNE keeps its targets and completes with OK when
`keep` (HUSH), or is aborted and its targets discarded (FALLOW). -/
def State.loDown (s : State) (keep : Bool) : State :=
  let st := if keep then Status.ok else .aborted
  let close (s : State) (t : Option Tune) : State :=
    match t with
    | some t => (doIf keep (fun s => s.takeTargets t) s).endTune t st
    | none => s
  let t1 := s.lo.tune
  let t2 := s.lo.waiting
  let s := s.modLo fun x => { x with tune := none, waiting := none, retuneQ := 0, swapPend := false, swapAt := none,
                                     settleEnd := [none, none, none, none], failHold := 0 }
  let s := match t1 with
    | some t => doIf (!keep && t.phase == .retuning) (fun s => s.setNF t.syn t.wasN t.wasF) s
    | none => s
  let s := close (close s t1) t2
  let s := (s.offSyn 0).offSyn 1
  (s.put R.LO_STATUS_QLO_LOCK 0).refreshReady.showTune

/-- QUADRANT_RELOCK (R116, R125, R128): an ungated quadrant locks its QLO and its converter PLL; its NCO words are recomputed. -/
def State.quadRelock (s : State) (q : Nat) : State :=
  if s.radioPowered && !s.quadGated q then
    let s := s.modLo fun x => { x with relockQ := setBit x.relockQ q false }
    let s := s.raiseBit R.DFE_STATUS_CONV_LOCK q
    let s := doIf (s.synState (s.src q) == synActive && s.tuned q) (fun s =>
      (s.raiseBit R.LO_STATUS_QLO_LOCK q).setBand q (bandOf (s.loCode q))) s
    (s.setNcoQuad q).refreshReady
  else s

/-- A symbol boundary on quadrants ends the failover hold of R114. -/
def State.endFailHold (s : State) (qs : List Nat) : State :=
  if qs.any fun q => s.lo.failHold.testBit q then
    (s.modLo fun x => { x with failHold := qs.foldl (fun m q => setBit m q false) x.failHold }).refreshReady
  else s

/-- A downlink symbol of a slot begins on a quadrant without LO_READY (R111). -/
def State.txLate (s : State) (q : Nat) (frame : Nat) : State :=
  let s := s.count (R.LO_CNT_TX_LO_LATE q)
  if s.lo.txLateFrame.getD q none = some (frame : Int) then s
  else (s.modLo fun x => { x with txLateFrame := updAt x.txLateFrame q fun _ => some (frame : Int) }).event
    (.txLoLate q (frame % 1024) (s.get (R.LO_CNT_TX_LO_LATE q)))

/-- An uplink symbol of a slot was affected by LO_READY 0 on a quadrant (R112). -/
def State.rxInvalid (s : State) (q : Nat) (frame : Nat) : State :=
  let s := s.count (R.LO_CNT_RX_LO_INVALID q)
  if s.lo.rxInvFrame.getD q none = some (frame : Int) then s
  else (s.modLo fun x => { x with rxInvFrame := updAt x.rxInvFrame q fun _ => some (frame : Int) }).event
    (.rxLoInvalid q (frame % 1024) (s.get (R.LO_CNT_RX_LO_INVALID q)))

/-! ### Phase trim (R93) -/

/-- The working trim moves toward the shadow by at most `slew` codes along the shorter arc of 3,600, in the positive direction when
the arcs are equal; `slew` = 0 moves the full distance. -/
def trimStep (cur tgt slew : Nat) : Nat :=
  let up := (tgt + 3600 - cur) % 3600
  let dn := (cur + 3600 - tgt) % 3600
  if slew = 0 then tgt
  else if up ≤ dn then (cur + min up slew) % 3600 else (cur + 3600 - min dn slew) % 3600

/-- An apply instant of a quadrant's trim. -/
def State.applyTrim (q : Nat) (s : State) : State :=
  let t := s.get (R.QLO_CFG_TRIM q)
  let w := trimStep (s.get (R.QLO_PHASE_TRIM_NOW q)) t (s.get (R.QLO_CFG_TRIM_SLEW q))
  (s.put (R.QLO_PHASE_TRIM_NOW q) w).put (R.QLO_PHASE_SLEWING q) (b2n (w ≠ t))

/-! ### Array epoch (R89) and mode (R94, R587) -/

/-- A write of LO_CTRL.ARR_ARM = 1 (R89). -/
def State.arrArm (s : State) : Wr :=
  if s.carriersActive then refuse R.LO_STATUS_WR_REFUSED s else .ok (s.raise R.LO_CTRL_ARR_ARM)

/-- The array epoch is fixed on the alignment edge; device time goes on from the value it has there (R89, R317), and the patrol schedule is
counted from the new epoch (R477; DESIGN CHOICE, assumption log entry 18). -/
def State.fixEpoch (s : State) : State :=
  let c := s.alignEdge
  { s with tm := { s.tm with epoch := c, base := (s.timeAt c).toNat, baseAt := c, slew := none }, memx := { s.memx with due := [] } }

/-- Synthesisers that are locked or calibrating when the epoch moves calibrate again, each for the purpose it had: no LO is used
without a phase referred to the array epoch in force (R117). That ALIGNED read 1 before is DEDUCED to make no difference (assumption
log entry 15). -/
def State.realign (s : State) : State :=
  let s := forAll (List.range 2) (fun i s =>
    let st := s.synState i
    let (n, f) := s.synNF i
    let j := (s.syn i).job
    if st == synCal && (s.syn i).calAt.isSome then s.calibrate i n f j
    else if st == synActive || st == synMirror || (st == synReady && j != .tune) then
      forAll (quadsOf (s.serves i)) (fun q s => s.clearBit R.LO_STATUS_QLO_LOCK q) (s.calibrate i n f .relight)
    else if st == synReady then s.calibrate i n f .tune
    else s) s
  s.refreshReady.showTune

/-- ARRSYNC_EDGE in the LO block (R89, R117): armed, it fixes the epoch, sets ALIGNED and clears ARR_ARM, and in ACTIVE or TRIM the
synthesisers calibrate to the targets in force; unarmed, it is counted. -/
def State.loArrsync (s : State) : State :=
  if s.flag R.LO_CTRL_ARR_ARM then
    let s := ((s.fixEpoch).put R.LO_CTRL_ARR_ARM 0).raise R.LO_STATUS_ALIGNED
    let s := (s.completeJob s.lo.armJob .ok []).modLo fun x => { x with armJob := none }
    doIf s.radioOn (fun s => s.realign.relight) s
  else s.count R.SYN_CNT_ARR_IGNORED

/-- A write of LO_CTRL.MODE (R94, R587). -/
def State.loMode (s : State) (split : Bool) : Wr :=
  if split == s.split then .ok s
  else if s.carriersActive then refuse R.LO_STATUS_WR_REFUSED s
  else if split then .ok (s.put R.LO_CTRL_MODE 1)
  else if s.serves 0 = 15 ∨ s.serves 1 = 15 then .ok (s.put R.LO_CTRL_MODE 0)
  else refuse R.LO_STATUS_WR_REFUSED s

/-- In SPLIT a quadrant is assigned to a synthesiser (R94, R587): its band path follows the LO it then has (R55), none if that
synthesiser has no target in range. Each synthesiser that is locked is then ACTIVE if it serves a quadrant with an LO in force, and
READY otherwise. A band change opens 492 cycles of settling, as a TUNE's does (R56; DEDUCED, assumption log entry 15). -/
def State.assignSrc (s : State) (q i : Nat) : State :=
  let s := s.put (R.QLO_CFG_SRC q) i
  let has := inRange (s.loCode q)
  let b := if has then bandOf (s.loCode q) else 3
  let moved := s.get (R.CH_STATUS_BAND (16 * q)) ≠ b
  let s := (s.setBand q b).modLo fun x => { x with hasLo := setBit x.hasLo q has }
  let s := doIf (moved && has) (fun s => s.modLo fun x => { x with settleEnd := updAt x.settleEnd q fun _ => some (s.now + 492) }) s
  let s := doIf (s.synState i != synActive) (fun s => s.clearBit R.LO_STATUS_QLO_LOCK q) s
  let s := forAll (List.range 2) (fun k s =>
    doIf (s.synState k == synActive || s.synState k == synReady || s.synState k == synMirror)
      (fun s => s.setSyn k (s.serveState k)) s) s
  let s := doIf (s.synState i == synActive && s.tuned q && !s.quadGated q) (fun s => s.raiseBit R.LO_STATUS_QLO_LOCK q) s
  (s.setNcoQuad q).refreshReady

/-- A write of QLO_CFG (R93, R94): TRIM below 3,600; SRC only in SPLIT with no slot active. -/
def State.qloCfgWrite (s : State) (q : Nat) (v : Word) : Wr :=
  let src := (R.QLO_CFG_SRC q).of v
  let trim := (R.QLO_CFG_TRIM q).of v
  if 3600 ≤ trim then refuse R.LO_STATUS_WR_REFUSED s
  else if src ≠ s.src q && (!s.split || s.carriersActive) then refuse R.LO_STATUS_WR_REFUSED s
  else
    let s := (s.put (R.QLO_CFG_TRIM q) trim).put (R.QLO_CFG_TRIM_SLEW q) ((R.QLO_CFG_TRIM_SLEW q).of v)
    let s := s.put (R.QLO_PHASE_SLEWING q) (b2n (s.get (R.QLO_PHASE_TRIM_NOW q) ≠ trim))
    let s := doIf (src ≠ s.src q) (fun s => s.assignSrc q src) s
    .ok (doIf ((s.activeOn .dl q).isEmpty && (s.activeOn .ul q).isEmpty) (State.applyTrim q) s)

/-- A write of LO_CTRL: refused as a whole if any of its fields is (R584). -/
def State.loCtrlWrite (s : State) (v : Word) : Wr :=
  match s.loMode (R.LO_CTRL_MODE.of v = 1) with
  | .error e => .error e
  | .ok t =>
    if R.LO_CTRL_ARR_ARM.of v = 1 && s.carriersActive then refuse R.LO_STATUS_WR_REFUSED s
    else
      let t := doIf (R.LO_CTRL_ARR_ARM.of v = 1) (fun t => t.raise R.LO_CTRL_ARR_ARM) t
      .ok ((t.put R.LO_CTRL_AUTO_SWAP (R.LO_CTRL_AUTO_SWAP.of v)).put R.LO_CTRL_STBY_MIRROR (R.LO_CTRL_STBY_MIRROR.of v))

/-- A write of an LO-block register. -/
def writeLO (r : RegRow) (ix : List Nat) (a : Nat) (v : Word) (s : State) : Wr :=
  let q := ix.getD 0 0
  match r.id with
  | .LO_CTRL => s.loCtrlWrite v
  | .QLO_CFG => s.qloCfgWrite q v
  | .TUNE_CMD => if v.toNat.testBit 0 then .ok (s.tuneGo (s.stagedTune none) true).1 else .ok s
  | .LO_CNT_CLR =>
    if v.toNat.testBit 0 then
      .ok (forAll (List.range 4) (fun q s => s.setReg (R.LO_CNT q) 0) (s.setReg R.SYN_CNT 0))
    else .ok s
  | _ => .ok (s.plainWrite r a v)

/-! ### Meanings -/

/-- ARR_ARM_WRITE (R89). -/
def execArrArmWrite (s : State) : Host.Outcome State Fault Refusal := .next s.arrArm.state

/-- LO_MODE_WRITE (R94, R587). -/
def execLoModeWrite (split : Bool) (s : State) : Host.Outcome State Fault Refusal := .next (s.loMode split).state

/-- TUNE_GO (R99): a write of TUNE_CMD.GO by firmware. -/
def execTuneGo (s : State) : Host.Outcome State Fault Refusal := .next (s.tuneGo (s.stagedTune none) true).1

/-- SWITCH_OVER_TRANSIENT_END (R103). -/
def execSwitchOverTransientEnd (s : State) : Host.Outcome State Fault Refusal := .next s.transientEnd

/-- QUIET_WINDOW_RETUNE (R105). -/
def execQuietWindowRetune (s : State) : Host.Outcome State Fault Refusal := .next s.windowRetune

/-- BAND_SETTLE_DONE (R56). -/
def execBandSettleDone (q : Nat) (s : State) : Host.Outcome State Fault Refusal := .next (s.bandSettled q)

/-- TUNE_WAIT_TIMEOUT (R106). -/
def execTuneWaitTimeout (s : State) : Host.Outcome State Fault Refusal := .next s.tuneTimeout

/-- LO_UNLOCK (R113). -/
def execLoUnlock (id : Nat) (s : State) : Host.Outcome State Fault Refusal := .next (s.loUnlock id)

/-- LO_DRIFT (R115). -/
def execLoDrift (syn : Nat) (s : State) : Host.Outcome State Fault Refusal := .next (s.loDrift syn)

/-- MIRROR_RECALIBRATION (R98). -/
def execMirrorRecalibration (s : State) : Host.Outcome State Fault Refusal := .next s.mirrorRecal

end Sys2Proof.Machine
end

