-- ==== Sys2Proof/Machine/MemoryEcc.lean ====
section
/-! DEFINITION. The memories: storage words, the check on a read, write-backs, the patrol, bank retirement (chapter 17). -/

namespace Sys2Proof.Machine

/-- Update the memories' own state. -/
def State.modMem (s : State) (f : MemX → MemX) : State := { s with memx := f s.memx }

/-! ### Memories and banks (R470, R483) -/

/-- Base and size of a memory: 0 SMEM, 1 BMEM, 2 MMEM, 3 DLM, 4 CSTORE (R470). -/
def memRange (m : Nat) : Nat × Nat :=
  match m with
  | 0 => (0, 0x1800000)
  | 1 => (0x2000000, 0x800000)
  | 2 => (0x3000000, 0x400000)
  | 3 => (0x4000000, 0x200000)
  | _ => (0x5000000, 0x200000)

/-- The memory that holds an address (R470). -/
def memOf (a : Nat) : Option Nat :=
  (List.range 5).find? fun m => (memRange m).1 ≤ a ∧ a < (memRange m).1 + (memRange m).2

/-- Whether `n` bytes from an address lie inside one memory. -/
def inMemory (a n : Nat) : Bool :=
  match memOf a with
  | some m => a + n ≤ (memRange m).1 + (memRange m).2
  | none => false

/-- ECC banks of a memory (R470). -/
def banksOf (m : Nat) : Nat :=
  match m with
  | 0 => 64
  | 1 => 16
  | 2 => 8
  | 3 => 24
  | _ => 4

/-- The ECC bank of an address of a memory; a DLM core's banks are X, Y and C (R470, R483). -/
def bankOf (m a : Nat) : Nat :=
  let o := a - (memRange m).1
  match m with
  | 0 => o / 0x60000
  | 3 =>
    let r := o % 0x40000
    3 * (o / 0x40000) + (if r < 0x18000 then 0 else if r < 0x30000 then 1 else 2)
  | _ => o / 0x80000

/-- First byte and size of an ECC bank (R470). -/
def bankRange (m b : Nat) : Nat × Nat :=
  let base := (memRange m).1
  match m with
  | 0 => (base + b * 0x60000, 0x60000)
  | 3 => (base + b / 3 * 0x40000 + b % 3 * 0x18000, if b % 3 = 2 then 0x10000 else 0x18000)
  | _ => (base + b * 0x80000, 0x80000)

/-- The key of an ECC bank in the per-bank lists. -/
def bankKey (m b : Nat) : Nat := 100 * m + b

/-- Base and size of retention bank `b` of a memory; a DLM core is one retention bank (R470). -/
def retRange (m b : Nat) : Nat × Nat := if m = 3 then ((memRange 3).1 + b * 0x40000, 0x40000) else bankRange m b

/-- The physical SMEM bank that serves a bank: itself, or 64 + k on spare k (R479). -/
def State.physBank (s : State) (b : Nat) : Nat :=
  match (List.range 2).find? fun k => s.flag (R.MEM_SPARE_USED k) && s.get (R.MEM_SPARE_BANK k) == b with
  | some k => 64 + k
  | none => b

/-! ### Words (R471 to R473) -/

/-- V of a word. -/
def State.valid (s : State) (w : Nat) : Bool := (look s.memx.words w).isSome

/-- P of a word (0 where V = 0, R473). -/
def State.poisoned (s : State) (w : Nat) : Bool := (look s.memx.words w).getD false

/-- Set V = 1 and P of a word. -/
def State.setWord (s : State) (w : Nat) (p : Bool) : State := s.modMem fun x => { x with words := insertKey x.words w p }

/-- The list at a bank's key. -/
def atKey (l : List (Nat × List Nat)) (k : Nat) : List Nat := (look l k).getD []

/-- The number at a bank's key. -/
def numAt (l : List (Nat × Nat)) (k : Nat) : Nat := (look l k).getD 0

/-- A write-back pending for a word is cancelled (R475, R484). -/
def State.cancelWb (s : State) (w : Nat) : State :=
  match memOf (16 * w) with
  | some m =>
    let k := bankKey m (bankOf m (16 * w))
    if (atKey s.memx.wb k).contains w then
      s.modMem fun x => { x with wb := insertKey x.wb k ((atKey x.wb k).filter (· ≠ w)) }
    else s
  | none => s

/-- The word a write touched (R472): a whole write clears P; a partial one keeps it. -/
def State.markWord (full : Bool) (w : Nat) (s : State) : State :=
  let s := s.cancelWb w
  let was := s.poisoned w
  let s := doIf (full && was) (fun s => s.modMem fun x => { x with cleared := w :: x.cleared.filter (· ≠ w) }) s
  s.setWord w (!full && was)

/-- Bytes are written to memory (R472). -/
def State.storeMem (s : State) (a : Nat) (l : List Byte) : State :=
  if l = [] then s
  else
    let first := a / 16
    let last := (a + l.length - 1) / 16
    let s := s.store a l
    forAll ((List.range (last + 1 - first)).map (first + ·))
      (fun w s => s.markWord (a ≤ 16 * w && 16 * w + 16 ≤ a + l.length) w) s

/-- A word is written whole with P = 1 (R482). -/
def State.poisonWord (s : State) (w : Nat) : State := (s.cancelWb w).setWord w true

/-- Memory reads zero over a range: V is cleared there (R473). -/
def State.clearMem (s : State) (a n : Nat) : State :=
  let inside (x : Nat) : Bool := a ≤ x && x < a + n
  { s with
    mem := s.mem.filter fun c => !inside c.1
    memx := { s.memx with
      words := s.memx.words.filter fun c => !inside (16 * c.1)
      wb := s.memx.wb.map fun (k, l) => (k, l.filter fun w => !inside (16 * w)) } }

/-! ### Retirement (R479 to R481, R484) -/

/-- The status of a retirement asked for (R479, R484). -/
def State.retireCheck (s : State) (b : Nat) : Option Nat :=
  if s.memx.retire.isSome || 63 < b then none
  else (List.range 2).find? fun k => !s.memx.spent.testBit k && !s.flag (R.MEM_SPARE_USED k)

/-- A retirement starts on the next alignment edge, or is refused with STATE_CONFLICT (R479, R484). -/
def State.retireGo (s : State) (b : Nat) (cmd : Option Cmd) : State × Status :=
  match s.retireCheck b with
  | none => (s.put R.MEM_RETIRE_RESULT (statusCode .stateConflict), .stateConflict)
  | some k =>
    let s := (s.put (R.MEM_SPARE_COPYING k) 1).put (R.MEM_SPARE_BANK k) b
    let s := s.modMem fun x => { x with retire := some { bank := b, spare := k, start := s.alignEdge, next := 0, cmd := cmd } }
    (s.put R.MEM_RETIRE_RESULT (statusCode .accepted), .accepted)

/-- Firmware retires a bank on its own authority and records it (R481); what a running copy refuses now waits in the record. -/
def State.autoRetire (s : State) (b : Nat) : State :=
  if s.memx.retired.contains b then s
  else
    let (t, st) := s.retireGo b none
    (if st = .accepted then t else s).modMem fun x => { x with retired := x.retired ++ [b] }

/-- The firmware retires again a bank of its record that no spare serves (R481, R484): at boot, after a wake, and when a copy ends. -/
def State.retireRecorded (s : State) : State :=
  match s.memx.retired.find? fun b => s.physBank b = b with
  | some b => if (s.retireCheck b).isSome then (s.retireGo b none).1 else s
  | none => s

/-- RETIRE_COPY_DONE (R479): the spare serves the bank's addresses. A spare it leaves serves nothing any more (R480). -/
def State.retireDone (s : State) : State :=
  match s.memx.retire with
  | some r =>
    let s := s.advanceTo (r.start + 98306)
    let s := forAll (List.range 2) (fun k s =>
      doIf (k ≠ r.spare && s.flag (R.MEM_SPARE_USED k) && s.get (R.MEM_SPARE_BANK k) == r.bank)
        (fun s => s.put (R.MEM_SPARE_USED k) 0) s) s
    let s := (s.put (R.MEM_SPARE_USED r.spare) 1).put (R.MEM_SPARE_COPYING r.spare) 0
    let s := s.modMem fun x => { x with retire := none, spent := setBit x.spent r.spare true }
    let s := (s.put R.MEM_RETIRE_RESULT (statusCode .ok)).event (.bankRetired r.bank r.spare)
    (s.completeJob r.cmd .ok []).retireRecorded
  | none => s

/-- Entering FALLOW stops a copy and frees its spare; BANK_RETIRE completes with ABORTED, and the firmware keeps the bank in its record to retire
it after wake (R484). -/
def State.retireAbort (s : State) : State :=
  match s.memx.retire with
  | some r =>
    let s := (s.setReg (R.MEM_SPARE r.spare) 0).modMem fun x => { x with
      retire := none, retired := if x.retired.contains r.bank then x.retired else x.retired ++ [r.bank] }
    (s.put R.MEM_RETIRE_RESULT (statusCode .aborted)).completeJob r.cmd .aborted []
  | none => s

/-! ### The check on a read (R474, R481) -/

/-- The corrected errors counted on a bank: the spare's count where a spare serves it (R479). -/
def State.countCe (s : State) (m b : Nat) : State :=
  match m with
  | 0 => s.count (R.MEM_CE_S_COUNT (s.physBank b))
  | 1 => s.count (R.MEM_CE_B_COUNT b)
  | _ => s

/-- A single-bit error enters the log of R481; the eighth distinct word of an SMEM bank within an hour retires it. -/
def State.logCe (s : State) (m b w : Nat) : State :=
  let sec := timeSec s.time
  let s := s.modMem fun x => { x with
    ceLog := (x.ceLog.filter fun e => e.word ≠ w && sec < e.sec + 3600) ++ [{ word := w, sec := sec }] }
  let n := (s.memx.ceLog.filter fun e => memOf (16 * e.word) == some m && bankOf m (16 * e.word) == b).length
  doIf (m == 0 && 8 ≤ n) (fun s => s.autoRetire b) s

/-- The corrected word is queued for write-back (R475): 16 per SMEM and BMEM bank. -/
def State.queueWb (s : State) (m b w : Nat) : State :=
  if m ≤ 1 then
    let k := bankKey m b
    let q := atKey s.memx.wb k
    if q.contains w then s
    else if q.length < 16 then s.modMem fun x => { x with wb := insertKey x.wb k (q ++ [w]) }
    else s.count R.MEM_WB_WB_DROP
  else s

/-- A memory's report (R483, R586): finder 0 demand read, 1 patrol, 2 partial write, 3 retirement copy. -/
def memReport (m : Nat) (cls : FClass) (code w synd finder mid : Nat) : Report :=
  { unit := 0x20 + m, cls := cls, code := code, addr := 16 * w, info := synd, sub := finder, mid := mid }

/-- A read of a word is checked (R473, R474): the state it leaves, and whether the data delivered is marked poisoned. -/
def State.readCheck (s : State) (w : Nat) (f : EccFinding) (finder mid : Nat) : State × Bool :=
  match look s.memx.words w, memOf (16 * w) with
  | some p, some m =>
    let b := bankOf m (16 * w)
    if p then (s, true)
    else
      match f with
      | .clean => (s, false)
      | .single y =>
        let s := (s.countCe m b).queueWb m b w
        let s := s.modMem fun x => { x with ceSec := insertKey x.ceSec (bankKey m b) (numAt x.ceSec (bankKey m b) + 1) }
        ((s.report (memReport m .clsC 0x0010 w y finder mid)).logCe m b w, false)
      | .double y =>
        let s := ((s.cancelWb w).setWord w true).count (R.MEM_UE_COUNT m)
        let s := (s.report (memReport m .clsD 0x0011 w y finder mid)).event (.memUe m (16 * w))
        let again := s.memx.cleared.contains w
        let s := s.modMem fun x => { x with cleared := x.cleared.filter (· ≠ w) }
        (doIf (again && m == 0) (fun s => s.autoRetire b) s, true)
  | _, _ => (s, false)

/-- MEM_CE is raised at most once per bank and second, with that second's count (R474): when the second has passed. -/
def State.publishCe (s : State) : State :=
  let sec := timeSec s.time
  if sec = s.memx.lastSec then s
  else
    let l := s.memx.ceSec
    let s := s.modMem fun x => { x with ceSec := [], lastSec := sec }
    forAll l (fun (k, n) s =>
      let b := if k < 100 then s.physBank k else k % 100
      doIf (0 < n) (fun s => s.event (.memCe (k / 100) b (min n 65535))) s) s

/-! ### Patrol and maintenance (R476, R477) -/

/-- Cycles between the patrol reads of an SMEM or BMEM bank (R477). -/
def patrolEvery (m : Nat) : Nat := if m = 0 then 40000 else 15000

/-- The next word with V = 1 of a bank from word `w` on (R477). -/
def State.nextValid (s : State) (m b w : Nat) : Option Nat :=
  let (base, size) := bankRange m b
  (s.memx.words.find? fun c => max w (base / 16) ≤ c.1 && c.1 < (base + size) / 16).map Prod.fst

/-- The patrol of a bank wraps; when every bank of the memory has wrapped a pass is complete. -/
def State.patrolWrap (s : State) (m b : Nat) : State :=
  let s := s.modMem fun x => { x with
    patrol := insertKey x.patrol (bankKey m b) 0
    wrapped := if x.wrapped.contains (bankKey m b) then x.wrapped else x.wrapped ++ [bankKey m b] }
  if (List.range (banksOf m)).all (fun i => s.memx.wrapped.contains (bankKey m i)) then
    (s.count (R.MEM_PASS_PASSES m)).modMem fun x => { x with wrapped := x.wrapped.filter fun k => k / 100 ≠ m }
  else s

/-- PATROL_READ (R477): the next valid word of a bank is read and treated under R474; not in FALLOW. The master that reads is
none (MID 0xFF). -/
def State.patrolRead (s : State) (m b : Nat) (f : EccFinding) : State :=
  if s.get R.PWR_STATUS_STATE_NOW = 3 then s
  else
    let k := bankKey m b
    let s := s.modMem fun x => { x with due := insertKey x.due k (numAt x.due k + patrolEvery m) }
    let (s, w?) := match s.nextValid m b (numAt s.memx.patrol k) with
      | some w => (s, some w)
      | none =>
        let s := s.patrolWrap m b
        (s, s.nextValid m b 0)
    match w? with
    | some w =>
      let s := s.modMem fun x => { x with patrol := insertKey x.patrol k (w + 1) }
      (s.readCheck w f 1 0xFF).1
    | none => s

/-- The first maintenance cycle at or after now: counts 3 mod 4 from the epoch (R476). -/
def State.maintCycle (s : State) : Nat :=
  let r := (s.now - s.tm.epoch) % 4
  s.now + (3 - r)

/-- A word of the retirement copy is written to the spare; the copy raises no report (R479). -/
def State.copyWord (s : State) : State :=
  s.modMem fun x => { x with retire := x.retire.map fun r => { r with next := min (r.next + 1) 24576 } }

/-- MAINTENANCE_CYCLE (R476): the first waiting request of an SMEM or BMEM bank is served: a copy, a write-back, a patrol read more
than 4,096 cycles late, a fabric access (`fabric`; its effect is its own command's), a patrol read on schedule. -/
def State.maintenance (s : State) (m b : Nat) (fabric : Bool) (f : EccFinding) : State :=
  let s := s.advanceTo s.maintCycle
  let k := bankKey m b
  let copying := match s.memx.retire with
    | some r => m == 0 && r.bank == b && r.next < 24576 && r.start ≤ s.now
    | none => false
  let due := s.tm.epoch + numAt s.memx.due k
  if copying then s.copyWord
  else if !(atKey s.memx.wb k).isEmpty then s.modMem fun x => { x with wb := insertKey x.wb k ((atKey x.wb k).drop 1) }
  else if due + 4096 < s.now then s.patrolRead m b f
  else if fabric then s
  else if due ≤ s.now then s.patrolRead m b f
  else s

/-! ### Partial writes (R472, R483) -/

/-- The words that a write of `n` bytes touches in part. -/
def partialWords (a n : Nat) : List Nat :=
  ((List.range ((a + n + 15) / 16 - a / 16)).map (a / 16 + ·)).filter fun w => decide (16 * w < a) || decide (a + n < 16 * w + 16)

/-- What the merges of a write find in the words it touches in part (R472): a finder 2 report, and a word that turns out to be uncorrectable
is poisoned before the merge. -/
def State.mergeCheck (s : State) (mid a n : Nat) (ecc : List (Nat × EccFinding)) : State :=
  forAll (partialWords a n) (fun w s => match look ecc w with
    | some f => (s.readCheck w f 2 mid).1
    | none => s) s

/-- A master writes bytes to memory (R472). -/
def State.mergeStore (s : State) (mid a : Nat) (l : List Byte) (ecc : List (Nat × EccFinding)) : State :=
  (s.mergeCheck mid a l.length ecc).storeMem a l

/-! ### Reads by consumers -/

/-- The bytes of a word as stored. -/
def State.wordBytes (s : State) (w : Nat) : List Byte := s.bytes (16 * w) 16

/-- `n` bytes of memory with every byte of a poisoned word read as zero, and how many of the words are poisoned (R482). -/
def State.readClean (s : State) (a n : Nat) : List Byte × Nat :=
  let l := (List.range n).map fun i => if s.poisoned ((a + i) / 16) then (0 : Byte) else s.byte (a + i)
  let ws := (List.range ((a + n + 15) / 16 - a / 16)).map (a / 16 + ·)
  (l, (ws.filter s.poisoned).length)

/-- Whether any word of a range is poisoned. -/
def State.anyPoison (s : State) (a n : Nat) : Bool :=
  ((List.range ((a + n + 15) / 16 - a / 16)).map (a / 16 + ·)).any s.poisoned

/-! ### Meanings -/

/-- MEM_RETIRE_GO (R479). -/
def execMemRetireGo (bank : Nat) (s : State) : Host.Outcome State Fault Refusal :=
  .next ((doIf (s.retireCheck bank).isSome (fun s => s.put R.MEM_RETIRE_BANK bank) s).retireGo bank none).1

/-- RETIRE_COPY_DONE (R479). -/
def execRetireCopyDone (s : State) : Host.Outcome State Fault Refusal := .next s.retireDone

/-- MAINTENANCE_CYCLE (R476). -/
def execMaintenanceCycle (m bank : Nat) (fabric : Bool) (f : EccFinding) (s : State) : Host.Outcome State Fault Refusal :=
  .next (s.maintenance m bank fabric f)

/-- PATROL_READ (R477). -/
def execPatrolRead (m bank : Nat) (f : EccFinding) (s : State) : Host.Outcome State Fault Refusal := .next (s.patrolRead m bank f)

end Sys2Proof.Machine
end

