-- ==== Sys2Proof/Machine/Dfe.lean ====
section
/-! DEFINITION. The digital front end: gains, crest-factor reduction, observation, capture and playback (chapter 4). -/

namespace Sys2Proof.Machine

/-- Update the digital front end's own state. -/
def State.modDfe (s : State) (f : DfeX → DfeX) : State := { s with dfe := f s.dfe }

/-! ### Sample stages (R127, R130, R131, R134, R135) -/

/-- A component scaled by a carrier's downlink gain, unsigned Q2.14, from Q1.17 to Q3.15, rounded convergently (R130, R121). -/
def txGain (g : Nat) (x : Int) : Int := satS 18 (roundShift (x * g) 16)

/-- A component scaled by the uplink digital gain MANT · 2^EXP, MANT two's complement Q2.14, from Q1.17 to Q1.15, saturated; and whether it
saturated (R131, R13). -/
def rxDigitalGain (mant : Int) (exp : Nat) (x : Int) : Int × Bool :=
  let y := roundShift (x * mant * 2 ^ exp) 16
  (satS 16 y, satS 16 y ≠ y)

/-- The integer part of a square root. -/
def rootFloor (n : Nat) : Nat := rootBits n (Nat.log2 n / 2 + 1) 0

/-- The integer nearest to a square root (no ties exist). -/
def rootNear (n : Nat) : Nat :=
  let r := rootFloor n
  if r < n - r * r then r + 1 else r

/-- The squared magnitude of a sample. -/
def mag2 (p : Int × Int) : Nat := (p.1 * p.1 + p.2 * p.2).toNat

/-- The magnitude of a sample in Q2.15 (R134). -/
def magnitude (p : Int × Int) : Nat := rootNear (mag2 p)

/-- A component of a sample of squared magnitude `m` when the sample is scaled to magnitude `r` with its phase kept: v · r / √m, rounded once,
convergently. -/
def scaleTo (r m : Nat) (v : Int) : Int :=
  let n := 4 * v.natAbs * v.natAbs * r * r
  let t := rootFloor (n / m)
  let k : Int := if t % 2 = 1 ∧ t * t * m = n then (if (t / 2) % 2 = 0 then t / 2 else t / 2 + 1 : Nat) else ((t + 1) / 2 : Nat)
  if v < 0 then -k else k

/-- The settings of crest-factor reduction in force at a sample, if any were noted: those of its cycle (R136). -/
def cfrAt (l : List CfrSet) (c : Nat) : Option CfrSet := (l.filter fun x => x.from0 ≤ c).getLast?

/-- The threshold of a stage at a sample, if the stage is enabled there (R133, R134). -/
def CfrSet.stageThr (x : CfrSet) (k : Nat) : Option Nat := if x.en ∧ k ≤ x.stages then some (x.thr.getD k 0) else none

/-- The peaks of a stage input (R134): places whose magnitude passes the threshold, exceeds the one before and is not below the one after. The
input starts at sample `p0`, three to a cycle. -/
def peaks (st : Nat → Option CfrSet) (k p0 : Nat) (a : List Nat) : List Nat :=
  (List.range a.length).filter fun n =>
    let x := a.getD n 0
    match (st ((p0 + n) / 3)).bind fun c => c.stageThr k with
    | some thr => thr < x && (n = 0 || a.getD (n - 1) 0 < x) && a.getD (n + 1) 0 ≤ x
    | none => false

/-- Of the peaks, the first PK_MAX of each block of 48 samples aligned to the array epoch, and the others (R134). -/
def keptPeaks (st : Nat → Option CfrSet) (p0 : Nat) (l : List Nat) : List Nat × List Nat :=
  let r := l.foldl (fun (acc : List Nat × List Nat × Nat × Nat) n =>
    let (out, missed, blk, k) := acc
    let b := (p0 + n) / 48
    let k := if b = blk then k else 0
    let m := match st ((p0 + n) / 3) with
      | some c => c.pkMax
      | none => 0
    if k < m then (out ++ [n], missed, b, k + 1) else (out, missed ++ [n], b, k)) ([], [], 0, 0)
  (r.1, r.2.1)

/-- One stage of peak cancellation (R134) on a stretch of a chain's stream that starts at sample `p0` from the epoch: the output, the peaks kept
and the peaks missed. -/
def cfrStage (st : Nat → Option CfrSet) (k p0 : Nat) (x : List (Int × Int)) : List (Int × Int) × List Nat × List Nat :=
  let a := x.map magnitude
  let (kept, missed) := keptPeaks st p0 (peaks st k p0 a)
  let cs := kept.filterMap fun n =>
    (st ((p0 + n) / 3)).map fun c =>
      let m := a.getD n 0
      let v := x.getD n (0, 0)
      let thr := c.thr.getD k 0
      (n, satS 18 (roundDiv (v.1 * ((m : Int) - thr)) m), satS 18 (roundDiv (v.2 * ((m : Int) - thr)) m), c.pulse)
  let y := x.mapIdx fun j v =>
    let (di, dq) := cs.foldl (fun (acc : Int × Int) (n, ci, cq, p) =>
      let t : Int := (j : Int) - n + (p.length - 1) / 2
      if 0 ≤ t ∧ t < p.length then
        let (pi, pq) := p.getD t.toNat (0, 0)
        (acc.1 + (ci * pi - cq * pq), acc.2 + (ci * pq + cq * pi))
      else acc) (0, 0)
    (satS 18 (v.1 - roundShift di 15), satS 18 (v.2 - roundShift dq 15))
  (y, kept, missed)

/-- The hard clip of one sample (R135): scaled to the threshold if its magnitude, taken exactly (DEDUCED, log 60: R135 names no rounding of it),
exceeds it; and whether it was. -/
def hardClip (hc : Option Nat) (v : Int × Int) : (Int × Int) × Bool :=
  match hc with
  | some thr => if thr * thr < mag2 v then ((scaleTo thr (mag2 v) v.1, scaleTo thr (mag2 v) v.2), true) else (v, false)
  | none => (v, false)

/-- A stretch of a chain's stream that starts at sample `p0` from the epoch passes crest-factor reduction (R133 to R135); `lo` and `hi` bound
the samples whose peaks and clips count. Output, peaks kept, peaks missed, samples clipped. -/
def cfrStretch (st : Nat → Option CfrSet) (p0 lo hi : Nat) (x : List (Int × Int)) : List (Int × Int) × Nat × Nat × Nat :=
  let inside (l : List Nat) : Nat := (l.filter fun n => lo ≤ n && n < hi).length
  let r := (List.range 4).foldl (fun (acc : List (Int × Int) × Nat × Nat) k =>
    let (y, kept, missed) := cfrStage st k p0 acc.1
    (y, acc.2.1 + inside kept, acc.2.2 + inside missed)) (x, 0, 0)
  let z := r.1.mapIdx fun n v => hardClip ((st ((p0 + n) / 3)).bind CfrSet.hc) v
  (z.map Prod.fst, r.2.1, r.2.2, (((z.drop lo).take (hi - lo)).filter Prod.snd).length)

/-- A tap of the pulse bank in force (R136). -/
def State.pulseTap (s : State) (q t : Nat) : Int × Int :=
  let b := s.get (R.CFR_CFG_BANK_NOW q)
  (s.getS (R.CFR_PULSE_P_I q b t), s.getS (R.CFR_PULSE_P_Q q b t))

/-- The settings of a quadrant's crest-factor reduction in force are noted from now on. -/
def State.noteCfr (q : Nat) (s : State) : State :=
  let hc := if s.wget (R.CFR_CFG_EN q) = 1 ∧ s.wget (R.CFR_CFG_HC_EN q) = 1 then some (s.wget (R.CFR_HC_HC_THR q)) else none
  let x : CfrSet := { q := q, from0 := s.now, en := s.wget (R.CFR_CFG_EN q) = 1, stages := s.wget (R.CFR_CFG_STAGES q),
                      pkMax := s.wget (R.CFR_CFG_PK_MAX q), thr := (List.range 4).map fun k => s.wget (R.CFR_THR_THR q k), hc := hc,
                      pulse := (List.range (s.wget (R.CFR_CFG_PULSE_LEN q))).map (s.pulseTap q) }
  { s with sig := { s.sig with cfr := s.sig.cfr ++ [x] } }

/-- The settings of a quadrant's crest-factor reduction apply together (R136). -/
def State.applyCfr (q : Nat) (s : State) : State :=
  let s := s.put (R.CFR_CFG_BANK_NOW q) (s.get (R.CFR_CFG_BANK q))
  let s := (s.apply (R.CFR_CFG q)).apply (R.CFR_HC q)
  (forAll (List.range 4) (fun k s => s.apply (R.CFR_THR q k)) s).noteCfr q

/-- The gains of a slot apply (R132). -/
def State.applyGains (d : Dir) (cs : Nat) (s : State) : State :=
  match d with
  | .dl => s.apply (R.CS_TX_GAIN cs)
  | .ul => s.apply (R.CS_RX_DG cs)

/-! ### Converters (R125, R39) -/

/-- A quadrant is held at rank 2 until its crossing is re-centred (R39, R125). -/
def State.convHold (s : State) (q : Nat) : State :=
  { s with hold := { s.hold with convHold := setBit s.hold.convHold q true } }.settle

/-- CONV_UNLOCK (R125): class U. -/
def State.convUnlock (s : State) (q : Nat) : State :=
  let s := (s.clearBit R.DFE_STATUS_CONV_LOCK q).raiseBit R.DFE_STATUS_CONV_UNLOCK q
  let s := s.modDfe fun x => { x with convLost := updAt x.convLost q fun _ => 0 }
  ((s.report (mkReport 0x09 .clsU 0x0010 q)).event (.convUnlock q)).convHold q

/-- CONV_PLL_RELOCK (R125): the PLL is locked; the crossing is re-centred at the next frame boundary. -/
def State.convRelock (s : State) (q : Nat) : State :=
  if s.radioPowered && !s.quadGated q then s.raiseBit R.DFE_STATUS_CONV_LOCK q else s

/-- A frame boundary re-centres the crossings whose converter PLL is locked; a PLL still unlocked at its third boundary is a class F
fault of its quadrant, held until reset (R39, R125, R541). -/
def State.convFrame (s : State) : State :=
  let s := forAll (quadsOf s.hold.convHold) (fun q s =>
    if s.fbit R.DFE_STATUS_CONV_LOCK q then { s with hold := { s.hold with convHold := setBit s.hold.convHold q false } }
    else if s.hold.convDead.testBit q then s
    else
      let n := s.dfe.convLost.getD q 0 + 1
      let s := s.modDfe fun x => { x with convLost := updAt x.convLost q fun _ => n }
      doIf (n == 3) (fun s =>
        ({ s with hold := { s.hold with convDead := setBit s.hold.convDead q true } }).report (mkReport 0x09 .clsF 1 q)) s) s
  s.settle

/-! ### Capture (R138 to R144) -/

/-- STATE of a capture engine. -/
def State.capState (s : State) (k : Nat) : Nat := s.get (R.CAP_STAT_STATE k)

/-- A capture engine's own state. -/
def State.cap (s : State) (k : Nat) : Cap :=
  s.dfe.caps.getD k { goFrame := 0, goAt := 0, startAt := none, samples := [], paired := false, cmd := none }

/-- Update a capture engine's own state. -/
def State.modCap (s : State) (k : Nat) (f : Cap → Cap) : State := s.modDfe fun x => { x with caps := updAt x.caps k f }

/-- Direction of a tap (R141). -/
def tapDir (t : Nat) : Dir := if t < 5 then .dl else .ul

/-- Samples per SI cycle of a tap, and the cycles between samples of a carrier tap (R141). -/
def State.tapRate (s : State) (k : Nat) : Nat × Nat :=
  let t := s.get (R.CAP_CFG_TAP k)
  let cs := s.get (R.CAP_CFG_CS k)
  match t with
  | 0 => (1, 2 ^ s.slotM .dl cs)
  | 1 => (1, 1)
  | 5 => (4, 1)
  | 6 => (1, 1)
  | 7 => (1, 2 ^ s.slotM .ul cs)
  | _ => (3, 1)

/-- D of R142: SI cycles that carry LEN + 1 samples. -/
def State.capCycles (s : State) (k : Nat) : Nat :=
  let (n, m) := s.tapRate k
  ceilDiv (s.get (R.CAP_LEN_LEN k) + 1) n * m

/-- First byte past and first byte of SMEM region `r` (R203). -/
def State.region (s : State) (r : Nat) : Nat × Nat :=
  (s.get (R.SMEM_PART_BASE r) * 65536, (s.get (R.SMEM_PART_BASE r) + s.get (R.SMEM_PART_SIZE r)) * 65536)

/-- Whether two regions of the partition overlap; one of size 0 occupies nothing (R203). -/
def State.partOverlap (s : State) : Bool :=
  (List.range 6).any fun i => (List.range i).any fun j =>
    let (a, b) := s.region i
    let (c, d) := s.region j
    a < b && c < d && a < d && c < b

/-- Whether bytes lie inside the capture region or the playback region (R140). -/
def State.inTestRegions (s : State) (a n : Nat) : Bool :=
  [3, 5].any fun r => (s.region r).1 ≤ a && a + n ≤ (s.region r).2

/-- The checks of a capture GO (R140, R141, R144, R203). -/
def State.capOk (s : State) (k : Nat) : Bool :=
  let t := s.get (R.CAP_CFG_TAP k)
  let cs := s.get (R.CAP_CFG_CS k)
  s.inTestRegions (s.get (R.CAP_ADDR_ADDR k) * 32) (4 * (s.get (R.CAP_LEN_LEN k) + 1)) && !s.partOverlap && t < 8
    && ((t ≠ 0 && t ≠ 7) || s.get (R.CS_CFG_N_RB (dirIx (tapDir t)) cs) ≠ 0)
    && s.get (R.CAP_AT_CYCLE k) < 4915200

/-- BUSY of the ORX that observes a chain. -/
def State.setOrxBusy (s : State) (k : Nat) (b : Bool) : State :=
  if s.get (R.CAP_CFG_TAP k) = 4 then s.put (R.ORX_CFG_BUSY (s.get (R.CAP_CFG_CH k) / 8)) (b2n b) else s

/-- A 16-bit component of a captured sample: wider tap data is rounded convergently and saturated (R140). The taps of 18 bits are
1 TX_COMPOSITE, 2 PD_IN, 3 PD_OUT and 6 RX_BAND. -/
def capComp (tap : Nat) (x : Int) : Nat :=
  if tap = 1 ∨ tap = 2 ∨ tap = 3 ∨ tap = 6 then ofInt 16 (satS 16 (roundShift x 2)) else ofInt 16 (satS 16 x)

/-- The first `n` samples of a capture as stored in SMEM (R140); a sample the tap was not shown is a free value. -/
def State.capBytes (s : State) (k n : Nat) : List Byte :=
  let t := s.get (R.CAP_CFG_TAP k)
  let l := (s.cap k).samples
  (List.range n).flatMap fun i =>
    match l[i]? with
    | some p => leBytes 4 (capComp t p.1 + capComp t p.2 * 65536)
    | none => leBytes 4 (s.freeVal + i)

/-- The status a CAPTURE completes with, by its end state (R144, R450). -/
def capStatus (st : Nat) : Status :=
  match st with
  | 3 => .ok
  | 4 => .ok
  | 5 => .aborted
  | 6 => .timeout
  | _ => .badParam

/-- The Done fields of CAPTURE (R467). -/
def State.capDone (s : State) (k : Nat) : List Byte :=
  beBytes 1 (s.capState k) ++ beBytes 1 0 ++ beBytes 2 (s.get (R.CAP_COUNT_COUNT k)) ++ beBytes 2 (s.get (R.CAP_STAT_FRAME_TS k))
    ++ beBytes 4 (s.get (R.CAP_TS_CYCLE_TS k))

/-- An engine enters an end state with `n` samples kept (R144): they are written, COUNT and DONE are set. -/
def State.endCap (k st n : Nat) (s : State) : State :=
  let s := doIf (s.capState k == 2) (fun s =>
    (s.storeMem (s.get (R.CAP_ADDR_ADDR k) * 32) (s.capBytes k n)).setOrxBusy k false) s
  let short := (s.cap k).samples.length < n
  let cmd := (s.cap k).cmd
  let s := doIf short State.freeNext s
  let s := s.modCap k fun x => { x with startAt := none, samples := [], paired := false, cmd := none }
  let s := ((s.put (R.CAP_STAT_STATE k) st).put (R.CAP_COUNT_COUNT k) n).raise (R.CAP_STAT_DONE k)
  s.completeJob cmd (capStatus st) (s.capDone k)

/-- Samples that have passed the tap by a cycle. -/
def State.capSoFar (s : State) (k c : Nat) : Nat :=
  match (s.cap k).startAt with
  | some b =>
    let (n, m) := s.tapRate k
    min ((c - b) * n / m) (s.get (R.CAP_LEN_LEN k) + 1)
  | none => 0

/-- An engine stops with ABORTED (R144). The partner of a pair that still waits goes on waiting, and does not start without it (DESIGN CHOICE,
assumption log entry 16). -/
def State.abortCap (k : Nat) (s : State) : State :=
  if s.capState k = 2 then s.endCap k 5 (s.capSoFar k s.now)
  else if s.capState k = 1 then s.endCap k 5 0
  else s

/-- The captures of a quadrant's chains stop: the quadrant is gated (R144). -/
def State.abortQuadCaps (q : Nat) (s : State) : State :=
  forAll (List.range 8) (fun k s => doIf (quadOf (s.get (R.CAP_CFG_CH k)) == q) (State.abortCap k) s) s

/-- GO (R143, R144): the engine, with its pair, enters WAITING, or ends REFUSED at once. `cmd` is the command to complete. A pair of which one
engine fails the checks, or is busy, is turned away whole (DESIGN CHOICE, assumption log entry 16). -/
def State.capGo (s : State) (k : Nat) (cmd : Option Cmd) : Wr :=
  let pairs := k % 2 == 0 && s.flag (R.CAP_CFG_PAIR k)
  let ks := if pairs then [k, k + 1] else [k]
  let busy (j : Nat) : Bool := s.capState j == 1 || s.capState j == 2
  if ks.any busy then refuse R.DFE_STATUS_WR_REFUSED s
  else if k % 2 == 1 && s.flag (R.CAP_CFG_PAIR (k - 1)) then .ok s
  else
    let s := forAll ks (fun j s =>
      let s := s.modCap j fun x => { x with goFrame := s.frameNo s.now, goAt := s.now, startAt := none, samples := [],
                                            paired := pairs, cmd := if j = k then cmd else none }
      let s := s.setReg (R.CAP_STAT j) 0
      (s.put (R.CAP_STAT_STATE j) 1).put (R.CAP_COUNT_COUNT j) 0) s
    .ok (if ks.all s.capOk then s else forAll ks (fun j s => s.endCap j 7 0) s)

/-- The cycle by which a capture must have started (R144). -/
def State.capDeadline (s : State) (k : Nat) : Nat :=
  (s.frameStart ((s.cap k).goFrame + 1 + s.get (R.CAP_CFG_WAIT_FRAMES k))).toNat

/-- Whether the symbol in air at cycle `c` is eligible for a trigger: CAL, or QUIET (R142). -/
def State.trigOk (s : State) (quiet : Bool) (d : Dir) (q c : Nat) : Bool :=
  let b := s.bankAt d c
  let mu := s.get (R.SLOT_MU_TBL_MU b)
  let n := (s.symNow d mu c).2.1
  let x := s.symDirIn b mu n q
  if quiet then x == .quiet
  else s.symCalIn b mu n && (match d with | .dl => x == .dl | .ul => x == .ul)

/-- The next symbol boundary of the slot table after a cycle. -/
def State.tableBoundary (s : State) (d : Dir) (c : Nat) : Nat := (s.nextSymbol d (s.get (R.SLOT_MU_TBL_MU (s.bankAt d c))) c).1

/-- Whether every symbol from cycle `c` for `need` cycles is eligible. -/
def State.trigRun (s : State) (quiet : Bool) (d : Dir) (q : Nat) : Nat → Nat → Nat → Bool
  | 0, _, _ => false
  | fuel + 1, need, c =>
    need = 0 || (s.trigOk quiet d q c &&
      (let e := s.tableBoundary d c
       s.trigRun quiet d q fuel (need - (e - c)) e))

/-- The first symbol boundary after `c` and at or before `last` that begins an eligible run of `need` cycles (R142). -/
def State.findTrig (s : State) (quiet : Bool) (d : Dir) (q need last : Nat) : Nat → Nat → Option Nat
  | 0, _ => none
  | fuel + 1, c =>
    let b := s.tableBoundary d c
    if last < b then none
    else if s.trigRun quiet d q 32768 need b then some b
    else s.findTrig quiet d q need last fuel b

/-- The start instant of an engine by its trigger, as seen on cycle `c` (R142), at or after cycle `b0` and before its deadline. For a carrier
tap the first carrier sample at or after it. An ORX needs its SETTLE cycles before it (R138). -/
def State.capStart (s : State) (k c b0 : Nat) : Option Nat :=
  let t := s.get (R.CAP_CFG_TAP k)
  let q := quadOf (s.get (R.CAP_CFG_CH k))
  let orx := s.get (R.CAP_CFG_CH k) / 8
  let lead := if t = 4 then s.get (R.ORX_CFG_SETTLE orx) else 0
  let last := s.capDeadline k
  let i := match s.get (R.CAP_CFG_TRIG k) with
    | 0 =>
      let b := max (max c (s.cap k).goAt + lead) b0
      some (b + (b - s.tm.epoch) % 2)
    | 3 =>
      let f := frameFrom (s.cap k).goFrame (s.get (R.CAP_CTRL_FRAME k))
      let at0 := (s.frameStart f).toNat - s.advance (tapDir t) + s.get (R.CAP_AT_CYCLE k)
      some (if max (c + lead) b0 ≤ at0 then at0 else at0 + 1024 * frameCycles)
    | g => s.findTrig (g == 2) (tapDir t) q (s.capCycles k) last 20000 (max (c + lead) b0 - 1)
  match i with
  | some b =>
    let m := (s.tapRate k).2
    let b := if t = 0 ∨ t = 7 then b + (m - (b - s.tm.epoch) % m) % m else b
    if b ≤ last then some b else none
  | none => none

/-- The start instant of an engine or its pair: for a pair the first start that satisfies both engines (R143). -/
def State.capStartAll (s : State) (k c : Nat) : Nat → Nat → Option Nat
  | 0, _ => none
  | fuel + 1, b0 =>
    match s.capStart k c b0 with
    | none => none
    | some b =>
      if (s.cap k).paired && k % 2 == 0 then
        match s.capStart (k + 1) c b0 with
        | none => none
        | some b' => if b = b' then some b else s.capStartAll k c fuel (max b b')
      else some b

/-- The engines that start with engine `k`. -/
def State.capGroup (s : State) (k : Nat) : List Nat := if (s.cap k).paired then [k - k % 2, k - k % 2 + 1] else [k]

/-- ORXSEL_DRIVE (R138, R389): SETTLE cycles before a capture's start instant its ORX is switched to the observed chain. While the ORX is
busy, borrowed by calibration, or promised to another waiting capture, the capture waits for its next eligible start, and its pair with it. Each
engine of a pair drives its own ORX; the second keeps the start that the first was driven for. -/
def State.orxDrive (s : State) (k : Nat) : State :=
  let lead := k - (if (s.cap k).paired then k % 2 else 0)
  if s.capState k = 1 ∧ s.get (R.CAP_CFG_TAP k) = 4 ∧ (s.cap k).startAt = none then
    let pair := (s.capGroup k).filter fun j => j ≠ k
    let promised := pair.findSome? fun j => (s.cap j).startAt
    match promised <|> s.capStartAll lead s.now 64 0 with
    | some b =>
      let ch := s.get (R.CAP_CFG_CH k)
      let n := ch / 8
      let s := s.advanceTo (b - s.get (R.ORX_CFG_SETTLE n))
      let taken := (s.get R.CAL_STATUS_SW_NOW ≠ 0 && s.get R.CAL_CFG_RXORX == n) || (List.range 8).any fun j =>
        j ≠ k && s.get (R.CAP_CFG_TAP j) == 4 && s.get (R.CAP_CFG_CH j) / 8 == n
          && (s.capState j == 2 || (s.capState j == 1 && ((s.cap j).startAt.isSome || (j < k && s.capStartAll (j - (if (s.cap j).paired then j % 2 else 0)) s.now 64 0 == some b))))
      if taken then forAll pair (fun j s => s.modCap j fun x => { x with startAt := none }) s
      else (s.put (R.ORX_CFG_SEL_NOW n) (ch % 8)).modCap k fun x => { x with startAt := some b }
    | none => s
  else s

/-- An engine enters RUNNING at its start instant with the samples of its tap (R142). -/
def State.runCap (k b : Nat) (l : List (Int × Int)) (s : State) : State :=
  let d := tapDir (s.get (R.CAP_CFG_TAP k))
  let f := s.frameNo (b + s.advance d)
  let s := s.modCap k fun x => { x with startAt := some b, samples := l }
  let s := (s.put (R.CAP_STAT_STATE k) 2).put (R.CAP_STAT_LO_EVT k) 0
  let s := (s.put (R.CAP_STAT_FRAME_TS k) (f % 1024).toNat).put (R.CAP_TS_CYCLE_TS k) (b + s.advance d - (s.frameStart f).toNat)
  s.setOrxBusy k true

/-- CAPTURE_START (R142, R143): at its start instant an engine, with its pair, begins to write the samples its tap brings. A tap-4
engine starts only once its ORX is switched. -/
def State.captureStart (s : State) (k : Nat) (l l2 : List (Int × Int)) : State :=
  let g := s.capGroup k
  let lead := g.headD k
  let orx := g.filter fun j => s.get (R.CAP_CFG_TAP j) == 4
  if g.all (fun j => s.capState j == 1) then
    let at0 := match orx with
      | [] => s.capStartAll lead s.now 64 0
      | j :: _ => if orx.all fun i => (s.cap i).startAt == (s.cap j).startAt then (s.cap j).startAt else none
    match at0 with
    | some b =>
      let s := (s.advanceTo b).runCap lead b l
      doIf (1 < g.length) (State.runCap (lead + 1) b l2) s
    | none => s
  else s

/-- CAPTURE_DONE (R144): LEN + 1 samples are written. -/
def State.captureDone (s : State) (k : Nat) : State :=
  match (s.cap k).startAt with
  | some b => if s.capState k = 2 then (s.advanceTo (b + s.capCycles k)).endCap k 3 (s.get (R.CAP_LEN_LEN k) + 1) else s
  | none => s

/-- CAPTURE_TIMEOUT (R144). -/
def State.captureTimeout (s : State) (k : Nat) : State :=
  if s.capState k = 1 then (s.advanceTo (s.capDeadline k)).endCap k 6 0 else s

/-- A slot-table swap at a frame boundary inside a CAL or QUIET capture (R144): SHORT if a remaining symbol is not eligible. -/
def State.capSwap (s : State) : State :=
  forAll (List.range 8) (fun k s =>
    let t := s.get (R.CAP_CFG_TRIG k)
    if s.capState k = 2 ∧ (t = 1 ∨ t = 2) then
      match (s.cap k).startAt with
      | some b =>
        let rest := b + s.capCycles k - s.now
        let d := tapDir (s.get (R.CAP_CFG_TAP k))
        if s.trigRun (t == 2) d (quadOf (s.get (R.CAP_CFG_CH k))) 32768 rest s.now then s
        else s.endCap k 4 (s.capSoFar k s.now)
      | none => s
    else s) s

/-! ### Playback (R145, R146) -/

/-- The quadrants a playback injects into. -/
def State.pbQuads (s : State) : Nat :=
  if s.flag R.PB_CFG_TAP then 2 ^ quadOf (s.get R.PB_CFG_CH) else s.get R.PB_CFG_QMASK

/-- START (R146, R203): refused while the partition overlaps. -/
def State.pbStart (s : State) : Wr :=
  if s.partOverlap then refuse R.DFE_STATUS_WR_REFUSED s
  else .ok (s.modDfe fun x => { x with pbArm := true, pbStop := false, pbPtr := if s.flag R.PB_CTRL_RUN then x.pbPtr else 0 })

/-- STOP (R146). -/
def State.pbStopWrite (s : State) : State :=
  s.modDfe fun x => { x with pbArm := false, pbStop := s.flag R.PB_CTRL_RUN }

/-- Poisoned words read when `n` samples are read in a loop of `len` samples at an address, from sample `p` on (R146): a word counts each time
the reading comes to it. -/
def State.pbPoison (s : State) (a len p n : Nat) : Nat :=
  ((List.range n).filter fun i =>
    let j := (p + i) % len
    (i == 0 || j == 0 || (a + 4 * j) % 16 == 0) && s.poisoned ((a + 4 * j) / 16)).length

/-- A downlink symbol boundary on cycle `b` reaches playback (R146): it stops if asked; armed or running it injects in a downlink symbol of
`quads`, and its pointer moves on by the symbol's samples. -/
def State.pbBoundary (s : State) (b quads cycles : Nat) : State :=
  if s.dfe.pbStop then (s.put R.PB_CTRL_RUN 0).modDfe fun x => { x with pbStop := false, pbWin := none }
  else if quads ≠ 0 && (s.dfe.pbArm || s.flag R.PB_CTRL_RUN) then
    let s := (s.put R.PB_CTRL_RUN 1).modDfe fun x => { x with pbArm := false }
    let len := s.get R.PB_LEN_LEN + 1
    let n := cycles * (if s.flag R.PB_CFG_TAP then 3 else 1)
    let bad := s.pbPoison (s.get R.PB_ADDR_ADDR * 32) len s.dfe.pbPtr n
    (s.countBy R.PB_CTRL_POISON bad).modDfe fun x => { x with
      pbPtr := (x.pbPtr + n) % len, pbWin := some { start := b, fin := b + cycles, ptr := x.pbPtr, quads := quads } }
  else s.modDfe fun x => { x with pbWin := none }

/-- A sample of the playback region, in Q1.15 (R140, R146): zero where its word is poisoned. -/
def State.pbWord (s : State) (i : Nat) : Int × Int :=
  let a := s.get R.PB_ADDR_ADDR * 32 + 4 * i
  if s.poisoned (a / 16) then (0, 0)
  else
    let w := leNat (s.bytes a 4)
    (toInt 16 (w % 65536), toInt 16 (w / 65536))

/-- A sample of a chain's stream at a playback tap passes it (R145): replaced by the sample read, or added to it, saturating to Q3.15 (R140: a
16-bit word carries the top bits of the tap's sample). `j` is the sample's place in cycle `c`. A symbol that follows one in which playback
injects is taken to go on with it until its own boundary decides (DESIGN CHOICE, log 61). -/
def State.pbInject (s : State) (tap1 : Bool) (ch c j : Nat) (x : Int × Int) : Int × Int :=
  match s.dfe.pbWin with
  | some w =>
    if s.flag R.PB_CFG_TAP == tap1 && w.quads.testBit (quadOf ch) && (!tap1 || s.get R.PB_CFG_CH == ch) && w.start ≤ c
        && (c < w.fin || (s.flag R.PB_CTRL_RUN && !s.dfe.pbStop)) then
      let i := (w.ptr + (c - w.start) * (if tap1 then 3 else 1) + j) % (s.get R.PB_LEN_LEN + 1)
      let v := s.pbWord i
      let v := (4 * v.1, 4 * v.2)
      if s.flag R.PB_CFG_MODE then (satS 18 (x.1 + v.1), satS 18 (x.2 + v.2)) else v
    else x
  | none => x

/-! ### Register writes of the digital front end -/

/-- A write of a register of this chapter (R129, R132, R136, R144). -/
def writeDFE (r : RegRow) (ix : List Nat) (a : Nat) (v : Word) (s : State) : Wr :=
  let i := ix.getD 0 0
  let direct := s.plainWrite r a v
  let noTx (q : Nat) : Bool := (s.activeOn .dl q).isEmpty
  match r.id with
  | .CS_RF_HI => s.rfCommit i (ix.getD 1 0) v.toNat
  | .CS_TX_GAIN => .ok (doIf (!s.active .dl i) (State.applyGains .dl i) direct)
  | .CS_RX_DG => .ok (doIf (!s.active .ul i) (State.applyGains .ul i) direct)
  | .CFR_CFG =>
    let len := (R.CFR_CFG_PULSE_LEN i).of v
    let pk := (R.CFR_CFG_PK_MAX i).of v
    if len % 2 = 0 ∨ len < 15 ∨ pk = 0 ∨ 8 < pk then refuse R.DFE_STATUS_WR_REFUSED s
    else .ok (doIf (noTx i) (State.applyCfr i) direct)
  | .CFR_THR => .ok (doIf (noTx i) (State.applyCfr i) direct)
  | .CFR_HC => .ok (doIf (noTx i) (State.applyCfr i) direct)
  | .CFR_PULSE =>
    if ix.getD 1 0 = s.get (R.CFR_CFG_BANK_NOW i) then refuse R.DFE_STATUS_WR_REFUSED s else .ok direct
  | .CFR_CNT_CLR =>
    if v.toNat.testBit 0 then
      .ok (forAll (List.range 4) (fun q s => ((s.setReg (R.CFR_PEAKS q) 0).setReg (R.CFR_MISSED q) 0).setReg (R.CFR_HCLIP q) 0) s)
    else .ok s
  | .CAP_CTRL =>
    let t := doIf (v.toNat.testBit 1) (State.abortCap i) direct
    if v.toNat.testBit 0 then
      match t.capGo i none with
      | .ok t => .ok t
      | .error _ => refuse R.DFE_STATUS_WR_REFUSED s
    else .ok t
  | .PB_CTRL =>
    if v.toNat.testBit 0 && s.partOverlap then refuse R.DFE_STATUS_WR_REFUSED s
    else
      let s := doIf (v.toNat.testBit 1) State.pbStopWrite s
      if v.toNat.testBit 0 then s.pbStart else .ok s
  | _ => .ok direct

/-! ### Meanings -/

/-- CONV_UNLOCK (R125). -/
def execConvUnlock (q : Nat) (s : State) : Host.Outcome State Fault Refusal := .next (s.convUnlock q)

/-- CAPTURE_GO (R144). -/
def execCaptureGo (k : Nat) (s : State) : Host.Outcome State Fault Refusal := .next (s.capGo k none).state

/-- ORXSEL_DRIVE (R138). -/
def execOrxselDrive (k : Nat) (s : State) : Host.Outcome State Fault Refusal := .next (s.orxDrive k)

/-- CAPTURE_START (R142). -/
def execCaptureStart (k : Nat) (l l2 : List (Int × Int)) (s : State) : Host.Outcome State Fault Refusal :=
  .next (s.captureStart k l l2)

/-- CAPTURE_DONE (R144). -/
def execCaptureDone (k : Nat) (s : State) : Host.Outcome State Fault Refusal := .next (s.captureDone k)

/-- CAPTURE_TIMEOUT (R144). -/
def execCaptureTimeout (k : Nat) (s : State) : Host.Outcome State Fault Refusal := .next (s.captureTimeout k)

/-- CAP_ABORT_WRITE (R144). -/
def execCapAbortWrite (k : Nat) (s : State) : Host.Outcome State Fault Refusal := .next (s.abortCap k)

/-- PLAYBACK_START (R146). -/
def execPlaybackStart (s : State) : Host.Outcome State Fault Refusal := .next s.pbStart.state

/-- PLAYBACK_STOP (R146). -/
def execPlaybackStop (s : State) : Host.Outcome State Fault Refusal := .next s.pbStopWrite

end Sys2Proof.Machine
end

