-- ==== Sys2Proof/Machine/CalWindow.lean ====
section
/-! DEFINITION. The symbols a calibration job uses, and its pilot (chapter 13: R390, R398, R399, R401). -/

namespace Sys2Proof.Machine

/-- The chains under measurement: one at a time for TXA and TXIQ, all for RXA and RXIQ (R399, R405). -/
def CalJobX.current (j : CalJobX) : List Nat := if j.kind = 1 ∨ j.kind = 3 then j.todo.take 1 else j.todo

/-- Whether a capture that observes a chain's transmit path is running (R401). -/
def State.txTapRuns (s : State) (ch : Nat) : Bool :=
  (List.range 8).any fun k => s.capState k == 2 && s.get (R.CAP_CFG_CH k) == ch &&
    (s.get (R.CAP_CFG_TAP k) == 2 || s.get (R.CAP_CFG_TAP k) == 3 || s.get (R.CAP_CFG_TAP k) == 4)

/-- Whether CALTX may be driven in symbol `n` of the table (R390). -/
def State.calTxOk (s : State) (bank mu n : Nat) : Bool :=
  let r := s.get R.CAL_REF_TXREF
  s.symDirIn bank mu n (quadOf r) ≠ .dl && s.flag (R.CH_CTRL_TX_EN r) && s.flag (R.CH_STATUS_TX_RDY r)
    && s.fbit R.LO_STATUS_LO_READY (quadOf r)

/-- The timeline of a job's symbols. -/
def CalJobX.dir (j : CalJobX) : Dir := if j.kind = 2 ∨ j.kind = 4 then .ul else .dl

/-- Whether a symbol of the slot table is eligible for a job (R390, R398, R401). -/
def State.calEligible (s : State) (j : CalJobX) (bank mu n : Nat) : Bool :=
  let ch := j.todo.headD 0
  match j.kind with
  | 1 => s.symDirIn bank mu n (quadOf ch) == .dl && s.symCalIn bank mu n && !s.txTapRuns ch
  | 2 => ((quadsOf j.qmask).all fun q => s.symDirIn bank mu n q == .ul) && s.symCalIn bank mu n && s.calTxOk bank mu n
  | 3 => s.symDirIn bank mu n (quadOf ch) == .dl && s.symCalIn bank mu n
  | 4 => ((quadsOf j.qmask).all fun q => s.symDirIn bank mu n q == .ul) && s.symCalIn bank mu n && s.calTxOk bank mu n
  | 5 => ((List.range 4).all fun q => s.symDirIn bank mu n q == .quiet)
      && (s.ownDa ≠ s.get R.CAL_REF_XREF || s.calTxOk bank mu n)
  | _ => true

/-- The first cycle of the first and the end of the last of a job's next `n` eligible symbols, from the first boundary at or after cycle
`c`, if the last ends by `last`. -/
def State.calSymbols (s : State) (j : CalJobX) (last : Nat) : Nat → Nat → Nat → Option Nat → Option (Nat × Nat)
  | 0, _, _, _ => none
  | fuel + 1, c, n, first =>
    let bank := s.bankAt j.dir c
    let mu := s.get (R.SLOT_MU_TBL_MU bank)
    let (b, _, y) := s.nextSymbol j.dir mu (c - 1)
    let e := b + symLen mu y
    if last < e then none
    else if s.calEligible j bank mu y then
      let f := first.getD b
      if n ≤ 1 then some (f, e) else s.calSymbols j last fuel e (n - 1) (some f)
    else s.calSymbols j last fuel e n first

/-- The cycle by which a job must have finished (R398). -/
def State.calDeadline (s : State) (j : CalJobX) : Nat := (s.frameStart (j.goFrame + 1 + j.wait)).toNat

/-- The window of the measurement in hand: its first and its last cycle. -/
def State.calWindow (s : State) (j : CalJobX) : Option (Nat × Nat) :=
  if j.kind = 6 then some (j.goAt, j.goAt + 4 * msCycles)
  else s.calSymbols j (s.calDeadline j) 40000 j.from0 (s.get R.CAL_CFG_NAVG) none

/-! ### The pilot (R399) -/

/-- The chain that carries a job's pilot, if one does: the chain under test of a TXA job, or the reference chain where it drives CALTX. -/
def State.pilotChain (s : State) : Option (CalJobX × Nat) :=
  match s.cal.job with
  | some j =>
    if j.kind = 1 then j.current.head?.map fun ch => (j, ch)
    else if j.kind = 2 ∨ j.kind = 4 ∨ (j.kind = 5 ∧ s.ownDa = s.get R.CAL_REF_XREF) then some (j, s.get R.CAL_REF_TXREF)
    else none
  | none => none

/-- The pilot's sample on a chain at sample `j` of cycle `c` (R399), if the chain sends it then: from the start of the useful part of a symbol
that the job uses, PILOT_ATT dB below full scale. The sequence is free (log 6): the spec says only what it is. -/
def State.pilotAt (s : State) (ch c j : Nat) : Option (Int × Int) :=
  match s.pilotChain with
  | some (y, r) =>
    if r ≠ ch ∨ c < y.from0 then none
    else
      match s.calWindow y with
      | some (_, e) =>
        let bank := s.bankAt y.dir c
        let mu := s.get (R.SLOT_MU_TBL_MU bank)
        let (_, n, b) := s.symNow y.dir mu c
        let u := b + cpLen (15 - mu) mu n
        let i := 3 * (c - u) + j
        if c < e ∧ u ≤ c ∧ i < 4096 ∧ s.calEligible y bank mu n then some (Config.pilot (s.get R.CAL_CFG_PILOT_ATT) i) else none
      | none => none
  | none => none

/-- The pilot is added to a PD_IN sample of a chain, saturating as playback is (R399; DESIGN CHOICE, log 37: R399 names no saturation, and no
place on the reference chain, for which PD_IN is taken too). -/
def State.addPilot (s : State) (ch c j : Nat) (v : Int × Int) : Int × Int :=
  match s.pilotAt ch c j with
  | some p => (satS 18 (v.1 + p.1), satS 18 (v.2 + p.2))
  | none => v

end Sys2Proof.Machine
end

