-- ==== Sys2Proof/Machine/SamplePath.lean ====
section
/-! DEFINITION. The downlink samples on their way from the beamformer's bins to the converters: transform, cyclic prefix, phase compensation,
carrier stage, composite, crest-factor reduction, predistortion and chain stages (R121, R133 to R135, R149 to R154, R182, R185, R188, R190,
R53). Samples are placed by the cycle on which they reach the TX port. -/

namespace Sys2Proof.Machine

/-- Update the samples on their way. -/
def State.modSig (s : State) (f : SigX → SigX) : State := { s with sig := f s.sig }

/-- Whether every sample of a list is zero. -/
def allZero (l : List (Int × Int)) : Bool := l.all fun v => v.1 == 0 && v.2 == 0

/-- A sample of a rate-change filter (R123), in 2^−16 of the output's LSB: nothing comes of zeros. -/
def filtered (f : Config.RateFilter) (m phase : Nat) (w : List (Int × Int)) : Int × Int :=
  if allZero w then (0, 0) else Config.rateFilter f m phase w

/-! ### Transforms (R182, R185, R188 to R190) -/

/-- FFT bin of subcarrier `k` (R182). -/
def fftBin (n rb k : Nat) : Nat := (((k : Int) - 6 * rb) % n).toNat

/-- A sum of samples, each turned by an angle in 2^−48 turns, in 2^−60. -/
def dftSum (l : List ((Int × Int) × Int)) : Int × Int :=
  l.foldl (fun acc x =>
    let c := cosOf x.2
    let d := sinOf x.2
    (acc.1 + (x.1.1 * c - x.1.2 * d), acc.2 + (x.1.1 * d + x.1.2 * c))) (0, 0)

/-- A component of a transform's output: the exact scaled value rounded once, off by at most 2 LSB, saturated (R188); and whether it
saturated. -/
def dftOut (shift : Nat) (err x : Int) : Int × Bool :=
  let y := roundShift x (60 + shift) + max (-2) (min 2 err)
  (satS 16 y, satS 16 y ≠ y)

/-- The inverse transform of a symbol's subcarriers (R182, R188), and whether an output saturated. -/
def invTransform (log2n rb shift : Nat) (x : List (Int × Int)) : List (Int × Int) × Bool :=
  let l := (List.range (2 ^ log2n)).map fun n =>
    let z := dftSum (x.mapIdx fun k v => (v, ((fftBin (2 ^ log2n) rb k * n % 2 ^ log2n * 2 ^ (48 - log2n) : Nat) : Int)))
    let e := Config.dftErr x n
    let a := dftOut shift e.1 z.1
    let b := dftOut shift e.2 z.2
    ((a.1, b.1), a.2 || b.2)
  (l.map Prod.fst, l.any Prod.snd)

/-- The last samples of a symbol before it (R188). -/
def withPrefix (cp : Nat) (x : List (Int × Int)) : List (Int × Int) := x.drop (x.length - cp) ++ x

/-- The code that PHC refers phases to (R190): none, the carrier code, or CS_F0. -/
def State.phcCode (s : State) (d cs : Nat) : Option Nat :=
  match s.wget (R.CS_FFT_PHC d cs) with
  | 0 => none
  | 1 => some (s.carrierCode d cs)
  | _ => some (s.wget (R.CS_F0_HI_CODE_HI d cs) * 2 ^ 32 + s.wget (R.CS_F0_LO_CODE_LO d cs))

/-- θ_l of R190 for symbol `n` of a slot that begins on cycle `b`, in units of 2π / 2^37: (F0 · n_l) mod 2^37, with n_l counted from the array
epoch to the instant at the port that follows the cyclic prefix. -/
def State.phcAngle (s : State) (d : Dir) (cs n b : Nat) : Option Nat :=
  (s.phcCode (dirIx d) cs).map fun f0 =>
    let cp := cpLen (s.get (R.CS_CFG_LOG2N (dirIx d) cs)) (s.slotMu d cs) n * 2 ^ s.slotM d cs
    f0 * (b + cp - s.tm.epoch) % 2 ^ 37

/-- What is shadowed per carrier slot in its stages applies (R22, R128, R132, R180). -/
def State.applyCarrier (d : Dir) (cs : Nat) (s : State) : State :=
  (((s.applyRf (dirIx d) cs).applyF0 (dirIx d) cs).applyGains d cs).apply (R.CS_FFT (dirIx d) cs)

/-- The carrier samples of symbol `n` of frame `k` of a downlink slot, which begins on cycle `b`, from what the beamformer gave its antennas
(R188, R190); and whether a transform saturated. -/
def State.makeWave (s : State) (cs k n b : Nat) : Wave × Bool :=
  let lg := s.get (R.CS_CFG_LOG2N 0 cs)
  let rows := s.bf.dlOut.filter fun r => r.cs == cs && r.frame == k && r.sym == n
  let l := rows.map fun r =>
    let (x, sat) := invTransform lg (s.get (R.CS_CFG_N_RB 0 cs)) (s.wget (R.CS_FFT_SHIFT 0 cs)) r.y
    let x := withPrefix (cpLen lg (s.slotMu .dl cs) n) x
    let x := match s.phcAngle .dl cs n b with
      | some a => x.map (rotate 16 true a)
      | none => x
    (r.ch, x, sat)
  ({ cs := cs, frame := k, sym := n, start := b, fin := b + symLen (s.slotMu .dl cs) n, m := s.slotM .dl cs, gain := s.wget (R.CS_TX_GAIN_GAIN cs)
     chs := l.map fun x => (x.1, x.2.1) }, l.any fun x => x.2.2)

/-- A downlink symbol's carrier samples are formed at its boundary. -/
def State.addWave (s : State) (cs k n b : Nat) : State :=
  let (w, sat) := s.makeWave cs k n b
  (doIf sat (fun s => s.raiseBit R.LP_SAT_IFFT_SAT cs) s).modSig fun x => { x with
    waves := (x.waves.filter fun y => x.txDone < y.fin + 1024 && !(y.cs == cs && y.frame == k && y.sym == n)) ++ (if w.chs = [] then [] else [w]) }

/-! ### Carrier stage and composite (R121 steps 2 to 5, R127, R130, R145) -/

/-- The carrier sample of a slot on a chain that is at its place on cycle `c`. -/
def carrierAt (l : List Wave) (cs ch c : Nat) : Int × Int :=
  match l.find? fun w => w.cs == cs && w.start ≤ c && c < w.fin with
  | some w => ((look w.chs ch).getD []).getD ((c - w.start) / 2 ^ w.m) (0, 0)
  | none => (0, 0)

/-- Input samples on each side that a filter with a latency of so many cycles can reach, at one sample in 2^m cycles. -/
def reach (cycles m : Nat) : Nat := ceilDiv cycles (2 ^ m)

/-- Step 2 of R121 on cycle `c`: the carrier's stream at 491.52 MS/s, mixed by its NCO, Q1.17. -/
def State.carrierStage (s : State) (l : List Wave) (w : Wave) (ch c : Nat) : Int × Int :=
  let at0 := c - (c - w.start) % 2 ^ w.m
  let v := if w.m = 0 then let x := carrierAt l w.cs ch c; (x.1 * 2 ^ 18, x.2 * 2 ^ 18)
    else
      let h := reach (24 + 20 * w.m) w.m
      filtered .carrierUp w.m (c - at0) ((List.range (2 * h + 1)).map fun i => carrierAt l w.cs ch (at0 + i * 2 ^ w.m - h * 2 ^ w.m))
  let y := turnBy false (ncoPhase (s.ncoAt 0 (quadOf ch) w.cs c) (c - s.tm.epoch)) v
  (satS 18 (roundShift y.1 33), satS 18 (roundShift y.2 33))

/-- Steps 3 and 4 of R121 on cycle `c`: the sum of the carriers, each with its gain, saturated to Q3.15; and whether it saturated. -/
def State.composite (s : State) (l : List Wave) (ch c : Nat) : (Int × Int) × Bool :=
  let z := (l.filter fun w => w.start ≤ c && c < w.fin).foldl (fun acc w =>
    let x := s.carrierStage l w ch c
    (acc.1 + txGain w.gain x.1, acc.2 + txGain w.gain x.2)) ((0 : Int), (0 : Int))
  let y := (satS 18 z.1, satS 18 z.2)
  (y, y ≠ z)

/-- The samples of a stream kept before its position, as a list of `n`. -/
def pastOf (l : List (Nat × List (Int × Int))) (ch n : Nat) : List (Int × Int) :=
  let x := (look l ch).getD []
  List.replicate (n - x.length) (0, 0) ++ x.drop (x.length - n)

/-- Step 5 of R121: the composite `x`, which starts 30 cycles before the stretch and ends 30 cycles after it, interpolated by 3; and how many of
the first `n` samples saturated. -/
def interpolate3 (n : Nat) (x : List (Int × Int)) : List (Int × Int) × Nat :=
  let l := (List.range (3 * (x.length - 60))).map fun i =>
    let v := filtered .up3 0 (i % 3) ((x.drop (i / 3)).take 61)
    let z := (roundShift v.1 16, roundShift v.2 16)
    let y := (satS 18 z.1, satS 18 z.2)
    (y, decide (y ≠ z))
  (l.map Prod.fst, ((l.take n).filter Prod.snd).length)

/-! ### The evaluator (R149 to R156, R163) -/

/-- A chain's predistorter's own state. -/
def State.pdx (s : State) (ch : Nat) : PdX := s.pd.getD ch PdX.reset

/-- Update a chain's predistorter. -/
def State.modPd (s : State) (ch : Nat) (f : PdX → PdX) : State := { s with pd := updAt s.pd ch f }

/-- Lifecycle states (R160): BYPASS. -/
def pdBypass : Nat := 0
/-- STEADY. -/
def pdSteady : Nat := 1
/-- FADING. -/
def pdFading : Nat := 2
/-- VERIFY. -/
def pdVerify : Nat := 3
/-- ROLLBACK. -/
def pdRollback : Nat := 4
/-- BAND_FADE. -/
def pdBandFade : Nat := 5

/-- The lifecycle state of a chain. -/
def State.pdState (s : State) (ch : Nat) : Nat := s.get (R.PD_STATE_STATE ch)

/-- A coefficient of a bank, Q6.18 (R156). -/
def State.coef (s : State) (ch b i : Nat) : Int × Int :=
  (toInt 24 (s.get (R.COEF_I_C_I ch b i)), toInt 24 (s.get (R.COEF_Q_C_Q ch b i)))

/-- One part of a working coefficient at step `n` of a fade (R163): src + (tgt − src) · n / 64, rounded convergently. -/
def fadePart (n : Nat) (a b : Int) : Int := roundDiv (64 * a + (b - a) * n) 64

/-- The step of a fade that is in force `t` cycles after its anchor (R163). -/
def fadeStepAt (t : Nat) : Nat := min 64 (1 + t / 1966)

/-- The working coefficient of a chain on cycle `c` (R160, R163): the bank in force, or the blend of a fade. -/
def State.workCoef (s : State) (ch i c : Nat) : Int × Int :=
  let a := s.coef ch (s.get (R.PD_STATE_CUR ch)) i
  match (s.pdx ch).fadeAt with
  | some c0 =>
    if c < c0 then a
    else
      let b := s.coef ch (s.get (R.PD_STATE_TGT_NOW ch)) i
      let n := fadeStepAt (c - c0)
      (fadePart n a.1 b.1, fadePart n a.2 b.2)
  | none => a

/-- |x| in unsigned Q2.16 of a Q3.15 sample (R153). -/
def mag16 (p : Int × Int) : Nat := rootNear (4 * mag2 p)

/-- The input clamp (R153): a magnitude above 2.0 is scaled to 2.0; and whether it was. -/
def pdClamp (p : Int × Int) : (Int × Int) × Bool :=
  if mag2 p > 2 ^ 32 then ((scaleTo (2 ^ 16) (mag2 p) p.1, scaleTo (2 ^ 16) (mag2 p) p.2), true) else (p, false)

/-- |x|^p in unsigned Q9.16 (R153). -/
def magPow (m p : Nat) : Int := roundShift ((m : Int) ^ p) (16 * (p - 1))

/-- The basis x · |x|^(k − 1), complex Q11.16 (R153). -/
def basis (k : Nat) (x : Int × Int) : Int × Int :=
  if k ≤ 1 then (2 * x.1, 2 * x.2)
  else
    let w := magPow (mag16 x) (k - 1)
    (roundShift (x.1 * w) 15, roundShift (x.2 * w) 15)

/-- Complex product. -/
def cmul (a b : Int × Int) : Int × Int := (a.1 * b.1 - a.2 * b.2, a.1 * b.2 + a.2 * b.1)

/-- Complex sum. -/
def cadd (a b : Int × Int) : Int × Int := (a.1 + b.1, a.2 + b.2)

/-- The output u of the evaluator, rounded and saturated to Q2.16, and whether a component saturated (R153). -/
def pdOut (frac : Nat) (a : Int × Int) : (Int × Int) × Bool :=
  let r := (roundShift a.1 frac, roundShift a.2 frac)
  let y := (satS 18 r.1, satS 18 r.2)
  (y, y ≠ r)

/-- Enable, order and memory tap of own slot `i` of a chain (R150). -/
def State.term (s : State) (ch i : Nat) : Bool × Nat × Nat :=
  let b := bits (s.reg (R.PD_TERMS ch (i / 4))).toNat (8 * (i % 4) + 7) (8 * (i % 4))
  (b.testBit 7, bits b 6 3, bits b 2 0)

/-- The neighbour `j` of a chain, if valid (R151). -/
def State.neighbour (s : State) (ch j : Nat) : Option Nat :=
  let b := bits (s.reg (R.PD_NBR ch)).toNat (8 * j + 7) (8 * j)
  if b.testBit 7 then some (b % 64) else none

/-- The neighbour gate (R152) at sample `j` of cycle `c`: 0 where the neighbour's DAC input is forced to zero, 1 elsewhere, a mute ramp
included. -/
def State.nbrGate (s : State) (ch c j : Nat) : Bool := s.dacGate ch c j ≠ 0

/-- The evaluator's sum at the sample `n` of a stretch that starts on cycle `a` (R149); `x` gives each chain's clamped stream from eight samples
before the stretch. -/
def State.pdSum (s : State) (ch a n : Nat) (x : Nat → List (Int × Int)) : Int × Int :=
  let c := a + n / 3
  let own := (List.range 64).foldl (fun acc i =>
    let (en, k, m) := s.term ch i
    if en then cadd acc (cmul (s.workCoef ch i c) (basis k ((x ch).getD (n + 8 - m) (0, 0)))) else acc) (0, 0)
  (List.range 4).foldl (fun acc j =>
    match s.neighbour ch j with
    | none => acc
    | some nb =>
      [(0, 0), (0, 1), (1, 0), (1, 1)].foldl (fun acc (o, m) =>
        let t := 3 * a + n - m
        if s.nbrGate nb (t / 3) (t % 3) then
          cadd acc (cmul (s.workCoef ch (64 + 4 * j + 2 * o + m) c) (basis (2 * o + 1) ((x nb).getD (n + 8 - m) (0, 0))))
        else acc) acc) own

/-- Whether a chain's samples leave as bypass output on cycle `c` (R154, R172, R174). -/
def State.pdBypassed (s : State) (ch c : Nat) : Bool :=
  s.pdState ch == pdBypass || (s.pdx ch).byp.any (· ≤ c) || (s.pdx ch).noSpare

/-- A stretch of a chain's stream from cycle `a` on passes the predistorter (R149 to R154, R172, R174): its output, and how many samples
saturated. -/
def State.pdStream (s : State) (ch a len : Nat) (x : Nat → List (Int × Int)) : List (Int × Int) × Nat :=
  let g := s.getS (R.PD_BYP_G_GAIN ch)
  let mute := (s.pdx ch).noSpare && s.flag (R.PD_CHCFG_NOSPARE_MUTE ch)
  let u := (List.range len).map fun n =>
    if mute then (((0 : Int), (0 : Int)), false)
    else if s.pdBypassed ch (a + n / 3) then
      let v := (x ch).getD (n + 8) (0, 0)
      pdOut 13 (v.1 * g, v.2 * g)
    else pdOut 18 (s.pdSum ch a n x)
  (u.map Prod.fst, (u.filter Prod.snd).length)

/-! ### Chain stages and converters (R53, R65, R72, R73, R121 steps 8 and 9) -/

/-- A stretch of a chain's predistorted stream from cycle `a` on passes the chain stages: the DAC samples, and how many saturated. The rotation
of R65 comes first (DESIGN CHOICE, log 62: R65 names no stage for it). -/
def State.txStage (s : State) (ch a : Nat) (u : List (Int × Int)) : List (Int × Int) × Nat :=
  let g := toInt 16 (s.wget (R.TX_IQ_GAIN ch))
  let p := toInt 16 (s.wget (R.TX_IQ_PHASE ch))
  let li := toInt 12 (s.wget (R.TX_LOL_LOL_I ch))
  let lq := toInt 12 (s.wget (R.TX_LOL_LOL_Q ch))
  let l := u.mapIdx fun n x =>
    let x := s.phComp 0 18 ch x
    let y := iqCorrect 18 g p x.1 x.2
    let w := s.dacGate ch (a + n / 3) (n % 3)
    let i := dacInput w li y.1
    let q := dacInput w lq y.2
    ((i.1, q.1), i.2 || q.2)
  (l.map Prod.fst, (l.filter Prod.snd).length)

/-- Saturated samples of the interpolation by 2 (R121 step 9) at the middle of a stream of DAC samples, 39 samples from each end. -/
def interpolate2Sat (x : List (Int × Int)) : Nat :=
  ((List.range (2 * (x.length - 78))).filter fun i =>
    let v := filtered .up2 0 (i % 2) ((x.drop (i / 2)).take 79)
    let z := (roundShift v.1 16, roundShift v.2 16)
    (satS 14 z.1, satS 14 z.2) ≠ z).length

/-- Saturated samples of a quadrant are counted (R121). -/
def State.satQuad (s : State) (f : Field) (q n : Nat) (g : BoundX → BoundX) : State :=
  if n = 0 then s else let s := s.raiseBit f q; { s with bound := g s.bound }

/-! ### The streams leave -/

/-- The state with the carrier samples of the symbols that begin within 418 cycles from cycle `b`, as they will be with what is shadowed now: the
filters and crest-factor reduction look ahead by less (R147). -/
def State.ahead (s : State) (b : Nat) : State :=
  forAll slots (fun cs t =>
    match s.bf.dlOut.find? fun r => r.cs == cs with
    | some r =>
      let at0 := (s.frameStart r.frame).toNat + symStart (s.slotMu .dl cs) r.sym
      if b ≤ at0 ∧ at0 < b + 418 ∧ !t.sig.waves.any (fun w => w.cs == cs && w.frame == r.frame && w.sym == r.sym) then
        ((({ t with now := at0 }).applyCarrier .dl cs).addWave cs r.frame r.sym at0)
      else t
    | none => t) s

/-- Whether the downlink has nothing on its way. -/
def State.txQuiet (s : State) (b : Nat) : Bool :=
  (s.ahead b).sig.waves.isEmpty && s.dfe.pbWin.isNone && s.sig.comp.isEmpty && s.sig.pre.isEmpty && s.sig.dac.isEmpty
    && s.pd.all (fun x => x.hist.isEmpty) && s.pilotChain.isNone

/-- The last `n` samples of a list, or none if they are all zero. -/
def lastOf (n : Nat) (x : List (Int × Int)) : List (Int × Int) :=
  let y := x.drop (x.length - n)
  if allZero y then [] else y

/-- Streams kept per chain: those that hold something. -/
def keep (l : List (Nat × List (Int × Int))) : List (Nat × List (Int × Int)) := l.filter fun x => !x.2.isEmpty

/-- The gates of a chain before cycle `c` that are past are dropped. -/
def trimGates (c : Nat) (l : List Gate) : List Gate :=
  let old := l.filter fun g => g.from0 + 64 < c
  (match old.getLast? with | some g => [g] | none => []) ++ l.filter fun g => !(g.from0 + 64 < c)

/-- The downlink streams of every chain leave up to cycle `b` at the port, with what is in force (R121 steps 2 to 9): saturation is flagged and
counted, crest-factor reduction counts, IN_CLAMP, OUT_SAT and TX_CLIPCNT count. What saturates in the interpolation by 2 counts 13 cycles
later, when it has passed. -/
def State.txAdvance (b : Nat) (s : State) : State :=
  let a := s.sig.txDone
  if b ≤ a then s
  else if s.txQuiet b then s.modSig fun x => { x with txDone := b }
  else
    let t := s.ahead b
    let n := b - a
    let chs := List.range 64
    let comp := chs.map fun ch => (List.range (n + 206)).map fun i =>
      let x := t.composite t.sig.waves ch (a + i)
      (s.pbInject false ch (a + i) 0 x.1, x.2)
    let up := comp.mapIdx fun ch x => interpolate3 (3 * n) (pastOf s.sig.comp ch 30 ++ x.map Prod.fst)
    let pre := up.mapIdx fun ch x => pastOf s.sig.pre ch 768 ++ x.1
    let cfr := pre.mapIdx fun ch x =>
      let l := s.sig.cfr.filter fun y => y.q == quadOf ch
      cfrStretch (fun c => cfrAt l (c + s.tm.epoch)) (3 * (a - s.tm.epoch) - 768) 768 (768 + 3 * n) x
    let pdIn := cfr.mapIdx fun ch x => ((x.1.drop 768).take (3 * n)).mapIdx fun i v => pdClamp (s.addPilot ch (a + i / 3) (i % 3) (s.pbInject true ch (a + i / 3) (i % 3) v))
    let x := pdIn.mapIdx fun ch l =>
      let h := (s.pdx ch).hist
      List.replicate (8 - h.length) (0, 0) ++ h ++ l.map Prod.fst
    let u := chs.map fun ch => s.pdStream ch a (3 * n) fun c => x.getD c []
    let dac := chs.map fun ch => s.txStage ch a (u.getD ch ([], 0)).1
    let out := dac.mapIdx fun ch y => pastOf s.sig.dac ch 78 ++ y.1
    let s1 := s.modSig fun x => { x with
      txDone := b
      comp := keep (comp.mapIdx fun ch y => (ch, lastOf 30 ((pastOf s.sig.comp ch 30 ++ y.map Prod.fst).take (n + 30))))
      pre := keep (pre.mapIdx fun ch y => (ch, lastOf 768 (y.take (768 + 3 * n))))
      dac := keep (out.mapIdx fun ch y => (ch, if allZero y then [] else y)) }
    forAll chs (fun ch s =>
      let q := quadOf ch
      let r := cfr.getD ch ([], 0, 0, 0)
      let nComp := (((comp.getD ch []).take n).filter Prod.snd).length + (up.getD ch ([], 0)).2
      let s := s.satQuad R.DFE_SAT_COMP_SAT q nComp fun y => { y with compSat := updAt y.compSat q (· + nComp) }
      let s := ((s.countBy (R.CFR_PEAKS_COUNT q) r.2.1).countBy (R.CFR_MISSED_COUNT q) r.2.2.1).countBy (R.CFR_HCLIP_COUNT q) r.2.2.2
      let s := s.countBy (R.PD_CNT_IN_CLAMP ch) ((pdIn.getD ch []).filter Prod.snd).length
      let nSat := (u.getD ch ([], 0)).2
      let s := (s.countBy (R.PD_CNT_OUT_SAT ch) nSat).modPd ch fun y => { y with
        hist := lastOf 8 (x.getD ch []), sat := y.sat.map (· + nSat) }
      let nClip := (dac.getD ch ([], 0)).2
      let s := doIf (0 < nClip) (fun s => (s.countChain ch 0 nClip 0).raise (R.CH_STATUS_TX_CLIP ch)) s
      let nConv := interpolate2Sat (out.getD ch [])
      (s.satQuad R.DFE_SAT_CONV_SAT q nConv fun y => { y with convSat := updAt y.convSat q (· + nConv) }).modChain ch fun y =>
        { y with gateLog := trimGates b y.gateLog }) s1

end Sys2Proof.Machine
end

