-- ==== Sys2Proof/Machine/Predist.lean ====
section
/-! DEFINITION. Array-aware predistortion: the evaluator, the coefficient lifecycle, band sets, residue and spares (chapter 5). -/

namespace Sys2Proof.Machine

/-! ### Refusals (R176) -/

/-- A write to a chain's predistorter is refused with a code. -/
def State.pdRefuse (s : State) (ch code : Nat) : Wr := .error ((s.put (R.PD_STATE_REFUSE ch) code).raise R.PD_STATUS_WR_REFUSED)

/-- R161: no two enabled slots share order and tap, and every enabled order lies from 1 to 9. -/
def State.termsOk (s : State) (ch : Nat) : Bool :=
  let l := ((List.range 64).map fun i => s.term ch i).filter fun t => t.1
  l.all (fun t => 1 ≤ t.2.1 && t.2.1 ≤ 9) && (l.map Prod.snd).Nodup

/-! ### The lifecycle (R158 to R168) -/

/-- Words of the coefficient RAM that a check finds in error (R158), by 1280 · chain + 160 · bank + word. -/
abbrev PdEcc := List (Nat × EccFinding)

/-- Errors come up in words of the coefficient RAM; they stay until a word is rewritten (R158). -/
def State.pdErrors (s : State) (ecc : PdEcc) : State :=
  { s with pdEcc := s.pdEcc ++ ecc.filterMap fun e =>
      match e.2 with
      | .clean => none
      | .single _ => some (e.1, false)
      | .double _ => some (e.1, true) }

/-- A word of the coefficient RAM is rewritten (R158). -/
def State.pdRewrite (s : State) (ch w : Nat) : State :=
  { s with pdEcc := s.pdEcc.filter fun e => e.1 ≠ 1280 * ch + w }.modPd ch fun x => { x with badWords := x.badWords.filter (· ≠ w) }

/-- Whether a bank waits to be rewritten after an uncorrectable error (R158). -/
def PdX.bankBad (x : PdX) (b : Nat) : Bool := x.badWords.any fun w => w / 160 == b

/-- A bank is loaded (R158): the state, and whether the load succeeded. Each corrected word is counted and reported; after an uncorrectable one the
bank stays unusable until each of its words has been rewritten. -/
def State.loadBank (s : State) (ch b : Nat) : State × Bool :=
  let found := s.pdEcc.filter fun e => e.1 / 160 == 8 * ch + b
  if (s.pdx ch).bankBad b || found.any Prod.snd then
    (((s.raise R.PD_STATUS_ECC_UE).report { mkReport 0x0A .clsU 0x0011 ch with sub := b }).modPd ch fun x =>
      { x with badWords := if x.bankBad b then x.badWords else x.badWords ++ (List.range 160).map (160 * b + ·) }, false)
  else
    (forAll found (fun _ s =>
      ((s.raise R.PD_STATUS_ECC_CE).count R.PD_STATUS_ECC_CE_CNT).report { mkReport 0x0A .clsC 0x0010 ch with sub := b }) s, true)

/-- The command of a commit completes. -/
def State.pdComplete (s : State) (ch : Nat) (st : Status) (done : List Byte) : State :=
  let c := (s.pdx ch).cmd
  (s.modPd ch fun x => { x with cmd := none }).completeJob c st done

/-- A chain enters STEADY; a pending band change starts at the following boundary (R168). -/
def State.pdToSteady (s : State) (ch : Nat) : State :=
  let pend := s.flag (R.PD_STATE_PEND_BAND ch)
  ((s.put (R.PD_STATE_STATE ch) pdSteady).put (R.PD_STATE_TGT_NOW ch) 0).modPd ch fun x =>
    { x with fadeAt := none, step := 0, bandDue := pend }

/-- GOOD is loaded in one step (R166). Where GOOD itself cannot be loaded, no set is left and the chain is in BYPASS with reason ECC (DESIGN
CHOICE, log 20: R158 and R166 name no state for it). -/
def State.pdLoadGood (ch : Nat) (s : State) : State :=
  let g := s.get (R.PD_STATE_GOOD ch)
  let (s, ok) := s.loadBank ch g
  let s := if ok then (s.put (R.PD_STATE_CUR ch) g).pdToSteady ch
    else ((s.pdToSteady ch).put (R.PD_STATE_STATE ch) pdBypass).put (R.PD_STATE_REASON ch) 4
  let r := s.get (R.PD_STATE_REASON ch)
  (s.event (.pdRollback ch r)).pdComplete ch .aborted (beBytes 1 r)

/-- A chain enters ROLLBACK with a reason (R166); from BAND_FADE the band change stays pending. -/
def State.pdRoll (s : State) (ch reason : Nat) : State :=
  let s := doIf (s.pdState ch == pdBandFade) (fun s => s.put (R.PD_STATE_PEND_BAND ch) 1) s
  ((s.put (R.PD_STATE_STATE ch) pdRollback).put (R.PD_STATE_REASON ch) reason).modPd ch fun x => { x with goPend := false }

/-- EN = 0 takes effect (R161): BYPASS, with nothing of the lifecycle left. -/
def State.pdStop (s : State) (ch : Nat) : State :=
  let s := (s.put (R.PD_STATE_STATE ch) pdBypass).put (R.PD_STATE_PEND_BAND ch) 0
  let s := ((s.put (R.PD_STATE_CUR ch) 0).put (R.PD_STATE_GOOD ch) 0).put (R.PD_STATE_TGT_NOW ch) 0
  let s := s.modPd ch fun x => { x with enPend := none, goPend := false, bandDue := false, fadeAt := none, step := 0 }
  s.pdComplete ch .aborted (beBytes 1 0)

/-- EN = 1 takes effect (R161): the start bank is loaded; an uncorrectable one leaves the chain in BYPASS with reason ECC. -/
def State.pdStart (s : State) (ch : Nat) : State :=
  let band := s.get (R.PD_TSEL_BAND_NOW (quadOf ch))
  let b := if s.flag R.PD_CFG_TBAND_EN then bits (s.get (R.PD_TBMAP_BANKS ch)) (3 * band + 2) (3 * band) else s.get (R.PD_CHCFG_INIT ch)
  let s := s.modPd ch fun x => { x with enPend := none }
  let (s, ok) := s.loadBank ch b
  if ok then
    let s := ((s.put (R.PD_STATE_CUR ch) b).put (R.PD_STATE_GOOD ch) b).put (R.PD_STATE_BAND ch) band
    s.pdToSteady ch
  else (s.put (R.PD_STATE_REASON ch) 4).event (.pdRollback ch 4)

/-- The cycle on which what waits for the next boundary of R160 takes place: now, or the next alignment edge while no downlink slot is in force on
the chain's quadrant. -/
def State.pdNow (s : State) (ch : Nat) : Nat := if (s.activeOn .dl (quadOf ch)).isEmpty then s.alignEdge else s.now

/-- A fade starts toward a bank (R162, R163, R168); both banks are loaded. -/
def State.pdFade (s : State) (ch tgt st : Nat) : State :=
  let s := ((s.put (R.PD_STATE_GOOD ch) (s.get (R.PD_STATE_CUR ch))).put (R.PD_STATE_TGT_NOW ch) tgt).put (R.PD_STATE_STATE ch) st
  let c := s.pdNow ch
  let s := s.modPd ch fun x => { x with fadeAt := some c, step := 1, lastFade := if st = pdFading then some c else x.lastFade }
  let (s, a) := s.loadBank ch (s.get (R.PD_STATE_CUR ch))
  let (s, b) := s.loadBank ch tgt
  if a && b then s else (s.pdRoll ch 4).modPd ch fun x => { x with fadeAt := none }

/-- The band bank of a chain (R168). -/
def State.bandBank (s : State) (ch band : Nat) : Nat := bits (s.get (R.PD_TBMAP_BANKS ch)) (3 * band + 2) (3 * band)

/-- A band fade starts, if the band's bank differs from CUR (R168). -/
def State.pdBandStart (s : State) (ch : Nat) : State :=
  let band := s.get (R.PD_TSEL_BAND_NOW (quadOf ch))
  let s := (s.modPd ch fun x => { x with bandDue := false, bandTo := band }).put (R.PD_STATE_PEND_BAND ch) 0
  let b := s.bandBank ch band
  if b = s.get (R.PD_STATE_CUR ch) then s.put (R.PD_STATE_BAND ch) band else s.pdFade ch b pdBandFade

/-- The spare takes over a chain, or none is left (R173, R174): `own` when the chain's own evaluator failed. -/
def State.pdRepair (s : State) (ch : Nat) (sy : Nat × Nat) : State :=
  let q := quadOf ch
  let onSpare := s.flag (R.PD_REPAIR_SPARE_BUSY q) && s.get (R.PD_REPAIR_SPARE_CH q) == ch
  let s := s.modPd ch fun x => { x with resid := none, byp := none }
  if onSpare then
    let s := (s.put (R.PD_REPAIR_SPARE_FAILED q) 1).put (R.PD_REPAIR_SPARE_BUSY q) 0
    ((s.modPd ch fun x => { x with noSpare := true }).report (mkReport 0x0A .clsU 0x0013 ch)).event (.pdNoSpare ch)
  else
    let s := s.raiseBit (R.PD_REPAIR_FAILED q) (ch % 16)
    if s.flag (R.PD_REPAIR_SPARE_BUSY q) || s.flag (R.PD_REPAIR_SPARE_FAILED q) then
      ((s.modPd ch fun x => { x with noSpare := true }).report (mkReport 0x0A .clsU 0x0013 ch)).event (.pdNoSpare ch)
    else
      let s := (s.put (R.PD_REPAIR_SPARE_BUSY q) 1).put (R.PD_REPAIR_SPARE_CH q) ch
      (s.report (mkReport 0x0A .clsC 0x0012 ch)).event (.pdResidue ch (sy.1 % 1024) sy.2)

/-- The next boundary of R160 on a chain's quadrant: a rollback loads GOOD; EN, a commit or a band fade takes effect; a repair takes
place once the failing sample has passed. -/
def State.pdBoundary (ch : Nat) (s : State) : State :=
  let s := match (s.pdx ch).resid with
    | some sy => if (s.pdx ch).byp.all (· < s.now) || (s.activeOn .dl (quadOf ch)).isEmpty then s.pdRepair ch sy else s
    | none => s
  let was := s.pdState ch
  match (s.pdx ch).enPend with
  | some false => s.pdStop ch
  | some true => s.pdStart ch
  | none =>
    if was = pdRollback then s.pdLoadGood ch
    else if (s.pdx ch).goPend && was == pdSteady then
      let s := doIf (s.pdx ch).bandDue (fun s => s.put (R.PD_STATE_PEND_BAND ch) 1) s
      let s := s.modPd ch fun x => { x with goPend := false, bandDue := false }
      s.pdFade ch (s.get (R.PD_STATE_TGT_NOW ch)) pdFading
    else if (s.pdx ch).bandDue && was == pdSteady then s.pdBandStart ch
    else s

/-- With no downlink slot in force on the quadrant the next boundary is the first alignment edge (R160): what waits happens now. -/
def State.pdKick (s : State) (ch : Nat) : State :=
  if (s.activeOn .dl (quadOf ch)).isEmpty then ((s.pdBoundary ch).pdBoundary ch).pdBoundary ch else s

/-- A write of PD_CHCFG.EN (R161); `pre` is what the same write stores beside it. -/
def State.pdEnWith (s : State) (ch : Nat) (v : Bool) (pre : State → State) : Wr :=
  let old := s.flag (R.PD_CHCFG_EN ch)
  if v && !old then
    if s.termsOk ch then .ok ((((pre s).put (R.PD_CHCFG_EN ch) 1).modPd ch fun x => { x with enPend := some true }).pdKick ch)
    else s.pdRefuse ch 4
  else if !v && old then .ok ((((pre s).put (R.PD_CHCFG_EN ch) 0).modPd ch fun x => { x with enPend := some false }).pdKick ch)
  else .ok (pre s)

/-- PD_CHCFG.EN is written (R161). -/
def State.pdEnWrite (s : State) (ch : Nat) (v : Bool) (ecc : PdEcc) : Wr := (s.pdErrors ecc).pdEnWith ch v id

/-- The refusal code of a commit (R162), 0 if it is accepted. -/
def State.pdGoCode (s : State) (ch tgt : Nat) : Nat :=
  if s.pdState ch ≠ pdSteady then 1
  else if (s.pdx ch).lastFade.any (fun c => s.now < c + 4915200) then 2
  else if tgt = s.get (R.PD_STATE_CUR ch) then 3
  else 0

/-- A write of PD_CMD.GO with its target (R162). `cmd` is the command to complete. A commit that is accepted while an earlier one still waits for
its boundary takes its place; the earlier one's command completes with ABORTED (DESIGN CHOICE, log 20). -/
def State.pdGo (s : State) (ch tgt : Nat) (cmd : Option Cmd) (ecc : PdEcc) : Wr :=
  let s := s.pdErrors ecc
  match s.pdGoCode ch tgt with
  | 0 =>
    let s := doIf (s.pdx ch).goPend (fun s => s.pdComplete ch .aborted (beBytes 1 0)) s
    let s := (s.put (R.PD_CMD_TGT ch) tgt).put (R.PD_STATE_TGT_NOW ch) tgt
    .ok ((s.modPd ch fun x => { x with goPend := true, cmd := cmd }).pdKick ch)
  | code => s.pdRefuse ch code

/-- A write of PD_CMD.ROLLBACK (R166). -/
def State.pdForce (s : State) (ch : Nat) : State :=
  let st := s.pdState ch
  if st = pdFading ∨ st = pdVerify ∨ st = pdBandFade then (s.pdRoll ch 5).pdKick ch else s

/-- A write of PD_ACL.POST in VERIFY is compared with PRE (R164). -/
def State.pdPost (s : State) (ch post : Nat) : State :=
  let s := s.put (R.PD_ACL_POST ch) post
  if s.getS (R.PD_ACL_POST ch) - s.getS (R.PD_ACL_PRE ch) > s.get R.PD_CFG_ROLLBACK_THR then (s.pdRoll ch 1).pdKick ch
  else
    let b := s.get (R.PD_STATE_CUR ch)
    let s := ((s.put (R.PD_STATE_GOOD ch) b).pdToSteady ch).event (.pdUpdated ch b)
    (s.pdComplete ch .ok []).pdKick ch

/-- A write of PD_ACL.POST (R164): refused outside VERIFY. -/
def State.pdPostWrite (s : State) (ch post : Nat) : Wr :=
  if s.pdState ch = pdVerify then .ok (s.pdPost ch post) else s.pdRefuse ch 6

/-- FADE_STEP (R163). -/
def State.fadeStep (s : State) (ch : Nat) : State :=
  match (s.pdx ch).fadeAt with
  | some c =>
    let n := (s.pdx ch).step
    if n < 64 ∧ (s.pdState ch = pdFading ∨ s.pdState ch = pdBandFade) then
      (s.advanceTo (c + n * 1966)).modPd ch fun x => { x with step := n + 1 }
    else s
  | none => s

/-- FADE_COMPLETE (R163, R164): FADING enters VERIFY, BAND_FADE enters STEADY. -/
def State.fadeComplete (s : State) (ch : Nat) : State :=
  match (s.pdx ch).fadeAt with
  | some c =>
    if s.pdState ch = pdFading then
      let s := (s.advanceTo (c + 125824)).txAdvance (c + 125824)
      let s := (s.put (R.PD_STATE_CUR ch) (s.get (R.PD_STATE_TGT_NOW ch))).put (R.PD_STATE_STATE ch) pdVerify
      s.modPd ch fun x => { x with fadeAt := none, step := 0, verifyFrame := s.frameNo s.now }
    else if s.pdState ch = pdBandFade then
      let s := (s.advanceTo (c + 125824)).txAdvance (c + 125824)
      let b := s.get (R.PD_STATE_TGT_NOW ch)
      let s := ((s.put (R.PD_STATE_CUR ch) b).put (R.PD_STATE_GOOD ch) b).put (R.PD_STATE_BAND ch) (s.pdx ch).bandTo
      (s.pdToSteady ch).pdKick ch
    else s
  | none => s

/-- VERIFY_TIMEOUT (R164, R166): VERIFY_FRAMES frame boundaries after VERIFY began. -/
def State.verifyTimeout (s : State) (ch : Nat) : State :=
  if s.pdState ch = pdVerify then
    let n := max 1 (s.get R.PD_CFG_VERIFY_FRAMES)
    let s := s.advanceTo (s.frameStart ((s.pdx ch).verifyFrame + n)).toNat
    (s.pdRoll ch 3).pdKick ch
  else s

/-- A downlink symbol of a slot ends: its saturated output samples are judged (R165), and counted anew. -/
def State.pdDiverge (s : State) (cs ch : Nat) : State :=
  let st := s.pdState ch
  let n := (s.pdx ch).sat.getD cs 0
  let s := s.modPd ch fun x => { x with sat := updAt x.sat cs fun _ => 0 }
  if (st = pdFading ∨ st = pdVerify ∨ st = pdBandFade) ∧ s.get R.PD_CFG_DIV_THR < n then s.pdRoll ch 2 else s

/-- The device leaves ACTIVE (R166, R171): a lifecycle in progress rolls back at once with reason POWER; a commit not started is
abandoned with it. -/
def State.pdPower (ch : Nat) (s : State) : State :=
  let st := s.pdState ch
  if st = pdFading ∨ st = pdVerify ∨ st = pdBandFade then (s.pdRoll ch 6).pdLoadGood ch
  else if st = pdRollback then s.pdLoadGood ch
  else if (s.pdx ch).goPend then
    ((s.modPd ch fun x => { x with goPend := false }).put (R.PD_STATE_TGT_NOW ch) 0).pdComplete ch .aborted (beBytes 1 6)
  else s

/-- Cycles from the predistorter's output to the TX port (R578). -/
def pdToPort : Nat := 22

/-- EVALUATOR_RESIDUE_MISMATCH (R172): the sample that leaves the evaluator now, and the later ones to the end of its symbol, are bypass output; the
repair follows at the next boundary. -/
def State.pdMismatch (s : State) (ch : Nat) : State :=
  let cs := (s.activeOn .dl (quadOf ch)).headD 0
  let c := s.now + pdToPort
  let (f, n, _) := s.symNow .dl (s.slotMu .dl cs) c
  let s := s.raise (R.PD_STATE_RESIDUE ch)
  if (s.pdx ch).noSpare || (s.pdx ch).byp.isSome then s
  else (s.modPd ch fun x => { x with byp := some c, resid := some (f, n) }).pdKick ch

/-! ### Temperature bands (R167, R168) -/

/-- The upper boundary of a band in °C. -/
def bandTop (b : Nat) : Int :=
  match b with
  | 0 => -20
  | 1 => 20
  | 2 => 60
  | _ => 95

/-- The band of an average `num`/`den` in units of 0.125 °C, without hysteresis (R167). -/
def bandPlain (num : Int) (den : Nat) : Nat :=
  ((List.range 4).filter fun b => bandTop b * 8 * den ≤ num).length

/-- The band of an average with hysteresis of 3 °C from band `b` (R167). -/
def bandStep (num : Int) (den : Nat) : Nat → Nat → Nat
  | 0, b => b
  | fuel + 1, b =>
    if b < 4 ∧ (bandTop b + 3) * 8 * den ≤ num then bandStep num den fuel (b + 1)
    else if 0 < b ∧ num ≤ (bandTop (b - 1) - 3) * 8 * den then bandStep num den fuel (b - 1)
    else b

/-- A quadrant's band is evaluated at a frame boundary from the average of its sensor over the frame (R167, R168). -/
def State.bandEval (s : State) (q : Nat) (num : Int) (den : Nat) : State :=
  if s.flag R.PD_CFG_TBAND_EN then
    let b := s.get (R.PD_TSEL_BAND_NOW q)
    let n := if s.pdFresh.getD q false then bandPlain num den else bandStep num den 5 b
    let s := { s with pdFresh := updAt s.pdFresh q fun _ => false }
    if n = b then s
    else
      let s := (s.put (R.PD_TSEL_BAND_NOW q) n).event (.pdBand q n)
      forAll (chainsOf q) (fun ch s =>
        if s.pdState ch = pdBypass then s
        else if s.pdState ch = pdSteady ∧ !(s.pdx ch).goPend then
          (s.modPd ch fun x => { x with bandDue := true }).pdKick ch
        else s.put (R.PD_STATE_PEND_BAND ch) 1) s
  else s

/-! ### Register writes (R151, R157, R159, R176) -/

/-- Whether a coefficient bank is in use (R159). -/
def State.bankInUse (s : State) (ch b : Nat) : Bool :=
  let st := s.pdState ch
  let tgt := st == pdFading || st == pdVerify || st == pdRollback || st == pdBandFade || (s.pdx ch).goPend
  st ≠ pdBypass && (b = s.get (R.PD_STATE_CUR ch) || b = s.get (R.PD_STATE_GOOD ch) || (tgt && b = s.get (R.PD_STATE_TGT_NOW ch)))

/-- A write of a predistortion register. -/
def writePD (r : RegRow) (ix : List Nat) (a : Nat) (v : Word) (s : State) : Wr :=
  let ch := ix.getD 0 0
  let direct := s.plainWrite r a v
  let changes := direct.reg a ≠ s.reg a
  let en := s.flag (R.PD_CHCFG_EN ch)
  match r.id with
  | .PD_CFG =>
    let on := !s.flag R.PD_CFG_TBAND_EN && R.PD_CFG_TBAND_EN.of v = 1
    .ok (doIf on (fun s => { s with pdFresh := [true, true, true, true] }) direct)
  | .PD_TSEL =>
    if 23 < (R.PD_TSEL_SENSOR ch).of v then
      .error ((forAll (chainsOf ch) (fun c s => s.put (R.PD_STATE_REFUSE c) 7) s).raise R.PD_STATUS_WR_REFUSED)
    else .ok direct
  | .PD_CNT_CLR =>
    if v.toNat.testBit 0 then
      .ok (forAll (List.range 64) (fun c s => s.setReg (R.PD_CNT c) 0) (s.put R.PD_STATUS_ECC_CE_CNT 0))
    else .ok s
  | .PD_CHCFG =>
    s.pdEnWith ch ((R.PD_CHCFG_EN ch).of v = 1) fun s =>
      (s.put (R.PD_CHCFG_INIT ch) ((R.PD_CHCFG_INIT ch).of v)).put (R.PD_CHCFG_NOSPARE_MUTE ch) ((R.PD_CHCFG_NOSPARE_MUTE ch).of v)
  | .PD_NBR =>
    if en && changes then s.pdRefuse ch 5
    else if (List.range 4).any (fun j => direct.neighbour ch j == some ch) then s.pdRefuse ch 7
    else .ok direct
  | .PD_TERMS => if en && changes then s.pdRefuse ch 5 else .ok direct
  | .PD_CMD =>
    let t := doIf (v.toNat.testBit 1) (fun s => s.pdForce ch) s
    let tgt := (R.PD_CMD_TGT ch).of v
    if !v.toNat.testBit 0 then .ok (t.put (R.PD_CMD_TGT ch) tgt)
    else match t.pdGo ch tgt none [] with
      | .ok t => .ok t
      | .error _ => s.pdRefuse ch (t.pdGoCode ch tgt)
  | .PD_ACL =>
    let post := (R.PD_ACL_POST ch).of v
    if s.pdState ch = pdVerify then .ok ((s.put (R.PD_ACL_PRE ch) ((R.PD_ACL_PRE ch).of v)).pdPost ch post)
    else if post ≠ s.get (R.PD_ACL_POST ch) then s.pdRefuse ch 6
    else .ok direct
  | .COEF_I =>
    if s.bankInUse ch (ix.getD 1 0) then s.pdRefuse ch 3
    else .ok (direct.pdRewrite ch (160 * ix.getD 1 0 + 2 * ix.getD 2 0))
  | .COEF_Q =>
    if s.bankInUse ch (ix.getD 1 0) then s.pdRefuse ch 3
    else .ok (direct.pdRewrite ch (160 * ix.getD 1 0 + 2 * ix.getD 2 0 + 1))
  | _ => writeDFE r ix a v s

/-! ### Meanings -/

/-- PD_ENABLE_WRITE (R161). -/
def execPdEnableWrite (ch : Nat) (v : Bool) (ecc : List (Nat × EccFinding)) (s : State) : Host.Outcome State Fault Refusal :=
  .next (s.pdEnWrite ch v ecc).state

/-- PD_CMD_GO (R162). -/
def execPdCmdGo (ch tgt : Nat) (ecc : List (Nat × EccFinding)) (s : State) : Host.Outcome State Fault Refusal :=
  .next (s.pdGo ch tgt none ecc).state

/-- PD_CMD_ROLLBACK (R166). -/
def execPdCmdRollback (ch : Nat) (s : State) : Host.Outcome State Fault Refusal := .next (s.pdForce ch)

/-- PD_ACL_POST (R164). -/
def execPdAclPost (ch post : Nat) (s : State) : Host.Outcome State Fault Refusal := .next (s.pdPostWrite ch post).state

/-- FADE_STEP (R163). -/
def execFadeStep (ch : Nat) (s : State) : Host.Outcome State Fault Refusal := .next (s.fadeStep ch)

/-- FADE_COMPLETE (R163). -/
def execFadeComplete (ch : Nat) (s : State) : Host.Outcome State Fault Refusal := .next (s.fadeComplete ch)

/-- VERIFY_TIMEOUT (R166). -/
def execVerifyTimeout (ch : Nat) (s : State) : Host.Outcome State Fault Refusal := .next (s.verifyTimeout ch)

/-- EVALUATOR_RESIDUE_MISMATCH (R172). -/
def execEvaluatorResidueMismatch (ch : Nat) (s : State) : Host.Outcome State Fault Refusal := .next (s.pdMismatch ch)

end Sys2Proof.Machine
end

