-- ==== Sys2Proof/Machine/LowPhy.lean ====
section
/-! DEFINITION. Low PHY: carrier slots, the slot table, SMEM buffers, PRACH extraction (chapter 6). -/

namespace Sys2Proof.Machine

/-! ### Carrier slots (R178 to R182) -/

/-- fs_c in units of 491.52 MS/s / 128 (R178). -/
def fsUnits (mu log2n : Nat) : Nat := 2 ^ (mu + log2n) / 2 ^ 8

/-- Layers of a slot. -/
def State.slotNL (s : State) (d : Dir) (cs : Nat) : Nat := s.get (R.CS_FFT_NL (dirIx d) cs)

/-- PRB of a slot. -/
def State.slotRB (s : State) (d : Dir) (cs : Nat) : Nat := s.get (R.CS_CFG_N_RB (dirIx d) cs)

/-- QMASK of a slot. -/
def State.slotQ (s : State) (d : Dir) (cs : Nat) : Nat := s.get (R.CS_CFG_QMASK (dirIx d) cs)

/-- EN of a slot. -/
def State.slotEn (s : State) (d : Dir) (cs : Nat) : Bool := s.flag (R.CS_CFG_EN (dirIx d) cs)

/-- A_cs: one antenna or layer row of 16-bit I/Q, in bytes (R203). -/
def rowBytes (rb : Nat) : Nat := ceilDiv (12 * rb * 4) 1024 * 1024

/-- S_cs: one row of 22-bit sums, in bytes (R203). -/
def sumBytes (rb : Nat) : Nat := ceilDiv (12 * rb * 11) 2048 * 1024

/-- Uplink antenna rows of a slot, in bytes (R203). -/
def State.ulBytes (s : State) (cs : Nat) : Nat := 2 * 64 * (rowBytes (s.slotRB .ul cs) + 512)

/-- Staging rows of a slot, in bytes (R203). -/
def State.stageBytes (s : State) (cs : Nat) : Nat := 4 * 2 * s.slotNL .ul cs * (sumBytes (s.slotRB .ul cs) + 512)

/-- The slots of a direction with EN or EN_NOW. -/
def State.usedSlots (s : State) (d : Dir) : List Nat := slots.filter fun cs => s.slotEn d cs || s.active d cs

/-- Where the uplink rows of a slot lie: region 1, in slot order (R203). -/
def State.ulBase (s : State) (cs : Nat) : Nat := (s.region 1).1 + (((s.usedSlots .ul).filter (· < cs)).map s.ulBytes).sum

/-- Where the staging rows of a slot lie: region 2, in slot order (R203). -/
def State.stageBase (s : State) (cs : Nat) : Nat := (s.region 2).1 + (((s.usedSlots .ul).filter (· < cs)).map s.stageBytes).sum

/-- Bytes of one entry of a downlink ring (R204). -/
def State.ringEntry (s : State) (cs : Nat) : Nat := s.slotNL .dl cs * (rowBytes (s.slotRB .dl cs) + 512)

/-- First byte and end of a downlink ring (R204). -/
def State.ring (s : State) (cs : Nat) : Nat × Nat :=
  let b := (s.region 0).1 + s.get (R.CS_BUF_BASE cs) * 1024
  (b, b + s.get (R.CS_BUF_DEPTH cs) * s.ringEntry cs)

/-- Whether a downlink ring is valid (R204). -/
def State.ringOk (s : State) (cs : Nat) : Bool :=
  let (b, e) := s.ring cs
  2 ≤ s.get (R.CS_BUF_DEPTH cs) && e ≤ (s.region 0).2 && ((s.usedSlots .dl).filter (· ≠ cs)).all fun k =>
    let (b', e') := s.ring k
    e ≤ b' || e' ≤ b

/-- Whether the uplink buffers of the enabled slots and of `cs` fit (R203). -/
def State.ulFits (s : State) (cs : Nat) : Bool :=
  let l := slots.filter fun k => k = cs || s.slotEn .ul k || s.active .ul k
  (s.region 1).1 + (l.map s.ulBytes).sum ≤ (s.region 1).2 && (s.region 2).1 + (l.map s.stageBytes).sum ≤ (s.region 2).2

/-- Whether a slot's carrier code keeps R129. -/
def State.freqOk (s : State) (d : Dir) (cs : Nat) : Bool :=
  let code := s.carrierCode (dirIx d) cs
  let h := s.halfBand (dirIx d) cs
  inRange ((code : Int) - h) && inRange ((code : Int) + h) && (quadsOf (s.slotQ d cs)).all fun q =>
    !s.tuned q || (within200 ((code : Int) - s.loCode q) && carrierFits (s.loCode q) code h)

/-- First layer row of a slot (R206). -/
def State.lbase (s : State) (d : Dir) (cs : Nat) : Nat := s.get (R.BF_LMAP_LBASE (dirIx d) cs)

/-- Whether a slot's layer rows end by 32 and share none with another slot that has EN or EN_NOW (R206). -/
def State.rowsFree (s : State) (d : Dir) (cs : Nat) : Bool :=
  let a := s.lbase d cs
  let e := a + s.slotNL d cs
  e ≤ 32 && ((s.usedSlots d).filter (· ≠ cs)).all fun k => e ≤ s.lbase d k || s.lbase d k + s.slotNL d k ≤ a

/-- Size of a PRB block (R344). -/
def blockBytes (comp : Nat) : Nat := if comp = 0 then 48 else ceilDiv (4 + 24 * (comp + 8)) 8

/-- Full length of an uplink message of `p` PRBs (R361). -/
def State.ulLength (s : State) (cs p comp : Nat) : Nat :=
  let g := s.get (R.BF_LMAP_GRAN 1 cs)
  18 + (if s.flag R.HP_CTRL_VLAN_EN then 4 else 0) + (if s.get R.HP_CTRL_XPORT = 1 then 48 else 0) + 16
    + ceilDiv (ceilDiv p (2 ^ g)) 8 * 4 + p * blockBytes comp

/-- Uplink messages of a slot per symbol (R361). -/
def State.ulParts (s : State) (cs : Nat) : Nat :=
  s.slotNL .ul cs * ceilDiv (s.slotRB .ul cs) (max 1 (s.get (R.CS_UL_FMT_P_MSG cs)))

/-- Whether an uplink slot's messages exceed R361. -/
def State.launchBad (s : State) (cs : Nat) : Bool :=
  let part := min (s.get (R.CS_UL_FMT_P_MSG cs)) (s.slotRB .ul cs)
  9216 < s.ulLength cs part (s.get (R.CS_UL_FMT_COMP cs))
    || 64 < s.ulParts cs + (((slots.filter fun k => k ≠ cs && s.slotEn .ul k).map s.ulParts).sum)

/-- The checks of an enable, in the order of the table (R179, R361): the refusal code, 0 when it passes. -/
def State.enCheck (s : State) (d : Dir) (cs : Nat) : Nat :=
  let mu := s.slotMu d cs
  let lg := s.get (R.CS_CFG_LOG2N (dirIx d) cs)
  let rb := s.slotRB d cs
  let others := slots.filter fun k => k ≠ cs && s.slotEn d k
  let fs (k : Nat) : Nat := fsUnits (s.slotMu d k) (s.get (R.CS_CFG_LOG2N (dirIx d) k))
  if 15 < lg + mu ∨ lg + mu < 8 ∨ lg < 8 ∨ 12 < lg ∨ 4 < mu then 1
  else if rb = 0 ∨ 2 ^ lg / 15 < rb then 2
  else if 128 < fs cs + (others.map fs).sum then 3
  else if s.slotNL d cs = 0 ∨ 32 < s.slotNL d cs + (others.map (s.slotNL d)).sum ∨ !s.rowsFree d cs then 4
  else if s.slotQ d cs = 0 then 5
  else if s.partOverlap || (match d with | .dl => !s.ringOk cs | .ul => !s.ulFits cs) then 6
  else if !s.freqOk d cs then 8
  else if d = .ul ∧ s.launchBad cs then 9
  else 0

/-- A write is refused with a code of LP_STATUS.REFUSE (R179, R195). -/
def State.lpRefuse (s : State) (code : Nat) : Wr := .error ((s.put R.LP_STATUS_REFUSE code).raise R.LP_STATUS_WR_REFUSED)

/-- The change of EN that waits on a slot, if any. -/
def State.enJob (s : State) (d : Dir) (cs : Nat) : Option EnJob := s.enJobs.find? fun j => j.d == dirIx d && j.cs == cs

/-- The waiting change of a slot is superseded: its command completes with ABORTED (R469). -/
def State.supersede (s : State) (d : Dir) (cs : Nat) : State :=
  match s.enJob d cs with
  | some j =>
    let s := { s with enJobs := s.enJobs.filter fun k => !(k.d == dirIx d && k.cs == cs) }
    s.completeJob j.cmd .aborted []
  | none => s

/-- EN takes a value and its change waits for the slot's frame boundary, superseding one that waited (R180, R469); the release of a slot
whose session has closed stays due (R355). -/
def State.enQueue (s : State) (d : Dir) (cs : Nat) (v : Bool) (cmd : Option Cmd) : State :=
  let due := match s.enJob d cs with
    | some j => j.release && j.cmd.isNone
    | none => false
  let s := (s.supersede d cs).put (R.CS_CFG_EN (dirIx d) cs) (b2n v)
  { s with enJobs := s.enJobs ++ [{ d := dirIx d, cs := cs, release := due, cmd := cmd }] }

/-- A write of CS_CFG.EN (R179, R180): 0 → 1 is validated; the change waits for the slot's frame boundary. -/
def State.csEnWrite (s : State) (d : Dir) (cs : Nat) (v : Bool) : Wr :=
  let old := s.slotEn d cs
  if v == old then .ok s
  else
    match (if v then s.enCheck d cs else 0) with
    | 0 =>
      .ok (s.enQueue d cs v none)
    | code => s.lpRefuse code

/-- Carriers whose EN_NOW changes at a frame boundary of their timeline (R180): the frequency words of a slot that starts are
computed; none starts while a step of time is pending (R319) or carriers are held after a wake (R334). -/
def State.enApply (d : Dir) (s : State) : State :=
  let s := forAll slots (fun cs s =>
    let en := s.slotEn d cs
    if en == s.active d cs || (en && (s.tm.stepAt.isSome || s.tm.carriersHeld)) then s
    else
      let s := s.put (R.CS_CFG_EN_NOW (dirIx d) cs) (b2n en)
      doIf en (fun s => forAll (quadsOf (s.slotQ d cs)) (fun q s => s.setNco (dirIx d) q cs) s) s) s
  s

/-- The commands that waited for the boundary complete with OK (R180); releases are the section plane's. -/
def State.enDone (d : Dir) (s : State) : State :=
  let due := fun (j : EnJob) => j.d == dirIx d && !j.release && s.slotEn d j.cs == s.active d j.cs
  let l := s.enJobs.filter due
  let s := { s with enJobs := s.enJobs.filter fun j => !due j }
  forAll l (fun j s => s.completeJob j.cmd .ok []) s

/-! ### The slot table (R196 to R202) -/

/-- Quadrants an entry marks with a direction. -/
def entryMask (dir : Nat) (w : Word) : Nat := if w.toNat % 4 = dir then bits w.toNat 5 2 else 0

/-- The entries whose uplink overlaps the downlink of entry `e` of one table, with an advance (R200). -/
def overlapped (mu ta e : Nat) : List Nat :=
  let n := symsPerFrame mu
  let a := symStart mu e + ta
  let b := symEnd mu e + ta
  let f0 := symAt mu (a % frameCycles)
  ((List.range 5).map fun k => (f0 + k, (if a < frameCycles then 0 else frameCycles))).filterMap fun (f, o) =>
    let st := if f < n then o + symStart mu f else frameCycles + o + symStart mu (f - n)
    if st < b ∨ f = f0 then some (f % n) else none

/-- The first failing entry of a bank followed by itself (R200): the lowest entry that takes part in an overlap on a quadrant. -/
def State.checkSelf (s : State) (bank : Nat) : Option Nat :=
  let mu := s.get (R.SLOT_MU_TBL_MU bank)
  let ta := s.get R.TA_CFG_UL_TA_OFF
  let w (e : Nat) : Word := s.entry bank e
  (List.range (symsPerFrame mu)).foldl (fun best e =>
    let m := entryMask 0 (w e)
    if m = 0 then best
    else (overlapped mu ta e).foldl (fun best f =>
      if e ≠ f ∧ m &&& entryMask 1 (w f) ≠ 0 then some (min (best.getD (min e f)) (min e f)) else best) best) none

/-- The first entry of the shadow bank whose uplink overlaps the last downlink of the active bank (R200). -/
def State.checkJoin (s : State) (act shd : Nat) : Option Nat :=
  let ma := s.get (R.SLOT_MU_TBL_MU act)
  let ms := s.get (R.SLOT_MU_TBL_MU shd)
  let ta := s.get R.TA_CFG_UL_TA_OFF
  let firsts := (List.range 16).filter fun f => f < symsPerFrame ms && symStart ms f < ta
  firsts.find? fun f =>
    let a := frameCycles - ta + symStart ms f
    let b := min frameCycles (frameCycles - ta + symEnd ms f)
    let e0 := symAt ma a
    let es := ((List.range 16).map (e0 + ·)).filter fun e => e < symsPerFrame ma && (e = e0 || symStart ma e < b)
    es.any fun e => entryMask 0 (s.entry act e) &&& entryMask 1 (s.entry shd f) ≠ 0

/-- The first entry on which the check of a COMMIT fails (R200). -/
def State.slotCheck (s : State) : Option Nat :=
  let shd := 1 - s.bank
  match s.checkSelf shd, s.checkJoin s.bank shd with
  | some a, some b => some (min a b)
  | some a, none => some a
  | none, b => b

/-- Update the slot table's work. -/
def State.modSlot (s : State) (f : SlotX → SlotX) : State := { s with slot := f s.slot }

/-- A COMMIT takes effect on cycle `c` (R200). -/
def State.commitAt (s : State) (c : Nat) : State :=
  let r := s.slotCheck
  (s.put R.SLOT_STATUS_CHECK_BUSY 1).modSlot fun x => { x with checkAt := some c, checkFail := r, cancelWaits := false, commitWaits := false }

/-- A write of SLOT_CTRL.COMMIT (R200). -/
def State.slotCommit (s : State) : State :=
  if s.flag R.SLOT_STATUS_CHECK_BUSY || s.flag R.SLOT_STATUS_COMMIT_PEND then s
  else if s.flag R.SLOT_STATUS_COPY_BUSY then s.modSlot fun x => { x with commitWaits := true }
  else s.commitAt s.now

/-- SLOT_COMMIT completes with a status and the SFN (R465). -/
def State.slotComplete (s : State) (st : Status) (sfn : Nat) : State :=
  let j := s.slot.job
  (s.modSlot fun x => { x with job := none, answered := false, inFrame := none }).completeJob j st (beBytes 2 sfn)

/-- The swap boundary of a COMMIT written on cycle `c` (R201). -/
def State.swapFor (s : State) (c : Nat) : Nat :=
  let b := (s.nextFrame .dl c).1
  if 24576 ≤ b - c then b else b + frameCycles

/-- A CANCEL taken while a swap is pending and early enough (R202). -/
def State.cancelSwap (s : State) : State :=
  ((s.put R.SLOT_STATUS_COMMIT_PEND 0).modSlot fun x => { x with swapAt := none, cancelWaits := false }).slotComplete .aborted
    (s.frameNo (s.slot.swapAt.getD s.now) % 1024).toNat

/-- A write of SLOT_CTRL.CANCEL (R202). -/
def State.slotCancel (s : State) : Wr :=
  if s.flag R.SLOT_STATUS_CHECK_BUSY then .ok (s.modSlot fun x => { x with cancelWaits := true })
  else
    match s.slot.swapAt with
    | some b => if s.now + 24576 ≤ b then .ok s.cancelSwap else refuse R.LP_STATUS_WR_REFUSED s
    | none => .ok s

/-- SLOT_CHECK_DONE (R200, R202, R465): 2,048 cycles after the COMMIT. The reply of SLOT_COMMIT follows the check. -/
def State.slotCheckDone (s : State) : State :=
  match s.slot.checkAt with
  | some c =>
    let s := (s.advanceTo (c + 2048)).put R.SLOT_STATUS_CHECK_BUSY 0
    let cancel := s.slot.cancelWaits
    let fail := s.slot.checkFail
    let s := s.modSlot fun x => { x with checkAt := none, checkFail := none, cancelWaits := false }
    match fail with
    | some e =>
      let s := (s.raise R.SLOT_STATUS_CHECK_FAIL).put R.SLOT_STATUS_FAIL_IDX e
      (match s.slot.job with
       | some j =>
         let s := s.modSlot fun x => { x with job := none, inFrame := none }
         if s.slot.answered then s.complete j .badParam [] else (s.unrun j).reply j .badParam (beBytes 2 e)
       | none => s)
    | none =>
      let s := (s.put R.SLOT_STATUS_COMMIT_PEND 1).modSlot fun x => { x with swapAt := some (s.swapFor c) }
      let s := match s.slot.job with
        | some j => if s.slot.answered then s else (s.reply j .accepted []).modSlot fun x => { x with answered := true }
        | none => s
      doIf cancel State.cancelSwap s
  | none => s

/-- A write of SLOT_CTRL.COPY (R202): TBL_MU is copied on the first cycle. -/
def State.slotCopy (s : State) : Wr :=
  if s.flag R.SLOT_STATUS_CHECK_BUSY || s.flag R.SLOT_STATUS_COMMIT_PEND then refuse R.LP_STATUS_WR_REFUSED s
  else if s.flag R.SLOT_STATUS_COPY_BUSY then .ok s
  else
    let s := s.put (R.SLOT_MU_TBL_MU (1 - s.bank)) (s.get (R.SLOT_MU_TBL_MU s.bank))
    .ok ((s.put R.SLOT_STATUS_COPY_BUSY 1).modSlot fun x => { x with copyAt := some s.now })

/-- What a read of an entry of a bank returns while the copy runs (R202): copied entries below the copy point. -/
def State.entryRead (s : State) (b e : Nat) : Word :=
  match s.slot.copyAt with
  | some c => if b ≠ s.bank ∧ e < s.now - c then s.entry s.bank e else s.entry b e
  | none => s.entry b e

/-- SLOT_COPY_DONE (R202): 2,048 cycles after COPY; a COMMIT that waited is taken as written now (R200). -/
def State.slotCopyDone (s : State) : State :=
  match s.slot.copyAt with
  | some c =>
    let s := s.advanceTo (c + 2048)
    let act := s.bank
    let s := forAll (List.range 2048) (fun e s => s.setReg (R.SLOT_TBL (1 - act) e) (s.entry act e)) s
    let s := (s.put R.SLOT_STATUS_COPY_BUSY 0).modSlot fun x => { x with copyAt := none }
    doIf s.slot.commitWaits (fun s => s.commitAt s.now) s
  | none => s

/-- A downlink frame boundary swaps the banks if the swap is due (R201). -/
def State.slotSwap (s : State) (sfn : Nat) : State :=
  match s.slot.swapAt with
  | some b =>
    if b ≤ s.now then
      let mu := s.get (R.SLOT_MU_TBL_MU s.bank)
      let last := s.entry s.bank (symsPerFrame mu - 1)
      let s := s.modSlot fun x => { x with swappedAt := some s.now, oldMu := mu, oldLast := last }
      let s := (s.put R.SLOT_STATUS_BANK_ACT (1 - s.bank)).put R.SLOT_STATUS_COMMIT_PEND 0
      let s := (s.modSlot fun x => { x with swapAt := none }).event (.slotSwapped sfn)
      (s.slotComplete .ok sfn).capSwap
    else s
  | none => s

/-- Whether a shadow-bank write is refused, and by which flag (R199). -/
def State.bankLock (s : State) (b : Nat) : Option Field :=
  if b = s.bank then some R.SLOT_STATUS_ACT_WR
  else if s.flag R.SLOT_STATUS_CHECK_BUSY || s.flag R.SLOT_STATUS_COMMIT_PEND || s.flag R.SLOT_STATUS_COPY_BUSY then
    some R.SLOT_STATUS_SHD_LOCK
  else none

/-! ### PRACH (R192 to R195) -/

/-- Repetition length in SI cycles, L_RA and row bytes of a class (R192, R194). -/
def prachClass (cls mu : Nat) : Nat × Nat × Nat :=
  match cls with
  | 0 => (32768 / 2 ^ mu, 139, 768)
  | 1 => (393216, 839, 3584)
  | _ => (98304, 839, 3584)

/-- Stored repetitions per chain of an engine. -/
def State.prachReps (s : State) (o : Nat) : Nat := if s.wget (R.PR_CTRL_COMBINE o) = 1 then 1 else s.wget (R.PR_CTRL_N_REP o)

/-- The checks of a PRACH enable (R195) on the shadows with a control word. -/
def State.prachOk (s : State) (o : Nat) (v : Word) : Bool :=
  let cs := (R.PR_CTRL_CS o).of v
  let cls := (R.PR_CTRL_CLASS o).of v
  let n := (R.PR_CTRL_N_REP o).of v
  let per := (R.PR_CTRL_PERIOD o).of v
  let mu := s.slotMu .ul cs
  let (len, _, row) := prachClass cls mu
  s.get (R.PR_START_START o) + s.get (R.PR_CP_CP o) + n * len ≤ frameCycles && (cls = 0 || mu ≤ 1)
    && (R.PR_CTRL_PHASE o).of v < 2 ^ per && (((R.PR_CTRL_COMBINE o).of v = 1) || 64 * row * n ≤ 224 * 1024)
    && s.get (R.PRB_CFG_NB o) * (if (R.PR_CTRL_COMBINE o).of v = 1 then 1 else n) * (if cls = 0 then 768 else 4864) ≤ 32768
    && 16 ≤ s.get (R.SMEM_PART_SIZE 4) && s.slotEn .ul cs && 1 ≤ n && n ≤ 12 && per ≤ 4

/-- The shadowed registers of an engine apply at an uplink frame boundary (R195). -/
def State.applyPrach (o : Nat) (s : State) : State :=
  let s := (((s.apply (R.PR_CTRL o)).apply (R.PR_START o)).apply (R.PR_CP o)).apply (R.PR_FOFF o)
  forAll (List.range 4) (fun j s => s.apply (R.PRB_ID o j)) (s.apply (R.PRB_CFG o))

/-- An engine's own state. -/
def State.prx (s : State) (o : Nat) : PrachX :=
  s.prach.getD o { endAt := none, frame := 0, rows := [], beams := [], rowsDue := false, beamsDue := false, cs := 0, cls := 0, mu := 0, reps := 0, shift := 0, own := 31, fmt := 0,
                       prAdd := 0 }

/-- The next occasion of an engine (R193, R581): its uplink frame, the cycle at the port of its first sample after the CP, and the cycle on which its
last sample reaches the engine; the first whose end is not past and that the engine has not taken. -/
def State.prachEnd (s : State) (o : Nat) : Int × Nat × Nat :=
  let per := 2 ^ s.wget (R.PR_CTRL_PERIOD o)
  let ph : Int := s.wget (R.PR_CTRL_PHASE o)
  let cs := s.wget (R.PR_CTRL_CS o)
  let (len, _, _) := prachClass (s.wget (R.PR_CTRL_CLASS o)) (s.slotMu .ul cs)
  let m := s.slotM .ul cs
  let off := s.wget (R.PR_START_START o) + s.wget (R.PR_CP_CP o)
  let n := s.wget (R.PR_CTRL_N_REP o) * len + 71 + 20 * m - 2 ^ m
  let k := s.frameNo (s.now + s.advance .ul)
  let at0 (f : Int) : Nat := (s.frameStart f - s.advance .ul).toNat + off
  let prev := k + (ph - k) % per - per
  let taken (f : Int) : Bool := s.frameStart f < 0 || at0 f + n < s.now || (s.prx o).endAt.any (at0 f + n ≤ ·)
  let f := if !taken prev then prev else if !taken (prev + per) then prev + per else prev + 2 * per
  (f, at0 f, at0 f + n)

/-- One saturated component, and whether it saturated. -/
def satOne (x : Int) : Int × Bool := (satS 16 x, satS 16 x ≠ x)

/-- A row saturated to Q1.15, and the number of saturated results. -/
def satRow (l : List (Int × Int)) : List (Int × Int) × Nat :=
  (l.map fun v => (satS 16 v.1, satS 16 v.2), (l.filter fun v => (satOne v.1).2 || (satOne v.2).2).length)

/-- The stored rows of a chain (R193): each repetition saturated; with COMBINE their sum, scaled by 2^−⌈log2 N⌉. -/
def prachRows (combine : Bool) (len : Nat) (reps : List (List (Int × Int))) : List (List (Int × Int)) × Nat :=
  let l := reps.map satRow
  let n0 := (l.map Prod.snd).sum
  if combine then
    let sh := Nat.clog 2 reps.length
    let sum := (List.range len).map fun i =>
      (l.map Prod.fst).foldl (fun (acc : Int × Int) r => (acc.1 + (r.getD i (0, 0)).1, acc.2 + (r.getD i (0, 0)).2)) (0, 0)
    let r := satRow (sum.map fun v => (roundShift v.1 sh, roundShift v.2 sh))
    ([r.1], n0 + r.2)
  else (l.map Prod.fst, n0)

/-- Whether a quadrant is uplink in the slot table through a span of cycles on the uplink timeline. -/
def State.ulThrough (s : State) (q : Nat) : Nat → Nat → Nat → Bool
  | 0, _, _ => true
  | fuel + 1, c, e =>
    e ≤ c ||
      (let b := s.bankAt .ul c
       let mu := s.get (R.SLOT_MU_TBL_MU b)
       let n := (s.symNow .ul mu c).2.1
       s.symDirIn b mu n q == .ul && s.ulThrough q fuel (s.tableBoundary .ul c) e)

/-- A row as stored (R140, R194): 32-bit words, padded to the row size. -/
def rowWords (size : Nat) (l : List (Int × Int)) : List Byte :=
  let b := l.flatMap fun v => leBytes 4 (ofInt 16 v.1 + ofInt 16 v.2 * 65536)
  b ++ List.replicate (size - b.length) 0

/-- PRACH_ROWS_WRITTEN (R194): the rows are in the region and DONE_CNT counts. -/
def State.prachWritten (s : State) (o : Nat) : State :=
  let x := s.prx o
  match x.endAt with
  | some e =>
    if x.rowsDue then
      let (_, _, row) := prachClass x.cls x.mu
      let s := s.advanceTo (e + 8192)
      let s := s.storeMem ((s.region 4).1 + o * 229376) (x.rows.flatMap fun r => r.2.flatMap (rowWords row))
      ({ s with prach := updAt s.prach o fun x => { x with rowsDue := false } }).count (R.PR_STAT_DONE_CNT o)
    else s
  | none => s

/-! ### Register writes (R180, R183, R184, R188, R189, R199, R203) -/

/-- Whether the partition may not be written (R203): a slot in force, or a capture or playback active. -/
def State.partBusy (s : State) : Bool :=
  s.carriersActive || s.flag R.PB_CTRL_RUN || s.dfe.pbArm || (List.range 8).any fun k => s.capState k == 1 || s.capState k == 2

/-- The shadows of a slot's transform apply (R180). -/
def State.applyFft (d : Dir) (cs : Nat) (s : State) : State := s.apply (R.CS_FFT (dirIx d) cs)

/-- A write of a low-PHY register. -/
def writeLP (r : RegRow) (ix : List Nat) (a : Nat) (v : Word) (s : State) : Wr :=
  let i := ix.getD 0 0
  let cs := ix.getD 1 0
  let d := dirOf i
  let direct := s.plainWrite r a v
  let changes := direct.reg a ≠ s.reg a
  let no := refuse R.LP_STATUS_WR_REFUSED s
  let live := s.slotEn d cs || s.active d cs
  match r.id with
  | .FRAME_CFG => if (s.carriersActive && changes) || frameCycles ≤ R.FRAME_CFG_FRAME_OFF.of v then no else .ok direct
  | .TA_CFG => if s.carriersActive && changes then no else .ok direct
  | .SLOT_CTRL =>
    match (if v.toNat.testBit 2 then s.slotCopy else .ok s) with
    | .error e => .error e
    | .ok s =>
      match (if v.toNat.testBit 1 then s.slotCancel else .ok s) with
      | .error e => .error e
      | .ok s => .ok (doIf (v.toNat.testBit 0) State.slotCommit s)
  | .SLOT_MU => match s.bankLock i with | some f => refuse f s | none => .ok direct
  | .SLOT_TBL => match s.bankLock i with | some f => refuse f s | none => .ok direct
  | .LP_CNT_CLR =>
    if v.toNat.testBit 0 then .ok (forAll (List.range 4) (fun o s => s.setReg (R.PR_STAT o) 0) (s.setReg R.DIR_MISMATCH 0)) else .ok s
  | .CS_CFG =>
    let f := R.CS_CFG_EN i cs
    let same := f.into (direct.reg a) 0 = f.into (s.reg a) 0
    if live && !same then s.lpRefuse 5
    else
      let t := direct.put f (s.get f)
      match t.csEnWrite d cs (f.of v = 1) with
      | .ok u => .ok u
      | .error _ => s.lpRefuse (t.enCheck d cs)
  | .CS_FFT =>
    let nl := R.CS_FFT_NL i cs
    let n := 2 ^ s.get (R.CS_CFG_LOG2N i cs)
    if live && nl.of v ≠ s.get nl then s.lpRefuse 5
    else if (R.CS_FFT_PHC i cs).of v = 3 ∨ 12 < (R.CS_FFT_SHIFT i cs).of v
        ∨ (i = 1 ∧ 9 * n < 128 * (R.CS_FFT_WIN_ADV i cs).of v) then no
    else .ok (doIf (!s.active d cs) (State.applyFft d cs) direct)
  | .CS_F0_HI => s.f0Commit i cs v.toNat
  | .CS_BUF => if (s.slotEn .dl i || s.active .dl i) && changes then s.lpRefuse 5 else .ok direct
  | .PR_CTRL =>
    if (R.PR_CTRL_CLASS i).of v = 3 ∨ ((R.PR_CTRL_EN i).of v = 1 ∧ !s.prachOk i v) then s.lpRefuse 7 else .ok direct
  | .SMEM_PART =>
    if (s.partBusy && changes) || 384 < (R.SMEM_PART_BASE i).of v + (R.SMEM_PART_SIZE i).of v then s.lpRefuse 6 else .ok direct
  | _ => .ok direct

/-! ### Meanings -/

/-- CS_EN_WRITE (R179). -/
def execCsEnWrite (d : Dir) (cs : Nat) (v : Bool) (s : State) : Host.Outcome State Fault Refusal := .next (s.csEnWrite d cs v).state

/-- SLOT_CTRL_COMMIT (R200). -/
def execSlotCtrlCommit (s : State) : Host.Outcome State Fault Refusal := .next s.slotCommit

/-- SLOT_CTRL_CANCEL (R202). -/
def execSlotCtrlCancel (s : State) : Host.Outcome State Fault Refusal := .next s.slotCancel.state

/-- SLOT_CTRL_COPY (R202). -/
def execSlotCtrlCopy (s : State) : Host.Outcome State Fault Refusal := .next s.slotCopy.state

/-- SLOT_COPY_DONE (R202). -/
def execSlotCopyDone (s : State) : Host.Outcome State Fault Refusal := .next s.slotCopyDone

/-- PRACH_ROWS_WRITTEN (R194). -/
def execPrachRowsWritten (o : Nat) (s : State) : Host.Outcome State Fault Refusal := .next (s.prachWritten o)

end Sys2Proof.Machine
end

