-- ==== Sys2Proof/Machine/Latency.lean ====
section
/-! DEFINITION. Fixed path latencies (chapter 22) and the instants they give a symbol. -/

namespace Sys2Proof.Machine

/-- Ring readout of occupied subcarrier 0 to the TX port (R578). -/
def State.dlTotal (s : State) (cs : Nat) : Nat := 12 * s.slotRB .dl cs + 468 + 20 * s.slotM .dl cs

/-- The cycle on which readout of a downlink symbol starts, from its boundary (R187, R578). -/
def State.readoutAt (s : State) (cs b : Nat) : Nat := b - s.dlTotal cs

/-- The cycle on which an uplink symbol's local contribution begins, t_L(0), from its boundary (R579). -/
def State.localAt (s : State) (cs n b : Nat) : Nat :=
  b + symLen (s.slotMu .ul cs) n + 207 + 20 * s.slotM .ul cs - (s.wget (R.CS_FFT_WIN_ADV 1 cs) + 1) * 2 ^ s.slotM .ul cs

/-- The cycle on which occupied subcarrier 0 leaves the FFT: 64 cycles before t_L(0) (R579). -/
def State.fftAt (s : State) (cs n b : Nat) : Nat := s.localAt cs n b - 64

/-- The first MAC cycle of a symbol's pass (R232). -/
def State.macAt (s : State) (d : Dir) (cs n b : Nat) : Nat :=
  match d with
  | .dl => s.readoutAt cs b
  | .ul => s.fftAt cs n b

/-- The plan instant of a symbol (R232). -/
def State.planAt (s : State) (d : Dir) (cs n b : Nat) : Nat := s.macAt d cs n b - 1024

/-- The end of a symbol's MAC pass (R209). -/
def State.passEnd (s : State) (d : Dir) (cs n b : Nat) : Nat := s.macAt d cs n b + 12 * s.slotRB d cs

/-- Cycles of a symbol number in a frame after a frame number: a key that orders symbols of a slot. -/
def symKey (mu frame n : Nat) : Nat := frame * symsPerFrame mu + n

/-- The boundary of symbol `n` of frame `k` on a timeline. -/
def State.symBoundary (s : State) (d : Dir) (mu k n : Nat) : Nat := (s.frameStart k - s.advance d).toNat + symStart mu n

/-- The successor of a symbol. -/
def nextSym (mu : Nat) (k : Nat × Nat) : Nat × Nat := if k.2 + 1 < symsPerFrame mu then (k.1, k.2 + 1) else (k.1 + 1, 0)

/-- The first symbol of a slot, from frame `k` symbol `n` on, whose instant `f frame sym boundary` is not before cycle `c`. -/
def State.firstSym (s : State) (d : Dir) (mu : Nat) (f : Nat → Nat → Nat) (c : Nat) : Nat → Nat × Nat → Nat × Nat
  | 0, k => k
  | fuel + 1, k =>
    if c ≤ f k.2 (s.symBoundary d mu k.1 k.2) then k else s.firstSym d mu f c fuel (nextSym mu k)

/-- The symbol of a slot in air at cycle `c`, or the first of frame 0. -/
def State.symIn (s : State) (d : Dir) (mu c : Nat) : Nat × Nat := let (k, n, _) := s.symNow d mu c; (k, n)

/-- A number of symbols back from a symbol. -/
def backSym (mu j : Nat) (k : Nat × Nat) : Nat × Nat :=
  let t := symKey mu k.1 k.2 - j
  (t / symsPerFrame mu, t % symsPerFrame mu)

/-- Sum to compression (R580). -/
def toCompress (depth : Nat) : Nat := 12 + depth * 212

end Sys2Proof.Machine
end

