-- ==== Sys2Proof/Machine/Beam.lean ====
section
/-! DEFINITION. Beamforming engine and steering: weight sets, beam table, steering engine, plans, MAC array (chapter 7). -/

namespace Sys2Proof.Machine

/-- Update the beamforming engine's own state. -/
def State.modBf (s : State) (f : BeamX → BeamX) : State := { s with bf := f s.bf }

/-- A write is refused with a code of BF_STATUS.REFUSE: 1 IN_USE, 2 IDLE_ONLY, 3 BAD_VALUE, 4 NOT_OWNER. -/
def State.bfRefuse (s : State) (code : Nat) : Wr := .error ((s.put R.BF_STATUS_REFUSE code).raise R.BF_STATUS_WR_REFUSED)

/-! ### Groups and addresses (R208, R217, R218) -/

/-- Groups of `rb` PRB under a GRAN code (R208). -/
def groupsOf (rb gran : Nat) : Nat := ceilDiv rb (2 ^ gran)

/-- Flag groups of a slot (R208). -/
def State.slotGroups (s : State) (d : Dir) (cs : Nat) : Nat := groupsOf (s.slotRB d cs) (s.get (R.BF_LMAP_GRAN (dirIx d) cs))

/-- Flag group of a PRB. -/
def State.groupOf (s : State) (d : Dir) (cs p : Nat) : Nat := p / 2 ^ s.get (R.BF_LMAP_GRAN (dirIx d) cs)

/-- Base of a weight-set slot (R217). -/
def setBase (ws : Nat) : Nat := 0x2000000 + ws * 0x67800

/-- Address of vector `v` of a set (R218). -/
def setVec (ws v : Nat) : Nat := setBase ws + 192 * v

/-- Address of a beam ID's vector in a page (R217). -/
def beamVec (page id : Nat) : Nat := (if page = 0 then 0x2678000 else 0x2738000) + 192 * id

/-- Base of the steering geometry (R217). -/
def geomBase : Nat := 0x27F8000

/-- Slots that a set spans (R219). -/
def spanSlots (code : Nat) : Nat := 2 ^ code

/-- The set that a weight-set slot is a member of, beside its base (R219). -/
def State.memberOf (s : State) (w : Nat) : Option Nat :=
  (List.range 16).find? fun t => t < w && s.flag (R.WS_CFG_VALID t) && w < t + spanSlots (s.get (R.WS_CFG_SPAN t))

/-- Groups of a set, by its slot's N_RB (R218). -/
def State.setGroups (s : State) (w : Nat) : Nat :=
  groupsOf (s.get (R.CS_CFG_N_RB (s.get (R.WS_CFG_DIR w)) (s.get (R.WS_CFG_CS w)))) (s.get (R.WS_CFG_GRAN w))

/-- The page in force of a beam ID. -/
def State.beamPage (s : State) (id : Nat) : Nat := b2n (s.fbit (R.BEAM_PAGE_PAGE (id / 32)) (id % 32))

/-- The set that a plan item uses. -/
def VecSrc.setOf (v : VecSrc) : Option Nat :=
  match v with
  | .set w _ => some w
  | _ => none

/-- Whether a set, or the set a member slot belongs to, is in use now (R233). -/
def State.setInUse (s : State) (w : Nat) : Bool :=
  let b := (s.memberOf w).getD w
  s.bf.plans.any fun p => s.now < p.passEnd && p.items.any fun i => i.src.setOf == some b

/-- WS_CFG as a read returns it: INUSE shows R233. -/
def State.wsRead (s : State) (w : Nat) : Word := (R.WS_CFG_INUSE w).into (s.reg (R.WS_CFG w)) (b2n (s.setInUse w))

/-! ### Beam references (R214 to R216) -/

/-- The vector source a beam reference gives a layer of a slot, or none when it is bad (R214, R216). -/
def State.resolveRef (s : State) (d : Dir) (cs layer ref : Nat) : Option VecSrc :=
  match ref / 2 ^ 14 with
  | 0 =>
    let w := ref % 16
    if bits ref 13 4 ≠ 0 then none
    else if (s.memberOf w).isSome then none
    else if !s.flag (R.WS_CFG_VALID w) || s.get (R.WS_CFG_DIR w) ≠ dirIx d || s.get (R.WS_CFG_CS w) ≠ cs then none
    else
      let row := layer - s.lbase d cs
      if s.get (R.WS_CFG_NL w) ≤ row then none else some (.set w row)
  | 1 =>
    if bits ref 13 12 ≠ 0 then none
    else
      let id := ref % 4096
      let own := s.slotOwner (dirIx d) cs
      if own < 16 && s.beamOwner (id / 256) == own then some (.beam (beamVec (s.beamPage id) id)) else none
  | 2 => if bits ref 13 0 ≠ 0 then none else some .zero
  | _ => none

/-- The address of the vector of a resolved reference for a PRB. -/
def PlanItem.addr (i : PlanItem) (prb : Nat) : Option Nat :=
  match i.src with
  | .zero => none
  | .set w row => some (setVec w (row * i.groups + prb / 2 ^ i.gran))
  | .beam a => some a

/-- A reference resolved for PRBs of a layer. -/
def State.planRef (s : State) (layer p0 p1 : Nat) (v : VecSrc) : PlanItem :=
  match v with
  | .set w _ => { layer := layer, p0 := p0, p1 := p1, src := v, gran := s.get (R.WS_CFG_GRAN w), groups := s.setGroups w }
  | _ => { layer := layer, p0 := p0, p1 := p1, src := v, gran := 0, groups := 0 }

/-- Element `a` of a vector's bytes: I and Q, Q1.11 (R218). -/
def vecElement (l : List Byte) (a : Nat) : Int × Int :=
  let w := leNat ((l.drop (3 * a)).take 3)
  (toInt 12 (w % 4096), toInt 12 (w / 4096))

/-- Element `a` of the vector at an address (R218); zero where a word it lies in is poisoned (R236). -/
def State.element (s : State) (addr a : Nat) : Int × Int :=
  let p := addr + 3 * a
  if s.poisoned (p / 16) || s.poisoned ((p + 2) / 16) then (0, 0) else vecElement (s.bytes addr 192) a

/-- Whether element `a` of the vector at an address lies in a poisoned word. -/
def State.elementBad (s : State) (addr a : Nat) : Bool := s.poisoned ((addr + 3 * a) / 16) || s.poisoned ((addr + 3 * a + 2) / 16)

/-- The address a layer and PRB take their vector from in a plan: that of the last reference that covers them (R215). -/
def Plan.addrAt (p : Plan) (layer prb : Nat) : Option Nat :=
  match (p.items.filter fun i => i.layer == layer && i.p0 ≤ prb && prb < i.p1).getLast? with
  | some i => i.addr prb
  | none => none

/-- The weight of an antenna for a layer and PRB of a plan; zero where a word it lies in is poisoned (R236). -/
def State.weight (s : State) (p : Plan) (layer prb a : Nat) : Int × Int :=
  match p.addrAt layer prb with
  | some addr => if s.elementBad addr a then (0, 0) else vecElement ((look p.vecs addr).getD []) a
  | none => (0, 0)

/-- The vectors that the pass of a plan over `nl` layers and `rb` PRBs reads, as they stand. -/
def State.planBytes (s : State) (l : List Nat) : List (Nat × List Byte) :=
  l.foldl (fun acc a => if acc.any (fun x => x.1 == a) then acc else acc ++ [(a, s.bytes a 192)]) []

/-! ### The MAC array (R210 to R212, R238) -/

/-- The shift in force of a slot: DL_SHIFT or UL_SHIFT (R212). -/
def State.macShift (s : State) (d : Dir) (cs : Nat) : Nat := s.bf.shifts.getD (8 * dirIx d + cs) 0

/-- Whether a column's output is zeroed at a subcarrier of a slot (R238, R239). -/
def State.colZeroed (s : State) (d : Dir) (cs a k : Nat) : Bool :=
  s.bf.colDead.contains a || s.bf.colZero.any fun z => z.col == a && z.d == dirIx d && z.cs == cs && z.k ≤ k

/-- One antenna's sample on the downlink (R210) from the layer samples of the slot, and whether it saturated. -/
def State.dlMac (s : State) (p : Plan) (cs a k : Nat) (x : Nat → Int × Int) : (Int × Int) × Bool :=
  if s.colZeroed .dl cs a k then ((0, 0), false)
  else
    let sum := (List.range (s.slotNL .dl cs)).foldl (fun acc l =>
      let n := s.lbase .dl cs + l
      cadd acc (cmul (s.weight p n (k / 12) a) (x n))) (0, 0)
    let sh := 11 + s.macShift .dl cs
    let r := (roundShift sum.1 sh, roundShift sum.2 sh)
    let y := (satS 16 r.1, satS 16 r.2)
    (y, y ≠ r)

/-- One layer's local contribution on the uplink (R211) from the antenna bins, by the symbol's UL_SHIFT, and whether it saturated. -/
def State.ulMac (s : State) (p : Plan) (cs sh0 layer k : Nat) (y : Nat → Int × Int) : (Int × Int) × Bool :=
  let sum := (List.range 64).foldl (fun acc a =>
    if s.colZeroed .ul cs a k then acc else cadd acc (cmul (s.weight p layer (k / 12) a) (y a))) (0, 0)
  let sh := 11 + sh0
  let r := (roundShift sum.1 sh, roundShift sum.2 sh)
  let z := (satS 22 r.1, satS 22 r.2)
  (z, z ≠ r)

/-- The plan in hand of a symbol. -/
def State.planOf (s : State) (d : Dir) (cs frame sym : Nat) : Option Plan :=
  s.bf.plans.find? fun p => p.d == dirIx d && p.cs == cs && p.frame == frame && p.sym == sym

/-- The shifts of a slot apply at its symbol boundary (R212). -/
def State.applyShift (d : Dir) (cs : Nat) (s : State) : State :=
  let v := match d with
    | .dl => s.get R.BF_SHIFT_DL_SHIFT
    | .ul => s.get R.BF_SHIFT_UL_SHIFT
  s.modBf fun x => { x with shifts := updAt x.shifts (8 * dirIx d + cs) fun _ => v }

/-! ### The beam table (R221 to R224) -/

/-- STEER_STATUS follows the FIFO, the loader queue and the engine. -/
def State.showSteer (s : State) : State :=
  ((s.put R.STEER_STATUS_FIFO s.bf.fifo.length).put R.STEER_STATUS_LQ s.bf.lq.length).put R.STEER_STATUS_BUSY (b2n s.bf.busy.isSome)

/-- A request of a steering command has its status; the command completes once all have (R230, R463). -/
def State.steerStatus (s : State) (j : Option (Cmd × Nat)) (st : Status) : State :=
  match j with
  | none => s
  | some (c, i) =>
    let s := s.modBf fun x => { x with jobs := x.jobs.map fun y =>
      if y.cmd = c then { y with done := updAt y.done i fun _ => some (statusCode st) } else y }
    match s.bf.jobs.find? fun y => y.cmd = c with
    | some y =>
      if y.done.all Option.isSome then
        (s.modBf fun x => { x with jobs := x.jobs.filter fun z => z.cmd ≠ c }).complete c .ok
          (y.done.flatMap fun v => beBytes 2 (v.getD 0))
      else s
    | none => s

/-- The writer of a flip learns how it ended. -/
def State.flipEnd (s : State) (f : FlipSrc) (st : Status) : State :=
  match f with
  | .none => s
  | .loader => s.put R.BL_GO_RESULT (statusCode st)
  | .cmd c => s.complete c st []

/-- A write to an ID supersedes one that has not flipped (R223). -/
def State.supersedeBeam (s : State) (id : Nat) : State :=
  let old := s.bf.flips.filter fun f => f.id == id
  let wait := s.bf.lq.filter fun l => l.flip.id == id
  let s := s.modBf fun x => { x with flips := x.flips.filter fun f => f.id ≠ id, lq := x.lq.filter fun l => l.flip.id ≠ id }
  let s := forAll old (fun f s => (s.count R.STEER_CNT0_SUPERSEDED).flipEnd f.src .aborted) s
  forAll wait (fun l s => ((s.count R.STEER_CNT0_SUPERSEDED).flipEnd l.flip.src .aborted).steerStatus l.steer.join .aborted) s

/-- Whether the former page of an ID is still held (R222). -/
def State.pageHeld (s : State) (id : Nat) : Bool := s.bf.holds.any fun h => h.1 == id && s.now < h.2

/-- A vector is written into the page not in force, and its flip is pending (R221); a steering request is then complete (R230). -/
def State.writeBeam (s : State) (l : LqItem) : State :=
  let s := s.supersedeBeam l.flip.id
  let s := s.storeMem (beamVec (1 - s.beamPage l.flip.id) l.flip.id) l.vec
  let s := s.modBf fun x => { x with flips := x.flips ++ [l.flip] }
  match l.steer with
  | some j => (s.count R.STEER_DONE_COUNT).steerStatus j .ok
  | none => s

/-- A vector reaches the loader: it waits while its page is held (R222, R224). -/
def State.loadBeam (s : State) (l : LqItem) : State :=
  if s.pageHeld l.flip.id then
    ((s.supersedeBeam l.flip.id).modBf fun x => { x with lq := x.lq ++ [l] }).showSteer
  else (s.writeBeam l).showSteer

/-- PAGE_HOLD_EXPIRY (R222): the former page becomes writable, and a waiting write proceeds. -/
def State.holdExpiry (s : State) (id : Nat) : State :=
  match s.bf.holds.find? fun h => h.1 == id with
  | some (_, c) =>
    let s := (s.advanceTo c).modBf fun x => { x with holds := x.holds.filter fun h => h.1 ≠ id }
    match s.bf.lq.find? fun l => l.flip.id == id with
    | some l => ((s.modBf fun x => { x with lq := x.lq.filter fun y => y.flip.id ≠ id }).writeBeam l).showSteer
    | none => s
  | none => s

/-- An ID flips (R221, R222). -/
def State.flipBeam (f : Flip) (late : Bool) (s : State) : State :=
  let s := s.putBit (R.BEAM_PAGE_PAGE (f.id / 32)) (f.id % 32) (s.beamPage f.id == 0)
  let s := s.modBf fun x => { x with
    flips := x.flips.filter fun g => g.id ≠ f.id
    holds := x.holds.filter (fun h => h.1 ≠ f.id) ++ [(f.id, s.now + 36864)] }
  let s := doIf late (fun s => (s.count R.STEER_CNT0_LATE).event (.steerLate f.id)) s
  s.flipEnd f.src .ok

/-- Whether a flip's target has passed at the plan instant of symbol `n` of frame `k`, in frame `sfn` (R221): FRAME lies 512 or more ahead of the
current SFN, or the named symbol lies before the one that is planned. -/
def Flip.passed (f : Flip) (sfn k n : Nat) : Bool :=
  let r := (f.frame + 1024 - k % 1024) % 1024
  512 ≤ (f.frame + 1024 - sfn % 1024) % 1024 || 512 ≤ r || (r == 0 && f.sym < n)

/-- The flips due at the plan instant of symbol `n` of frame `k` of a slot (R221). -/
def State.planFlips (s : State) (d : Dir) (cs k n : Nat) : State :=
  let due := s.bf.flips.filter fun f => f.d == dirIx d && f.cs == cs
    && (!f.atEn || (f.frame == k % 1024 && f.sym == n) || f.passed s.sfn k n)
  forAll due (fun f s => State.flipBeam f (f.atEn && !(f.frame == k % 1024 && f.sym == n)) s) s

/-! ### The steering engine (R225 to R231) -/

/-- The geometry of an element (R225, R226) for a request; an element that depends on a poisoned word, or is not PRESENT, is out. -/
def State.steerGeom (s : State) (dir taper a : Nat) : SteerGeom :=
  let e := geomBase + 16 * a
  let c := geomBase + (if dir = 0 then 0x400 else 0x500) + 4 * a
  let t := geomBase + 0x600 + 128 * taper + 2 * a
  let cw := leNat (s.bytes c 4)
  { use := !(s.poisoned (e / 16) || s.poisoned (c / 16) || s.poisoned (t / 16)) && (s.byte (e + 12)).toNat.testBit 0,
    x := leNat (s.bytes e 4), y := leNat (s.bytes (e + 4) 4), z := leNat (s.bytes (e + 8) 4),
    corr := (toInt 16 (cw % 65536), toInt 16 (cw / 65536)), taper := leNat (s.bytes t 2) }

/-- The computation of a request starts with the geometry and corrections in force (R226). -/
def State.steerStart (r : SteerReq) (s : State) : State :=
  let dir := bits r.w0 19 19
  let bad := ((List.range 64).filter fun a =>
    let e := geomBase + 16 * a
    s.poisoned (e / 16) || s.poisoned ((geomBase + (if dir = 0 then 0x400 else 0x500) + 4 * a) / 16)
      || s.poisoned ((geomBase + 0x600 + 128 * bits r.w0 15 12 + 2 * a) / 16)).length
  let b : SteerBusy := { req := r, start := s.now, geom := (List.range 64).map (s.steerGeom dir (bits r.w0 15 12)),
                         code := s.carrierCode dir (bits r.w0 18 16), stalled := false }
  (s.countBy R.WPOISON_COUNT bad).modBf fun x => { x with busy := some b }

/-- The engine starts the request at the head of its FIFO: enabled, idle, and the loader queue not full (R224, R230). -/
def State.steerKick (s : State) : State :=
  match s.bf.busy, s.bf.fifo with
  | none, r :: t =>
    if s.flag R.STEER_CTRL_EN && s.bf.lq.length < 32 then ((s.modBf fun x => { x with fifo := t }).steerStart r).showSteer
    else s.showSteer
  | _, _ => s.showSteer

/-- φ_a of R229 in units of 2^−24 cycle: frac(f · d_a / c) for a carrier code, a direction and a position in µm, within 0.01° of the exact value for
an element within 4 m of the origin. -/
def steerPhase (code az el x y z : Nat) : Nat :=
  let a : Int := toInt 16 az * 2 ^ 32
  let e : Int := toInt 16 el * 2 ^ 32
  let px := toInt 32 x
  let py := toInt 32 y
  let pz := toInt 32 z
  let d := px * (cosOf e * cosOf a) + py * (cosOf e * sinOf a) + pz * (sinOf e * 2 ^ 60)
  let exact := roundDiv ((code : Int) * 491520000 * d) (2 ^ 133 * 10 ^ 6 * 299792458)
  let err := Config.steerErr code az el x y z
  let near : Bool := px * px + py * py + pz * pz ≤ 4000000 * 4000000
  ((exact + (if near then max (-466) (min 466 err) else err)) % 2 ^ 24).toNat

/-- A product rounded convergently to `k` fractional bits from `f`. -/
def keepBits (f k : Nat) (x : Int) : Int := roundShift x (f - k)

/-- The weight of an element (R229): gain · taper · correction · rotation, each product rounded convergently, the result to Q1.11 and saturated; and
how many components saturated. The sine and cosine are those of R127. -/
def steerWeight (gain az el code : Nat) (g : SteerGeom) : (Int × Int) × Nat :=
  if g.use then
    let (c, sn) := sine18 (steerPhase code az el g.x g.y g.z * 2 ^ 13)
    let k0 := min 22 (Config.steerBits 0)
    let k1 := min (k0 + 14) (Config.steerBits 1)
    let k2 := min (k1 + 17) (11 + Config.steerBits 2)
    let w := keepBits 22 k0 ((gain * g.taper : Nat) : Int)
    let p := (keepBits (k0 + 14) k1 (w * g.corr.1), keepBits (k0 + 14) k1 (w * g.corr.2))
    let r := cmul p (c, -sn)
    let v := (keepBits k2 11 (keepBits (k1 + 17) k2 r.1), keepBits k2 11 (keepBits (k1 + 17) k2 r.2))
    let y := (satS 12 v.1, satS 12 v.2)
    (y, b2n (y.1 ≠ v.1) + b2n (y.2 ≠ v.2))
  else ((0, 0), 0)

/-- An element as stored (R218). -/
def elementBytes (w : Int × Int) : List Byte := leBytes 3 (ofInt 12 w.1 + ofInt 12 w.2 * 4096)

/-- The computation in hand ends (R230): its vector goes to the loader. -/
def State.steerFinish (s : State) (b : SteerBusy) : State :=
  let r := b.req
  let ws := b.geom.map (steerWeight (bits r.w2 19 12) (bits r.w1 31 16) (bits r.w1 15 0) b.code)
  let s := s.countBy R.STEER_CNT1_SAT (ws.map Prod.snd).sum
  let f : Flip := { id := bits r.w0 31 20, d := bits r.w0 19 19, cs := bits r.w0 18 16, atEn := r.w2.testBit 21,
                    frame := bits r.w2 31 22, sym := bits r.w0 11 0, src := .none }
  let s := s.modBf fun x => { x with busy := none }
  s.loadBeam { flip := f, vec := ws.flatMap fun w => elementBytes w.1, steer := some r.job }

/-- Whether a finished vector finds no room in the loader queue (R222, R224). -/
def State.steerStuck (s : State) (b : SteerBusy) : Bool :=
  let id := bits b.req.w0 31 20
  s.pageHeld id && 32 ≤ (s.bf.lq.filter fun l => l.flip.id ≠ id).length

/-- The computation in hand delivers its vector, or stalls while the loader queue is full (R224). -/
def State.steerDeliver (s : State) (b : SteerBusy) : State :=
  if s.steerStuck b then s.modBf fun x => { x with busy := some { b with stalled := true } } else (s.steerFinish b).steerKick

/-- STEER_COMPUTE_DONE (R230): 96 cycles after the start. -/
def State.steerDone (s : State) : State :=
  match s.bf.busy with
  | some b => (s.advanceTo (b.start + 96)).steerDeliver b
  | none => s.steerKick

/-- Whether a request is well formed for its slot (R228). -/
def State.steerValid (s : State) (r : SteerReq) : Bool :=
  let d := dirOf (bits r.w0 19 19)
  let cs := bits r.w0 18 16
  s.slotEn d cs && bits r.w0 11 0 < symsPerFrame (s.slotMu d cs) && !r.w2.testBit 20 && bits r.w2 11 0 == 0

/-- A request without a command enters the FIFO or is dropped and counted (R228); `own` the session it must belong to, if any. -/
def State.steerSubmit (s : State) (r : SteerReq) (own : Option Nat) : State :=
  let mine := match own with
    | some x => s.beamOwner (bits r.w0 31 20 / 256) == x
    | none => true
  if s.steerValid r && mine && s.bf.fifo.length < 64 then
    (s.modBf fun x => { x with fifo := x.fifo ++ [r] }).steerKick
  else s.count R.STEER_CNT1_DROP

/-! ### Weight sets and the loader (R219, R220, R225) -/

/-- The refusal code of a WS_CFG write (R219), 0 if it is taken. -/
def State.wsCheck (s : State) (w : Nat) (v : Word) : Nat :=
  let span := (R.WS_CFG_SPAN w).of v
  let nl := (R.WS_CFG_NL w).of v
  let gran := (R.WS_CFG_GRAN w).of v
  let rb := s.get (R.CS_CFG_N_RB ((R.WS_CFG_DIR w).of v) ((R.WS_CFG_CS w).of v))
  let members := ((List.range 4).filter fun i => 1 ≤ i && i < spanSlots span).map (w + ·)
  if s.setInUse w then 1
  else if span = 3 ∨ 4 < gran then 3
  else if (R.WS_CFG_VALID w).of v = 1 &&
      (w % spanSlots span ≠ 0 || members.any (fun m => s.flag (R.WS_CFG_VALID m) || (s.memberOf m).any (· ≠ w))
        || 2208 * spanSlots span < nl * groupsOf rb gran || nl = 0 || 32 < nl) then 3
  else 0

/-- A write of WS_CFG (R219). -/
def State.wsWrite (s : State) (w : Nat) (v : Word) : Wr :=
  match s.wsCheck w v with
  | 0 =>
    let fs := [R.WS_CFG_VALID w, R.WS_CFG_NL w, R.WS_CFG_SPAN w, R.WS_CFG_GRAN w, R.WS_CFG_DIR w, R.WS_CFG_CS w]
    .ok (forAll fs (fun f s => s.put f (f.of v)) s)
  | c => s.bfRefuse c

/-- Vectors of a set: NL × G_set of a declared one (R218, R219), the 2,208 of the slot where none is declared. -/
def State.setSize (s : State) (w : Nat) : Nat :=
  if s.flag (R.WS_CFG_VALID w) then
    s.get (R.WS_CFG_NL w) * groupsOf (s.get (R.CS_CFG_N_RB (s.get (R.WS_CFG_DIR w)) (s.get (R.WS_CFG_CS w)))) (s.get (R.WS_CFG_GRAN w))
  else 2208

/-- A set vector is written at once, or refused while the set is in use (R220). -/
def State.setWrite (s : State) (w v : Nat) (vec : List Byte) : State × Status :=
  if s.setInUse w then (s.count R.SET_WR_REFUSED_COUNT, .stateConflict)
  else if (s.memberOf w).isSome || s.setSize w ≤ v then (s, .badParam)
  else (s.storeMem (setVec w v) vec, .ok)

/-- BL_GO (R220, R221): the staged vector goes to a set or to a beam ID; RESULT shows its status. -/
def State.blGo (s : State) : State :=
  let vec := (List.range 48).flatMap fun i => leBytes 4 (s.get (R.BL_STAGE_DATA i))
  match s.get R.BL_TGT_KIND with
  | 0 =>
    let (s, st) := s.setWrite (s.get R.BL_TGT_SET) (s.get R.BL_TGT_INDEX) vec
    s.put R.BL_GO_RESULT (statusCode st)
  | 1 =>
    if 32 ≤ s.bf.lq.length then s.put R.BL_GO_RESULT (statusCode .queueFull)
    else
      let f : Flip := { id := s.get R.BL_TGT_INDEX % 4096, d := s.get R.BL_APPLY_DIR, cs := s.get R.BL_APPLY_CS,
                        atEn := s.flag R.BL_APPLY_AT_EN, frame := s.get R.BL_APPLY_FRAME, sym := s.get R.BL_APPLY_SYM, src := .loader }
      let s := (s.supersedeBeam f.id).put R.BL_GO_RESULT (statusCode .accepted)
      s.loadBeam { flip := f, vec := vec, steer := none }
  | _ => (s.put R.BL_GO_RESULT (statusCode .badParam))

/-- Whether a word of the geometry region may be written (R225): not the reserved part; a correction word not while the calibration
sequencer owns the corrections (R391). -/
def State.geomOk (s : State) (w : Nat) : Bool :=
  4 * w < 0xE00 && !(0x400 ≤ 4 * w && 4 * w < 0x600 && s.flag R.CAL_CTRL_EN)

/-- GEOM_DATA (R225, R406): the word at GEOM_ADDR is stored through the loader; a correction word while the sequencer is enabled is
refused in the calibration block. -/
def State.geomWrite (s : State) (v : Word) : Wr :=
  let w := s.get R.GEOM_ADDR_WORD
  if s.geomOk w then .ok ((s.put R.GEOM_DATA_DATA v.toNat).storeMem (geomBase + 4 * w) (leBytes 4 v.toNat))
  else if 4 * w < 0xE00 then refuse R.CAL_STATUS_WR_REFUSED s
  else s.bfRefuse 3

/-- GEOM_DATA as a read returns it: the word at GEOM_ADDR. -/
def State.geomRead (s : State) : Word := BitVec.ofNat 32 (leNat (s.bytes (geomBase + 4 * s.get R.GEOM_ADDR_WORD) 4))

/-- The device leaves ACTIVE (R234): what waits in the queue, the computation in hand and the FIFO are completed in that order, and every pending
flip is applied at once. -/
def State.beamDrain (s : State) : State :=
  let l := s.bf.lq
  let s := forAll l (fun l s => s.writeBeam l) (s.modBf fun x => { x with lq := [] })
  let done (b : SteerBusy) (s : State) : State :=
    let s := s.steerFinish b
    let l := s.bf.lq
    forAll l (fun l s => s.writeBeam l) (s.modBf fun x => { x with lq := [] })
  let s := match s.bf.busy with
    | some b => done b s
    | none => s
  let f := s.bf.fifo
  let s := forAll f (fun r s =>
    let s := s.steerStart r
    match s.bf.busy with
    | some b => done b s
    | none => s) (s.modBf fun x => { x with fifo := [] })
  (forAll s.bf.flips (fun f s => State.flipBeam f false s) s).showSteer

/-! ### Column repair (R238, R239) -/

/-- The symbol of a slot whose MAC pass is in progress, or comes next: its plan. -/
def State.passPlan (s : State) (d : Dir) (cs : Nat) : Option Plan :=
  s.bf.plans.find? fun p => p.d == dirIx d && p.cs == cs && s.now ≤ p.passEnd

/-- The subcarrier that a slot's pass has reached: 0 where none is in progress. -/
def State.passPos (s : State) (d : Dir) (cs : Nat) : Nat :=
  match s.passPlan d cs with
  | some p => s.now - (p.passEnd - 12 * s.slotRB d cs)
  | none => 0

/-- A column's downlink outputs of the symbols on their way are zero from a subcarrier on: the antenna is silent there (R238). -/
def State.silence (a cs k : Nat) (s : State) : State :=
  s.modBf fun x => { x with dlOut := x.dlOut.map fun r =>
    if r.ch = a ∧ r.cs = cs then { r with y := r.y.mapIdx fun i v => if k ≤ i then (0, 0) else v } else r }

/-- COLUMN_RESIDUE_MISMATCH (R238, R239): the column is zeroed in every slot to the end of its symbol in progress, from subcarrier `k` in slot
(d, cs) and from where its pass stands in the others; the quadrant's spare takes over at each slot's next symbol boundary, if it can. -/
def State.columnFail (s : State) (a : Nat) (d : Dir) (cs k : Nat) : State :=
  let q := quadOf a
  let s := s.count R.RESIDUE_COUNT
  let onSpare := s.flag (R.BF_REPAIR_SPARE_BUSY q) && s.get (R.BF_REPAIR_SPARE_CH q) == a
  let from0 (x : Dir × Nat) : Nat := if x.1 = d ∧ x.2 = cs then k else s.passPos x.1 x.2
  let s0 := s
  let quiet (s : State) : State :=
    forAll ((allSlots.filter fun x => x.1 == Dir.dl && s.active x.1 x.2).map fun x => (x.2, from0 x)) (fun (c, i) s => s.silence a c i) s
  let lost (s : State) : State :=
    (((quiet s).modBf fun x => { x with colDead := x.colDead ++ [a], colZero := x.colZero.filter fun z => z.col ≠ a }).report
      (mkReport 0x0B .clsU 0x0012 a)).event (.bfNoSpare a)
  if s.bf.colDead.contains a then s
  else if onSpare then lost ((s.put (R.BF_REPAIR_SPARE_FAILED q) 1).put (R.BF_REPAIR_SPARE_BUSY q) 0)
  else
    let s := s.raiseBit (R.BF_REPAIR_FAILED q) (a % 16)
    if s.flag (R.BF_REPAIR_SPARE_BUSY q) || s.flag (R.BF_REPAIR_SPARE_FAILED q) then lost s
    else
      let s := (s.put (R.BF_REPAIR_SPARE_BUSY q) 1).put (R.BF_REPAIR_SPARE_CH q) a
      let zs := (allSlots.filter fun x => s.active x.1 x.2).map fun x => { col := a, d := dirIx x.1, cs := x.2, k := from0 x : ColZero }
      let s := (quiet s).modBf fun x => { x with colZero := x.colZero ++ zs }
      let (f, n) := match s0.passPlan d cs with
        | some p => (p.frame, p.sym)
        | none => let (f, n, _) := s.symNow d (s.slotMu d cs) s.now; (f, n)
      (s.report { mkReport 0x0B .clsC 0x0011 a with sub := cs }).event (.bfResidue (dirIx d) a cs (f % 1024) n)

/-- The spare takes over the zeroed columns of a slot at its symbol boundary (R238). -/
def State.columnTakeover (d : Dir) (cs : Nat) (s : State) : State :=
  s.modBf fun x => { x with colZero := x.colZero.filter fun z => !(z.d == dirIx d && z.cs == cs) }

/-! ### PRACH beams (R240, R241) -/

/-- 22-bit entries of a row packed as R281 packs them: entry j in bits [44j + 43 : 44j], I below Q, padded to a size. -/
def packSums (size : Nat) (l : List (Int × Int)) : List Byte :=
  let n := (l.mapIdx fun j v => (ofInt 22 v.1 + ofInt 22 v.2 * 2 ^ 22) * 2 ^ (44 * j)).sum
  leBytes size n

/-- One entry of a beam row (R240), and whether it saturated. -/
def State.prachBeam (s : State) (addr shift : Nat) (p : Nat → Int × Int) : (Int × Int) × Bool :=
  let sum := (List.range 64).foldl (fun acc a => cadd acc (cmul (s.element addr a) (p a))) (0, 0)
  let sh := 11 + shift
  let r := (roundShift sum.1 sh, roundShift sum.2 sh)
  let z := (satS 22 r.1, satS 22 r.2)
  (z, z ≠ r)

/-- Bytes of a PRACH beam row (R241). -/
def beamRowBytes (cls : Nat) : Nat := if cls = 0 then 768 else 4864

/-- Poisoned words of the vector at an address (R236). -/
def State.vecPoison (s : State) (addr : Nat) : Nat := (((List.range 13).map (addr / 16 + ·)).filter fun w => 16 * w < addr + 192 && s.poisoned w).length

/-- The beam rows of an engine's occasion, beam by beam and repetition by repetition: entries, how many saturated, and the row's flags
(R237, R240: LSAT, POISON). -/
def State.prachBeams (s : State) (x : PrachX) : List (List (Int × Int) × Nat × Nat) :=
  let (_, len, _) := prachClass x.cls x.mu
  x.beams.flatMap fun addr => (List.range x.reps).map fun r =>
    let l := (List.range len).map fun j => s.prachBeam addr x.shift fun ch =>
      match look x.rows ch with
      | some rows => (rows.getD r []).getD j (0, 0)
      | none => (0, 0)
    let n := (l.filter Prod.snd).length
    (l.map Prod.fst, n, (if n = 0 then 0 else 1) + (if s.vecPoison addr = 0 then 0 else 2))

/-- Cycles from the end of an occasion to its last beam row (R241). -/
def PrachX.beamTime (x : PrachX) : Nat := 8192 + x.beams.length * x.reps * (prachClass x.cls x.mu).2.1 + 64

/-- PRACH_BEAMS_WRITTEN (R236, R240, R241). -/
def State.beamsWritten (s : State) (o : Nat) : State :=
  let x := s.prx o
  match x.endAt with
  | some e =>
    if x.beamsDue then
      let s := s.advanceTo (e + x.beamTime)
      let l := s.prachBeams x
      let s := s.countBy R.WPOISON_COUNT (x.beams.map s.vecPoison).sum
      let s := s.storeMem ((s.region 4).1 + 917504 + o * 32768) (l.flatMap fun r => packSums (beamRowBytes x.cls) r.1)
      let s := s.countBy R.UL_LSAT_COUNT (l.map fun r => r.2.1).sum
      let fl := l.map fun r => r.2.2
      let s := { s with casc := { s.casc with prFlags := updAt s.casc.prFlags o fun _ => fl } }
      { s with prach := updAt s.prach o fun x => { x with beamsDue := false } }
    else s
  | none => s

/-! ### Register writes -/

/-- A write of a register of the beamforming block. -/
def writeBF (r : RegRow) (ix : List Nat) (a : Nat) (v : Word) (s : State) : Wr :=
  let i := ix.getD 0 0
  let cs := ix.getD 1 0
  let direct := s.plainWrite r a v
  match r.id with
  | .BF_SHIFT => .ok (forAll allSlots (fun (d, k) s => doIf (!s.active d k) (State.applyShift d k) s) direct)
  | .BF_LMAP =>
    let d := dirOf i
    let live := s.slotEn d cs || s.active d cs
    let g := R.BF_LMAP_GRAN i cs
    let l := R.BF_LMAP_LBASE i cs
    if 4 < g.of v then s.bfRefuse 3
    else if live && (g.of v ≠ s.get g || l.of v ≠ s.get l) then s.bfRefuse 2
    else .ok (doIf (!s.active d cs) (fun s => s.apply (R.BF_LMAP i cs)) direct)
  | .WS_CFG => s.wsWrite i v
  | .BF_CNT_CLR =>
    if v.toNat.testBit 0 then
      let l := [R.DL_SAT, R.UL_LSAT, R.POISON_RE, R.WPOISON, R.BAD_REF, R.SET_WR_REFUSED, R.RESIDUE, R.STEER_CNT0, R.STEER_CNT1, R.STEER_DONE]
      .ok (forAll l (fun a s => s.setReg a 0) s)
    else .ok s
  | .STEER_CTRL => .ok direct.steerKick
  | .STEER_GO =>
    if v.toNat.testBit 0 then
      .ok (s.steerSubmit { w0 := s.get (R.STEER_REQ_WORD 0), w1 := s.get (R.STEER_REQ_WORD 1), w2 := s.get (R.STEER_REQ_WORD 2), job := none } none)
    else .ok s
  | .PRB_CFG => if 8 < (R.PRB_CFG_NB i).of v then s.bfRefuse 3 else .ok direct
  | .BL_TGT => if 1 < R.BL_TGT_KIND.of v then s.bfRefuse 3 else .ok direct
  | .BL_GO => if v.toNat.testBit 0 then .ok s.blGo else .ok s
  | .GEOM_DATA => s.geomWrite v
  | _ => .ok direct

/-! ### Meanings -/

/-- PRACH_BEAMS_WRITTEN (R240). -/
def execPrachBeamsWritten (o : Nat) (s : State) : Host.Outcome State Fault Refusal := .next (s.beamsWritten o)

/-- Room in the loader queue lets a stalled engine go on (R224). -/
def State.steerResume (s : State) : State :=
  match s.bf.busy with
  | some b => if b.stalled then s.steerDeliver b else s.steerKick
  | none => s.steerKick

/-- PAGE_HOLD_EXPIRY (R222, R224). -/
def execPageHoldExpiry (id : Nat) (s : State) : Host.Outcome State Fault Refusal := .next (s.holdExpiry id).steerResume

/-- WS_CFG_WRITE (R219). -/
def execWsCfgWrite (ws : Nat) (v : Word) (s : State) : Host.Outcome State Fault Refusal := .next (s.wsWrite ws v).state

/-- BL_GO (R221). -/
def execBlGo (s : State) : Host.Outcome State Fault Refusal := .next s.blGo

/-- STEER_GO (R228): the request in STEER_REQ. -/
def execSteerGo (s : State) : Host.Outcome State Fault Refusal :=
  .next (s.steerSubmit { w0 := s.get (R.STEER_REQ_WORD 0), w1 := s.get (R.STEER_REQ_WORD 1), w2 := s.get (R.STEER_REQ_WORD 2),
                         job := none } none)

/-- STEER_COMPUTE_DONE (R230). -/
def execSteerComputeDone (s : State) : Host.Outcome State Fault Refusal := .next s.steerDone

/-- GEOM_DATA_WRITE (R225). -/
def execGeomDataWrite (v : Word) (s : State) : Host.Outcome State Fault Refusal := .next (s.geomWrite v).state

/-- COLUMN_RESIDUE_MISMATCH (R238). -/
def execColumnResidueMismatch (a : Nat) (d : Dir) (cs k : Nat) (s : State) : Host.Outcome State Fault Refusal :=
  .next (s.columnFail a d cs k)

end Sys2Proof.Machine
end

