-- ==== Sys2Proof/Machine/Hedgerow.lean ====
section
/-! DEFINITION. Hedgerow ports: training, capability exchange, fixed transit, lane repair, electrical idle (chapter 8). -/

namespace Sys2Proof.Machine

/-- A port's own state. -/
def State.hgx (s : State) (p : Nat) : HgX := s.hg.getD p HgX.reset

/-- Update a port's own state. -/
def State.modHg (s : State) (p : Nat) (f : HgX → HgX) : State := { s with hg := updAt s.hg p f }

/-- Port states (R251): DISABLED. -/
def hgDisabled : Nat := 0
/-- DETECT. -/
def hgDetect : Nat := 1
/-- TRAIN. -/
def hgTrain : Nat := 2
/-- UNTIMED. -/
def hgUntimed : Nat := 3
/-- LATFIX. -/
def hgLatfix : Nat := 4
/-- TIMED. -/
def hgTimed : Nat := 5
/-- IDLE. -/
def hgIdle : Nat := 6
/-- EXITING. -/
def hgExiting : Nat := 7
/-- DOWN. -/
def hgDown : Nat := 8

/-- DOWN causes (HG_STATUS.CAUSE): CLOCK. -/
def hcClock : Nat := 1
/-- WIDTH. -/
def hcWidth : Nat := 2
/-- NO_RATE. -/
def hcNoRate : Nat := 3
/-- PROTO. -/
def hcProto : Nat := 4
/-- REACH. -/
def hcReach : Nat := 5
/-- SLIP. -/
def hcSlip : Nat := 6
/-- TIMEOUT. -/
def hcTimeout : Nat := 7
/-- CAP_CRC. -/
def hcCapCrc : Nat := 8
/-- REMOTE. -/
def hcRemote : Nat := 9

/-- The state of a port. -/
def State.hgState (s : State) (p : Nat) : Nat := s.get (R.HG_STATUS_STATE p)

/-- Whether a port is TIMED (R252). -/
def State.hgTimedNow (s : State) (p : Nat) : Bool := s.hgState p == hgTimed

/-- Whether a port carries commands, boot images and management traffic (R251): UNTIMED, LATFIX or TIMED. -/
def State.hgCarries (s : State) (p : Nat) : Bool :=
  let st := s.hgState p
  st == hgUntimed || st == hgLatfix || st == hgTimed

/-- Lanes of a mask. -/
def lanesIn (m : Nat) : Nat := (bitList 24 m).length

/-- Payload of a direction in Mb/s, floor of W · rate · 64 / 66 (R245). -/
def payloadMbps (w rate : Nat) : Nat := w * (9000 * 2 ^ rate) * 64 / 66

/-- A port enters a state; TIMED shows it. Outside UNTIMED and TIMED its partner must be sent the session table again (R452). -/
def State.setHg (s : State) (p st : Nat) : State :=
  let s := (s.put (R.HG_STATUS_STATE p) st).put (R.HG_STATUS_TIMED p) (b2n (st == hgTimed))
  if st = hgUntimed ∨ st = hgTimed then s else { s with fe := { s.fe with told := setBit s.fe.told p false } }

/-- The plan bank in force (R275). -/
def State.planAct (s : State) : Nat := s.get R.CASC_STATUS_PLAN_ACT

/-- The role of a port in the plan in force: 0 OFF, 1 UP, 2 DOWN, 3 SPARE; a port whose partner conflicts is OFF (R274). -/
def State.portRole (s : State) (p : Nat) : Nat :=
  if s.casc.conflict.contains p then 0 else bits (s.get (R.PLAN_A_PORT_ROLE s.planAct)) (2 * p + 1) (2 * p)

/-- Entry to TIMED or UNTIMED raises HG_UP (R269); an UP port back in TIMED ends the mute of R299. -/
def State.hgUp (s : State) (p st : Nat) : State :=
  let s := s.setHg p st
  let s := doIf (st == hgTimed && s.portRole p == 1 && s.hold.upLost) (fun s => ({ s with hold := { s.hold with upLost := false } }).settle) s
  s.event (.hgUp p (s.get (R.HG_STATUS_RATE_NOW p)) (s.get (R.HG_STATUS_TX_W p)) (s.get (R.HG_STATUS_RX_W p)))

/-- The widths and lanes of a port. -/
def State.setLanes (s : State) (p rx tx : Nat) : State :=
  let s := (s.put (R.HG_RX_LANES_LANES p) rx).put (R.HG_TX_LANES_LANES p) tx
  (s.put (R.HG_STATUS_RX_W p) (lanesIn rx)).put (R.HG_STATUS_TX_W p) (lanesIn tx)

/-- A port carries nothing any more: widths, repairs and idle entry are gone. -/
def State.hgQuiet (s : State) (p : Nat) : State :=
  ((s.setLanes p 0 0).put (R.HG_STATUS_NO_ALIGN p) 0).modHg p fun x =>
    { x with rxFix := none, txFix := none, idling := false, exitDue := false, kept := false }

/-- The DOWN port that ROUTE names for a DA in the plan in force (R275). -/
def State.routeOf (s : State) (da : Nat) : Option Nat :=
  let w := (s.reg (R.ROUTE s.planAct (da / 8))).toNat
  if da < 64 ∧ bit w (4 * (da % 8) + 3) then some (bits w (4 * (da % 8) + 1) (4 * (da % 8))) else none

/-- The manager raises TREE_CHANGED when a DOWN port of its plan is lost (R301); the event names the lowest DA that
ROUTE sends through the port, 0xFF where none. -/
def State.treeLost (s : State) (p : Nat) : State :=
  if !s.worker && s.portRole p == 2 then
    s.event (.treeChanged (((List.range 64).find? fun d => s.routeOf d == some p).getD 0xFF))
  else s

/-- A port goes DOWN with a cause (R269): class U; the partner is told (R249). -/
def State.hgGoDown (s : State) (p cause : Nat) : State :=
  let s := ((s.hgQuiet p).setHg p hgDown).put (R.HG_STATUS_CAUSE p) cause
  let s := s.count (R.HG_CNT0_DOWNS p)
  let s := doIf (cause ≠ hcRemote) (fun s => s.emit (.link p (.downNotice cause))) s
  ((s.event (.hgDown p cause)).report (mkReport (0x14 + p) .clsU 0x0010 cause)).treeLost p

/-! ### Training (R253 to R258) -/

/-- CRC-16 with polynomial 0x1021 over `n` bits of a number, most significant first (R257). -/
def crc16 (v : Nat) : Nat → Nat → Nat
  | 0, c => c
  | n + 1, c =>
    let b := (c / 2 ^ 15 + bits v n n) % 2
    crc16 v n ((c * 2 % 65536) ^^^ (if b = 1 then 0x1021 else 0))

/-- Whether the CRC of a 256-bit capability record holds (R257). -/
def capCrcOk (rec : Nat) : Bool := crc16 (rec / 65536) 240 0xFFFF == rec % 65536

/-- The capability record this device sends on a port (R257): a worker's role is not known before its ROM or its boot configuration gives it (R45). -/
def State.capRecord (s : State) (p : Nat) : Nat :=
  let role := if s.worker then 1 else if s.boot == .rom || s.boot == .image then 2 else 0
  let da := if s.flag R.CASC_STATUS_DA_VALID then s.ownDa else 0xFE
  let hi := ((((((((1 * 256 + 0xB1) * 8 + 7) * 4 + role) * 4 + p) * 2 + b2n s.aligned) * 256 + da) * 2 ^ 24
    + (s.hgx p).lanes) * 2 ^ 64 + Config.uid % 2 ^ 64) * 2 + b2n (s.boot == .image && s.th.mode == 3)
  let body := hi * 2 ^ 111
  body * 65536 + crc16 body 240 0xFFFF

/-- The record is sent, and HG_CAP_LOCAL shows it. -/
def State.showCap (s : State) (p : Nat) : State :=
  let r := s.capRecord p
  (forAll (List.range 8) (fun i s => s.setReg (R.HG_CAP_LOCAL p i) (BitVec.ofNat 32 (r / 2 ^ (32 * i)))) s).emit (.capRecord p r)

/-- The partner's capability record. -/
def State.capPeer (s : State) (p : Nat) : Nat :=
  (List.range 8).foldl (fun n i => n + (s.reg (R.HG_CAP_PEER p i)).toNat * 2 ^ (32 * i)) 0

/-- Whether both partners report ALIGNED (R261). -/
def State.bothAligned (s : State) (p : Nat) : Bool := s.aligned && (s.capPeer p).testBit 224

/-- Fields of HG_CTRL as taken at the start of training (R270). -/
def HgX.rateMax (x : HgX) : Nat := bits x.ctrl 13 12
/-- RATE_MIN as taken. -/
def HgX.rateMin (x : HgX) : Nat := bits x.ctrl 17 16
/-- MIN_LANES as taken. -/
def HgX.minLanes (x : HgX) : Nat := bits x.ctrl 23 19
/-- MODE as taken: STEPPED. -/
def HgX.stepped (x : HgX) : Bool := x.ctrl.testBit 1

/-- A port waits for its partner's clock (R254). -/
def State.hgToDetect (s : State) (p : Nat) : State := (s.hgQuiet p).setHg p hgDetect

/-- Training starts: the settings in HG_CTRL and HG_RETIRE are taken (R270); retired lanes are tested again (R265). -/
def State.hgStart (s : State) (p : Nat) : State :=
  let s := (s.hgQuiet p).setHg p hgTrain
  let ctrl := (s.reg (R.HG_CTRL p)).toNat
  let s := s.modHg p fun x => { x with
    ctrl := ctrl, retire := s.get (R.HG_RETIRE_RETIRE p), settled := none, anchor := s.now, rateAt := s.now, phase := 0, locked := 0, inv := 0,
    peer := false, crcBad := 0, lanes := 0, rate := if ctrl.testBit 1 then 0 else bits ctrl 13 12 }
  forAll (List.range 24) (fun n s => s.put (R.HG_EQ_BAD p n) 0) s

/-- HG_PARTNER_CLOCK_DETECT (R254): a port in DETECT, or DOWN with AUTO_RETRAIN as taken at the last training (R270), trains. -/
def State.hgClock (s : State) (p : Nat) : State :=
  let st := s.hgState p
  if st = hgDetect ∨ (st = hgDown ∧ (s.hgx p).ctrl.testBit 8 ∧ s.flag (R.HG_CTRL_EN p)) then s.hgStart p else s

/-- The port moves to LATFIX (R260, R261): TMARK names the alignment edge on which it is sent, counted from the array epoch. -/
def State.hgToLatfix (s : State) (p : Nat) : State :=
  ((s.put (R.HG_STATUS_NO_ALIGN p) 0).setHg p hgLatfix).emit (.link p (.tmark ((s.alignEdge - s.tm.epoch) / 2)))

/-- The port settles at its best rate (R253, R256, R261). -/
def State.hgSettle (s : State) (p : Nat) : State :=
  let x := s.hgx p
  match x.settled with
  | none => s.hgGoDown p hcNoRate
  | some r =>
    if r < x.rateMin then s.hgGoDown p hcNoRate
    else
      let tx := bits (s.capPeer p) 215 192
      if lanesIn x.lanes < max 1 x.minLanes ∨ lanesIn tx < max 1 x.minLanes then s.hgGoDown p hcWidth
      else
        let s := ((s.put (R.HG_STATUS_RATE_NOW p) r).setLanes p x.lanes tx).count (R.HG_CNT0_TRAINS p)
        if s.bothAligned p then (s.hgUp p hgUntimed).hgToLatfix p
        else (s.hgUp p hgUntimed).put (R.HG_STATUS_NO_ALIGN p) 1

/-- Whether every lane that locked shows the pattern of lane 23 − n (R255). -/
def allReversed (pat : List (Option (Nat × Bool))) : Bool :=
  let l := (List.range 24).filterMap fun n => (pat.getD n none).map fun k => (n, k.1)
  !l.isEmpty && l.all fun x => x.2 + x.1 == 23

/-- The lanes, numbered as the transmitter does, that show a pattern of their own number (R255); `inverted` those of them whose polarity is
swapped. -/
def goodLanes (pat : List (Option (Nat × Bool))) (inverted : Bool) : Nat :=
  let rev := allReversed pat
  (List.range 24).foldl (fun m n =>
    match pat.getD (if rev then 23 - n else n) none with
    | some (k, i) => if k = n ∧ (i || !inverted) then m + 2 ^ n else m
    | none => m) 0

/-- HG_TRAIN_STEP_DONE (R253 to R257): a step of the rate in training ends. -/
def State.hgStep (s : State) (p : Nat) (t : HgStep) : State :=
  let x := s.hgx p
  if s.hgState p ≠ hgTrain then s
  else
    match t, x.phase with
    | .locked pat, 0 =>
      (s.modHg p fun x => { x with phase := 1, locked := goodLanes pat false, inv := goodLanes pat true }).put (R.HG_STATUS_REVERSED p)
        (b2n (allReversed pat))
    | .equalised lanes ok eqs, 1 =>
      if ok then
        let got := x.locked &&& lanes
        let s := s.modHg p fun x => { x with phase := 2, lanes := got - (got &&& x.retire) }
        (forAll (List.range 24) (fun n s => s.setReg (R.HG_EQ p n) (BitVec.ofNat 32 (eqs.getD n 0 % 2 ^ 24))) s).showCap p
      else s.hgSettle p
    | .exchanged, 2 =>
      if x.peer then
        let s := s.modHg p fun x => { x with settled := some x.rate }
        let both := bits (s.capPeer p) 231 229
        match x.stepped, (List.range 3).find? fun r => x.rate < r && r ≤ x.rateMax && both.testBit r with
        | true, some r => s.modHg p fun x => { x with rate := r, phase := 0, rateAt := s.now, peer := false }
        | _, _ => s.hgSettle p
      else s
    | _, _ => s

/-- The bound of a training step from the start of its rate (R254). -/
def stepBound (phase : Nat) : Nat := match phase with | 0 => 49152 | 1 => 245760 | _ => 270336

/-- HG_TRAIN_TIMEOUT (R254): a step of the rate in training overruns its bound (DESIGN CHOICE, log 27: counted from the start of that rate), or
LATFIX the whole. -/
def State.hgTrainTimeout (s : State) (p : Nat) : State :=
  let x := s.hgx p
  if s.hgState p = hgTrain then (s.advanceTo (x.rateAt + stepBound x.phase)).hgGoDown p hcTimeout
  else if s.hgState p = hgLatfix then (s.advanceTo (x.anchor + (if x.stepped then 884736 else 294912))).hgGoDown p hcTimeout
  else s

/-- HG_CAP_RECORD (R257, R258): 256 bits arrive on a port that carries records (R251). -/
def State.hgCap (s : State) (p rec : Nat) : State :=
  if s.hgState p ≠ hgTrain ∧ !s.hgCarries p then s
  else if !capCrcOk rec then
    let n := (s.hgx p).crcBad + 1
    let s := s.modHg p fun x => { x with crcBad := n }
    if 8 ≤ n then s.hgGoDown p hcCapCrc else s
  else if bits rec 255 240 ≠ 1 then s.hgGoDown p hcProto
  else
    let s := s.modHg p fun x => { x with crcBad := 0, peer := true }
    let s := forAll (List.range 8) (fun i s => s.setReg (R.HG_CAP_PEER p i) (BitVec.ofNat 32 (rec / 2 ^ (32 * i)))) s
    if s.hgState p = hgUntimed ∧ s.bothAligned p then s.hgToLatfix p else s

/-- The array is aligned: a port in UNTIMED whose partner is aligned moves to LATFIX (R261); the records follow. -/
def State.hgAligned (s : State) : State :=
  forAll (List.range 4) (fun p s =>
    let s := doIf (s.hgCarries p) (fun s => s.showCap p) s
    doIf (s.hgState p == hgUntimed && s.bothAligned p) (fun s => s.hgToLatfix p) s) s

/-- F from the arrival delays of the active lanes, in 2^−16 SI cycles (R260): that of the latest, rounded up. -/
def flightOf (delays : List Nat) : Nat := ceilDiv (delays.foldl max 0) 65536

/-- LATFIX (R260): the lanes' arrival delays are measured. -/
def State.hgFix (s : State) (p : Nat) (delays : List Nat) : State :=
  let f := flightOf delays
  if s.hgState p = hgLatfix then
    if 16 < f then s.hgGoDown p hcReach
    else ((s.put (R.HG_LAT_FLIGHT p) f).put (R.HG_LAT_DEPTH p) (18 - f)).hgUp p hgTimed
  else s

/-! ### Lane repair (R263 to R265) -/

/-- The repair instant for a failure detected now (R263): an edge a multiple of 4,096 cycles after the epoch, at least 1,024 later. -/
def State.repairInstant (s : State) : Nat := s.tm.epoch + ceilDiv (s.now + 1024 - s.tm.epoch) 4096 * 4096

/-- Sync-header errors of a lane are counted in the window that now lies in (R263): windows are aligned to the array epoch. -/
def State.laneErrors (s : State) (p lane n : Nat) : State :=
  let w := (s.now - s.tm.epoch) / 491520
  (s.countBy (R.HG_LANE_ERR_COUNT p lane) n).modHg p fun x =>
    { x with errWin := w, errs := updAt (if x.errWin = w then x.errs else List.replicate 24 0) lane (· + n) }

/-- HG_LANE_FAIL (R263, R264, R268): `n` blocks of a lane come with a bad sync header, `lost` says that 32 in a row did; lane 24 is the clock
lane. A lane that fails is dropped, with any other that waits. -/
def State.hgLaneFail (s : State) (p lane n : Nat) (lost : Bool) : State :=
  if !s.hgCarries p then s
  else if lane = 24 then s.hgGoDown p hcClock
  else
    let s := s.laneErrors p lane n
    let x := s.hgx p
    if lost || s.get (R.HG_ERR_CFG_LANE_ERR_THR p) < x.errs.getD lane 0 then
      let old := match x.rxFix with
        | some f => f.lanes
        | none => 0
      if old.testBit lane then s
      else
        let m := setBit old lane true
        if s.get (R.HG_STATUS_RX_W p) - lanesIn m < x.minLanes then s.hgGoDown p hcWidth
        else
          let inst := match x.rxFix with
            | some f => f.instant
            | none => s.repairInstant
          let f : Repair := { lanes := m, at0 := s.now, acked := false, instant := inst }
          (s.modHg p fun x => { x with rxFix := some f }).emit (.link p (.laneDrop m inst))
    else s

/-- LANE_DROP (R263): the partner's receiver drops lanes of our transmit direction; LANE_ACK echoes it. -/
def State.hgLaneDrop (s : State) (p lanes instant : Nat) : State :=
  if s.hgCarries p then
    (s.modHg p fun x => { x with txFix := some { lanes := lanes, at0 := s.now, acked := true, instant := instant } }).emit
      (.link p (.laneAck lanes instant))
  else s

/-- LANE_ACK (R263): the echo of the LANE_DROP last sent. -/
def State.hgLaneAck (s : State) (p lanes instant : Nat) : State :=
  s.modHg p fun x => { x with rxFix := x.rxFix.map fun f => { f with acked := f.acked || (f.lanes == lanes && f.instant == instant) } }

/-- Whether one of `n` blocks, whose first stands at place `first` of its row, comes by a lane that failed and waits for its repair (R249, R263):
its word is errored. -/
def State.onFailed (s : State) (p first n : Nat) : Bool :=
  match (s.hgx p).rxFix with
  | some f =>
    let l := bitList 24 (s.get (R.HG_RX_LANES_LANES p))
    (List.range (min n l.length)).any fun j => f.lanes.testBit (l.getD ((first + j) % max 1 l.length) 0)
  | none => false

/-- LANE_ACK_TIMEOUT (R264). -/
def State.hgAckTimeout (s : State) (p : Nat) : State :=
  match (s.hgx p).rxFix with
  | some f => if f.acked then s else (s.advanceTo (f.at0 + 1024)).hgGoDown p hcRemote
  | none => s

/-- An EIDLE exchange starts if it was asked for and no repair is in hand (R266, R268). -/
def State.hgTryIdle (s : State) (p : Nat) : State :=
  let x := s.hgx p
  let st := s.hgState p
  if s.flag (R.HG_CTRL_IDLE_REQ p) && !x.idling && x.rxFix.isNone && x.txFix.isNone && (st == hgTimed || st == hgUntimed) then
    (s.modHg p fun x => { x with idling := true }).emit (.link p .eidle)
  else s

/-- LANE_REPAIR_INSTANT (R263): the directions whose instant this is restripe. -/
def State.hgRepair (s : State) (p : Nat) : State :=
  let x := s.hgx p
  let inst := match x.rxFix, x.txFix with
    | some a, some b => some (if a.acked then min a.instant b.instant else b.instant)
    | some a, none => if a.acked then some a.instant else none
    | none, some b => some b.instant
    | none, none => none
  match inst with
  | none => s
  | some c =>
    let s := s.advanceTo c
    let s := match x.rxFix with
      | some a =>
        if a.acked ∧ a.instant ≤ c then
          let rx := s.get (R.HG_RX_LANES_LANES p)
          let rx := rx - (rx &&& a.lanes)
          let s := (s.setLanes p rx (s.get (R.HG_TX_LANES_LANES p))).modHg p fun x => { x with rxFix := none }
          forAll (bitList 24 a.lanes) (fun n s =>
            let w := lanesIn rx
            let s := ((s.put (R.HG_EQ_BAD p n) 1).count (R.HG_CNT1_REPAIRS p)).event (.hgLaneRepair p n w)
            s.report (mkReport (0x14 + p) .clsC 0x0011 (n + 256 * w))) s
        else s
      | none => s
    let s := match x.txFix with
      | some b =>
        if b.instant ≤ c then
          let tx := s.get (R.HG_TX_LANES_LANES p)
          (s.setLanes p (s.get (R.HG_RX_LANES_LANES p)) (tx - (tx &&& b.lanes))).modHg p fun x => { x with txFix := none }
        else s
      | none => s
    s.hgTryIdle p

/-! ### Electrical idle (R266, R267) -/

/-- Whether the cascade layer maps a stream onto a port: UP or DOWN in the plan in force (R266, R275). -/
def State.hgMapped (s : State) (p : Nat) : Bool := s.portRole p == 1 || s.portRole p == 2

/-- A fast exit begins (R267): with nothing retained it is a full training. -/
def State.hgExit (s : State) (p : Nat) : State :=
  if (s.hgx p).kept then
    let s := ((s.setHg p hgExiting).modHg p fun x => { x with anchor := s.now, exitDue := false }).emit (.link p .burst)
    doIf (s.bothAligned p) (fun s => s.emit (.link p (.tmark ((s.alignEdge - s.tm.epoch) / 2)))) s
  else (s.hgToDetect p).emit (.link p .burst)

/-- EIDLE (R266): the partner's EIDLE completes the exchange, or is answered and so completes it; the port enters IDLE and retains what it
learned. With a repair pending it waits for that (R268). -/
def State.hgEnterIdle (s : State) (p : Nat) : State :=
  let st := s.hgState p
  let x := s.hgx p
  if (st = hgTimed ∨ st = hgUntimed) ∧ x.rxFix = none ∧ x.txFix = none then
    let s := doIf (!x.idling) (fun s => s.emit (.link p .eidle)) s
    let s := (s.setHg p hgIdle).modHg p fun x => { x with idling := false, kept := true }
    doIf x.exitDue (fun s => s.hgExit p) s
  else s

/-- A write of HG_CTRL.IDLE_REQ (R266, R267). -/
def State.hgIdleReq (s : State) (p : Nat) (v : Bool) : Wr :=
  let st := s.hgState p
  if v then
    if s.flag (R.HG_CTRL_IDLE_REQ p) then .ok s
    else if (st = hgTimed ∨ st = hgUntimed) ∧ s.hgMapped p then refuse (R.HG_STATUS_WR_REFUSED p) s
    else .ok ((s.put (R.HG_CTRL_IDLE_REQ p) 1).hgTryIdle p)
  else
    let was := s.flag (R.HG_CTRL_IDLE_REQ p)
    let s := s.put (R.HG_CTRL_IDLE_REQ p) 0
    if !was then .ok s
    else if st = hgIdle then .ok (s.hgExit p)
    else if (s.hgx p).idling then .ok (s.modHg p fun x => { x with exitDue := true })
    else .ok s

/-- EXIT_BURST_DETECT (R267, R268): in FALLOW the exit waits for the port island's power. -/
def State.hgBurst (s : State) (p : Nat) : State :=
  let st := s.hgState p
  if st = hgIdle then
    if s.get R.PWR_STATUS_STATE_NOW = 3 then s.modHg p fun x => { x with exitDue := true } else s.hgExit p
  else if (s.hgx p).idling then s.modHg p fun x => { x with exitDue := true }
  else if st = hgExiting then s.modHg p fun x => { x with anchor := s.now }
  else s

/-- FAST_EXIT_DONE (R267): the lanes relocked or not, with the arrival delays measured again when both ends are aligned; beyond 9,830 cycles
from the anchor the exit has failed. -/
def State.hgExitDone (s : State) (p : Nat) (locked : Bool) (delays : List Nat) : State :=
  if s.hgState p = hgExiting then
    let both := s.bothAligned p
    if !locked || (s.hgx p).anchor + 9830 < s.now || (both && flightOf delays ≠ s.get (R.HG_LAT_FLIGHT p)) then s.hgStart p
    else
      let s := (s.count (R.HG_CNT1_FAST_EXITS p)).put (R.HG_STATUS_NO_ALIGN p) (b2n (!both))
      s.hgUp p (if both then hgTimed else hgUntimed)
  else s

/-- The power controller commands FALLOW (R266, R268): live ports send EIDLE and enter IDLE (DESIGN CHOICE, log 27: without waiting for the answer),
those in training with nothing retained. -/
def State.hgFallow (p : Nat) (s : State) : State :=
  let st := s.hgState p
  if st = hgTimed ∨ st = hgUntimed then
    ((doIf (!(s.hgx p).idling) (fun s => s.emit (.link p .eidle)) s).setHg p hgIdle).modHg p fun x =>
      { x with idling := false, kept := true, rxFix := none, txFix := none }
  else if st = hgTrain ∨ st = hgLatfix ∨ st = hgDetect ∨ st = hgExiting then (s.hgQuiet p).setHg p hgIdle
  else s

/-- The power controller wakes the ports (R267). -/
def State.hgWake (p : Nat) (s : State) : State := if s.hgState p = hgIdle then s.hgExit p else s

/-! ### Enable, retrain, loss (R254, R268) -/

/-- A write of HG_CTRL.EN (R254, R268). -/
def State.hgEnWrite (s : State) (p : Nat) (v : Bool) : State :=
  let old := s.flag (R.HG_CTRL_EN p)
  let s := s.put (R.HG_CTRL_EN p) (b2n v)
  if v && !old then s.hgToDetect p
  else if !v then (s.hgQuiet p).setHg p hgDisabled
  else s

/-- A write of HG_CTRL.RETRAIN (R254, R268): the port leaves its state at once; its partner sees DOWN_NOTICE with cause REMOTE. -/
def State.hgRetrain (s : State) (p : Nat) : State :=
  if s.hgState p = hgDisabled then s else (s.emit (.link p (.downNotice hcRemote))).hgToDetect p

/-- DOWN_NOTICE (R268). -/
def State.hgNotice (s : State) (p : Nat) : State :=
  if s.hgState p = hgDisabled ∨ s.hgState p = hgDown then s else s.hgGoDown p hcRemote

/-- FORWARDED_CLOCK_LOST (R268): in any live state. -/
def State.hgClockLost (s : State) (p : Nat) : State :=
  let st := s.hgState p
  if st = hgTrain ∨ st = hgUntimed ∨ st = hgLatfix ∨ st = hgTimed then (s.advanceTo (s.now + 64)).hgGoDown p hcClock else s

/-- A write of a register of a port block. -/
def writeHGP (r : RegRow) (ix : List Nat) (a : Nat) (v : Word) (s : State) : Wr :=
  let p := ix.getD 0 0
  match r.id with
  | .HG_CTRL =>
    let ml := (R.HG_CTRL_MIN_LANES p).of v
    let rmax := (R.HG_CTRL_RATE_MAX p).of v
    let rmin := (R.HG_CTRL_RATE_MIN p).of v
    if ml < 1 ∨ 24 < ml ∨ rmax = 3 ∨ rmin = 3 then refuse (R.HG_STATUS_WR_REFUSED p) s
    else
      match s.hgIdleReq p ((R.HG_CTRL_IDLE_REQ p).of v = 1) with
      | .error e => .error e
      | .ok s =>
        let fs := [R.HG_CTRL_MIN_LANES p, R.HG_CTRL_RATE_MIN p, R.HG_CTRL_RATE_MAX p, R.HG_CTRL_AUTO_RETRAIN p, R.HG_CTRL_MODE p]
        let s := forAll fs (fun f s => s.put f (f.of v)) s
        let s := s.hgEnWrite p ((R.HG_CTRL_EN p).of v = 1)
        .ok (doIf (v.toNat.testBit 3) (fun s => s.hgRetrain p) s)
  | .HG_CNT_CLR =>
    if v.toNat.testBit 0 then
      .ok (forAll (List.range 24) (fun n s => s.setReg (R.HG_LANE_ERR p n) 0) ((s.setReg (R.HG_CNT0 p) 0).setReg (R.HG_CNT1 p) 0))
    else .ok s
  | _ => .ok (s.plainWrite r a v)

/-! ### Meanings -/

/-- HG_EN_WRITE (R254). -/
def execHgEnWrite (p : Nat) (v : Bool) (s : State) : Host.Outcome State Fault Refusal := .next (s.hgEnWrite p v)

/-- HG_PARTNER_CLOCK_DETECT (R254). -/
def execHgPartnerClockDetect (p : Nat) (s : State) : Host.Outcome State Fault Refusal := .next (s.hgClock p)

/-- HG_TRAIN_STEP_DONE (R253). -/
def execHgTrainStepDone (p : Nat) (t : HgStep) (s : State) : Host.Outcome State Fault Refusal := .next (s.hgStep p t)

/-- HG_TRAIN_TIMEOUT (R254). -/
def execHgTrainTimeout (p : Nat) (s : State) : Host.Outcome State Fault Refusal := .next (s.hgTrainTimeout p)

/-- HG_CAP_RECORD (R258). -/
def execHgCapRecord (p rec : Nat) (s : State) : Host.Outcome State Fault Refusal := .next (s.hgCap p rec)

/-- LATFIX (R260). -/
def execLatfix (p : Nat) (delays : List Nat) (s : State) : Host.Outcome State Fault Refusal := .next (s.hgFix p delays)

/-- HG_LANE_FAIL (R263). -/
def execHgLaneFail (p lane n : Nat) (lost : Bool) (s : State) : Host.Outcome State Fault Refusal := .next (s.hgLaneFail p lane n lost)

/-- LANE_DROP (R263). -/
def execLaneDrop (p lanes instant : Nat) (s : State) : Host.Outcome State Fault Refusal := .next (s.hgLaneDrop p lanes instant)

/-- LANE_ACK (R263). -/
def execLaneAck (p lanes instant : Nat) (s : State) : Host.Outcome State Fault Refusal := .next (s.hgLaneAck p lanes instant)

/-- LANE_ACK_TIMEOUT (R264). -/
def execLaneAckTimeout (p : Nat) (s : State) : Host.Outcome State Fault Refusal := .next (s.hgAckTimeout p)

/-- IDLE_REQ_WRITE (R266). -/
def execIdleReqWrite (p : Nat) (v : Bool) (s : State) : Host.Outcome State Fault Refusal := .next (s.hgIdleReq p v).state

/-- EIDLE (R266). -/
def execEidle (p : Nat) (s : State) : Host.Outcome State Fault Refusal := .next (s.hgEnterIdle p)

/-- EXIT_BURST_DETECT (R267). -/
def execExitBurstDetect (p : Nat) (s : State) : Host.Outcome State Fault Refusal := .next (s.hgBurst p)

/-- FAST_EXIT_DONE (R267). -/
def execFastExitDone (p : Nat) (locked : Bool) (delays : List Nat) (s : State) : Host.Outcome State Fault Refusal :=
  .next (s.hgExitDone p locked delays)

/-- RETRAIN (R268). -/
def execRetrain (p : Nat) (s : State) : Host.Outcome State Fault Refusal := .next (s.hgRetrain p)

/-- DOWN_NOTICE (R268). -/
def execDownNotice (p : Nat) (s : State) : Host.Outcome State Fault Refusal := .next (s.hgNotice p)

/-- FORWARDED_CLOCK_LOST (R268). -/
def execForwardedClockLost (p : Nat) (s : State) : Host.Outcome State Fault Refusal := .next (s.hgClockLost p)

end Sys2Proof.Machine
end

