-- ==== Sys2Proof/Machine/PaControl.lean ====
section
/-! DEFINITION. Amplifier sequencing, aux DACs and fault inputs (chapter 12). -/

namespace Sys2Proof.Machine

/-! ### Runs (R366 to R372) -/

/-- The bank that frame `k` of a timeline takes its entries from, its numerology, and whether the frame began before the last swap
(R366, R371). -/
def State.tblOf (s : State) (d : Dir) (k : Nat) : Bool × Nat × Nat :=
  let c := (s.frameStart k - s.advance d).toNat
  let old := match s.slot.swappedAt with
    | some b => decide (c + s.advance d < b)
    | none => false
  let bank := if old then 1 - s.bank else s.bankAt d c
  (old, bank, if old then s.slot.oldMu else s.get (R.SLOT_MU_TBL_MU bank))

/-- The numerology of frame `k`. -/
def State.tblMu (s : State) (d : Dir) (k : Nat) : Nat := (s.tblOf d k).2.2

/-- The entry of frame `k`. -/
def State.tblEntry (s : State) (d : Dir) (k e : Nat) : Word :=
  let (old, bank, mu) := s.tblOf d k
  if old && e + 1 == symsPerFrame mu then s.slot.oldLast else s.entry bank e

/-- The entry after an entry. -/
def State.nextEntry (s : State) (d : Dir) (k : Nat × Nat) : Nat × Nat :=
  if k.2 + 1 < symsPerFrame (s.tblMu d k.1) then (k.1, k.2 + 1) else (k.1 + 1, 0)

/-- The entry before an entry. -/
def State.prevEntry (s : State) (d : Dir) (k : Nat × Nat) : Nat × Nat :=
  if 0 < k.2 then (k.1, k.2 - 1) else (k.1 - 1, symsPerFrame (s.tblMu d (k.1 - 1)) - 1)

/-- The direction of the runs of a timeline. -/
def runDir (d : Dir) : SymDir :=
  match d with
  | .dl => .dl
  | .ul => .ul

/-- Whether an entry belongs to a run of a quadrant. -/
def State.inRun (s : State) (d : Dir) (q : Nat) (k : Nat × Nat) : Bool := entryDir (s.tblEntry d k.1 k.2) q == runDir d

/-- Whether an entry is the first of a run. -/
def State.runStart (s : State) (d : Dir) (q : Nat) (k : Nat × Nat) : Bool := s.inRun d q k && !s.inRun d q (s.prevEntry d k)

/-- Whether an entry is the last of a run. -/
def State.runEnd (s : State) (d : Dir) (q : Nat) (k : Nat × Nat) : Bool := s.inRun d q k && !s.inRun d q (s.nextEntry d k)

/-- The start of the next run after an entry, within a number of entries. -/
def State.nextRun (s : State) (d : Dir) (q : Nat) : Nat → Nat × Nat → Option (Nat × Nat)
  | 0, _ => none
  | n + 1, k => let k := s.nextEntry d k; if s.runStart d q k then some k else s.nextRun d q n k

/-- The end of the run before an entry, within a number of entries. -/
def State.prevRun (s : State) (d : Dir) (q : Nat) : Nat → Nat × Nat → Option (Nat × Nat)
  | 0, _ => none
  | n + 1, k => let k := s.prevEntry d k; if s.runEnd d q k then some k else s.prevRun d q n k

/-- Two runs further apart than this never merge: leads and lags are below 90,109 cycles together, and an entry lasts 4,384 or more. -/
def runSpan : Nat := 64

/-- A field of the profile an entry names: as in force, or as before the last profile boundary (R372). -/
def State.profile (s : State) (old : Bool) (w : Word) (f : Nat → Field) : Nat :=
  let g := f (bits w.toNat 11 8)
  if old then g.of (s.pa.profOld.get g.addr) else s.wget g

/-- An edge's time: by the values in force, unless they would place at or before the last profile boundary an edge that the former
values placed after it (R372). -/
def State.edgeTime (s : State) (f : Bool → Nat) : Nat :=
  if f false ≤ s.pa.profAt ∧ s.pa.profAt < f true then f true else f false

/-- The time of an edge of the run whose first (on edges) or last (off edges) entry is `k` (R367). -/
def State.seqTime (s : State) (e : SeqKind) (k : Nat × Nat) : Nat :=
  let d : Dir := match e with
    | .rxOn => .ul
    | .rxOff => .ul
    | _ => .dl
  let w := s.tblEntry d k.1 k.2
  let start := s.symBoundary d (s.tblMu d k.1) k.1 k.2
  let n := s.nextEntry d k
  let stop := s.symBoundary d (s.tblMu d n.1) n.1 n.2
  s.edgeTime fun o =>
    match e with
    | .bias => start - (s.profile o w R.PROF_TX_TX_LEAD + s.profile o w R.PROF_BIAS_BIAS_SET)
    | .txOn => start - s.profile o w R.PROF_TX_TX_LEAD
    | .txOff => stop + s.profile o w R.PROF_TX_TX_LAG
    | .rest => stop + s.profile o w R.PROF_TX_TX_LAG + s.profile o w R.PROF_REST_BIAS_LAG
    | .rxOn => start - s.profile o w R.PROF_RX_RX_LEAD
    | .rxOff => stop + s.profile o w R.PROF_RX_RX_LAG
    | _ => s.now

/-- Whether the run that starts at `k` merges with the one before it, by an on edge and the off edge it would follow (R368). -/
def State.mergesBack (s : State) (d : Dir) (q : Nat) (on off : SeqKind) (k : Nat × Nat) : Bool :=
  match s.prevRun d q runSpan k with
  | some p => s.seqTime on k ≤ s.seqTime off p
  | none => false

/-- Whether the run that ends at `k` merges with the next one (R368). -/
def State.mergesOn (s : State) (d : Dir) (q : Nat) (on off : SeqKind) (k : Nat × Nat) : Bool :=
  match s.nextRun d q runSpan k with
  | some n => s.seqTime on n ≤ s.seqTime off k
  | none => false

/-- Whether the sequencer runs: enabled, in ACTIVE or TRIM (R373). -/
def State.seqRuns (s : State) : Bool := s.flag R.SEQ_CFG_EN && s.radioOn

/-- What a run needs of a chain beside its sources (R369): TX_EN and TX_RDY 1, quadrant ungated. -/
def State.txReady (s : State) (ch : Nat) : Bool :=
  s.seqRuns && s.flag (R.CH_CTRL_TX_EN ch) && s.flag (R.CH_STATUS_TX_RDY ch) && !s.quadGated (quadOf ch)

/-- As `txReady` for RXON; the latched safe state holds it off (R542). -/
def State.rxReady (s : State) (ch : Nat) : Bool :=
  s.seqRuns && s.flag (R.CH_CTRL_RX_EN ch) && s.flag (R.CH_STATUS_RX_RDY ch) && !s.quadGated (quadOf ch)
    && !s.flag R.FM_STATUS_SAFE

/-- Whether a pin has been off for TR_GAP cycles (R370). -/
def State.gapOk (s : State) (live : Bool) (off : Option Nat) : Bool :=
  !live && (match off with | some c => c + s.get R.SEQ_CFG_TR_GAP ≤ s.now | none => true)

/-- SEQ_OVERLAP, at most once per quadrant per frame (R370). -/
def State.overlap (s : State) (q : Nat) : State :=
  let s := s.count R.SEQ_CNT_OVERLAP
  let k := (s.frameNo s.now).toNat
  if s.pa.overlapFrame.getD q none = some k then s
  else ({ s with pa := { s.pa with overlapFrame := updAt s.pa.overlapFrame q fun _ => some k } }).event (.seqOverlap q s.sfn)

/-- A bias-on load (R367): the run opens on the chain, and a sequencer-owned channel of a chain in
service takes its ON code unless it is on already: the bias of a disabled chain stays at its profile's rest state (R76). -/
def State.biasEdge (ch : Nat) (s : State) : State :=
  let ready := s.txReady ch
  let held := s.txHeld ch
  let s := s.modChain ch fun x => { x with runOpen := ready, runSkip := ready && held }
  let serves := s.flag (R.CH_CTRL_TX_EN ch) || (s.chain ch).txDis
  if s.get (R.ADAC_CFG_OWNER ch) = 1 ∧ serves ∧ (!(s.chain ch).biasOn ∨ (s.adac ch).stuckClr) then
    let s := s.modChain ch fun x => { x with biasOn := !s.biasCleared ch }
    ((s.modAdac ch fun x => { x with stuckClr := false }).loadAdac ch (s.get (R.ADAC_SEQ_ON ch))).latchClear ch |>.driveAdac ch
  else s

/-- A TXON assertion (R369, R370). -/
def State.txOnEdge (ch : Nat) (s : State) : State :=
  let x := s.chain ch
  let s := s.modChain ch fun x => { x with runOpen := false, runSkip := false }
  if !x.runOpen then s
  else if x.runSkip || s.txHeld ch then s.count R.SEQ_CNT_SKIP
  else if !s.txReady ch then s
  else if s.gapOk (s.flag (R.CH_STATUS_RX_LIVE ch)) x.rxOffAt then s.setTxon ch true
  else (s.modChain ch fun x => { x with txWait := true }).overlap (quadOf ch)

/-- An RXON assertion (R369, R370). -/
def State.rxOnEdge (ch : Nat) (s : State) : State :=
  if !s.rxReady ch then s
  else if s.gapOk (s.flag (R.CH_STATUS_TX_LIVE ch)) (s.chain ch).txOffAt then s.setRxon ch true
  else (s.modChain ch fun x => { x with rxWait := true }).overlap (quadOf ch)

/-- A REST load (R367). -/
def State.restEdge (ch : Nat) (s : State) : State :=
  if s.get (R.ADAC_CFG_OWNER ch) = 1 then
    (s.modChain ch fun x => { x with biasOn := false }).loadAdac ch (s.get (R.ADAC_SEQ_REST ch))
  else s

/-- An assertion that waited (R370), once the other pin has been off for TR_GAP cycles. -/
def State.waitedEdge (q : Nat) (tx : Bool) (s : State) : State :=
  let l := (chainsOf q).filter fun ch => if tx then (s.chain ch).txWait else (s.chain ch).rxWait
  let off := fun ch => if tx then (s.chain ch).rxOffAt else (s.chain ch).txOffAt
  let s := s.advanceTo ((l.map fun ch => (off ch).getD 0 + s.get R.SEQ_CFG_TR_GAP).foldl max 0)
  forAll l (fun ch s =>
    if tx then
      if s.gapOk (s.flag (R.CH_STATUS_RX_LIVE ch)) (off ch) && s.txReady ch then
        (s.modChain ch fun x => { x with txWait := false }).setTxon ch true
      else s
    else if s.gapOk (s.flag (R.CH_STATUS_TX_LIVE ch)) (off ch) && s.rxReady ch then
      (s.modChain ch fun x => { x with rxWait := false }).setRxon ch true
    else s) s

/-- The end of the latest-ending symbol of the active slots of a quadrant that is in air now, and the profile's entry there (R373). -/
def State.airEnd (s : State) (d : Dir) (q : Nat) : Option (Nat × Word) :=
  let ends := (s.activeOn d q).map fun cs => (s.nextSymbol d (s.slotMu d cs) s.now).1
  match ends with
  | [] => none
  | e :: l =>
    let c := l.foldl max e
    let (k, _, _) := s.symNow d 0 (c - 1)
    let mu := s.tblMu d k
    let (k, n) := s.symIn d mu (c - 1)
    some (c, s.tblEntry d k n)

/-- The cycles of a quadrant's last edges when the radio leaves ACTIVE or TRIM (R373): the end of the symbol in air plus the lags of its run,
which ends there; the lags are those of the entry it ends with (DEDUCED from R366, log 35). -/
def State.leaveEdges (s : State) (q : Nat) : Nat × Nat × Nat :=
  let lag (x : Option (Nat × Word)) (f : Nat → Field) : Nat := match x with
    | some (_, w) => s.profile false w f
    | none => 0
  let stop (x : Option (Nat × Word)) : Nat := match x with
    | some (c, _) => c
    | none => s.now
  let dl := s.airEnd .dl q
  let ul := s.airEnd .ul q
  let off := stop dl + lag dl R.PROF_TX_TX_LAG
  (off, off + lag dl R.PROF_REST_BIAS_LAG, stop ul + lag ul R.PROF_RX_RX_LAG)

/-- An off edge of a quadrant while the radio leaves ACTIVE or TRIM (R373). -/
def State.leaveEdge (s : State) (q : Nat) (e : SeqKind) (x : Nat × Nat × Nat) : State :=
  match e with
  | .txOff => forAll (chainsOf q) (fun ch s => (s.setTxon ch false).modChain ch fun x => { x with txWait := false }) (s.advanceTo x.1)
  | .rest => forAll (chainsOf q) State.restEdge (s.advanceTo x.2.1)
  | .rxOff => forAll (chainsOf q) (fun ch s => (s.setRxon ch false).modChain ch fun x => { x with rxWait := false }) (s.advanceTo x.2.2)
  | _ => s

/-- SEQ_EDGE (R367 to R373): an edge of the run of quadrant `q` whose first entry (on edges) or last entry (off edges) is entry `e` of
frame `k`; an edge that the runs do not have changes nothing. -/
def State.seqEdge (s : State) (q : Nat) (e : SeqKind) (k : Nat × Nat) : State :=
  let each := fun (f : Nat → State → State) => forAll (chainsOf q) f (s.advanceTo (s.seqTime e k))
  if !s.seqRuns then
    match s.pa.leave[q]? with
    | some x => s.leaveEdge q e x
    | none => s
  else
    match e with
    | .bias =>
      if s.runStart .dl q k && !s.mergesBack .dl q .txOn .txOff k && s.pa.seqFrom + 2 ≤ s.seqTime .bias k then each State.biasEdge else s
    | .txOn => if s.runStart .dl q k && !s.mergesBack .dl q .txOn .txOff k then each State.txOnEdge else s
    | .txOff =>
      if s.runEnd .dl q k && !s.mergesOn .dl q .txOn .txOff k then
        each fun ch s => (s.setTxon ch false).modChain ch fun x => { x with txWait := false }
      else s
    | .rest =>
      if s.runEnd .dl q k && !s.mergesOn .dl q .bias .rest k && s.profile false (s.tblEntry .dl k.1 k.2) R.PROF_BIAS_BIAS_HOLD == 0 then
        each State.restEdge
      else s
    | .rxOn =>
      if s.runStart .ul q k && !s.mergesBack .ul q .rxOn .rxOff k && s.pa.seqFrom + 2 ≤ s.seqTime .rxOn k then each State.rxOnEdge else s
    | .rxOff =>
      if s.runEnd .ul q k && !s.mergesOn .ul q .rxOn .rxOff k then
        each fun ch s => (s.setRxon ch false).modChain ch fun x => { x with rxWait := false }
      else s
    | .txWaited => s.waitedEdge q true
    | .rxWaited => s.waitedEdge q false

/-- Every TXON and RXON pin deasserts and no run stays open. -/
def State.pinsOff (s : State) : State :=
  forAll (List.range 64) (fun ch s => ((s.setTxon ch false).setRxon ch false).modChain ch fun x =>
    { x with runOpen := false, runSkip := false, txWait := false, rxWait := false }) s

/-- A write of SEQ_CFG.EN (R369, R373). -/
def State.seqEnWrite (s : State) (v : Bool) : State :=
  let old := s.flag R.SEQ_CFG_EN
  let s := s.put R.SEQ_CFG_EN (b2n v)
  if v && !old then { s with pa := { s.pa with seqFrom := s.now } }
  else if !v then s.pinsOff
  else s

/-- The 64 profile registers. -/
def profRegs : List Nat := (List.range 16).flatMap fun p => [R.PROF_BIAS p, R.PROF_TX p, R.PROF_RX p, R.PROF_REST p]

/-- PROFILE_APPLY (R372), at a downlink frame boundary. -/
def State.applyProfiles (s : State) : State :=
  let old := profRegs.foldl (fun f a => RegFile.set f a (s.wrk a)) s.pa.profOld
  let s := { s with pa := { s.pa with profOld := old, profAt := s.now } }
  forAll profRegs (fun a s => s.apply a) s

/-! ### Aux DACs (R375 to R379) -/

/-- A firmware or time-unit strobe loads a channel's code. -/
def State.strobe (s : State) (n code : Nat) : State := (s.modAdac n fun x => { x with stuckClr := false }).loadAdac n code

/-- The firmware-owned channels of a group load (R376). -/
def State.strobeGroup (s : State) (g : Nat) : State :=
  forAll ((List.range 80).filter fun n => s.get (R.ADAC_CFG_OWNER n) == 0 && s.get (R.ADAC_CFG_GROUP n) == g)
    (fun n s => s.strobe n (s.get (R.ADAC_CODE_CODE n))) s

/-- ADAC_LD (R376). -/
def State.adacLd (s : State) (m : Nat) : State := forAll (bitList 8 m) (fun g s => s.strobeGroup g) (s.advanceTo s.alignEdge)

/-- A write of ADAC_CODE (R375, R376). -/
def State.adacCode (s : State) (n code : Nat) : Wr :=
  if s.get (R.ADAC_CFG_OWNER n) ≠ 0 then refuse R.SEQ_STATUS_WR_REFUSED s
  else
    let s := s.put (R.ADAC_CODE_CODE n) code
    .ok (doIf (s.get (R.ADAC_CFG_GROUP n) == 8) (fun s => (s.advanceTo s.alignEdge).strobe n (s.get (R.ADAC_CODE_CODE n))) s)

/-- ADAC_LOCK (R377): the clear codes and modes are committed; every channel stays at its clear code until its next strobe. -/
def State.adacLock (s : State) : State :=
  if s.flag R.SEQ_STATUS_LOCKED then s
  else
    let s := s.put R.SEQ_STATUS_LOCKED 1
    forAll (List.range 80) (fun n s => (s.modAdac n fun x => { x with stuckClr := true }).driveAdac n) s

/-- ADACCLR_N changes (R379). -/
def State.clrN (s : State) (v : Bool) : State := (s.put R.SEQ_STATUS_CLR_N (b2n v)).settle

/-- DEGLITCH_HOLD_END (R378): the output tracks the newest code. -/
def State.holdDone (s : State) (n : Nat) : State :=
  match (s.adac n).holdEnd with
  | some c =>
    ((s.advanceTo c).modAdac n fun x => { x with holdEnd := none }).put (R.ADAC_CODE_NOW n) (s.adac n).loaded
  | none => s

/-! ### Fault inputs (R380 to R385) -/

/-- An input's own state. -/
def State.input (s : State) (i : Nat) : InputX :=
  s.pa.inputs.getD i { pin := true, qual := true, winEnd := none, winEdges := 0, activeAt := none }

/-- Update an input's own state. -/
def State.modInput (s : State) (i : Nat) (f : InputX → InputX) : State := { s with pa := { s.pa with inputs := updAt s.pa.inputs i f } }

/-- Whether a physical level is the active one (POL). -/
def State.isActive (s : State) (i : Nat) (level : Bool) : Bool := level != s.flag (R.IN_CFG_POL i)

/-- Whether an input is masked (R381). -/
def State.masked (s : State) (i : Nat) : Bool := s.flag (R.IN_STAT_CHATTER i) || s.flag (R.IN_STAT_STUCK i)

/-- LEVEL and GPIO_IN show the qualified level, 1 active; a masked GPIO or WAKE input reads inactive (R381). -/
def State.showInput (s : State) (i : Nat) : State :=
  let a := s.isActive i (s.input i).qual && !(16 ≤ i && s.masked i)
  let s := s.put (R.IN_STAT_LEVEL i) (b2n a)
  if 16 ≤ i ∧ i < 32 then s.putBit R.GPIO_IN_IN (i - 16) a else s

/-- The stuck timer follows the qualified level. -/
def State.trackActive (s : State) (i : Nat) : State :=
  s.modInput i fun x => { x with activeAt := if s.isActive i x.qual then some (x.activeAt.getD s.now) else none }

/-- A group's rank-2 line. -/
def State.paLine (s : State) (g : Nat) (v : Bool) : State := { s with hold := { s.hold with paLine := setBit s.hold.paLine g v } }

/-- PA_FAULT (R383, R384): the group's line asserts, FAULT sets, and the fault is raised. -/
def State.paFault (s : State) (g : Nat) : State :=
  let s := ((s.paLine g true).raise (R.IN_STAT_FAULT g)).settle
  (s.event (.paFault g)).report (mkReport 0x0D .clsU 0x0010 g)

/-- The class of a chatter or stuck latch (R381). -/
def latchClass (i : Nat) : FClass := if i < 16 then .clsU else .clsC

/-- An input becomes masked (R381, R384): a PAFLT group's line asserts, and PA_FAULT is raised if it had been released. -/
def State.maskInput (s : State) (i : Nat) : State :=
  let s := s.showInput i
  if i < 16 then
    if s.hold.paLine.testBit i then s.raise (R.IN_STAT_FAULT i) else s.paFault i
  else s

/-- The chatter check of a qualified edge (R381). -/
def State.chatter (s : State) (i : Nat) : State :=
  if s.get (R.IN_MON_CHAT_N i) = 0 then s
  else
    let x := s.input i
    let isOpen := match x.winEnd with
      | some w => decide (s.now < w)
      | none => false
    let s := s.modInput i fun x =>
      if isOpen then { x with winEdges := x.winEdges + 1 }
      else { x with winEnd := some (s.now + s.get (R.IN_MON_CHAT_WIN i) * 1024), winEdges := 1 }
    if s.get (R.IN_MON_CHAT_N i) < (s.input i).winEdges ∧ !s.flag (R.IN_STAT_CHATTER i) then
      let s := (s.put (R.IN_STAT_CHATTER i) 1).maskInput i
      (s.event (.inputChatter i)).report (mkReport 0x0D (latchClass i) 0x0011 i)
    else s

/-- A line that does not latch follows its qualified input, unless the input is masked (R384). -/
def State.followLine (s : State) (g : Nat) : State :=
  if !s.flag (R.IN_CFG_LATCH g) && !s.masked g then (s.paLine g (s.isActive g (s.input g).qual)).settle else s

/-- INPUT_QUALIFIED_EDGE (R380 to R384): `level` held for DGW cycles and becomes the qualified level. -/
def State.inputEdge (s : State) (i : Nat) (level : Bool) : State :=
  let s := s.modInput i fun x => { x with pin := level }
  if (s.input i).qual == level then s
  else
    let s := ((s.modInput i fun x => { x with qual := level }).count (R.IN_STAT_EDGES i)).trackActive i
    let s := s.showInput i
    let act := s.isActive i level
    let s := if i < 16 then (if act then s.paFault i else s.followLine i) else s
    let s := doIf (s.flag (R.IN_CFG_EVT i) && !(16 ≤ i && s.masked i)) (fun s => s.event (.inputEdge i (b2n act))) s
    s.chatter i

/-- CHATTER_WINDOW_END (R381). -/
def State.chatterEnd (s : State) (i : Nat) : State :=
  match (s.input i).winEnd with
  | some w => (s.advanceTo w).modInput i fun x => { x with winEnd := none, winEdges := 0 }
  | none => s

/-- INPUT_STUCK (R381). -/
def State.inputStuck (s : State) (i : Nat) : State :=
  let n := s.get (R.IN_STUCK_STUCK_TO i)
  match (s.input i).activeAt with
  | some t =>
    if n = 0 ∨ s.flag (R.IN_STAT_STUCK i) then s
    else
      let s := ((s.advanceTo (t + n * 491520)).put (R.IN_STAT_STUCK i) 1).maskInput i
      (s.event (.inputStuck i)).report (mkReport 0x0D (latchClass i) 0x0012 i)
  | none => s

/-- REARM (R381, R384), with the pin's present level: the line of an inactive input is released unless it latches and FAULT is still set. -/
def State.rearm (s : State) (i : Nat) : State :=
  let s := (s.put (R.IN_STAT_CHATTER i) 0).put (R.IN_STAT_STUCK i) 0
  let s := s.modInput i fun x => { x with qual := x.pin, winEnd := none, winEdges := 0, activeAt := none }
  let s := (s.trackActive i).showInput i
  if i < 16 then
    let s := s.followLine i
    doIf (s.flag (R.IN_CFG_LATCH i) && !s.flag (R.IN_STAT_FAULT i) && !s.isActive i (s.input i).qual) (fun s => (s.paLine i false).settle) s
  else s

/-- A write of FAULT with 1 (R384): refused while the input is active. -/
def State.faultClear (s : State) (i : Nat) : Wr :=
  if 16 ≤ i then .ok s
  else if s.isActive i (s.input i).qual then refuse R.SEQ_STATUS_WR_REFUSED s
  else
    let s := s.put (R.IN_STAT_FAULT i) 0
    .ok (doIf (!s.masked i) (fun s => (s.paLine i false).settle) s)

/-! ### Register writes -/

/-- A write of a register of the PA control and aux DAC block. -/
def writePA (r : RegRow) (ix : List Nat) (a : Nat) (v : Word) (s : State) : Wr :=
  let i := ix.getD 0 0
  let no := refuse R.SEQ_STATUS_WR_REFUSED s
  let direct := s.plainWrite r a v
  match r.id with
  | .SEQ_CFG => .ok ((s.put R.SEQ_CFG_TR_GAP (R.SEQ_CFG_TR_GAP.of v)).seqEnWrite (R.SEQ_CFG_EN.of v = 1))
  | .ADAC_LOCK => .ok (doIf (v.toNat.testBit 0) State.adacLock s)
  | .ADAC_LD => .ok (doIf (v.toNat % 256 ≠ 0) (fun s => s.adacLd (v.toNat % 256)) s)
  | .SEQ_CNT_CLR =>
    .ok (doIf (v.toNat.testBit 0)
      (fun s => forAll (List.range 33) (fun i s => s.put (R.IN_STAT_EDGES i) 0) (s.setReg R.SEQ_CNT 0)) s)
  | .PROF_BIAS => if (R.PROF_BIAS_BIAS_SET i).of v < 74 then no else .ok direct
  | .IN_CFG =>
    let n := (R.IN_CFG_DGW i).of v
    if n < 10 ∨ 491520 < n then no
    else
      let s := direct
      let s := if 16 ≤ i then s.put (R.IN_CFG_LATCH i) 0 else s
      let s := (s.trackActive i).showInput i
      .ok (if i < 16 then s.followLine i else s)
  | .IN_STAT =>
    match (if v.toNat.testBit 4 then s.faultClear i else .ok s) with
    | .error e => .error e
    | .ok s => .ok (doIf (v.toNat.testBit 3) (fun s => s.rearm i) s)
  | .ADAC_CFG =>
    let own := (R.ADAC_CFG_OWNER i).of v
    let grp := (R.ADAC_CFG_GROUP i).of v
    let now := s.get (R.ADAC_CFG_OWNER i)
    let keep := i = 64 ∧ s.flag R.VC_CFG_EN
    if 9 < grp ∨ 1 < own ∨ (own = 1 ∧ 64 ≤ i) then no
    else if ¬keep ∧ own ≠ now ∧ s.carriersActive then no
    else
      let s := s.put (R.ADAC_CFG_GROUP i) grp
      let s := doIf (!s.flag R.SEQ_STATUS_LOCKED) (fun s => s.put (R.ADAC_CFG_MODE i) ((R.ADAC_CFG_MODE i).of v)) s
      .ok (if keep then s else s.put (R.ADAC_CFG_OWNER i) own)
  | .ADAC_CODE => s.adacCode i ((R.ADAC_CODE_CODE i).of v)
  | .ADAC_CLR => .ok (if s.flag R.SEQ_STATUS_LOCKED then s else direct.driveAdac i)
  | _ => .ok direct

/-! ### Meanings -/

/-- SEQ_EDGE (R367). -/
def execSeqEdge (q : Nat) (k : SeqKind) (frame e : Nat) (s : State) : Host.Outcome State Fault Refusal := .next (s.seqEdge q k (frame, e))

/-- SEQ_EN_WRITE (R369). -/
def execSeqEnWrite (v : Bool) (s : State) : Host.Outcome State Fault Refusal := .next (s.seqEnWrite v)

/-- ADAC_LOCK (R377). -/
def execAdacLock (s : State) : Host.Outcome State Fault Refusal := .next s.adacLock

/-- ADAC_LD (R376). -/
def execAdacLd (m : Nat) (s : State) : Host.Outcome State Fault Refusal := .next (s.adacLd m)

/-- ADAC_CODE_WRITE (R376). -/
def execAdacCodeWrite (n code : Nat) (s : State) : Host.Outcome State Fault Refusal := .next (s.adacCode n code).state

/-- ADACLD_EDGE (R376): the channels of GROUP 9 load 2 SI cycles after the edge. -/
def execAdacldEdge (s : State) : Host.Outcome State Fault Refusal := .next ((s.advanceTo (s.now + 2)).strobeGroup 9)

/-- ADACCLR_N_CHANGE (R379). -/
def execAdacclrNChange (v : Bool) (s : State) : Host.Outcome State Fault Refusal := .next (s.clrN v)

/-- DEGLITCH_HOLD_END (R378). -/
def execDeglitchHoldEnd (n : Nat) (s : State) : Host.Outcome State Fault Refusal := .next (s.holdDone n)

/-- INPUT_QUALIFIED_EDGE (R380). -/
def execInputQualifiedEdge (i : Nat) (level : Bool) (s : State) : Host.Outcome State Fault Refusal := .next (s.inputEdge i level)

/-- CHATTER_WINDOW_END (R381). -/
def execChatterWindowEnd (i : Nat) (s : State) : Host.Outcome State Fault Refusal := .next (s.chatterEnd i)

/-- INPUT_STUCK (R381). -/
def execInputStuck (i : Nat) (s : State) : Host.Outcome State Fault Refusal := .next (s.inputStuck i)

/-- REARM (R381). -/
def execRearm (i : Nat) (pin : Bool) (s : State) : Host.Outcome State Fault Refusal :=
  .next ((s.modInput i fun x => { x with pin := pin }).rearm i)

/-- FAULT_CLEAR (R384). -/
def execFaultClear (i : Nat) (s : State) : Host.Outcome State Fault Refusal := .next (s.faultClear i).state

end Sys2Proof.Machine
end

