-- ==== Sys2Proof/Machine/Blocks.lean ====
section
/-! DEFINITION. The 64b/66b blocks of the cascade layer on a link (R248, R249, R279 to R285, R302): headers with their HCRC, unit fields, flag and
check blocks, side frames; what a port sends, block by block, and how a received unit is read. -/

namespace Sys2Proof.Machine

/-- A block (R248): a control block (sync header 0b10) or a data block (0b01), and its 64 payload bits. -/
structure Block where
  ctrl : Bool
  w : Nat
deriving DecidableEq, Repr

/-- The 66 bits of a block, the two of the sync header lowest (R248). -/
def Block.bits66 (b : Block) : Nat := 4 * b.w + (if b.ctrl then 2 else 1)

/-- An IDLE block (R249). -/
def Block.idle : Block := { ctrl := true, w := 0x1E }

/-- The self-synchronising scrambler of a lane (R248, x^58 + x^39 + 1) over `n` payload bits, bit 0 first: the bits sent, and the last 58 of
them, newest lowest. -/
def scramble (w : Nat) : Nat → Nat → Nat → Nat × Nat
  | 0, _, st => (0, st)
  | n + 1, i, st =>
    let b := (bits w i i + bits st 38 38 + bits st 57 57) % 2
    let r := scramble w n (i + 1) ((2 * st + b) % 2 ^ 58)
    (r.1 + b * 2 ^ i, r.2)

/-- The receiver's side of the scrambler. -/
def descramble (w : Nat) : Nat → Nat → Nat → Nat × Nat
  | 0, _, st => (0, st)
  | n + 1, i, st =>
    let b := bits w i i
    let r := descramble w n (i + 1) ((2 * st + b) % 2 ^ 58)
    (r.1 + (b + bits st 38 38 + bits st 57 57) % 2 * 2 ^ i, r.2)

/-- The lane of block `i` of a row (R249): the i-th active lane. -/
def rowLane (active i : Nat) : Option Nat := (bitList 24 active)[i]?

/-! ### Headers (R279) -/

/-- CRC-8 with polynomial 0x07 over `n` bits of a number (R279; DESIGN CHOICE, log 65: the highest bit first). -/
def crc8 (v : Nat) : Nat → Nat → Nat
  | 0, c => c
  | n + 1, c =>
    let b := (c / 2 ^ 7 + bits v n n) % 2
    crc8 v n ((c * 2 % 256) ^^^ (if b = 1 then 0x07 else 0))

/-- The payload of a header block (R279): content bits [63:24], HCRC, sub-type, type byte. -/
def headerWord (sub c : Nat) : Nat := c * 2 ^ 24 + crc8 c 40 0 * 2 ^ 16 + sub * 2 ^ 8 + 0x4B

/-- Content bits [63:24] of a header block of a sub-type, if its HCRC holds (R280). -/
def openHeader (sub w : Nat) : Option Nat :=
  let c := bits w 63 24
  if w % 256 = 0x4B ∧ bits w 15 8 = sub ∧ crc8 c 40 0 = bits w 23 16 then some c else none

/-- Sub-types of R279: UL_UNIT. -/
def subUlUnit : Nat := 0x10
/-- UL_TAIL. -/
def subUlTail : Nat := 0x11
/-- DL_UNIT. -/
def subDlUnit : Nat := 0x12
/-- DL_TAIL. -/
def subDlTail : Nat := 0x13
/-- PR_ROW. -/
def subPrRow : Nat := 0x14
/-- SIDE_SOF. -/
def subSof : Nat := 0x20
/-- SIDE_DATA. -/
def subSideData : Nat := 0x21
/-- SIDE_EOF. -/
def subEof : Nat := 0x22

/-- Content of a unit or tail header: SFN, SYM, CS, UNIT. -/
def unitContent (sfn sym cs unit : Nat) : Nat := sfn % 1024 * 2 ^ 30 + sym % 4096 * 2 ^ 18 + cs % 8 * 2 ^ 15 + unit % 256 * 2 ^ 7

/-- Content of a PR_ROW header. -/
def prContent (sfn o beam rep flags : Nat) : Nat :=
  sfn % 1024 * 2 ^ 30 + o % 4 * 2 ^ 28 + beam % 8 * 2 ^ 25 + rep % 16 * 2 ^ 21 + flags % 16 * 2 ^ 17

/-- Content of a SIDE_SOF header. -/
def sofContent (dst src kind ndata frag : Nat) : Nat :=
  dst % 256 * 2 ^ 32 + src % 256 * 2 ^ 24 + kind % 16 * 2 ^ 20 + ndata % 64 * 2 ^ 14 + frag % 4 * 2 ^ 12

/-! ### Fields and checks (R281 to R283, R285) -/

/-- CRC-32 of IEEE 802.3 over bytes (PRESUMED, log 65: its initial value, bit order and final inversion). -/
def crc32Step (c : Nat) (b : Byte) : Nat :=
  (List.range 8).foldl (fun c i => if (c + bits b.toNat i i) % 2 = 1 then c / 2 ^^^ 0xEDB88320 else c / 2) c

/-- CRC-32 over a list of bytes. -/
def crc32 (l : List Byte) : Nat := l.foldl crc32Step 0xFFFFFFFF ^^^ 0xFFFFFFFF

/-- 64-bit blocks of a field: bit b is bit b mod 64 of block ⌊b / 64⌋ (R281). -/
def blocksOf (l : List Byte) : List Nat := (List.range (ceilDiv l.length 8)).map fun i => leNat ((l.drop (8 * i)).take 8)

/-- The bytes of blocks. -/
def blockBytesOf (l : List Nat) : List Byte := l.flatMap fun w => leBytes 8 w

/-- Entries of a row in the packing of R281. -/
def unpackSums (n : Nat) (b : List Byte) : List (Int × Int) :=
  let v := leNat b
  (List.range n).map fun j => (toInt 22 (v >>> (44 * j)), toInt 22 (v >>> (44 * j + 22)))

/-- A layer's 704-bit field of a unit (R281). -/
def unitField (row : List (Int × Int)) : List Byte := packSums 88 row

/-- A layer's 512-bit field of a broadcast unit (R283). -/
def bcastField (row : List (Int × Int)) : List Byte := row.flatMap fun v => leBytes 4 (ofInt 16 v.1 + ofInt 16 v.2 * 65536)

/-- The flag blocks of a layer (R282). -/
def flagBlocks (flags : List Nat) : List Nat :=
  (List.range (ceilDiv flags.length 16)).map fun i => ((List.range 16).map fun g => flags.getD (16 * i + g) 0 % 16 * 2 ^ (4 * g)).sum

/-- The check block of a layer of a sum frame: CRC-32 over its unit fields and its flag blocks, in the order sent (R282). -/
def sumCheckOf (row : List (Int × Int)) (flags : List Nat) : Nat :=
  crc32 ((List.range (ceilDiv row.length 16)).flatMap (fun u => unitField ((row.drop (16 * u)).take 16)) ++ blockBytesOf (flagBlocks flags))

/-- What the blocks of a received unit hold (R280, R281, R295). -/
inductive UnitRead where
  | badHeader
  | wrongTag
  | short
  | good (rows : List (List (Int × Int)))
deriving DecidableEq, Repr

/-- A received unit of `nl` layers is read: the header must hold, name this unit, and be followed by its blocks (R280, R281, R295). -/
def readUnit (sfn sym cs unit nl hdr : Nat) (data : List Nat) : UnitRead :=
  match openHeader subUlUnit hdr with
  | none => .badHeader
  | some c =>
    if c ≠ unitContent sfn sym cs unit + c % 2 ^ 7 then .wrongTag
    else if data.length < 11 * nl then .short
    else .good ((List.range nl).map fun i => unpackSums 16 (blockBytesOf ((data.drop (11 * i)).take 11)))

/-! ### What a port sends, block by block -/

/-- A control block with a header. -/
def hdrBlock (sub c : Nat) : Block := { ctrl := true, w := headerWord sub c }

/-- Data blocks. -/
def dataBlocks (l : List Nat) : List Block := l.map fun w => { ctrl := false, w := w }

/-- The blocks of a side frame (R279): its SIDE_SOF, six bytes a SIDE_DATA, SIDE_EOF with the CRC-32. -/
def sideBlocks (dst src kind frag : Nat) (l : List Byte) : List Block :=
  let n := max 1 (ceilDiv l.length 6)
  hdrBlock subSof (sofContent dst src kind n frag) ::
    ((List.range n).map fun i => { ctrl := true, w := leNat ((l.drop (6 * i)).take 6) * 2 ^ 16 + subSideData * 2 ^ 8 + 0x4B : Block }) ++
    [{ ctrl := true, w := crc32 l * 2 ^ 16 + subEof * 2 ^ 8 + 0x4B }]

/-- The blocks of what leaves a port for the cascade (R279 to R285); nothing for other outputs. -/
def Output.wire : Output → List Block
  | .side _ kind dst src frag l => sideBlocks dst src kind frag l
  | .sumUnit _ cs sfn n u rows => hdrBlock subUlUnit (unitContent sfn n cs u) :: dataBlocks (rows.flatMap fun r => blocksOf (unitField r))
  | .sumTail _ cs sfn n flags checks => hdrBlock subUlTail (unitContent sfn n cs 0) :: dataBlocks (flags.flatMap flagBlocks ++ checks)
  | .bcast _ cs sfn n u rows => hdrBlock subDlUnit (unitContent sfn n cs u) :: dataBlocks (rows.flatMap fun r => blocksOf (bcastField r))
  | .bcastTail _ cs sfn n checks => hdrBlock subDlTail (unitContent sfn n cs 0) :: dataBlocks checks
  | .prachRow _ sfn o beam rep flags row =>
    let fields := (List.range (ceilDiv row.length 16)).map fun u => unitField ((row.drop (16 * u)).take 16)
    hdrBlock subPrRow (prContent sfn o beam rep flags) :: dataBlocks (fields.flatMap blocksOf ++ [crc32 fields.flatten])
  | _ => []

end Sys2Proof.Machine
end

