-- ==== Sys2Proof/Machine/TimeUnit.lean ====
section
/-! DEFINITION. Device time and the time unit (chapter 10, R317 to R334). -/

namespace Sys2Proof.Machine

/-- Update the time unit's own state. -/
def State.modTm (s : State) (f : TimeX → TimeX) : State := { s with tm := f s.tm }

/-- A servo's own state. -/
def State.servo (s : State) (x : Nat) : Servo := s.tm.servos.getD x Servo.reset

/-- Update a servo's own state. -/
def State.modServo (s : State) (x : Nat) (f : Servo → Servo) : State := s.modTm fun t => { t with servos := updAt t.servos x f }

/-- The state field of a servo (R324). -/
def servoField (x : Nat) : Field := if x = 0 then R.TU_STATUS_STATE_A else R.TU_STATUS_STATE_B

/-- Servo states (R324): FREERUN. -/
def svFreerun : Nat := 0
/-- ACQUIRING. -/
def svAcquiring : Nat := 1
/-- LOCKED. -/
def svLocked : Nat := 2
/-- HOLDOVER. -/
def svHoldover : Nat := 3

/-- The selected servo. -/
def State.selNow (s : State) : Nat := s.get R.TU_STATUS_SEL_NOW

/-- VALID follows what device time rests on (R320); carriers held after a wake are released at TRACEABLE (R334). -/
def State.grade (s : State) : State :=
  let st := s.get (servoField s.selNow)
  let v :=
    if s.worker then (if s.flag R.CASC_STATUS_TIME_LOCK && s.tm.parentGood then 2 else if s.get R.TU_STATUS_VALID = 0 && !s.flag R.CASC_STATUS_TIME_LOCK then 0 else 1)
    else if st = svLocked ∨ st = svHoldover then 2
    else if st = svAcquiring ∨ s.get R.TU_STATUS_VALID ≠ 0 then 1
    else 0
  let s := s.put R.TU_STATUS_VALID v
  doIf (v == 2) (fun s => s.modTm fun t => { t with carriersHeld := false }) s

/-- Device time is set at a cycle: the frame grid and every instant count from it (R317, R319). -/
def State.setTime (s : State) (t : Int) (c : Nat) : State :=
  s.modTm fun x => { x with base := t.toNat, baseAt := c, slew := none }

/-- TU_SNAP (R319). -/
def State.tuSnap (s : State) : State :=
  let t := s.time
  let w := fun (n : Nat) => BitVec.ofNat 32 n
  (((s.setReg R.TU_SNAP0 (w (timeSec t / 2 ^ 32))).setReg R.TU_SNAP1 (w (timeSec t))).setReg R.TU_SNAP2 (w (timeNs t))).setReg
    R.TU_SNAP3 (w (timeFrac t))

/-- The target of TU_SET in 2^−16 ns. -/
def State.tuTarget (s : State) : Nat :=
  ((s.get R.TU_SET0_SEC_HI * 2 ^ 32 + s.get R.TU_SET1_SEC_LO) * 1000000000 + s.get R.TU_SET2_NS) * 65536 + s.get R.TU_SET3_FRAC

/-! ### The servos (R323 to R325) -/

/-- The selection moves to a servo (R325). -/
def State.domainSwitch (s : State) (x : Nat) : State :=
  if s.selNow = x then s
  else ((s.put R.TU_STATUS_SEL_NOW x).grade).event (.timeDomainSwitch x (s.servo x).lastE)

/-- Whether the selected servo's f_int takes its KI term (R329, R330). -/
def State.takesKi (s : State) (x : Nat) : Bool :=
  !(s.get R.TU_CTRL_SYNCE_MODE == 2 && x == s.selNow) || (s.tm.synceEnded && s.flag R.TU_STATUS_SYNCE_OK)

/-- SRV_FREQ and SRV_ERR show a servo. -/
def State.showServo (s : State) (x : Nat) : State :=
  (s.put (R.SRV_FREQ_F_INT x) (ofInt 32 (s.servo x).fInt)).put (R.SRV_ERR_E x) (ofInt 32 (s.servo x).lastE)

/-- A servo takes an offset sample in 2^−8 ns (R323, R324). A worker's time follows its parent: only the manager runs servos (R52). -/
def State.servoTake (s : State) (x : Nat) (e : Int) : State :=
  if s.worker then s
  else if 256000000 < e.natAbs then s.count (R.SRV_CNT_REJECTED x)
  else
    let lim : Int := roundDiv ((s.get (R.SRV_CFG_PULL_MAX x) : Nat) * 65536 : Nat) 10
    let old := s.servo x
    let f := if s.takesKi x then old.fInt + roundShift (e * 256) (s.get (R.SRV_CFG_KI x)) else old.fInt
    let near := e.natAbs ≤ s.get (R.SRV_HOLD_LOCK_THR x) * 256
    let run := if near then old.run + 1 else 0
    let s := s.modServo x fun y => { y with
      pull := clampI (-lim) lim (roundShift (e * 256) (s.get (R.SRV_CFG_KP x)))
      fInt := f
      lastE := e
      run := run
      hist := (f :: y.hist).take 64
      lastAt := s.now }
    let s := (s.count (R.SRV_CNT_ACCEPTED x)).showServo x
    let st := s.get (servoField x)
    let st' := if st = svLocked then st else if 16 ≤ run ∧ (st = svAcquiring ∨ st = svFreerun) then svLocked else svAcquiring
    let s := (s.put (servoField x) st').grade
    doIf (st' == svLocked && st != svLocked && x == s.selNow) (fun s => s.event (.timeLocked x)) s

/-- SRV_SMP (R323): servo B ignores samples written to it while PPS_IN feeds it. -/
def State.servoWrite (s : State) (x e : Nat) : State :=
  if x = 1 ∧ s.flag (R.SRV_CFG_SRC 1) then s else s.servoTake x (toInt 32 e)

/-- A write of SRV_CFG (R323, R324, R338): the servo returns to FREERUN with f_int = 0; PULL_MAX above 100 is refused. -/
def State.srvCfg (s : State) (x : Nat) (v : Word) : Wr :=
  if 100 < (R.SRV_CFG_PULL_MAX x).of v then .error s
  else
    let fs := [R.SRV_CFG_PULL_MAX x, R.SRV_CFG_KI x, R.SRV_CFG_KP x] ++ (if x = 1 then [R.SRV_CFG_SRC 1] else [])
    let s := forAll fs (fun f s => s.put f (f.of v)) s
    let s := (s.modServo x fun y => { y with pull := 0, fInt := 0, run := 0, hist := [] }).put (servoField x) svFreerun
    .ok ((s.showServo x).grade)

/-- HOLDOVER (R324, R325, R332): HOLD_TO ms after the last accepted sample. -/
def State.holdover (s : State) (x : Nat) : State :=
  let st := s.get (servoField x)
  if !s.worker ∧ (st = svAcquiring ∨ st = svLocked) then
    let y := s.servo x
    let s := s.advanceTo (y.lastAt + s.get (R.SRV_HOLD_HOLD_TO x) * msCycles)
    let s := s.modServo x fun y => { y with pull := 0, run := 0, fInt := roundDiv y.hist.sum (max 1 y.hist.length) }
    let s := ((s.put (servoField x) svHoldover).showServo x).grade
    let s := doIf (x == s.selNow) (fun s => s.event (.timeHoldover x)) s
    let s := doIf (x == 1 && s.flag (R.SRV_CFG_SRC 1)) (fun s => s.event .ppsInLost) s
    doIf (x == s.selNow && s.flag R.TU_CTRL_AUTO_SEL && s.get (servoField (1 - x)) == svLocked) (fun s => s.domainSwitch (1 - x)) s
  else s

/-! ### Steps (R319, R28) -/

/-- TU_CTRL.STEP (R319): refused for a bad NS; with a slot active refused and passed to the selected servo; else pending on the next
alignment edge. -/
def State.tuStep (s : State) : State × Status :=
  if 1000000000 ≤ s.get R.TU_SET2_NS then (s.raise R.TU_STATUS_STEP_REFUSED, .badParam)
  else if s.carriersActive then
    ((s.raise R.TU_STATUS_STEP_REFUSED).servoTake s.selNow (roundShift ((s.tuTarget : Int) - s.time) 8), .stateConflict)
  else if s.tm.stepAt.isSome then (s, .ok)
  else (s.modTm fun x => { x with stepAt := some s.alignEdge }, .ok)

/-- TIME_STEP_APPLY (R319): the pending step applies on its edge with TU_SET as it stands. -/
def State.stepApply (s : State) : State :=
  match s.tm.stepAt with
  | some c =>
    let s := s.advanceTo c
    let d := (s.tuTarget : Int) - s.time
    let s := (s.setTime s.tuTarget s.now).modTm fun x => { x with stepAt := none }
    let s := s.raise R.TU_STATUS_STEPPED
    let s := (doIf (s.get R.TU_STATUS_VALID == 0) (fun s => s.put R.TU_STATUS_VALID 1) s).grade
    s.event (.timeStepped d)
  | none => s

/-- FORCE_VALID (R334). -/
def State.forceValid (s : State) : State := s.modTm fun x => { x with carriersHeld := false }

/-! ### The VCXO (R326 to R328) -/

/-- The selected servo's output. -/
def State.servoOut (s : State) : Int := (s.servo s.selNow).fInt + (s.servo s.selNow).pull

/-- SI cycles in 62.5 ms. -/
def freqPeriod : Nat := 30720000

/-- The first cycle after `c` that is a multiple of `n` cycles after the epoch. -/
def State.nextMultiple (s : State) (n c : Nat) : Nat := s.tm.epoch + ((c - s.tm.epoch) / n + 1) * n

/-- FREQ_SLEW_PERIOD (R326). -/
def State.freqSlew (s : State) : State :=
  let s := s.tickTo 0 (s.nextMultiple freqPeriod)
  let lim : Int := (s.get R.VC_CFG_DF_MAX * 1024 : Nat)
  let d := s.servoOut - s.tm.freqCmd
  s.modTm fun x => { x with freqCmd := x.freqCmd + (if lim = 0 then d else clampI (-lim) lim d) }

/-- The code of R327 with 16 fractional bits, before and after the limits. -/
def State.vcCode (s : State) : Int × Int :=
  let g := s.getS R.VC_GAIN_GAIN
  let q : Int := if g = 0 then 0 else if 0 < g then roundDiv (s.tm.freqCmd * 65536) g.toNat else roundDiv (-s.tm.freqCmd * 65536) (-g).toNat
  let raw := (s.get R.VC_CFG_CENTRE : Int) * 65536 + q
  (raw, clampI ((s.get R.VC_LIM_LIMIT_LO : Int) * 65536) ((s.get R.VC_LIM_LIMIT_HI : Int) * 65536) raw)

/-- ADAC64 is driven with the code for the frequency command (R327): its integer part with first-order dither of the fraction. -/
def State.vcDrive (s : State) : State :=
  if s.flag R.VC_CFG_EN then
    let (raw, code) := s.vcCode
    let limited := raw ≠ code
    let was := s.flag R.TU_STATUS_VC_LIMIT
    let int := (code / 65536).toNat
    let frac := (code % 65536).toNat
    let acc := s.tm.dither + frac
    let s := (s.put R.VC_NOW_CODE int).put R.VC_NOW_FRAC frac
    let s := s.put R.TU_STATUS_VC_LIMIT (b2n limited)
    let s := doIf (limited && !was) (fun s => s.event (.vcxoLimit int)) s
    (s.modTm fun x => { x with dither := acc % 65536 }).strobe 64 (min 4095 (int + acc / 65536))
  else s

/-- VCXO_UPDATE (R327): every 512 SI cycles. -/
def State.vcUpdate (s : State) : State := (s.tickTo 1 (s.nextMultiple 512)).vcDrive

/-- A write of VC_CFG.EN (R328, R375): OWNER of ADAC64 reads 2 while the time unit has it. -/
def State.vcEnWrite (s : State) (v : Bool) : State :=
  let old := s.flag R.VC_CFG_EN
  let s := (s.put R.VC_CFG_EN (b2n v)).put (R.ADAC_CFG_OWNER 64) (if v then 2 else 0)
  doIf (v && !old) State.vcDrive s

/-! ### SyncE and PPS (R329 to R332) -/

/-- The SyncE source is lost (R330): mode 2 ends at once. -/
def State.synceLost (s : State) : State :=
  let m := s.get R.TU_CTRL_SYNCE_MODE
  if m = 0 then s
  else if s.flag R.TU_STATUS_SYNCE_OK || (m == 2 && !s.tm.synceEnded) then
    let s := (s.put R.TU_STATUS_SYNCE_OK 0).modTm fun x => { x with synceEnded := x.synceEnded || m == 2 }
    s.event (.synceLost (s.get R.SE_CFG_LANE))
  else s

/-- SYNCE_GATE (R329, R330): a gate of one second ends with the measured frequency error in 2^−16 ppb. A worker's host lanes are idle, and it
runs no servo (R46, R52). -/
def State.synceGate (s : State) (ferr : Int) : State :=
  let m := s.get R.TU_CTRL_SYNCE_MODE
  if !s.worker ∧ (m = 1 ∨ m = 2) then
    let s := (s.tickTo 3 s.secondAfter).put R.SE_FERR_FERR (ofInt 32 ferr)
    if 4600 * 65536 < ferr.natAbs then s.synceLost
    else
      let s := s.put R.TU_STATUS_SYNCE_OK 1
      if m = 2 ∧ !s.tm.synceEnded then
        (s.modServo s.selNow fun y => { y with fInt := y.fInt - roundShift ferr (s.get R.TU_CTRL_KSE) }).showServo s.selNow
      else s
  else s

/-- PPS_OUT_EDGE (R331): the next rising edge, placed in eighths of a cycle after the cycle before the one it comes up to. -/
def State.ppsOutEdge (s : State) : State :=
  let ofs := s.getS R.PPS_OUT_OFS_OUT_OFS * 65536
  let due (c : Nat) : Int := ((s.timeAt c - ofs) / secUnits + 1) * secUnits + ofs
  let eighth (c : Nat) : Nat := (roundDiv ((due c - s.timeAt (s.cycleOf (c + 1) (due c).toNat - 1)) * 24) 400000).toNat
  let place := eighth (if s.bound.ticks.getD 4 0 = s.now then s.now else s.now - 1)
  let s := s.tickTo 4 fun c => s.cycleOf (c + 1) (due c).toNat
  if s.flag R.PPS_OUT_CFG_EN ∧ (!s.flag R.PPS_OUT_CFG_GATE ∨ s.get R.TU_STATUS_VALID = 2) then
    (s.emit (.ppsEdge place)).modTm fun x => { x with ppsUntil := s.now + s.get R.PPS_OUT_CFG_WIDTH * msCycles }
  else s

/-- The level of PPS_OUT (R331). -/
def State.ppsOut (s : State) : Bool := s.flag R.PPS_OUT_CFG_EN && s.now < s.tm.ppsUntil

/-- PPS_IN_EDGE (R332): a rising edge `eighth` eighths of a cycle after the start of this one. -/
def State.ppsInEdge (s : State) (eighth : Nat) : State :=
  let early := match s.tm.ppsLast with
    | some c => decide (s.now < c + 500 * msCycles)
    | none => false
  if early then s.count R.PPS_IN_CNT_EXTRA
  else
    let ts := s.time + (roundDiv (eighth * 50000) 3).toNat
    let s := (s.modTm fun x => { x with ppsLast := some s.now }).count R.PPS_IN_CNT_EDGES
    let s := (s.put R.PPS_IN_TS0_SEC_LO (timeSec ts)).put R.PPS_IN_TS1_NS (timeNs ts)
    if s.flag (R.SRV_CFG_SRC 1) then
      let near : Int := ((ts + secUnits / 2) / secUnits * secUnits : Nat)
      s.servoTake 1 (roundShift (near - ts + s.getS R.PPS_IN_OFS_IN_OFS * 65536) 8)
    else s

/-! ### FALLOW (R333, R334) -/

/-- Device time is handed to the Lark (R333). -/
def State.tmFallow (s : State) : State := s.modTm fun x => { x with fallowAt := some s.now, slew := none }

/-- Device time is reloaded from the Lark with its error in 2^−16 ns (R333, R334). -/
def State.tmWake (s : State) (err : Int) : State :=
  let s := s.setTime ((s.time : Int) + err) s.now
  let s := s.modTm fun x => { x with
    fallowAt := none, carriersHeld := true,
    servos := x.servos.map fun y => { y with pull := 0, run := 0, hist := [] } }
  let s := ((s.put R.TU_STATUS_STATE_A svFreerun).put R.TU_STATUS_STATE_B svFreerun).put R.TU_STATUS_VALID 1
  (s.driveAdac 64)

/-! ### Register writes -/

/-- The counters of the time unit (TU_CNT_CLR). -/
def tuCounters : List Nat := [R.SRV_CNT 0, R.SRV_CNT 1, R.PPS_IN_CNT]

/-- A write of a register of the time unit block. -/
def writeTU (r : RegRow) (ix : List Nat) (a : Nat) (v : Word) (s : State) : Wr :=
  let i := ix.getD 0 0
  let direct := s.plainWrite r a v
  match r.id with
  | .TU_CTRL =>
    let m := R.TU_CTRL_SYNCE_MODE.of v
    let bad := v.toNat.testBit 2 && (s.tuStep.2 != .ok)
    if m = 3 then .error s
    else if bad then .ok s.tuStep.1
    else
      let s := forAll [R.TU_CTRL_KSE, R.TU_CTRL_SYNCE_MODE, R.TU_CTRL_AUTO_SEL, R.TU_CTRL_SEL] (fun f s => s.put f (f.of v)) s
      let s := s.modTm fun x => { x with synceEnded := false }
      let s := doIf (m == 0) (fun s => s.put R.TU_STATUS_SYNCE_OK 0) s
      let s := s.domainSwitch (R.TU_CTRL_SEL.of v)
      let s := doIf (v.toNat.testBit 1) State.tuSnap s
      let s := doIf (v.toNat.testBit 6) State.forceValid s
      .ok (doIf (v.toNat.testBit 2) (fun s => s.tuStep.1) s)
  | .SRV_CFG => s.srvCfg i v
  | .SRV_SMP => .ok (s.servoWrite i v.toNat)
  | .VC_CFG =>
    let s := forAll [R.VC_CFG_DF_MAX, R.VC_CFG_CENTRE] (fun f s => s.put f (f.of v)) s
    .ok (s.vcEnWrite (R.VC_CFG_EN.of v = 1))
  | .PPS_OUT_CFG =>
    let w := R.PPS_OUT_CFG_WIDTH.of v
    if w = 0 ∨ 200 < w then .error s else .ok direct
  | .SE_CFG => if 7 < R.SE_CFG_LANE.of v then .error s else .ok direct
  | .TU_CNT_CLR => .ok (doIf (v.toNat.testBit 0) (fun s => forAll tuCounters (fun a s => s.setReg a 0) s) s)
  | _ => .ok direct

/-! ### Meanings -/

/-- TU_SNAP (R319). -/
def execTuSnap (s : State) : Host.Outcome State Fault Refusal := .next s.tuSnap

/-- TU_STEP (R319). -/
def execTuStep (s : State) : Host.Outcome State Fault Refusal := .next s.tuStep.1

/-- TIME_STEP_APPLY (R319). -/
def execTimeStepApply (s : State) : Host.Outcome State Fault Refusal := .next s.stepApply

/-- FORCE_VALID (R334). -/
def execForceValid (s : State) : Host.Outcome State Fault Refusal := .next s.forceValid

/-- SERVO_SAMPLE (R323): the 32-bit value written to SRV_SMP. -/
def execServoSample (x e : Nat) (s : State) : Host.Outcome State Fault Refusal := .next (s.servoWrite x e)

/-- SRV_CFG_WRITE (R324). -/
def execSrvCfgWrite (x : Nat) (v : Word) (s : State) : Host.Outcome State Fault Refusal := .next (s.srvCfg x v).state

/-- SERVO_HOLDOVER_TIMEOUT (R324). -/
def execServoHoldoverTimeout (x : Nat) (s : State) : Host.Outcome State Fault Refusal := .next (s.holdover x)

/-- FREQ_SLEW_PERIOD (R326). -/
def execFreqSlewPeriod (s : State) : Host.Outcome State Fault Refusal := .next s.freqSlew

/-- VCXO_UPDATE (R327). -/
def execVcxoUpdate (s : State) : Host.Outcome State Fault Refusal := .next s.vcUpdate

/-- VC_EN_WRITE (R328). -/
def execVcEnWrite (v : Bool) (s : State) : Host.Outcome State Fault Refusal := .next (s.vcEnWrite v)

/-- SYNCE_GATE (R329). -/
def execSynceGate (ferr : Int) (s : State) : Host.Outcome State Fault Refusal := .next (s.synceGate ferr)

/-- SYNCE_LOST (R330). -/
def execSynceLost (s : State) : Host.Outcome State Fault Refusal := .next s.synceLost

/-- PPS_OUT_EDGE (R331). -/
def execPpsOutEdge (s : State) : Host.Outcome State Fault Refusal := .next s.ppsOutEdge

/-- PPS_IN_EDGE (R332). -/
def execPpsInEdge (eighth : Nat) (s : State) : Host.Outcome State Fault Refusal := .next (s.ppsInEdge eighth)

end Sys2Proof.Machine
end

