-- ==== Sys2Proof/Machine/HostPort.lean ====
section
/-! DEFINITION. The host port: Ethernet ports, frames, forwarding and timed launch (chapter 10, R310 to R316, R321, R322, R335 to R337). -/

namespace Sys2Proof.Machine

/-- Ethernet ports of a configuration (R310). -/
def portsOf (cfg : Nat) : Nat :=
  match cfg with
  | 0 => 1
  | 1 => 2
  | 2 => 4
  | 3 => 8
  | 4 => 2
  | 5 => 2
  | _ => 1

/-- Rate of each port in Gb/s (R310). -/
def rateOf (cfg : Nat) : Nat :=
  match cfg with
  | 0 => 800
  | 1 => 400
  | 2 => 200
  | 3 => 100
  | 4 => 200
  | 5 => 100
  | _ => 100

/-- Whether port `e` exists and is enabled. A worker holds HI power-gated (R46): it has none. -/
def State.portOn (s : State) (e : Nat) : Bool := !s.worker && s.flag R.HP_CTRL_EN && e < portsOf (s.get R.HP_CTRL_CFG)

/-- Whether port `e` is up (R311). -/
def State.portUp (s : State) (e : Nat) : Bool := s.fbit R.HP_STATUS_LINK e

/-- A port's link changes (R311). -/
def State.setLink (s : State) (e : Nat) (up : Bool) : State :=
  if s.portUp e == up then s
  else (s.putBit R.HP_STATUS_LINK e up).event (if up then .hpLinkUp e else .hpLinkDown e)

/-- HP_LINK_CHANGE (R311): the PCS alignment and FEC lock of a port; none while the port or ETHREF is absent (R36). -/
def State.linkChange (s : State) (e : Nat) (pcs fec : Bool) : State :=
  let can := s.portOn e && s.flag R.HP_STATUS_ETHREF_OK
  (s.putBit R.HP_STATUS_FEC_LOCK e (fec && can)).setLink e (pcs && fec && can)

/-- Every port goes down. -/
def State.portsDown (s : State) : State := forAll (List.range 8) (fun e s => s.linkChange e false false) s

/-- ETHREF_LOSS (R36). -/
def State.ethrefLoss (s : State) : State := (s.put R.HP_STATUS_ETHREF_OK 0).portsDown

/-! ### Frames (R313, R314) -/

/-- Two bytes of a frame from an offset. -/
def at16 (l : List Byte) (o : Nat) : Nat := beNat ((l.drop o).take 2)

/-- A frame's tag, its ethertype, and where its content begins. -/
def frameType (l : List Byte) : Option Nat × Nat × Nat :=
  if at16 l 12 = 0x8100 then (some (at16 l 14 % 4096), at16 l 16, 18) else (none, at16 l 12, 14)

/-- How a frame on an HP0 port is handled (R313, R314): eCPRI messages with the frame's source, PTP (with its correction, R322), ESMC,
HP1, or a drop. -/
inductive Handling where
  | ecpri (src : Nat) (payload : List Byte)
  | ptp
  | esmc
  | toHp1
  | rxDrop
  | notLocal
deriving DecidableEq, Repr

/-- The station address. -/
def State.stationMac (s : State) : Nat := s.get R.HP_MAC_HI_MAC_HI * 2 ^ 32 + s.get R.HP_MAC_LO_MAC_LO

/-- The station IPv6 address. -/
def State.stationIp6 (s : State) : Nat := (List.range 4).foldl (fun n i => n * 2 ^ 32 + s.get (R.HP_IP6_ADDR i)) 0

/-- The eCPRI content of a frame and its source, if it carries eCPRI in the transport in use (R313). -/
def State.ecpriOf (s : State) (l : List Byte) : Option (Nat × List Byte) :=
  let (_, ty, o) := frameType l
  if s.get R.HP_CTRL_XPORT = 0 then
    if ty = 0xAEFE then some (beNat ((l.drop 6).take 6), l.drop o) else none
  else
    let ip := l.drop o
    let udp := ip.drop 40
    if ty = 0x86DD ∧ beNat ((ip.drop 6).take 1) = 17 ∧ beNat ((ip.drop 24).take 16) = s.stationIp6 ∧ at16 udp 2 = s.get R.HP_UDP_PORT then
      some (beNat ((ip.drop 8).take 16), (udp.drop 8).take (at16 udp 4 - 8))
    else none

/-- The classification of R314, after the length and tag checks of R312 and R313. -/
def State.classify (s : State) (l : List Byte) : Handling :=
  let (vid, ty, o) := frameType l
  let dst := beNat (l.take 6)
  let cpri := s.ecpriOf l
  let badTag : Bool := match vid with
    | some v => v != s.get R.HP_VLAN_VID
    | none => cpri.isSome
  if 9216 < l.length + 4 then .rxDrop
  else if s.flag R.HP_CTRL_VLAN_EN ∧ badTag then .rxDrop
  else if (dst = 0x011B19000000 ∨ dst = 0x0180C200000E) ∧ ty = 0x88F7 then .ptp
  else if dst = s.stationMac then
    match cpri with
    | some (src, p) => .ecpri src p
    | none => if ty = 0x8809 ∧ beNat ((l.drop o).take 1) = 0x0A then .esmc else .rxDrop
  else if dst / 2 ^ 40 % 2 = 0 ∧ s.flag R.HP_CTRL_HP1_EN then .toHp1
  else .notLocal

/-- The counter of dropped frames of a port. -/
def State.rxDrop (s : State) (e : Nat) : State := s.count (R.RX_DROP_RX_DROP e)

/-! ### The transparent clock (R322) -/

/-- Whether a frame carries PTP over UDP, IPv4 or IPv6: ports 319 and 320. -/
def ptpOverUdp (l : List Byte) : Bool :=
  let (_, ty, o) := frameType l
  let ip := l.drop o
  let port := if ty = 0x86DD then at16 ip 42 else if ty = 0x0800 then at16 ip ((beNat (ip.take 1) % 16) * 4 + 2) else 0
  let proto := if ty = 0x86DD then beNat ((ip.drop 6).take 1) else if ty = 0x0800 then beNat ((ip.drop 9).take 1) else 0
  proto == 17 && (port == 319 || port == 320)

/-- A frame with the residence time (2^−16 ns) added to its correctionField (R322), and which counter it counts in. -/
def tcCorrect (l : List Byte) (res : Int) : List Byte × Option Field :=
  let (_, ty, o) := frameType l
  if ty = 0x88F7 then
    if beNat ((l.drop o).take 1) % 16 < 4 then
      let c := toInt 64 (beNat ((l.drop (o + 8)).take 8)) + res
      if satS 64 c = c then (l.take (o + 8) ++ beBytes 8 (ofInt 64 c) ++ l.drop (o + 16), some R.HP_TC_CNT_TC_DONE)
      else (l, some R.HP_TC_CNT_TC_UNSUP)
    else (l, none)
  else if ptpOverUdp l then (l, some R.HP_TC_CNT_TC_UNSUP)
  else (l, none)

/-- The port that belongs to HP1 (R312). -/
def State.hp1Port (s : State) : Nat := ((List.range 8).find? fun e => s.fbit R.HP_CTRL_PMAP e).getD 0

/-- A forwarded frame's bytes and counting, with TC_EN (R322); its buffer may have no room (R315). A port that is down sends none (DESIGN CHOICE,
assumption log entry 32). -/
def State.forward (s : State) (l : List Byte) (res : Int) (room : Bool) (to1 : Bool) : State :=
  if !room then s.count R.HP_FWD_CNT_FWD_OVF
  else if !s.portUp (if to1 then s.hp1Port else 0) then s
  else
    let (l, c) := if s.flag R.HP_CTRL_TC_EN then tcCorrect l res else (l, none)
    let s := match c with
      | some f => s.count f
      | none => s
    if to1 then (s.count (R.TX_FRAMES_TX_FRAMES s.hp1Port)).emit (.toHp1 l) else (s.count (R.TX_FRAMES_TX_FRAMES 0)).emit (.frame 0 l)

/-- HP1_FRAME_FORWARD (R315): a frame of the HP1 port goes to E0. A port that is down brings none. -/
def State.hp1Forward (s : State) (l : List Byte) (res : Int) (room : Bool) : State :=
  let e := s.hp1Port
  if !s.flag R.HP_CTRL_HP1_EN || !s.portUp e then s
  else
    let s := s.count (R.RX_FRAMES_RX_FRAMES e)
    if 9216 < l.length + 4 then s.rxDrop e else s.forward l res room false

/-! ### Timed launch (R335 to R337) -/

/-- The entries of a port. -/
def State.lqOf (s : State) (e : Nat) : List LqEntry := s.hp.lq.getD e []

/-- Entries queued in queue `q` of a port. -/
def State.lqLen (s : State) (e q : Nat) : Nat := ((s.lqOf e).filter fun x => x.queue == q).length

/-- Bytes held in a port's launch buffer (R335): LQ0 frames do not pass through it. -/
def State.lqBytes (s : State) (e : Nat) : Nat := (((s.lqOf e).filter fun x => x.queue ≠ 0).map fun x => x.bytes.length).sum

/-- Update a port's entries. -/
def State.modLq (s : State) (e : Nat) (f : List LqEntry → List LqEntry) : State :=
  { s with hp := { s.hp with lq := updAt s.hp.lq e f } }

/-- Time in 2^−16 ns that a frame holds the wire: preamble, FCS and gap included. -/
def State.wireTime (s : State) (len : Nat) : Nat := (len + 24) * 8 * 65536 / rateOf (s.get R.HP_CTRL_CFG)

/-- The frame with its actual instant inserted (R336): seconds and nanoseconds into originTimestamp, the fraction into
correctionField, which lies 26 bytes before it. -/
def oneStep (l : List Byte) (ofs t : Nat) : List Byte :=
  let l := l.take ofs ++ beBytes 6 (timeSec t) ++ beBytes 4 (timeNs t) ++ l.drop (ofs + 10)
  let c := ofs - 26
  (l.take c ++ beBytes 8 (timeFrac t) ++ l.drop (c + 8)).take l.length

/-- A frame is sent at time `t`; a firmware frame's timestamp is returned (R321). -/
def State.sendFrame (s : State) (e t : Nat) (x : LqEntry) : State :=
  let l := match x.oneStep with
    | some o => oneStep x.bytes o t
    | none => x.bytes
  let s := { s with hp := { s.hp with wire := updAt s.hp.wire e fun _ => t + s.wireTime l.length } }
  let s := (s.count (R.TX_FRAMES_TX_FRAMES e)).emit (.frame e l)
  doIf (x.queue ≠ 0) (fun s => s.emit (.txStamp e ((t : Int) + s.getS (R.TS_ADJ_TX e) * 256).toNat)) s

/-- A timed frame leaves, or is dropped on a port that is down (R337). -/
def State.launchOne (s : State) (e : Nat) (x : LqEntry) : State :=
  if !s.portUp e then s.count (R.LQ_CNT_DROP e)
  else
    let busy := s.hp.wire.getD e 0
    if x.at_ < busy then (doIf x.first (fun s => s.count (R.LQ_CNT_SHIFTED e)) s).sendFrame e busy x
    else s.sendFrame e x.at_ x

/-- The entry due first: earliest instant, then lower queue, then earlier posted. -/
def firstDue : List LqEntry → Option LqEntry
  | [] => none
  | x :: t =>
    match firstDue t with
    | some y => if y.at_ < x.at_ ∨ (y.at_ = x.at_ ∧ y.queue < x.queue) then some y else some x
    | none => some x

/-- LAUNCH_INSTANT (R335, R337): the next timed frame of a port. -/
def State.launch (s : State) (e : Nat) : State :=
  match firstDue (s.lqOf e) with
  | some x => (((s.advanceTo (s.cycleOf s.now x.at_)).modLq e fun l => l.erase x)).launchOne e x
  | none => s

/-- Every queued entry is dropped (R337, FALLOW). -/
def State.lqDrop (s : State) : State :=
  forAll (List.range 8) (fun e s => (s.countBy (R.LQ_CNT_DROP e) (s.lqOf e).length).modLq e fun _ => []) s

/-- The instant that LQ_DESC names (R335): the first after now with its seconds' low 16 bits and its nanoseconds, unless it lies more
than 32,767 s ahead: then it has passed. -/
def State.lqInstant (s : State) : Option Nat :=
  let t := s.time
  let sec := timeSec t
  let d := (s.get R.LQ_DESC3_SEC + 65536 - sec % 65536) % 65536
  let want := (sec + d) * secUnits + s.get R.LQ_DESC2_NS * 65536
  let want := if want < t then want + 65536 * secUnits else want
  if want ≤ t + 32767 * secUnits then some want else none

/-- The result of a post (LQ_STATUS.RESULT). -/
def State.lqResult (s : State) (st : Status) : State := s.put R.LQ_STATUS_RESULT (statusCode st)

/-- LQ_POST (R335, R337). -/
def State.lqPost (s : State) : State :=
  let q := s.get R.LQ_DESC1_QUEUE
  let e := s.get R.LQ_DESC1_PORT
  let len := s.get R.LQ_DESC1_LEN
  if q = 0 ∨ 1000000000 ≤ s.get R.LQ_DESC2_NS ∨ 9216 < len + 4 then s.lqResult .badParam
  else if 64 ≤ s.lqLen e q ∨ 65536 < s.lqBytes e + len then s.lqResult .queueFull
  else
    let one := if s.flag R.LQ_DESC1_ONE_STEP then some (s.get R.LQ_DESC1_OFS) else none
    let x : LqEntry := { queue := q, at_ := (s.lqInstant).getD s.time, first := true, oneStep := one,
                         bytes := s.bytes (s.get R.LQ_DESC0_ADDR) len }
    let inTime := match s.lqInstant with
      | some t => decide (s.now + 1024 ≤ s.cycleOf s.now t)
      | none => false
    let s := s.lqResult .ok
    if inTime then s.modLq e fun l => l ++ [x]
    else
      let s := s.count (R.LQ_CNT_LATE e)
      doIf (s.flag R.LQ_DESC1_LATE) (fun s => s.launchOne e { x with at_ := s.time }) s

/-- LQ_STATUS as a read returns it: FREE counts the addressed queue. -/
def State.lqStatus (s : State) : Word :=
  R.LQ_STATUS_FREE.into (s.reg R.LQ_STATUS) (64 - s.lqLen (s.get R.LQ_DESC1_PORT) (s.get R.LQ_DESC1_QUEUE))

/-- The counters of the host port block (HP_CNT_CLR). -/
def hpCounters : List Nat :=
  [R.HP_FWD_CNT, R.HP_TC_CNT] ++ (List.range 8).flatMap fun e =>
    [R.RX_FRAMES e, R.RX_DROP e, R.FEC_CORR e, R.FEC_UNCORR e, R.TX_FRAMES e, R.LQ_CNT e]

/-- A write of HP_CTRL (R310, R312): CFG, PMAP, HP1_EN and XPORT only while EN is 0; E0 belongs to HP0, and HP1 holds exactly one port. -/
def State.hpCtrl (s : State) (v : Word) : Wr :=
  let fs := [R.HP_CTRL_CFG, R.HP_CTRL_PMAP, R.HP_CTRL_HP1_EN, R.HP_CTRL_XPORT]
  let pmap := R.HP_CTRL_PMAP.of v
  let moved := fs.any fun f => f.of v ≠ s.get f
  let ports := bitList 8 pmap
  let bad := R.HP_CTRL_CFG.of v = 7 ∨ pmap.testBit 0 ∨ (R.HP_CTRL_HP1_EN.of v = 1 ∧ ports.length ≠ 1)
    ∨ ports.any fun e => portsOf (R.HP_CTRL_CFG.of v) ≤ e
  if (s.flag R.HP_CTRL_EN ∧ moved) ∨ bad then refuse R.HP_STATUS_WR_REFUSED s
  else
    let s := forAll (fs ++ [R.HP_CTRL_TC_EN, R.HP_CTRL_VLAN_EN, R.HP_CTRL_EN]) (fun f s => s.put f (f.of v)) s
    .ok (doIf (R.HP_CTRL_EN.of v == 0) State.portsDown s)

/-! ### Meanings -/

/-- HP_LINK_CHANGE (R311). -/
def execHpLinkChange (e : Nat) (pcs fec : Bool) (s : State) : Host.Outcome State Fault Refusal := .next (s.linkChange e pcs fec)

/-- HP1_FRAME_FORWARD (R315). -/
def execHp1FrameForward (frame : List Byte) (residence : Int) (room : Bool) (s : State) : Host.Outcome State Fault Refusal :=
  .next (s.hp1Forward frame residence room)

/-- LQ_POST (R335). -/
def execLqPost (s : State) : Host.Outcome State Fault Refusal := .next s.lqPost

/-- LAUNCH_INSTANT (R335). -/
def execLaunchInstant (e : Nat) (s : State) : Host.Outcome State Fault Refusal := .next (s.launch e)

/-- ETHREF_LOSS (R36). -/
def execEthrefLoss (s : State) : Host.Outcome State Fault Refusal := .next s.ethrefLoss

end Sys2Proof.Machine
end

