-- ==== Sys2Proof/Machine/SectionPlane.lean ====
section
/-! DEFINITION. The section plane on ingress: IQ data and section messages, windows, the store, plan instants and readout (chapter 11,
R340 to R359; R187, R210, R215, R216, R232, R235, R236). -/

namespace Sys2Proof.Machine

/-- Update the section plane's own state. -/
def State.modSp (s : State) (f : SpX → SpX) : State := { s with sp := f s.sp }

/-- Index of a slot among the sixteen. -/
def slotIx (d : Dir) (cs : Nat) : Nat := 8 * dirIx d + cs

/-- The plan of a frame that no pending swap reaches: the one in force, or before the frame of the last swap the one it ended. -/
def State.planBefore (s : State) (k : Nat) : Word × Word :=
  let now := (s.reg (R.PLAN_A s.planAct), s.reg (R.PLAN_B s.planAct))
  match s.casc.old with
  | some (f, a, b) => if k < f then (a, b) else now
  | none => now

/-- PLAN_A and PLAN_B that govern the symbols of frame `k` (R277). -/
def State.planWords (s : State) (k : Nat) : Word × Word :=
  match s.casc.swap with
  | some w => if w.frame ≤ k then (s.reg (R.PLAN_A (1 - s.planAct)), s.reg (R.PLAN_B (1 - s.planAct))) else s.planBefore k
  | none => s.planBefore k

/-- D for the symbols of frame `k` (R49, R278). -/
def State.treeD (s : State) (k : Nat) : Nat := (R.PLAN_A_TREE_D 0).of (s.planWords k).1

/-- Depth of this device for the symbols of frame `k`. -/
def State.depth (s : State) (k : Nat) : Nat := (R.PLAN_A_DEPTH 0).of (s.planWords k).1

/-- BC_LEAD for the symbols of frame `k`. -/
def State.bcLead (s : State) (k : Nat) : Nat := (R.PLAN_B_BC_LEAD 0).of (s.planWords k).2

/-- PR_BASE in cycles for the occasions of frame `k` (R286). -/
def State.prBase (s : State) (k : Nat) : Nat := 256 * (R.PLAN_B_PR_BASE 0).of (s.planWords k).2

/-- The role of a port for the symbols of frame `k` (R275, R277). -/
def State.roleFor (s : State) (p k : Nat) : Nat :=
  if s.casc.conflict.contains p then 0 else bits ((R.PLAN_A_PORT_ROLE 0).of (s.planWords k).1) (2 * p + 1) (2 * p)

/-- The ports of a role for the symbols of frame `k`. -/
def State.portsFor (s : State) (r k : Nat) : List Nat := (List.range 4).filter fun p => s.roleFor p k == r

/-- The UP port for the symbols of frame `k`, if it has one. -/
def State.upFor (s : State) (k : Nat) : Option Nat := (s.portsFor 1 k).head?

/-- The DOWN ports that carry TIME frames: those that are TIMED (R251, R299). -/
def State.downPorts (s : State) : List Nat := (List.range 4).filter fun p => s.portRole p == 2 && s.hgTimedNow p

/-- The DOWN ports that carry commands and management traffic (R251). -/
def State.cmdPorts (s : State) : List Nat := (List.range 4).filter fun p => s.portRole p == 2 && s.hgCarries p

/-- Whether a port's streams do not fit (SHORT, R294). -/
def State.short (s : State) (p : Nat) : Bool := s.fbit R.CASC_STATUS_SHORT p

/-- Whether a port carries the stream of a symbol that begins on cycle `b` (R252, R294): it is TIMED, and if SHORT, it became so after `b`. -/
def State.streams (s : State) (p b : Nat) : Bool := s.hgTimedNow p && !(s.short p && s.casc.shortAt.getD p 0 ≤ b)

/-- What the device holds of a session, for a worker's copy of its table (R452). -/
def State.sessCopy (s : State) (x : Nat) : SessCopy where
  session := x
  state := s.sessState x
  role := s.get (R.SESS_STAT_ROLE x)
  slots := (allSlots.filter fun (d, cs) => s.slotOwner (dirIx d) cs == x).map fun (d, cs) => (dirIx d, cs)
  blocks := (List.range 16).filter fun b => s.beamOwner b == x

/-- The manager sends a session's state, role and ownership to the workers (R452); before it, the whole table to a port that has not had
it since it last left UNTIMED and TIMED. A worker passes on what it is sent. -/
def State.tellSession (s : State) (x : Nat) : State :=
  if s.worker then s
  else forAll s.cmdPorts (fun p s =>
    doIf (s.fe.told.testBit p) (fun s => s.emit (.sessions p [s.sessCopy x])) s) s

/-- The whole session table goes to a DOWN port that has not had it, ahead of the first frame of a session (R452). -/
def State.tellPort (s : State) (p : Nat) : State :=
  if s.worker || s.fe.told.testBit p then s
  else { s.emit (.sessions p ((List.range 16).map s.sessCopy)) with fe := { s.fe with told := setBit s.fe.told p true } }

/-- A session enters a state (R444): SESS_STAT and SP_STATUS show it, and the workers learn of it. -/
def State.setSess (s : State) (x st : Nat) : State :=
  let s := s.put (R.SESS_STAT_STATE x) st
  let s := (s.putBit R.SP_STATUS_OPEN x (st == sessOpen || st == sessFrozen)).putBit R.SP_STATUS_FROZEN x (st == sessFrozen)
  s.tellSession x

/-- FRAG of part `i` of `n` (R279): 0 a whole packet, 1 the first part, 2 a middle part, 3 the last. -/
def fragOf (i n : Nat) : Nat := if n ≤ 1 then 0 else if i = 0 then 1 else if i + 1 = n then 3 else 2

/-- A packet leaves a port as side frames of at most 192 bytes (R302); a frame of a session follows the session table. -/
def State.sendSide (s : State) (p kind dst src : Nat) (l : List Byte) : State :=
  let n := max 1 (ceilDiv l.length 192)
  let s := doIf (kind == 0 || kind == 1 || kind == 3) (fun s => s.tellPort p) s
  forAll (List.range n) (fun i s => s.emit (.side p kind dst src (fragOf i n) ((l.drop (192 * i)).take 192))) s

/-- The frame nearest to now with a frame number (modulo 1,024). -/
def State.frameNear (s : State) (sfn : Nat) : Nat :=
  let f := (s.frameNo s.now).toNat
  let r := (sfn + 1024 - f % 1024) % 1024
  if r < 512 then f + r else f + r - 1024

/-- Whether symbol of frame `k` belongs to a running slot: EN_NOW within the frame in air, EN for later frames (R180). -/
def State.symRuns (s : State) (d : Dir) (cs k : Nat) : Bool :=
  if s.frameNo (s.now + s.advance d) < k then s.slotEn d cs else s.active d cs

/-- Raise an event at most once per frame, by the list that remembers the frame. -/
def State.oncePerFrame (s : State) (l : List (Option Nat)) (i : Nat) (set : List (Option Nat) → State → State) (f : State → State) : State :=
  let k := (s.frameNo s.now).toNat
  if l.getD i none = some k then s else f (set (updAt l i fun _ => some k) s)

/-! ### Ring rows (R204, R363) -/

/-- Symbols of a downlink slot since the array epoch (R204). -/
def State.ringIndex (s : State) (cs k n : Nat) : Nat :=
  let mu := s.slotMu .dl cs
  let e := s.symIn .dl mu s.tm.epoch
  symKey mu k n - symKey mu e.1 e.2

/-- The address of a layer's row of a symbol in its ring. -/
def State.ringRow (s : State) (cs k n row : Nat) : Nat :=
  (s.ring cs).1 + s.ringIndex cs k n % max 1 (s.get (R.CS_BUF_DEPTH cs)) * s.ringEntry cs + row * (rowBytes (s.slotRB .dl cs) + 512)

/-- A 32-bit little-endian word of memory. -/
def State.word32 (s : State) (a : Nat) : Nat := leNat (s.bytes a 4)

/-- The TAG of a row header (R363). -/
def rowTag (k n cs d row : Nat) : Nat := k % 1024 * 2 ^ 22 + n % 4096 * 2 ^ 10 + cs * 2 ^ 7 + d * 2 ^ 6 + row % 64

/-- The MAP of a row header; bits held in a poisoned word read as clear (R363, R482). -/
def State.rowMap (s : State) (a : Nat) : Nat := leNat (s.readClean (a + 8) 40).1

/-- The flags of group `g` in a row header; held in a poisoned word they read as POISON set (R363, R482). -/
def State.rowFlags (s : State) (a g : Nat) : Nat :=
  let p := a + 0x30 + g / 2
  let v := (s.byte p).toNat / 16 ^ (g % 2) % 16
  if s.poisoned (p / 16) then v ||| 2 else v

/-- A row header is written (R363): tag, kind, port, MAP with its count; a new tag clears the rest of the header. -/
def State.putHeader (s : State) (a tag kind port map : Nat) : State :=
  let s := doIf (s.word32 a != tag) (fun s => s.storeMem (a + 0x30) (leBytes 464 0)) s
  s.storeMem a (leBytes 4 tag ++ leBytes 4 (kind + port * 256 + (bitList 320 map).length * 65536) ++ leBytes 40 map)

/-- Flag nibbles of groups join a row header's FLAGS (R363). -/
def State.orHeader (s : State) (a : Nat) (l : List (Nat × Nat)) : State :=
  let old := leNat (s.bytes (a + 0x30) 144)
  s.storeMem (a + 0x30) (leBytes 144 (l.foldl (fun m x => m ||| (x.2 % 16) <<< (4 * x.1)) old))

/-- The landed bits of a row clear (R359). -/
def State.clearMap (s : State) (a : Nat) : State := s.storeMem (a + 4) (leBytes 2 ((s.word32 (a + 4)) % 65536) ++ leBytes 42 0)

/-- Samples land in a layer's ring row from subcarrier `k0` on, marking PRBs `ps` landed (R345, R359, R363): the PRBs that had already
landed are counted by the caller. -/
def State.landRow (s : State) (cs k n row k0 : Nat) (ps : List Nat) (l : List (Int × Int)) : State :=
  let a := s.ringRow cs k n row
  let tag := rowTag k n cs 0 (s.lbase .dl cs + row)
  let old := if s.word32 a = tag then s.rowMap a else 0
  let s := s.storeMem (a + 512 + 4 * k0) (l.flatMap fun v => leBytes 4 (ofInt 16 v.1 + ofInt 16 v.2 * 65536))
  s.putHeader a tag 0 0 (ps.foldl (fun m p => setBit m p true) old)

/-- Whether PRB `p` of a layer's row of a symbol has landed. -/
def State.landed (s : State) (cs k n row p : Nat) : Bool :=
  let a := s.ringRow cs k n row
  s.word32 a == rowTag k n cs 0 (s.lbase .dl cs + row) && (s.rowMap a).testBit p

/-- A layer sample as the array reads it (R210, R235, R359): zero where nothing has landed or the word is poisoned. -/
def State.ringSample (s : State) (cs k n row i : Nat) : Int × Int :=
  let a := s.ringRow cs k n row + 512 + 4 * i
  if s.landed cs k n row (i / 12) && !s.poisoned (a / 16) then
    let w := s.word32 a
    (toInt 16 w, toInt 16 (w / 65536))
  else (0, 0)

/-! ### Windows and ownership (R351, R356, R357) -/

/-- T_LAND (R356). -/
def tLand : Nat := 2048
/-- T_HOP (R356). -/
def tHop : Nat := 4096

/-- The IQ window of a symbol (R356): opens and closes. -/
def State.iqWindow (s : State) (cs k n : Nat) : Int × Int :=
  let mu := s.slotMu .dl cs
  let rd := fun (y : Nat × Nat) => ((s.symBoundary .dl mu y.1 y.2 : Nat) : Int) - s.dlTotal cs
  let back := backSym mu (s.get (R.CS_BUF_DEPTH cs)) (k, n)
  (rd back + 12 * s.slotRB .dl cs, rd (k, n) - s.bcLead k - tLand)

/-- The section window of a symbol (R356). -/
def State.sectWindow (s : State) (d : Dir) (cs k n : Nat) : Int × Int :=
  let b := s.symBoundary d (s.slotMu d cs) k n
  let mac : Int := match d with
    | .dl => (b : Int) - s.dlTotal cs
    | .ul => s.fftAt cs n b
  let close := mac - 1024 - s.treeD k * tHop - tLand
  (close - s.get R.SP_CFG_C_OPEN * 1024, close)

/-- The registered source of a session: MAC, or IPv6 with XPORT = 1 (R351, R353). -/
def State.sessSource (s : State) (x : Nat) : Nat :=
  let w := fun i => s.get (R.SESS_SRC_WORD x i)
  if s.get R.HP_CTRL_XPORT = 0 then w 1 % 65536 * 2 ^ 32 + w 0
  else ((w 2 * 2 ^ 32 + w 3) * 2 ^ 32 + w 4) * 2 ^ 32 + w 5

/-- A message is dropped for want of an owner (R351). -/
def State.dropNotOwner (s : State) (d : Dir) (cs : Nat) : State :=
  let s := s.count R.SP_CNT1_NOT_OWNER
  s.oncePerFrame s.sp.notOwner (slotIx d cs) (fun l s => s.modSp fun x => { x with notOwner := l })
    fun s => s.event (.fhNotOwner (dirIx d) cs (s.get R.SP_CNT1_NOT_OWNER))

/-- Whether a message of a slot is accepted for its session and its source (R351), and the state a drop leaves. -/
def State.sessGate (s : State) (d : Dir) (cs src : Nat) : Bool × State :=
  let own := s.slotOwner (dirIx d) cs
  if 16 ≤ own ∨ !s.fbit R.SP_STATUS_OPEN own then (false, s.dropNotOwner d cs)
  else if s.fbit R.SP_STATUS_FROZEN own then (false, s.count R.SP_CNT1_FROZEN_DROP)
  else if s.flag R.SP_CFG_SRC_CHECK ∧ s.sessSource own ≠ src then (false, s.dropNotOwner d cs)
  else (true, s)

/-- Whether a message arrives inside its window (R357), and the state a drop leaves. -/
def State.windowGate (s : State) (d : Dir) (cs : Nat) (w : Int × Int) : Bool × State :=
  let i := slotIx d cs
  if (s.now : Int) < w.1 then
    let s := s.count (R.SP_WIN0_EARLY (dirIx d) cs)
    (false, s.oncePerFrame s.sp.early i (fun l s => s.modSp fun x => { x with early := l })
      fun s => s.event (.fhEarly (dirIx d) cs (s.get (R.SP_WIN0_EARLY (dirIx d) cs))))
  else if w.2 < s.now then
    let s := s.count (R.SP_WIN0_LATE (dirIx d) cs)
    (false, s.oncePerFrame s.sp.late i (fun l s => s.modSp fun x => { x with late := l })
      fun s => s.event (.fhLate (dirIx d) cs (s.get (R.SP_WIN0_LATE (dirIx d) cs))))
  else (true, s)

/-- The sequence number of an ingress stream is checked (R341). -/
def State.seqCheck (s : State) (ty id n : Nat) : State :=
  let key := 65536 * ty + id
  let s := match look s.sp.seqIn key with
    | some p => doIf (n != (p + 1) % 256) (fun s => s.count R.SP_CNT3_SEQ_GAP) s
    | none => s
  s.modSp fun x => { x with seqIn := insertKey x.seqIn key n }

/-- A message is dropped and counted in BAD_HDR. -/
def State.badHdr (s : State) : State := s.count R.SP_CNT0_BAD_HDR

/-! ### IQ data (R342 to R345) -/

/-- The 24 components of a PRB block (R344). -/
def blockValues (comp : Nat) (b : List Byte) : List Int :=
  let n := beNat b
  let size := 8 * b.length
  if comp = 0 then (List.range 24).map fun i => toInt 16 (n >>> (size - 16 * (i + 1)))
  else
    let w := comp + 8
    let e := n >>> (size - 4) % 16
    (List.range 24).map fun i => toInt w (n >>> (size - 4 - w * (i + 1))) * 2 ^ e

/-- Pairs of components as samples. -/
def pairUp : List Int → List (Int × Int)
  | a :: b :: t => (a, b) :: pairUp t
  | _ => []

/-- Whether a symbol is in a direction on some quadrant of a slot's QMASK. -/
def State.anyDir (s : State) (d : Dir) (cs k n : Nat) : Bool :=
  let c := s.symBoundary d (s.slotMu d cs) k n
  (quadsOf (s.slotQ d cs)).any fun q => s.symDir d cs n q c == runDir d

/-- IQ_DATA_MESSAGE (R340 to R345, R351 to R359): the content after the common header of a type 0 message that arrives now. -/
def State.iqMessage (s : State) (src : Nat) (m : List Byte) : State :=
  let id := at16 m 0
  let sub := beNat ((m.drop 3).take 1)
  let w0 := beNat ((m.drop 4).take 4)
  let w1 := beNat ((m.drop 8).take 4)
  let cs := bits id 12 10
  let layer := bits id 9 5
  if id / 2 ^ 14 ≠ 0 ∨ id.testBit 13 ∨ sub ≠ 128 then s.badHdr
  else
    let s := s.seqCheck 0 id (beNat ((m.drop 2).take 1))
    let n := bits w0 21 10
    let comp := bits w0 9 6
    let p0 := bits w1 31 23
    let num := bits w1 22 14
    let row := layer - s.lbase .dl cs
    if 8 < comp ∨ !(s.slotEn .dl cs || s.active .dl cs) ∨ layer < s.lbase .dl cs ∨ s.slotNL .dl cs ≤ row ∨ s.slotRB .dl cs < p0 + num
        ∨ symsPerFrame (s.slotMu .dl cs) ≤ n then s.badHdr
    else if m.length ≠ 12 + num * blockBytes comp then s.count R.SP_CNT0_BAD_LEN
    else
      match s.sessGate .dl cs src with
      | (false, s) => s
      | (true, s) =>
        let k := s.frameNear (w0 / 2 ^ 22)
        match s.windowGate .dl cs (s.iqWindow cs k n) with
        | (false, s) => s
        | (true, s) =>
          if !s.anyDir .dl cs k n then s.count R.DIR_MISMATCH_COUNT
          else
            let vals := (List.range num).flatMap fun i => blockValues comp ((m.drop (12 + i * blockBytes comp)).take (blockBytes comp))
            let dup := ((List.range num).filter fun i => s.landed cs k n row (p0 + i)).length
            let s := s.countBy R.SP_CNT4_DECOMP_SAT (vals.filter fun v => satS 16 v ≠ v).length
            let s := s.countBy (R.SP_WIN1_HI 0 cs) dup
            s.landRow cs k n row (12 * p0) ((List.range num).map (p0 + ·)) (pairUp (vals.map (satS 16)))

/-! ### Section messages (R347 to R350) -/

/-- SP_STORE.FREE follows the store (R350). -/
def State.showStore (s : State) : State := s.put R.SP_STORE_FREE (8192 - s.sp.store.length)

/-- A 64-element vector of the WEIGHTS extension (R349) as stored (R218): each 24-bit word reversed. -/
def weightVec : List Byte → List Byte
  | a :: b :: c :: t => c :: b :: a :: weightVec t
  | _ => []

/-- A WEIGHTS extension (R349, R352): acted on by the device it names; `own` the session of the message, if it is checked here. -/
def State.weightsExt (s : State) (d : Dir) (cs k n : Nat) (own : Option Nat) (body : List Byte) : State :=
  let w := beNat (body.take 4)
  let da := w / 2 ^ 24
  let kind := bits w 23 22
  let idx := bits w 13 0
  let set := bits w 21 18
  let vec := weightVec (body.drop 4)
  let mine := match own with
    | none => true
    | some x =>
      if kind = 0 then s.slotOwner (s.get (R.WS_CFG_DIR set)) (s.get (R.WS_CFG_CS set)) == x else s.beamOwner (idx / 256) == x
  if da ≠ 0xFF ∧ da ≠ s.ownDa then s
  else if !mine then s.count R.STEER_CNT1_DROP
  else
    match kind with
    | 0 => (s.setWrite set idx vec).1
    | 1 =>
      if 4095 < idx ∨ 32 ≤ s.bf.lq.length then s.count R.STEER_CNT1_DROP
      else
        s.loadBeam { flip := { id := idx, d := dirIx d, cs := cs, atEn := true, frame := k % 1024, sym := n, src := .none }
                     vec := vec, steer := none }
    | _ => s

/-- A STEER extension (R349): its DIR and CS must be the message's. -/
def State.steerExt (s : State) (d : Dir) (cs : Nat) (own : Option Nat) (body : List Byte) : State :=
  let r : SteerReq := { w0 := beNat (body.take 4), w1 := beNat ((body.drop 4).take 4), w2 := beNat ((body.drop 8).take 4), job := none }
  if bits r.w0 19 19 ≠ dirIx d ∨ bits r.w0 18 16 ≠ cs then s.count R.STEER_CNT1_DROP else s.steerSubmit r own

/-- The extensions of a record (R349), and what follows them. -/
def State.extensions (d : Dir) (cs k n : Nat) (own : Option Nat) : Nat → List Byte → State → State × List Byte
  | 0, l, s => (s, l)
  | fuel + 1, l, s =>
    if l.length < 4 then (s, [])
    else
      let h := beNat (l.take 4)
      let len := bits h 23 16
      let body := (l.drop 4).take (4 * len)
      let s := match h / 2 ^ 24, len with
        | 1, 3 => s.steerExt d cs own body
        | 2, 49 => s.weightsExt d cs k n own body
        | _, _ => s.count R.SP_CNT3_EXT_UNK
      let rest := l.drop (4 + 4 * len)
      if h.testBit 15 then State.extensions d cs k n own fuel rest s else (s, rest)

/-- One record and its extensions (R348, R350). -/
def State.records (d : Dir) (cs k n num : Nat) (own : Option Nat) : Nat → List Byte → State → State
  | 0, _, s => s
  | left + 1, l, s =>
    if l.length < 8 then s.countBy R.SP_CNT2_BAD_REC (left + 1)
    else
      let w0 := beNat (l.take 4)
      let w1 := beNat ((l.drop 4).take 4)
      let layer := w0 / 2 ^ 27
      let p0 := bits w0 26 18
      let np := bits w0 17 9
      let bad := layer < s.lbase d cs ∨ s.lbase d cs + s.slotNL d cs ≤ layer ∨ np = 0 ∨ s.slotRB d cs < p0 + np
        ∨ bits w0 8 1 ≠ 0 ∨ w1 % 65536 ≠ 0
      let r : SectRec := { d := dirIx d, cs := cs, frame := k, sym := n, num := num, layer := layer, p0 := p0, p1 := p0 + np, ref := w1 / 65536 }
      let s := if bad then s.count R.SP_CNT2_BAD_REC
        else if 8192 ≤ s.sp.store.length then s.count R.SP_CNT2_STORE_FULL
        else (s.modSp fun x => { x with store := x.store ++ [r] }).showStore
      let (s, rest) := if w0.testBit 0 then State.extensions d cs k n own l.length (l.drop 8) s else (s, l.drop 8)
      State.records d cs k n num own left rest s

/-- The slot and symbols a type 2 message names (R341, R347), if its header is good. -/
def State.sectHeader (s : State) (m : List Byte) : Option (Dir × Nat × Nat × Nat × Nat × Nat) :=
  let id := at16 m 0
  let h := beNat ((m.drop 4).take 4)
  let d := dirOf (bits id 13 13)
  let cs := bits id 12 10
  let n := bits h 21 10
  let num := bits h 9 6
  let nrec := bits h 5 0
  if id / 2 ^ 14 ≠ 0 ∨ beNat ((m.drop 3).take 1) ≠ 128 ∨ m.length < 8 ∨ nrec = 0 ∨ num = 0
      ∨ !(s.slotEn d cs || s.active d cs) ∨ symsPerFrame (s.slotMu d cs) < n + num then none
  else some (d, cs, h / 2 ^ 22, n, num, nrec)

/-- SECTION_MESSAGE (R347 to R357) on the manager: the content after the common header of a type 2 message that arrives now; an
accepted message is forwarded down the tree (R350). -/
def State.sectMessage (s : State) (src : Nat) (m : List Byte) : State :=
  let gap := fun (s : State) => s.seqCheck 2 (at16 m 0) (beNat ((m.drop 2).take 1))
  match s.sectHeader m with
  | none => (doIf (at16 m 0 / 2 ^ 14 == 0 && beNat ((m.drop 3).take 1) == 128) gap s).badHdr
  | some (d, cs, sfn, n, num, nrec) =>
    match (gap s).sessGate d cs src with
    | (false, s) => s
    | (true, s) =>
      let k := s.frameNear sfn
      match s.windowGate d cs (s.sectWindow d cs k n) with
      | (false, s) => s
      | (true, s) =>
        let s := State.records d cs k n num (some (s.slotOwner (dirIx d) cs)) nrec (m.drop 8) s
        forAll s.cmdPorts (fun p s => s.sendSide p 1 0xFF s.ownDa m) s

/-- A forwarded section message on a worker (R307, R350): stored if it arrives before the plan instant it concerns; its extensions are judged
by the worker's copy of the ownership (R352, R452). -/
def State.sectForwarded (s : State) (m : List Byte) : State :=
  match s.sectHeader m with
  | none => s
  | some (d, cs, sfn, n, num, nrec) =>
    let k := s.frameNear sfn
    let b := s.symBoundary d (s.slotMu d cs) k n
    if s.planAt d cs n b ≤ s.now then
      let s := s.countBy R.CASC_CNT0_SECT_LATE nrec
      s.oncePerFrame [s.casc.lateFrame] 0 (fun l s => { s with casc := { s.casc with lateFrame := l.getD 0 none } })
        fun s => s.event (.sectLate s.sfn (s.get R.CASC_CNT0_SECT_LATE))
    else State.records d cs k n num (some (s.slotOwner (dirIx d) cs)) nrec (m.drop 8) s

/-! ### Plans (R215, R216, R232) -/

/-- A bad reference is counted, and BEAM_REF_BAD raised once per slot per frame (R216). -/
def State.badRef (s : State) (d : Dir) (cs : Nat) : State :=
  let s := s.count R.BAD_REF_COUNT
  s.oncePerFrame s.bf.badFrame (slotIx d cs) (fun l s => s.modBf fun x => { x with badFrame := l })
    fun s => s.event (.beamRefBad (dirIx d) cs s.sfn)

/-- One reference of a plan is resolved. -/
def State.planItem (d : Dir) (cs : Nat) (layer p0 p1 ref : Nat) (acc : State × List PlanItem) : State × List PlanItem :=
  match acc.1.resolveRef d cs layer ref with
  | some v => (acc.1, acc.2 ++ [acc.1.planRef layer p0 p1 v])
  | none => (acc.1.badRef d cs, acc.2 ++ [acc.1.planRef layer p0 p1 .zero])

/-- The records that cover a symbol of a slot, in the order of acceptance. -/
def State.recordsOf (s : State) (d : Dir) (cs k n : Nat) : List SectRec :=
  s.sp.store.filter fun r => r.d == dirIx d && r.cs == cs && r.frame == k && r.sym ≤ n && n < r.sym + r.num

/-- The plan of a symbol (R215, R232): the default where no section covers, then the sections as accepted. -/
def State.makePlan (s : State) (d : Dir) (cs k n : Nat) : State :=
  let recs := s.recordsOf d cs k n
  let rb := s.slotRB d cs
  let dflt := s.wget (R.BF_LMAP_DEFAULT (dirIx d) cs)
  let acc := (List.range (s.slotNL d cs)).foldl (fun acc i =>
    let layer := s.lbase d cs + i
    let covered := fun p => recs.any fun r => r.layer == layer && r.p0 ≤ p && p < r.p1
    if (List.range rb).all covered then acc else State.planItem d cs layer 0 rb dflt acc) (s, [])
  let acc := recs.foldl (fun acc r => State.planItem d cs r.layer r.p0 r.p1 r.ref acc) acc
  let b := s.symBoundary d (s.slotMu d cs) k n
  let addrs := (List.range (s.slotNL d cs)).flatMap fun i => (List.range rb).filterMap fun prb =>
    Plan.addrAt { d := dirIx d, cs := cs, frame := k, sym := n, passEnd := 0, items := acc.2, vecs := [] } (s.lbase d cs + i) prb
  let p : Plan := { d := dirIx d, cs := cs, frame := k, sym := n, passEnd := s.passEnd d cs n b, items := acc.2, vecs := acc.1.planBytes addrs }
  acc.1.modBf fun x => { x with plans := (x.plans.filter fun q => s.now ≤ q.passEnd + 2048) ++ [p] }

/-- Records whose last symbol is planned leave the store (R350). -/
def State.retireRecords (s : State) (d : Dir) (cs k n : Nat) : State :=
  (s.modSp fun x => { x with store := x.store.filter fun r =>
    !(r.d == dirIx d && r.cs == cs && (r.frame < k || (r.frame == k && r.sym + r.num ≤ n + 1))) }).showStore

/-- The next symbol of a slot to plan. -/
def State.nextPlan (s : State) (d : Dir) (cs : Nat) : Nat × Nat :=
  let mu := s.slotMu d cs
  let k := s.firstSym d mu (fun n b => s.planAt d cs n b) s.now 64 (backSym mu 4 (s.symIn d mu s.now))
  match s.bf.planned.getD (slotIx d cs) none with
  | some p => if symKey mu k.1 k.2 ≤ symKey mu p.1 p.2 then nextSym mu p else k
  | none => k

/-- PLAN_INSTANT (R232): the next plan instant of a slot; flips due there come first, those of other slots with the same instant too (R221, R234). -/
def State.planInstant (s : State) (d : Dir) (cs : Nat) : State :=
  if !(s.slotEn d cs || s.active d cs) then s
  else
    let (k, n) := s.nextPlan d cs
    let s := s.advanceTo (s.planAt d cs n (s.symBoundary d (s.slotMu d cs) k n))
    let s := s.modBf fun x => { x with planned := updAt x.planned (slotIx d cs) fun _ => some (k, n) }
    let s := forAll (allSlots.filter fun x => x ≠ (d, cs) && (s.slotEn x.1 x.2 || s.active x.1 x.2)) (fun (e, c) s =>
      let (f, m) := s.nextPlan e c
      doIf (s.planAt e c m (s.symBoundary e (s.slotMu e c) f m) == s.now) (fun s => s.planFlips e c f m) s) s
    if !s.symRuns d cs k then s
    else (((s.planFlips d cs k n).makePlan d cs k n).retireRecords d cs k n).steerKick

/-! ### Readout (R187, R210, R235, R236) -/

/-- BF_POISON and its report, at most once per slot per frame (R235, R236, R586). -/
def State.bfPoison (s : State) (d : Dir) (cs n layer prb word : Nat) : State :=
  s.oncePerFrame s.bf.poisonFrame (slotIx d cs) (fun l s => s.modBf fun x => { x with poisonFrame := l })
    fun s => (s.event (.bfPoison cs n layer prb)).report
      { mkReport 0x0B .clsD 0x0010 (n * 65536 + layer * 256 + dirIx d * 16 + cs) with addr := 16 * word }

/-- The words of a stretch of memory that are poisoned. -/
def State.badWords (s : State) (a n : Nat) : List Nat :=
  ((List.range ((a + n + 15) / 16 - a / 16)).map (a / 16 + ·)).filter s.poisoned

/-- What the ECC finds in the words the array reads (R474). -/
def State.eccReads (s : State) (l : List (Nat × EccFinding)) : State := forAll l (fun (w, f) s => (s.readCheck w f 0 0xFF).1) s

/-- The vectors a plan takes for a layer, with a PRB that uses each. -/
def Plan.vecsOf (p : Plan) (layer rb : Nat) : List (Nat × Nat) :=
  (List.range rb).foldl (fun l prb =>
    match p.addrAt layer prb with
    | some a => if l.any (fun x => x.1 == a) then l else l ++ [(a, prb)]
    | none => l) []

/-- Poisoned weight words of a plan are counted (R236); the first of each layer is given to `f`. -/
def State.weightPoison (s : State) (p : Plan) (d : Dir) (cs : Nat) (f : Nat → Nat → Nat → State → State) : State :=
  forAll (List.range (s.slotNL d cs)) (fun i s =>
    let layer := s.lbase d cs + i
    let bad := (p.vecsOf layer (s.slotRB d cs)).flatMap fun (a, prb) => (s.badWords a 192).map fun w => (w, prb)
    let s := s.countBy R.WPOISON_COUNT bad.length
    match bad with
    | (w, prb) :: _ => f layer prb w s
    | [] => s) s

/-- READOUT_START (R187, R210, R235, R359): the oldest planned symbol of a downlink slot not yet read; in HUSH and FALLOW what landed is
discarded unread (R364). -/
def State.readout (s : State) (cs : Nat) (ecc : List (Nat × EccFinding)) : State :=
  let mu := s.slotMu .dl cs
  let fresh := fun (p : Plan) => match s.sp.lastRead.getD cs none with
    | some r => decide (symKey mu r.1 r.2 < symKey mu p.frame p.sym)
    | none => true
  match s.bf.plans.find? fun p => p.d == 0 && p.cs == cs && fresh p with
  | none => s
  | some p =>
    let k := p.frame
    let n := p.sym
    let b := s.symBoundary .dl mu k n
    let s := (s.advanceTo (s.readoutAt cs b)).modSp fun x => { x with lastRead := updAt x.lastRead cs fun _ => some (k, n) }
    let rows := List.range (s.slotNL .dl cs)
    if !s.radioOn then forAll rows (fun i s => s.clearMap (s.ringRow cs k n i)) s
    else
      let s := s.eccReads ecc
      let rb := s.slotRB .dl cs
      let s := forAll rows (fun i s =>
        let a := s.ringRow cs k n i + 512
        let bad := (s.badWords a (48 * rb)).filter fun w => s.landed cs k n i ((16 * w - a) / 48)
        let s := s.countBy R.POISON_RE_COUNT bad.length
        match bad with
        | w :: _ => s.bfPoison .dl cs n (s.lbase .dl cs + i) ((16 * w - a) / 48) w
        | [] => s) s
      let s := s.weightPoison p .dl cs fun layer prb w s => s.bfPoison .dl cs n layer prb w
      let chs := ((quadsOf (s.slotQ .dl cs)).filter fun q => s.symDir .dl cs n q b == .dl).flatMap chainsOf
      let out := chs.map fun ch =>
        let l := (List.range (12 * rb)).map fun i => s.dlMac p cs ch i fun layer => s.ringSample cs k n (layer - s.lbase .dl cs) i
        (ch, l)
      let s := s.countBy R.DL_SAT_COUNT (out.map fun x => (x.2.filter Prod.snd).length).sum
      let new := out.map fun (ch, l) => ({ cs := cs, frame := k, sym := n, ch := ch, y := l.map Prod.fst } : DlRow)
      let s := s.modBf fun x => { x with dlOut := (x.dlOut.filter fun r => r.cs ≠ cs) ++ new }
      forAll rows (fun i s => s.clearMap (s.ringRow cs k n i)) s

/-- The landed bits of a downlink slot that stopped clear (R364). -/
def State.clearRing (s : State) (cs : Nat) : State :=
  forAll (List.range (s.get (R.CS_BUF_DEPTH cs))) (fun e s =>
    forAll (List.range (s.slotNL .dl cs)) (fun i s =>
      s.clearMap ((s.ring cs).1 + e * s.ringEntry cs + i * (rowBytes (s.slotRB .dl cs) + 512))) s) s

/-! ### Meanings -/

/-- IQ_DATA_MESSAGE (R343). -/
def execIqDataMessage (src : Nat) (msg : List Byte) (s : State) : Host.Outcome State Fault Refusal := .next (s.iqMessage src msg)

/-- SECTION_MESSAGE (R347). -/
def execSectionMessage (src : Nat) (msg : List Byte) (s : State) : Host.Outcome State Fault Refusal := .next (s.sectMessage src msg)

/-- PLAN_INSTANT (R232). -/
def execPlanInstant (d : Dir) (cs : Nat) (s : State) : Host.Outcome State Fault Refusal := .next (s.planInstant d cs)

/-- READOUT_START (R187). -/
def execReadoutStart (cs : Nat) (ecc : List (Nat × EccFinding)) (s : State) : Host.Outcome State Fault Refusal :=
  .next (s.readout cs ecc)

end Sys2Proof.Machine
end

