-- ==== Sys2Proof/Machine/UplinkPath.lean ====
section
/-! DEFINITION. The uplink samples on their way from the converters to the beamformer's bins: clip detector, tracker, corrections, decimation,
carrier stage, digital gain, transform, phase compensation; and PRACH extraction (R54, R65, R69, R70, R72, R82, R122, R131, R182, R189, R190,
R192, R193). Samples are placed by the cycle on which they pass the RX port. -/

namespace Sys2Proof.Machine

/-! ### The chain stages (R54 steps 7 to 10) and the decimation by 4 -/

/-- Whether samples of a quadrant pass on cycle `c`, and whether its crossing is held (R39, R112). -/
def State.rxGateAt (s : State) (q c : Nat) : RxGate :=
  (s.sig.rxGates.filter fun g => g.q == q && g.from0 ≤ c).getLastD { q := q, from0 := 0, pass := false, slip := false }

/-- Whether the slot table makes the symbol in air at cycle `c` on the uplink timeline an uplink symbol of a quadrant (R70). -/
def State.tableUl (s : State) (q c : Nat) : Bool :=
  let b := s.bankAt .ul c
  let mu := s.get (R.SLOT_MU_TBL_MU b)
  s.symDirIn b mu (s.symNow .ul mu c).2.1 q == .ul

/-- One converter sample passes the tracker (R69, R70): the estimates after it, and the output x − e rounded to 12 bits. -/
def trackSample (run : Bool × Nat) (e x : Int × Int) : (Int × Int) × (Int × Int) :=
  let e := if run.1 then (trackStep run.2 e.1 x.1, trackStep run.2 e.2 x.2) else e
  (e, (trackOut e.1 x.1, trackOut e.2 x.2))

/-- A tracked sample passes RX IQ correction at 16 bits (R72), the rotation of R65 (DESIGN CHOICE, log 62: after the correction) and the gate. -/
def State.rxCorrect (s : State) (ch : Nat) (pass : Bool) (y : Int × Int) : Int × Int :=
  if pass then
    let z := iqCorrect 16 (toInt 16 (s.wget (R.RX_IQ_GAIN ch))) (toInt 16 (s.wget (R.RX_IQ_PHASE ch))) (16 * y.1) (16 * y.2)
    s.phComp 1 16 ch z
  else (0, 0)

/-- The converter samples `x` of a chain, of the cycles that end before `b`, pass its stages: the estimates after them, and the corrected
samples. -/
def State.rxStages (s : State) (ch b : Nat) (x : List (Int × Int)) : (Int × Int) × List (Int × Int) :=
  let a := b - x.length / 4
  let r := (x.mapIdx fun i v => (a + i / 4, v)).foldl (fun (acc : (Int × Int) × List (Int × Int)) p =>
    let (c, v) := p
    let (e, y) := trackSample ((s.chain ch).tracks (s.tableUl (quadOf ch) c) c) acc.1 v
    (e, s.rxCorrect ch (s.rxGateAt (quadOf ch) c).pass y :: acc.2)) (((s.chain ch).estI, (s.chain ch).estQ), [])
  (r.1, r.2.reverse)

/-- The samples of a run around a place, zero outside it. -/
def around (y : List (Int × Int)) (i : Int) (h : Nat) : List (Int × Int) :=
  (List.range (2 * h + 1)).map fun j =>
    let k := i - h + j
    if 0 ≤ k then y.getD k.toNat (0, 0) else (0, 0)

/-- Step 3 of R122 on cycle `c`: a run of corrected samples from cycle `st` on decimated by 4, Q1.17; and whether it saturated. -/
def decimate4 (st : Nat) (y : List (Int × Int)) (c : Nat) : (Int × Int) × Bool :=
  let v := filtered .down4 0 0 (around y (4 * ((c : Int) - st)) 112)
  let z := (roundShift v.1 16, roundShift v.2 16)
  let y := (satS 18 z.1, satS 18 z.2)
  (y, y ≠ z)

/-- A chain's converter samples of the cycles that end before `b` are taken (R54, R82, R122 steps 1 to 3): clips count, the tracker runs, and the
decimated stream goes on, 28 cycles behind (R147). -/
def State.rxChain (b : Nat) (l : ChainSamples) (s : State) : State :=
  let ch := l.ch
  let x := l.adc
  let a := b - x.length / 4
  let (e, y) := s.rxStages ch b x
  let s := (s.countClips ch (clipCount x)).modChain ch fun c => { c with estI := e.1, estQ := e.2 }
  let s := s.showEst ch
  let run : RxRun := match s.sig.adc.find? fun r => r.ch == ch with
    | some r => if r.start + r.y.length / 4 = a then { r with y := r.y ++ y } else { ch := ch, start := a, y := y }
    | none => { ch := ch, start := a, y := y }
  let last := (s.sig.rx.filter fun r => r.ch == ch).getLast?
  let c0 := match last with
    | some r => max run.start (r.start + r.y.length)
    | none => run.start
  let d := (List.range (b - 28 - c0)).map fun i => decimate4 run.start run.y (c0 + i)
  let n := (d.filter Prod.snd).length
  let old := b - 56
  let kept : RxRun := if old ≤ run.start then run else { run with start := old, y := run.y.drop (4 * (old - run.start)) }
  let s := s.modSig fun x => { x with
    adc := x.adc.filter (fun r => r.ch ≠ ch) ++ [kept]
    rx := if d = [] then x.rx else
      match last with
      | some r => if r.start + r.y.length = c0 then x.rx.map fun z => if z = r then { z with y := z.y ++ d.map Prod.fst } else z
                  else x.rx ++ [{ ch := ch, start := c0, y := d.map Prod.fst }]
      | none => x.rx ++ [{ ch := ch, start := c0, y := d.map Prod.fst }] }
  s.satQuad R.DFE_SAT_BAND_SAT (quadOf ch) n fun y => { y with bandSat := updAt y.bandSat (quadOf ch) (· + n) }

/-- The converter samples since the last ones that were brought, of the cycles that end before `b`, are taken. A chain that is not in the list
brings zeros (DESIGN CHOICE, log 63). -/
def State.rxTake (b : Nat) (l : List ChainSamples) (s : State) : State := forAll l (State.rxChain b) s

/-! ### The carrier stage and the transform of a symbol (R122 steps 4 and 5, R189, R190) -/

/-- A chain's decimated sample of cycle `c`. -/
def State.rxSample (s : State) (ch c : Nat) : Int × Int :=
  match s.sig.rx.find? fun r => r.ch == ch && r.start ≤ c && c < r.start + r.y.length with
  | some r => r.y.getD (c - r.start) (0, 0)
  | none => (0, 0)

/-- Step 4 of R122: the carrier sample of a slot on a chain at cycle `t`, mixed by the NCO and decimated by 2^m, Q1.17; and whether it
saturated. -/
def State.rxCarrier (s : State) (cs m ch t : Nat) : (Int × Int) × Bool :=
  let mix (c : Nat) : Int × Int := turnBy true (ncoPhase (s.ncoAt 1 (quadOf ch) cs c) (c - s.tm.epoch)) (s.rxSample ch c)
  let z := if m = 0 then let v := mix t; (roundShift v.1 17, roundShift v.2 17)
    else
      let h := 26 + 20 * m
      let v := filtered .carrierDown m 0 ((List.range (2 * h + 1)).map fun i => if h ≤ t + i then mix (t + i - h) else (0, 0))
      (roundShift v.1 16, roundShift v.2 16)
  let y := (satS 18 z.1, satS 18 z.2)
  (y, y ≠ z)

/-- Step 5 of R122: the digital gain of a slot's word on a carrier sample; and whether it saturated. -/
def rxGain (w : Word) (x : Int × Int) : (Int × Int) × Bool :=
  let mant := toInt 16 ((R.CS_RX_DG_MANT 0).of w)
  let a := rxDigitalGain mant ((R.CS_RX_DG_EXP 0).of w) x.1
  let b := rxDigitalGain mant ((R.CS_RX_DG_EXP 0).of w) x.2
  ((a.1, b.1), a.2 || b.2)

/-- m of a symbol (R178). -/
def UlSym.m (u : UlSym) : Nat := 15 - u.log2n - u.mu

/-- Carrier samples of a symbol's window on a chain, after the digital gain, with how many saturated in the carrier stage and in the gain: `n` of
them from sample `j` of the symbol on. -/
def State.symSamples (s : State) (u : UlSym) (ch j n : Nat) : List (Int × Int) × Nat × Nat :=
  let l := (List.range n).map fun i =>
    let x := s.rxCarrier u.cs u.m ch (u.start + (j + i) * 2 ^ u.m)
    let y := rxGain (BitVec.ofNat 32 u.dg) x.1
    (y.1, x.2, y.2)
  (l.map Prod.fst, (l.filter fun x => x.2.1).length, (l.filter fun x => x.2.2).length)

/-- The transform of a window on the uplink (R182, R189): the occupied subcarriers in order, the phase ramp of the advance removed; and whether an
output saturated. -/
def fwdTransform (log2n rb shift adv : Nat) (x : List (Int × Int)) : List (Int × Int) × Bool :=
  let size := 2 ^ log2n
  let l := (List.range (12 * rb)).map fun k =>
    let b := fftBin size rb k
    let sb : Int := if size ≤ 2 * b then (b : Int) - size else b
    let z := dftSum (x.mapIdx fun n v => (v, (sb * adv - b * n) % size * 2 ^ (48 - log2n)))
    let e := Config.dftErr x k
    let p := dftOut shift e.1 z.1
    let q := dftOut shift e.2 z.2
    ((p.1, q.1), p.2 || q.2)
  (l.map Prod.fst, l.any Prod.snd)

/-- Chains whose bins of a symbol are formed: on quadrants where the symbol is UL (R198), less those zeroed. -/
def UlSym.chains (u : UlSym) : List Nat := ((quadsOf u.act).flatMap chainsOf).filter fun ch => !u.zero.testBit ch

/-- The cycle on which a symbol's local contribution begins, t_L(0) (R579). -/
def UlSym.localAt (u : UlSym) : Nat := u.start + symLen u.mu u.sym + 207 + 20 * u.m - (u.adv + 1) * 2 ^ u.m

/-- The symbol of a slot as its boundary fixed it. -/
def State.ulSym (s : State) (cs k n : Nat) : Option UlSym := s.sig.ulSyms.find? fun u => u.cs == cs && u.frame == k && u.sym == n

/-- Put a symbol. -/
def State.putUlSym (s : State) (u : UlSym) : State :=
  s.modSig fun x => { x with ulSyms := (x.ulSyms.filter fun v => !(v.cs == u.cs && v.frame == u.frame && v.sym == u.sym)) ++ [u] }

/-- A symbol's chains are transformed (R122 steps 4 to 6, R189, R190): saturation is flagged and counted. -/
def State.transform (s : State) (u : UlSym) : State × UlSym :=
  match u.bins with
  | some _ => (s, u)
  | none =>
    let size := 2 ^ u.log2n
    let j := cpLen u.log2n u.mu u.sym - u.adv
    let l := u.chains.map fun ch =>
      let (x, nBand, nDg) := s.symSamples u ch j size
      let (y, sat) := fwdTransform u.log2n u.rb u.shift u.adv x
      let y := match u.theta with
        | some a => y.map (rotate 16 false a)
        | none => y
      (ch, y, nBand, nDg, sat)
    let s := forAll l (fun (ch, _, nBand, nDg, sat) s =>
      let q := quadOf ch
      let s := s.satQuad R.DFE_SAT_BAND_SAT q nBand fun y => { y with bandSat := updAt y.bandSat q (· + nBand) }
      let s := s.satQuad R.DFE_SAT_RX_DG_SAT u.cs nDg fun y => { y with dgSat := updAt y.dgSat u.cs (· + nDg) }
      doIf sat (fun s => s.raiseBit R.LP_SAT_FFT_SAT u.cs) s) s
    let slip := (quadsOf u.act).foldl (fun m q => if (s.sig.rxGates.any fun g => g.q == q && g.slip && g.from0 < u.fin
      && !(s.sig.rxGates.any fun h => h.q == q && !h.slip && g.from0 ≤ h.from0 && h.from0 ≤ u.start)) then m + 2 ^ q else m) 0
    let u := { u with bins := some (l.map fun x => (x.1, x.2.1)), slip := slip }
    (s.putUlSym u, u)

/-- An uplink frame begins: what the streams of the frame before the last one left is dropped. -/
def State.pruneSig (s : State) : State :=
  let c := s.now - frameCycles - 65536
  let late {α : Type} (key : α → Nat) (from0 : α → Nat) (l : List α) : List α :=
    l.filter fun x => c ≤ from0 x || !(l.any fun y => key y == key x && from0 x < from0 y && from0 y ≤ c)
  s.modSig fun x => { x with
    nco := late (fun w => 64 * w.d + 8 * w.q + w.cs) NcoWord.from0 x.nco
    cfr := late CfrSet.q CfrSet.from0 x.cfr
    rxGates := late RxGate.q RxGate.from0 x.rxGates
    rx := x.rx.filterMap fun r =>
      if r.start + r.y.length ≤ c then none else if c ≤ r.start then some r else some { r with start := c, y := r.y.drop (c - r.start) }
    ulSyms := x.ulSyms.filter fun u => c < u.fin }

/-! ### PRACH extraction (R192 to R195) -/

/-- Δf_RA in units of 1.25 kHz and the internal FFT size of a class (R192), for a slot of numerology μ. -/
def prachFft (cls mu : Nat) : Nat × Nat :=
  match cls with
  | 0 => (12 * 2 ^ mu, 256)
  | 1 => (1, 1024)
  | _ => (4, 1024)

/-- The carrier sample of a slot on a chain at cycle `t` at the input of its FFT, as the symbol in air there has it (R80, R83, R198). -/
def State.fftInput (s : State) (cs m ch t : Nat) : Int × Int :=
  match s.sig.ulSyms.find? fun u => u.cs == cs && u.start ≤ t && t < u.fin with
  | some u => if u.zero.testBit ch then (0, 0) else (rxGain (BitVec.ofNat 32 u.dg) (s.rxCarrier cs m ch t).1).1
  | none => (0, 0)

/-- The samples of an occasion on a chain, from cycle `b` on, shifted so that element 0 lies at frequency 0 (R193), in 2^−16 of their LSB: 1.25 kHz
is 1 / 393,216 of a turn a cycle. The shift's phase is 0 at the first sample (DESIGN CHOICE, log 64). -/
def State.prachShifted (s : State) (cs m ch b n : Nat) (foff : Int) : List (Int × Int) :=
  (List.range n).map fun i =>
    let v := s.fftInput cs m ch (b + i * 2 ^ m)
    let a := -(foff * (i * 2 ^ m : Nat)) % 393216 * turn / 393216
    let z := dftSum [(v, a)]
    (roundShift z.1 44, roundShift z.2 44)

/-- One repetition's elements before saturation (R193): the decimated samples transformed, elements 0 to L_RA − 1, scaled and rounded. -/
def prachRep (size per len r : Nat) (x : List (Int × Int)) : List (Int × Int) :=
  let y := (List.range size).map fun i => if per = size then x.getD (r * per + i) (0, 0) else Config.prachFilter size x (r * size + i)
  let sh := if size = 256 then 4 else 5
  (List.range len).map fun k =>
    let z := dftSum (y.mapIdx fun i v => (v, -((k * i % size * (turn / size) : Nat) : Int)))
    (roundShift z.1 (76 + sh), roundShift z.2 (76 + sh))

/-- PRACH_OCCASION (R193): the last sample of an enabled engine's occasion reaches it. Rows are formed per chain of the slot's QMASK; they are
zero where the slot has stopped or a quadrant is not uplink through the occasion (R195). The vectors of the engine's beams are those of the
pages in force (R240). `l` is what the converters brought. -/
def State.prachOccasion (s : State) (o : Nat) (l : List ChainSamples) : State :=
  if s.wget (R.PR_CTRL_EN o) = 0 then s.rxTake s.now l
  else
    let cs := s.wget (R.PR_CTRL_CS o)
    let cls := s.wget (R.PR_CTRL_CLASS o)
    let mu := s.slotMu .ul cs
    let m := s.slotM .ul cs
    let (f, b, e) := s.prachEnd o
    let s := (s.advanceTo e).rxTake e l
    let (len, lra, _) := prachClass cls mu
    let (_, size) := prachFft cls mu
    let nRep := s.wget (R.PR_CTRL_N_REP o)
    let per := len / 2 ^ m
    let combine := s.wget (R.PR_CTRL_COMBINE o) = 1
    let zero := List.replicate (s.prachReps o) (List.replicate lra ((0 : Int), (0 : Int)))
    let rows := ((quadsOf (s.slotQ .ul cs)).flatMap chainsOf).map fun ch =>
      if !s.active .ul cs || !s.ulThrough (quadOf ch) 2048 b (b + nRep * len) then (ch, zero, 0)
      else
        let x := s.prachShifted cs m ch b (nRep * per) (toInt 20 (s.wget (R.PR_FOFF_FOFF o)))
        let r := prachRows combine lra ((List.range nRep).map fun r => prachRep size per lra r x)
        (ch, r.1, r.2)
    let s := s.countBy (R.PR_STAT_SAT_CNT o) (rows.map fun r => r.2.2).sum
    let ids := (List.range (s.wget (R.PRB_CFG_NB o))).map fun i => bits (s.wrk (R.PRB_ID o (i / 2))).toNat (16 * (i % 2) + 11) (16 * (i % 2))
    let x : PrachX := { endAt := some e, frame := f.toNat, rows := rows.map fun r => (r.1, r.2.1)
                        beams := ids.map fun id => beamVec (s.beamPage id) id, rowsDue := true, beamsDue := true, cs := cs, cls := cls, mu := mu,
                        reps := s.prachReps o, shift := s.macShift .ul cs,
                        own := if s.active .ul cs then s.slotOwner 1 cs else 31, fmt := (s.wrk (R.CS_UL_FMT cs)).toNat, prAdd := s.wget (R.CS_UL_PR_PR_ADD cs) }
    { s with prach := updAt s.prach o fun _ => x }

/-- PRACH_OCCASION (R193). -/
def execPrachOccasion (o : Nat) (l : List ChainSamples) (s : State) : Host.Outcome State Fault Refusal := .next (s.prachOccasion o l)

end Sys2Proof.Machine
end

