-- ==== Sys2Proof/Machine/Cascade.lean ====
section
/-! DEFINITION. The cascade: tree plans, in-flight summation, broadcast, PRACH sums and time through the tree (chapter 9). -/

namespace Sys2Proof.Machine

/-- Update the cascade's own state. -/
def State.modCasc (s : State) (f : CascX → CascX) : State := { s with casc := f s.casc }

/-- The UP port of the plan in force, if it has one. -/
def State.upPort (s : State) : Option Nat := (List.range 4).find? fun p => s.portRole p == 1

/-- Hop cycles of this device for the symbols of frame `k`: (D − d) × 212 (R289). -/
def State.hopWait (s : State) (k : Nat) : Nat := (s.treeD k - s.depth k) * 212

/-! ### Plans (R275 to R278, R292, R294) -/

/-- 16 × the peak blocks per SI cycle of a direction (R292). -/
def State.streamNeed (s : State) (d : Dir) : Nat :=
  let l := slots.filter fun cs => s.slotEn d cs
  match d with
  | .ul =>
    (l.map fun cs => 11 * s.slotNL .ul cs + 1).sum + 4
      + (if (List.range 4).any fun o => 0 < s.wget (R.PRB_CFG_NB o) then 16 else 0)
  | .dl => (l.map fun cs => 8 * s.slotNL .dl cs + 1).sum + 4

/-- Whether a stream fits `w` lanes at a rate code: P ≤ C with C = W × (9,375 / 8,448) × rate / 36 Gb/s (R292). -/
def State.streamFits (s : State) (d : Dir) (w rate : Nat) : Bool := s.streamNeed d * 8448 * 4 ≤ 16 * w * 9375 * 2 ^ rate

/-- The directions that a port of a role sends and receives. -/
def State.portFits (s : State) (p role : Nat) : Bool × Bool :=
  let rate := s.get (R.HG_STATUS_RATE_NOW p)
  let tx := s.get (R.HG_STATUS_TX_W p)
  let rx := s.get (R.HG_STATUS_RX_W p)
  if role = 1 then (s.streamFits .ul tx rate, s.streamFits .dl rx rate)
  else if role = 2 then (s.streamFits .dl tx rate, s.streamFits .ul rx rate)
  else (true, true)

/-- LINK_SHORT (R294) on a port whose widths changed. -/
def State.linkShort (s : State) (p : Nat) : State :=
  let role := s.portRole p
  let (tx, rx) := s.portFits p role
  if (tx && rx) || s.short p || !s.hgTimedNow p then s
  else
    let s := (s.raiseBit R.CASC_STATUS_SHORT p).modCasc fun x => { x with shortAt := updAt x.shortAt p fun _ => s.now }
    doIf (!tx) (fun s => s.event (.linkShort p (if role = 1 then 1 else 0) (s.get (R.HG_STATUS_TX_W p)))) s

/-- SHORT clears at a frame boundary once the streams fit again: with the plan committed there, or with the widths of a later training (R294). -/
def State.linkFits (s : State) (swapped : Bool) : State :=
  forAll (List.range 4) (fun p s =>
    let (tx, rx) := s.portFits p (s.portRole p)
    doIf (s.short p && tx && rx && (swapped || s.casc.shortAt.getD p 0 < (s.hgx p).anchor)) (fun s => s.clearBit R.CASC_STATUS_SHORT p) s) s

/-- The least PR_BASE × 256 that an engine's beam rows allow (R241). -/
def State.beamBound (s : State) (o : Nat) : Nat :=
  let (_, len, _) := prachClass (s.wget (R.PR_CTRL_CLASS o)) (s.slotMu .ul (s.wget (R.PR_CTRL_CS o)))
  8192 + s.wget (R.PRB_CFG_NB o) * s.prachReps o * len + 64

/-- The refusal code of a COMMIT of the shadow bank for frame `f` (R276), 0 when it passes. -/
def State.planCheck (s : State) (f : Nat) : Nat :=
  let b := 1 - s.planAct
  let role := fun p => if s.casc.conflict.contains p then 0 else bits (s.get (R.PLAN_A_PORT_ROLE b)) (2 * p + 1) (2 * p)
  let ports := List.range 4
  let ups := (ports.filter fun p => role p == 1).length
  let downs := (ports.filter fun p => role p == 2).length
  let live := ports.filter fun p => role p == 1 || role p == 2
  let td := s.get (R.PLAN_A_TREE_D b)
  let ahead := (f + 1024 - s.sfn) % 1024
  let at0 := s.frameStart (s.frameNo s.now + ahead)
  if 4 < td ∨ td < s.get (R.PLAN_A_DEPTH b) then 1
  else if (!s.worker && 0 < ups) || (s.worker && (ups ≠ 1 || 3 < downs)) then 2
  else if live.any fun p => !s.hgTimedNow p then 3
  else if live.any fun p => let (tx, rx) := s.portFits p (role p); !tx || !rx then 4
  else if s.get (R.PLAN_B_BC_LEAD b) < td * 180 + 16 then 5
  else if (List.range 4).any fun o =>
      s.flag (R.PR_CTRL_EN o) && 0 < s.wget (R.PRB_CFG_NB o) && s.get (R.PLAN_B_PR_BASE b) * 256 < s.beamBound o then 6
  else if 512 ≤ ahead ∨ at0 < s.now + 24576 then 7
  else 0

/-- CASC_CTRL.COMMIT with FRAME `f` (R276, R277, R584): the code of a refusal, which sets FAIL alone; 0 when the swap is pending. -/
def State.planCommit (s : State) (f : Nat) (cmd : Option Cmd) : State × Nat :=
  match s.planCheck f with
  | 0 =>
    let k := s.frameNo s.now + ((f + 1024 - s.sfn) % 1024 : Nat)
    let s := s.put R.CASC_CTRL_FRAME f
    let s := match s.casc.swap with
      | some w => s.completeJob w.cmd .aborted []
      | none => s
    ((s.put R.CASC_STATUS_COMMIT_PEND 1).modCasc fun x =>
      { x with swap := some { frame := k.toNat, at_ := (s.frameStart k).toNat, cmd := cmd } }, 0)
  | c => (s.put R.CASC_STATUS_FAIL c, c)

/-- CASC_CTRL.CANCEL (R277), under the rule of R202: up to 24,576 cycles before the swap. -/
def State.planCancel (s : State) : Wr :=
  match s.casc.swap with
  | some w =>
    if s.now + 24576 ≤ w.at_ then
      .ok (((s.put R.CASC_STATUS_COMMIT_PEND 0).modCasc fun x => { x with swap := none }).completeJob w.cmd .aborted [])
    else refuse (R.HG_STATUS_WR_REFUSED 0) s
  | none => .ok s

/-- PLAN_SWAP (R277, R278, R299) at a downlink frame boundary. -/
def State.planSwap (s : State) : State :=
  match s.casc.swap with
  | some w =>
    if w.at_ ≤ s.now then
      let k := w.frame
      let old := (R.PLAN_A_TREE_D 0).of (s.planBefore k).1
      let s := s.modCasc fun x => { x with old := some (k, s.reg (R.PLAN_A s.planAct), s.reg (R.PLAN_B s.planAct)) }
      let s := (s.put R.CASC_STATUS_PLAN_ACT (1 - s.planAct)).put R.CASC_STATUS_COMMIT_PEND 0
      let s := (s.put R.CASC_STATUS_COMMIT_SFN (w.frame % 1024)).modCasc fun x => { x with swap := none, upLostN := 0 }
      let s := doIf (!s.worker && s.treeD k ≠ old) (fun s => s.event (.treeDepthChanged old (s.treeD k))) s
      let s := doIf s.hold.upLost (fun s => ({ s with hold := { s.hold with upLost := false } }).settle) s
      s.completeJob w.cmd .ok []
    else s
  | none => s

/-- LANE_REPAIR_INSTANT with its consequence for the streams (R263, R294). -/
def State.laneRepair (s : State) (p : Nat) : State := (s.hgRepair p).linkShort p

/-! ### Summation (R281, R282, R287, R295 to R297) -/

/-- Units of a slot (R281). -/
def unitsOf (rb : Nat) : Nat := ceilDiv (12 * rb) 16

/-- Groups that the subcarriers of a unit touch. -/
def State.unitGroups (s : State) (cs u : Nat) : List Nat :=
  let rb := s.slotRB .ul cs
  let g := fun k => s.groupOf .ul cs (k / 12)
  (List.range (s.slotGroups .ul cs)).filter fun x => g (16 * u) ≤ x && x ≤ g (min (16 * u + 15) (12 * rb - 1))

/-- Set flag bits of some groups. -/
def orFlags (l : List Nat) (gs : List Nat) (b : Nat) : List Nat := gs.foldl (fun l g => updAt l g (· ||| b)) l

/-- The row of a chain's antenna bins of a symbol (R203). -/
def State.antRow (s : State) (cs k n ch : Nat) : Nat :=
  s.ulBase cs + (symKey (s.slotMu .ul cs) k n % 2 * 64 + ch) * (rowBytes (s.slotRB .ul cs) + 512)

/-- The staging row of a port's layer of a symbol (R291). -/
def State.stageRow (s : State) (cs k n p row : Nat) : Nat :=
  s.stageBase cs + ((p * 2 + symKey (s.slotMu .ul cs) k n % 2) * s.slotNL .ul cs + row) * (sumBytes (s.slotRB .ul cs) + 512)

/-- The bins of a unit enter the antenna rows (R189, R203, R363). -/
def State.storeBins (s : State) (y : UlSym) (u : Nat) : State :=
  forAll y.chains (fun ch s =>
    let a := s.antRow y.cs y.frame y.sym ch
    let l := (look (y.bins.getD []) ch).getD []
    let fit := min 16 (12 * y.rb - 16 * u)
    let tag := rowTag y.frame y.sym y.cs 1 ch
    let s := doIf (s.word32 a ≠ tag) (fun s => s.putHeader a tag 1 0 0) s
    s.storeMem (a + 512 + 64 * u) ((List.range fit).flatMap fun j =>
      let v := l.getD (16 * u + j) (0, 0)
      leBytes 4 (ofInt 16 v.1 + ofInt 16 v.2 * 65536))) s

/-- A chain's bin as the array reads it: zero where its word is poisoned (R235). -/
def State.antBin (s : State) (cs k n ch i : Nat) : Int × Int :=
  let a := s.antRow cs k n ch + 512 + 4 * i
  if s.poisoned (a / 16) then (0, 0)
  else
    let w := s.word32 a
    (toInt 16 w, toInt 16 (w / 65536))

/-- The poisoned words of a unit's bins: each is counted, marked in its row's MAP, and flags its groups in every layer (R235, R363). -/
def State.binPoison (s : State) (y : UlSym) (u : Nat) : State × List Nat :=
  y.chains.foldl (fun acc ch =>
    let a := acc.1.antRow y.cs y.frame y.sym ch
    let bad := acc.1.badWords (a + 512 + 64 * u) 64
    let ks := bad.flatMap fun w => (List.range 4).map fun j => (16 * w - (a + 512)) / 4 + j
    let s := acc.1.countBy R.POISON_RE_COUNT bad.length
    let map := ks.foldl (fun m i => setBit m (i / 12) true) (s.rowMap a)
    let gs := ks.map fun i => s.groupOf .ul y.cs (i / 12)
    let s := doIf (!bad.isEmpty) (fun s => (s.putHeader a (rowTag y.frame y.sym y.cs 1 ch) 1 0 map).orHeader a (gs.map fun g => (g, 2))) s
    (s, acc.2 ++ gs)) (s, [])

/-- A layer's local contribution to a unit (R211, R237): its entries, how many saturated, and the flags of its groups: LSAT, POISON, and REPAIR for a
column zeroed in the slot (R238). Samples zeroed for a slipped crossing set REPAIR too (DESIGN CHOICE, log 66: R39 flags the symbol and names no
flag). -/
def State.localUnit (s : State) (p : Option Plan) (y : UlSym) (u layer : Nat) : List (Int × Int) × Nat × List (Nat × Nat) :=
  let chs := y.chains
  let cols := (quadsOf y.act).flatMap chainsOf
  let cs := y.cs
  let z := (List.range 16).map fun j =>
    let i := 16 * u + j
    match p with
    | some p =>
      if i < 12 * y.rb then
        s.ulMac p cs y.mac layer i fun a => if chs.contains a then s.antBin cs y.frame y.sym a i else (0, 0)
      else ((0, 0), false)
    | none => ((0, 0), false)
  let flags := (List.range 16).flatMap fun j =>
    let i := 16 * u + j
    if i < 12 * y.rb then
      let g := s.groupOf .ul cs (i / 12)
      let lsat := if (z.getD j ((0, 0), false)).2 then [(g, 1)] else []
      let rep := if y.slip ≠ 0 || cols.any fun a => s.colZeroed .ul cs a i then [(g, 4)] else []
      let bad := match p.bind fun p => p.addrAt layer (i / 12) with
        | some addr => if (List.range 64).any fun a => s.elementBad addr a then [(g, 2)] else []
        | none => []
      lsat ++ rep ++ bad
    else []
  (z.map Prod.fst, (z.filter Prod.snd).length, flags)

/-- A port's own counts of the frame. -/
def State.childCnt (s : State) (p : Nat) : ChildCnt :=
  s.casc.child.getD p { missing := 0, mismatch := 0, err := 0, seen := [], seenTag := [] }

/-- CHILD_SUM_MISSING (R297): when a later frame's sums begin, each port that missed is reported with the frame's counts. -/
def State.flushChild (s : State) (k : Nat) : State :=
  if k ≤ s.casc.childFrame then s
  else
    let f := s.casc.childFrame
    let s := forAll (List.range 4) (fun p s =>
      let c := s.childCnt p
      doIf (c.missing ≠ 0 || c.mismatch ≠ 0 || c.err ≠ 0) (fun s =>
        (s.event (.childSumMissing p (f % 1024) c.missing c.mismatch c.err)).report
          (mkReport 0x18 .clsD 0x0010 (p + min c.missing 65535 * 65536))) s) s
    s.modCasc fun x => { x with
      childFrame := k
      child := List.replicate 4 { missing := 0, mismatch := 0, err := 0, seen := [], seenTag := [] } }

/-- What a DOWN port brought of a unit, as the adder takes it (R280, R295): it is errored if a block came by a lane that failed (R263). -/
inductive ChildRead where
  | missing
  | errored
  | read (x : UnitRead)
deriving DecidableEq, Repr

/-- A child's unit of `nl` layers is read. -/
def State.childRead (s : State) (p cs k n u nl : Nat) (a : ChildArrival) : ChildRead :=
  match a with
  | .missing => .missing
  | .blocks first hdr data =>
    if s.onFailed p first (1 + data.length) then .errored else .read (readUnit (k % 1024) n cs u nl hdr data)

/-- A port's unit is missing (R295, R297): the sum frame counts once. -/
def State.unitMissing (s : State) (p cs n : Nat) (a : ChildRead) : State :=
  let s := match a with
    | .read .badHeader => s.count R.CASC_CNT1_HDR_BAD
    | .errored => (s.count (R.CHILD_CNT0_ERR_UNITS p)).modCasc fun x =>
        { x with child := updAt x.child p fun c => { c with err := c.err + 1 } }
    | _ => s
  let s := doIf (a == .read .wrongTag && !(s.childCnt p).seenTag.contains (cs, n)) (fun s =>
    (s.count (R.CHILD_CNT1_TAG_MISMATCH p)).modCasc fun x =>
      { x with child := updAt x.child p fun c => { c with mismatch := c.mismatch + 1, seenTag := c.seenTag ++ [(cs, n)] } }) s
  doIf (!(s.childCnt p).seen.contains (cs, n)) (fun s =>
    (s.count (R.CHILD_CNT0_MISSING p)).modCasc fun x =>
      { x with child := updAt x.child p fun c => { c with missing := c.missing + 1, seen := c.seen ++ [(cs, n)] } }) s

/-- A child's unit is staged (R291, R363). -/
def State.stageUnit (s : State) (cs k n u p : Nat) (rows : List (List (Int × Int))) : State :=
  forAll (List.range (s.slotNL .ul cs)) (fun i s =>
    let a := s.stageRow cs k n p i
    let tag := rowTag k n cs 1 (s.lbase .ul cs + i)
    let old := if s.word32 a = tag then s.rowMap a else 0
    let s := s.storeMem (a + 512 + 88 * u) (packSums 88 (rows.getD i []))
    s.putHeader a tag 2 p (setBit old u true)) s

/-- A staged unit's layer as the adder reads it (R482): the entries held in a poisoned word are zero, and named. -/
def State.stagedUnit (s : State) (cs k n u p i : Nat) (row : List (Int × Int)) : List (Int × Int) × List Nat :=
  let a := s.stageRow cs k n p i + 512 + 88 * u
  let bad := (List.range 16).filter fun j => !(s.badWords (a + 44 * j / 8) 6).isEmpty
  (row.mapIdx fun j v => if bad.contains j then (0, 0) else v, bad)

/-- The sum of one entry over the local stage and the children (R287): exact, then saturated once per component. -/
def sumEntry (l : List (Int × Int)) : (Int × Int) × Nat :=
  let x := l.foldl (fun a b => (a.1 + b.1, a.2 + b.2)) (0, 0)
  let z := (satS 22 x.1, satS 22 x.2)
  (z, b2n (z.1 ≠ x.1) + b2n (z.2 ≠ x.2))

/-- The sum in formation of a symbol. -/
def State.sumOf (s : State) (cs k n : Nat) : Option SumFrame :=
  s.casc.sums.find? fun f => f.cs == cs && f.frame == k && f.sym == n

/-- Put a sum in formation. -/
def State.putSum (s : State) (f : SumFrame) : State :=
  s.modCasc fun x => { x with sums := (x.sums.filter fun g => !(g.cs == f.cs && g.frame == f.frame && g.sym == f.sym)) ++ [f] }

/-- The boundary of a sum's symbol on the uplink. -/
def State.sumBoundary (s : State) (f : SumFrame) : Nat := s.symBoundary .ul (s.slotMu .ul f.cs) f.frame f.sym

/-- A worker sends the tail of a sum that is whole, with its check blocks (R282); a manager keeps the sum for compression. -/
def State.finishSum (s : State) (f : SumFrame) : State :=
  let b := s.sumBoundary f
  let left := f.tails.filter fun t => s.streams t.1 b
  let gone := f.tails.filter fun t => !s.streams t.1 b
  let f := { f with
    tails := left
    flags := gone.foldl (fun l t => updAt l t.2 fun g => g.map (· ||| 8)) f.flags }
  if f.unit = unitsOf (s.slotRB .ul f.cs) ∧ left = [] ∧ s.worker then
    let s := s.modCasc fun x => { x with sums := x.sums.filter fun g => !(g.cs == f.cs && g.frame == f.frame && g.sym == f.sym) }
    match s.upFor f.frame with
    | some p => doIf (s.streams p b) (fun s =>
        s.emit (.sumTail p f.cs (f.frame % 1024) f.sym f.flags (f.rows.mapIdx fun i r => sumCheckOf r (f.flags.getD i [])))) s
    | none => s
  else s.putSum f

/-- The sum of a symbol before its first unit: the tails to come are those of the plan's DOWN ports. -/
def State.newSum (s : State) (cs k n : Nat) : SumFrame :=
  let nl := s.slotNL .ul cs
  { cs := cs, frame := k, sym := n, rows := List.replicate nl [], flags := List.replicate nl (List.replicate (s.slotGroups .ul cs) 0), unit := 0,
    tails := (s.portsFor 2 k).flatMap fun p => (List.range nl).map fun i => (p, i) }

/-- UL_UNIT_ADD (R287, R289, R295, R297): the add instant of a unit group of a symbol that its slot brought (R180, R198); `l` is what the converters
brought, `kids` what each DOWN port did, `ecc` what the ECC finds. -/
def State.unitAdd (s : State) (cs k n u : Nat) (l : List ChainSamples) (kids : List (Nat × ChildArrival)) (ecc : List (Nat × EccFinding)) : State :=
  let f0 := (s.sumOf cs k n).getD (s.newSum cs k n)
  match s.ulSym cs k n with
  | none => s
  | some y =>
    if s.get R.PWR_STATUS_STATE_NOW = 3 || u ≠ f0.unit || unitsOf y.rb ≤ u || y.act = 0 then s
    else
      let nl := s.slotNL .ul cs
      let s := s.advanceTo (y.localAt + s.hopWait k + 16 * u)
      let (s, y) := (s.rxTake s.now l).transform y
      let s := (s.flushChild k).storeBins y u
      let ports := s.portsFor 2 k
      let arrived := ports.map fun p =>
        (p, if s.streams p y.start then s.childRead p cs k n u nl ((look kids p).getD .missing) else .missing)
      let s := forAll arrived (fun (p, a) s =>
        match a with
        | .read (.good rows) => s.stageUnit cs k n u p rows
        | a => s.unitMissing p cs n a) s
      let s := s.eccReads ecc
      let (s, poisonG) := s.binPoison y u
      let p := s.planOf .ul cs k n
      let s := match p with
        | some p => doIf (u == 0) (fun s => s.weightPoison p .ul cs fun _ _ _ s => s) s
        | none => s
      let good := arrived.filterMap fun (p, a) => match a with
        | .read (.good rows) => some (p, rows.mapIdx fun i r => s.stagedUnit cs k n u p i r)
        | _ => none
      let gs := s.unitGroups cs u
      let partialAdd := good.length ≠ ports.length
      let res := (List.range nl).map fun i =>
        let (z, nsat, fl) := s.localUnit p y u (s.lbase .ul cs + i)
        let sums := z.mapIdx fun j v => sumEntry (v :: good.map fun g => ((g.2.getD i ([], [])).1.getD j (0, 0)))
        let satG := (sums.mapIdx fun j v => (j, v.2)).filterMap fun (j, v) =>
          if v = 0 then none else some (s.groupOf .ul cs ((16 * u + j) / 12))
        let staged := good.flatMap fun g => (g.2.getD i ([], [])).2.map fun j => (s.groupOf .ul cs ((16 * u + j) / 12), 2)
        (sums.map Prod.fst, nsat, fl ++ staged, satG, (sums.map Prod.snd).sum)
      let s := s.countBy R.UL_LSAT_COUNT (res.map fun r => r.2.1).sum
      let nsum := (res.map fun r => r.2.2.2.2).sum
      let s := match good.getLast? with
        | some g => s.countBy (R.SUM_SAT_COUNT g.1) nsum
        | none => s
      let f := { f0 with
        unit := u + 1
        rows := f0.rows.mapIdx fun i l => l ++ (res.getD i ([], 0, [], [], 0)).1
        flags := f0.flags.mapIdx fun i l =>
          let r := res.getD i ([], 0, [], [], 0)
          let l := r.2.2.1.foldl (fun l x => orFlags l [x.1] x.2) l
          let l := orFlags (orFlags l poisonG 2) r.2.2.2.1 1
          if partialAdd then orFlags l gs 8 else l }
      let s := match s.upFor k with
        | some p => doIf (s.worker && s.streams p y.start) (fun s => s.emit (.sumUnit p cs (k % 1024) n u (res.map Prod.fst))) s
        | none => s
      s.finishSum f

/-- SUM_CHECK_BLOCK (R280, R282, R295, R296): a layer's flag blocks (if they arrived) and check block of a child's sum frame; a tail whose header
fails its HCRC is discarded, and its flags are missing. Flags that arrived join the header of the staging row (R363). -/
def State.sumCheck (s : State) (p cs k n layer : Nat) (hdr ok : Bool) (flags : Option (List Nat)) : State :=
  let s := doIf (!hdr) (fun s => s.count R.CASC_CNT1_HDR_BAD) s
  match s.sumOf cs k n with
  | some f =>
    let i := layer - s.lbase .ul cs
    if f.tails.contains (p, i) then
      let s := doIf (hdr && !ok) (fun s => s.count (R.CHILD_CNT1_CRC_FAIL p)) s
      let a := s.stageRow cs k n p i
      let staged := s.word32 a == rowTag k n cs 1 layer
      let s := match flags, hdr && ok with
        | some g, true => doIf staged (fun s => s.orHeader a (g.mapIdx fun x v => (x, v))) s
        | _, _ => s
      let fl := f.flags.mapIdx fun j l =>
        if j = i then
          match flags, hdr && ok with
          | some g, true => l.mapIdx fun x v => v ||| g.getD x 0 % 16 ||| (if staged then s.rowFlags a x else 0)
          | _, _ => l.map (· ||| 8)
        else l
      s.finishSum { f with flags := fl, tails := f.tails.erase (p, i) }
    else s
  | none => s

/-! ### Broadcast (R283, R284, R298, R359) -/

/-- The DOWN ports that carry the broadcast of a symbol of frame `k` that begins on cycle `b`. -/
def State.bcastPorts (s : State) (k b : Nat) : List Nat := (s.portsFor 2 k).filter fun p => s.streams p b

/-- BROADCAST_PASS (R284, R359) on the manager: BC_LEAD cycles before readout of a symbol; PRBs not landed are read as zero and counted. -/
def State.broadcast (s : State) (cs k n : Nat) : State :=
  if s.worker || !s.symRuns .dl cs k || !s.radioOn || !s.anyDir .dl cs k n then s
  else
    let b := s.symBoundary .dl (s.slotMu .dl cs) k n
    let s := s.advanceTo (s.readoutAt cs b - s.bcLead k)
    let rb := s.slotRB .dl cs
    let rows := List.range (s.slotNL .dl cs)
    let miss := (rows.map fun i => ((List.range rb).filter fun p => !s.landed cs k n i p).length).sum
    let s := s.countBy (R.SP_WIN1_MISS_PRB 0 cs) miss
    let s := doIf (miss ≠ 0) (fun s =>
      s.oncePerFrame s.sp.miss cs (fun l s => s.modSp fun x => { x with miss := l })
        fun s => s.event (.dlDataMissing cs s.sfn (s.get (R.SP_WIN1_MISS_PRB 0 cs)))) s
    let unit (u : Nat) : List (List (Int × Int)) := rows.map fun i => (List.range 16).map fun j =>
      if 16 * u + j < 12 * rb then s.ringSample cs k n i (16 * u + j) else (0, 0)
    let units := (List.range (unitsOf rb)).map unit
    let checks := rows.map fun i => crc32 (units.flatMap fun x => bcastField (x.getD i []))
    forAll (s.bcastPorts k b) (fun p s =>
      (forAll (List.range (unitsOf rb)) (fun u s => s.emit (.bcast p cs (k % 1024) n u (units.getD u []))) s).emit
        (.bcastTail p cs (k % 1024) n checks)) s

/-- A broadcast unit goes on by the DOWN ports and lands (R284). -/
def State.bcastLand (s : State) (cs k n u b : Nat) (data : List (List (Int × Int))) : State :=
  let rb := s.slotRB .dl cs
  let s := forAll (s.bcastPorts k b) (fun p s => s.emit (.bcast p cs (k % 1024) n u data)) s
  let fit := min 16 (12 * rb - 16 * u)
  let ps := (List.range rb).filter fun p => 16 * u ≤ 12 * p + 11 && 12 * p + 11 < 16 * u + 16
  forAll (List.range (s.slotNL .dl cs)) (fun i s =>
    s.landRow cs k n i (16 * u) ps ((List.range fit).map fun j => (data.getD i []).getD j (0, 0))) s

/-- BROADCAST_UNIT_RECEIVE (R280, R284, R298): a unit that the UP port brought is forwarded and lands; one that is missing, errored, under a failed
header, or on a port that does not carry the stream (R252), lands and goes on as zero. The unit past the last one is the tail. -/
def State.bcastUnit (s : State) (cs k n u : Nat) (header : Bool) (rows : Option (List (List (Int × Int)))) (checks : List Nat) : State :=
  match s.upFor k with
  | none => s
  | some up =>
    if !s.worker || !(s.slotEn .dl cs || s.active .dl cs) || unitsOf (s.slotRB .dl cs) < u then s
    else
      let b := s.symBoundary .dl (s.slotMu .dl cs) k n
      let live := s.streams up b
      let s := doIf (live && !header) (fun s => s.count R.CASC_CNT1_HDR_BAD) s
      if u = unitsOf (s.slotRB .dl cs) then
        if live && header then forAll (s.bcastPorts k b) (fun p s => s.emit (.bcastTail p cs (k % 1024) n checks)) s else s
      else
        match live && header, rows with
        | true, some r => s.bcastLand cs k n u b r
        | _, _ => (s.count R.CASC_CNT0_DL_ROW_MISSING).bcastLand cs k n u b
            (List.replicate (s.slotNL .dl cs) (List.replicate 16 (0, 0)))

/-! ### PRACH sums (R285, R286, R288, R296) -/

/-- Address, length in entries and row size of an engine's beam rows (R241). -/
def State.beamRows (s : State) (o : Nat) : Nat × Nat × Nat :=
  let x := s.prx o
  ((s.region 4).1 + 917504 + o * 32768, (prachClass x.cls x.mu).2.1, beamRowBytes x.cls)

/-- PRACH_SUM_SEND (R280, R286, R288, R296): the complete child rows are added to this device's beam rows; `bad` the ports whose rows failed
their check, `hdr` how many PR_ROW headers failed their HCRC. -/
def State.prachSum (s : State) (o : Nat) (kids : List ChildRow) (bad : List Nat) (hdr : Nat) : State :=
  match (s.prx o).endAt with
  | some e =>
    let k := (s.prx o).frame
    let s := s.advanceTo (e + s.prBase k + (s.treeD k - s.depth k) * 4608)
    let s := (forAll bad (fun p s => s.count (R.CHILD_CNT1_CRC_FAIL p)) s).countBy R.CASC_CNT1_HDR_BAD hdr
    let (base, len, size) := s.beamRows o
    let ports := s.portsFor 2 k
    let reps := (s.prx o).reps
    forAll (List.range ((s.prx o).beams.length * reps)) (fun x s =>
      let own := unpackSums len (s.bytes (base + x * size) size)
      let got := ports.map fun p => if s.streams p e then kids.find? fun c => c.port == p && c.beam == x / reps && c.rep == x % reps else none
      let add := got.filterMap id
      let sums := own.mapIdx fun j v => sumEntry (v :: add.map fun c => c.row.getD j (0, 0))
      let nsat := (sums.map Prod.snd).sum
      let fl := add.foldl (fun f c => f ||| c.flags % 16) (((s.casc.prFlags.getD o []).getD x 0)
        ||| (if got.any Option.isNone then 8 else 0) ||| (if nsat = 0 then 0 else 1))
      let s := match add.getLast? with
        | some c => s.countBy (R.SUM_SAT_COUNT c.port) nsat
        | none => s
      let s := s.storeMem (base + x * size) (packSums size (sums.map Prod.fst))
      let s := s.modCasc fun y => { y with prFlags := updAt y.prFlags o fun l => updAt l x fun _ => fl }
      match s.upFor k with
      | some p => doIf (s.worker && s.streams p e) (fun s => s.emit (.prachRow p (k % 1024) o (x / reps) (x % reps) fl (sums.map Prod.fst))) s
      | none => s) s
  | none => s

/-! ### Addresses and time (R272, R299, R305, R306) -/

/-- DA_ASSIGN_RECEIVE (R272): refused in the plan in force. -/
def State.daReceive (s : State) (uid da : Nat) : State :=
  if !s.worker || uid ≠ Config.uid % 2 ^ 64 || s.upPort.isSome then s
  else
    let s := (s.put R.CASC_STATUS_DA da).put R.CASC_STATUS_DA_VALID 1
    forAll (List.range 4) (fun p s => s.showCap p) s

/-- TIME_FAULT (R305). -/
def State.timeFault (s : State) (d : Int) : State :=
  let s := ((s.put R.CASC_STATUS_TIME_LOCK 0).raise R.CASC_STATUS_TIME_FAULT).grade
  (s.event (.timeFault (satS 32 d))).report (mkReport 0x18 .clsU 0x0011 (ofInt 32 (satS 32 d)))

/-- A worker's slew of Δ begins (R306): it runs over the 10 ms that follow and replaces what is left of an earlier one. -/
def State.slewBy (s : State) (d : Int) : State :=
  (s.setTime s.time s.now).modTm fun x => { x with slew := if d = 0 then none else some { start := s.now, total := d } }

/-- TIME_FRAME_RECEIVE (R305): the sender's time in 2^−16 ns, usable now; 60 SI cycles carry 8,000,000 units. -/
def State.timeFrame (s : State) (value : Nat) (traceable : Bool) : State :=
  if !s.worker then s
  else
    let d := (value : Int) + 8000000 - s.time
    let s := (s.put R.TIME_DELTA_DELTA (ofInt 32 (satS 32 d))).modCasc fun x => { x with timeLostN := 0 }
    let s := s.modTm fun x => { x with parentGood := traceable }
    let lock := fun (s : State) => (s.put R.CASC_STATUS_TIME_LOCK 1).grade
    if d.natAbs ≤ 16 * 65536 then lock (s.slewBy d)
    else if !s.carriersActive then lock (s.setTime (s.time + d) s.now)
    else s.timeFault d

/-- TIME_FRAME_TIMEOUT (R305): 100 frame boundaries without a valid TIME frame. -/
def State.timeTimeout (s : State) : State :=
  if s.worker && 100 ≤ s.casc.timeLostN && s.flag R.CASC_STATUS_TIME_LOCK then s.timeFault 0 else s

/-- UP_PORT_LOSS_TIMEOUT (R299): 100 frame boundaries without an UP port TIMED. -/
def State.upTimeout (s : State) : State :=
  if s.worker && 100 ≤ s.casc.upLostN && !s.hold.upLost then ({ s with hold := { s.hold with upLost := true } }).settle else s

/-- What the cascade does at a downlink frame boundary (R277, R294, R299, R305). -/
def State.cascFrame (s : State) : State :=
  let swapped : Bool := match s.casc.swap with
    | some w => w.at_ ≤ s.now
    | none => false
  let s := s.planSwap.linkFits swapped
  let s := forAll s.downPorts (fun p s => s.sendSide p 2 0xFF s.ownDa (timeBytes s.time)) s
  if s.worker then
    let up := match s.upPort with
      | some p => s.hgTimedNow p
      | none => false
    s.modCasc fun x => { x with upLostN := if up then 0 else x.upLostN + 1, timeLostN := x.timeLostN + 1 }
  else s

/-! ### Register writes -/

/-- The counters that CASC_CNT_CLR clears. -/
def cascCounters : List Nat :=
  [R.CASC_CNT0, R.CASC_CNT1] ++ (List.range 4).flatMap fun p => [R.CHILD_CNT0 p, R.CHILD_CNT1 p, R.SUM_SAT p]

/-- A write of a cascade register, in the block of HG0. -/
def writeCasc (r : RegRow) (ix : List Nat) (a : Nat) (v : Word) (s : State) : Wr :=
  let b := ix.getD 0 0
  let shadow := if b = s.planAct then refuse (R.HG_STATUS_WR_REFUSED 0) s else .ok (s.plainWrite r a v)
  match r.id with
  | .CASC_CTRL =>
    let f := R.CASC_CTRL_FRAME.of v
    let fields (s : State) : State := (s.put R.CASC_CTRL_FRAME f).put R.CASC_CTRL_MAP_STRICT (R.CASC_CTRL_MAP_STRICT.of v)
    let (t, code) := if v.toNat.testBit 0 then s.planCommit f none else (s, 0)
    if code ≠ 0 then .error t
    else if v.toNat.testBit 1 then
      match t.planCancel with
      | .ok u => .ok (fields u)
      | .error _ => refuse (R.HG_STATUS_WR_REFUSED 0) s
    else .ok (fields t)
  | .PLAN_A => shadow
  | .PLAN_B => shadow
  | .ROUTE => shadow
  | .CASC_CNT_CLR => .ok (doIf (v.toNat.testBit 0) (fun s => forAll cascCounters (fun a s => s.setReg a 0) s) s)
  | _ => writeHGP r ix a v s

/-! ### Meanings -/

/-- LANE_REPAIR_INSTANT (R263). -/
def execLaneRepairInstant (p : Nat) (s : State) : Host.Outcome State Fault Refusal := .next (s.laneRepair p)

/-- UL_UNIT_ADD (R295). -/
def execUlUnitAdd (cs frame sym unit : Nat) (l : List ChainSamples) (kids : List (Nat × ChildArrival)) (ecc : List (Nat × EccFinding))
    (s : State) : Host.Outcome State Fault Refusal := .next (s.unitAdd cs frame sym unit l kids ecc)

/-- SUM_CHECK_BLOCK (R296). -/
def execSumCheckBlock (port cs frame sym layer : Nat) (hdr ok : Bool) (flags : Option (List Nat)) (s : State) :
    Host.Outcome State Fault Refusal := .next (s.sumCheck port cs frame sym layer hdr ok flags)

/-- BROADCAST_PASS (R284). -/
def execBroadcastPass (cs frame sym : Nat) (s : State) : Host.Outcome State Fault Refusal := .next (s.broadcast cs frame sym)

/-- BROADCAST_UNIT_RECEIVE (R298). -/
def execBroadcastUnitReceive (cs frame sym unit : Nat) (header : Bool) (rows : Option (List (List (Int × Int)))) (checks : List Nat) (s : State) :
    Host.Outcome State Fault Refusal := .next (s.bcastUnit cs frame sym unit header rows checks)

/-- PRACH_SUM_SEND (R286). -/
def execPrachSumSend (o : Nat) (kids : List ChildRow) (bad : List Nat) (hdr : Nat) (s : State) : Host.Outcome State Fault Refusal :=
  .next (s.prachSum o kids bad hdr)

/-- DA_ASSIGN_RECEIVE (R272). -/
def execDaAssignReceive (uid da : Nat) (s : State) : Host.Outcome State Fault Refusal := .next (s.daReceive uid da)

/-- TIME_FRAME_RECEIVE (R305). -/
def execTimeFrameReceive (value : Nat) (traceable : Bool) (s : State) : Host.Outcome State Fault Refusal :=
  .next (s.timeFrame value traceable)

/-- TIME_FRAME_TIMEOUT (R305). -/
def execTimeFrameTimeout (s : State) : Host.Outcome State Fault Refusal := .next s.timeTimeout

/-- UP_PORT_LOSS_TIMEOUT (R299). -/
def execUpPortLossTimeout (s : State) : Host.Outcome State Fault Refusal := .next s.upTimeout

/-- CASC_COMMIT (R276). -/
def execCascCommit (s : State) : Host.Outcome State Fault Refusal := .next (s.planCommit (s.get R.CASC_CTRL_FRAME) none).1

/-- CASC_CANCEL (R277). -/
def execCascCancel (s : State) : Host.Outcome State Fault Refusal := .next s.planCancel.state

end Sys2Proof.Machine
end

