-- ==== Sys2Proof/Machine/Uplink.lean ====
section
/-! DEFINITION. Uplink compression and launch on the manager (chapter 11, R342, R344, R346, R353, R360 to R362). -/

namespace Sys2Proof.Machine

/-! ### Compression (R344, R346) -/

/-- The smallest exponent in 0 to 15 that fits every component in `w` bits (R346). -/
def bfpExp (w : Nat) (l : List Int) : Nat :=
  ((List.range 16).find? fun e => l.all fun c => -(2 ^ (w - 1 + e) : Int) ≤ c && c < (2 ^ (w - 1 + e) : Int)).getD 15

/-- Bits packed most significant first into whole bytes: values of one width after a head. -/
def packBits (headBits head w : Nat) (l : List Int) : List Byte :=
  let n := l.foldl (fun n v => n * 2 ^ w + ofInt w v) head
  let size := headBits + w * l.length
  let bytes := ceilDiv size 8
  beBytes bytes (n * 2 ^ (8 * bytes - size))

/-- One PRB block from its 24 components, and how many saturated (R346). -/
def compressPrb (comp shift : Nat) (l : List Int) : List Byte × Nat :=
  if comp = 0 then
    let m := l.map fun c => roundShift c shift
    (packBits 0 0 16 (m.map (satS 16)), (m.filter fun v => satS 16 v ≠ v).length)
  else
    let w := comp + 8
    let e := bfpExp w l
    let m := l.map fun c => roundDiv c (2 ^ e)
    (packBits 4 e w (m.map (satS w)), (m.filter fun v => satS w v ≠ v).length)

/-- The blocks of PRBs p0 to p1 − 1 of a row of sums. -/
def compressRow (comp shift p0 p1 : Nat) (row : List (Int × Int)) : List Byte × Nat :=
  (List.range (p1 - p0)).foldl (fun acc i =>
    let l := (List.range 12).flatMap fun j => let v := row.getD (12 * (p0 + i) + j) (0, 0); [v.1, v.2]
    let (b, n) := compressPrb comp shift l
    (acc.1 ++ b, acc.2 + n)) ([], 0)

/-- The flag field of R342 for the groups that PRBs p0 to p1 − 1 touch. -/
def flagField (gran p0 p1 : Nat) (flags : List Nat) : List Byte :=
  let gs := (List.range ((p1 - 1) / 2 ^ gran + 1 - p0 / 2 ^ gran)).map fun i => flags.getD (p0 / 2 ^ gran + i) 0 % 16
  let size := ceilDiv gs.length 8 * 4
  (List.range size).map fun i => BitVec.ofNat 8 (gs.getD (2 * i) 0 * 16 + gs.getD (2 * i + 1) 0)

/-! ### Frames (R313, R341, R342, R353, R361) -/

/-- The ones' complement sum of a list of bytes taken as 16-bit words. -/
def onesSum : List Byte → Nat
  | a :: b :: t => a.toNat * 256 + b.toNat + onesSum t
  | [a] => a.toNat * 256
  | [] => 0

/-- The UDP checksum of a sum. -/
def foldSum (n : Nat) : Nat :=
  let n := n % 65536 + n / 65536
  let n := n % 65536 + n / 65536
  let n := n % 65536 + n / 65536
  if 65535 - n = 0 then 65535 else 65535 - n

/-- An eCPRI message to a session in an Ethernet frame without FCS (R313, R353): over Ethernet, or over UDP/IPv6. -/
def State.ecpriFrame (s : State) (own : Nat) (msg : List Byte) : List Byte :=
  let src := fun i => s.get (R.SESS_SRC_WORD own i)
  let mac := beBytes 6 (src 1 % 65536 * 2 ^ 32 + src 0) ++ beBytes 6 s.stationMac
  let tag := if s.flag R.HP_CTRL_VLAN_EN then
      beBytes 2 0x8100 ++ beBytes 2 (s.get R.HP_VLAN_PCP * 8192 + s.get R.HP_VLAN_VID) else []
  if s.get R.HP_CTRL_XPORT = 0 then mac ++ tag ++ beBytes 2 0xAEFE ++ msg
  else
    let len := msg.length + 8
    let port := beBytes 2 (s.get R.HP_UDP_PORT)
    let addrs := beBytes 16 s.stationIp6 ++ beBytes 16 (((src 2 * 2 ^ 32 + src 3) * 2 ^ 32 + src 4) * 2 ^ 32 + src 5)
    let sum := foldSum (onesSum (addrs ++ beBytes 4 len ++ beBytes 4 17 ++ port ++ port ++ beBytes 2 len ++ [0, 0] ++ msg))
    mac ++ tag ++ beBytes 2 0x86DD ++ beBytes 4 0x60000000 ++ beBytes 2 len ++ [17, 64] ++ addrs
      ++ port ++ port ++ beBytes 2 len ++ beBytes 2 sum ++ msg

/-- A type 0 message (R341, R342): stream, sequence number, the two header words, and what follows. -/
def iqPacket (id seq w0 w1 : Nat) (body : List Byte) : List Byte :=
  [0x10, 0x00] ++ beBytes 2 (12 + body.length) ++ beBytes 2 id ++ beBytes 1 seq ++ [0x80] ++ beBytes 4 w0 ++ beBytes 4 w1 ++ body

/-- The next sequence number of an egress stream (R341). -/
def State.nextSeq (s : State) (id : Nat) : Nat × State :=
  let n := (look s.sp.seqOut id).getD 0
  (n, s.modSp fun x => { x with seqOut := insertKey x.seqOut id ((n + 1) % 256) })

/-- A message is posted to LQ0 of a port with the burst's instant (R360, R361); a full queue drops and counts it. -/
def State.postUplink (s : State) (cs port at0 : Nat) (first : Bool) (l : List Byte) : State :=
  if 64 ≤ s.lqLen port 0 then s.count (R.SP_WIN1_HI 1 cs)
  else s.modLq port fun x => x ++ [{ queue := 0, at_ := at0, first := first, oneStep := none, bytes := l }]

/-- A field of a CS_UL_FMT word. -/
def fmtOf (f : Nat → Field) (w : Nat) : Nat := (f 0).of (BitVec.ofNat 32 w)

/-- UL_BURST_POST (R346, R360): the complete sum of a symbol is compressed and posted as one burst to the session that owned its slot. -/
def State.burstPost (s : State) (cs k n : Nat) : State :=
  match s.sumOf cs k n, s.ulSym cs k n with
  | some f, some y =>
    let rb := y.rb
    if s.worker || f.unit ≠ unitsOf rb then s
    else
      let posted := y.localAt + 12 * rb + 35 + s.treeD k * 212
      let s := (s.advanceTo posted).modCasc fun x =>
        { x with sums := x.sums.filter fun g => !(g.cs == cs && g.frame == k && g.sym == n) }
      let own := y.own
      if 16 ≤ own then s
      else
        let at0 := (s.timeAt (posted + fmtOf R.CS_UL_FMT_UL_ADD y.fmt)).toNat
        let p := fmtOf R.CS_UL_FMT_P_MSG y.fmt
        let port := fmtOf R.CS_UL_FMT_PORT y.fmt
        let comp := fmtOf R.CS_UL_FMT_COMP y.fmt
        let parts := List.range (ceilDiv rb (max 1 p))
        let flags := f.tails.foldl (fun l t => updAt l t.2 fun g => g.map (· ||| 8)) f.flags
        let msgs := (List.range f.rows.length).flatMap fun i => parts.map fun j => (i, j)
        forAll msgs (fun (i, j) s =>
          let p0 := j * p
          let p1 := min (p0 + p) rb
          let (blocks, ovf) := compressRow comp (fmtOf R.CS_UL_FMT_SHIFT y.fmt) p0 p1 (f.rows.getD i [])
          let s := s.countBy R.SP_CNT4_COMP_OVF ovf
          let id := 2 ^ 13 + cs * 2 ^ 10 + (s.lbase .ul cs + i) * 32
          let (seq, s) := s.nextSeq id
          let body := flagField (s.get (R.BF_LMAP_GRAN 1 cs)) p0 p1 (flags.getD i []) ++ blocks
          let m := iqPacket id seq (k % 1024 * 2 ^ 22 + n * 2 ^ 10 + comp * 64) (p0 * 2 ^ 23 + (p1 - p0) * 2 ^ 14) body
          s.postUplink cs port at0 (i == 0 && j == 0) (s.ecpriFrame own m)) s
  | _, _ => s

/-- PRACH_ROW_LAUNCH (R362): an engine's complete rows leave as one burst, in order of beam and then repetition. -/
def State.prachLaunch (s : State) (o : Nat) : State :=
  match (s.prx o).endAt with
  | none => s
  | some e =>
    let cs := (s.prx o).cs
    let k := (s.prx o).frame
    let own := (s.prx o).own
    let done := e + s.prBase k + s.treeD k * 4608
    let s := s.advanceTo done
    if s.worker ∨ 16 ≤ own then s
    else
      let (base, len, size) := s.beamRows o
      let reps := (s.prx o).reps
      let at0 := (s.timeAt (done + (s.prx o).prAdd)).toNat
      let comp := fmtOf R.CS_UL_FMT_COMP (s.prx o).fmt
      let prbs := ceilDiv len 12
      forAll (List.range ((s.prx o).beams.length * reps)) (fun x s =>
        let row := unpackSums len (s.bytes (base + x * size) size)
        let (blocks, ovf) := compressRow comp (fmtOf R.CS_UL_FMT_SHIFT (s.prx o).fmt) 0 prbs row
        let s := s.countBy R.SP_CNT4_COMP_OVF ovf
        let id := 2 ^ 14 + o * 2 ^ 12 + x / reps * 512 + x % reps * 32
        let (seq, s) := s.nextSeq id
        let fl := (s.casc.prFlags.getD o []).getD x 0
        let m := iqPacket id seq ((s.prx o).frame % 1024 * 2 ^ 22 + comp * 64) (prbs * 2 ^ 14 + fl % 16 * 1024) blocks
        s.postUplink cs (fmtOf R.CS_UL_FMT_PORT (s.prx o).fmt) at0 (x == 0) (s.ecpriFrame own m)) s

/-- A write of a register of the host port block, the section plane's part included (R312, R349, R365). -/
def writeHP (r : RegRow) (ix : List Nat) (a : Nat) (v : Word) (s : State) : Wr :=
  let i := ix.getD 0 0
  let direct := s.plainWrite r a v
  let no := refuse R.HP_STATUS_WR_REFUSED s
  match r.id with
  | .HP_CTRL => s.hpCtrl v
  | .HP_CNT_CLR => .ok (doIf (v.toNat.testBit 0) (fun s => forAll hpCounters (fun a s => s.setReg a 0) s) s)
  | .LQ_DESC1 => if R.LQ_DESC1_QUEUE.of v = 0 then no else .ok direct
  | .LQ_POST => .ok (doIf (v.toNat.testBit 0) State.lqPost s)
  | .SP_CFG => let c := R.SP_CFG_C_OPEN.of v; if c = 0 ∨ 4800 < c then no else .ok direct
  | .SP_CNT_CLR =>
    .ok (doIf (v.toNat.testBit 0) (fun s =>
      let l := [R.SP_CNT0, R.SP_CNT1, R.SP_CNT2, R.SP_CNT3, R.SP_CNT4] ++
        (List.range 16).flatMap fun x => [R.SP_WIN0 (x / 8) (x % 8), R.SP_WIN1 (x / 8) (x % 8)]
      forAll l (fun a s => s.setReg a 0) s) s)
  | .CS_UL_FMT =>
    let p := (R.CS_UL_FMT_P_MSG i).of v
    let comp := (R.CS_UL_FMT_COMP i).of v
    if p = 0 ∨ 273 < p ∨ 6 < (R.CS_UL_FMT_SHIFT i).of v ∨ 8 < comp ∨ (R.CS_UL_FMT_UL_ADD i).of v < 64 ∨ 9216 < s.ulLength i (min p (s.slotRB .ul i)) comp then no
    else .ok (doIf (!s.active .ul i) (fun s => s.apply (R.CS_UL_FMT i)) direct)
  | .CS_UL_PR => if (R.CS_UL_PR_PR_ADD i).of v < 64 then no else .ok (doIf (!s.active .ul i) (fun s => s.apply (R.CS_UL_PR i)) direct)
  | _ => .ok direct

/-- CS_UL_FMT and CS_UL_PR of a slot apply at its uplink frame boundary. -/
def State.applyUlFmt (cs : Nat) (s : State) : State := (s.apply (R.CS_UL_FMT cs)).apply (R.CS_UL_PR cs)

/-! ### Meanings -/

/-- UL_BURST_POST (R360). -/
def execUlBurstPost (cs frame sym : Nat) (s : State) : Host.Outcome State Fault Refusal := .next (s.burstPost cs frame sym)

/-- PRACH_ROW_LAUNCH (R362). -/
def execPrachRowLaunch (o : Nat) (s : State) : Host.Outcome State Fault Refusal := .next (s.prachLaunch o)

end Sys2Proof.Machine
end

