-- ==== Sys2Proof/Machine/Calibration.lean ====
section
/-! DEFINITION. Array calibration: the factory record, temperature, targets and slews, field jobs (chapter 13). -/

namespace Sys2Proof.Machine

/-- Update the sequencer's own state. -/
def State.modCal (s : State) (f : CalX → CalX) : State := { s with cal := f s.cal }

/-! ### The factory record (R393 to R395, R407) -/

/-- The first address of CSTORE. -/
def cstore : Nat := 0x5000000

/-- The end of the factory record in CSTORE (R393). -/
def recordEnd : Nat := 0x155000

/-- The field region (R407). -/
def fieldBase : Nat := cstore + 0x155000

/-- `n` bytes of CSTORE as a number, least significant first (R407). -/
def State.cs (s : State) (off n : Nat) : Nat := leNat (s.bytes (cstore + off) n)

/-- The factory set of a frequency point at a temperature point. -/
def setOff (fp t : Nat) : Nat := 0x1000 + 0x11000 * (5 * fp + t)

/-- A 32-bit field of a chain's record (R407). -/
def State.recWord (s : State) (fp t ch f : Nat) : Nat := s.cs (setOff fp t + 0x400 * ch + f) 4

/-- The directory entry of a frequency point: valid, the carrier code of its centre, FSPAN in MHz. -/
def State.fpEntry (s : State) (fp : Nat) : Bool × Nat × Nat :=
  (s.cs (0x10 + 16 * fp + 12) 4 ≠ 0, s.cs (0x10 + 16 * fp) 8, s.cs (0x10 + 16 * fp + 8) 4)

/-- The frequency point whose range, FSPAN wide about its centre, holds an LO frequency; the lowest of several (R395). -/
def State.fpOf (s : State) (code : Nat) : Option Nat :=
  (List.range 4).find? fun fp =>
    let (v, c, span) := s.fpEntry fp
    v && ((code : Int) - c).natAbs * 49152 * 2 ≤ span * 100 * 2 ^ 37

/-- The digest of the record as it stands, and whether no word of it is poisoned (R393, R482). -/
def State.recordDigest (s : State) : Nat := Config.sha384 (s.bytes cstore recordEnd)

/-- Whether a poisoned word lies in the record. -/
def State.recordPoisoned (s : State) : Bool :=
  s.memx.words.any fun w => w.2 && cstore ≤ 16 * w.1 && 16 * w.1 < cstore + recordEnd

/-- The drifts are saved in the field region with the time of the save (R402): the words of CAL_DTX and CAL_DRX, then X_PH. -/
def State.saveDrifts (s : State) : State :=
  let l := (List.range 64).flatMap fun ch => leBytes 4 (s.reg (R.CAL_DTX ch)).toNat ++ leBytes 4 (s.reg (R.CAL_DRX ch)).toNat
  s.storeMem fieldBase (l ++ leBytes 4 (s.get R.CAL_XPH_X_PH) ++ timeBytes s.time)

/-- The drifts are loaded from the field region (R408). -/
def State.loadDrifts (s : State) : State :=
  let s := forAll (List.range 64) (fun ch s =>
    (s.setReg (R.CAL_DTX ch) (BitVec.ofNat 32 (leNat (s.bytes (fieldBase + 8 * ch) 4)))).setReg (R.CAL_DRX ch)
      (BitVec.ofNat 32 (leNat (s.bytes (fieldBase + 8 * ch + 4) 4)))) s
  s.put R.CAL_XPH_X_PH (leNat (s.bytes (fieldBase + 512) 4))

/-! ### Targets (R391, R396, R397, R402, R404) -/

/-- The calibration temperatures, in 0.125 °C. -/
def calTemps : List Int := [-320, 0, 320, 640, 880]

/-- The two sets that a quadrant's quantities come from with the part of the way between them (R396). -/
def State.setPair (s : State) (q : Nat) : Nat × Nat × Int × Int :=
  if s.flag R.CAL_CFG_TMODE then
    let t := s.getS (R.CAL_QSTAT_TEMP q)
    let i := ((List.range 5).filter fun k => calTemps.getD k 0 ≤ t).length
    if i = 0 then (0, 0, 0, 1)
    else if i = 5 then (4, 4, 0, 1)
    else (i - 1, i, t - calTemps.getD (i - 1) 0, calTemps.getD i 0 - calTemps.getD (i - 1) 0)
  else (s.get (R.CAL_QSTAT_BAND q), s.get (R.CAL_QSTAT_BAND q), 0, 1)

/-- A signed field of a record word interpolated and rounded convergently (R397). -/
def State.lerpField (s : State) (q ch f lo w : Nat) : Int :=
  let (a, b, num, den) := s.setPair q
  let fp := s.get (R.CAL_QSTAT_FP q)
  let x (t : Nat) : Int := toInt w (s.recWord fp t ch f >>> lo)
  roundDiv (x a * den + (x b - x a) * num) den.toNat

/-- Gain and phase of a Q2.14 value; of zero, for which the spec states none, those that a free value gives. -/
def polarQ14 (fr : Nat) (z : Int × Int) : Int × Int :=
  if z = (0, 0) then (toInt 56 fr, toInt 48 (fr / 2 ^ 56)) else (dbQ14 z, argOf z)

/-- Gain and phase of a factory element correction at the quadrant temperature (R397). -/
def State.factoryCorr (s : State) (q ch f : Nat) : Int × Int :=
  let (a, b, num, den) := s.setPair q
  let fp := s.get (R.CAL_QSTAT_FP q)
  let x := polarQ14 s.freeVal (iqOf (s.recWord fp a ch f))
  let y := polarQ14 s.freeVal (iqOf (s.recWord fp b ch f))
  (lerp x.1 y.1 num den, lerpArc x.2 y.2 num den)

/-- A drift register as gain and phase. -/
def driftOf (w : Word) : Int × Int := (ofCentiDb (toInt 16 w.toNat), ofCentiDeg (toInt 16 (w.toNat / 65536)))

/-- The target of a chain's CORR: the factory correction over the drift (R402). `d` = 0 TX, 1 RX. -/
def State.corrTarget (s : State) (d ch : Nat) : Int × Int :=
  let c := s.factoryCorr (quadOf ch) ch (if d = 0 then 0x00C else 0x010)
  let r := driftOf (s.reg (if d = 0 then R.CAL_DTX ch else R.CAL_DRX ch))
  (c.1 - r.1, c.2 - r.2)

/-- The address of a chain's CORR word in the steering geometry (R225). -/
def corrAddr (d ch : Nat) : Nat := geomBase + 0x400 + 0x100 * d + 4 * ch

/-- One frame's move of a CORR value toward its target: within one step in phase and in gain it takes the target's (R403). -/
def corrMove (ph g : Nat) (cur tgt : Int × Int) : Int × Int :=
  let dp := foldTurn (tgt.2 - cur.2)
  let sp : Int := roundDiv (ph * 2 ^ 48) 3600
  let sg : Int := roundDiv (g * 2 ^ 48) 100
  (if (tgt.1 - cur.1).natAbs ≤ sg then tgt.1 else slewTo sg cur.1 tgt.1,
   if dp.natAbs ≤ sp then tgt.2 else if 0 < dp then cur.2 + sp else cur.2 - sp)

/-- A CORR value moves (R403); whether it did. -/
def State.moveCorr (s : State) (d ch : Nat) : State × Bool :=
  let a := corrAddr d ch
  let w := leNat (s.bytes a 4)
  let t := s.corrTarget d ch
  let goal := fromPolar t.1 t.2
  if iqWord goal = w then (s, false)
  else
    let fresh := iqOf w == (0, 0)
    let c := polarQ14 s.freeVal (iqOf w)
    let n := corrMove (s.get R.CAL_CFG_PH_STEP) (s.get R.CAL_CFG_G_STEP) c t
    let v := iqWord (fromPolar n.1 n.2)
    let s := doIf fresh State.freeNext s
    if v = w then (s, false) else (s.storeMem a (leBytes 4 v), true)

/-- A field target: the factory value with what jobs added, saturated. -/
def State.refined (s : State) (key q ch f lo w : Nat) (high : Bool) : Nat :=
  let r := (look s.cal.refine key).getD (0, 0)
  ofInt w (satS w (s.lerpField q ch f lo w + (if high then r.2 else r.1)))

/-- The QLO trim target of a quadrant in 0.1° (R397, R404): factory trim along the shorter arc, less X_PH. -/
def State.trimTarget (s : State) (q : Nat) : Nat :=
  let (a, b, num, den) := s.setPair q
  let fp := s.get (R.CAL_QSTAT_FP q)
  let x (t : Nat) : Int := toInt 16 (s.cs (setOff fp t + 0x10000 + 2 * q) 2)
  let d := (x b - x a + 1800) % 3600 - 1800
  let xph := roundShift (s.getS R.CAL_XPH_X_PH * 3600) 32
  ((roundDiv (x a * den + d * num) den.toNat - xph) % 3600).toNat

/-- The sequencer writes the IQ, leakage and trim targets of a quadrant into the shadows (R391); the slews of R74 and R93 follow, at once in a
direction with no slot in force (R63). -/
def State.writeTargets (q : Nat) (s : State) : State :=
  if s.flag R.CAL_CTRL_EN && s.flag R.CAL_STATUS_REC_OK && s.cal.fpSet.testBit q then
    let s := forAll (chainsOf q) (fun ch s =>
      let s := (s.put (R.TX_IQ_GAIN ch) (s.refined (4 * ch) q ch 0 0 16 false)).put (R.TX_IQ_PHASE ch)
        (s.refined (4 * ch) q ch 0 16 16 true)
      let s := (s.put (R.RX_IQ_GAIN ch) (s.refined (4 * ch + 1) q ch 4 0 16 false)).put (R.RX_IQ_PHASE ch)
        (s.refined (4 * ch + 1) q ch 4 16 16 true)
      let s := (s.put (R.TX_LOL_LOL_I ch) (s.refined (4 * ch + 2) q ch 8 0 12 false)).put (R.TX_LOL_LOL_Q ch)
        (s.refined (4 * ch + 2) q ch 8 16 12 true)
      let s := doIf (s.activeOn .dl q).isEmpty (State.applyTx ch) (s.showSlewing ch)
      doIf (s.activeOn .ul q).isEmpty (State.applyRx ch) s) s
    let t := s.trimTarget q
    let s := (s.put (R.QLO_CFG_TRIM q) t).put (R.QLO_PHASE_SLEWING q) (b2n (s.get (R.QLO_PHASE_TRIM_NOW q) ≠ t))
    doIf ((s.activeOn .dl q).isEmpty && (s.activeOn .ul q).isEmpty) (State.applyTrim q) s
  else s

/-- The offset tables of a quadrant's chains are loaded from the set of the band in force (R68, R391, R396). -/
def State.loadTables (q : Nat) (s : State) : State :=
  if s.flag R.CAL_CTRL_EN && s.flag R.CAL_STATUS_REC_OK && s.cal.fpSet.testBit q then
    let fp := s.get (R.CAL_QSTAT_FP q)
    let t := s.get (R.CAL_QSTAT_BAND q)
    forAll (chainsOf q) (fun ch s =>
      s.askDcoLoad ch ((List.range 61).map fun i => BitVec.ofNat 32 (s.recWord fp t ch (0x40 + 4 * i)))) s
  else s

/-- A quadrant's frequency point is chosen for the LO in force and its targets are written (R395). -/
def State.chooseFp (q : Nat) (s : State) : State :=
  if s.flag R.CAL_CTRL_EN && s.flag R.CAL_STATUS_REC_OK then
    match s.fpOf (s.loCode q) with
    | some fp =>
      let s := (s.put (R.CAL_QSTAT_FP q) fp).clearBit R.CAL_STATUS_UNCAL q
      let s := s.modCal fun x => { x with fpSet := setBit x.fpSet q true }
      (s.writeTargets q).loadTables q
    | none => (s.raiseBit R.CAL_STATUS_UNCAL q).event (.calUncal q)
  else s

/-! ### Jobs (R389, R390, R398 to R402, R404 to R406) -/

/-- Whether a job's measurement uses the borrowed ORX on CALRX. -/
def CalJobX.onOrx (j : CalJobX) (s : State) : Bool := j.kind == 1 || (j.kind == 5 && s.ownDa ≠ s.get R.CAL_REF_XREF)

/-- The calibration switch moves to CALRX unless the borrowed ORX is capturing (R389). -/
def State.moveSwitch (s : State) : State :=
  let n := s.get R.CAL_CFG_RXORX
  let capturing := (List.range 8).any fun k => s.capState k == 2 && s.get (R.CAP_CFG_TAP k) == 4 && s.get (R.CAP_CFG_CH k) / 8 == n
  if capturing then s else (s.put R.CAL_STATUS_SW_NOW 1).put (R.ORX_CFG_BUSY n) 1

/-- The switch moves back to the board input. -/
def State.releaseSwitch (s : State) : State :=
  if s.get R.CAL_STATUS_SW_NOW = 0 then s
  else (s.put R.CAL_STATUS_SW_NOW 0).put (R.ORX_CFG_BUSY (s.get R.CAL_CFG_RXORX)) 0

/-- Whether the quadrants of a job share the LO of the borrowed ORX's quadrant (R389). -/
def State.sameLo (s : State) (qmask : Nat) : Bool :=
  (quadsOf qmask).all fun q => s.loCode q == s.loCode (s.get R.CAL_CFG_RXORX / 2)

/-- Whether an element takes part in an alignment job: PRESENT, and the record's valid bit set (R402). -/
def State.takesPart (s : State) (kind ch : Nat) : Bool :=
  (s.byte (geomBase + 16 * ch + 12)).toNat.testBit 0
    && (s.recWord (s.get (R.CAL_QSTAT_FP (quadOf ch))) (s.get (R.CAL_QSTAT_BAND (quadOf ch))) ch 0x1C).testBit (if kind = 1 then 0 else 1)

/-- The chains a job measures, lowest first. -/
def State.jobChains (s : State) (kind qmask : Nat) : List Nat :=
  match kind with
  | 1 => ((quadsOf qmask).flatMap chainsOf).filter (s.takesPart 1)
  | 2 => ((quadsOf qmask).flatMap chainsOf).filter (s.takesPart 2)
  | 3 => (quadsOf qmask).flatMap chainsOf
  | 4 => (quadsOf qmask).flatMap chainsOf
  | _ => []

/-- What R400 watches: the codes of the chains under measurement and the LO of their quadrants. -/
def State.calSnap (s : State) (j : CalJobX) : List Nat :=
  j.current.flatMap fun ch => [s.wget (R.TX_ATT_ATT ch), s.wget (R.RX_GAIN_GAIN ch), s.loCode (quadOf ch)]

/-- Whether a condition of R400 holds for the measurement in hand. -/
def State.spoils (s : State) (j : CalJobX) : Bool :=
  (j.kind == 1 || j.kind == 2) && ((j.marked && s.calSnap j ≠ j.snap) || j.current.any fun ch =>
    !s.fbit R.LO_STATUS_LO_READY (quadOf ch) ||
    (if j.kind = 1 then
      s.dacSource ch || (s.chain ch).zero || s.pdBypassed ch s.now || (s.pdState ch ≠ pdBypass && s.pdState ch ≠ pdSteady)
    else s.hold.convHold.testBit (quadOf ch) || s.hold.convDead.testBit (quadOf ch)))

/-- A job's current chains become STALE once its first symbol has begun, and conditions of R400 are noted (R400, R405). -/
def State.calWatch (s : State) : State :=
  match s.cal.job with
  | some j =>
    if j.from0 ≤ s.now && s.flag R.CAL_STATUS_BUSY then
      let s := doIf (!j.marked) (forAll j.current (State.setStale · true)) s
      let j := if j.marked then j else { j with marked := true, snap := s.calSnap j }
      s.modCal fun x => { x with job := some { j with spoilt := j.spoilt || s.spoils j } }
    else s
  | none => s

/-- The cycle from which a job's first measurement may use symbols: GO, or the start symbol named (R398). -/
def State.calFrom (s : State) (j : CalJobX) : Nat :=
  match j.start with
  | some (f, n) =>
    let mu := s.get (R.SLOT_MU_TBL_MU (s.bankAt j.dir s.now))
    s.symBoundary j.dir mu (frameFrom j.goFrame f).toNat n
  | none => s.now

/-- A job turns to its next measurement: the first symbol that it can use is sought from cycle `c`. -/
def State.calNext (s : State) (j : CalJobX) (c : Nat) : State :=
  let j := { j with from0 := c, spoilt := false, marked := false }
  let first := match s.calWindow { j with from0 := c } with
    | some (b, _) => b
    | none => c
  s.modCal fun x => { x with job := some { j with from0 := max c (if j.kind = 6 then j.goAt else first), snap := [] } }

/-- A job ends (R398, R402, R406): RESULT, the switch, STALE, the saved drifts, its command's completion. -/
def State.endCalJob (s : State) (st : Status) : State :=
  match s.cal.job with
  | some j =>
    let s := forAll j.current (State.setStale · false) s
    let s := doIf (j.kind == 6) (fun s => s.put (R.TEMP_STALE j.sensor) 0) s
    let s := s.modCal fun x => { x with job := none }
    let s := ((s.releaseSwitch.put R.CAL_STATUS_BUSY 0).put R.CAL_GO_RESULT (statusCode st)).saveDrifts
    s.completeJob j.cmd st []
  | none => s

/-- The response of a chain that the factory measured: A_TX or A_RX of the set in force (R402). -/
def State.aOf (s : State) (kind ch : Nat) : Int × Int :=
  let q := quadOf ch
  iqOf (s.recWord (s.get (R.CAL_QSTAT_FP q)) (s.get (R.CAL_QSTAT_BAND q)) ch (if kind = 1 then 0x14 else 0x18))

/-- A quotient of complex numbers scaled by 2^40; of a zero divisor, for which the spec states none, a free value. -/
def cdiv (fr : Nat) (a b : Int × Int) : Int × Int :=
  let n := b.1 * b.1 + b.2 * b.2
  if n = 0 then (toInt 64 fr, toInt 64 (fr / 2 ^ 64))
  else (roundDiv ((a.1 * b.1 + a.2 * b.2) * 2 ^ 40) n.toNat, roundDiv ((a.2 * b.1 - a.1 * b.2) * 2 ^ 40) n.toNat)

/-- The responses of an alignment job become drifts (R402). Outliers keep theirs, are counted and raise CAL_OUTLIER once. -/
def State.drifts (s : State) (kind : Nat) (l : List (Nat × (Int × Int))) : State :=
  let r : List (Nat × (Int × Int)) := l.map fun m => (m.1, cdiv s.freeVal m.2 (s.aOf kind m.1))
  let sum := r.foldl (fun (a : Int × Int) x => (a.1 + x.2.1, a.2 + x.2.2)) (0, 0)
  let d : List (Nat × (Int × Int) × (Int × Int)) := r.map fun x => (x.1, x.2, (x.2.1 * l.length, x.2.2 * l.length))
  let pol : List (Nat × Option (Int × Int)) := d.map fun (ch, z, zn) =>
    if z = (0, 0) then (ch, none)
    else
      let g := if sum = (0, 0) then toInt 56 s.freeVal else dbOf zn - dbOf sum
      let a := if sum = (0, 0) then toInt 48 (s.freeVal / 2 ^ 56) else foldTurn (argOf z - argOf sum)
      (ch, some (g, a))
  let out (p : Option (Int × Int)) : Bool := match p with
    | none => true
    | some (g, a) => (s.get R.CAL_LIM_OUT_G : Int) * 2 ^ 48 < 10 * g.natAbs || (s.get R.CAL_LIM_OUT_PH : Int) * 2 ^ 48 < 360 * a.natAbs
  let s := forAll pol (fun (ch, p) s =>
    match p with
    | some (g, a) =>
      if out p then s
      else s.setReg (if kind = 1 then R.CAL_DTX ch else R.CAL_DRX ch)
        (BitVec.ofNat 32 (ofInt 16 (satS 16 (centiDb g)) + ofInt 16 (centiDeg a) * 65536))
    | none => s) s
  let bad := (pol.filter fun p => out p.2).map Prod.fst
  let s := s.countBy R.CAL_CNT_OUTLIER bad.length
  let s := doIf (!bad.isEmpty) (fun s => s.event (.calOutlier (bad.foldl (fun m ch => setBit m ch true) 0))) s
  s.freeNext

/-- What a TXIQ or RXIQ measurement adds to the factory corrections, and the new targets (R391, R398). -/
def State.refineBy (s : State) (kind : Nat) (m : CalMeas) : State :=
  let q := quadOf m.ch
  let rel (key f w : Nat) (v : Int × Int) (s : State) : State :=
    s.modCal fun x => { x with refine := insertKey x.refine key (v.1 - s.lerpField q m.ch f 0 w, v.2 - s.lerpField q m.ch f 16 w) }
  let s := if kind = 3 then rel (4 * m.ch + 2) 8 12 m.lol (rel (4 * m.ch) 0 16 m.iq s) else rel (4 * m.ch + 1) 4 16 m.iq s
  s.writeTargets q

/-- A measurement that R400 does not discard: its results, and the end of the job once nothing is left to measure. `mean` is the
cascade's mean that the manager's firmware supplies for XDEV (R404). -/
def State.calTake (s : State) (j : CalJobX) (l : List CalMeas) (mean : Int × Int) : State :=
  let cur := j.current
  let s := forAll cur (State.setStale · false) s
  let got := j.got ++ (l.filter fun m => cur.contains m.ch).map fun m => (m.ch, m.m)
  let left := j.todo.filter fun ch => !cur.contains ch
  let s := doIf (j.kind == 3 || j.kind == 4) (forAll (l.filter fun m => cur.contains m.ch) fun m s => s.refineBy j.kind m) s
  let j := { j with todo := left, got := got }
  let s := s.modCal fun x => { x with job := some j }
  if left = [] then
    let s := match j.kind with
      | 1 => s.drifts 1 got
      | 2 => s.drifts 2 got
      | 5 =>
        let ax := iqOf (s.cs (setOff (s.get (R.CAL_QSTAT_FP 0)) (s.get (R.CAL_QSTAT_BAND 0)) + 0x10008) 4)
        let m := (l.headD { ch := 0, m := (0, 0), iq := (0, 0), lol := (0, 0) }).m
        let zero := m == (0, 0) || mean == (0, 0)
        let ph : Nat := if s.ownDa = s.get R.CAL_REF_XREF then 0
          else if zero then s.freeVal % 2 ^ 32
          else ofInt 32 (roundShift (argOf m - argOf ax - argOf mean) 16)
        let s := s.put R.CAL_XPH_X_PH ph
        doIf zero State.freeNext (forAll (List.range 4) State.writeTargets s)
      | 6 => s.put (R.SENS_OFS_OFS j.sensor) (ofInt 12 ((l.headD { ch := 0, m := (0, 0), iq := (0, 0), lol := (0, 0) }).m.1))
      | _ => s
    s.endCalJob .ok
  else s.calNext j s.now

/-- CAL_MEASUREMENT_POST (R399 to R405): 2,048 cycles after the last symbol it uses a measurement is posted, or discarded under R400 and
taken again. While a capture holds the borrowed ORX the job has no symbols; once the switch has moved it looks for them anew (R389; DESIGN
CHOICE, log 37: the switch is tried when a measurement is due). -/
def State.calPost (s : State) (l : List CalMeas) (mean : Int × Int) : State :=
  match s.cal.job with
  | some j =>
    let waited := j.onOrx s && s.get R.CAL_STATUS_SW_NOW ≠ 1
    let s := doIf (j.onOrx s) State.moveSwitch s
    if j.onOrx s && s.get R.CAL_STATUS_SW_NOW ≠ 1 then s
    else if waited then s.calNext j s.now
    else
      match s.calWindow j with
      | some (_, e) =>
        let s := s.advanceTo (e + (if j.kind = 6 then 0 else 2048))
        if j.spoilt || s.spoils j then
          let s := forAll j.current (State.setStale · false) s
          (s.count R.CAL_CNT_DISCARD).calNext j s.now
        else s.calTake j l mean
      | none => s
  | none => s

/-- CAL_JOB_TIMEOUT (R398): the results already taken are kept. -/
def State.calTimeout (s : State) : State :=
  match s.cal.job with
  | some j =>
    let s := s.advanceTo (s.calDeadline j)
    let s := if (j.kind = 1 ∨ j.kind = 2) ∧ j.got ≠ [] then s.drifts j.kind j.got else s
    s.endCalJob .timeout
  | none => s

/-- What GO answers (R389, R398, R404, R406): ACCEPTED, or the status that refuses the job; a frozen sequencer (R491) takes none. -/
def State.calCheck (s : State) (j : CalJobX) : Status :=
  if s.cal.job.isSome then .busy
  else if s.frozen 0x5A then .targetFrozen
  else if !s.flag R.CAL_CTRL_EN || !s.radioOn then .stateConflict
  else if j.kind = 0 ∨ 6 < j.kind then .badParam
  else if j.kind = 1 ∧ !s.sameLo j.qmask then .badParam
  else if j.kind < 5 ∧ j.qmask = 0 then .badParam
  else if j.kind = 6 ∧ 23 < j.sensor then .badParam
  else if j.kind = 5 ∧ iqOf (s.cs (setOff (s.get (R.CAL_QSTAT_FP 0)) (s.get (R.CAL_QSTAT_BAND 0)) + 0x10008) 4) = (0, 0) then .badParam
  else .accepted

/-- The job staged in CAL_JOB and CAL_JOB_AT. -/
def State.stagedCal (s : State) (cmd : Option Cmd) : CalJobX where
  kind := s.get R.CAL_JOB_KIND
  qmask := s.get R.CAL_JOB_QMASK
  sensor := s.get R.CAL_JOB_SENSOR
  wait := s.get R.CAL_JOB_WAIT_FRAMES
  start := if s.flag R.CAL_JOB_AT_EN then some (s.get R.CAL_JOB_AT_FRAME, s.get R.CAL_JOB_AT_SYM) else none
  goFrame := s.frameNo s.now
  goAt := s.now
  cmd := cmd
  todo := []
  got := []
  from0 := s.now
  snap := []
  spoilt := false
  marked := false

/-- GO (R398, R405, R406): the job starts, or RESULT shows why not. -/
def State.calGo (s : State) (j : CalJobX) : State × Status :=
  match s.calCheck j with
  | .accepted =>
    let j := { j with todo := s.jobChains j.kind j.qmask }
    let s := (s.put R.CAL_STATUS_BUSY 1).put R.CAL_GO_RESULT (statusCode .accepted)
    let s := doIf (j.kind == 6) (fun s => s.put (R.TEMP_STALE j.sensor) 1) s
    let s := doIf (j.onOrx s) State.moveSwitch s
    let s := s.calNext j (s.calFrom j)
    let s := if j.todo = [] ∧ j.kind < 5 then s.endCalJob .ok else s.calWatch
    (s, .accepted)
  | st =>
    let s := doIf (st == .busy) (fun s => s.raise R.CAL_STATUS_WR_REFUSED) s
    (s.put R.CAL_GO_RESULT (statusCode st), st)

/-- ABORT, and the device leaving ACTIVE (R406). -/
def State.calAbort (s : State) : State := s.endCalJob .aborted

/-- A TUNE has switched over on these quadrants (R395, R406). -/
def State.calSwitched (s : State) (qs : List Nat) : State :=
  let s := forAll qs State.chooseFp s
  match s.cal.job with
  | some j => if j.kind = 1 ∧ !s.sameLo j.qmask then s.endCalJob .aborted else s.calWatch
  | none => s

/-! ### The sequencer's enable and record check (R394, R408) -/

/-- A record check starts: Thistle has 20 ms (R394). -/
def State.startCheck (s : State) (cmd : Option Cmd) : State :=
  s.modCal fun x => { x with checkAt := some s.now, checkCmds := x.checkCmds ++ cmd.toList }

/-- A write of CAL_CTRL.EN (R394). A clear ends the check and the job. -/
def State.calEnWrite (s : State) (v : Bool) (cmd : Option Cmd) : State :=
  let s := s.put R.CAL_CTRL_EN (b2n v)
  if v then
    let s := doIf (s.get R.CAL_CFG_PILOT_ATT < 20) (fun s => s.put R.CAL_CFG_PILOT_ATT 40) s
    s.startCheck cmd
  else
    let l := s.cal.checkCmds
    let s := s.modCal fun x => { x with checkAt := none, checkCmds := [], fresh := 15 }
    let s := forAll l (fun c s => s.complete c .aborted []) s.calAbort
    s.completeJob cmd .ok []

/-- CAL_RECORD_CHECK_DONE (R394, R408). -/
def State.checkDone (s : State) : State :=
  match s.cal.checkAt with
  | some _ =>
    let ok := match s.cal.digests.getLast? with
      | some d => !s.recordPoisoned && d == s.recordDigest
      | none => false
    let l := s.cal.checkCmds
    let s := s.modCal fun x => { x with checkAt := none, checkCmds := [] }
    let s := s.put R.CAL_STATUS_REC_OK (b2n ok)
    if ok then
      let s := if s.cal.loaded then s else (s.loadDrifts).modCal fun x => { x with loaded := true }
      let s := forAll ((List.range 4).filter s.tuned) State.chooseFp s
      forAll l (fun c s => s.complete c .ok []) s
    else
      let s := ((s.put R.CAL_STATUS_UNCAL 15).report (mkReport 0x0F .clsU 0x0010 0)).event .calRecordBad
      forAll l (fun c s => s.complete c .hwFault []) s
  | none => s

/-- A CSTORE bank lost its retention (R394, R406): UNCAL until the record verifies. -/
def State.calRecheck (s : State) : State :=
  if s.flag R.CAL_CTRL_EN then ((s.put R.CAL_STATUS_UNCAL 15).put R.CAL_STATUS_REC_OK 0).startCheck none
  else s.put R.CAL_STATUS_UNCAL 15

/-- The factory commit (R393, R402): the record's digest takes the next free slot and the drifts are cleared. -/
def State.factoryCommit (s : State) : State :=
  let s := s.modCal fun x => { x with digests := x.digests ++ [s.recordDigest], refine := [] }
  let s := forAll (List.range 64) (fun ch s => (s.setReg (R.CAL_DTX ch) 0).setReg (R.CAL_DRX ch) 0) s
  (s.setReg R.CAL_XPH 0).saveDrifts

/-! ### Frame boundaries (R396, R403) -/

/-- The frame average of a sensor: its sum over the number of readings, or its live reading if none came. -/
def State.frameAverage (s : State) (n : Nat) : Int × Nat :=
  match s.pw.acc.getD n (0, 0) with
  | (_, 0) => (s.pw.live.getD n 0, 1)
  | p => p

/-- The calibration temperature and band of a quadrant are evaluated (R396). -/
def State.calTemp (q : Nat) (s : State) : State :=
  let (num, den) := s.frameAverage (s.get (R.PD_TSEL_SENSOR q))
  let b := s.get (R.CAL_QSTAT_BAND q)
  let n := if s.cal.fresh.testBit q then bandPlain num den else bandStep num den 5 b
  let s := s.modCal fun x => { x with fresh := setBit x.fresh q false }
  let s := (s.put (R.CAL_QSTAT_TEMP q) (ofInt 12 (roundDiv num den))).put (R.CAL_QSTAT_BAND q) n
  doIf (n ≠ b) (State.loadTables q) (s.writeTargets q)

/-- A frame boundary in the sequencer (R392, R396, R403). -/
def State.calFrame (s : State) : State :=
  if s.flag R.CAL_CTRL_EN then
    let s := forAll (List.range 4) State.calTemp s
    let (s, moved) := ((List.range 2).flatMap fun d => (List.range 64).map (d, ·)).foldl (fun (acc : State × Bool) (p : Nat × Nat) =>
      if acc.1.flag R.CAL_STATUS_REC_OK && acc.1.cal.fpSet.testBit (quadOf p.2) then
        let (s, m) := acc.1.moveCorr p.1 p.2
        (s, acc.2 || m)
      else acc) (s, false)
    (doIf moved (fun s => s.event (.calCorrMoved s.sfn)) s).calWatch
  else s

/-! ### Register writes -/

/-- A write of a register of the calibration block (R398, R406, R22). -/
def writeCAL (r : RegRow) (_ix : List Nat) (a : Nat) (v : Word) (s : State) : Wr :=
  let no := refuse R.CAL_STATUS_WR_REFUSED s
  match r.id with
  | .CAL_CFG =>
    let p := R.CAL_CFG_PILOT_ATT.of v
    if p < 20 ∨ 60 < p ∨ R.CAL_CFG_NAVG.of v = 0 then no
    else if s.flag R.CAL_STATUS_BUSY && (s.plainWrite r a v).reg a != s.reg a then no
    else .ok (s.plainWrite r a v)
  | .CAL_CTRL => .ok (s.calEnWrite (v.toNat.testBit 31) none)
  | .CAL_JOB =>
    let k := R.CAL_JOB_KIND.of v
    if k = 0 ∨ k = 7 ∨ (k = 6 ∧ 23 < R.CAL_JOB_SENSOR.of v) then no else .ok (s.plainWrite r a v)
  | .CAL_GO =>
    let s := doIf (v.toNat.testBit 1) State.calAbort s
    .ok (if v.toNat.testBit 0 then (s.calGo (s.stagedCal none)).1 else s)
  | .CAL_CNT_CLR => .ok (doIf (v.toNat.testBit 0) (fun s => s.setReg R.CAL_CNT 0) s)
  | _ => .ok (s.plainWrite r a v)

/-! ### Meanings -/

/-- CAL_EN_WRITE (R394). -/
def execCalEnWrite (v : Bool) (s : State) : Host.Outcome State Fault Refusal := .next (s.calEnWrite v none)

/-- CAL_RECORD_CHECK_DONE (R394). -/
def execCalRecordCheckDone (s : State) : Host.Outcome State Fault Refusal := .next s.checkDone

/-- CAL_GO (R398). -/
def execCalGo (s : State) : Host.Outcome State Fault Refusal := .next (s.calGo (s.stagedCal none)).1

/-- CAL_GO_ABORT (R398). -/
def execCalGoAbort (s : State) : Host.Outcome State Fault Refusal := .next s.calAbort

/-- CAL_MEASUREMENT_POST (R402). -/
def execCalMeasurementPost (l : List CalMeas) (mean : Int × Int) (s : State) : Host.Outcome State Fault Refusal :=
  .next (s.calPost l mean)

/-- CAL_JOB_TIMEOUT (R398). -/
def execCalJobTimeout (s : State) : Host.Outcome State Fault Refusal := .next s.calTimeout

end Sys2Proof.Machine
end

