-- ==== Sys2Proof/Machine/Stile.lean ====
section
/-! DEFINITION. Arbitration and stiles (R486, R487, R503 to R505). -/

namespace Sys2Proof.Machine

/-- Update the fabric's own state. -/
def State.modFab (s : State) (f : FabX → FabX) : State := { s with fab := f s.fab }

/-! ### Arbitration (R486, R487) -/

/-- The class of a requester (FAB_CLASS). -/
def State.fabClass (s : State) (mid : Nat) : Nat :=
  bits (s.reg (R.FAB_CLASS (mid / 16))).toNat (2 * (mid % 16) + 1) (2 * (mid % 16))

/-- A requester's age at an arbiter. -/
def State.age (s : State) (t mid : Nat) : Nat := (look s.fab.ages (256 * t + mid)).getD 0

/-- The order of a MID after the one last granted, taken cyclically. -/
def State.turnOf (s : State) (t mid : Nat) : Nat :=
  match look s.fab.granted t with
  | some g => (mid + 255 - g) % 256
  | none => mid

/-- The requester that an arbiter grants: the highest class plus age, and of equals the first after the last one granted (R486). -/
def State.winner (s : State) (t : Nat) (reqs : List Nat) : Option Nat :=
  reqs.foldl (fun best m =>
    match best with
    | none => some m
    | some b =>
      let pm := s.fabClass m + s.age t m
      let pb := s.fabClass b + s.age t b
      if pb < pm ∨ (pm = pb ∧ s.turnOf t m < s.turnOf t b) then some m else some b) none

/-- A decision of arbiter `t` among the requests present (R486, R487): the winner's age becomes 0, the others gain 1 up to 3, and
those that have withdrawn lose theirs. -/
def State.arbitrate (s : State) (t : Nat) (reqs : List Nat) : State × Option Nat :=
  let w := s.winner t reqs
  let kept := s.fab.ages.filter fun p => p.1 / 256 ≠ t
  let ages := reqs.foldl (fun l m => if some m = w then l else insertKey l (256 * t + m) (min 3 (s.age t m + 1))) kept
  match w with
  | some m => (s.modFab fun x => { x with ages := ages, granted := insertKey x.granted t m }, w)
  | none => (s.modFab fun x => { x with ages := ages }, none)

/-! ### Stiles (R503 to R505) -/

/-- State of a stile: 0 FREE, 1 HELD, 2 BROKEN, 3 RECOVERING. -/
def State.stile (s : State) (i : Nat) : Nat := s.get (R.STILE_PEEK_STATE i)

/-- The MID a stile carries. -/
def State.stileMid (s : State) (i : Nat) : Nat := s.get (R.STILE_PEEK_MID i)

/-- A stile takes a state and a MID. -/
def State.setStile (s : State) (i st mid : Nat) : State := (s.put (R.STILE_PEEK_STATE i) st).put (R.STILE_PEEK_MID i) mid

/-- A read of STILE[i] by a master (R503): the state after it, RESULT (0 BUSY, 1 GRANT, 2 BROKEN, 3 OWN) and MID. -/
def State.stileRead (s : State) (mid i : Nat) : State × Nat × Nat :=
  match s.stile i with
  | 0 => (s.setStile i 1 mid, 1, mid)
  | 2 => (s.setStile i 3 mid, 2, s.stileMid i)
  | _ => if s.stileMid i = mid then (s, 3, mid) else (s, 0, s.stileMid i)

/-- A refused stile write is counted (R504). -/
def State.stileRefuse (s : State) : State := s.count R.STILE_CNT_REFUSED

/-- RELEASE by a master (R504). -/
def State.stileRelease (s : State) (mid i : Nat) : State :=
  if s.stile i = 1 ∧ s.stileMid i = mid then s.setStile i 0 0 else s.stileRefuse

/-- CLEAN by a master (R504). -/
def State.stileClean (s : State) (mid i : Nat) : State :=
  if s.stile i = 3 ∧ s.stileMid i = mid then s.setStile i 1 mid else s.stileRefuse

/-- A stile that is HELD or RECOVERING breaks (R505): counted, reported, class U. -/
def State.stileBreak (i : Nat) (s : State) : State :=
  if s.stile i = 1 ∨ s.stile i = 3 then
    let mid := s.stileMid i
    let s := (s.setStile i 2 mid).count R.STILE_CNT_BREAKS
    (s.report { unit := 0x06, cls := .clsU, code := 0x0010, addr := 0, info := i, sub := 0, mid := mid }).event (.stileBroken i mid)
  else s

/-- Every stile of a master breaks (R505). -/
def State.breakStiles (s : State) (mid : Nat) : State :=
  forAll ((List.range 64).filter fun i => (s.stile i == 1 || s.stile i == 3) && s.stileMid i == mid) State.stileBreak s

/-! ### Meanings -/

/-- ARBITER_DECISION (R486, R487): a frozen master's requests are withdrawn (R491). -/
def execArbiterDecision (t : Nat) (reqs : List Nat) (s : State) : Host.Outcome State Fault Refusal :=
  .next (s.arbitrate t (reqs.filter fun m => !s.frozen m)).1

/-- STILE_READ (R503): the value returned leaves to the master. -/
def execStileRead (mid i : Nat) (s : State) : Host.Outcome State Fault Refusal :=
  let (s, r, m) := s.stileRead mid i
  .next (s.emit (.fabric mid (R.STILE i) (leBytes 4 (r * 2 ^ 30 + m))))

/-- STILE_RELEASE (R504). -/
def execStileRelease (mid i : Nat) (s : State) : Host.Outcome State Fault Refusal := .next (s.stileRelease mid i)

/-- STILE_CLEAN (R504). -/
def execStileClean (mid i : Nat) (s : State) : Host.Outcome State Fault Refusal := .next (s.stileClean mid i)

/-- STILE_FORCE (R505): a Dehan core breaks a stile; any other master's write is refused. -/
def execStileForce (mid i : Nat) (s : State) : Host.Outcome State Fault Refusal :=
  .next (if mid < 4 then State.stileBreak i s else s.raise R.FAB_STATUS_WR_REFUSED)

end Sys2Proof.Machine
end

