-- ==== Sys2Proof/Machine/FliorCore.lean ====
section
/-! DEFINITION. The states of a Flior core: start, halt, reset, fault, freeze, doorbells, mode (R426, R428 to R436). -/

namespace Sys2Proof.Machine

/-- Update a Flior core's own state. -/
def State.modFlior (s : State) (n : Nat) (f : FliorX → FliorX) : State := { s with fd := updAt s.fd n f }

/-- HALTED (R428). -/
def fdHalted : Nat := 1
/-- LOADING. -/
def fdLoading : Nat := 2
/-- RUNNING. -/
def fdRunning : Nat := 3
/-- WAITING. -/
def fdWaiting : Nat := 4
/-- FAULTED. -/
def fdFaulted : Nat := 5
/-- FROZEN. -/
def fdFrozen : Nat := 6

/-- FD_STATUS.STATE. -/
def State.fdState (s : State) (n : Nat) : Nat := s.get (R.FD_STATUS_STATE n)

/-- Set FD_STATUS.STATE. -/
def State.setFd (s : State) (n st : Nat) : State := s.put (R.FD_STATUS_STATE n) st

/-- The master ID of a Flior core. -/
def fdMid (n : Nat) : Nat := 0x08 + n

/-- The first address of a core's local memory (R411). -/
def dlm (n : Nat) : Nat := 0x4000000 + n * 0x40000

/-- DI cycles in an SI cycle at DI's operating point: 983.04 MHz at point 0, 491.52 MHz at point 1 (R32). -/
def State.diRate (s : State) : Nat := if s.get (R.DVFS_FSEL 2) = 0 then 2 else 1

/-- The core cycle, counted from START, at SI cycle `c`. -/
def State.fdCycleAt (s : State) (n c : Nat) : Nat := (s.flior n).baseCyc + (c - (s.flior n).baseAt) * s.diRate

/-- The SI cycle in which a core cycle falls. -/
def State.fdTime (s : State) (n cyc : Nat) : Nat := (s.flior n).baseAt + ceilDiv (cyc - (s.flior n).baseCyc) s.diRate

/-- The core's cycle count is carried to SI cycle now, before DI changes its rate (R431). -/
def State.fdRebase (n : Nat) (s : State) : State :=
  let c := s.fdCycleAt n s.now
  s.modFlior n fun x => { x with baseAt := s.now, baseCyc := c }

/-- FD_CYCLE shows the core cycles since START; it wraps. -/
def State.showCycle (s : State) (n c : Nat) : State := s.put (R.FD_CYCLE_COUNT n) (c % 2 ^ 32)

/-- START (R428): from HALTED only, at FD_ENTRY, or at FD_PC with RESUME. -/
def State.fdStart (s : State) (n : Nat) (resume : Bool) : State :=
  if s.fdState n = fdHalted then
    let s := s.modFlior n fun x => { x with
      baseAt := s.now, baseCyc := 0, cyc := 0, ready := [], haltDue := false, halting := false, wfe := 0
      loops := if resume then x.loops else []
      cache := if resume then x.cache else [] }
    let s := if resume then s else s.put (R.FD_PC_PC n) (s.get (R.FD_ENTRY_ENTRY n))
    (s.showCycle n 0).setFd n fdRunning
  else s.raise (R.FD_STATUS_WR_REFUSED n)

/-- HALT (R428, R435): at once while WAITING, at the next bundle boundary while RUNNING, after the outstanding far loads. -/
def State.fdHalt (s : State) (n : Nat) : State :=
  if s.fdState n = fdWaiting ∨ s.fdState n = fdRunning then
    if (s.flior n).loads = [] ∨ s.fdState n = fdWaiting then
      (s.modFlior n fun x => { x with haltDue := false, halting := false }).setFd n fdHalted
    else s.modFlior n fun x => { x with haltDue := true }
  else s

/-- RESET (R428): registers, flags and RB are cleared and DLM kept; the core's stiles break (R505). A core that is loading or frozen
refuses it. -/
def State.fdReset (s : State) (n : Nat) : State :=
  if s.fdState n = fdLoading ∨ s.fdState n = fdFrozen then s.raise (R.FD_STATUS_WR_REFUSED n)
  else
    let x := s.flior n
    let s := s.modFlior n fun _ => { FliorX.reset with stores := x.stores, owned := x.owned, mailbox := x.mailbox, kernel := x.kernel }
    let s := (s.setReg (R.FD_STATUS n) 0).setFd n fdHalted
    let s := (s.put (R.FD_PC_PC n) 0).setReg (R.FD_FAULT_ADDR n) 0
    let s := (s.setReg (R.FD_STALL n) 0).showCycle n 0
    s.breakStiles (fdMid n)

/-- A fault stops a core before its bundle (R429): cause, bundle and address are recorded; class U; its stiles break (R505). -/
def State.fdFault (s : State) (n cause : Nat) (addr : Option Nat) : State :=
  let s := (s.put (R.FD_STATUS_CAUSE n) cause).setFd n fdFaulted
  let s := match addr with
    | some a => s.put (R.FD_FAULT_ADDR_ADDR n) (a % 2 ^ 32)
    | none => s
  let s := s.modFlior n fun x => { x with haltDue := false, halting := false, loads := [] }
  let s := s.report { unit := 0x10, cls := .clsU, code := 0x0010, addr := s.get (R.FD_FAULT_ADDR_ADDR n), info := n, sub := cause,
                      mid := fdMid n }
  (s.event (.fliorFault n cause (s.get (R.FD_PC_PC n)))).breakStiles (fdMid n)

/-- The freeze of a core (R430): outstanding far loads are discarded, posted stores complete. -/
def State.fdFreeze (s : State) (n : Nat) : State :=
  (s.modFlior n fun x => { x with loads := [], haltDue := false, halting := false }).setFd n fdFrozen

/-- A poisoned word was loaded or fetched (R427, R482): PSN, the address if PSN was clear, class D. -/
def State.fdPoison (s : State) (n a : Nat) : State :=
  let s := if s.flag (R.FD_STATUS_PSN n) then s else s.put (R.FD_FAULT_ADDR_ADDR n) (a % 2 ^ 32)
  let s := s.raise (R.FD_STATUS_PSN n)
  s.report { unit := 0x10, cls := .clsD, code := 0x0011, addr := a, info := n, sub := 0, mid := fdMid n }

/-- Doorbell bits are set (R426); a WFE whose mask they meet ends 4 core cycles later. -/
def State.fdDoorbell (s : State) (n m : Nat) : State :=
  let s := s.put (R.FD_DB_DB n) (s.get (R.FD_DB_DB n) ||| m)
  if s.fdState n = fdWaiting ∧ s.get (R.FD_DB_DB n) &&& (s.flior n).wfe ≠ 0 then
    let c := s.fdCycleAt n s.now + 4
    (s.modFlior n fun x => { x with cyc := max x.cyc c, wfe := 0 }).setFd n fdRunning
  else s

/-- The watchdog (R429): once FD_CYCLE exceeds its limit while the core is RUNNING or WAITING. -/
def State.fdWatchdog (s : State) (n : Nat) : State :=
  let lim := s.get (R.FD_WDOG_LIMIT n)
  if lim ≠ 0 ∧ (s.fdState n = fdRunning ∨ s.fdState n = fdWaiting) then
    let c := lim * 65536 + 1
    let s := s.advanceTo (s.fdTime n c)
    (s.showCycle n (max c (s.flior n).cyc)).fdFault n 3 none
  else s

/-- The windows of a core in MODE 1 are held by hardware and locked (R432, R490). -/
def State.lockWindows (s : State) (n : Nat) (b : Bool) : State :=
  forAll (List.range 8) (fun k s => s.put (R.WIN1_LOCK (fdMid n) k) (b2n b)) s

/-- FD_OWNER.MODE changes (R432): only while HALTED; the whole DLM is zeroed first. -/
def State.fdMode (s : State) (n : Nat) (customer : Bool) (mailbox : Nat) : State :=
  if s.fdState n ≠ fdHalted then s.raise (R.FD_STATUS_WR_REFUSED n)
  else if s.flag (R.FD_OWNER_MODE n) == customer then s.modFlior n fun x => { x with mailbox := mailbox }
  else
    let s := s.clearMem (dlm n) 0x40000
    let s := (s.setReg (R.FD_OWNER n) 0).put (R.FD_OWNER_MODE n) (b2n customer)
    (s.modFlior n fun x => { x with owned := false, mailbox := mailbox, kernel := none }).lockWindows n customer

/-- A session closes: its cores are halted, their DLM zeroed and SESSION cleared (R434). -/
def State.fdSessionClosed (s : State) (x : Nat) : State :=
  forAll ((List.range 8).filter fun n => s.coreOwner n == x) (fun n s =>
    let s := if s.fdState n = fdRunning ∨ s.fdState n = fdWaiting then
        (s.modFlior n fun y => { y with haltDue := false, halting := false, loads := [] }).setFd n fdHalted
      else s
    let s := (s.clearMem (dlm n) 0x40000).put (R.FD_OWNER_SESSION n) 0
    s.modFlior n fun y => { y with owned := false }) s

/-- FALLOW entry halts every RUNNING or WAITING core and sets PWR_HALT (R431). -/
def State.fdFallow (s : State) : State :=
  forAll (List.range 8) (fun n s =>
    if s.fdState n = fdRunning ∨ s.fdState n = fdWaiting then
      (s.modFlior n fun x => { x with haltDue := false, halting := false }).setFd n fdHalted |>.raise (R.FD_STATUS_PWR_HALT n)
    else s) s

/-- A write of a register of the Flior control block by master `m` (R426, R428, R432, R466). -/
def writeFD (m : Nat) (r : RegRow) (ix : List Nat) (a : Nat) (v : Word) (s : State) : Wr :=
  let n := ix.getD 0 0
  match r.id with
  | .FD_CTRL =>
    let s := if v.toNat.testBit 3 then s.fdReset n else s
    let s := if v.toNat.testBit 2 then s.fdHalt n else s
    .ok (if v.toNat.testBit 0 then s.fdStart n (v.toNat.testBit 1) else s)
  | .FD_DB => .ok (s.fdDoorbell n (v.toNat % 65536))
  | .FD_DB_CLR => .ok (s.put (R.FD_DB_DB n) (s.get (R.FD_DB_DB n) &&& (65535 - v.toNat % 65536)))
  | .FD_OWNER =>
    if v.toNat.testBit 31 == s.flag (R.FD_OWNER_MODE n) then .ok s
    else if 4 ≤ m ∨ s.fdState n ≠ fdHalted then refuse (R.FD_STATUS_WR_REFUSED n) s
    else .ok (s.fdMode n (v.toNat.testBit 31) (s.flior n).mailbox)
  | _ => .ok (s.plainWrite r a v)

/-! ### Meanings -/

/-- FD_START (R428). -/
def execFdStart (n : Nat) (resume : Bool) (s : State) : Host.Outcome State Fault Refusal := .next (s.fdStart n resume)

/-- FD_HALT (R428). -/
def execFdHalt (n : Nat) (s : State) : Host.Outcome State Fault Refusal := .next (s.fdHalt n)

/-- FD_RESET (R428). -/
def execFdReset (n : Nat) (s : State) : Host.Outcome State Fault Refusal := .next (s.fdReset n)

/-- FD_DB_WRITE (R426). -/
def execFdDbWrite (n m : Nat) (s : State) : Host.Outcome State Fault Refusal := .next (s.fdDoorbell n (m % 65536))

/-- FD_OWNER_WRITE (R432): by a Dehan core, with the mailbox its firmware names; any other master's is refused. -/
def execFdOwnerWrite (mid n : Nat) (customer : Bool) (mailbox : Nat) (s : State) : Host.Outcome State Fault Refusal :=
  .next (if mid < 4 then s.fdMode n customer mailbox else s.raise (R.FD_STATUS_WR_REFUSED n))

/-- FD_WATCHDOG (R429). -/
def execFdWatchdog (n : Nat) (s : State) : Host.Outcome State Fault Refusal := .next (s.fdWatchdog n)

end Sys2Proof.Machine
end

