-- ==== Sys2Proof/Machine/Dma.lean ====
section
/-! DEFINITION. Access windows, and how a DMA channel's descriptor and count end (R489, R492 to R502). -/

namespace Sys2Proof.Machine

/-! ### Access windows (R432, R489) -/

/-- Whether an enabled window of a master covers an address, and whether one that grants the right does. -/
def State.windowsAt (s : State) (mid a : Nat) (write : Bool) : Bool × Bool :=
  let ws := (List.range 8).filter fun k =>
    let base := 4096 * s.get (R.WIN0_BASE mid k)
    s.flag (R.WIN1_EN mid k) && base ≤ a && a < base + 2 ^ s.get (R.WIN1_SIZE mid k)
  (!ws.isEmpty, ws.any fun k => s.flag (if write then R.WIN1_W mid k else R.WIN1_R mid k))

/-- Whether a range of SMEM_PART holds an address. -/
def State.inRegion (s : State) (r a : Nat) : Bool := (s.region r).1 ≤ a && a < (s.region r).2

/-- What a customer core's windows cover and grant at an address (R432). -/
def State.customerAt (s : State) (n a : Nat) (write : Bool) : Bool × Bool :=
  let smem := a < 0x1800000
  let free := smem && (List.range 6).all fun r => !s.inRegion r a
  let whole := (dlm n ≤ a && a < dlm n + 0x40000) || (smem && (s.inRegion 3 a || s.inRegion 5 a)) || free
    || (0x11100500 ≤ a && a < 0x11100700) || (0x11104000 ≤ a && a < 0x11170000)
    || ((s.flior n).mailbox ≤ a && a < (s.flior n).mailbox + 0x10000)
  let own := R.FD_CTRL n ≤ a && a < R.FD_CTRL n + 0x2C
  (whole || own, whole || (own && (!write || (R.FD_DB n ≤ a && a < R.FD_DB n + 4))))

/-- What a master's windows cover and grant at an address. -/
def State.rightsAt (s : State) (mid a : Nat) (write : Bool) : Bool × Bool :=
  if 0x08 ≤ mid && mid < 0x10 && s.flag (R.FD_OWNER_MODE (mid - 0x08)) then s.customerAt (mid - 0x08) a write
  else s.windowsAt mid a write

/-- Whether an access touches SESS_SRC (R364). -/
def inSessSrc (a n : Nat) : Bool := R.SESS_SRC 0 0 < a + n && a < R.SESS_SRC 0 0 + 0x200

/-- The cause of the violation that an access of `n` bytes would be (R489, R545): 1 NO_WINDOW, 2 NO_RIGHT, 0 none. Windows begin and end
on multiples of 4 bytes. SESS_SRC takes writes only from Dehan firmware and from the agent of a session, for which firmware acts (chapter
11); BMEM only from the loader and the steering engine (R242). -/
def State.accessCause (s : State) (mid a n : Nat) (write : Bool) : Nat :=
  let l := (List.range ((a + n + 3) / 4 - a / 4)).map fun i => s.rightsAt mid (4 * (a / 4 + i)) write
  if 2 ^ 32 < a + n then 1
  else if write && 4 ≤ mid && !(0x40 ≤ mid && mid < 0x50) && inSessSrc a n then 2
  else if write && mid ≠ 0x5B && a < 0x2800000 && 0x2000000 < a + n then 2
  else if l.any (fun r => !r.1) then 1 else if l.any (fun r => !r.2) then 2 else 0

/-! ### Channels -/

/-- A channel's own state. -/
def State.dmaX (s : State) (c : Nat) : DmaX := s.fab.dma.getD c DmaX.reset

/-- Update a channel's own state. -/
def State.modDma (s : State) (c : Nat) (f : DmaX → DmaX) : State := s.modFab fun x => { x with dma := updAt x.dma c f }

/-- CH_STATUS.STATE codes: IDLE. -/
def dcIdle : Nat := 0
/-- RUN. -/
def dcRun : Nat := 1
/-- WAIT_REQ. -/
def dcWait : Nat := 2
/-- DRAINED. -/
def dcDrained : Nat := 3
/-- DOMAIN_DOWN. -/
def dcDown : Nat := 4
/-- ABORTED. -/
def dcAborted : Nat := 5
/-- ERROR. -/
def dcError : Nat := 6
/-- FROZEN. -/
def dcFrozen : Nat := 7

/-- CH_STATUS.STATE of a channel. -/
def State.dcState (s : State) (c : Nat) : Nat := s.get (R.DC_STATUS_STATE c)

/-- Set a channel's state; DMA_DRAINED follows. -/
def State.setDc (s : State) (c st : Nat) : State := (s.put (R.DC_STATUS_STATE c) st).putBit R.DMA_DRAINED_DRAINED c (st == dcDrained)

/-- Whether a channel works on a descriptor. -/
def State.dcBusy (s : State) (c : Nat) : Bool := s.dcState c == dcRun || s.dcState c == dcWait || s.dcState c == dcDrained

/-- The state of a channel that may go on: RUN, or WAIT_REQ while its pacing request is not asserted (R497). -/
def State.dcGo (s : State) (c : Nat) : State :=
  let req := s.get (R.DC_CFG_REQ c)
  s.setDc c (if req = 0 ∨ s.fab.lines.testBit req then dcRun else dcWait)

/-- The island an address lies in (R470, R501): MMEM in MI, DLM in DI, CSTORE in FI, everything else in SI. -/
def islandOf (a : Nat) : Nat :=
  if 0x3000000 ≤ a ∧ a < 0x4000000 then 2 else if 0x4000000 ≤ a ∧ a < 0x5000000 then 3 else if 0x5000000 ≤ a ∧ a < 0x6000000 then 1 else 0

/-- The islands that a channel's source, destination and descriptor lie in, a bit each. -/
def State.dcIslands (s : State) (c : Nat) : Nat :=
  [s.get (R.DC_SRC_SRC c), s.get (R.DC_DST_DST c), 16 * s.get (R.DC_DESC_DESC c)].foldl (fun m a => setBit m (islandOf a) true) 0

/-- A bit of DMA_IRQ is raised (R500). -/
def State.dcIrq (s : State) (c : Nat) : State := s.raiseBit R.DMA_IRQ_IRQ c

/-- The cause of the violation that a channel's write-back of its descriptor would be (R24, R25, R489), 0 none: it is a write with the
channel's own MID, so a descriptor in BMEM, or outside the channel's windows, is never written. -/
def State.writeBackCause (s : State) (c : Nat) : Nat := s.accessCause (0x20 + c) (16 * s.get (R.DC_DESC_DESC c)) 16 true

/-- Words 0 to 2 of a descriptor with the resume point (R494). -/
def State.resumeBytes (s : State) (c w2 : Nat) : List Byte :=
  leBytes 4 (s.get (R.DC_SRC_SRC c)) ++ leBytes 4 (s.get (R.DC_DST_DST c)) ++ leBytes 4 (insBits w2 0 24 (s.get (R.DC_LEN_LEN c)))

/-- A descriptor ends (R494, R500): STATUS and POISON are written into its word 3, with the resume point if it is not DONE; the count,
CODE and the interrupts. -/
def State.dcEnd (s : State) (c status : Nat) : State :=
  match (s.dmaX c).desc with
  | some (w2, w3) =>
    let a := 16 * s.get (R.DC_DESC_DESC c)
    let w3 := w3 / 16 * 16 + b2n (s.dmaX c).poison * 8 + status
    let s := if s.writeBackCause c ≠ 0 then s
      else if status = 1 then s.storeMem (a + 12) (leBytes 4 w3)
      else s.storeMem a (s.resumeBytes c w2 ++ leBytes 4 w3)
    let s := (s.count (R.DC_CNT_DESCS c)).put (R.DC_STATUS_CODE c) status
    doIf (status ≠ 1 || w2.testBit 28 || w2.testBit 27) (fun s => s.dcIrq c) s
  | none => s

/-- A channel stops with a status other than DONE (R494). What an express channel had read ahead and not written is dropped: the resume
point lies before it. -/
def State.dcStop (s : State) (c status st : Nat) : State :=
  let s := s.dcEnd c status
  (s.modDma c fun x => { x with drained := 0, drainDue := 0, freezeDue := false, ahead := [] }).setDc c st

/-- ABORT (R509). -/
def State.dmaAbort (s : State) (c : Nat) : State := if s.dcBusy c then s.dcStop c 3 dcAborted else s

/-- The update of a circular address after a burst of `n` bytes (R415, R496): the address and whether it was trimmed. -/
def circNext (base len p n : Nat) : Nat × Bool :=
  let o := (p + 2 ^ 32 - base) % 2 ^ 32
  if o < len then (base + (o + n) % len, false)
  else (base, true)

/-- An address after a burst of `n` bytes on side `dst` (R495, R496). -/
def State.dcAdvance (s : State) (c : Nat) (dst : Bool) (p n : Nat) : State × Nat :=
  match (s.dmaX c).desc with
  | some (w2, _) =>
    if w2.testBit (if dst then 24 else 25) then (s, p)
    else if w2.testBit 26 && s.flag (R.DC_CFG_CSIDE c) ≠ dst then
      let (q, trim) := circNext (16 * s.get (R.CIRC_BASE_BASE c)) (16 * s.get (R.CIRC_LEN_LEN c)) p n
      let wrapped := q ≠ p + n
      let s := doIf trim (fun s => s.raise (R.DC_STATUS_WRAPTRIM c)) s
      (doIf (wrapped && w2.testBit 28) (fun s => s.dcIrq c) s, q)
    else (s, (p + n) % 2 ^ 32)
  | none => (s, p)

end Sys2Proof.Machine
end

