-- ==== Sys2Proof/Machine/Fabric.lean ====
section
/-! DEFINITION. Violations and freezes, crossings that slip, and the DMA's start, resume, pacing and drain (R39, R491 to R502, R545,
R546). -/

namespace Sys2Proof.Machine

/-! ### Freeze (R491, R545, R546) -/

/-- What a freeze does to the master itself (R430, R491): a Flior core reads FROZEN; a DMA channel's descriptor ends FROZEN, an express
channel first writing what it has read; a host command agent's session becomes FROZEN; the calibration job ends. -/
def State.freezeMaster (s : State) (mid : Nat) : State :=
  if 0x08 ≤ mid ∧ mid < 0x10 then s.fdFreeze (mid - 0x08)
  else if 0x20 ≤ mid ∧ mid < 0x40 then
    (if (s.dmaX (mid - 0x20)).ahead = [] then s.dcStop (mid - 0x20) 5 dcFrozen
     else s.modDma (mid - 0x20) fun x => { x with freezeDue := true })
  else if 0x40 ≤ mid ∧ mid < 0x50 then
    (if s.sessState (mid - 0x40) = sessOpen then s.setSess (mid - 0x40) sessFrozen else s)
  else if mid = 0x5A then s.calAbort
  else s

/-- A master is frozen (R545): one record, its stiles break, MASTER_FROZEN, its bit. A violation by Thistle freezes nothing and is the class F
cause of R541. -/
def State.freeze (s : State) (mid cause addr : Nat) : State :=
  if mid = 0x59 then s.report { unit := 0x04, cls := .clsF, code := 1, addr := 0, info := 0, sub := 0, mid := 0x59 }
  else if s.frozen mid then s
  else
    let s := s.report { unit := 0x06, cls := .clsU, code := cause, addr := addr, info := 0, sub := cause, mid := mid }
    let s := (s.raiseBit (R.FAB_FROZEN_FROZEN (mid / 32)) (mid % 32)).event (.masterFrozen mid cause addr)
    (s.freezeMaster mid).breakStiles mid

/-- UNFREEZE of a frozen master (R491, R546). -/
def State.unfreeze (s : State) (mid : Nat) : State :=
  let s := s.clearBit (R.FAB_FROZEN_FROZEN (mid / 32)) (mid % 32)
  if 0x08 ≤ mid ∧ mid < 0x10 then (if s.fdState (mid - 0x08) = fdFrozen then s.setFd (mid - 0x08) fdHalted else s)
  else if 0x20 ≤ mid ∧ mid < 0x40 then (if s.dcState (mid - 0x20) = dcFrozen then s.setDc (mid - 0x20) dcIdle else s)
  else if 0x40 ≤ mid ∧ mid < 0x50 then
    (if s.sessState (mid - 0x40) = sessFrozen then s.setSess (mid - 0x40) sessOpen else s)
  else s

/-- A transaction of a master went through: a retry of R39 is over. -/
def State.settled (s : State) (mid : Nat) : State := s.modFm fun x => { x with retried := x.retried.filter (· ≠ mid) }

/-- CROSSING_SLIP (R39): XMON_STATUS, the event, the record; a converter crossing holds its quadrant, a Hedgerow crossing takes its port
down, a management crossing is retried once and then freezes its master. MI is not checked on the wake oscillator (R35). -/
def State.crossingSlip (s : State) (c : Crossing) : State :=
  let tell (s : State) : State :=
    let x := (s.reg R.XMON_STATUS).toNat
    (s.report (mkReport 0x01 .clsU 0x0010 x)).event (.crossingSlip x)
  let again (mid addr : Nat) (s : State) : State :=
    if s.fm.retried.contains mid then (s.freeze mid 3 addr).settled mid
    else s.modFm fun x => { x with retried := x.retried ++ [mid] }
  match c with
  | .ci q => (tell (s.raiseBit R.XMON_STATUS_CI_SLIP q)).convHold q
  | .gi p => (tell (s.raiseBit R.XMON_STATUS_GI_SLIP p)).hgGoDown p hcSlip
  | .fi mid a => again mid a (tell (s.raise R.XMON_STATUS_FI_SLIP))
  | .mi mid a => if s.flag R.PWR_STATUS_MI_WAKEOSC then s else again mid a (tell (s.raise R.XMON_STATUS_MI_SLIP))
  | .di mid a => again mid a (tell (s.raise R.XMON_STATUS_DI_SLIP))

/-! ### Descriptors (R492 to R494) -/

/-- The larger unit of a SWAP code (R493). -/
def swapUnit (w : Nat) : Nat :=
  match w with
  | 0 => 1
  | 1 => 2
  | 2 => 4
  | 3 => 8
  | 4 => 4
  | _ => 8

/-- Whether a descriptor is refused (R493, R494). -/
def State.descBad (s : State) (c src dst w2 : Nat) : Bool :=
  let sw := w2 / 2 ^ 29
  let len := w2 % 2 ^ 24
  let circ := w2.testBit 26
  let u := swapUnit sw
  5 < sw || src % u ≠ 0 || dst % u ≠ 0 || len % u ≠ 0 || (len = 0 && !circ)
    || (circ && w2.testBit (if s.flag (R.DC_CFG_CSIDE c) then 25 else 24))

/-- A channel reads the descriptor that CH_DESC names, with its own MID (R489, R492), and starts it, or ends it with REFUSED. -/
def State.dcLoad (s : State) (c : Nat) : State :=
  let a := 16 * s.get (R.DC_DESC_DESC c)
  match s.accessCause (0x20 + c) a 16 false with
  | 0 =>
    let b := (s.readClean a 16).1
    let w (i : Nat) : Nat := leNat ((b.drop (4 * i)).take 4)
    let s := ((s.put (R.DC_SRC_SRC c) (w 0)).put (R.DC_DST_DST c) (w 1)).put (R.DC_LEN_LEN c) (w 2)
    let s := s.modDma c fun _ => { DmaX.reset with desc := some (w 2, w 3 / 16 * 16), rdSrc := w 0, rdLen := w 2 % 2 ^ 24 }
    if s.descBad c (w 0) (w 1) (w 2) then s.dcStop c 6 dcError else s.dcGo c
  | k => (s.modDma c fun _ => DmaX.reset).freeze (0x20 + c) k a

/-- The 4 KiB units of express buffer that a channel's quota takes (R499). -/
def State.expQuota (s : State) (c : Nat) : Nat := bits (s.reg R.EXP_QUOTA).toNat (8 * (c - 28) + 4) (8 * (c - 28))

/-- Whether a start of an express channel would bring the quotas of the running ones above 64 KiB (R499). -/
def State.quotaFull (s : State) (c : Nat) : Bool :=
  28 ≤ c && 16 < (((List.range 4).map (28 + ·)).filter fun k => k == c || s.dcBusy k).foldl (fun n k => n + s.expQuota k) 0

/-- GO (R492, R499): refused while the channel works, is frozen, or would exceed the express buffer. -/
def State.dmaGo (s : State) (c : Nat) : Wr :=
  if s.dcBusy c ∨ s.dcState c = dcFrozen ∨ s.quotaFull c then refuse R.DMA_STATUS_WR_REFUSED s
  else .ok (s.dcLoad c)

/-- RESUME (R494, R502): a stopped channel goes on from CH_SRC, CH_DST and CH_LEN with the options of its last descriptor. -/
def State.dmaResume (s : State) (c : Nat) : Wr :=
  match (s.dmaX c).desc with
  | some (w2, _) =>
    if s.dcBusy c ∨ s.dcState c = dcFrozen ∨ s.quotaFull c ∨ (s.get (R.DC_LEN_LEN c) = 0 ∧ !(w2.testBit 26 && w2 % 2 ^ 24 == 0)) then
      refuse R.DMA_STATUS_WR_REFUSED s
    else
      .ok ((s.modDma c fun x => { x with rdSrc := s.get (R.DC_SRC_SRC c), rdLen := s.get (R.DC_LEN_LEN c), ahead := [] }).dcGo c)
  | none => refuse R.DMA_STATUS_WR_REFUSED s

/-! ### Pacing (R497, R498) -/

/-- A pacing request is asserted or withdrawn (R497): the channels it paces follow; one that withdraws loses its age (R487). -/
def State.dmaRequest (s : State) (line : Nat) (v : Bool) : State :=
  let s := s.modFab fun x => { x with lines := setBit x.lines line v }
  forAll (List.range 32) (fun c s =>
    if s.get (R.DC_CFG_REQ c) = line ∧ line ≠ 0 then
      if v then (if s.dcState c = dcWait then s.setDc c dcRun else s)
      else if s.dcState c = dcRun then
        (s.setDc c dcWait).modFab fun x => { x with ages := x.ages.filter fun p => p.1 % 256 ≠ 0x20 + c }
      else s
    else s) s

/-! ### Drain (R501, R502, R509) -/

/-- The number of an island's bit. -/
def islandIx (i : Island) : Nat :=
  match i with
  | .si => 0
  | .fi => 1
  | .mi => 2
  | .di => 3

/-- The resume point is written into the descriptor in hand (R501). -/
def State.dcSave (s : State) (c : Nat) : State :=
  match (s.dmaX c).desc with
  | some (w2, _) => doIf (s.writeBackCause c == 0) (fun s => s.storeMem (16 * s.get (R.DC_DESC_DESC c)) (s.resumeBytes c w2)) s
  | none => s

/-- A channel of a drain pauses: DRAINED, its resume point in its registers and in the descriptor (R501). -/
def State.dcPause (s : State) (c : Nat) : State :=
  let m := (s.dmaX c).drainDue
  ((s.dcSave c).modDma c fun x => { x with drained := x.drained ||| m, drainDue := 0 }).setDc c dcDrained

/-- DRAIN_REQUEST (R501): every channel that works in the island pauses, at once or, when a burst of it is in progress or an express
channel has still to write what it has read, after that. `inBurst` names the channels in a burst. -/
def State.drainRequest (s : State) (i : Nat) (inBurst : Nat) : State :=
  let s := s.modFab fun x => { x with drain := insertKey x.drain i s.now }
  forAll ((List.range 32).filter fun c => s.dcBusy c && (s.dcIslands c).testBit i) (fun c s =>
    let s := s.modDma c fun x => { x with drainDue := setBit x.drainDue i true }
    if (inBurst.testBit c && s.dcState c = dcRun) || (s.dmaX c).ahead ≠ [] then s else s.dcPause c) s

/-- DRAIN_TIMEOUT (R502): the channels of the drain not yet DRAINED end with DOMAIN_DOWN. -/
def State.drainTimeout (s : State) (i : Nat) : State :=
  match look s.fab.drain i with
  | some t =>
    let s := s.advanceTo (t + ceilDiv (s.get R.DMA_DRAIN_DRAIN_TO * 49152) 100)
    let l := (List.range 32).filter fun c => s.dcBusy c && (s.dmaX c).drainDue.testBit i
    let s := forAll l (fun c s => s.dcStop c 2 dcDown) s
    let s := s.modFab fun x => { x with drain := eraseKey x.drain i }
    if l = [] then s
    else
      let m := l.foldl (fun m c => setBit m c true) 0
      (s.report (mkReport 0x07 .clsU 0x0010 m)).event (.dmaDomainDown m)
  | none => s

/-- An island is powered again: its DRAINED channels go on once no island holds them (R501, R509). -/
def State.islandUp (s : State) (i : Nat) : State :=
  let s := s.modFab fun x => { x with drain := eraseKey x.drain i }
  forAll (List.range 32) (fun c s =>
    let was := (s.dmaX c).drained
    let s := s.modDma c fun x => { x with drained := setBit x.drained i false, drainDue := setBit x.drainDue i false }
    doIf (s.dcState c == dcDrained && was ≠ 0 && (s.dmaX c).drained == 0) (fun s => s.dcGo c) s) s

/-- A write of a register of the DMA block. -/
def writeDMA (r : RegRow) (ix : List Nat) (a : Nat) (v : Word) (s : State) : Wr :=
  let c := ix.getD 0 0
  let no := refuse R.DMA_STATUS_WR_REFUSED s
  match r.id with
  | .DMA_DRAIN => if v.toNat % 65536 = 0 then no else .ok (s.plainWrite r a v)
  | .EXP_QUOTA =>
    if [0, 8, 16, 24].any fun i => 16 < bits v.toNat (i + 4) i then no else .ok (s.plainWrite r a v)
  | .DMA_CNT_CLR => .ok (doIf (v.toNat.testBit 0) (forAll (List.range 32) fun c s => s.setReg (R.DC_CNT c) 0) s)
  | .DC_CFG => if 4 < (R.DC_CFG_BURST c).of v ∨ 4 < (R.DC_CFG_REQ c).of v then no else .ok (s.plainWrite r a v)
  | .CIRC_LEN => if (R.CIRC_LEN_LEN c).of v = 0 then no else .ok (s.plainWrite r a v)
  | .DC_CTRL =>
    let s := if v.toNat.testBit 1 then s.dmaAbort c else s
    if v.toNat.testBit 0 then s.dmaGo c else if v.toNat.testBit 2 then s.dmaResume c else .ok s
  | _ => .ok (s.plainWrite r a v)

/-! ### Meanings -/

/-- CROSSING_SLIP (R39). -/
def execCrossingSlip (c : Crossing) (s : State) : Host.Outcome State Fault Refusal := .next (s.crossingSlip c)

/-- DMA_GO (R492). -/
def execDmaGo (c : Nat) (s : State) : Host.Outcome State Fault Refusal := .next (s.dmaGo c).state

/-- DMA_ABORT (R509). -/
def execDmaAbort (c : Nat) (s : State) : Host.Outcome State Fault Refusal := .next (s.dmaAbort c)

/-- DMA_RESUME (R494). -/
def execDmaResume (c : Nat) (s : State) : Host.Outcome State Fault Refusal := .next (s.dmaResume c).state

/-- DMA_REQUEST (R497). -/
def execDmaRequest (line : Nat) (v : Bool) (s : State) : Host.Outcome State Fault Refusal := .next (s.dmaRequest line v)

/-- DRAIN_REQUEST (R501). -/
def execDrainRequest (i : Island) (inBurst : Nat) (s : State) : Host.Outcome State Fault Refusal :=
  .next (s.drainRequest (islandIx i) inBurst)

/-- DRAIN_TIMEOUT (R502). -/
def execDrainTimeout (i : Island) (s : State) : Host.Outcome State Fault Refusal := .next (s.drainTimeout (islandIx i))

end Sys2Proof.Machine
end

