-- ==== Sys2Proof/Machine/Sessions.lean ====
section
/-! DEFINITION. Sessions: their windows, their opening limit, their close and what it releases (R355, R441, R442, R444). -/

namespace Sys2Proof.Machine

/-- Update the front end's own state. -/
def State.modFe (s : State) (f : FrontX → FrontX) : State := { s with fe := f s.fe }

/-- SESS_STAT.HELD of every session. -/
def State.showAllHeld (s : State) : State := forAll (List.range 16) (fun x s => s.showHeld x) s

/-- Whether a session is privileged and receives events. -/
def State.privOpen (s : State) (x : Nat) : Bool :=
  (s.sessState x == sessOpen || s.sessState x == sessFrozen) && s.flag (R.SESS_STAT_ROLE x)

/-- An event that goes to every privileged session whatever its mask (R444, R520), and to those that receive it anyway. -/
def State.eventAll (s : State) (e : Event) : State :=
  let (code, fields) := eventWire e
  forAll ((List.range 16).filter fun x => s.privOpen x || s.receives e x) (fun x s => s.sendEvent x code 0 0 fields) s

/-- Set the owner of a beam-table block (BT_OWN). -/
def State.setBlock (s : State) (b o : Nat) : State :=
  let a := R.BT_OWN (b / 4)
  s.setReg a (BitVec.ofNat 32 (insBits (s.reg a).toNat (8 * (b % 4)) 5 o))

/-- What a closing session owned is released (R355, R434): its slots stop at their next frame boundary, its beam-table blocks and its
cores at once; its section records go and its source address is cleared. -/
def State.releaseAll (s : State) (x : Nat) : State :=
  let own := allSlots.filter fun (d, cs) => s.slotOwner (dirIx d) cs == x
  let s := s.modSp fun y => { y with store := y.store.filter fun r => s.slotOwner r.d r.cs ≠ x }
  let s := s.showStore
  let s := forAll own (fun (d, cs) s =>
    let s := (s.supersede d cs).put (R.CS_CFG_EN (dirIx d) cs) 0
    { s with enJobs := s.enJobs ++ [{ d := dirIx d, cs := cs, release := true, cmd := none }] }) s
  let s := forAll ((List.range 16).filter fun b => s.beamOwner b == x) (fun b s => s.setBlock b 0x1F) s
  let s := forAll (List.range 6) (fun i s => s.setReg (R.SESS_SRC x i) 0) s
  s.fdSessionClosed x

/-- A session closes (R444): cause 1 to 8; its waiting commands are discarded, its keys and events go. -/
def State.closeSession (s : State) (x cause : Nat) : State :=
  if s.sessState x = sessClosed then s
  else
    let s := (s.setSess x sessClosed).put (R.SESS_STAT_CAUSE x) cause
    let keep (l : List Cmd) : List Cmd := l.filter fun c => c.session ≠ x
    let s := s.modFe fun f => { f with q0 := keep f.q0, q1 := keep f.q1, q2 := keep f.q2, q3 := keep f.q3 }
    let s := ((s.modSession x fun _ => Session.empty).showEvq x).showHeld x
    (((s.releaseAll x).breakStiles (0x40 + x)).eventAll (.sessionClosed x cause)).tellSession x

/-- Whether a SEQUENCE is accepted (R442): above the highest so far, or up to 63 below it and not accepted before. -/
def Session.seqOk (y : Session) (n : Nat) : Bool :=
  y.seqHi < n || (n ≤ y.seqHi && y.seqHi ≤ n + 63 && 0 < n && !y.seqSeen.contains n)

/-- A SEQUENCE is accepted. -/
def Session.seqTake (y : Session) (n : Nat) : Session :=
  let hi := max y.seqHi n
  { y with seqHi := hi, seqSeen := (n :: y.seqSeen).filter fun k => hi ≤ k + 63 }

/-- A tag fails (R439, R444): eight in a row close the session. -/
def State.tagFail (s : State) (x : Nat) : State :=
  let s := (s.count R.CMD_CNT0_AUTH_BAD).modSession x fun y => { y with tagFails := y.tagFails + 1 }
  if 8 ≤ (s.session x).tagFails then s.closeSession x 3 else s

/-- SESSION_OPENING_TIMEOUT (R441): 1 s after the slot entered OPENING it returns to CLOSED; a worker's copy follows the manager's table (R452). -/
def State.openingTimeout (s : State) (x : Nat) : State :=
  if s.sessState x = sessOpening ∧ !s.worker then
    let s := s.advanceTo ((s.session x).openedAt + secCycles)
    ((s.setSess x sessClosed).modSession x fun _ => Session.empty).showHeld x
  else s

/-- SESSION_IDLE_TIMEOUT (R444): 6 × IDLE_S seconds after the last accepted command, on the manager (R452). -/
def State.idleTimeout (s : State) (x : Nat) : State :=
  let k := s.get R.CMD_CFG_IDLE_S
  if (s.sessState x = sessOpen ∨ s.sessState x = sessFrozen) ∧ k ≠ 0 ∧ !s.worker then
    (s.advanceTo ((s.session x).lastAt + 6 * k * secCycles)).closeSession x 2
  else s

/-! ### Meanings -/

/-- SESSION_OPENING_TIMEOUT (R441). -/
def execSessionOpeningTimeout (x : Nat) (s : State) : Host.Outcome State Fault Refusal := .next (s.openingTimeout x)

/-- SESSION_IDLE_TIMEOUT (R444). -/
def execSessionIdleTimeout (x : Nat) (s : State) : Host.Outcome State Fault Refusal := .next (s.idleTimeout x)

end Sys2Proof.Machine
end

