-- ==== Sys2Proof/Machine/Power.lean ====
section
/-! DEFINITION. Power states, gating, DVFS, FALLOW and its wake, the Lark and thermal management (chapter 19). -/

namespace Sys2Proof.Machine

/-- Update power management's own state. -/
def State.modPw (s : State) (f : PowerX → PowerX) : State := { s with pw := f s.pw }

/-- The power state: 0 ACTIVE, 1 TRIM, 2 HUSH, 3 FALLOW. -/
def State.pwrState (s : State) : Nat := s.get R.PWR_STATUS_STATE_NOW

/-- Update the STATE_SET in progress. -/
def State.modMove (s : State) (f : PwrMove → PwrMove) : State := s.modPw fun x => { x with move := x.move.map f }

/-- PWR_STATUS.TRANS follows the move and the wake in progress. -/
def State.showTrans (s : State) : State :=
  s.put R.PWR_STATUS_TRANS (b2n ((s.pw.move.isSome && s.pwrState ≠ 3) || s.pw.wake.isSome))

/-! ### Pins that power management drives -/

/-- ALERT_N is low (R520, R524, R528, R542, R549). -/
def State.alertLow (s : State) : Bool :=
  s.flag R.THERM_STATUS_WARN || s.get R.LK_STATUS_ALERT ≠ 0 || s.flag R.LK_STATUS_RLOST || s.flag R.FM_STATUS_SAFE
    || s.boot == .failed

/-- THERMTRIP_N is low (R530). -/
def State.thermtripLow (s : State) : Bool := s.pw.shut

/-- IRQ_N is low while the SPI outgoing buffer holds a packet (R440). -/
def State.irqLow (s : State) : Bool := s.fe.spiOut ≠ []

/-! ### DVFS (R514, R515) -/

/-- The islands in the order in which a move of several islands is made: FI, DI, MI, as indices of DVFS (R514). -/
def dvfsOrder : List Nat := [0, 2, 1]

/-- The lowest operating point of an island (R32). -/
def lastPoint (x : Nat) : Nat := if x = 2 then 1 else 2

/-- Whether any sequenced move is under way. -/
def State.dvfsBusy (s : State) : Bool := dvfsOrder.any fun x => s.flag (R.DVFS_BUSY x)

/-- A sequenced move of an island to a point is requested (R515). -/
def State.dvfsRequest (x p : Nat) (s : State) : State :=
  let idle := !s.dvfsBusy
  let s := s.put (R.DVFS_TGT x) p
  if s.get (R.DVFS_FSEL x) = p ∧ s.get (R.DVFS_VSEL x) = p then s.put (R.DVFS_BUSY x) 0
  else (doIf idle (fun s => s.modPw fun y => { y with vsetFrom := s.now }) s).put (R.DVFS_BUSY x) 1

/-- The points of a STATE_SET are requested: FI, MI and DI from bits 1:0, 3:2 and 4 (R461). -/
def State.dvfsPoints (s : State) (d : Nat) : State :=
  s.dvfsRequest 0 (bits d 1 0) |>.dvfsRequest 1 (bits d 3 2) |>.dvfsRequest 2 (bits d 4 4)

/-- An island's clock or voltage takes a point; a change of DI carries the cores' cycle counts over (R431). -/
def State.setPoint (s : State) (x f v : Nat) : State :=
  let s := doIf (x == 2) (forAll (List.range 8) State.fdRebase) s
  (s.put (R.DVFS_FSEL x) f).put (R.DVFS_VSEL x) v

/-! ### The move in progress (R461, R513, R522) -/

/-- The moves' Done field: STATE_NOW, then the rest of the wake report. -/
def State.wakeReport (s : State) (rest : List Byte) : List Byte := beBytes 1 s.pwrState ++ rest

/-- The rest of a wake report that leaves no FALLOW: zeros. -/
def noWake : List Byte := List.replicate 27 0

/-- The state changes, and STATE_CHANGED says so. -/
def State.enterState (s : State) (n : Nat) : State :=
  let old := s.pwrState
  if old = n then s else (s.put R.PWR_STATUS_STATE_NOW n).event (.stateChanged old n)

/-- The move in progress ends with a status. -/
def State.endMove (s : State) (st : Status) : State :=
  match s.pw.move with
  | some m =>
    let s := (s.modPw fun x => { x with move := none }).showTrans
    s.completeJob m.cmd st (s.wakeReport m.rest)
  | none => s

/-- The enabled chains of a quadrant that are not gated are all ready. -/
def State.quadReady (s : State) (q : Nat) : Bool :=
  (chainsOf q).all fun ch => s.chainGated ch
    || ((!s.flag (R.CH_CTRL_TX_EN ch) || s.flag (R.CH_STATUS_TX_RDY ch))
      && (!s.flag (R.CH_CTRL_RX_EN ch) || s.flag (R.CH_STATUS_RX_RDY ch)))

/-- Whether a move waits only for its frame boundary. -/
def PwrMove.waiting (m : PwrMove) : Bool := m.source < 2 && m.target < 2 && !m.gated

/-- Whether what a move waits for holds (R513, R522). -/
def State.moveDone (s : State) (m : PwrMove) : Bool :=
  let up := (List.range 4).filter fun q => !s.quadGated q
  let lo := !s.aligned || up.all fun q => !s.tuned q || s.fbit R.LO_STATUS_LO_READY q
  if m.source = 2 then (if s.aligned then lo else up.all s.quadReady)
  else !s.dvfsBusy && (m.ungate == 0 || (lo && (up.filter fun q => m.ungate.testBit q).all fun q =>
    !s.lo.relockQ.testBit q && s.fbit R.DFE_STATUS_CONV_LOCK q && s.quadReady q))

/-- Whether a synthesiser that the move needs has failed to lock (R522). -/
def State.moveFailed (s : State) (m : PwrMove) : Bool :=
  s.aligned && (m.source == 2 || m.ungate ≠ 0) && (List.range 4).any fun q =>
    !s.quadGated q && s.tuned q && (s.synState (s.src q) == synFailed || s.synState (s.src q) == synOos)

/-- A move between ACTIVE and TRIM, or out of HUSH, completes as soon as all that it waits for holds. -/
def State.moveCheck (s : State) : State :=
  match s.pw.move with
  | some m =>
    if m.target < 2 ∧ m.gated then
      if s.moveDone m then s.endMove .ok else if s.moveFailed m then s.endMove .hwFault else s
    else s
  | none => s

/-- The chain mask that a quadrant mask and a chain mask gate (R513). -/
def gatedChains (qmask chmask : Nat) : Nat := (bitList 4 qmask).foldl (fun m q => m ||| 0xFFFF * 2 ^ (16 * q)) chmask

/-- PWR_STATUS and PWR_CHGATE show the quadrants and chains that the QGATE and CHGATE in force and throttling gate (R513). -/
def State.showGating (s : State) : State :=
  let q := s.pw.qgate ||| s.get R.PWR_STATUS_THROT
  let c := gatedChains q s.pw.chgate
  ((s.put R.PWR_STATUS_QGATE q).setReg (R.PWR_CHGATE 0) (BitVec.ofNat 32 c)).setReg (R.PWR_CHGATE 1) (BitVec.ofNat 32 (c / 2 ^ 32))

/-- A masks' gating comes into force (R77, R513): quadrants and chains that lose power, and those that gain it. -/
def State.setGating (s : State) (qgate chgate throt : Nat) : State :=
  let was (q : Nat) : Bool := s.quadGated q
  let wasCh (ch : Nat) : Bool := s.chainGated ch
  let t := s.modPw fun x => { x with qgate := qgate, chgate := chgate }
  let t := (t.put R.PWR_STATUS_THROT throt).showGating
  let t := forAll (List.range 4) (fun q t =>
    if !was q && t.quadGated q then
      ((t.abortQuadCaps q).clearBit R.LO_STATUS_QLO_LOCK q).clearBit R.DFE_STATUS_CONV_LOCK q
    else if was q && !t.quadGated q && t.radioPowered then t.modLo fun x => { x with relockQ := setBit x.relockQ q true }
    else t) t
  let t := forAll (List.range 64) (fun ch t =>
    if !wasCh ch && t.chainGated ch then t.gateChain ch else if wasCh ch && !t.chainGated ch then t.ungateChain ch else t) t
  t.refreshReady

/-- The device leaves ACTIVE, for TRIM too, or goes from TRIM to HUSH or FALLOW (R144, R166, R234, R406): captures, jobs and lifecycles end, the steering FIFO is completed. -/
def State.leaveActive (s : State) : State :=
  let s := forAll (List.range 8) State.abortCap (s.txAdvance s.now)
  let s := forAll (List.range 64) State.pdPower s.calAbort
  s.beamDrain

/-- GATING_APPLY at a downlink frame boundary (R513): the move that waits for it and the throttle steps whose instants have come; the
gating is the union (R533). -/
def State.gatingApply (s : State) : State :=
  let due := s.pw.steps.filter fun p => p.1 ≤ s.now
  let thr := due.foldl (fun m p => setBit m p.2.1 p.2.2) (s.get R.PWR_STATUS_THROT)
  let s := s.modPw fun x => { x with steps := x.steps.filter fun p => s.now < p.1 }
  match s.pw.move with
  | some m =>
    if m.waiting && m.gateAt ≤ s.now then
      let old := (List.range 4).filter s.quadGated
      let s := doIf (s.pwrState == 0 && m.target == 1) State.leaveActive s
      let s := s.enterState m.target
      let s := s.setGating m.qgate m.chgate thr
      let ung := old.foldl (fun k q => if s.quadGated q then k else setBit k q true) 0
      (s.modMove fun m => { m with gated := true, ungate := ung }).moveCheck
    else if due = [] then s else s.setGating s.pw.qgate s.pw.chgate thr
  | none => if due = [] then s else s.setGating s.pw.qgate s.pw.chgate thr

/-- The last edges of every quadrant are set when the radio leaves ACTIVE or TRIM (R373). -/
def State.setLeave (s : State) : State := { s with pa := { s.pa with leave := (List.range 4).map s.leaveEdges } }

/-- The instant by which every TXON and RXON edge and REST load of R373 has occurred. -/
def State.quietInstant (s : State) : Nat := (s.pa.leave.map fun x => max x.1 (max x.2.1 x.2.2)).foldl max s.now

/-- The radio loses power (R77, R108, R116, R373, R511): pins off, REST loads, chains, converters, QLOs and synthesisers down. -/
def State.radioOff (s : State) (keep : Bool) : State :=
  let s := s.pinsOff
  let s := forAll (List.range 64) State.restEdge s
  let s := { (s.modMove fun m => { m with quietAt := none }) with pa := { s.pa with leave := [] } }
  let s := forAll (List.range 64) State.gateChain s
  (s.put R.DFE_STATUS_CONV_LOCK 0).loDown keep

/-- The move out of HUSH (R513, R522): the state and its gating change at once, the ungated quadrants and their chains power up, and the
synthesisers calibrate if the array is aligned (R116, R117). -/
def State.leaveHush (s : State) (target qgate chgate : Nat) (rest : List Byte) (cmd : Option Cmd) : State :=
  let m : PwrMove := { source := 2, target := target, qgate := qgate, chgate := chgate, gateAt := s.now, gated := true, ungate := 0,
                       quietAt := none, draining := false, rest := rest, cmd := cmd }
  let s := (s.modPw fun x => { x with move := some m }).showTrans
  let s := (s.modPw fun x => { x with qgate := qgate, chgate := chgate }).showGating
  let s := { s.enterState target with pa := { s.pa with seqFrom := s.now } }
  let s := forAll (List.range 4) (fun q s =>
    doIf (!s.quadGated q) (fun s => s.modLo fun x => { x with relockQ := setBit x.relockQ q true }) s) s
  let s := forAll (List.range 64) (fun ch s => doIf (!s.chainGated ch) (State.ungateChain ch) s) s
  (doIf s.aligned State.relight s).refreshReady.moveCheck

/-! ### STATE_SET (R461, R511, R512) -/

/-- The status of a STATE_SET when it executes: BAD_PARAM, STATE_CONFLICT while a transition is under way, ACCEPTED otherwise. -/
def State.stateCheck (s : State) (target qgate dvfs : Nat) : Status :=
  let moving : Bool := match s.pw.move with
    | some m => !m.waiting
    | none => false
  if 3 < target ∨ 15 < qgate ∨ 31 < dvfs ∨ dvfs % 4 = 3 ∨ dvfs / 4 % 4 = 3 then .badParam
  else if moving ∨ s.pw.wake.isSome ∨ s.pwrState = 3 then .stateConflict
  else .accepted

/-- The points in force or asked for, in the form of STATE_SET's DVFS. -/
def State.pointsNow (s : State) : Nat := s.get (R.DVFS_TGT 0) + 4 * s.get (R.DVFS_TGT 1) + 16 * s.get (R.DVFS_TGT 2)

/-- STATE_SET executes, once ACCEPTED: a command that waits for its boundary is aborted; a state in force that is no move completes at
once (R512); ACTIVE brings point 0 on every island (R511). -/
def State.stateSet (s : State) (target qgate dvfs chgate : Nat) (cmd : Option Cmd) : State :=
  let s := s.endMove .aborted
  let cur := s.pwrState
  let qg := if target = 1 then qgate else 0
  let cg := if target = 1 then chgate else 0
  let pts := if target = 0 then 0 else dvfs
  let m : PwrMove := { source := cur, target := target, qgate := qg, chgate := cg, gateAt := s.now + 24576, gated := false, ungate := 0,
                       quietAt := none, draining := false, rest := noWake, cmd := cmd }
  if target = cur ∧ (target ≠ 1 ∨ (qg = s.pw.qgate ∧ cg = s.pw.chgate ∧ pts = s.pointsNow)) then
    s.completeJob cmd .ok (s.wakeReport noWake)
  else if cur < 2 ∧ target < 2 then
    ((s.modPw fun x => { x with move := some m }).showTrans).dvfsPoints pts
  else if target < 2 then (s.dvfsPoints pts).leaveHush target qg cg noWake cmd
  else
    let s := doIf (cur < 2) State.setLeave s
    let q := if cur < 2 then s.quietInstant else s.now
    let s := doIf (cur < 2) State.leaveActive s
    let s := (s.modPw fun x => { x with move := some { m with gated := true, quietAt := some q } }).showTrans
    if target = 2 then (s.enterState 2).dvfsPoints pts
    else
      let s := forAll (List.range 3) (fun k s => s.setReg (R.LK_LOST k) 0) s
      let s := (s.setReg R.LK_LOST_B 0).setReg R.LK_RING 0
      (s.put R.PWR_STATUS_STATE_NOW 2).event (.stateChanged cur 3)

/-! ### What waits for a boundary when slots stop (R22, R63) -/

/-- Update what the boundaries keep. -/
def State.modBound (s : State) (f : BoundX → BoundX) : State := { s with bound := f s.bound }

/-- What is shadowed per slot applies (R22, R128, R132, R180, R212, R215), and a spare column takes over (R238). -/
def State.applySlot (d : Dir) (cs : Nat) (s : State) : State :=
  (((s.applyCarrier d cs).applyShift d cs).apply (R.BF_LMAP (dirIx d) cs)).columnTakeover d cs

/-- The phase trim of a quadrant moves once on a cycle (R93). -/
def State.trimOnce (b q : Nat) (s : State) : State :=
  if s.bound.trimmed.getD q none == some b then s
  else (s.applyTrim q).modBound fun x => { x with trimmed := updAt x.trimmed q fun _ => some b }

/-- The last slot of a direction stops on a quadrant: what was shadowed or waited for its next boundary takes effect (R63, R76, R93, R136, R160). -/
def State.stopQuad (d : Dir) (q : Nat) (s : State) : State :=
  match d with
  | .dl => forAll (chainsOf q) (fun ch s => ((s.applyTx ch).pdKick ch).settleChain ch) ((s.applyCfr q).trimOnce s.now q)
  | .ul => forAll (chainsOf q) (fun ch s =>
      let s := s.applyRx ch
      doIf (!s.flag (R.CH_CTRL_RX_PROT ch)) (fun s => (s.put (R.CH_STATUS_RX_PROTECTED ch) 0).modChain ch fun x => { x with protSlots := 0 }) s)
      (s.trimOnce s.now q)

/-- Every slot stops at the quiet instant of FALLOW (R516): EN stays, EN_NOW reads 0, and what was shadowed takes effect. -/
def State.stopSlots (s : State) : State :=
  let was := allSlots.filter fun (d, cs) => s.active d cs
  let busy := ([Dir.dl, Dir.ul].flatMap fun d => (List.range 4).map fun q => (d, q)).filter fun (d, q) => !(s.activeOn d q).isEmpty
  let s := forAll allSlots (fun (d, cs) s => s.put (R.CS_CFG_EN_NOW (dirIx d) cs) 0) s
  forAll busy (fun (d, q) s => State.stopQuad d q s) (forAll was (fun (d, cs) s => State.applySlot d cs s) s)

/-! ### Entering FALLOW (R516) -/

/-- FALLOW_QUIET_INSTANT (R516): the radio, the links and the launch queues; the cores halt; every domain drains; slots stop. -/
def State.fallowQuiet (s : State) (inBurst : Nat) : State :=
  match s.pw.move with
  | some m =>
    match m.target, m.quietAt with
    | 3, some c =>
      let s := s.advanceTo c
      let s := if m.source < 2 then s.radioOff false else s.modMove fun m => { m with quietAt := none }
      let s := s.modMove fun m => { m with draining := true }
      let s := forAll (List.range 4) State.hgFallow s
      let s := s.portsDown.lqDrop.fdFallow.retireAbort
      (forAll (List.range 4) (fun i s => s.drainRequest i inBurst) s).stopSlots
    | _, _ => s
  | none => s

/-- A wake rule wakes the device (R525): the wake starts, or waits for the end of FALLOW entry (R533). -/
def State.startWake (s : State) (src rule : Nat) (act : Bool) : State :=
  if s.pw.wake.isSome then s
  else
    let ms := (s.now - s.tm.fallowAt.getD s.now) / msCycles
    (s.modPw fun x => { x with
      pendWake := none
      wake := some { src := src, rule := rule, active := act, at_ := s.now, err := 0, ms := ms, stage := 0 } }).showTrans

/-- The WAKE_SRC of a rule's source (R525). -/
def wakeSrc (src : Nat) : Nat :=
  if src = 40 then 1 else if src = 41 then 2 else if 42 ≤ src ∧ src ≤ 46 then 3 else 4

/-- The source of a rule (R523). -/
def State.ruleSrc (s : State) (i : Nat) : Nat := bits (s.reg (R.LK_RULE_COND i)).toNat 31 25

/-- The action of a rule (R524). -/
def State.ruleAct (s : State) (i : Nat) : Nat := bits (s.reg (R.LK_RULE_ACTION i)).toNat 31 28

/-- A rule fires its wake. -/
def State.fireRule (s : State) (i : Nat) : State := s.startWake (wakeSrc (s.ruleSrc i)) i (s.ruleAct i == 2)

/-- FALLOW_GATE (R516, R518, R533): once every channel has drained or ended, time passes to the Lark, the sentinels are set and the islands
are gated; a wake that has fired starts at once. -/
def State.fallowGate (s : State) : State :=
  match s.pw.move with
  | some m =>
    if m.target = 3 ∧ m.draining ∧ s.fab.dma.all (fun x => x.drainDue == 0) then
      let s := s.modMove fun m => { m with draining := false }
      let s := (s.tmFallow.modFab fun x => { x with drain := [] }).modPw fun x => { x with lost := [0, 0, 0, 0, 0] }
      let s := ((s.put R.PWR_STATUS_STATE_NOW 3).put R.PWR_STATUS_MI_WAKEOSC 1).put R.CLK_CTRL_MI_SRC 0
      let s := (s.put R.PWR_STATUS_PLL_LOCK 0).showTrans.settle
      match s.pw.pendWake with
      | some i => s.fireRule i
      | none => s
    else s
  | none => s

/-- SENTINEL_CLEAR (R518): in FALLOW the retention supply of a bank falls below 0.46 V. -/
def State.sentinelClear (s : State) (m b : Nat) : State :=
  if s.pwrState = 3 then s.modPw fun x => { x with lost := updAt x.lost m fun k => setBit k b true } else s

/-! ### The Lark (R523 to R526) -/

/-- The filtered value of a source after a sample, in units of 2^−32, rounded convergently (R523, R13). -/
def filterStep (k : Nat) (y : Option Int) (x : Int) : Option Int :=
  let x := x * 2 ^ 32
  match y with
  | some y => some (y + roundShift (x - y) k)
  | none => some x

/-- What a condition compares with its threshold, in units of 2^−32: sensors, supply monitors, and in FALLOW the timer. -/
def State.larkValue (s : State) (src : Nat) : Option Int :=
  if src < 24 then s.pw.filt.getD src none
  else if 47 ≤ src ∧ src ≤ 59 then s.pw.filt.getD (src - 23) none
  else if src = 60 then s.tm.fallowAt.map fun t => ((s.now - t) / secCycles * 2 ^ 32 : Nat)
  else none

/-- Whether a condition holds for the sample of this evaluation, before its count N (R523): ABOVE and BELOW. -/
def State.larkOver (s : State) (i : Nat) : Bool :=
  let w := (s.reg (R.LK_RULE_COND i)).toNat
  let thr := toInt 16 w * 2 ^ 32
  match s.larkValue (s.ruleSrc i), bits w 24 23 with
  | some y, 0 => thr ≤ y
  | some y, 1 => y ≤ thr
  | _, _ => false

/-- Whether a rule is true at an evaluation (R523): `levels` the sources active now, `edges` those with an edge or event now. -/
def State.larkTrue (s : State) (levels : Nat) (edges : List Nat) (i : Nat) : Bool :=
  let w := (s.reg (R.LK_RULE_COND i)).toNat
  let src := s.ruleSrc i
  let n := max 1 (bits w 22 16)
  match bits w 24 23 with
  | 0 => n ≤ s.pw.runs.getD i 0
  | 1 => n ≤ s.pw.runs.getD i 0
  | 2 => 24 ≤ src && src ≤ 46 && (levels.testBit src || edges.contains src)
      && (n ≤ 1 || n ≤ (s.pw.edges.filter fun e => e.1 == src).length)
  | _ => false

/-- Idle exit of any Hedgerow port is a source of its own (R523). -/
def anyExit (edges : List Nat) : List Nat := if edges.any fun e => 42 ≤ e ∧ e ≤ 45 then edges ++ [46] else edges

/-- LARK_EVALUATION (R523 to R525): `tick` an evaluation of the millisecond, with the supply monitors in mV; `edges` the sources whose
qualified edge or event is evaluated; `levels` those active. -/
def State.larkEval (s : State) (tick : Bool) (sup : List Int) (edges : List Nat) (levels : Nat) : State :=
  let edges := anyExit edges
  let s := doIf tick (fun s => s.tickTo 5 fun c => (c / msCycles + 1) * msCycles) s
  let k := s.get R.LK_CFG_FILT_K
  let xs := s.pw.live.take 24 ++ (List.range 13).map fun j => sup.getD j 0
  let s := doIf tick (fun s => s.modPw fun x => { x with filt := (x.filt.zip xs).map fun p => filterStep k p.1 p.2 }) s
  let s := s.modPw fun x => { x with
    edges := (x.edges ++ edges.map fun e => (e, s.now)).filter fun p => s.now < p.2 + secCycles
    runs := (List.range 16).map fun i => if s.larkOver i then x.runs.getD i 0 + 1 else 0 }
  let entering : Bool := match s.pw.move with
    | some m => m.target == 3
    | none => false
  let st := if entering then 3 else s.pwrState
  let holds := (List.range 16).filter fun i =>
    s.larkTrue levels edges i && (s.reg (R.LK_RULE_ACTION i)).toNat.testBit (24 + st)
  let alerts := holds.filter fun i => s.ruleAct i == 3
  let s := forAll alerts (fun i s => s.raiseBit R.LK_STATUS_ALERT i) s
  let hold := st == 3 && holds.any fun i => s.ruleAct i == 4
  let s := s.put R.LK_STATUS_HOLDING (b2n hold)
  let wakes := if st = 3 ∧ s.pw.wake.isNone then holds.filter fun i => s.ruleAct i == 1 || s.ruleAct i == 2 else []
  match s.pw.pendWake, wakes with
  | none, [] => s
  | p, l =>
    match (match p with | some i => some i | none => l.head?) with
    | some i => if hold || s.pwrState ≠ 3 then s.modPw fun x => { x with pendWake := some i } else s.fireRule i
    | none => s

/-! ### Wake (R518 to R522) -/

/-- The registers of blocks, by bits [31:20] of their addresses, return to their boot defaults. -/
def State.resetBlocks (s : State) (l : List Nat) : State :=
  { s with
    regs := s.regs.filter fun p => !l.contains (p.1 >>> 20)
    work := s.work.filter fun p => !l.contains (p.1 >>> 20) }

/-- An island is released with its boot defaults (R519): 0 SI, 1 FI, 2 MI, 3 DI, 4 to 7 CIq, 8 to 11 GIp, 12 HI. MI starts from its image again
(R520), and CIq's converters hold no register of the map: their lock is already lost. A latched safe state stays (R544), and the front end's sessions are the wake's own matter (R520). -/
def State.islandDefaults (i : Nat) (s : State) : State :=
  let z := State.reset
  match i with
  | 0 =>
    let w := s.reg R.FM_STATUS
    let t := s.resetBlocks [0x100, 0x101, 0x102, 0x103, 0x110, 0x111, 0x112, 0x113, 0x116, 0x117, 0x118, 0x11e]
    { t with
      regs := RegFile.set (t.regs.filter fun r => !(r.1 >>> 20 == 0x114 && 0x300 ≤ r.1 % 2 ^ 20 && r.1 % 2 ^ 20 < 0x400)) R.FM_STATUS w
      chains := z.chains, hold := z.hold, lo := z.lo, rfPend := [], f0Pend := [], dfe := z.dfe, pd := z.pd, pdFresh := z.pdFresh, bound := { z.bound with ticks := s.bound.ticks }
      pdAdapt := 0, slot := z.slot, enJobs := [], prach := z.prach, bf := z.bf, sp := z.sp, pa := z.pa, cal := z.cal
      fm := { z.fm with safeAt := s.fm.safeAt } }
  | 1 => { s.resetBlocks [0x11a, 0x11b] with fab := z.fab }
  | 3 => { s.resetBlocks [0x119] with fd := z.fd }
  | 12 => { s with regs := s.regs.filter fun r => !(r.1 >>> 20 == 0x114 && r.1 % 2 ^ 20 < 0x300), hp := z.hp }
  | _ =>
    if 8 ≤ i ∧ i ≤ 11 then
      let p := i - 8
      { s with
        regs := s.regs.filter fun r => !(r.1 >>> 20 == 0x115 && (r.1 >>> 16) % 16 == p && r.1 % 0x10000 < 0x1000)
        hg := updAt s.hg p fun _ => HgX.reset }
    else s

/-- The banks of a memory whose sentinels failed. -/
def State.lostBanks (s : State) (m : Nat) : List Nat := bitList 66 (s.pw.lost.getD m 0)

/-- V is cleared over the banks whose sentinels failed (R484, R519): an SMEM array that serves no addresses clears nothing; a DLM core
loses its three banks and its window of the control block. -/
def State.clearLost (s : State) : State :=
  let clear (m b : Nat) (s : State) : State := s.clearMem (retRange m b).1 (retRange m b).2
  let s := forAll (s.lostBanks 0) (fun b s =>
    if b < 64 then doIf (s.physBank b == b) (clear 0 b) s
    else doIf (s.flag (R.MEM_SPARE_USED (b - 64))) (fun s => clear 0 (s.get (R.MEM_SPARE_BANK (b - 64))) s) s) s
  let s := forAll [1, 2, 4] (fun m s => forAll ((s.lostBanks m).filter (· < banksOf m)) (fun b s => clear m b s) s) s
  forAll ((s.lostBanks 3).filter (· < 8)) (fun n s =>
    let s := clear 3 n s
    { s with
      regs := s.regs.filter fun r => !(R.FD_CTRL n ≤ r.1 && r.1 < R.FD_CTRL n + 0x40)
      fd := updAt s.fd n fun _ => FliorX.reset }) s

/-- The rest of the wake report: 27 bytes after STATE_NOW (R461). -/
def State.wakeRest (s : State) (w : WakeX) (rings : Nat) : List Byte :=
  let l (m : Nat) : Nat := s.pw.lost.getD m 0
  beBytes 1 w.src ++ beBytes 1 w.rule ++ beBytes 1 0 ++ beBytes 4 w.ms
    ++ beBytes 12 (l 0) ++ beBytes 2 (l 1) ++ beBytes 1 (l 2) ++ beBytes 1 (l 4) ++ beBytes 2 rings ++ beBytes 2 0

/-- WAKE (R519 to R521): the Lark has read the sentinels and the islands have power; `rings` are the rings that failed, `err` the Lark
count's error in 2^−16 ns (R333). -/
def State.wakeUp (s : State) (rings : Nat) (err : Int) : State :=
  match s.pw.wake with
  | some w =>
    if w.stage = 0 then
      let s := s.advanceTo (w.at_ + 24576)
      let ms := (((s.now - s.tm.fallowAt.getD s.now : Nat) : Int) * 133333 + err) / (65536 * 1000000)
      let dlm := s.pw.lost.getD 3 0 ≠ 0
      let rings := setBit (rings % 8192) 3 (dlm || rings.testBit 3)
      let w := { w with stage := 1, err := err, ms := if w.ms = 0 then 0 else ms.toNat }
      let s := (s.modPw fun x => { x with wake := some w }).clearLost
      let s := forAll (bitList 13 rings) State.islandDefaults s
      let s := forAll (List.range 4) (fun i s => s.islandUp i) s
      let s := s.put R.LO_STATUS_ALIGNED 0
      let l (m : Nat) : Nat := s.pw.lost.getD m 0
      let s := forAll (List.range 3) (fun k s => s.setReg (R.LK_LOST k) (BitVec.ofNat 32 (l 0 / 2 ^ (32 * k)))) s
      let s := ((s.put R.LK_LOST_B_BMEM (l 1)).put R.LK_LOST_B_MMEM (l 2)).put R.LK_LOST_B_CSTORE (l 4)
      let s := s.put R.LK_RING_RING rings
      let bank := s.pw.lost.any (· ≠ 0)
      let rest := s.wakeRest w rings
      let s := s.modMove fun m => { m with rest := rest }
      let s := if bank ∨ rings ≠ 0 then
          (s.report (mkReport 0x02 .clsU 0x0010 (rings + (if bank then 65536 else 0)))).eventAll (.retentionLost (rest.drop 7))
        else s
      let s := if rings.testBit 2 ∨ l 2 ≠ 0 then
          let s := s.raise R.LK_STATUS_RLOST
          { forAll (List.range 16) (fun x s => s.closeSession x 8) s with boot := .image }
        else s
      if l 4 ≠ 0 then (s.modCasc fun x => { x with map := none }).calRecheck else s
    else s
  | none => s

/-- PLL_LOCK (R521, R573): at a wake the time unit is reloaded from the Lark; at boot the ROM can load an image. -/
def State.pllLock (s : State) : State :=
  match s.pw.wake with
  | some w =>
    if w.stage = 1 then
      let s := (s.advanceTo (w.at_ + 245760)).put R.PWR_STATUS_PLL_LOCK 1
      (s.modPw fun x => { x with wake := some { w with stage := 2 } }).tmWake w.err
    else s
  | none => if s.boot = .rom then { s.put R.PWR_STATUS_PLL_LOCK 1 with boot := .image } else s

/-- HUSH_REACHED (R461, R521, R522): the quiet instant of a move to HUSH, which completes; or the end of a wake, which goes on to ACTIVE
if its rule says so. -/
def State.hushReached (s : State) : State :=
  match s.pw.wake with
  | some w =>
    if w.stage = 2 then
      let s := s.advanceTo (w.at_ + 491520)
      let (rest, cmd) := match s.pw.move with
        | some m => (m.rest, m.cmd)
        | none => (noWake, none)
      let s := { s.modPw fun x => { x with wake := none, move := none } with pdFresh := [true, true, true, true] }
      let s := (s.enterState 2).settle
      let s := (forAll (List.range 4) State.hgWake s).showTrans.retireRecorded
      if w.active then (s.dvfsPoints 0).leaveHush 0 0 0 rest cmd else s.completeJob cmd .ok (s.wakeReport rest)
    else s
  | none =>
    match s.pw.move with
    | some m =>
      match m.target, m.quietAt with
      | 2, some c => ((s.advanceTo c).radioOff true).endMove .ok
      | _, _ => s
    | none => s

/-! ### DVFS rows and clock source -/

/-- DVFS_STEP (R514): the first island with a move under way goes one point toward its target, on an alignment edge. -/
def State.dvfsStep (s : State) : State :=
  match dvfsOrder.find? fun x => s.flag (R.DVFS_BUSY x) with
  | some x =>
    let s := s.advanceTo s.alignEdge
    let f := s.get (R.DVFS_FSEL x)
    let t := s.get (R.DVFS_TGT x)
    let p := if f < t then f + 1 else f - 1
    let p := if f = t then t else p
    let s := (s.setPoint x p p).modPw fun y => { y with vsetFrom := s.now }
    (if p = t then s.put (R.DVFS_BUSY x) 0 else s).moveCheck
  | none => s

/-- VSET_TIMEOUT (R514): the rail has not settled within VSET_TO µs; the sequence stops where it is and the command completes with
HW_FAULT. -/
def State.vsetTimeout (s : State) : State :=
  if s.dvfsBusy then
    let s := s.advanceTo (s.pw.vsetFrom + ceilDiv (s.get R.PWR_TMO_VSET_TO * 49152) 100)
    let s := forAll dvfsOrder (fun x s => s.put (R.DVFS_BUSY x) 0) s
    match s.pw.move with
    | some m =>
      let s := s.completeJob m.cmd .hwFault (s.wakeReport m.rest)
      (s.modMove fun m => { m with cmd := none }).moveCheck
    | none => s
  else s

/-- A write of DVFS (R515): refused while BUSY, for a point the island has not, for both fields at once, and for a frequency above what
the voltage supports. -/
def State.dvfsWrite (s : State) (x : Nat) (v : Word) : Wr :=
  let f := (R.DVFS_FSEL x).of v
  let u := (R.DVFS_VSEL x).of v
  let t := (R.DVFS_TGT x).of v
  let f0 := s.get (R.DVFS_FSEL x)
  let u0 := s.get (R.DVFS_VSEL x)
  if s.flag (R.DVFS_BUSY x) ∨ lastPoint x < t ∨ lastPoint x < f ∨ lastPoint x < u ∨ (f ≠ f0 ∧ u ≠ u0) ∨ f < u then
    refuse R.PWR_STATUS_WR_REFUSED s
  else
    let ask : Bool := t ≠ s.get (R.DVFS_TGT x) || (f == f0 && u == u0 && (t ≠ f0 || t ≠ u0))
    let s := if f = f0 ∧ u = u0 then s else s.setPoint x f u
    .ok (doIf ask (State.dvfsRequest x t) s)

/-- A write of CLK_CTRL.MI_SRC (R35, R521): the PLL is refused without PLL_LOCK. -/
def State.miSrc (s : State) (v : Bool) : Wr :=
  if v && !s.flag R.PWR_STATUS_PLL_LOCK then refuse R.PWR_STATUS_WR_REFUSED s
  else .ok ((s.put R.CLK_CTRL_MI_SRC (b2n v)).put R.PWR_STATUS_MI_WAKEOSC (b2n !v))

/-- A write of a register of the power and clock block. -/
def writePWR (r : RegRow) (ix : List Nat) (a : Nat) (v : Word) (s : State) : Wr :=
  match r.id with
  | .DVFS => s.dvfsWrite (ix.getD 0 0) v
  | .CLK_CTRL => s.miSrc (v.toNat.testBit 0)
  | _ => .ok (s.plainWrite r a v)

/-! ### Thermal management (R527 to R532) -/

/-- T_max and the sensor that gives it. -/
def State.tmax (s : State) : Int × Nat :=
  (List.range 24).foldl (fun (b : Int × Nat) n => if b.1 < s.pw.live.getD n 0 then (s.pw.live.getD n 0, n) else b)
    (s.pw.live.getD 0 0, 0)

/-- Thermal shutdown latches (R530): rank 1, the record, SAFE_STATE; a transition is abandoned and its STATE_SET never completes
(R533). -/
def State.thermalShutdown (s : State) (n : Nat) : State :=
  if s.pw.shut then s
  else
    let s := match s.pw.move.bind PwrMove.cmd with
      | some c => s.unrun c
      | none => s
    let s := (s.modPw fun x => { x with shut := true, shutAt := s.now, move := none, wake := none }).showTrans
    (s.settle.report (mkReport 0x03 .clsF 1 n)).sendSafeState .thermal

/-- SENSOR_CONVERSION (R527 to R530): a sensor's raw reading in 0.125 °C. -/
def State.convert (s : State) (n : Nat) (raw : Int) : State :=
  let x := satS 12 (raw + s.getS (R.SENS_OFS_OFS n))
  let hot : Bool := (s.get R.THERM_CFG_SHUT_C * 8 : Nat) ≤ x
  let was := s.pw.hot.getD n false
  let s := s.modPw fun y => { y with
    live := updAt y.live n fun _ => x
    hot := updAt y.hot n fun _ => hot
    acc := updAt y.acc n fun (a, k) => (a + x, k + 1) }
  let s := doIf (!s.flag (R.TEMP_STALE n)) (fun s => s.put (R.TEMP_TEMP n) (ofInt 12 x)) s
  let (t, i) := s.tmax
  let s := (s.put R.THERM_STATUS_TMAX (ofInt 12 t)).put R.THERM_STATUS_HOT i
  let lim (f : Field) (d : Nat) : Int := ((s.get f : Int) - d) * 8
  let hyst := s.get R.THERM_CFG_HYST
  let warn : Bool := lim R.THERM_CFG_WARN_C 0 ≤ t
  let s := s.put R.THERM_STATUS_WARN (b2n warn)
  let s := if warn ∧ !s.pw.warned then
      (s.modPw fun y => { y with warned := true }).event (.thermWarn i (ofInt 16 t))
    else if t ≤ lim R.THERM_CFG_WARN_C hyst then s.modPw fun y => { y with warned := false }
    else s
  let s := s.modPw fun y => { y with
    hotSince := if lim R.THERM_CFG_THROTTLE_C 0 ≤ t then some (y.hotSince.getD s.now) else none
    coolSince := if t ≤ lim R.THERM_CFG_THROTTLE_C hyst then some (y.coolSince.getD s.now) else none }
  if hot ∧ was then s.thermalShutdown n else s

/-- The quadrants in throttle order (THERM_THR.ORDER, first in bits 15:12). -/
def throttleOrder (w : Nat) : List Nat := [bits w 15 12, bits w 11 8, bits w 7 4, bits w 3 0]

/-- A throttle step is decided (R513, R529): THERM_STATUS and THERM_THROTTLE now, the gating at its frame boundary. -/
def State.throttleTo (s : State) (l : List Nat) (q : Nat) (on : Bool) : State :=
  let m := l.foldl (fun m q => setBit m q true) 0
  let s := s.modPw fun x => { x with
    throttled := l, stepAt := s.now, steps := x.steps ++ [(s.now + 24576, q, on)], coolSince := x.coolSince.map fun _ => s.now }
  (s.put R.THERM_STATUS_THROT m).event (.thermThrottle m)

/-- THROTTLE_STEP (R529): after 10 ms at THROTTLE_C the first quadrant in ORDER, after DWELL frames more the next; after DWELL frames at
THROTTLE_C − HYST the one throttled last is released. -/
def State.throttleStep (s : State) : State :=
  let dwell := s.get R.THERM_THR_DWELL * frameCycles
  let l := s.pw.throttled
  match s.pw.hotSince, s.pw.coolSince with
  | some h, _ =>
    let due := if l = [] then h + 10 * msCycles else max (h + 10 * msCycles) (max h s.pw.stepAt + dwell)
    match (throttleOrder (s.get R.THERM_THR_ORDER)).find? fun q => q < 4 ∧ !l.contains q with
    | some q => (s.advanceTo due).throttleTo (l ++ [q]) q true
    | none => s
  | none, some c =>
    match l.getLast? with
    | some q => (s.advanceTo (c + dwell)).throttleTo l.dropLast q false
    | none => s
  | none, none => s

/-- Whether every sensor reads within OTP_TWIN (R532). -/
def State.otpWindow (s : State) : Bool :=
  s.pw.live.all fun x => ((s.get R.OTP_TWIN_LO * 8 : Nat) : Int) ≤ x && x ≤ ((s.get R.OTP_TWIN_HI * 8 : Nat) : Int)

/-- Whether thermal limits are accepted (R529, R531): none raises SHUT_C or takes it below 105 °C. -/
def State.thermCfgOk (s : State) (v : Word) : Bool :=
  let sh := R.THERM_CFG_SHUT_C.of v
  let th := R.THERM_CFG_THROTTLE_C.of v
  sh ≤ s.get R.THERM_CFG_SHUT_C && 105 ≤ sh && th + 5 ≤ sh && R.THERM_CFG_WARN_C.of v ≤ th

/-- Whether an order names each quadrant once (R529). -/
def orderOk (w : Nat) : Bool := (List.range 4).all fun q => (throttleOrder w).contains q

/-- A write of a register of the thermal block (R529, R531, R532); the block has no refusal flag. -/
def writeTHERM (r : RegRow) (_ix : List Nat) (a : Nat) (v : Word) (s : State) : Wr :=
  match r.id with
  | .THERM_CFG => if s.thermCfgOk v then .ok (s.plainWrite r a v) else .error s
  | .THERM_THR => if orderOk (R.THERM_THR_ORDER.of v) then .ok (s.plainWrite r a v) else .error s
  | .OTP_TWIN =>
    let lo := R.OTP_TWIN_LO.of v
    let hi := R.OTP_TWIN_HI.of v
    if lo < s.get R.OTP_TWIN_LO ∨ s.get R.OTP_TWIN_HI < hi ∨ hi ≤ lo then .error s else .ok (s.plainWrite r a v)
  | _ => .ok (s.plainWrite r a v)

/-- A write of a register of the Lark block (R524): actions 5 to 15 are refused. -/
def writeLK (r : RegRow) (_ix : List Nat) (a : Nat) (v : Word) (s : State) : Wr :=
  match r.id with
  | .LK_RULE_ACTION => if 4 < bits v.toNat 31 28 then .error s else .ok (s.plainWrite r a v)
  | _ => .ok (s.plainWrite r a v)

/-! ### Faults of supply and clock (R36, R541) -/

/-- SUPPLY_FAULT (R541): VDD_SI, VDD_SRAM or VDD_RF, outside FALLOW. -/
def State.supplyFault (s : State) (mon : Nat) : State :=
  if (mon = 0 ∨ mon = 4 ∨ mon = 5) ∧ s.pwrState ≠ 3 then s.report (mkReport 0x02 .clsF 1 mon) else s

/-! ### Meanings -/

/-- DVFS_STEP (R514). -/
def execDvfsStep (s : State) : Host.Outcome State Fault Refusal := .next s.dvfsStep

/-- VSET_TIMEOUT (R514). -/
def execVsetTimeout (s : State) : Host.Outcome State Fault Refusal := .next s.vsetTimeout

/-- DVFS_WRITE (R515). -/
def execDvfsWrite (x : Nat) (v : Word) (s : State) : Host.Outcome State Fault Refusal := .next (s.dvfsWrite x v).state

/-- MI_SRC_WRITE (R35). -/
def execMiSrcWrite (v : Bool) (s : State) : Host.Outcome State Fault Refusal := .next (s.miSrc v).state

/-- FALLOW_QUIET_INSTANT (R516); `inBurst` names the DMA channels in a burst. -/
def execFallowQuietInstant (inBurst : Nat) (s : State) : Host.Outcome State Fault Refusal := .next (s.fallowQuiet inBurst)

/-- FALLOW_GATE (R516). -/
def execFallowGate (s : State) : Host.Outcome State Fault Refusal := .next s.fallowGate

/-- SENTINEL_CLEAR (R518). -/
def execSentinelClear (m b : Nat) (s : State) : Host.Outcome State Fault Refusal := .next (s.sentinelClear m b)

/-- LARK_EVALUATION (R523, R525). -/
def execLarkEvaluation (tick : Bool) (sup : List Int) (edges : List Nat) (levels : Nat) (s : State) :
    Host.Outcome State Fault Refusal := .next (s.larkEval tick sup edges levels)

/-- WAKE (R521). -/
def execWake (rings : Nat) (err : Int) (s : State) : Host.Outcome State Fault Refusal := .next (s.wakeUp rings err)

/-- PLL_LOCK (R521). -/
def execPllLock (s : State) : Host.Outcome State Fault Refusal := .next s.pllLock

/-- HUSH_REACHED (R522). -/
def execHushReached (s : State) : Host.Outcome State Fault Refusal := .next s.hushReached

/-- SENSOR_CONVERSION (R527). -/
def execSensorConversion (n : Nat) (raw : Int) (s : State) : Host.Outcome State Fault Refusal := .next (s.convert n raw)

/-- THROTTLE_STEP (R529). -/
def execThrottleStep (s : State) : Host.Outcome State Fault Refusal := .next s.throttleStep

/-- REFCLK_LOSS (R36). -/
def execRefclkLoss (s : State) : Host.Outcome State Fault Refusal := .next (s.report (mkReport 0x01 .clsF 1 0))

/-- SUPPLY_FAULT (R541). -/
def execSupplyFault (mon : Nat) (s : State) : Host.Outcome State Fault Refusal := .next (s.supplyFault mon)

/-- ETHREF_RESTORE (R36). -/
def execEthrefRestore (s : State) : Host.Outcome State Fault Refusal := .next (s.put R.HP_STATUS_ETHREF_OK 1)

/-- CONV_PLL_RELOCK (R125). -/
def execConvPllRelock (q : Nat) (s : State) : Host.Outcome State Fault Refusal := .next (s.convRelock q).moveCheck

/-- TX_POWER_UP_DONE (R76). -/
def execTxPowerUpDone (ch : Nat) (s : State) : Host.Outcome State Fault Refusal := .next (s.txPowerUpDone ch).moveCheck

/-- RX_POWER_UP_DONE (R76). -/
def execRxPowerUpDone (ch : Nat) (s : State) : Host.Outcome State Fault Refusal := .next (s.rxPowerUpDone ch).moveCheck

/-- SYN_CAL_DONE (R97). -/
def execSynCalDone (syn : Nat) (s : State) : Host.Outcome State Fault Refusal := .next (s.synCalDone syn).moveCheck

/-- SYN_CAL_TIMEOUT (R97). -/
def execSynCalTimeout (syn : Nat) (s : State) : Host.Outcome State Fault Refusal := .next (s.synCalTimeout syn).moveCheck

/-- QUADRANT_RELOCK (R116, R125, R519): `bad` says that the ring of the quadrant's island failed on ungating. -/
def execQuadrantRelock (q : Nat) (bad : Bool) (s : State) : Host.Outcome State Fault Refusal :=
  .next <|
    let s := doIf bad (fun s =>
      let m := 2 ^ (4 + q % 4)
      let s := s.put R.LK_RING_RING (s.get R.LK_RING_RING ||| m)
      (s.report (mkReport 0x02 .clsU 0x0010 m)).eventAll (.retentionLost (List.replicate 16 0 ++ beBytes 2 m ++ beBytes 2 0))) s
    (s.quadRelock q).moveCheck

/-- SWITCH_OVER (R101): what it switches spoils a calibration in progress (R406). -/
def execSwitchOver (s : State) : Host.Outcome State Fault Refusal :=
  .next <|
    let t := s.switchOver
    t.calSwitched ((List.range 4).filter fun q => t.loCode q ≠ s.loCode q || t.src q ≠ s.src q)

/-- ARRSYNC_EDGE (R89, R117): the LO block, and the Hedgerow ports that wait for the array epoch (R256). -/
def execArrsyncEdge (s : State) : Host.Outcome State Fault Refusal :=
  .next <| if s.flag R.LO_CTRL_ARR_ARM then s.loArrsync.hgAligned.moveCheck else s.loArrsync

/-- CONV_RELOCK_TIMEOUT (R541): at a frame boundary a converter PLL has not relocked for the third time. -/
def execConvRelockTimeout (q : Nat) (s : State) : Host.Outcome State Fault Refusal :=
  .next <|
    if s.hold.convHold.testBit q && !s.fbit R.DFE_STATUS_CONV_LOCK q && !s.hold.convDead.testBit q && 2 ≤ s.dfe.convLost.getD q 0 then
      let s := s.modDfe fun x => { x with convLost := updAt x.convLost q fun _ => 3 }
      (({ s with hold := { s.hold with convDead := setBit s.hold.convDead q true } }).report (mkReport 0x09 .clsF 1 q)).settle
    else s

end Sys2Proof.Machine
end

