-- ==== Sys2Proof/Machine/Thistle.lean ====
section
/-! DEFINITION. Thistle: keys and fuses, signed objects, credentials, attestation, debug, firmware update; reset and boot (R532, R547 to
R557, R569 to R574). -/

namespace Sys2Proof.Machine

/-- Update Thistle's own state. -/
def State.modTh (s : State) (f : ThX → ThX) : State := { s with th := f s.th }

/-! ### Keys (R547) -/

/-- The code of key slot `i` (0 to 2 V0 to V2, 3 to 5 K0 to K2) of a scheme (0 Ed25519, 1 ML-DSA-65): 0 empty, 1 programmed, 3 revoked. -/
def ThX.slot (t : ThX) (scheme i : Nat) : Nat := t.keys >>> (2 * (6 * scheme + i)) % 4

/-- Set the code of a slot in both schemes. -/
def ThX.setSlot (t : ThX) (i code : Nat) : ThX :=
  { t with keys := insBits (insBits t.keys (2 * i) 2 code) (2 * (6 + i)) 2 code }

/-- The key hashes a slot holds. -/
def ThX.keyHash (t : ThX) (i : Nat) : Nat × Nat := (look t.hashes i).getD (Config.slotHash i)

/-- Whether a slot is programmed and not revoked in both schemes. -/
def ThX.usable (t : ThX) (i : Nat) : Bool := t.slot 0 i == 1 && t.slot 1 i == 1

/-- Whether a signed object verifies under a slot (R547). -/
def State.verifies (s : State) (i : Nat) (b : List Byte) : Bool :=
  let o := Config.signed b
  s.th.usable i && s.th.keyHash i == (o.ed, o.ml) && Config.sigValid b

/-- The first vendor slot under which an object verifies. -/
def State.vendorSigned (s : State) (b : List Byte) : Bool := (List.range 3).any fun i => s.verifies i b

/-- Whether a customer slot has been programmed (R552). -/
def State.owned (s : State) : Bool := (List.range 3).any fun k => s.th.slot 0 (3 + k) ≠ 0

/-- The anti-rollback count: the blown bits of the counter word (R550). -/
def ThX.arb (t : ThX) : Nat := (bitList 64 t.counter).length

/-- TH_STATUS, TH_KEYS and TH_ARB show what OTP holds. -/
def State.showTh (s : State) : State :=
  let s := (s.put R.TH_STATUS_OWNED (b2n s.owned)).put R.TH_STATUS_DEBUG_DIS (b2n s.th.debugDis)
  let s := (s.put R.TH_STATUS_ARB s.th.arb).put R.TH_KEYS_SLOTS s.th.keys
  (s.setReg R.TH_ARB_LO (BitVec.ofNat 32 s.th.counter)).setReg R.TH_ARB_HI (BitVec.ofNat 32 (s.th.counter / 2 ^ 32))

/-- Blow bits, lowest first, until the count is `n` (R550). -/
def blow (n : Nat) (w : Nat) : Nat :=
  (List.range 64).foldl (fun w i => if (bitList 64 w).length < n then setBit w i true else w) w

/-- The anti-rollback count is brought to a pending SVN inside the window of R532; outside it ADV_PEND stays 1 (R550). -/
def State.advanceTry (s : State) : State :=
  match s.th.advTo with
  | some n =>
    if s.otpWindow then
      ((s.modTh fun t => { t with advTo := none, counter := blow n t.counter }).put R.TH_STATUS_ADV_PEND 0).showTh
    else s.put R.TH_STATUS_ADV_PEND 1
  | none => s

/-! ### KEYOP (R548, R552) -/

/-- A KEYOP is applied: its status and the state it leaves. It programs OTP, so the window is checked (R532). -/
def State.keyop (s : State) (b : List Byte) : State × Status :=
  let o := Config.signed b
  let k := o.slot
  let cust := (List.range 3).map (3 + ·)
  let others (l : List Nat) (i : Nat) : List Nat := l.filter (· ≠ i)
  let signed (l : List Nat) : Bool := l.any fun i => s.verifies i b
  if o.uid ≠ Config.uid then (s, .authFail)
  else if o.op = 3 then
    if !signed cust then (s, .authFail)
    else if !s.otpWindow then (s, .tempRange)
    else ((s.modTh fun t => { t with debugDis := true }).showTh, .ok)
  else if 2 < k ∨ 3 < o.op then (s, .badParam)
  else if o.op = 0 then
    if !Config.sigValid b then (s, .authFail)
    else if s.th.slot 0 (3 + k) ≠ 0 ∨ s.th.slot 1 (3 + k) ≠ 0 then (s, .notPermitted)
    else if !s.otpWindow then (s, .tempRange)
    else
      let first := !s.owned
      let c : Cred := { privileged := true, ed := o.ed, ml := o.ml }
      ((s.modTh fun t => { t.setSlot (3 + k) 1 with
        hashes := insertKey t.hashes (3 + k) (o.ed, o.ml)
        creds := if first then updAt t.creds 0 fun _ => some c else t.creds }).showTh, .ok)
  else
    let l := if o.op = 1 then cust else List.range 3
    let i := if o.op = 1 then 3 + k else k
    if s.th.usable i && (others l i).all (fun j => !s.th.usable j) then (s, .notPermitted)
    else if !signed (others l i) then (s, .authFail)
    else if !s.otpWindow then (s, .tempRange)
    else ((s.modTh fun t => t.setSlot i 3).showTh, .ok)

/-! ### Images (R549) and firmware update (R554, R555) -/

/-- The checks of R549 but for the segments: OK, or the status of the first that fails. -/
def State.manifestCheck (s : State) (b : List Byte) : Status :=
  let o := Config.signed b
  if o.kind ≠ 0 ∨ o.sirev ≠ 0xB1 then .badParam
  else if !s.vendorSigned b then .authFail
  else if o.svn < s.th.arb then .notPermitted
  else .ok

/-- All four checks of R549. -/
def State.imageCheck (s : State) (b : List Byte) : Status :=
  match s.manifestCheck b with
  | .ok => if (Config.signed b).segsOk then .ok else .authFail
  | st => st

/-- The first byte of a firmware region (R554). -/
def fwBase (r : Nat) : Nat := if r = 0 then 0x3200000 else 0x3300000

/-- The region that is not running: the staging area (R554). -/
def State.stagingBase (s : State) : Nat := fwBase (1 - s.get R.TH_STATUS_FW_REGION)

/-- An object of `len` bytes in the staging area. -/
def State.staged (s : State) (len : Nat) : List Byte := (s.readClean s.stagingBase len).1

/-- FW_ACTIVATE (R554, R548): a KEYOP is applied; an image is checked and the update starts: dispatch stops and the cores in Skeora's mode
halt. The status of the reply; ACCEPTED when the update runs. -/
def State.fwActivate (s : State) (len : Nat) (cmd : Option Cmd) : State × Status :=
  let b := s.staged len
  let o := Config.signed b
  if s.th.fw.isSome then (s, .stateConflict)
  else if 0x100000 < len then (s, .badParam)
  else if o.kind = 2 then s.keyop b
  else
    match s.imageCheck b with
    | .ok =>
      let s := s.setReg R.TH_FWSTG (BitVec.ofNat 32 o.version)
      let j : FwJob := { cmd := cmd, at_ := s.now, version := o.version, svn := o.svn, hash := o.hash, advance := o.advance }
      let s := (s.modTh fun t => { t with fw := some j }).modFe fun f => { f with stopped := true }
      let s := forAll (List.range 8) (fun n s => doIf (!s.flag (R.FD_OWNER_MODE n)) (fun s => s.fdHalt n) s) s
      (s, .accepted)
    | st => (s.setReg R.TH_FWSTG 0, st)

/-- FW_READY (R550, R554): the new firmware runs from the staged region and resumes dispatch. -/
def State.fwReady (s : State) : State :=
  match s.th.fw with
  | some j =>
    let s := s.put R.TH_STATUS_FW_REGION (1 - s.get R.TH_STATUS_FW_REGION)
    let s := ((s.setReg R.TH_FWVER (BitVec.ofNat 32 j.version)).put R.TH_SVN_SVN j.svn).setReg R.TH_FWSTG 0
    let s := s.modTh fun t => { t with
      fw := none, runHash := j.hash, advTo := if j.advance && t.arb < j.svn then some j.svn else t.advTo }
    let s := s.modFe fun f => { f with stopped := false }
    let s := (s.event (.ready j.version)).event (.fwActivated j.version)
    (s.completeJob j.cmd .ok []).advanceTry
  | none => s

/-- FW_ACTIVATE_TIMEOUT (R555): 2 s after the start the previous region's firmware goes on. -/
def State.fwTimeout (s : State) : State :=
  match s.th.fw with
  | some j =>
    let s := (s.advanceTo (j.at_ + 2 * secCycles)).modTh fun t => { t with fw := none }
    (s.modFe fun f => { f with stopped := false }).completeJob j.cmd .hwFault []
  | none => s

/-! ### Attestation (R551) -/

/-- The report of R551: 2,540 bytes and the two signatures. -/
def State.attest (s : State) (nonce : List Byte) : List Byte :=
  let flags := b2n s.owned + 2 * s.get R.TH_STATUS_DEBUG + 4 * s.get R.FM_STATUS_SAFE + 8 * b2n (s.get R.TH_STATUS_BOOT_SRC == 1)
  let creds := (List.range 8).foldl (fun m i => setBit m i (s.th.creds.getD i none).isSome) 0
  let b := beBytes 2 1 ++ beBytes 2 0 ++ beBytes 8 Config.uid ++ beBytes 1 0xB1 ++ beBytes 1 flags
    ++ beBytes 1 (s.get R.CASC_STATUS_ROLE) ++ beBytes 1 s.ownDa ++ (nonce ++ List.replicate 32 0).take 32 ++ timeBytes s.time
    ++ beBytes 4 (s.reg R.TH_FWVER).toNat ++ beBytes 1 (s.get R.TH_SVN_SVN) ++ beBytes 1 s.th.arb ++ beBytes 3 s.th.keys ++ beBytes 3 0
    ++ beBytes 48 s.th.runHash ++ beBytes 48 s.th.bootHash
    ++ (List.range 8).flatMap (fun n => beBytes 48 ((s.flior n).kernel.getD 0))
    ++ beBytes 1 creds ++ beBytes 3 0 ++ Config.identityKeys
  b ++ Config.identitySign b

/-! ### Debug (R553) -/

/-- DEBUG_UNLOCK: a token over JTAG. -/
def State.debugUnlock (s : State) (token : List Byte) : State :=
  let o := Config.signed token
  if s.th.debugDis || o.kind ≠ 3 || !s.vendorSigned token || o.uid ≠ Config.uid || o.nonce ≠ Config.jtagNonce then s
  else
    let s := forAll (List.range 5) (fun m s => s.clearMem (memRange m).1 (memRange m).2) s
    let s := forAll (List.range 16) (fun x s => s.closeSession x 7) s
    (s.put R.TH_STATUS_DEBUG 1).enterSafe .debug

/-! ### Device reset (R569) -/

/-- Device reset: every register, memory and unit at its reset value. What OTP, the sealed store and the pins' latch hold stays, time goes
on, and device time starts at zero. -/
def State.deviceReset (s : State) : State :=
  let z := State.reset
  { z with
    pending := s.pending, now := s.now, free := s.free, out := s.out
    tm := { z.tm with epoch := s.now, baseAt := s.now }
    pw := { z.pw with shut := s.pw.shut, shutAt := s.pw.shutAt, dead := s.pw.dead }
    cal := { z.cal with digests := s.cal.digests }
    th := { z.th with
      keys := s.th.keys, hashes := s.th.hashes, counter := s.th.counter, debugDis := s.th.debugDis, shutFuse := s.th.shutFuse
      creds := s.th.creds, mode := s.th.mode, advTo := s.th.advTo } }

/-- RESET_N_LOW (R525, R569): `short` says that the low lasts from 1 µs to 1 ms. In FALLOW such a low wakes the device to HUSH. -/
def State.resetLow (s : State) (short : Bool) : State :=
  if s.pwrState = 3 ∧ short then s.startWake 5 0 false else s.deviceReset

/-- The row repair map shows in MEM_SROW_S and MEM_SROW_B (R478): at most 8 spare rows of a bank. -/
def State.loadSpareRows (s : State) : State :=
  let word (m w n : Nat) : Word := BitVec.ofNat 32 (((List.range n).map fun i => min 8 (Config.spareRows m (8 * w + i)) * 16 ^ i).sum)
  let s := forAll (List.range 9) (fun w s => s.setReg (R.MEM_SROW_S w) (word 0 w (if w = 8 then 2 else 8))) s
  forAll (List.range 2) (fun w s => s.setReg (R.MEM_SROW_B w) (word 1 w 8)) s

/-- The boot ROM starts (R45, R490, R571, R573): OTP is loaded, the locked windows are set; without a source the device stays in
BOOT_FAIL; with the thermal latch held every island but LI stays gated (R574). -/
def State.startRom (s : State) : State :=
  let mode := s.th.mode
  let s := s.modTh fun t => { t with from0 := s.now, railWait := false, tries := 0, reqAt := s.now }
  let s := s.showTh.loadSpareRows
  let s := (s.put R.THERM_CFG_SHUT_C (min 125 s.th.shutFuse)).put R.CASC_STATUS_ROLE (b2n (mode == 3))
  let s := doIf (mode ≠ 3) (fun s => ((s.put R.CASC_STATUS_DA 0).put R.CASC_STATUS_DA_VALID 1).put R.CASC_STATUS_TIME_LOCK 1) s
  let s := forAll [0, 1, 2, 3, 0x58, 0x59] (fun m s =>
    let s := forAll (List.range 8) (fun k s => s.put (R.WIN1_LOCK m k) 1) s
    (((s.put (R.WIN1_SIZE m 0) 32).put (R.WIN1_R m 0) 1).put (R.WIN1_W m 0) 1).put (R.WIN1_EN m 0) 1) s
  let s := if mode = 3 then
      forAll (List.range 4) (fun p s => ((s.put (R.HG_CTRL_MODE p) 0).put (R.HG_CTRL_RATE_MAX p) 0).hgEnWrite p true) s
    else if mode = 1 ∨ mode = 2 then (s.put R.HP_CTRL_CFG (if mode = 1 then 3 else 5)).put R.HP_CTRL_EN 1
    else s
  if s.pw.shut then { s with boot := .held, pw := { s.pw with dead := true } }
  else if 3 < mode then { s with boot := .failed }
  else { s with boot := .rom }

/-- RESET_RELEASE (R570, R571): BOOTMODE is sampled; a rail out of tolerance keeps the device in reset. -/
def State.resetRelease (s : State) (mode : Nat) (rails : Bool) : State :=
  if s.boot = .held ∧ !s.pw.dead then
    let s := s.modTh fun t => { t with mode := mode % 8 }
    if rails then s.startRom else s.modTh fun t => { t with railWait := true }
  else s

/-- RESET_SELF_RELEASE (R570): 1 ms after the last rail came within tolerance. -/
def State.selfRelease (s : State) : State := if s.th.railWait then s.startRom else s

/-- The boot configuration names the device a worker (R45): it has no DA and no time of its own yet, and HI is power-gated (R46). -/
def State.becomeWorker (s : State) : State :=
  ((((s.put R.CASC_STATUS_ROLE 1).put R.CASC_STATUS_DA 0).put R.CASC_STATUS_DA_VALID 0).put R.CASC_STATUS_TIME_LOCK 0).portsDown

/-- An image that passed every check is booted: it stands in FW0 and the firmware starts (R549, R554). -/
def State.bootImage (s : State) (b : List Byte) (src : Nat) : State :=
  let o := Config.signed b
  let s := s.storeMem (fwBase 0) b
  let s := (s.put R.TH_STATUS_BOOT_SRC src).put R.TH_STATUS_FW_REGION 0
  let s := (s.setReg R.TH_FWVER (BitVec.ofNat 32 o.version)).put R.TH_SVN_SVN o.svn
  let s := s.modTh fun t => { t with runHash := o.hash, bootHash := o.hash, bootAdv := o.advance }
  let s := doIf (Config.bootWorker b && !s.worker) State.becomeWorker s
  { s with boot := .firmware }

/-- An image was rejected on the host-port and Hedgerow sources: it is requested again up to three times (R549). -/
def State.rejectImage (s : State) : State :=
  if 3 ≤ s.th.tries then { s with boot := .failed } else s.modTh fun t => { t with tries := t.tries + 1 }

/-- The port a worker boots over (R270): the first whose partner reports a manager or a booted worker. -/
def State.bootPort (s : State) : Option Nat :=
  (List.range 4).find? fun p =>
    let r := s.capPeer p
    s.hgCarries p && (bits r 228 227 == 0 || (bits r 228 227 == 1 && !r.testBit 127))

/-- IMAGE_LOADED (R549): OSPI brings images A and B; a Hedgerow parent brings `a`; over the host port the image is the one that BOOT_LOAD wrote
and BOOT_GO ended. -/
def State.imageLoaded (s : State) (a b : List Byte) : State :=
  if s.boot ≠ .image then s
  else if s.th.mode = 0 then
    let pass (x : List Byte) : Bool := s.manifestCheck x == .ok
    let first := pass a && (!pass b || (Config.signed b).svn ≤ (Config.signed a).svn)
    let order := if first then [(a, 0), (b, 1)] else [(b, 1), (a, 0)]
    match order.find? fun p => s.imageCheck p.1 == .ok with
    | some (x, k) => s.bootImage x k
    | none => { s with boot := .failed }
  else if s.th.mode = 3 then
    if s.bootPort.isNone then s
    else if s.imageCheck a = .ok then s.bootImage a 3 else s.rejectImage
  else
    match s.th.bootGo with
    | some (c, len) =>
      let x := (s.readClean (fwBase 0) len).1
      let s := s.modTh fun t => { t with bootGo := none }
      if s.imageCheck x = .ok then (s.sendReply c .ok 0 [] false).bootImage x 2
      else (s.sendReply c .authFail 0 [] false).rejectImage
    | none => s

/-- BOOT_REQUEST (R572): every 100 ms the ROM asks for an image, with UID, SIREV and the anti-rollback count. -/
def State.bootRequest (s : State) : State :=
  if s.boot = .image ∧ (s.th.mode = 1 ∨ s.th.mode = 2) ∧ s.flag R.HP_STATUS_ETHREF_OK then
    let s := s.advanceTo s.th.reqAt
    let s := s.modTh fun t => { t with reqAt := s.now + 100 * msCycles }
    s.emit (.packet .host { kind := 2, opcode := 0x0A82, tag := 0, session := 0xFF, da := s.ownDa, seq := 0, status := 0, hint := 0,
                            payload := timeBytes s.time ++ beBytes 8 Config.uid ++ beBytes 1 0xB1 ++ beBytes 1 s.th.arb, mac := [],
                            dest := (2 ^ 48 - 1) * 2 ^ 128 })
  else s

/-- BOOT_LOAD (R572): only the ROM of host-port boot takes it; after READY it is no opcode (R574). -/
def State.bootLoad (s : State) (c : Cmd) : State :=
  let ofs := beNat (c.payload.take 4)
  let b := c.payload.drop 4
  if s.boot = .image ∧ (s.th.mode = 1 ∨ s.th.mode = 2) then
    if b.length < 4 ∨ 8188 < b.length ∨ 0x100000 < ofs + b.length then s.sendReply c .badParam 0 [] false
    else (s.storeMem (fwBase 0 + ofs) b).sendReply c .ok 0 [] false
  else s.reply c .badOpcode []

/-- BOOT_GO (R572): the load ends; the reply follows the checks. -/
def State.bootGo (s : State) (c : Cmd) : State :=
  let len := beNat (c.payload.take 4)
  if s.boot = .image ∧ (s.th.mode = 1 ∨ s.th.mode = 2) then
    if c.payload.length ≠ 4 ∨ len = 0 ∨ 0x100000 < len then s.sendReply c .badParam 0 [] false
    else s.modTh fun t => { t with bootGo := some (c, len) }
  else s.reply c .badOpcode []

/-- The self-test of evaluators and columns retires those that fail (R175, R239): a bit per chain, and bit 64 + q for the spare of quadrant q. -/
def State.selfTest (s : State) (evals cols : Nat) : State :=
  let s := forAll (List.range 4) (fun q s =>
    let s := doIf (evals.testBit (64 + q)) (fun s => s.put (R.PD_REPAIR_SPARE_FAILED q) 1) s
    doIf (cols.testBit (64 + q)) (fun s => s.put (R.BF_REPAIR_SPARE_FAILED q) 1) s) s
  let s := forAll (bitList 64 evals) (fun ch s => s.pdRepair ch (s.sfn, 0)) s
  forAll (bitList 64 cols) (fun a s => s.columnFail a .dl 0 0) s

/-- BOOT_READY (R175, R239, R454, R550): the self-test is done, the firmware reports READY, and an advance is due. -/
def State.bootReady (s : State) (evals cols : Nat) : State :=
  if s.boot = .firmware then
    let s := { s.selfTest evals cols with boot := .ready }.retireRecorded
    let n := s.get R.TH_SVN_SVN
    let s := s.modTh fun t => { t with advTo := if t.bootAdv && t.arb < n then some n else t.advTo }
    (s.event (.ready (s.reg R.TH_FWVER).toNat)).advanceTry
  else s

/-- BOOT_PLL_TIMEOUT (R573): the PLLs have not locked within 100 ms of the rising edge of RESET_N. -/
def State.pllTimeout (s : State) : State :=
  if s.boot = .rom then { s.advanceTo (s.th.from0 + 100 * msCycles) with boot := .failed } else s

/-- SHUTDOWN_GATE (R530): 491,520 cycles after thermal shutdown every island but LI, with the Lark, is gated without retention. -/
def State.shutdownGate (s : State) : State :=
  if s.pw.shut ∧ !s.pw.dead then
    let s := s.advanceTo (s.pw.shutAt + 491520)
    let t := s.deviceReset
    let lark := s.regs.filter fun r => r.1 >>> 20 == 0x120
    { t with
      regs := lark.foldl (fun m r => RegFile.set m r.1 r.2) t.regs
      pw := { t.pw with dead := true, filt := s.pw.filt, runs := s.pw.runs, edges := s.pw.edges } }
  else s

/-- LARK_POWER_ON_RESET (R530): VDD_LARK falls below its threshold; the latch and THERMTRIP_N clear, and the device is in reset. -/
def State.larkPor (s : State) : State :=
  s.deviceReset.modPw fun x => { x with shut := false, shutAt := 0, dead := false }

/-! ### Faults by hand -/

/-- FM_SAFE_FORCE (R542): by a Dehan core; by any other master it is refused. -/
def State.safeForce (s : State) (mid : Nat) : Wr :=
  if mid < 4 then .ok (s.enterSafe .forced) else refuse R.FM_STATUS_WR_REFUSED s

/-! ### Meanings -/

/-- What the device latches beside a class F record (R541): for unit 0x09 the quadrant that INFO names is held until reset, for unit 0x08
both synthesisers are out of service, so that LO_READY stays 0. -/
def State.latchCause (s : State) (r : Report) : State :=
  if r.cls = .clsF ∧ r.unit = 0x09 ∧ r.code = 1 then
    ({ s with hold := { s.hold with convDead := setBit s.hold.convDead (r.info % 4) true } }).settle
  else if r.cls = .clsF ∧ r.unit = 0x08 ∧ r.code = 1 then ((s.setSyn 0 synOos).setSyn 1 synOos).refreshReady
  else s

/-- FAULT_REPORT (R537, R541): a reporting unit files a record. -/
def execFaultReport (unit : Nat) (cls code addr info sub mid : Nat) (s : State) : Host.Outcome State Fault Refusal :=
  .next <|
    let k := match cls % 4 with
      | 0 => FClass.clsC
      | 1 => .clsD
      | 2 => .clsU
      | _ => .clsF
    let r : Report := { unit := unit, cls := k, code := code, addr := addr, info := info, sub := sub, mid := mid }
    if unitExists unit then (s.report r).latchCause r else s

/-- FAULT_UNIT_CLR (R538). -/
def execFaultUnitClr (unit : Nat) (s : State) : Host.Outcome State Fault Refusal :=
  .next (if unitExists unit then s.clearUnit unit else s)

/-- FM_SAFE_FORCE (R542). -/
def execFmSafeForce (mid : Nat) (s : State) : Host.Outcome State Fault Refusal := .next (s.safeForce mid).state

/-- DEBUG_UNLOCK (R553). -/
def execDebugUnlock (token : List Byte) (s : State) : Host.Outcome State Fault Refusal := .next (s.debugUnlock token)

/-- FW_READY (R554). -/
def execFwReady (s : State) : Host.Outcome State Fault Refusal := .next s.fwReady

/-- FW_ACTIVATE_TIMEOUT (R555). -/
def execFwActivateTimeout (s : State) : Host.Outcome State Fault Refusal := .next s.fwTimeout

/-- RESET_N_LOW (R569). -/
def execResetNLow (short : Bool) (s : State) : Host.Outcome State Fault Refusal := .next (s.resetLow short)

/-- RESET_RELEASE (R571). -/
def execResetRelease (mode : Nat) (rails : Bool) (s : State) : Host.Outcome State Fault Refusal := .next (s.resetRelease mode rails)

/-- RESET_SELF_RELEASE (R570). -/
def execResetSelfRelease (s : State) : Host.Outcome State Fault Refusal := .next s.selfRelease

/-- IMAGE_LOADED (R549). -/
def execImageLoaded (a b : List Byte) (s : State) : Host.Outcome State Fault Refusal := .next (s.imageLoaded a b)

/-- BOOT_PLL_TIMEOUT (R573). -/
def execBootPllTimeout (s : State) : Host.Outcome State Fault Refusal := .next s.pllTimeout

/-- BOOT_READY (R454). -/
def execBootReady (evals cols : Nat) (s : State) : Host.Outcome State Fault Refusal := .next (s.bootReady evals cols)

/-- BOOT_REQUEST (R572). -/
def execBootRequest (s : State) : Host.Outcome State Fault Refusal := .next s.bootRequest

/-- BOOT_LOAD (R572). -/
def execBootLoad (c : Cmd) (s : State) : Host.Outcome State Fault Refusal := .next (s.bootLoad c)

/-- BOOT_GO (R572). -/
def execBootGo (c : Cmd) (s : State) : Host.Outcome State Fault Refusal := .next (s.bootGo c)

/-- SHUTDOWN_GATE (R530). -/
def execShutdownGate (s : State) : Host.Outcome State Fault Refusal := .next s.shutdownGate

/-- LARK_POWER_ON_RESET (R530). -/
def execLarkPowerOnReset (s : State) : Host.Outcome State Fault Refusal := .next s.larkPor

end Sys2Proof.Machine
end

