-- ==== Sys2Proof/Machine/RegWrite.lean ====
section
/-! DEFINITION. Reading and writing any register of the device by a master (R14 to R16, R488, R503 to R505, R584, R585). -/

namespace Sys2Proof.Machine

/-! ### Fabric block -/

/-- The classes of FAB_CLASS[w] that MIDs have: the rest are reserved (chapter 18). -/
def classMask (w : Nat) : Nat := [0xFFFF00FF, 0, 0xFFFFFFFF, 0xFFFFFFFF, 0xFFFFFFFF, 0x003F00FF].getD w 0

/-- Whether an enabled window's base and size go together (R489). -/
def winOk (base size : Nat) : Bool := 12 ≤ size && size ≤ 32 && 4096 * base % 2 ^ size == 0

/-- A write of a WIN word (R490): by a Dehan core, to an unlocked window. -/
def State.winWrite (s : State) (mid : Nat) (r : RegRow) (m k a : Nat) (v : Word) : Wr :=
  let t := s.plainWrite r a v
  if 4 ≤ mid ∨ s.flag (R.WIN1_LOCK m k) ∨ (t.flag (R.WIN1_EN m k) ∧ !winOk (t.get (R.WIN0_BASE m k)) (t.get (R.WIN1_SIZE m k))) then
    refuse R.FAB_STATUS_WR_REFUSED s
  else .ok t

/-- The counters of the memories (MEM_CNT_CLR). -/
def memCounters : List Nat :=
  R.MEM_WB :: ((List.range 66).map R.MEM_CE_S ++ (List.range 16).map R.MEM_CE_B ++ (List.range 5).map R.MEM_UE ++
    (List.range 5).map R.MEM_PASS)

/-- A write of a register of the fabric, arbiters and stiles block by a master (R479, R490, R504, R505). -/
def writeFAB (mid : Nat) (r : RegRow) (ix : List Nat) (a : Nat) (v : Word) (s : State) : Wr :=
  let i := ix.getD 0 0
  match r.id with
  | .FAB_CLASS => .ok (s.setReg a (BitVec.ofNat 32 (v.toNat &&& classMask i)))
  | .STILE =>
    match v.toNat % 4 with
    | 1 => if s.stile i = 1 ∧ s.stileMid i = mid then .ok (s.stileRelease mid i) else .error s.stileRefuse
    | 2 => if s.stile i = 3 ∧ s.stileMid i = mid then .ok (s.stileClean mid i) else .error s.stileRefuse
    | _ => .error s.stileRefuse
  | .STILE_FORCE => if mid < 4 then .ok (State.stileBreak (v.toNat % 64) s) else refuse R.FAB_STATUS_WR_REFUSED s
  | .FAB_CNT_CLR => .ok (doIf (v.toNat.testBit 0) (fun s => s.setReg R.STILE_CNT 0) s)
  | .WIN0 => s.winWrite mid r i (ix.getD 1 0) a v
  | .WIN1 => s.winWrite mid r i (ix.getD 1 0) a v
  | .MEM_RETIRE =>
    let b := v.toNat % 64
    if !v.toNat.testBit 8 then .ok (s.put R.MEM_RETIRE_BANK b)
    else if (s.retireCheck b).isNone then .ok (s.retireGo b none).1
    else .ok ((s.put R.MEM_RETIRE_BANK b).retireGo b none).1
  | .MEM_CNT_CLR => .ok (doIf (v.toNat.testBit 0) (fun s => forAll memCounters (fun a s => s.setReg a 0) s) s)
  | _ => .ok (s.plainWrite r a v)

/-! ### The other blocks -/

/-- A write of a register of the command front end, in the host port block (chapter 15): SPI_URGENT keeps its value once ADAC_LOCK
has committed it (R14, R377), and an age of 0 is refused. -/
def writeFront (r : RegRow) (ix : List Nat) (a : Nat) (v : Word) (s : State) : Wr :=
  match r.id with
  | .CMD_CFG =>
    let u := s.get R.CMD_CFG_SPI_URGENT
    .ok (doIf (s.flag R.SEQ_STATUS_LOCKED) (fun s => s.put R.CMD_CFG_SPI_URGENT u) (s.plainWrite r a v))
  | .CMD_AGE => if v.toNat % 65536 = 0 then refuse R.HP_STATUS_WR_REFUSED s else .ok (s.plainWrite r a v)
  | .CMD_CNT_CLR =>
    .ok (doIf (v.toNat.testBit 0)
      (fun s => forAll [R.CMD_CNT0, R.CMD_CNT1, R.CMD_CNT2, R.CMD_CNT3] (fun a s => s.setReg a 0) s) s)
  | _ => writeHP r ix a v s

/-- A write of a register of the fault manager by a master (R539, R542). -/
def writeFM (mid : Nat) (r : RegRow) (ix : List Nat) (a : Nat) (v : Word) (s : State) : Wr :=
  match r.id with
  | .FM_SAFE_FORCE => if v.toNat.testBit 0 then s.safeForce mid else .ok s
  | .FM_CLR => .ok (doIf (v.toNat.testBit 0) (fun s => s.clearUnit (ix.getD 0 0)) s)
  | _ => .ok (s.plainWrite r a v)

/-- Whether a register of the DFE block belongs to the predistorter (chapter 5). -/
def RegId.predist (i : RegId) : Bool :=
  [RegId.PD_CFG, .PD_STATUS, .PD_CNT_CLR, .PD_TSEL, .PD_REPAIR, .PD_CHCFG, .PD_NBR, .PD_TBMAP, .PD_BYP_G, .PD_CMD, .PD_STATE,
    .PD_ACL, .PD_CNT, .PD_TERMS, .COEF_I, .COEF_Q].contains i

/-! ### Any register -/

/-- A write of the word at a register address by a master (R584): `.ok` with its effect, or `.error` with the refusal recorded. An offset
that no block defines takes no effect (R15). -/
def State.regWrite (s : State) (mid a : Nat) (v : Word) : Wr :=
  match findReg a with
  | none => .ok s
  | some (r, ix) =>
    match a >>> 20 with
    | 0x110 => writeLO r ix a v s
    | 0x111 => writePD r ix a v s
    | 0x112 => writeLP r ix a v s
    | 0x113 => writeBF r ix a v s
    | 0x114 => writeFront r ix a v s
    | 0x115 => writeCasc r ix a v s
    | 0x116 => writeTU r ix a v s
    | 0x117 => writePA r ix a v s
    | 0x118 => writeCAL r ix a v s
    | 0x119 => writeFD mid r ix a v s
    | 0x11a => writeDMA r ix a v s
    | 0x11b => writeFAB mid r ix a v s
    | 0x11c => writePWR r ix a v s
    | 0x11d => writeTHERM r ix a v s
    | 0x11e => writeFM mid r ix a v s
    | 0x11f => .ok (s.plainWrite r a v)
    | 0x120 => writeLK r ix a v s
    | _ => writeCHB r ix a v s

/-- The value of the register at an address, read without side effect (R15, R585): the values that run with time or are held in memory
are those of this instant, and STILE shows the holder as STILE_PEEK does. -/
def State.regPeek (s : State) (a : Nat) : Word :=
  match findReg a with
  | none => 0
  | some (r, ix) =>
    let i := ix.getD 0 0
    match r.id with
    | .LP_STATUS => R.LP_STATUS_SFN.into (s.reg a) s.sfn
    | .SLOT_TBL => s.entryRead i (ix.getD 1 0)
    | .WS_CFG => s.wsRead i
    | .GEOM_DATA => s.geomRead
    | .LQ_STATUS => s.lqStatus
    | .STILE => BitVec.ofNat 32 (s.stileMid i)
    | .FD_CYCLE =>
      if s.fdState i = fdRunning ∨ s.fdState i = fdWaiting then BitVec.ofNat 32 (s.fdCycleAt i s.now) else s.reg a
    | _ => plainRead r (s.reg a)

/-- A read of the register at an address by a master: a read of STILE acquires (R503). -/
def State.regRead (s : State) (mid a : Nat) : State × Word :=
  match findReg a with
  | some (r, ix) =>
    match r.id with
    | .STILE => let (s, k, m) := s.stileRead mid (ix.getD 0 0); (s, BitVec.ofNat 32 (k * 2 ^ 30 + m))
    | _ => (s, s.regPeek a)
  | none => (s, 0)

/-- The word that a masked write gives to a register (R585): RW and RWL bits outside the mask as read, every other bit outside it 0. -/
def State.maskWord (s : State) (a mask : Nat) (v : Word) : Word :=
  match findReg a with
  | none => 0
  | some (r, _) =>
    let keep := r.fields.foldl (fun m f =>
      match f.acc with
      | .rw => m + (2 ^ (f.hi + 1) - 2 ^ f.lo)
      | .rwl => m + (2 ^ (f.hi + 1) - 2 ^ f.lo)
      | _ => m) 0
    let out := BitVec.ofNat 32 (keep - (keep &&& mask))
    (s.regPeek a &&& out) ||| (v &&& BitVec.ofNat 32 mask)

/-- The refusal code that the block of a register shows (R456): 0 where the block has none. -/
def State.refusalCode (s : State) (a : Nat) : Nat :=
  match a >>> 20 with
  | 0x112 => s.get R.LP_STATUS_REFUSE
  | 0x113 => s.get R.BF_STATUS_REFUSE
  | 0x111 =>
    match findReg a with
    | some (r, ix) =>
      if !r.id.predist then 0
      else if r.id = .PD_TSEL then s.get (R.PD_STATE_REFUSE (16 * ix.getD 0 0))
      else s.get (R.PD_STATE_REFUSE (ix.getD 0 0))
    | none => 0
  | _ => 0

/-! ### Meanings -/

/-- REGISTER_WRITE (R584): a master writes a register. -/
def execRegisterWrite (mid addr : Nat) (v : Word) (s : State) : Host.Outcome State Fault Refusal := .next (s.regWrite mid addr v).state

end Sys2Proof.Machine
end

