-- ==== Sys2Proof/Machine/FliorExec.lean ====
section
/-! DEFINITION. The bundles of a Flior core and its far accesses (R409 to R430, R435). -/

namespace Sys2Proof.Machine

/-! ### Registers of a core (R409, R410, R420) -/

/-- The physical number of vector name Vk under a rotation base (R420). -/
def physV (rb k : Nat) : Nat := if k < 16 then k else 16 + (k - 16 + rb) % 16

/-- The four lanes of a vector register (R410). -/
def lanesOf (v : Nat) : List (Int × Int) :=
  (List.range 4).map fun l => (toInt 16 (v / 2 ^ (32 * l)), toInt 16 (v / 2 ^ (32 * l + 16)))

/-- A vector register from its lanes. -/
def vecOf (l : List (Int × Int)) : Nat :=
  (l.map fun (z : Int × Int) => ofInt 16 z.1 + 2 ^ 16 * ofInt 16 z.2).foldr (fun a n => a + 2 ^ 32 * n) 0

/-- A write that a bundle makes to the registers of its core. -/
inductive FdWrite where
  | v (k val : Nat)
  | a (k : Nat) (val : List (Int × Int))
  | s (k val : Nat)
  | p (k val : Nat)
  | m (k val : Nat)
deriving DecidableEq, Repr

/-- What a slot does to the registers (R421): its writes, the sticky flags it sets, and for interlocked resources the cycles from issue
to use (R423). -/
structure SlotOut where
  writes : List FdWrite
  sat : Bool
  trim : Bool
  mref : Bool
  lat : List (Nat × Nat)
deriving DecidableEq, Repr

/-- A slot that writes nothing. -/
def SlotOut.none : SlotOut where
  writes := []
  sat := false
  trim := false
  mref := false
  lat := []

/-- Make a write. -/
def FliorX.write (x : FliorX) (w : FdWrite) : FliorX :=
  match w with
  | .v k n => { x with v := updAt x.v k fun _ => n }
  | .a k l => { x with acc := updAt x.acc k fun _ => l }
  | .s k n => { x with sr := updAt x.sr k fun _ => n }
  | .p k n => { x with pr := updAt x.pr k fun _ => n }
  | .m k n => { x with mr := updAt x.mr k fun _ => n }

/-- Interlocked resources: V registers by physical number; accumulators for EXT; S registers; P and M registers for LS accesses. -/
def resA (k : Nat) : Nat := 32 + k
/-- Scalar register `k`. -/
def resS (k : Nat) : Nat := 48 + k
/-- Address register `k`. -/
def resP (k : Nat) : Nat := 64 + k
/-- Modulo register `k`. -/
def resM (k : Nat) : Nat := 80 + k

/-- A result brought to `w` bits (R416): saturated with S, wrapped without. -/
def narrow (sat : Bool) (w : Nat) (i : Int) : Int × Bool :=
  if sat then (satS w i, satS w i ≠ i) else (toInt w (ofInt w i), false)

/-- Both components of the lanes brought to `w` bits. -/
def narrowLanes (sat : Bool) (w : Nat) (l : List (Int × Int)) : List (Int × Int) × Bool :=
  let r := l.map fun (z : Int × Int) => (narrow sat w z.1, narrow sat w z.2)
  (r.map fun p => (p.1.1, p.2.1), r.any fun p => p.1.2 || p.2.2)

/-! ### Slot encodings (R414, R417, R418, R422) -/

/-- The operation of a slot. -/
def slotOp (w : Nat) : Nat := w / 2 ^ 26

/-- The ALU operations of R418. -/
def aluOps : List Nat :=
  [0x00, 0x01, 0x02, 0x03, 0x04, 0x08, 0x09, 0x0A, 0x0B, 0x0C, 0x0D, 0x10, 0x11, 0x12, 0x13, 0x14, 0x15, 0x16]

/-- Whether an ALU slot is legal (R418, R422); `after` says that its bundle follows a LOOP whose count it continues,
in the low four bits of a NOP. -/
def aluLegal (w : Nat) (after : Bool) : Bool :=
  let op := slotOp w
  let low := w % 2 ^ 26
  aluOps.contains op
    && (!(op == 0) || low < (if after then 16 else 1))
    && (!(op == 0x14 || op == 0x16) || low == 0)
    && (!(op == 0x0D || op == 0x11 || op == 0x12 || op == 0x13 || op == 0x15) || bits w 19 16 == 0)
    && (!(op == 0x11) || bits w 25 24 ≠ 3)
    && (!(op == 0x10) || w % 256 ≠ 0)

/-- Whether a MAC slot is legal (R417, R422). -/
def macLegal (w : Nat) : Bool :=
  let op := slotOp w
  op < 8 && w % 8 == 0
    && (match op with
        | 6 => bits w 16 12 == 0
        | 7 => true
        | _ => bits w 7 3 == 0)

/-- Whether an LS slot is legal (R414, R422). -/
def lsLegal (w : Nat) : Bool := slotOp w == 0 || (slotOp w < 6 && bits w 16 15 ≠ 3)

/-- Bytes of the access of an LS operation (R414, R422). -/
def lsBytes (op : Nat) : Nat := if op = 1 ∨ op = 2 then 16 else 4

/-- Whether an LS operation stores. -/
def lsStore (op : Nat) : Bool := op == 2 || op == 4

/-! ### Slots (R415 to R418) -/

/-- The ALU slot's writes to registers. `sr` is the value of SR for a MOVS of it, and `open_` that of a shift whose IMM lies outside
its range. -/
def FliorX.alu (x : FliorX) (rb w sr open_ : Nat) : SlotOut :=
  let s := w.testBit 25
  let d := bits w 24 20
  let a := bits w 19 15
  let b := bits w 14 10
  let imm := w % 512
  let va := lanesOf (x.v.getD (physV rb a) 0)
  let vb := lanesOf (x.v.getD (physV rb b) 0)
  let sa := x.sr.getD (a % 16) 0
  let vec (l : List (Int × Int)) : SlotOut :=
    let (l, f) := narrowLanes s 16 l
    { SlotOut.none with writes := [.v (physV rb d) (vecOf l)], sat := f, lat := [(physV rb d, 1)] }
  let num (i : Int) : SlotOut :=
    let (i, f) := narrow s 32 i
    { SlotOut.none with writes := [.s (d % 16) (ofInt 32 i)], sat := f, lat := [(resS (d % 16), 1)] }
  let other : Int := if w.testBit 9 then toInt 9 imm else toInt 32 (x.sr.getD (b % 16) 0)
  let lost : SlotOut := { SlotOut.none with writes := [.v (physV rb d) (open_ % 2 ^ 128)], lat := [(physV rb d, 1)] }
  match slotOp w with
  | 0x01 => vec (va.zipWith (fun (p q : Int × Int) => (p.1 + q.1, p.2 + q.2)) vb)
  | 0x02 => vec (va.zipWith (fun (p q : Int × Int) => (p.1 - q.1, p.2 - q.2)) vb)
  | 0x03 => if imm < 16 then vec (va.map fun (p : Int × Int) => (roundShift p.1 imm, roundShift p.2 imm)) else lost
  | 0x04 => if imm < 16 then vec (va.map fun (p : Int × Int) => (p.1 * 2 ^ imm, p.2 * 2 ^ imm)) else lost
  | 0x08 => num (toInt 32 sa + other)
  | 0x09 => num (toInt 32 sa - other)
  | 0x0A => { SlotOut.none with writes := [.p (d % 16) sa], lat := [(resP (d % 16), 2)] }
  | 0x0B =>
    let len := bits sa 29 16
    if len = 0 ∨ 16384 < bits sa 13 0 + len then { SlotOut.none with mref := true }
    else { SlotOut.none with writes := [.m (d % 16) (bits sa 29 16 * 2 ^ 16 + bits sa 13 0)], lat := [(resM (d % 16), 2)] }
  | 0x0C =>
    let val := match Config.movsSource (w % 2 ^ 26) % 3 with
      | 0 => x.pr.getD (a % 16) 0
      | 1 => x.mr.getD (a % 16) 0
      | _ => sr
    { SlotOut.none with writes := [.s (d % 16) val], lat := [(resS (d % 16), 1)] }
  | _ => SlotOut.none

/-- The MAC slot (R417). -/
def FliorX.mac (x : FliorX) (rb w : Nat) : SlotOut :=
  let s := w.testBit 25
  let ad := bits w 24 22
  let va := lanesOf (x.v.getD (physV rb (bits w 21 17)) 0)
  let vb := lanesOf (x.v.getD (physV rb (bits w 16 12)) 0)
  let vb := if w.testBit 10 then List.replicate 4 (vb.getD (bits w 9 8) (0, 0)) else vb
  let vb := if w.testBit 11 then vb.map fun (q : Int × Int) => (q.1, -q.2) else vb
  let p := va.zipWith (fun (p q : Int × Int) => (p.1 * q.1 - p.2 * q.2, p.1 * q.2 + p.2 * q.1)) vb
  let old := x.acc.getD ad (List.replicate 4 (0, 0))
  let acc (l : List (Int × Int)) : SlotOut :=
    let (l, f) := narrowLanes s 48 l
    { SlotOut.none with writes := [.a ad l], sat := f, lat := [(resA ad, 4)] }
  let vec (k cyc : Nat) (l : List (Int × Int)) : SlotOut :=
    let (l, f) := narrowLanes s 16 l
    { SlotOut.none with writes := [.v (physV rb k) (vecOf l)], sat := f, lat := [(physV rb k, cyc)] }
  match slotOp w with
  | 0x01 => acc (old.zipWith (fun (p q : Int × Int) => (p.1 + q.1, p.2 + q.2)) p)
  | 0x02 => acc (old.zipWith (fun (p q : Int × Int) => (p.1 - q.1, p.2 - q.2)) p)
  | 0x03 => acc p
  | 0x04 => acc (old.zipWith (fun (p q : Int × Int) => (p.1 + q.1 * q.1 + q.2 * q.2, p.2)) va)
  | 0x05 => { SlotOut.none with writes := [.a ad (List.replicate 4 (0, 0))] }
  | 0x06 =>
    let sh := bits w 7 3
    vec (bits w 21 17) 2 (old.map fun (p : Int × Int) => (roundShift p.1 sh, roundShift p.2 sh))
  | 0x07 => vec (bits w 7 3) 4 (p.map fun (p : Int × Int) => (roundShift p.1 15, roundShift p.2 15))
  | _ => SlotOut.none

/-- The update of an address register by the rule of R415: the new pointer, and whether it was trimmed. -/
def modUpdate (base len pn : Nat) (inc : Int) : Nat × Bool :=
  let o := (pn + 2 ^ 32 - base) % 2 ^ 32
  if o < len then (base + ((o : Int) + inc).emod len |>.toNat, false)
  else
    let n : Int := o + inc
    if n < 0 ∨ (len : Int) ≤ n then (base, true) else (base + n.toNat, false)

/-- What an LS slot does to its address register (R414, R415). -/
def FliorX.lsUpdate (x : FliorX) (n w : Nat) : SlotOut :=
  let p := bits w 20 17
  let pn := x.pr.getD p 0
  let inc := toInt 15 w
  match bits w 16 15 with
  | 1 => { SlotOut.none with writes := [.p p (ofInt 32 (pn + inc))], lat := [(resP p, 1)] }
  | 2 =>
    let m := x.mr.getD p 0
    let (q, t) := modUpdate (dlm n + 16 * bits m 13 0) (16 * bits m 29 16) pn inc
    { SlotOut.none with writes := [.p p (q % 2 ^ 32)], trim := t, lat := [(resP p, 1)] }
  | _ => SlotOut.none

/-- The address of an LS slot's access. -/
def FliorX.lsAddr (x : FliorX) (w : Nat) : Nat := x.pr.getD (bits w 20 17) 0

/-- Whether an address lies in a core's own local memory. -/
def inDlm (n a : Nat) : Bool := dlm n ≤ a && a < dlm n + 0x40000

/-- The bank of a local address: 0 X, 1 Y, 2 C (R411). -/
def dlmBank (n a : Nat) : Nat := if a < dlm n + 0x18000 then 0 else if a < dlm n + 0x30000 then 1 else 2

/-! ### What a bundle reads and waits for (R423, R424) -/

/-- The interlocked resources a bundle reads. -/
def bundleReads (rb : Nat) (ws : List Nat) : List Nat :=
  let alu := ws.getD 0 0
  let mac := ws.getD 1 0
  let d := physV rb (bits alu 19 15)
  let vb := physV rb (bits alu 14 10)
  let sa := resS (bits alu 19 15 % 16)
  let cs := resS (bits alu 23 20)
  let ra := match slotOp alu with
    | 0x01 => [d, vb]
    | 0x02 => [d, vb]
    | 0x03 => [d]
    | 0x04 => [d]
    | 0x08 => if alu.testBit 9 then [sa] else [sa, resS (bits alu 14 10 % 16)]
    | 0x09 => if alu.testBit 9 then [sa] else [sa, resS (bits alu 14 10 % 16)]
    | 0x0A => [sa]
    | 0x0B => [sa]
    | 0x10 => if alu.testBit 24 then [cs] else []
    | 0x11 => if bits alu 25 24 = 0 then [] else [cs]
    | _ => []
  let ma := physV rb (bits mac 21 17)
  let mb := physV rb (bits mac 16 12)
  let rm := match slotOp mac with
    | 0x01 => [ma, mb]
    | 0x02 => [ma, mb]
    | 0x03 => [ma, mb]
    | 0x04 => [ma]
    | 0x06 => [resA (bits mac 24 22)]
    | 0x07 => [ma, mb]
    | _ => []
  let rl := (ws.drop 2).flatMap fun w =>
    if slotOp w = 0 then [] else
      let p := bits w 20 17
      [resP p] ++ (if bits w 16 15 = 2 then [resM p] else []) ++
        (match slotOp w with
         | 2 => [physV rb (bits w 25 21)]
         | 4 => [resS (bits w 25 21 % 16)]
         | _ => [])
  ra ++ rm ++ rl

/-- The register that an outstanding far load will write. -/
def FarLoad.res (l : FarLoad) : Nat := if l.op = 3 then resS l.dst else l.dst

/-- Whether a bundle waits: it reads the register of an outstanding far load, or is a FENCE behind far accesses, or would have more than
four far loads or eight far stores outstanding. -/
def FliorX.waits (x : FliorX) (n rb : Nat) (ws : List Nat) : Bool :=
  let far (store : Bool) : Nat :=
    ((ws.drop 2).filter fun w => slotOp w ≠ 0 && lsStore (slotOp w) == store && !inDlm n (x.lsAddr w)).length
  (bundleReads rb ws).any (fun r => x.loads.any fun l => l.res == r)
    || (slotOp (ws.getD 0 0) == 0x14 && (x.loads ≠ [] || x.stores ≠ []))
    || (0 < far false && 4 < x.loads.length + far false) || (0 < far true && 8 < x.stores.length + far true)

/-! ### Loops and the next bundle (R419, R420) -/

/-- Loops after the bundle `last` has ended without a jump: each loop whose body ends there goes on or ends (innermost first); the next
bundle, and how many rotation steps RB takes. -/
def loopEnd (next last : Nat) : List FdLoop → Nat × List FdLoop × Nat
  | [] => (next, [], 0)
  | l :: t =>
    if l.last = last then
      if 1 < l.left then (l.first, { l with left := l.left - 1 } :: t, b2n l.rot)
      else
        let (pc, t, r) := loopEnd next last t
        (pc, t, r + b2n l.rot)
    else (next, l :: t, 0)

/-- Loops that a taken branch leaves: those whose body does not hold the target. -/
def loopLeave (pc : Nat) (l : List FdLoop) : List FdLoop := l.dropWhile fun x => pc < x.first || x.last < pc

/-- RB after `r` rotation steps of −1. -/
def rotBack (rb r : Nat) : Nat := (rb + 16 * r - r) % 16

/-! ### Faults before a bundle (R414, R419, R422, R429) -/

/-- The cause of the fault that an LS slot raises (1 ILLEGAL, 2 ALIGN), if any, with the address. -/
def FliorX.lsFault (x : FliorX) (w : Nat) : Option (Nat × Option Nat) :=
  if !lsLegal w then some (1, none)
  else if slotOp w ≠ 0 ∧ x.lsAddr w % lsBytes (slotOp w) ≠ 0 then some (2, some (x.lsAddr w))
  else none

/-- The fault of a bundle, slots in the order ALU, MAC, LS0, LS1. `after` says that it continues a LOOP's count, `nextOk` that the next
bundle's ALU slot continues this one's. -/
def FliorX.bundleFault (x : FliorX) (ws : List Nat) (after nextOk : Bool) : Option (Nat × Option Nat) :=
  let alu := ws.getD 0 0
  if !aluLegal alu after then some (1, none)
  else if slotOp alu = 0x10 ∧ !alu.testBit 24 ∧ !nextOk then some (1, none)
  else if slotOp alu = 0x10 ∧ (2 ≤ x.loops.length ∨ x.loops.any FdLoop.rot) then some (4, none)
  else if !macLegal (ws.getD 1 0) then some (1, none)
  else ((ws.drop 2).findSome? x.lsFault)

/-! ### Accesses (R412, R424, R427, R430) -/

/-- A word's check by the finding the row names for it, if it names one. -/
def State.eccAt (s : State) (ecc : List (Nat × EccFinding)) (mid w : Nat) : State :=
  match look ecc w with
  | some f => (s.readCheck w f 0 mid).1
  | none => s

/-- A load's data put into its register (R422): VLD and SLD as read, VLDB in all four lanes. -/
def loadWrite (op dst val : Nat) : FdWrite :=
  match op with
  | 1 => .v dst (val % 2 ^ 128)
  | 3 => .s dst (val % 2 ^ 32)
  | _ => .v dst ((val % 2 ^ 32) * (1 + 2 ^ 32 + 2 ^ 64 + 2 ^ 96))

/-- The register named by an LS load: a physical V register or an S register. -/
def lsDst (rb w : Nat) : Nat := if slotOp w = 3 then bits w 25 21 % 16 else physV rb (bits w 25 21)

/-- The bytes that an LS store writes. -/
def FliorX.lsData (x : FliorX) (rb w : Nat) : List Byte :=
  if slotOp w = 2 then leBytes 16 (x.v.getD (physV rb (bits w 25 21)) 0) else leBytes 4 (x.sr.getD (bits w 25 21 % 16) 0)

/-- One LS access of a bundle, with its pointer's update; `x` is the core as the bundle found it. -/
def State.lsRun (s : State) (n rb cyc pc w : Nat) (x : FliorX) (ecc : List (Nat × EccFinding)) : State × SlotOut :=
  let op := slotOp w
  let a := x.lsAddr w
  let up := x.lsUpdate n w
  if op = 0 then (s, SlotOut.none)
  else if inDlm n a then
    if lsStore op then (s.mergeStore (fdMid n) a (x.lsData rb w) ecc, up)
    else
      let s := s.eccAt ecc (fdMid n) (a / 16)
      let bad := s.poisoned (a / 16)
      let s := doIf bad (fun s => s.fdPoison n a) s
      let val := if bad then 0 else leNat (s.bytes a (lsBytes op))
      let d := lsDst rb w
      (s, { up with writes := loadWrite op d val :: up.writes, lat := (if op = 3 then resS d else d, 3) :: up.lat })
  else if lsStore op then
    (s.modFlior n fun y => { y with stores := y.stores ++ [{ addr := a, bytes := x.lsData rb w, pc := pc }] }, up)
  else
    (s.modFlior n fun y => { y with loads := y.loads ++ [{ op := op, dst := lsDst rb w, addr := a, issued := cyc, pc := pc }] }, up)

/-- The violation that an LS slot's far access would be, with its address. -/
def State.lsViolates (s : State) (n : Nat) (x : FliorX) (w : Nat) : Option (Nat × Nat) :=
  let a := x.lsAddr w
  if slotOp w = 0 ∨ inDlm n a then none
  else
    match s.accessCause (fdMid n) a (lsBytes (slotOp w)) (lsStore (slotOp w)) with
    | 0 => none
    | k => some (k, a)

/-! ### A bundle (R421 to R423) -/

/-- Slot results take effect in order. -/
def State.slotWrites (s : State) (n cyc : Nat) (l : List SlotOut) : State :=
  let s := s.modFlior n fun x =>
    { (l.flatMap SlotOut.writes).foldl FliorX.write x with
      ready := (l.flatMap SlotOut.lat).foldl (fun r (k : Nat × Nat) => insertKey r k.1 (cyc + k.2)) x.ready }
  let s := doIf (l.any SlotOut.sat) (fun s => s.raise (R.FD_STATUS_SATF n)) s
  let s := doIf (l.any SlotOut.trim) (fun s => s.raise (R.FD_STATUS_WRAPTRIM n)) s
  doIf (l.any SlotOut.mref) (fun s => s.raise (R.FD_STATUS_MREF n)) s

/-- Enter a loop, or set the next bundle after one that took no jump. -/
def State.fdNext (s : State) (n next last : Nat) : State :=
  let (pc, l, r) := loopEnd next last (s.flior n).loops
  let s := (s.modFlior n fun x => { x with loops := l }).put (R.FD_PC_PC n) (pc % 4096)
  s.put (R.FD_STATUS_RB n) (rotBack (s.get (R.FD_STATUS_RB n)) r)

/-- The control part of the ALU slot, after every write: the next bundle, the loops, doorbells and the core's state (R418, R419, R426,
R428). `hi` holds the count bits of the next bundle, `sa` the scalar it names, and `cyc` the cycle after which the next bundle may issue. -/
def State.fdControl (s : State) (n pc w hi sa cyc : Nat) : State :=
  let imm := w % 2 ^ 16
  let at_ (c : Nat) (s : State) : State := s.modFlior n fun x => { x with cyc := c }
  let go (s : State) : State := (at_ (cyc + 1) s).fdNext n (pc + 1) pc
  match slotOp w with
  | 0x0D => go (s.setReg (R.FD_STATUS n) (BitVec.ofNat 32 ((s.reg (R.FD_STATUS n)).toNat - ((s.reg (R.FD_STATUS n)).toNat &&& (imm &&& 0x1E)))))
  | 0x10 =>
    let body := w % 256
    let count := if w.testBit 24 then sa else hi * 4096 + bits w 19 8
    let s := at_ (cyc + 2) s
    if count = 0 then s.fdNext n (pc + body + 1) (pc + body)
    else
      let c := body ≤ 64
      let rot := w.testBit 25
      let s := s.modFlior n fun x => { x with
        cache := if c && !(x.loops.any FdLoop.cached) then [] else x.cache
        loops := { first := pc + 1, last := pc + body, left := count, rot := rot, cached := c } :: x.loops }
      let s := doIf rot (fun s => s.put (R.FD_STATUS_RB n) 0) s
      s.put (R.FD_PC_PC n) ((pc + 1) % 4096)
  | 0x11 =>
    let taken := match bits w 25 24 with
      | 0 => true
      | 1 => sa == 0
      | _ => sa ≠ 0
    if taken then
      let t := ofInt 12 ((pc : Int) + toInt 16 imm)
      ((at_ (cyc + 4) s).modFlior n fun x => { x with loops := loopLeave t x.loops }).put (R.FD_PC_PC n) t
    else go s
  | 0x12 =>
    let s := go s
    if s.get (R.FD_DB_DB n) &&& imm = 0 then (s.modFlior n fun x => { x with wfe := imm }).setFd n fdWaiting else s
  | 0x13 => go (s.put (R.FD_DB_DB n) (s.get (R.FD_DB_DB n) &&& (65535 - imm)))
  | 0x15 => go (s.event (.fliorSignal n imm))
  | 0x16 =>
    let s := go s
    if (s.flior n).loads = [] then s.setFd n fdHalted else s.modFlior n fun x => { x with haltDue := true, halting := true }
  | _ => go s

/-- A bundle that has no fault takes effect from core cycle `t`: accesses LS0 before LS1, then every write in slot order, then control.
A violating access is aborted and the core freezes at this bundle (R430). -/
def State.fdRun (s : State) (n pc t fetch fab hi : Nat) (ws : List Nat) (ecc : List (Nat × EccFinding)) : State :=
  let x := s.flior n
  let rb := s.get (R.FD_STATUS_RB n)
  let alu := ws.getD 0 0
  let l0 := ws.getD 2 0
  let l1 := ws.getD 3 0
  let near (w : Nat) : Bool := slotOp w ≠ 0 && inDlm n (x.lsAddr w)
  let inC (w : Nat) : Bool := near w && dlmBank n (x.lsAddr w) == 2
  let same := near l0 && near l1 && dlmBank n (x.lsAddr l0) == dlmBank n (x.lsAddr l1)
  let extra := b2n same + b2n (fetch = 1 && (inC l0 || inC l1)) + fab
  let stall := (t - x.cyc) + extra
  let s := (s.advanceTo (s.fdTime n t)).showCycle n t
  let s := s.countBy (R.FD_STALL_COUNT n) stall
  let v0 := s.lsViolates n x l0
  let v1 := s.lsViolates n x l1
  let (s, o0) := if v0.isSome then (s, SlotOut.none) else s.lsRun n rb t pc l0 x ecc
  let (s, o1) := if v1.isSome then (s, SlotOut.none) else s.lsRun n rb t pc l1 x ecc
  let odd := (slotOp alu == 0x0C && Config.movsSource (alu % 2 ^ 26) % 3 == 2)
    || ((slotOp alu == 0x03 || slotOp alu == 0x04) && 16 ≤ alu % 512)
  let oa := x.alu rb alu (s.freeVal % 2 ^ 32) s.freeVal
  let s := doIf odd State.freeNext s
  let s := s.slotWrites n (t + extra) [oa, x.mac rb (ws.getD 1 0), o0, o1]
  match v0.or v1 with
  | some (cause, a) =>
    let s := s.put (R.FD_FAULT_ADDR_ADDR n) a
    s.freeze (fdMid n) cause a
  | none => s.fdControl n pc alu hi (x.sr.getD (bits alu 23 20) 0) (t + extra)

/-- The four slots of a 128-bit bundle. -/
def bundleSlots (w : Nat) : List Nat := (List.range 4).map fun i => w / 2 ^ (32 * i) % 2 ^ 32

/-- BUNDLE (R421, R422): a RUNNING core fetches its bundle, from the loop cache where an active loop has put it there, waits if it must,
faults before any effect, or runs. `fab` is how many cycles a fabric grant stalls it (R413); `ecc` what the checks of the words it
touches find. -/
def State.bundle (s : State) (n fab : Nat) (ecc : List (Nat × EccFinding)) : State :=
  let x := s.flior n
  if s.fdState n ≠ fdRunning ∨ x.halting then s
  else
    let pc := s.get (R.FD_PC_PC n)
    let rb := s.get (R.FD_STATUS_RB n)
    let a := dlm n + 0x30000 + 16 * pc
    let caching := x.loops.any FdLoop.cached
    let hit := if caching then look x.cache pc else none
    let read (p : Nat) : Nat := (look (if caching then x.cache else []) p).getD (leNat (s.bytes (dlm n + 0x30000 + 16 * (p % 4096)) 16))
    let raw := if (hit == none && s.poisoned (a / 16)) then 0 else read pc
    if x.waits n rb (bundleSlots raw) then s
    else
      let s := if hit = none then s.eccAt ecc (fdMid n) (a / 16) else s
      let bad := hit == none && s.poisoned (a / 16)
      let s := doIf bad (fun s => s.fdPoison n a) s
      let ws := if bad then [0, 0, 0, 0] else bundleSlots raw
      let s := doIf (caching && hit == none && !bad) (fun s => s.modFlior n fun y => { y with cache := insertKey y.cache pc raw }) s
      let prev := (bundleSlots (read (pc + 4095))).getD 0 0
      let after := !bad && slotOp prev == 0x10 && !prev.testBit 24
      let nextAlu := (bundleSlots (read (pc + 1))).getD 0 0
      let far := (ws.drop 2).any fun w => slotOp w ≠ 0 && !inDlm n (x.lsAddr w)
      let busy := slotOp (ws.getD 0 0) == 0x14 || far
      let t := (bundleReads rb ws).foldl (fun t r => max t (numAt x.ready r)) x.cyc
      let t := if busy then max t (s.fdCycleAt n s.now) else t
      let lim := s.get (R.FD_WDOG_LIMIT n) * 65536
      let fault := x.bundleFault ws after (nextAlu < 16)
      if lim ≠ 0 ∧ lim + 1 < t then s.fdWatchdog n
      else
        match fault with
        | some (cause, addr) =>
          let s := (s.advanceTo (s.fdTime n t)).showCycle n t
          match (ws.drop 2).findSome? (fun w => if lsLegal w then s.lsViolates n x w else none) with
          | some (k, b) => (s.put (R.FD_FAULT_ADDR_ADDR n) b).freeze (fdMid n) k b
          | none => s.fdFault n cause addr
        | none => if lim ≠ 0 ∧ lim < t then s.fdWatchdog n else s.fdRun n pc t (b2n (hit == none)) fab (nextAlu % 16) ws ecc

/-! ### Far accesses complete (R424, R427, R429) -/

/-- Whether every byte of an access lies in a memory, or in the register blocks. -/
def mapped (a n : Nat) : Bool :=
  inMemory a n || (a + n ≤ 2 ^ 32 && ((0x10000000 ≤ a && a + n ≤ 0x10400000) || (0x11000000 ≤ a && a + n ≤ 0x12100000)))

/-- Words read from registers by a master, lowest address first. -/
def State.readRegs (s : State) (mid : Nat) : Nat → Nat → State × List Byte
  | 0, _ => (s, [])
  | k + 1, a =>
    let (s, w) := s.regRead mid a
    let (s, l) := s.readRegs mid k (a + 4)
    (s, leBytes 4 w.toNat ++ l)

/-- Words written to registers by a master, lowest address first. -/
def State.writeRegs (mid : Nat) : Nat → List Byte → State → State
  | _, [], s => s
  | a, b0 :: b1 :: b2 :: b3 :: t, s =>
    State.writeRegs mid (a + 4) t (s.regWrite mid a (BitVec.ofNat 32 (leNat [b0, b1, b2, b3]))).state
  | _, _, s => s

/-- A halt that waited for far loads takes effect (R428). -/
def State.haltNow (s : State) (n : Nat) : State :=
  if (s.flior n).haltDue ∧ (s.flior n).loads = [] ∧ s.fdState n = fdRunning then
    (s.modFlior n fun x => { x with haltDue := false, halting := false }).setFd n fdHalted
  else s

/-- FAR_LOAD_COMPLETE (R424): the oldest far load completes, at least 40 core cycles after its issue (R423). `ok` false says that the
fabric answered with an error, as it does where nothing is mapped. -/
def State.farLoad (s : State) (n : Nat) (ok : Bool) (ecc : List (Nat × EccFinding)) : State :=
  match (s.flior n).loads with
  | [] => s
  | l :: t =>
    let k := lsBytes l.op
    let s := (s.advanceTo (s.fdTime n (l.issued + 40))).modFlior n fun x => { x with loads := t }
    if !ok || !mapped l.addr k then (s.put (R.FD_PC_PC n) l.pc).fdFault n 5 (some l.addr)
    else
      let s := (s.settled (fdMid n))
      let (s, b) := if inMemory l.addr k then
          let s := s.eccAt ecc (fdMid n) (l.addr / 16)
          let bad := s.poisoned (l.addr / 16)
          let b := if bad then List.replicate k 0 else s.bytes l.addr k
          (doIf bad (fun s => s.fdPoison n l.addr) s, b)
        else s.readRegs (fdMid n) (k / 4) l.addr
      let c := s.fdCycleAt n s.now
      let s := s.modFlior n fun x =>
        { x.write (loadWrite l.op l.dst (leNat b)) with ready := insertKey x.ready l.res c }
      s.haltNow n

/-- FAR_STORE_COMPLETE (R424, R425): the oldest far store completes. -/
def State.farStore (s : State) (n : Nat) (ok : Bool) : State :=
  match (s.flior n).stores with
  | [] => s
  | l :: t =>
    let s := s.modFlior n fun x => { x with stores := t }
    if !ok || !mapped l.addr l.bytes.length then
      if s.fdState n = fdRunning ∨ s.fdState n = fdWaiting then (s.put (R.FD_PC_PC n) l.pc).fdFault n 5 (some l.addr) else s
    else
      let s := s.settled (fdMid n)
      if inMemory l.addr l.bytes.length then s.storeMem l.addr l.bytes else State.writeRegs (fdMid n) l.addr l.bytes s

/-! ### Meanings -/

/-- BUNDLE (R421). -/
def execBundle (n fab : Nat) (ecc : List (Nat × EccFinding)) (s : State) : Host.Outcome State Fault Refusal :=
  .next (s.bundle n fab ecc)

/-- FAR_LOAD_COMPLETE (R424). -/
def execFarLoadComplete (n : Nat) (ok : Bool) (ecc : List (Nat × EccFinding)) (s : State) : Host.Outcome State Fault Refusal :=
  .next (s.farLoad n ok ecc)

/-- FAR_STORE_COMPLETE (R424). -/
def execFarStoreComplete (n : Nat) (ok : Bool) (s : State) : Host.Outcome State Fault Refusal := .next (s.farStore n ok)

end Sys2Proof.Machine
end

