-- ==== Sys2Proof/Machine/DmaExec.lean ====
section
/-! DEFINITION. The bursts of the DMA engines (R482, R489, R493 to R501). -/

namespace Sys2Proof.Machine

/-! ### Data of a burst (R482, R493) -/

/-- Bytes with a mark on each that comes from a poisoned word. -/
abbrev Marked := List (Byte × Bool)

/-- A beat read by a master: memory, each byte marked where its word is poisoned, or registers word by word. -/
def State.readBeat (s : State) (mid a n : Nat) (ecc : List (Nat × EccFinding)) : State × Marked :=
  if inMemory a n then
    let s := forAll ((List.range ((a + n + 15) / 16 - a / 16)).map (a / 16 + ·)) (fun w s => s.eccAt ecc mid w) s
    (s, (List.range n).map fun i => (s.byte (a + i), s.poisoned ((a + i) / 16)))
  else
    let (s, l) := s.readRegs mid (n / 4) a
    (s, l.map fun b => (b, false))

/-- A beat written by a master: a memory word that a poisoned byte reaches is written whole with P = 1; to registers the poisoned beat
goes as zero. -/
def State.writeBeat (s : State) (mid a : Nat) (l : Marked) (ecc : List (Nat × EccFinding)) : State :=
  if inMemory a l.length then
    let bad := ((List.range l.length).filter fun i => (l.getD i (0, false)).2).map fun i => (a + i) / 16
    forAll bad.eraseDups (fun w s => s.poisonWord w) (s.mergeStore mid a (l.map Prod.fst) ecc)
  else
    let bad := l.any Prod.snd
    State.writeRegs mid a (l.map fun (p : Byte × Bool) => if bad then (0 : Byte) else p.1) s

/-- The sizes of the beats of a burst of `n` bytes. -/
def beats (n : Nat) : List Nat := List.replicate (n / 16) 16 ++ (if n % 16 = 0 then [] else [n % 16])

/-- Each thing of a list with the sum of the sizes before it. -/
def offsets : Nat → List Nat → List (Nat × Nat)
  | _, [] => []
  | o, n :: t => (o, n) :: offsets (o + n) t

/-- A burst read from `a`; with FIX every beat from the same address (R495). -/
def State.readBurst (s : State) (mid a n : Nat) (fix : Bool) (ecc : List (Nat × EccFinding)) : State × Marked :=
  (offsets 0 (beats n)).foldl (fun (p : State × Marked) (b : Nat × Nat) =>
    let (s, l) := p.1.readBeat mid (if fix then a else a + b.1) b.2 ecc
    (s, p.2 ++ l)) (s, [])

/-- A burst written at `a`; with FIX every beat to the same address. -/
def State.writeBurst (s : State) (mid a : Nat) (fix : Bool) (l : Marked) (ecc : List (Nat × EccFinding)) : State :=
  forAll (offsets 0 (beats l.length)) (fun (b : Nat × Nat) s =>
    s.writeBeat mid (if fix then a else a + b.1) ((l.drop b.1).take b.2) ecc) s

/-- Units of `u` things in reverse order of smaller units of `k`. -/
def swapRun (u k : Nat) (l : Marked) : Nat → Marked
  | 0 => []
  | f + 1 => if l = [] then [] else
    let h := l.take u
    let sub := (List.range (u / k)).map fun i => (h.drop (k * i)).take k
    (sub.reverse.flatten) ++ swapRun u k (l.drop u) f

/-- SWAP (R493). -/
def swapBytes (code : Nat) (l : Marked) : Marked :=
  if code = 0 then l else swapRun (swapUnit code) (if code < 4 then 1 else 2) l l.length

/-! ### Size of a burst (R495) -/

/-- The bytes that a side leaves for a burst at address `p`: to the next 16-byte alignment from a start off it, and to the end of a
circular buffer. -/
def State.dcSide (s : State) (c : Nat) (dst : Bool) (w2 p : Nat) : Nat :=
  let circ := w2.testBit 26 && s.flag (R.DC_CFG_CSIDE c) ≠ dst
  let base := 16 * s.get (R.CIRC_BASE_BASE c)
  let len := 16 * s.get (R.CIRC_LEN_LEN c)
  let al := if p % 16 = 0 then 256 else 16 - p % 16
  if circ ∧ base ≤ p ∧ p < base + len then min al (base + len - p) else al

/-- The bytes of the next burst from `src` to `dst` with `left` to go (`none`: without end). -/
def State.dcBytes (s : State) (c w2 src dst : Nat) (left : Option Nat) : Nat :=
  let n := min (16 * 2 ^ s.get (R.DC_CFG_BURST c)) (min (s.dcSide c false w2 src) (s.dcSide c true w2 dst))
  match left with
  | some l => min n l
  | none => n

/-- The bytes an access of a burst touches at its address: a FIX side touches one beat. -/
def sideBytes (fix : Bool) (n : Nat) : Nat := if fix then min n 16 else n

/-- Whether a side of a burst is answered by a target: memory, or registers in whole words. -/
def sideOk (a n : Nat) : Bool := mapped a n && (inMemory a n || (a % 4 == 0 && n % 4 == 0))

/-- The cause and address of the violation that a burst would be (R489), source first. -/
def State.burstCause (s : State) (mid src n : Nat) (dst : Option Nat) (w2 : Nat) : Option (Nat × Nat) :=
  let a := sideBytes (w2.testBit 25) n
  let b := sideBytes (w2.testBit 24) n
  match s.accessCause mid src a false, dst with
  | 0, some d => match s.accessCause mid d b true with
    | 0 => none
    | k => some (k, d)
  | 0, none => none
  | k, _ => some (k, src)

/-! ### After a burst (R494, R496, R498, R500, R501) -/

/-- Bytes left of the count in hand, `none` for one without end. -/
def State.dcLeft (s : State) (c : Nat) : Option Nat :=
  match (s.dmaX c).desc with
  | some (w2, _) => if w2.testBit 26 ∧ w2 % 2 ^ 24 = 0 then none else some (s.get (R.DC_LEN_LEN c))
  | none => some 0

/-- A channel takes its next descriptor, or is IDLE after the last (R492); a drain that it belongs to goes on. -/
def State.dcNext (s : State) (c : Nat) : State :=
  match (s.dmaX c).desc with
  | some (w2, w3) =>
    if w2.testBit 27 then (s.modDma c fun x => { x with drainDue := 0, drained := 0 }).setDc c dcIdle
    else
      let old := s.dmaX c
      let s := (s.put (R.DC_DESC_DESC c) (w3 / 16)).dcLoad c
      doIf (s.dcBusy c) (fun s => s.modDma c fun x => { x with drained := old.drained, drainDue := old.drainDue }) s
  | none => s

/-- `n` bytes have reached the destination: resume point, count, and the end of the count (R494, R500). -/
def State.dcDone (s : State) (c n : Nat) (bad : Bool) : State :=
  let left := s.dcLeft c
  let (s, src) := s.dcAdvance c false (s.get (R.DC_SRC_SRC c)) n
  let (s, dst) := s.dcAdvance c true (s.get (R.DC_DST_DST c)) n
  let s := (s.put (R.DC_SRC_SRC c) src).put (R.DC_DST_DST c) dst
  let s := doIf bad (fun s => (s.modDma c fun x => { x with poison := true }).raise (R.DC_STATUS_POISON c)) s
  match left with
  | some l =>
    let s := s.put (R.DC_LEN_LEN c) (l - n)
    if l ≤ n then
      if s.writeBackCause c = 0 then (s.dcEnd c 1).dcNext c
      else s.freeze (0x20 + c) (s.writeBackCause c) (16 * s.get (R.DC_DESC_DESC c))
    else s
  | none => s

/-- The request of a paced channel is withdrawn during a burst (R498): counted, and the channels it paces wait. -/
def State.withdraw (s : State) (c : Nat) : State :=
  let req := s.get (R.DC_CFG_REQ c)
  if req = 0 then s else (s.count (R.DC_CNT_WDRAW c)).dmaRequest req false

/-- What waited for the end of a burst or of what was read ahead: a freeze (R491), or a drain (R501). -/
def State.burstEnd (s : State) (c : Nat) : State :=
  let x := s.dmaX c
  if !s.dcBusy c ∨ x.ahead ≠ [] then s
  else if x.freezeDue then s.dcStop c 5 dcFrozen
  else if x.drainDue ≠ 0 then s.dcPause c
  else s

/-- A burst of a general channel: both sides are checked, then every beat is moved. -/
def State.generalBurst (s : State) (c : Nat) (wdraw err : Bool) (ecc : List (Nat × EccFinding)) : State :=
  match (s.dmaX c).desc with
  | none => s
  | some (w2, _) =>
    let mid := 0x20 + c
    let src := s.get (R.DC_SRC_SRC c)
    let dst := s.get (R.DC_DST_DST c)
    let n := s.dcBytes c w2 src dst (s.dcLeft c)
    let fs := w2.testBit 25
    let fd := w2.testBit 24
    match s.burstCause mid src n (some dst) w2 with
    | some (k, a) => s.freeze mid k a
    | none =>
      if err || !sideOk src (sideBytes fs n) || !sideOk dst (sideBytes fd n) then s.dcStop c 4 dcError
      else
        let (s, l) := s.readBurst mid src n fs ecc
        let l := swapBytes (w2 / 2 ^ 29) l
        let s := (s.writeBurst mid dst fd l ecc).settled mid
        let s := s.dcDone c n (l.any Prod.snd)
        (doIf wdraw (fun s => s.withdraw c) s).burstEnd c

/-- Bytes an express channel has read ahead (R499). -/
def DmaX.held (x : DmaX) : Nat := (x.ahead.map fun k => k.data.length).sum

/-- A burst of an express channel's read engine (R499): into the express buffer, as far as the channel's quota goes. -/
def State.expressRead (s : State) (c : Nat) (err : Bool) (ecc : List (Nat × EccFinding)) : State :=
  let x := s.dmaX c
  match x.desc with
  | none => s
  | some (w2, _) =>
    let mid := 0x20 + c
    let endless := (w2.testBit 26 && w2 % 2 ^ 24 == 0 : Bool)
    let n := s.dcBytes c w2 x.rdSrc (16 * (s.get (R.DC_DST_DST c) / 16)) (if endless then none else some x.rdLen)
    let n := min n (4096 * s.expQuota c - x.held)
    let fs := w2.testBit 25
    if s.dcState c ≠ dcRun ∨ n = 0 ∨ x.drainDue ≠ 0 ∨ x.freezeDue then s
    else
      match s.burstCause mid x.rdSrc n none w2 with
      | some (k, a) => s.freeze mid k a
      | none =>
        if err || !sideOk x.rdSrc (sideBytes fs n) then s.dcStop c 4 dcError
        else
          let (s, l) := s.readBurst mid x.rdSrc n fs ecc
          let l := swapBytes (w2 / 2 ^ 29) l
          let next := if fs then x.rdSrc
            else if w2.testBit 26 && s.flag (R.DC_CFG_CSIDE c) then
              (circNext (16 * s.get (R.CIRC_BASE_BASE c)) (16 * s.get (R.CIRC_LEN_LEN c)) x.rdSrc n).1
            else (x.rdSrc + n) % 2 ^ 32
          let bad := (List.range l.length).filter fun i => (l.getD i (0, false)).2
          (s.settled mid).modDma c fun y => { y with
            ahead := y.ahead ++ [{ data := l.map Prod.fst, bad := bad }], rdSrc := next, rdLen := y.rdLen - n }

/-- A burst of an express channel's write engine (R499): from the front of what has been read. -/
def State.expressWrite (s : State) (c : Nat) (wdraw err : Bool) (ecc : List (Nat × EccFinding)) : State :=
  let x := s.dmaX c
  match x.desc, x.ahead with
  | some (w2, _), k :: t =>
    let mid := 0x20 + c
    let dst := s.get (R.DC_DST_DST c)
    let fd := w2.testBit 24
    let n := min k.data.length (min (16 * 2 ^ s.get (R.DC_CFG_BURST c)) (s.dcSide c true w2 dst))
    match s.accessCause mid dst (sideBytes fd n) true with
    | 0 =>
      if err || !sideOk dst (sideBytes fd n) then s.dcStop c 4 dcError
      else
        let l : Marked := (List.range n).map fun i => (k.data.getD i 0, k.bad.contains i)
        let rest : List Chunk := if n = k.data.length then t
          else { data := k.data.drop n, bad := (k.bad.filter (n ≤ ·)).map (· - n) } :: t
        let s := (s.writeBurst mid dst fd l ecc).settled mid
        let s := s.modDma c fun y => { y with ahead := rest }
        let s := s.dcDone c n (l.any Prod.snd)
        (doIf wdraw (fun s => s.withdraw c) s).burstEnd c
    | cause => (s.modDma c fun y => { y with ahead := [] }).freeze mid cause dst
  | _, _ => s

/-! ### Meanings -/

/-- DMA_BURST (R495): the general engine's next burst, of the ready channel that arbitration picks, or one of an express channel's read
or write engine. `wdraw` says that the pacing request is withdrawn during the burst, `err` that the fabric answers with an error. -/
def State.dmaBurst (s : State) (express : Option Nat) (rd wdraw err : Bool) (ecc : List (Nat × EccFinding)) : State :=
  match express with
  | some k => if 4 ≤ k then s else if rd then s.expressRead (28 + k) err ecc else s.expressWrite (28 + k) wdraw err ecc
  | none =>
    let ready := ((List.range 28).filter fun c => s.dcState c == dcRun).map (0x20 + ·)
    match s.arbitrate 0x100 ready with
    | (s, some mid) => s.generalBurst (mid - 0x20) wdraw err ecc
    | (s, none) => s

/-- DMA_BURST (R495). -/
def execDmaBurst (express : Option Nat) (rd wdraw err : Bool) (ecc : List (Nat × EccFinding)) (s : State) :
    Host.Outcome State Fault Refusal := .next (s.dmaBurst express rd wdraw err ecc)

end Sys2Proof.Machine
end

