-- ==== Sys2Proof/Machine/FabricAccess.lean ====
section
/-! DEFINITION. An access of a master to the fabric (R482, R489, R491). -/

namespace Sys2Proof.Machine

/-- An access that its windows permit, performed: a store to memory or to registers; or a load, whose data it answers. A poisoned word
reads as zero, and aborts the load or fetch of a Dehan core, which files a record (R482). -/
def State.perform (s : State) (mid a n : Nat) (write : Option (List Byte)) (ecc : List (Nat × EccFinding)) : State × List Byte :=
  let s := s.settled mid
  match write with
  | some l => if inMemory a l.length then (s.mergeStore mid a l ecc, []) else (State.writeRegs mid a l s, [])
  | none =>
    let (s, l) := s.readBeat mid a n ecc
    if l.any Prod.snd ∧ mid < 4 then
      let i := ((List.range l.length).find? fun i => (l.getD i (0, false)).2).getD 0
      (s.report { unit := 0x11, cls := .clsD, code := 0x0010, addr := (a + i) / 16 * 16, info := mid, sub := 0, mid := mid }, [])
    else (s, l.map fun (p : Byte × Bool) => if p.2 then (0 : Byte) else p.1)

/-- FABRIC_ACCESS (R489): a frozen master's request is withdrawn; a violation freezes the master, and nothing is written or returned;
any other access is performed, and a load's data goes to the master. -/
def State.fabricAccess (s : State) (mid a n : Nat) (write : Option (List Byte)) (ecc : List (Nat × EccFinding)) : State :=
  if s.frozen mid then s
  else
    let size := match write with
      | some l => l.length
      | none => n
    match s.accessCause mid a size write.isSome with
    | 0 =>
      let (s, l) := s.perform mid a n write ecc
      if write.isSome then s else s.emit (.fabric mid a l)
    | k => s.freeze mid k a

/-! ### Meanings -/

/-- FABRIC_ACCESS (R489). -/
def execFabricAccess (mid addr n : Nat) (write : Option (List Byte)) (ecc : List (Nat × EccFinding)) (s : State) :
    Host.Outcome State Fault Refusal := .next (s.fabricAccess mid addr n write ecc)

end Sys2Proof.Machine
end

