-- ==== Sys2Proof/Machine/Operands.lean ====
section
/-! DEFINITION. The operands of a command (R455, R456): payload fields, checks, ownership, and the shapes of its reply. -/

namespace Sys2Proof

open Sys2Proof.Machine

/-! ### Payload (R455) -/

/-- PAYLOAD_LEN. -/
def Cmd.size (c : Cmd) : Nat := c.payload.length

/-- The parameter of `n` bytes at an offset, most significant byte first. -/
def Cmd.num (c : Cmd) (ofs n : Nat) : Nat := beNat ((c.payload.drop ofs).take n)

/-- The byte at an offset. -/
def Cmd.byte (c : Cmd) (ofs : Nat) : Nat := c.num ofs 1

/-- Words of 4 bytes from an offset. -/
def Cmd.words (c : Cmd) (ofs n : Nat) : List Nat := (List.range n).map fun i => c.num (ofs + 4 * i) 4

/-- Checks of length and of rsv fields (offset, bytes), as R455 orders them. -/
def Cmd.shape (c : Cmd) (len : Nat) (rsv : List (Nat × Nat)) : List (Bool × Status) :=
  [(c.size ≠ len, .badLength), (rsv.any fun r => c.num r.1 r.2 ≠ 0, .badParam)]

end Sys2Proof

namespace Sys2Proof.Machine

/-- The status of the first check that fails, if one does. -/
def firstBad (l : List (Bool × Status)) : Option Status := l.findSome? fun p => if p.1 then some p.2 else none

/-- Go on if no check fails; else reply with the status of the first that does. -/
def State.checked (s : State) (c : Cmd) (l : List (Bool × Status)) (f : State → State) : State :=
  match firstBad l with
  | some st => s.reply c st []
  | none => f s

/-- A parameter out of range. -/
def badIf (b : Bool) : Bool × Status := (b, .badParam)

/-! ### Roles and ownership (R181, R455) -/

/-- Whether the command's session is privileged. -/
def State.priv (s : State) (c : Cmd) : Bool := c.session < 16 && s.flag (R.SESS_STAT_ROLE c.session)

/-- Whether a command may act on a resource with an owner: the owner itself or a privileged session. -/
def State.mayUse (s : State) (c : Cmd) (owner : Nat) : Bool := s.priv c || (c.session < 16 && owner == c.session)

/-- The check that a command may act on a resource. -/
def State.owns (s : State) (c : Cmd) (owner : Nat) : Bool × Status := (!s.mayUse c owner, .resourceOwned)

/-- The check that a carrier slot exists (R17). -/
def slotCheckP (d cs : Nat) : Bool × Status := badIf (1 < d || 7 < cs)

/-! ### Register writes of a command (R456) -/

/-- A register word from field values; bits of no field are 0. -/
def wordOf (l : List (Field × Nat)) : Nat := l.foldl (fun w p => insBits w p.1.lo p.1.width p.2) 0

/-- Firmware (MID 0x00) writes registers in order and stops at the first refusal, whose address it learns; writes before it stay. -/
def State.writes : List (Nat × Nat) → State → State × Option Nat
  | [], s => (s, none)
  | (a, v) :: t, s =>
    match s.regWrite 0 a (BitVec.ofNat 32 v) with
    | .ok s => State.writes t s
    | .error s => (s, some a)

/-- The reply of a command that writes registers: OK, or the status named for a refusal with the block's refusal code (R456). -/
def State.writeReply (s : State) (c : Cmd) (st : Status) (l : List (Nat × Nat)) : State :=
  match s.writes l with
  | (s, none) => s.reply c .ok []
  | (s, some a) => s.reply c st (beBytes 1 (s.refusalCode a))

/-- The same for one write made by a block's own operation. -/
def State.wrReply (c : Cmd) (st : Status) (a : Nat) (w : Wr) : State :=
  match w with
  | .ok s => s.reply c .ok []
  | .error s => s.reply c st (beBytes 1 (s.refusalCode a))

/-- A 4-byte register word in a reply. -/
def State.word4 (s : State) (a : Nat) : List Byte := beBytes 4 (s.regPeek a).toNat

end Sys2Proof.Machine
end

