-- ==== Sys2Proof/Machine/CmdSystem.lean ====
section
/-! DEFINITION. The urgent opcodes and the opcodes of groups 0x01, 0x02 and 0x03: system, carriers and RF (R458 to R460, R462). -/

namespace Sys2Proof.Machine

/-- Register writes of a command whose refusal status depends on the register (R456). -/
def State.writeReplyBy (s : State) (c : Cmd) (st : Nat → Status) (l : List (Nat × Nat)) : State :=
  match s.writes l with
  | (s, none) => s.reply c .ok []
  | (s, some a) => s.reply c (st a) (beBytes 1 (s.refusalCode a))

/-- A register's word with fields set. -/
def State.wordWith (s : State) (a : Nat) (l : List (Field × Nat)) : Nat :=
  l.foldl (fun w p => insBits w p.1.lo p.1.width p.2) (s.reg a).toNat

/-! ### Urgent opcodes (R449, R458, R459, R583) -/

/-- The checks of an urgent opcode: a release is for privileged sessions. -/
def State.urgent (s : State) (c : Cmd) (len : Nat) (bad : Bool) (f : Bool → State → State) : State :=
  s.checked c (c.shape len [(1, 3)] ++ [badIf (1 < c.byte 0 || bad), (c.byte 0 = 0 && !s.priv c, .notPermitted)])
    fun s => (f (c.byte 0 = 1) (s.advanceTo (c.acceptedAt + 6))).reply c .ok []

/-- The rank-4 latch UMUTE of chains, six cycles after acceptance (R583). -/
def umute (m : Nat) (on : Bool) (s : State) : State :=
  (forAll (bitList 64 m) (fun ch s => s.put (R.CH_STATUS_UMUTE ch) (b2n on)) s).settle

/-- MUTE_ALL (R458). -/
def State.cmdMuteAll (s : State) (c : Cmd) : State := s.urgent c 4 false (umute (2 ^ 64 - 1))

/-- PA_OFF (R458): rank 3. -/
def State.cmdPaOff (s : State) (c : Cmd) : State :=
  s.urgent c 4 false fun on s => { s with hold := { s.hold with paOff := on } }.settle

/-- CHAIN_MUTE (R458). -/
def State.cmdChainMute (s : State) (c : Cmd) : State := s.urgent c 12 (c.num 4 8 = 0) (umute (c.num 4 8))

/-! ### System (R462) -/

/-- PING: the bytes it carries. -/
def State.cmdPing (s : State) (c : Cmd) : State := s.checked c [(64 < c.size, .badLength)] fun s => s.reply c .ok c.payload

/-- IDENT. -/
def State.cmdIdent (s : State) (c : Cmd) : State :=
  s.checked c (c.shape 0 []) fun s =>
    s.reply c .ok (beBytes 2 0x6464 ++ beBytes 1 0xB1 ++ beBytes 1 (s.get R.CASC_STATUS_ROLE) ++ beBytes 1 s.ownDa
      ++ beBytes 1 (s.get R.CASC_STATUS_DA_VALID) ++ beBytes 1 s.th.mode ++ beBytes 1 (b2n (s.boot == .ready))
      ++ beBytes 8 Config.uid ++ beBytes 4 (s.reg R.TH_FWVER).toNat ++ beBytes 2 1 ++ beBytes 2 0)

/-- RESET: a device reset begins 1 ms after the reply. -/
def State.cmdReset (s : State) (c : Cmd) : State :=
  let i := c.byte 1
  let n := c.byte 0
  s.checked c (c.shape 4 [(2, 2)] ++ [badIf (2 < n || (n = 1 && 7 < i) || (n = 2 && 3 < i)),
      (n = 1 && s.fdState i == fdFrozen, .targetFrozen), (n = 1 && s.fdState i == fdLoading, .stateConflict)]) fun s =>
    match n with
    | 0 => (s.reply c .ok []).modTh fun t => { t with resetAt := some (s.now + msCycles) }
    | 1 => (s.fdReset i).reply c .ok []
    | _ => (s.hgRetrain i).reply c .ok []

/-- UNFREEZE (R546). -/
def State.cmdUnfreeze (s : State) (c : Cmd) : State :=
  let m := c.byte 0
  s.checked c (c.shape 4 [(1, 3)] ++ [badIf (0x5F < m), (m = 0x40 + c.session, .notPermitted), (!s.frozen m, .stateConflict)]) fun s =>
    (s.unfreeze m).reply c .ok []

/-- FREEZE_LIST. -/
def State.cmdFreezeList (s : State) (c : Cmd) : State :=
  s.checked c (c.shape 0 []) fun s =>
    s.reply c .ok (beBytes 12 ((List.range 3).foldl (fun n w => n + (s.reg (R.FAB_FROZEN w)).toNat * 2 ^ (32 * w)) 0))

/-! ### Carriers (R180, R181, R355, R462, R469) -/

/-- The checks of a command on a carrier slot named by DIR and CS at its start. -/
def State.onSlot (s : State) (c : Cmd) (shape more : List (Bool × Status)) (f : Dir → Nat → State → State) : State :=
  let d := c.byte 0
  let cs := c.byte 1
  s.checked c (shape ++ [slotCheckP d cs] ++ more) (f (dirOf d) cs)

/-- CARRIER_CLAIM: the slot is free or already the session's. -/
def State.cmdCarrierClaim (s : State) (c : Cmd) : State :=
  s.onSlot c (c.shape 4 [(2, 2)]) [(s.slotOwner (c.byte 0) (c.byte 1) ≠ 0x1F && s.slotOwner (c.byte 0) (c.byte 1) ≠ c.session, .resourceOwned)]
    fun d cs s =>
      if s.slotOwner (dirIx d) cs = c.session then s.reply c .ok []
      else ((s.put (R.CS_CFG_OWNER (dirIx d) cs) c.session).tellSession c.session).reply c .ok []

/-- CARRIER_RELEASE: the slot stops and is released at its frame boundary (R355). -/
def State.cmdCarrierRelease (s : State) (c : Cmd) : State :=
  s.onSlot c (c.shape 4 [(2, 2)]) [s.owns c (s.slotOwner (c.byte 0) (c.byte 1))] fun d cs s =>
    let s := ((s.supersede d cs).put (R.CS_CFG_EN (dirIx d) cs) 0).accept 2 c
    { s with enJobs := s.enJobs ++ [{ d := dirIx d, cs := cs, release := true, cmd := some c }] }

/-- The ranges of CARRIER_CONFIG's parameters. -/
def configBad (c : Cmd) : Bool :=
  let ul := c.byte 0 = 1
  4 < c.byte 2 || c.byte 3 < 8 || 12 < c.byte 3 || 511 < c.num 4 2 || 63 < c.byte 6 || 31 < c.byte 7 || 4 < c.byte 8 || 15 < c.byte 9
    || 2 < c.byte 10 || 12 < c.byte 11 || (ul && 9 * 2 ^ c.byte 3 < 128 * c.num 12 2) || (!ul && 2 ^ 14 ≤ c.num 16 2)
    || 2 ^ 42 ≤ c.num 20 8 || 2 ^ 42 ≤ c.num 28 8

/-- CARRIER_CONFIG. EN stays as it is; a direction's ignored parameters keep what their register holds. -/
def State.cmdCarrierConfig (s : State) (c : Cmd) : State :=
  s.onSlot c (c.shape 36 [(15, 1), (18, 2)]) [badIf (configBad c), s.owns c (s.slotOwner (c.byte 0) (c.byte 1))] fun d cs s =>
    let i := dirIx d
    let cfg := s.wordWith (R.CS_CFG i cs) [(R.CS_CFG_QMASK i cs, c.byte 9), (R.CS_CFG_MU i cs, c.byte 2), (R.CS_CFG_LOG2N i cs, c.byte 3),
      (R.CS_CFG_N_RB i cs, c.num 4 2)]
    let fft := s.wordWith (R.CS_FFT i cs) ([(R.CS_FFT_NL i cs, c.byte 6), (R.CS_FFT_PHC i cs, c.byte 10), (R.CS_FFT_SHIFT i cs, c.byte 11)] ++
      (if i = 1 then [(R.CS_FFT_WIN_ADV i cs, c.num 12 2)] else []))
    let buf := if i = 0 then [(R.CS_BUF cs, wordOf [(R.CS_BUF_DEPTH cs, c.byte 14), (R.CS_BUF_BASE cs, c.num 16 2)])] else []
    let map := s.wordWith (R.BF_LMAP i cs) [(R.BF_LMAP_GRAN i cs, c.byte 8), (R.BF_LMAP_LBASE i cs, c.byte 7)]
    s.writeReplyBy c (fun a => if a = R.CS_RF_HI i cs then .badParam else .stateConflict)
      ([(R.CS_CFG i cs, cfg), (R.CS_FFT i cs, fft)] ++ buf ++ [(R.BF_LMAP i cs, map),
        (R.CS_RF_LO i cs, c.num 24 4), (R.CS_RF_HI i cs, c.num 20 4), (R.CS_F0_LO i cs, c.num 32 4), (R.CS_F0_HI i cs, c.num 28 4)])

/-- CARRIER_ENABLE: done at the frame boundary where EN_NOW follows; at once if EN and EN_NOW have the value already (R469). -/
def State.cmdCarrierEnable (s : State) (c : Cmd) : State :=
  s.onSlot c (c.shape 4 [(3, 1)]) [badIf (1 < c.byte 2), s.owns c (s.slotOwner (c.byte 0) (c.byte 1))] fun d cs s =>
    let v : Bool := c.byte 2 = 1
    if s.slotEn d cs == v ∧ s.active d cs == v then (s.accept 1 c).complete c .ok []
    else
      let code := if v && !s.slotEn d cs then s.enCheck d cs else 0
      if code ≠ 0 then State.wrReply c .badParam (R.CS_CFG (dirIx d) cs) (s.lpRefuse code)
      else (s.accept 1 c).enQueue d cs v (some c)

/-- The ranges of CARRIER_UL_FORMAT's parameters. -/
def ulFormatBad (c : Cmd) : Bool :=
  7 < c.byte 0 || 8 < c.byte 1 || 6 < c.byte 2 || 7 < c.byte 3 || c.num 4 2 = 0 || 273 < c.num 4 2 || c.num 6 2 < 64 || 4095 < c.num 6 2
    || c.num 8 2 < 64 || 4095 < c.num 8 2

/-- CARRIER_UL_FORMAT. -/
def State.cmdCarrierUlFormat (s : State) (c : Cmd) : State :=
  let cs := c.byte 0
  s.checked c (c.shape 12 [(10, 2)] ++ [badIf (ulFormatBad c), s.owns c (s.slotOwner 1 cs)]) fun s =>
    s.writeReply c .badParam [(R.CS_UL_FMT cs, wordOf [(R.CS_UL_FMT_P_MSG cs, c.num 4 2), (R.CS_UL_FMT_PORT cs, c.byte 3),
      (R.CS_UL_FMT_SHIFT cs, c.byte 2), (R.CS_UL_FMT_COMP cs, c.byte 1), (R.CS_UL_FMT_UL_ADD cs, c.num 6 2)]),
      (R.CS_UL_PR cs, c.num 8 2)]

/-- CARRIER_GAIN. -/
def State.cmdCarrierGain (s : State) (c : Cmd) : State :=
  s.onSlot c (c.shape 8 [(3, 1), (6, 2)])
    [badIf (if c.byte 0 = 0 then c.byte 2 ≠ 0 else 7 < c.byte 2), s.owns c (s.slotOwner (c.byte 0) (c.byte 1))] fun d cs s =>
    s.writeReply c .stateConflict (match d with
      | .dl => [(R.CS_TX_GAIN cs, c.num 4 2)]
      | .ul => [(R.CS_RX_DG cs, wordOf [(R.CS_RX_DG_EXP cs, c.byte 2), (R.CS_RX_DG_MANT cs, c.num 4 2)])])

/-- The ranges of PRACH_CONFIG's parameters; FOFF is signed. -/
def prachConfigBad (c : Cmd) : Bool :=
  3 < c.byte 0 || 8 < c.byte 1 || 2 ^ 23 ≤ c.num 8 4 || 2 ^ 18 ≤ c.num 12 4 || (2 ^ 20 ≤ c.num 16 4 && c.num 16 4 < 2 ^ 32 - 2 ^ 19)
    || (List.range 8).any fun i => 4096 ≤ c.num (20 + 2 * i) 2

/-- PRACH_CONFIG: the owner is that of the uplink slot PR_CTRL.CS. -/
def State.cmdPrachConfig (s : State) (c : Cmd) : State :=
  let o := c.byte 0
  s.checked c (c.shape 36 [(2, 2)] ++ [badIf (prachConfigBad c), s.owns c (s.slotOwner 1 (bits (c.num 4 4) 30 28))]) fun s =>
    s.writeReply c .badParam ([(R.PR_START o, c.num 8 4), (R.PR_CP o, c.num 12 4), (R.PR_FOFF o, c.num 16 4 % 2 ^ 20), (R.PRB_CFG o, c.byte 1)] ++
      ((List.range 4).map fun j =>
        (R.PRB_ID o j, wordOf [(R.PRB_ID_ID_HI o j, c.num (22 + 4 * j) 2), (R.PRB_ID_ID_LO o j, c.num (20 + 4 * j) 2)])) ++
      [(R.PR_CTRL o, c.num 4 4)])

/-- CARRIER_STATUS. -/
def State.cmdCarrierStatus (s : State) (c : Cmd) : State :=
  s.onSlot c (c.shape 4 [(2, 2)]) [] fun d cs s =>
    let i := dirIx d
    s.reply c .ok (s.word4 (R.CS_CFG i cs) ++ s.word4 (R.CS_FFT i cs) ++ s.word4 (R.SP_WIN0 i cs) ++ s.word4 (R.SP_WIN1 i cs) ++ s.word4 R.LP_SAT)

/-! ### LO and chains (R460, R462) -/

/-- LO_MODE: in PINGPONG the sources stay with the active synthesiser. -/
def State.cmdLoMode (s : State) (c : Cmd) : State :=
  let f := c.byte 1
  s.checked c (c.shape 4 [(3, 1)] ++ [badIf (1 < c.byte 0 || 3 < f || 15 < c.byte 2)]) fun s =>
    s.writeReply c .stateConflict ((R.LO_CTRL, wordOf [(R.LO_CTRL_MODE, c.byte 0), (R.LO_CTRL_AUTO_SWAP, f % 2), (R.LO_CTRL_STBY_MIRROR, f / 2)]) ::
      (if c.byte 0 = 1 then (List.range 4).map fun q => (R.QLO_CFG q, s.wordWith (R.QLO_CFG q) [(R.QLO_CFG_SRC q, bits (c.byte 2) q q)]) else []))

/-- ARRAY_ARM (R89): done on ALIGNED; a later one supersedes it. -/
def State.cmdArrayArm (s : State) (c : Cmd) : State :=
  s.checked c (c.shape 4 [(1, 3)] ++ [badIf (c.byte 0 = 0 || 60 < c.byte 0)]) fun s =>
    match s.arrArm with
    | .error s => s.reply c .stateConflict (beBytes 1 0)
    | .ok s =>
      ((s.completeJob s.lo.armJob .aborted []).accept 2 c).modLo fun x =>
        { x with armJob := some c, armDeadline := s.now + c.byte 0 * secCycles }

/-- The wait of an ARRAY_ARM runs out (R462); the register stays armed. -/
def State.armTimeout (s : State) : State :=
  if s.lo.armJob.isSome ∧ s.lo.armDeadline ≤ s.now then
    (s.completeJob s.lo.armJob .timeout []).modLo fun x => { x with armJob := none }
  else s

/-- QLO_TRIM (R391, R462). -/
def State.cmdQloTrim (s : State) (c : Cmd) : State :=
  s.checked c (c.shape 4 [] ++ [badIf (15 < c.byte 0 || 3599 < c.num 2 2), (s.flag R.CAL_CTRL_EN, .stateConflict)]) fun s =>
    s.writeReply c .stateConflict ((quadsOf (c.byte 0)).map fun q =>
      (R.QLO_CFG q, s.wordWith (R.QLO_CFG q) [(R.QLO_CFG_TRIM_SLEW q, c.byte 1), (R.QLO_CFG_TRIM q, c.num 2 2)]))

/-- CHAIN_SET. -/
def State.cmdChainSet (s : State) (c : Cmd) : State :=
  let which := c.byte 8
  let vals := c.byte 9
  s.checked c (c.shape 12 [] ++ [badIf (127 < which || 127 < vals || (bit which 2 && 127 < c.byte 10) || (bit which 3 && 60 < c.byte 11))]) fun s =>
    let ctrl (ch : Nat) : List (Field × Nat) := [(R.CH_CTRL_TX_EN ch, 0), (R.CH_CTRL_RX_EN ch, 1), (R.CH_CTRL_TX_MUTE ch, 4), (R.CH_CTRL_RX_MUTE ch, 5),
      (R.CH_CTRL_RX_PROT ch, 6)]
    s.writeReply c .stateConflict ((bitList 64 (c.num 0 8)).flatMap fun ch =>
      let sel := ((ctrl ch).filter fun p => bit which p.2).map fun p => (p.1, bits vals p.2 p.2)
      (if sel = [] then [] else [(R.CH_CTRL ch, s.wordWith (R.CH_CTRL ch) sel)])
        ++ (if bit which 2 then [(R.TX_ATT ch, c.byte 10)] else []) ++ (if bit which 3 then [(R.RX_GAIN ch, c.byte 11)] else []))

/-- ORX_CONFIG. -/
def State.cmdOrxConfig (s : State) (c : Cmd) : State :=
  let n := c.byte 0
  s.checked c (c.shape 4 [] ++ [badIf (7 < n || 31 < c.byte 1 || 1023 < c.num 2 2)]) fun s =>
    s.writeReply c .stateConflict [(R.ORX_CFG n, wordOf [(R.ORX_CFG_SETTLE n, c.num 2 2), (R.ORX_CFG_ATT n, c.byte 1)])]

/-- CFR_CONFIG (R136). -/
def State.cmdCfrConfig (s : State) (c : Cmd) : State :=
  let q := c.byte 0
  let len := bits (c.num 4 4) 23 16
  let pk := bits (c.num 4 4) 7 4
  s.checked c (c.shape 28 [(1, 3)] ++ [badIf (3 < q || len % 2 = 0 || len < 15 || pk = 0 || 8 < pk || (c.words 8 5).any (2 ^ 17 ≤ ·))]) fun s =>
    s.writeReply c .stateConflict ([(R.CFR_CFG q, c.num 4 4)] ++ ((List.range 4).map fun i => (R.CFR_THR q i, c.num (8 + 4 * i) 4)) ++
      [(R.CFR_HC q, c.num 24 4)])

/-- CFR_PULSE (R136). -/
def State.cmdCfrPulse (s : State) (c : Cmd) : State :=
  let q := c.byte 0
  let b := c.byte 1
  s.checked c [(c.size < 4 || c.size ≠ 4 + 4 * c.byte 3, .badLength), badIf (3 < q || 1 < b || 256 < c.byte 2 + c.byte 3),
      (b = s.get (R.CFR_CFG_BANK_NOW q), .stateConflict)] fun s =>
    s.writeReply c .stateConflict ((List.range (c.byte 3)).map fun i => (R.CFR_PULSE q b (c.byte 2 + i), c.num (4 + 4 * i) 4))

/-! ### TUNE (R87, R99, R460) -/

/-- The f_VCO codes (N · 2^32 + F) that a DIV code gives a target, to the nearest step (R87). -/
def vcoFor (lo div : Nat) : Nat := (roundDiv lo (2 ^ (5 - div))).toNat

/-- The DIV code by which an f_VCO code forms a target to within one LO step. -/
def divFor (v lo : Nat) : Option Nat := (List.range 6).find? fun d => ((v * 2 ^ (5 - d) : Nat) - (lo : Int)).natAbs ≤ 2 ^ (5 - d)

/-- The lowest f_VCO code within R86 that forms every target of a list (R460). -/
def commonVco (los : List Nat) : Option Nat :=
  let l := (los.flatMap fun lo => (List.range 6).map (vcoFor lo)).filter fun v =>
    vcoOk (v / 2 ^ 32) (v % 2 ^ 32) && los.all fun lo => (divFor v lo).isSome
  match l with
  | [] => none
  | v :: t => some (t.foldl min v)

/-- Whether a command's session may change the LO of a TUNE's quadrants (R99): it is privileged or owns every slot active there. -/
def State.tuneAllowed (s : State) (c : Cmd) (t : Tune) : Bool :=
  s.priv c || (s.tuneChanges t).all fun q => allSlots.all fun (d, cs) =>
    !(s.active d cs && s.fbit (R.CS_CFG_QMASK (dirIx d) cs) q) || s.slotOwner (dirIx d) cs == c.session

/-- TUNE: firmware derives N, F and DIV, stages them and submits the TUNE; a failed check of R99 is the reply. -/
def State.cmdTune (s : State) (c : Cmd) : State :=
  let m := c.byte 0
  let lo (q : Nat) : Nat := c.num (8 + 8 * q) 8
  let v := if m = 0 then none else commonVco ((quadsOf m).map lo)
  s.checked c (c.shape 40 [(3, 1), (6, 2)] ++ [badIf (15 < m || 3 < c.byte 1 || 15 < c.byte 2 || 1023 < c.num 4 2),
      badIf ((quadsOf m).any fun q => 2 ^ 42 ≤ lo q), badIf v.isNone]) fun s =>
    let v := v.getD 0
    let div (q : Nat) : Nat :=
      if bit m q then (divFor v (lo q)).getD 0
      else if s.tuned q then (((List.range 6).find? fun d => v * 2 ^ (5 - d) == s.loCode q).getD (s.get (R.QLO_CFG_DIV q)))
      else s.get (R.QLO_CFG_DIV q)
    let divs := (List.range 4).foldl (fun n q => n + div q * 2 ^ (3 * q)) 0
    let s := (s.writes [(R.TUNE_F, v % 2 ^ 32), (R.TUNE_CFG, wordOf [(R.TUNE_CFG_DIV, divs), (R.TUNE_CFG_WAIT_FRAMES, c.byte 2), (R.TUNE_CFG_QMASK, m),
      (R.TUNE_CFG_AT_EN, c.byte 1 % 2), (R.TUNE_CFG_RECAL, c.byte 1 / 2), (R.TUNE_CFG_N, v / 2 ^ 32)]), (R.TUNE_AT, c.num 4 2)]).1
    let t := s.stagedTune (some c)
    let ok := s.afterRetune.tuneAllowed c t
    match s.afterRetune.tuneCheck t ok with
    | .ok =>
      let (s, st) := (s.accept 1 c).tuneGo t ok
      if st = .ok then s.complete c .ok (s.tuneDone 0)
      else s
    | st => (s.put R.TUNE_CMD_RESULT (statusCode st)).reply c st []

end Sys2Proof.Machine
end

