-- ==== Sys2Proof/Machine/CmdBeam.lean ====
section
/-! DEFINITION. The opcodes of groups 0x04, 0x05 and 0x06: beams, predistortion and calibration (R463). -/

namespace Sys2Proof.Machine

/-! ### Beams (R219 to R230, R463, R469) -/

/-- BEAM_BLOCK_CLAIM. -/
def State.cmdBeamBlockClaim (s : State) (c : Cmd) : State :=
  let b := c.byte 0
  s.checked c (c.shape 4 [(1, 3)] ++ [badIf (15 < b), (s.beamOwner b ≠ 0x1F && s.beamOwner b ≠ c.session, .resourceOwned)]) fun s =>
    if s.beamOwner b = c.session then s.reply c .ok [] else ((s.setBlock b c.session).tellSession c.session).reply c .ok []

/-- BEAM_BLOCK_RELEASE: the contents are kept, and writes already pending complete. -/
def State.cmdBeamBlockRelease (s : State) (c : Cmd) : State :=
  let b := c.byte 0
  s.checked c (c.shape 4 [(1, 3)] ++ [badIf (15 < b), s.owns c (s.beamOwner b)]) fun s =>
    ((s.setBlock b 0x1F).tellSession (s.beamOwner b)).reply c .ok []

/-- The SPAN code of 1, 2 or 4 slots. -/
def spanCode (n : Nat) : Option Nat := match n with
  | 1 => some 0
  | 2 => some 1
  | 4 => some 2
  | _ => none

/-- WSET_DECLARE (R219): SET, VALID, DIR, CS, NL, GRAN, SPAN. -/
def State.cmdWsetDeclare (s : State) (c : Cmd) : State :=
  let w := c.byte 0
  s.checked c (c.shape 8 [(7, 1)] ++ [badIf (15 < w || 1 < c.byte 1 || 63 < c.byte 4 || 7 < c.byte 5 || (spanCode (c.byte 6)).isNone),
      slotCheckP (c.byte 2) (c.byte 3), s.owns c (s.slotOwner (c.byte 2) (c.byte 3))]) fun s =>
    let v := wordOf [(R.WS_CFG_VALID w, c.byte 1), (R.WS_CFG_NL w, c.byte 4), (R.WS_CFG_SPAN w, (spanCode (c.byte 6)).getD 0),
      (R.WS_CFG_GRAN w, c.byte 5), (R.WS_CFG_DIR w, c.byte 2), (R.WS_CFG_CS w, c.byte 3)]
    State.wrReply c (if s.setInUse w then .stateConflict else .badParam) (R.WS_CFG w) (s.wsWrite w (BitVec.ofNat 32 v))

/-- Vectors written one after another, up to the first refusal. -/
def State.setWrites (w : Nat) : Nat → List (List Byte) → State → State × Status
  | _, [], s => (s, .ok)
  | v, x :: t, s =>
    match s.setWrite w v x with
    | (s, .ok) => State.setWrites w (v + 1) t s
    | r => r

end Sys2Proof.Machine

namespace Sys2Proof

/-- The 192-byte vectors of a payload from an offset (R349, R463). -/
def Cmd.vectors (c : Cmd) (ofs n : Nat) : List (List Byte) :=
  (List.range n).map fun i => Sys2Proof.Machine.weightVec ((c.payload.drop (ofs + 192 * i)).take 192)

end Sys2Proof

namespace Sys2Proof.Machine

/-- WSET_WRITE (R220). -/
def State.cmdWsetWrite (s : State) (c : Cmd) : State :=
  let w := c.byte 0
  let v := c.num 2 2
  let n := c.num 4 2
  s.checked c [(c.size < 8 || c.size ≠ 8 + 192 * n, .badLength),
      badIf (c.byte 1 ≠ 0 || c.num 6 2 ≠ 0 || n = 0 || 42 < n || 15 < w || (s.memberOf w).isSome || s.setSize w < v + n),
      s.owns c (s.slotOwner (s.get (R.WS_CFG_DIR w)) (s.get (R.WS_CFG_CS w)))] fun s =>
    match s.setWrites w v (c.vectors 8 n) with
    | (s, .ok) => s.reply c .ok []
    | (s, st) => s.reply c st (beBytes 1 0)

/-- BEAM_WRITE (R221, R223): done at the flip. -/
def State.cmdBeamWrite (s : State) (c : Cmd) : State :=
  let id := c.num 0 2
  let d := c.byte 2
  let cs := c.byte 3
  s.checked c (c.shape 204 [(5, 1), (10, 2)] ++ [badIf (4095 < id || 1 < c.byte 4 || 1023 < c.num 6 2), slotCheckP d cs,
      badIf (symsPerFrame (s.slotMu (dirOf d) cs) ≤ c.num 8 2), s.owns c (s.beamOwner (id / 256)), (32 ≤ s.bf.lq.length, .queueFull)]) fun s =>
    (s.accept 1 c).loadBeam { flip := { id := id, d := d, cs := cs, atEn := c.byte 4 = 1, frame := c.num 6 2, sym := c.num 8 2, src := .cmd c }
                              vec := weightVec (c.payload.drop 12), steer := none }

/-- STEER (R227, R228): the whole command is refused if one request is. -/
def State.cmdSteer (s : State) (c : Cmd) : State :=
  let n := c.byte 0
  let reqs : List SteerReq := (List.range n).map fun i =>
    { w0 := c.num (4 + 12 * i) 4, w1 := c.num (8 + 12 * i) 4, w2 := c.num (12 + 12 * i) 4, job := some (c, i) }
  s.checked c [(c.size < 4 || c.size ≠ 4 + 12 * n, .badLength), badIf (c.num 1 3 ≠ 0 || n = 0 || 32 < n || reqs.any fun r => !s.steerValid r),
      (reqs.any fun r => !s.mayUse c (s.beamOwner (bits r.w0 31 20 / 256)), .resourceOwned), (64 < s.bf.fifo.length + n, .queueFull)] fun s =>
    ((s.accept 1 c).modBf fun x => { x with
      jobs := x.jobs ++ [{ cmd := c, done := List.replicate n none }]
      fifo := x.fifo ++ reqs }).steerKick

/-- BF_SHIFT (R212). -/
def State.cmdBfShift (s : State) (c : Cmd) : State :=
  s.checked c (c.shape 4 [(2, 2)] ++ [badIf (7 < c.byte 0 || 7 < c.byte 1)]) fun s =>
    s.writeReply c .stateConflict [(R.BF_SHIFT, wordOf [(R.BF_SHIFT_DL_SHIFT, c.byte 0), (R.BF_SHIFT_UL_SHIFT, c.byte 1)])]

/-- BEAM_DEFAULT (R215). -/
def State.cmdBeamDefault (s : State) (c : Cmd) : State :=
  s.onSlot c (c.shape 4 []) [s.owns c (s.slotOwner (c.byte 0) (c.byte 1))] fun d cs s =>
    let i := dirIx d
    s.writeReply c .stateConflict [(R.BF_LMAP i cs, s.wordWith (R.BF_LMAP i cs) [(R.BF_LMAP_DEFAULT i cs, c.num 2 2)])]

/-- Words of the geometry region written one after another; `false` at a correction word while the sequencer owns them (R225, R391). -/
def State.geomWrites : Nat → List Nat → State → State × Bool
  | _, [], s => (s, true)
  | w, v :: t, s =>
    if s.geomOk w then State.geomWrites (w + 1) t (s.storeMem (geomBase + 4 * w) (leBytes 4 v))
    else (s.raise R.CAL_STATUS_WR_REFUSED, false)

/-- GEOM_WRITE (R225). -/
def State.cmdGeomWrite (s : State) (c : Cmd) : State :=
  let w := c.num 0 2
  let n := c.num 2 2
  s.checked c [(c.size < 4 || c.size ≠ 4 + 4 * n, .badLength), badIf (0x380 < w + n)] fun s =>
    match State.geomWrites w (c.words 4 n) s with
    | (s, true) => s.reply c .ok []
    | (s, false) => s.reply c .stateConflict (beBytes 1 0)

/-! ### Predistortion (R151 to R176, R463) -/

/-- PD_CONFIG: a sensor that does not exist is refused with code 7. -/
def State.cmdPdConfig (s : State) (c : Cmd) : State :=
  s.checked c (c.shape 12 [(5, 3)] ++ [badIf (4095 < c.num 0 2 || 15 < c.byte 3 || 1 < c.byte 4)]) fun s =>
    if (List.range 4).any fun q => 23 < c.byte (8 + q) then s.reply c .badParam (beBytes 1 7)
    else
      s.writeReply c .badParam ((R.PD_CFG, wordOf [(R.PD_CFG_ROLLBACK_THR, c.num 0 2), (R.PD_CFG_DIV_THR, c.byte 2), (R.PD_CFG_VERIFY_FRAMES, c.byte 3),
        (R.PD_CFG_TBAND_EN, c.byte 4)]) :: (List.range 4).map fun q => (R.PD_TSEL q, c.byte (8 + q)))

/-- PD_CHAIN (R151, R157, R161): the maps first, EN last. -/
def State.cmdPdChain (s : State) (c : Cmd) (ecc : PdEcc) : State :=
  let ch := c.byte 0
  let nbr := c.num 8 4
  s.checked c (c.shape 76 [] ++ [badIf (63 < ch || 1 < c.byte 1 || 7 < c.byte 2 || 1 < c.byte 3 || 2 ^ 15 ≤ c.num 6 2)]) fun s =>
    if (List.range 4).any fun j => bit nbr (8 * j + 7) && bits nbr (8 * j + 5) (8 * j) == ch then s.reply c .badParam (beBytes 1 7)
    else
      match s.writes ([(R.PD_NBR ch, nbr)] ++ (List.range 16).map (fun i => (R.PD_TERMS ch i, c.num (12 + 4 * i) 4)) ++
          [(R.PD_BYP_G ch, c.num 4 2), (R.PD_TBMAP ch, c.num 6 2)]) with
      | (s, some a) => s.reply c .stateConflict (beBytes 1 (s.refusalCode a))
      | (s, none) =>
        let s := (s.put (R.PD_CHCFG_INIT ch) (c.byte 2)).put (R.PD_CHCFG_NOSPARE_MUTE ch) (c.byte 3)
        State.wrReply c .stateConflict (R.PD_CHCFG ch) (s.pdEnWrite ch (c.byte 1 = 1) ecc)

/-- A coefficient part: a Q6.18 value of 24 bits, zero- or sign-extended to 32. -/
def partFits (n : Nat) : Bool := n < 2 ^ 24 || 2 ^ 32 - 2 ^ 23 ≤ n

/-- PD_BANK_WRITE (R156, R159). -/
def State.cmdPdBankWrite (s : State) (c : Cmd) : State :=
  let ch := c.byte 0
  let b := c.byte 1
  let n := c.byte 3
  s.checked c [(c.size < 4 || c.size ≠ 4 + 8 * n, .badLength), badIf (63 < ch || 7 < b || 80 < c.byte 2 + n || !(c.words 4 (2 * n)).all partFits)] fun s =>
    s.writeReply c .stateConflict ((List.range n).flatMap fun i =>
      [(R.COEF_I ch b (c.byte 2 + i), c.num (4 + 8 * i) 4), (R.COEF_Q ch b (c.byte 2 + i), c.num (8 + 8 * i) 4)])

/-- PD_COMMIT (R162): a refusal is the reply. -/
def State.cmdPdCommit (s : State) (c : Cmd) (ecc : PdEcc) : State :=
  let ch := c.byte 0
  let tgt := c.byte 1
  s.checked c (c.shape 4 [] ++ [badIf (63 < ch || 7 < tgt)]) fun s =>
    if s.pdGoCode ch tgt ≠ 0 then State.wrReply c .stateConflict (R.PD_CMD ch) (s.pdGo ch tgt none ecc)
    else (((s.put (R.PD_ACL_PRE ch) (c.num 2 2)).accept 1 c).pdGo ch tgt (some c) ecc).state

/-- PD_POST (R164). -/
def State.cmdPdPost (s : State) (c : Cmd) : State :=
  let ch := c.byte 0
  s.checked c (c.shape 4 [(1, 1)] ++ [badIf (63 < ch)]) fun s =>
    State.wrReply c .stateConflict (R.PD_ACL ch) (s.pdPostWrite ch (c.num 2 2))

/-- PD_ROLLBACK (R166). -/
def State.cmdPdRollback (s : State) (c : Cmd) : State :=
  s.checked c (c.shape 4 [(1, 3)] ++ [badIf (63 < c.byte 0)]) fun s => (s.pdForce (c.byte 0)).reply c .ok []

/-- PD_STATUS. -/
def State.cmdPdStatus (s : State) (c : Cmd) : State :=
  let ch := c.byte 0
  s.checked c (c.shape 4 [(1, 3)] ++ [badIf (63 < ch)]) fun s =>
    s.reply c .ok (s.word4 (R.PD_STATE ch) ++ s.word4 (R.PD_CNT ch) ++ s.word4 (R.PD_REPAIR (quadOf ch)))

/-- PD_ADAPT (R169): the chains whose adaptation runs. -/
def State.cmdPdAdapt (s : State) (c : Cmd) : State :=
  let m := c.num 0 8
  s.checked c (c.shape 12 [(9, 3)] ++ [badIf (1 < c.byte 8)]) fun s =>
    { s with pdAdapt := if c.byte 8 = 1 then s.pdAdapt ||| m else s.pdAdapt - (s.pdAdapt &&& m) }.reply c .ok []

/-! ### Calibration (R389 to R408, R463) -/

/-- CAL_ENABLE: done after the record check. -/
def State.cmdCalEnable (s : State) (c : Cmd) : State :=
  s.checked c (c.shape 4 [(1, 3)] ++ [badIf (1 < c.byte 0)]) fun s => (s.accept 2 c).calEnWrite (c.byte 0 = 1) (some c)

/-- CAL_CONFIG. -/
def State.cmdCalConfig (s : State) (c : Cmd) : State :=
  let w := c.num 0 4
  let p := bits w 13 8
  s.checked c (c.shape 12 [] ++ [badIf (p < 20 || 60 < p || w % 16 = 0), (s.cal.job.isSome, .stateConflict)]) fun s =>
    s.writeReply c .stateConflict [(R.CAL_CFG, w), (R.CAL_REF, c.num 4 4), (R.CAL_LIM, c.num 8 4)]

/-- CAL_JOB (R398): KIND, QMASK, SENSOR, WAIT_FRAMES, AT_EN, FRAME, SYM. -/
def State.cmdCalJob (s : State) (c : Cmd) : State :=
  let k := c.byte 0
  s.checked c (c.shape 12 [(5, 1), (10, 2)] ++ [badIf (k = 0 || 6 < k || 15 < c.byte 1 || 31 < c.byte 2 || (k = 6 && 23 < c.byte 2) || 15 < c.byte 3
      || 1 < c.byte 4 || 1023 < c.num 6 2 || 4095 < c.num 8 2), (s.cal.job.isSome, .stateConflict)]) fun s =>
    let s := (s.writes [(R.CAL_JOB, wordOf [(R.CAL_JOB_KIND, k), (R.CAL_JOB_WAIT_FRAMES, c.byte 3), (R.CAL_JOB_AT_EN, c.byte 4),
      (R.CAL_JOB_QMASK, c.byte 1), (R.CAL_JOB_SENSOR, c.byte 2)]), (R.CAL_JOB_AT, wordOf [(R.CAL_JOB_AT_FRAME, c.num 6 2), (R.CAL_JOB_AT_SYM, c.num 8 2)])]).1
    let j := s.stagedCal (some c)
    match s.calCheck j with
    | .accepted => ((s.accept 2 c).calGo j).1
    | st => (s.calGo j).1.reply c st []

/-- CAL_ABORT (R406). -/
def State.cmdCalAbort (s : State) (c : Cmd) : State := s.checked c (c.shape 0 []) fun s => s.calAbort.reply c .ok []

/-- CAL_READ_CORR: correction words in force. -/
def State.cmdCalReadCorr (s : State) (c : Cmd) : State :=
  let n := c.byte 2
  s.checked c (c.shape 4 [(3, 1)] ++ [badIf (1 < c.byte 0 || n = 0 || 64 < c.byte 1 + n)]) fun s =>
    s.reply c .ok ((List.range n).flatMap fun i => beBytes 4 (s.word32 (corrAddr (c.byte 0) (c.byte 1 + i))))

/-- CAL_FACTORY_COMMIT (R393). -/
def State.cmdCalFactoryCommit (s : State) (c : Cmd) : State :=
  s.checked c (c.shape 0 [] ++ [(!s.otpWindow, .tempRange), (4 ≤ s.cal.digests.length, .notPermitted)]) fun s =>
    ((s.accept 2 c).factoryCommit).complete c .ok []

end Sys2Proof.Machine
end

