-- ==== Sys2Proof/Machine/CmdCascade.lean ====
section
/-! DEFINITION. The opcodes of groups 0x0B to 0x0E: cascade, capture, kernels and events (R271 to R278, R432 to R434, R467). -/

namespace Sys2Proof.Machine

/-! ### Discovery and addresses (R271 to R274) -/

/-- The reports of this device's own trained ports, HG0 to HG3. -/
def State.ownLinks (s : State) : List LinkReport :=
  ((List.range 4).filter fun p => s.hgState p == hgUntimed || s.hgState p == hgTimed).map fun p =>
    { da := 0xFF, port := p, record := s.capPeer p, rate := s.get (R.HG_STATUS_RATE_NOW p), txW := s.get (R.HG_STATUS_TX_W p),
      rxW := s.get (R.HG_STATUS_RX_W p) }

/-- The DAs that the devices of a list of reports hold; the manager holds 0. -/
def heldDas (l : List LinkReport) : List Nat := 0 :: (l.map fun r => bits r.record 223 216).filter fun d => d < 64

/-- The DA for a UID (R273): by the map; none for a strict map that does not list it; else the lowest that no device of the reports `l`, of
the graph or of the map has. -/
def State.newDa (s : State) (l : List LinkReport) (uid : Nat) : Option Nat :=
  let taken := heldDas l ++ s.casc.graph.filterMap fun g => g[3]?
  let free := (List.range 64).find? fun d => !taken.contains d && !((s.casc.map.getD []).any fun (z : Nat × Nat) => z.2 == d)
  match s.casc.map with
  | some m =>
    match look m uid with
    | some d => some d
    | none => if s.flag R.CASC_CTRL_MAP_STRICT then none else free
  | none => free

/-- A DA_ASSIGN frame (R272): to the link partner only, with the UID it is meant for. -/
def State.sendAssign (s : State) (p uid da : Nat) : State :=
  { s.sendSide p 7 0xFE s.ownDa (beBytes 8 uid ++ beBytes 1 da ++ beBytes 3 0) with fe := { s.fe with told := setBit s.fe.told p false } }

/-- The manager's port toward the device with a DA, by the links found. -/
def State.hopPort (s : State) : Nat → Nat → Option Nat
  | 0, _ => none
  | fuel + 1, da =>
    match s.casc.graph.find? fun g => g[3]? == some da with
    | some g => if g[0]? == some 0xFF then g[1]? else s.hopPort fuel (g.getD 0 0xFF)
    | none => none

/-- A discovery frame to a device found (R271, R302): for a DA_ASSIGN that its port `p` shall send, or with no content to ask for the partners of
its own ports. Its layout is PRESUMED (assumption log entry 28). -/
def State.sendDisc (s : State) (da : Nat) (b : List Byte) : State :=
  match s.hopPort 64 da with
  | some p => { s.sendSide p 7 da s.ownDa b with fe := { s.fe with told := setBit s.fe.told p (s.fe.told.testBit p && b = []) } }
  | none => s

/-- One link found (R271, R273, R274): a manager's partner in the manager's role is a conflict, and its port is OFF in every plan; a device
without a DA is assigned one, by its link partner; a worker found is asked for its own partners; every link joins the graph: reporter,
port, UID, DA (64 for none), rate and widths. -/
def State.foundLink (l : List LinkReport) (r : LinkReport) (s : State) : State :=
  let role := bits r.record 228 227
  let uid := bits r.record 191 128
  let held := bits r.record 223 216
  let join (da : Nat) (s : State) : State :=
    s.modCasc fun x => { x with graph := x.graph ++ [[r.da, r.port, uid, da, r.rate, r.txW, r.rxW]] }
  if role = 0 then
    (if r.da = 0xFF then (s.event (.cascRoleConflict r.port)).modCasc fun x => { x with conflict := x.conflict ++ [r.port] } else join 0 s)
  else match s.casc.graph.find? fun g => g[2]? == some uid with
    | some g => join (g.getD 3 64) s
    | none =>
      match (if held < 64 then some held else s.newDa l uid) with
      | some d =>
        let s := doIf (63 < held) (fun s =>
          if r.da = 0xFF then s.sendAssign r.port uid d
          else s.sendDisc r.da (beBytes 8 uid ++ beBytes 1 d ++ beBytes 1 r.port ++ beBytes 2 0)) s
        (join d s).sendDisc d []
      | none => join 64 s

/-- The devices of the graph beside the manager, by UID. -/
def State.foundDevices (s : State) : List (Nat × Nat) :=
  ((s.casc.graph.filter fun g => g[3]? != some 0).map fun g => (g.getD 2 0, g.getD 3 64)).eraseDups

/-- CASCADE_DISCOVER (R271): the manager's own links, then what the workers report of theirs, in breadth-first order. -/
def State.cmdCascadeDiscover (s : State) (c : Cmd) (reports : List LinkReport) : State :=
  s.checked c (c.shape 0 [] ++ [(s.worker, .stateConflict)]) fun s =>
    let s := (s.accept 2 c).modCasc fun x => { x with graph := [], conflict := [] }
    let l := s.ownLinks ++ reports
    let s := forAll l (State.foundLink l) s
    let none := (s.foundDevices.filter fun d => d.2 == 64).length
    s.complete c .ok (beBytes 1 (1 + s.foundDevices.length) ++ beBytes 1 none ++ beBytes 2 0)

/-- DA_ASSIGN (R272): sent from a port; a partner in the plan in force keeps its DA, by whatever port it is reached. -/
def State.cmdDaAssign (s : State) (c : Cmd) : State :=
  let p := c.byte 9
  let up : Bool := s.hgState p == hgUntimed || s.hgState p == hgTimed
  let planned : Bool := s.portRole p == 1 || s.portRole p == 2 || (s.routeOf (bits (s.capPeer p) 223 216)).isSome
  s.checked c (c.shape 12 [(10, 2)] ++ [badIf (63 < c.byte 8 || 3 < p), (planned || !up, .stateConflict)]) fun s =>
    (s.sendAssign p (c.num 0 8) (c.byte 8)).reply c .ok []

/-- CASCADE_MAP (R273): the map, in CSTORE too (R407), laid out as the payload (PRESUMED, log 28). -/
def State.cmdCascadeMap (s : State) (c : Cmd) : State :=
  let n := c.byte 0
  let l := (List.range n).map fun i => (c.num (4 + 12 * i) 8, c.byte (12 + 12 * i))
  s.checked c [(c.size < 4 || c.size ≠ 4 + 12 * n, .badLength),
      badIf (c.num 1 3 ≠ 0 || (List.range n).any fun i => c.num (13 + 12 * i) 3 ≠ 0 || 63 < c.byte (12 + 12 * i))] fun s =>
    ((s.modCasc fun x => { x with map := some l }).storeMem (cstore + 0x159000) c.payload).reply c .ok []

/-! ### The plan and the links (R266, R275 to R278) -/

/-- TREE_PLAN (R278): into the shadow bank. -/
def State.cmdTreePlan (s : State) (c : Cmd) : State :=
  let b := 1 - s.planAct
  s.checked c (c.shape 44 [(1, 3)] ++ [badIf (1 < c.byte 0),
      (c.byte 0 == 0 && (R.PLAN_A_TREE_D b).of (BitVec.ofNat 32 (c.num 4 4)) != (R.PLAN_A_TREE_D s.planAct).of (s.reg (R.PLAN_A s.planAct)), .stateConflict)]) fun s =>
    s.writeReply c .stateConflict ([(R.PLAN_A b, c.num 4 4), (R.PLAN_B b, c.num 8 4)] ++ (List.range 8).map fun w => (R.ROUTE b w, c.num (12 + 4 * w) 4))

/-- TREE_COMMIT (R276, R277). -/
def State.cmdTreeCommit (s : State) (c : Cmd) : State :=
  s.checked c (c.shape 4 [(2, 2)] ++ [badIf (1023 < c.num 0 2)]) fun s =>
    match s.planCommit (c.num 0 2) (some c) with
    | (s, 0) => s.accept 1 c
    | (s, k) => s.reply c .badParam (beBytes 1 k)

/-- CASCADE_STATUS. -/
def State.cmdCascadeStatus (s : State) (c : Cmd) : State :=
  s.checked c (c.shape 0 []) fun s => s.reply c .ok (s.word4 R.CASC_STATUS ++ (List.range 4).flatMap fun p => s.word4 (R.HG_STATUS p))

/-- HG_CONTROL: HG_RETIRE is written before HG_CTRL, whose retraining takes it into account (DESIGN CHOICE, log 49). -/
def State.cmdHgControl (s : State) (c : Cmd) : State :=
  let p := c.byte 0
  let w := c.num 4 4
  s.checked c (c.shape 12 [(1, 3)] ++ [badIf (3 < p || bits w 23 19 < 1 || 24 < bits w 23 19 || bits w 13 12 = 3 || bits w 17 16 = 3
      || 2 ^ 24 ≤ c.num 8 4)]) fun s =>
    s.writeReply c .stateConflict [(R.HG_RETIRE p, c.num 8 4), (R.HG_CTRL p, w)]

/-! ### Capture, playback, self-test (R140 to R146, R175, R239) -/

/-- CAPTURE. -/
def State.cmdCapture (s : State) (c : Cmd) : State :=
  let k := c.byte 0
  let busy : Bool := s.capState k == 1 || s.capState k == 2
  s.checked c (c.shape 24 [(1, 3)] ++ [badIf (7 < k || 1023 < c.num 20 4), (busy, .stateConflict)]) fun s =>
    match s.writes [(R.CAP_ADDR k, c.num 4 4), (R.CAP_LEN k, c.num 8 4), (R.CAP_CFG k, c.num 12 4), (R.CAP_AT k, c.num 16 4)] with
    | (s, some a) => s.reply c .stateConflict (beBytes 1 (s.refusalCode a))
    | (s, none) =>
      let s := s.put (R.CAP_CTRL_FRAME k) (c.num 20 4)
      match s.capGo k none with
      | .error s => s.reply c .stateConflict (beBytes 1 0)
      | .ok _ =>
        let s := s.accept 2 c
        match s.capGo k (some c) with
        | .ok t => if k % 2 == 1 && s.flag (R.CAP_CFG_PAIR (k - 1)) then t.complete c .aborted (t.capDone k) else t
        | .error t => t

/-- CAPTURE_ABORT. -/
def State.cmdCaptureAbort (s : State) (c : Cmd) : State :=
  s.checked c (c.shape 4 [(1, 3)] ++ [badIf (7 < c.byte 0)]) fun s => (s.abortCap (c.byte 0)).reply c .ok []

/-- PLAYBACK: RUN 1 configures and starts, RUN 0 stops. -/
def State.cmdPlayback (s : State) (c : Cmd) : State :=
  s.checked c (c.shape 16 [(1, 3)] ++ [badIf (1 < c.byte 0), (c.byte 0 == 1 && s.flag R.PB_CTRL_RUN, .stateConflict)]) fun s =>
    if c.byte 0 = 0 then s.pbStopWrite.reply c .ok []
    else
      match s.writes [(R.PB_ADDR, c.num 4 4), (R.PB_LEN, c.num 8 4), (R.PB_CFG, c.num 12 4)] with
      | (s, some a) => s.reply c .stateConflict (beBytes 1 (s.refusalCode a))
      | (s, none) => State.wrReply c .stateConflict R.PB_CTRL s.pbStart

/-- The retired evaluators or columns, a bit per chain. -/
def State.retiredMask (s : State) (f : Nat → Field) : Nat := (List.range 4).foldl (fun n q => n + s.get (f q) * 2 ^ (16 * q)) 0

/-- SELFTEST (R175, R239): `evals` and `cols` fail. -/
def State.cmdSelftest (s : State) (c : Cmd) (evals cols : Nat) : State :=
  s.checked c (c.shape 0 [] ++ [(s.carriersActive, .stateConflict)]) fun s =>
    let s := (s.accept 2 c).selfTest evals cols
    s.complete c .ok (beBytes 8 (s.retiredMask R.PD_REPAIR_FAILED) ++ beBytes 8 (s.retiredMask R.BF_REPAIR_FAILED))

/-! ### Kernels (R432 to R434) -/

/-- Whether a session may act on a core (R434, R455): a core that a session's kernel owns is that session's alone; any other is for
privileged sessions. -/
def State.mayCore (s : State) (c : Cmd) (n : Nat) : Bool := if (s.flior n).owned then s.coreOwner n == c.session else s.priv c

/-- The check of the cores a command names. -/
def State.coresOwned (s : State) (c : Cmd) (m : Nat) : Bool × Status := ((bitList 8 m).any fun n => !s.mayCore c n, .resourceOwned)

/-- KERNEL_MODE: firmware changes MODE while the core is HALTED, and names the mailbox. -/
def State.cmdKernelMode (s : State) (c : Cmd) : State :=
  let n := c.byte 0
  let m := c.num 4 4
  s.checked c (c.shape 8 [(2, 2)] ++ [badIf (7 < n || 1 < c.byte 1 || (c.byte 1 = 1 && (m < 0x3000000 || 0x4000000 < m + 0x10000))),
      (s.fdState n != fdHalted, .stateConflict)]) fun s =>
    (s.fdMode n (c.byte 1 == 1) m).reply c .ok []

/-- Bytes of a bank of a DLM: X, Y, C (R411), and where it begins. -/
def dlmPart (b : Nat) : Nat × Nat := if b = 0 then (0, 0x18000) else if b = 1 then (0x18000, 0x18000) else (0x30000, 0x10000)

/-- Whether a kernel's segments lie in their banks and its entry in its code (R433). -/
def kernelFits (o : Config.Signed) : Bool :=
  o.segs.all (fun (z : Nat × Nat × List Byte) => z.1 < 3 && z.2.1 + z.2.2.length ≤ (dlmPart z.1).2)
    && o.segs.any fun (z : Nat × Nat × List Byte) => z.1 == 2 && z.2.1 ≤ 16 * o.entry && 16 * o.entry + 16 ≤ z.2.1 + z.2.2.length

/-- A kernel is loaded into a core (R433): its segments, zeros everywhere else, its entry and its owner. -/
def State.loadKernel (o : Config.Signed) (x n : Nat) (s : State) : State :=
  let s := s.clearMem (dlm n) 0x40000
  let s := forAll o.segs (fun (z : Nat × Nat × List Byte) s => s.storeMem (dlm n + (dlmPart z.1).1 + z.2.1) z.2.2) s
  let s := (s.put (R.FD_ENTRY_ENTRY n) o.entry).put (R.FD_OWNER_SESSION n) x
  let s := (s.put (R.FD_OWNER_KEYSLOT n) o.slot).put (R.FD_OWNER_KVER n) o.version
  (s.modFlior n fun y => { y with owned := true, kernel := some o.hash }).setFd n fdHalted

/-- KERNEL_LOAD. -/
def State.cmdKernelLoad (s : State) (c : Cmd) : State :=
  let m := c.byte 0
  let a := c.num 4 4
  let len := c.num 8 4
  let inMmem : Bool := 0x3000000 ≤ a && a + len ≤ 0x4000000
  let b := if inMmem then (s.readClean a len).1 else []
  let o := Config.signed b
  let cores := bitList 8 m
  s.checked c (c.shape 12 [(1, 3)] ++ [badIf (m = 0 || !inMmem), (o.kind != 1 || 2 < o.slot || !s.verifies (3 + o.slot) b, .authFail),
      (cores.any fun n => !s.flag (R.FD_OWNER_MODE n) || ((s.flior n).owned && s.coreOwner n != c.session), .resourceOwned),
      (cores.any fun n => s.fdState n != fdHalted, .stateConflict),
      badIf (!kernelFits o || cores.any fun n => !bit o.cores n)]) fun s =>
    (forAll cores (s := s.accept 3 c) fun n s => s.loadKernel o c.session n).complete c .ok []

/-- START of cores in order, up to the first that refuses. -/
def State.startCores (resume : Bool) : List Nat → State → State × Bool
  | [], s => (s, true)
  | n :: t, s => if s.fdState n = fdHalted then State.startCores resume t (s.fdStart n resume) else (s.fdStart n resume, false)

/-- KERNEL_START. -/
def State.cmdKernelStart (s : State) (c : Cmd) : State :=
  let m := c.byte 0
  s.checked c (c.shape 4 [(2, 2)] ++ [badIf (m = 0 || 1 < c.byte 1), s.coresOwned c m,
      ((bitList 8 m).any fun n => s.fdState n == fdFrozen, .targetFrozen)]) fun s =>
    match State.startCores (c.byte 1 == 1) (bitList 8 m) s with
    | (s, true) => s.reply c .ok []
    | (s, false) => s.reply c .stateConflict (beBytes 1 0)

/-- KERNEL_HALT. -/
def State.cmdKernelHalt (s : State) (c : Cmd) : State :=
  let m := c.byte 0
  s.checked c (c.shape 4 [(1, 3)] ++ [badIf (m = 0), s.coresOwned c m]) fun s =>
    (forAll (bitList 8 m) (fun n s => s.fdHalt n) s).reply c .ok []

/-- KERNEL_DOORBELL. -/
def State.cmdKernelDoorbell (s : State) (c : Cmd) : State :=
  let n := c.byte 0
  s.checked c (c.shape 4 [(1, 1)] ++ [badIf (7 < n), (!s.mayCore c n, .resourceOwned)]) fun s =>
    (s.fdDoorbell n (c.num 2 2)).reply c .ok []

/-- KERNEL_STATUS. -/
def State.cmdKernelStatus (s : State) (c : Cmd) : State :=
  let n := c.byte 0
  s.checked c (c.shape 4 [(1, 3)] ++ [badIf (7 < n)]) fun s =>
    s.reply c .ok (s.word4 (R.FD_STATUS n) ++ s.word4 (R.FD_PC n) ++ s.word4 (R.FD_OWNER n) ++ s.word4 (R.FD_FAULT_ADDR n))

/-! ### Events, log and faults (R451, R537 to R539) -/

/-- EVENT_SUBSCRIBE: bit a selects event area a. -/
def State.cmdEventSubscribe (s : State) (c : Cmd) : State :=
  s.checked c (c.shape 2 []) fun s => (s.modSession c.session fun y => { y with mask := c.num 0 2 }).reply c .ok []

/-- LOG_READ: the firmware's records are open values. -/
def State.cmdLogRead (s : State) (c : Cmd) : State :=
  s.checked c (c.shape 8 [(6, 2)]) fun s => s.freeNext.reply c .ok ((Config.logRecords s.free (c.num 0 4) (c.num 4 2)).take 8192)

/-- FAULT_READ: four records of eight words and the overflow count; CLEAR then clears the unit. -/
def State.cmdFaultRead (s : State) (c : Cmd) : State :=
  let u := c.byte 0
  s.checked c (c.shape 4 [(2, 2)] ++ [badIf (!unitExists u || 1 < c.byte 1)]) fun s =>
    let l := (List.range 4).flatMap (fun r => (List.range 8).flatMap fun k => s.word4 (R.FM_REC u r k)) ++ s.word4 (R.FM_OVF u)
    (doIf (c.byte 1 == 1) (fun s => s.clearUnit u) s).reply c .ok l

end Sys2Proof.Machine
end

