-- ==== Sys2Proof/Machine/CmdTime.lean ====
section
/-! DEFINITION. The opcodes of groups 0x07 to 0x0A: time, power, memory and security (R461, R464 to R466, R585). -/

namespace Sys2Proof.Machine

/-! ### The slot table (R196 to R202, R465) -/

/-- SLOT_WRITE: entries into the shadow bank; reserved bits of an entry must be 0. -/
def State.cmdSlotWrite (s : State) (c : Cmd) : State :=
  let first := c.num 0 2
  let n := c.num 2 2
  let l := c.words 4 n
  s.checked c [(c.size < 4 || c.size ≠ 4 + 4 * n, .badLength),
      badIf (n = 0 || 2047 < n || 2048 < first + n || l.any fun w => 4096 ≤ w || bit w 7)] fun s =>
    s.writeReply c .stateConflict ((List.range n).map fun i => (R.SLOT_TBL (1 - s.bank) (first + i), l.getD i 0))

/-- SLOT_MU, for the shadow bank. -/
def State.cmdSlotMu (s : State) (c : Cmd) : State :=
  s.checked c (c.shape 4 [(1, 3)] ++ [badIf (3 < c.byte 0)]) fun s =>
    s.writeReply c .stateConflict [(R.SLOT_MU (1 - s.bank), c.byte 0)]

/-- SLOT_COPY. -/
def State.cmdSlotCopy (s : State) (c : Cmd) : State :=
  s.checked c (c.shape 0 []) fun s => State.wrReply c .stateConflict R.SLOT_CTRL s.slotCopy

/-- A SLOT_COMMIT with AT_EN has passed its check (R465): COMMIT is written during frame FRAME − 1; past it, or within 24,576 cycles of the
named boundary, the command times out. -/
def State.slotCommitIn (s : State) (c : Cmd) : State :=
  let k := s.frameNo s.now
  let wait := (((c.num 2 2 : Nat) - 1 - k) % 1024).toNat
  if 512 ≤ wait ∨ (wait = 0 ∧ (s.nextFrame .dl s.now).1 < s.now + 24576) then s.complete c .timeout []
  else if wait = 0 then (s.modSlot fun x => { x with job := some c, answered := true }).slotCommit
  else s.modSlot fun x => { x with job := some c, answered := true, inFrame := some (k + wait) }

/-- SLOT_COMMIT (R465): the reply follows the check of R200. -/
def State.cmdSlotCommit (s : State) (c : Cmd) : State :=
  s.checked c (c.shape 4 [(1, 1)] ++ [badIf (1 < c.byte 0 || 1023 < c.num 2 2),
      (s.flag R.SLOT_STATUS_COMMIT_PEND || s.flag R.SLOT_STATUS_CHECK_BUSY || s.slot.job.isSome, .stateConflict)]) fun s =>
    if c.byte 0 = 0 then
      ((s.keepRunning 1 c).modSlot fun x => { x with job := some c, answered := false, inFrame := none }).slotCommit
    else
      match s.slotCheck with
      | some e => s.reply c .badParam (beBytes 2 e)
      | none => (s.accept 1 c).slotCommitIn c

/-- SLOT_CANCEL (R202). -/
def State.cmdSlotCancel (s : State) (c : Cmd) : State :=
  s.checked c (c.shape 0 []) fun s => State.wrReply c .stateConflict R.SLOT_CTRL s.slotCancel

/-- FRAME_CONFIG. -/
def State.cmdFrameConfig (s : State) (c : Cmd) : State :=
  s.checked c (c.shape 8 [(6, 2)] ++ [badIf (frameCycles ≤ c.num 0 4 || 8191 < c.num 4 2)]) fun s =>
    s.writeReply c .stateConflict [(R.FRAME_CFG, c.num 0 4), (R.TA_CFG, c.num 4 2)]

/-! ### Device time (R319, R323 to R331) -/

/-- TIME_SET: TU_SET, then STEP. -/
def State.cmdTimeSet (s : State) (c : Cmd) : State :=
  s.checked c (c.shape 12 [] ++ [badIf (1000000000 ≤ c.num 6 4)]) fun s =>
    let s := (s.writes [(R.TU_SET0, c.num 0 2), (R.TU_SET1, c.num 2 4), (R.TU_SET2, c.num 6 4), (R.TU_SET3, c.num 10 2)]).1
    let (s, st) := s.tuStep
    s.reply c st (if st = .ok then [] else beBytes 1 0)

/-- TIME_GET. -/
def State.cmdTimeGet (s : State) (c : Cmd) : State :=
  s.checked c (c.shape 0 []) fun s =>
    s.reply c .ok (timeBytes s.time ++ s.word4 R.TU_STATUS ++ s.word4 (R.SRV_ERR 0) ++ s.word4 (R.SRV_ERR 1))

/-- SERVO_CONFIG: only servo B takes SRC. -/
def State.cmdServoConfig (s : State) (c : Cmd) : State :=
  let x := c.byte 0
  s.checked c (c.shape 12 [(5, 1), (10, 2)] ++
      [badIf (1 < x || 1 < c.byte 1 || (x = 0 && c.byte 1 ≠ 0) || 100 < c.byte 2 || 31 < c.byte 3 || 31 < c.byte 4)]) fun s =>
    s.writeReply c .stateConflict [(R.SRV_HOLD x, wordOf [(R.SRV_HOLD_LOCK_THR x, c.num 6 2), (R.SRV_HOLD_HOLD_TO x, c.num 8 2)]),
      (R.SRV_CFG x, wordOf [(R.SRV_CFG_SRC x, c.byte 1), (R.SRV_CFG_PULL_MAX x, c.byte 2), (R.SRV_CFG_KI x, c.byte 3), (R.SRV_CFG_KP x, c.byte 4)])]

/-- TIME_SELECT. -/
def State.cmdTimeSelect (s : State) (c : Cmd) : State :=
  s.checked c (c.shape 8 [(5, 3)] ++ [badIf (1 < c.byte 0 || 1 < c.byte 1 || 2 < c.byte 2 || 3 < c.byte 3 || 7 < c.byte 4)]) fun s =>
    s.writeReply c .stateConflict [(R.SE_CFG, c.byte 4), (R.TU_CTRL, wordOf [(R.TU_CTRL_SEL, c.byte 0), (R.TU_CTRL_AUTO_SEL, c.byte 1),
      (R.TU_CTRL_SYNCE_MODE, c.byte 2), (R.TU_CTRL_KSE, c.byte 3)])]

/-- PPS_CONFIG. -/
def State.cmdPpsConfig (s : State) (c : Cmd) : State :=
  let w := bits (c.num 0 4) 15 8
  s.checked c (c.shape 12 [] ++ [badIf (w = 0 || 200 < w)]) fun s =>
    s.writeReply c .stateConflict [(R.PPS_OUT_CFG, c.num 0 4), (R.PPS_OUT_OFS, c.num 4 4), (R.PPS_IN_OFS, c.num 8 4)]

/-! ### Power, thermal, Lark (R461, R464, R510 to R531) -/

/-- STATE_SET (R461). -/
def State.cmdStateSet (s : State) (c : Cmd) : State :=
  s.checked c (c.shape 12 [(3, 1)] ++ [badIf (s.stateCheck (c.byte 0) (c.byte 1) (c.byte 2) == .badParam),
      (s.stateCheck (c.byte 0) (c.byte 1) (c.byte 2) == .stateConflict, .stateConflict)]) fun s =>
    (s.accept 2 c).stateSet (c.byte 0) (c.byte 1) (c.byte 2) (c.num 4 8) (some c)

/-- STATE_GET: the power estimate is an open value. -/
def State.cmdStateGet (s : State) (c : Cmd) : State :=
  s.checked c (c.shape 0 []) fun s =>
    s.freeNext.reply c .ok (beBytes 1 s.pwrState ++ beBytes 1 s.pw.qgate ++ beBytes 1 s.pointsNow ++ beBytes 1 0
      ++ beBytes 8 s.pw.chgate ++ beBytes 4 s.freeVal)

/-- The ranges of THERM_CONFIG's parameters (R529). -/
def thermBad (c : Cmd) : Bool :=
  c.byte 0 < 105 || 125 < c.byte 0 || c.byte 0 < c.byte 2 + 5 || c.byte 2 < c.byte 1 || !orderOk (c.num 4 2)

/-- THERM_CONFIG: SHUT_C never rises. -/
def State.cmdThermConfig (s : State) (c : Cmd) : State :=
  s.checked c (c.shape 6 [(3, 1)] ++ [badIf (thermBad c), (s.get R.THERM_CFG_SHUT_C < c.byte 0, .notPermitted)]) fun s =>
    s.writeReply c .stateConflict [(R.THERM_CFG, s.wordWith R.THERM_CFG [(R.THERM_CFG_SHUT_C, c.byte 0), (R.THERM_CFG_WARN_C, c.byte 1),
      (R.THERM_CFG_THROTTLE_C, c.byte 2)]), (R.THERM_THR, s.wordWith R.THERM_THR [(R.THERM_THR_ORDER, c.num 4 2)])]

/-- THERM_READ. -/
def State.cmdThermRead (s : State) (c : Cmd) : State :=
  s.checked c (c.shape 0 []) fun s =>
    s.reply c .ok ((List.range 24).flatMap fun n => beInt 2 (s.getS (R.TEMP_TEMP n)) ++ beBytes 1 (s.get (R.TEMP_STALE n)))

/-- LARK_RULE. -/
def State.cmdLarkRule (s : State) (c : Cmd) : State :=
  let i := c.byte 0
  s.checked c (c.shape 12 [(1, 3)] ++ [badIf (15 < i || 4 < bits (c.num 8 4) 31 28)]) fun s =>
    s.writeReply c .stateConflict [(R.LK_RULE_COND i, c.num 4 4), (R.LK_RULE_ACTION i, c.num 8 4)]

/-! ### Registers and memory through the host command agent (R466, R585) -/

/-- The agent of a command's session (R466). -/
def agentOf (c : Cmd) : Nat := 0x40 + c.session

/-- One word read by an agent: memory as stored (a poisoned word as zero), or a register. -/
def State.agentRead (s : State) (mid a : Nat) : State × Nat :=
  if inMemory a 4 then (s, leNat (s.readClean a 4).1)
  else let (s, w) := s.regRead mid a; (s, w.toNat)

/-- One word written by an agent under a mask (R585). -/
def State.agentWrite (s : State) (mid a mask v : Nat) : Wr :=
  if mask = 0 then .ok s
  else if inMemory a 4 then .ok (s.storeMem a (leBytes 4 (v &&& mask ||| (leNat (s.readClean a 4).1 - (leNat (s.readClean a 4).1 &&& mask)))))
  else s.regWrite mid a (s.maskWord a mask (BitVec.ofNat 32 v))

/-- Words from `a`, read one by one; a violation freezes the agent and nothing is answered. -/
def State.readWords (mid : Nat) : Nat → Nat → State → State × Option (List Byte)
  | 0, _, s => (s, some [])
  | k + 1, a, s =>
    match s.accessCause mid a 4 false with
    | 0 =>
      let (s, w) := s.agentRead mid a
      let (s, r) := State.readWords mid k (a + 4) s
      (s, r.map (beBytes 4 w ++ ·))
    | x => (s.freeze mid x a, none)

/-- REG_READ. -/
def State.cmdRegRead (s : State) (c : Cmd) : State :=
  let a := c.num 0 4
  let n := c.byte 4
  s.checked c (c.shape 8 [(5, 3)] ++ [badIf (n = 0 || 64 < n || a % 4 ≠ 0 || 2 ^ 32 < a + 4 * n)]) fun s =>
    match State.readWords (agentOf c) n a s with
    | (s, some l) => s.reply c .ok l
    | (s, none) => s

/-- What a run of REG_WRITE triples came to: the read-back, a violation, or a refusal at an address. -/
inductive RegRun where
  | done (back : List Byte)
  | froze
  | refusedAt (addr : Nat)
deriving DecidableEq, Repr

/-- REG_WRITE triples in order. -/
def State.regTriples (mid : Nat) : List (Nat × Nat × Nat) → State → State × RegRun
  | [], s => (s, .done [])
  | (a, m, v) :: t, s =>
    match (if m = 0 then 0 else s.accessCause mid a 4 true), s.accessCause mid a 4 false with
    | 0, 0 =>
      match s.agentWrite mid a m v with
      | .error s => (s, .refusedAt a)
      | .ok s =>
        let (s, w) := s.agentRead mid a
        match State.regTriples mid t s with
        | (s, .done l) => (s, .done (beBytes 4 w ++ l))
        | r => r
    | 0, x => (s.freeze mid x a, .froze)
    | x, _ => (s.freeze mid x a, .froze)

/-- REG_WRITE. -/
def State.cmdRegWrite (s : State) (c : Cmd) : State :=
  let n := c.byte 0
  let l := (List.range n).map fun i => (c.num (4 + 12 * i) 4, c.num (8 + 12 * i) 4, c.num (12 + 12 * i) 4)
  s.checked c [(c.size < 4 || c.size ≠ 4 + 12 * n, .badLength),
      badIf (c.num 1 3 ≠ 0 || n = 0 || 64 < n || l.any fun (z : Nat × Nat × Nat) => z.1 % 4 ≠ 0)] fun s =>
    match State.regTriples (agentOf c) l s with
    | (s, .done b) => s.reply c .ok b
    | (s, .froze) => s
    | (s, .refusedAt a) => s.reply c .stateConflict (beBytes 1 (s.refusalCode a))

/-- The first word of a range at which an access of an agent is a violation, with the cause. -/
def State.firstViolation (s : State) (mid a n : Nat) (write : Bool) : Option (Nat × Nat) :=
  ((List.range ((a + n + 3) / 4 - a / 4)).map fun i => 4 * (a / 4 + i)).findSome? fun w =>
    match s.accessCause mid w 4 write with
    | 0 => none
    | x => some (x, max a w)

/-- MEM_READ: the words read as zero are counted. -/
def State.cmdMemRead (s : State) (c : Cmd) (ecc : List (Nat × EccFinding)) : State :=
  let a := c.num 0 4
  let n := c.num 4 2
  let mid := agentOf c
  s.checked c (c.shape 8 [(6, 2)] ++ [badIf (n % 4 ≠ 0 || 8188 < n || 2 ^ 32 < a + n)]) fun s =>
    match s.firstViolation mid a n false with
    | some (x, w) => s.freeze mid x w
    | none =>
      let (s, l) := s.perform mid a n none ecc
      s.reply c .ok (beBytes 4 (if inMemory a n then (s.readClean a n).2 else 0) ++ (l ++ List.replicate n 0).take n)

/-- Words of a MEM_WRITE into registers, up to the first refusal. -/
def State.memWords (mid : Nat) : Nat → List Byte → State → State × Option Nat
  | _, [], s => (s, none)
  | a, b0 :: b1 :: b2 :: b3 :: t, s =>
    match s.regWrite mid a (BitVec.ofNat 32 (leNat [b0, b1, b2, b3])) with
    | .ok s => State.memWords mid (a + 4) t s
    | .error s => (s, some a)
  | _, _, s => (s, none)

/-- MEM_WRITE. -/
def State.cmdMemWrite (s : State) (c : Cmd) (ecc : List (Nat × EccFinding)) : State :=
  let a := c.num 0 4
  let l := c.payload.drop 4
  let mid := agentOf c
  s.checked c [(l.length < 4 || 8188 < l.length, .badLength), badIf (2 ^ 32 < a + l.length)] fun s =>
    match s.firstViolation mid a l.length true with
    | some (x, w) => s.freeze mid x w
    | none =>
      if inMemory a l.length then (s.mergeStore mid a l ecc).reply c .ok []
      else
        match State.memWords mid a l s with
        | (s, none) => s.reply c .ok []
        | (s, some b) => s.reply c .stateConflict (beBytes 1 (s.refusalCode b))

/-- Whether regions (base, size) lie inside SMEM and keep apart (R203). -/
def partOk (l : List (Nat × Nat)) : Bool :=
  l.all (fun (z : Nat × Nat) => z.1 + z.2 ≤ 384) && (List.range l.length).all fun i => (List.range i).all fun j =>
    let x := l.getD i (0, 0)
    let y := l.getD j (0, 0)
    x.2 = 0 || y.2 = 0 || x.1 + x.2 ≤ y.1 || y.1 + y.2 ≤ x.1

/-- SMEM_PARTITION (R203): six words as one. -/
def State.cmdSmemPartition (s : State) (c : Cmd) : State :=
  let l := c.words 0 6
  s.checked c (c.shape 24 [] ++ [badIf !(partOk (l.map fun w => (bits w 24 16, bits w 8 0)))]) fun s =>
    s.writeReply c .stateConflict ((List.range 6).map fun i => (R.SMEM_PART i, l.getD i 0))

/-- BANK_RETIRE (R479). -/
def State.cmdBankRetire (s : State) (c : Cmd) : State :=
  s.checked c (c.shape 4 [(1, 3)] ++ [badIf (63 < c.byte 0)]) fun s =>
    match s.retireGo (c.byte 0) (some c) with
    | (s, .accepted) => s.accept 2 c
    | (s, st) => s.reply c st (beBytes 1 0)

/-! ### Firmware and attestation (R551, R554) -/

/-- FW_STAGE: bytes into the staging area, whose contents are then no longer verified (TH_FWSTG). -/
def State.cmdFwStage (s : State) (c : Cmd) : State :=
  let o := c.num 0 4
  let l := c.payload.drop 4
  s.checked c [(c.size < 4, .badLength), badIf (0x100000 < o + l.length)] fun s =>
    ((s.storeMem (s.stagingBase + o) l).setReg R.TH_FWSTG 0).reply c .ok []

/-- FW_ACTIVATE: a KEYOP completes at once; an UNOWNED device takes no other object than a PROGRAM_CUST (R552). -/
def State.cmdFwActivate (s : State) (c : Cmd) : State :=
  let len := c.num 0 4
  let o := Config.signed (s.staged (min len 0x100000))
  s.checked c (c.shape 8 [(4, 4)] ++ [badIf (0x100000 < len), (!s.owned && !(o.kind == 2 && o.op == 0), .notPermitted)]) fun s =>
    match s.fwActivate len (some c) with
    | (_, .accepted) => ((s.accept 2 c).fwActivate len (some c)).1
    | (s, .ok) => (s.accept 2 c).complete c .ok []
    | (s, st) => s.reply c st []

/-- FW_STATUS. -/
def State.cmdFwStatus (s : State) (c : Cmd) : State :=
  s.checked c (c.shape 0 []) fun s => s.reply c .ok (s.word4 R.TH_FWVER ++ s.word4 R.TH_FWSTG ++ beBytes 8 s.th.counter)

/-- ATTEST: the identity keys are unusable after a debug unlock (R553). -/
def State.cmdAttest (s : State) (c : Cmd) : State :=
  s.checked c (c.shape 32 [] ++ [(s.flag R.TH_STATUS_DEBUG, .stateConflict)]) fun s => s.reply c .ok (s.attest c.payload)

/-! ### Sessions (R441 to R444, R552) -/

/-- SESSION_OPEN: the lowest CLOSED slot; the reply is untagged and carries its number. -/
def State.cmdSessionOpen (s : State) (c : Cmd) : State :=
  let slot := (List.range 16).find? fun x => s.sessState x == sessClosed
  s.checked c (c.shape 1249 [] ++ [badIf (7 < c.byte 1248), (s.worker, .notPermitted), (s.flag R.TH_STATUS_DEBUG, .stateConflict),
      (slot.isNone, .resourceOwned)]) fun s =>
    let x := slot.getD 0
    let body := s.attest (c.payload.take 32) ++ Config.keyShare c.payload
    let tr := c.payload ++ body
    let s := ((s.put (R.SESS_STAT_XPORT x) (if c.via = .spi then 1 else 0)).put (R.SESS_STAT_CRED x) (c.byte 1248)).put (R.SESS_STAT_ROLE x) 0
    let s := s.modSession x fun _ => { Session.empty with
      kCmd := Config.sessionKey false tr, kRsp := Config.sessionKey true tr, transcript := tr, openedAt := s.now }
    let s := ((s.showEvq x).setSess x sessOpening).served c
    if c.noReply then s else s.putReply c { s.replyPacket c .ok 0 body with session := x }

/-- The windows of a host command agent (R490): a privileged session's reach the whole map, an operator's nothing. -/
def State.agentWindow (s : State) (x : Nat) (priv : Bool) : State :=
  let m := 0x40 + x
  let s := (s.put (R.WIN0_BASE m 0) 0).put (R.WIN1_SIZE m 0) 32
  ((s.put (R.WIN1_R m 0) 1).put (R.WIN1_W m 0) 1).put (R.WIN1_EN m 0) (b2n priv)

/-- A session is open (R441, R451): its role, its mask, its agent's window and its source address. -/
def State.openSession (s : State) (x : Nat) (priv : Bool) (c : Cmd) : State :=
  let s := s.put (R.SESS_STAT_ROLE x) (b2n priv)
  let s := s.modSession x fun y => { y with mask := if priv then 0xFFFF else 0, lastAt := c.acceptedAt, transcript := [] }
  let s := s.agentWindow x priv
  let mac := c.src / 2 ^ 128
  let ip := c.src % 2 ^ 128
  let src := if c.via = .host then [mac % 2 ^ 32, mac / 2 ^ 32, ip / 2 ^ 96, ip / 2 ^ 64, ip / 2 ^ 32, ip] else List.replicate 6 0
  let s := forAll (List.range 6) (fun i s => s.setReg (R.SESS_SRC x i) (BitVec.ofNat 32 (src.getD i 0))) s
  s.setSess x sessOpen

/-- SESSION_FINISH: the signatures of an enrolled credential; on an UNOWNED device any, on the SPI only. -/
def State.cmdSessionFinish (s : State) (c : Cmd) : State :=
  let x := c.session
  s.checked c (c.shape 3373 [] ++ [(s.sessState x != sessOpening, .stateConflict)]) fun s =>
    let role : Option Bool :=
      if !s.owned then (if c.via = .spi then some true else none)
      else match s.th.creds.getD (s.get (R.SESS_STAT_CRED x)) none with
        | some k => if Config.credValid k.ed k.ml (Config.sha384 (s.session x).transcript) c.payload then some k.privileged else none
        | none => none
    match role with
    | some p => (s.openSession x p c).reply c .ok []
    | none => (((s.reply c .authFail []).setSess x sessClosed).modSession x fun _ => Session.empty).showHeld x

/-- SESSION_CLOSE: a session closing itself is answered first. -/
def State.cmdSessionClose (s : State) (c : Cmd) : State :=
  let y := c.byte 0
  s.checked c (c.shape 4 [(1, 3)] ++ [badIf (15 < y), (y ≠ c.session && !s.priv c, .notPermitted)]) fun s =>
    if y = c.session then (s.reply c .ok []).closeSession y 1
    else (s.closeSession y 1).reply c .ok []

/-- CRED_ENROLL. -/
def State.cmdCredEnroll (s : State) (c : Cmd) : State :=
  let i := c.byte 0
  s.checked c (c.shape 1988 [(2, 2)] ++ [badIf (7 < i || 1 < c.byte 1), (i = 0 || (s.th.creds.getD i none).isSome, .stateConflict)]) fun s =>
    let k : Cred := { privileged := c.byte 1 == 1, ed := Config.sha384 ((c.payload.drop 4).take 32), ml := Config.sha384 (c.payload.drop 36) }
    (s.modTh fun t => { t with creds := updAt t.creds i fun _ => some k }).reply c .ok []

/-- CRED_REVOKE: the credential's sessions close with cause 6. -/
def State.cmdCredRevoke (s : State) (c : Cmd) : State :=
  let i := c.byte 0
  s.checked c (c.shape 4 [(1, 3)] ++ [badIf (7 < i), (!s.worker && s.get (R.SESS_STAT_CRED c.session) = i, .notPermitted)]) fun s =>
    let s := s.modTh fun t => { t with creds := updAt t.creds i fun _ => none }
    let l := (List.range 16).filter fun x => !s.worker && s.sessState x ≠ sessClosed && s.get (R.SESS_STAT_CRED x) = i
    (forAll l (fun x s => s.closeSession x 6) s).reply c .ok []

end Sys2Proof.Machine
end

