-- ==== Sys2Proof/Machine/Commands.lean ====
section
/-! DEFINITION. The opcodes of the command reference: each one's meaning (R455 to R467), and the execution of a command by its opcode. -/

namespace Sys2Proof.Machine

/-- A command executes (R448, R449): its opcode's entry in the command reference. -/
def State.runOpcode (s : State) (c : Cmd) (x : Aux) : State :=
  match c.opcode with
  | 0x0F00 => s.cmdMuteAll c
  | 0x0F01 => s.cmdPaOff c
  | 0x0F02 => s.cmdChainMute c
  | 0x0100 => s.cmdPing c
  | 0x0101 => s.cmdIdent c
  | 0x0102 => s.cmdReset c
  | 0x0110 => s.cmdUnfreeze c
  | 0x0111 => s.cmdFreezeList c
  | 0x0200 => s.cmdCarrierClaim c
  | 0x0201 => s.cmdCarrierRelease c
  | 0x0202 => s.cmdCarrierConfig c
  | 0x0203 => s.cmdCarrierEnable c
  | 0x0204 => s.cmdCarrierUlFormat c
  | 0x0205 => s.cmdCarrierGain c
  | 0x0210 => s.cmdPrachConfig c
  | 0x0220 => s.cmdCarrierStatus c
  | 0x0300 => s.cmdLoMode c
  | 0x0301 => s.cmdTune c
  | 0x0302 => s.cmdArrayArm c
  | 0x0303 => s.cmdQloTrim c
  | 0x0310 => s.cmdChainSet c
  | 0x0311 => s.cmdOrxConfig c
  | 0x0312 => s.cmdCfrConfig c
  | 0x0313 => s.cmdCfrPulse c
  | 0x0400 => s.cmdBeamBlockClaim c
  | 0x0401 => s.cmdBeamBlockRelease c
  | 0x0402 => s.cmdWsetDeclare c
  | 0x0403 => s.cmdWsetWrite c
  | 0x0404 => s.cmdBeamWrite c
  | 0x0405 => s.cmdSteer c
  | 0x0406 => s.cmdBfShift c
  | 0x0407 => s.cmdBeamDefault c
  | 0x0408 => s.cmdGeomWrite c
  | 0x0500 => s.cmdPdConfig c
  | 0x0501 => s.cmdPdChain c x.ecc
  | 0x0502 => s.cmdPdBankWrite c
  | 0x0503 => s.cmdPdCommit c x.ecc
  | 0x0504 => s.cmdPdPost c
  | 0x0505 => s.cmdPdRollback c
  | 0x0506 => s.cmdPdStatus c
  | 0x0510 => s.cmdPdAdapt c
  | 0x0600 => s.cmdCalEnable c
  | 0x0601 => s.cmdCalConfig c
  | 0x0602 => s.cmdCalJob c
  | 0x0603 => s.cmdCalAbort c
  | 0x0604 => s.cmdCalReadCorr c
  | 0x0610 => s.cmdCalFactoryCommit c
  | 0x0700 => s.cmdSlotWrite c
  | 0x0701 => s.cmdSlotMu c
  | 0x0702 => s.cmdSlotCopy c
  | 0x0710 => s.cmdSlotCommit c
  | 0x0711 => s.cmdSlotCancel c
  | 0x0720 => s.cmdFrameConfig c
  | 0x0730 => s.cmdTimeSet c
  | 0x0731 => s.cmdTimeGet c
  | 0x0732 => s.cmdServoConfig c
  | 0x0733 => s.cmdTimeSelect c
  | 0x0734 => s.cmdPpsConfig c
  | 0x0800 => s.cmdStateSet c
  | 0x0801 => s.cmdStateGet c
  | 0x0810 => s.cmdThermConfig c
  | 0x0811 => s.cmdThermRead c
  | 0x0812 => s.cmdLarkRule c
  | 0x0900 => s.cmdRegRead c
  | 0x0901 => s.cmdRegWrite c
  | 0x0902 => s.cmdMemRead c x.ecc
  | 0x0903 => s.cmdMemWrite c x.ecc
  | 0x0904 => s.cmdSmemPartition c
  | 0x0910 => s.cmdBankRetire c
  | 0x0A00 => s.cmdFwStage c
  | 0x0A01 => s.cmdFwActivate c
  | 0x0A02 => s.cmdFwStatus c
  | 0x0A10 => s.cmdAttest c
  | 0x0A20 => s.cmdSessionOpen c
  | 0x0A21 => s.cmdSessionFinish c
  | 0x0A22 => s.cmdSessionClose c
  | 0x0A30 => s.cmdCredEnroll c
  | 0x0A31 => s.cmdCredRevoke c
  | 0x0B00 => s.cmdCascadeDiscover c x.links
  | 0x0B01 => s.cmdDaAssign c
  | 0x0B02 => s.cmdCascadeMap c
  | 0x0B03 => s.cmdTreePlan c
  | 0x0B04 => s.cmdTreeCommit c
  | 0x0B05 => s.cmdCascadeStatus c
  | 0x0B10 => s.cmdHgControl c
  | 0x0C00 => s.cmdCapture c
  | 0x0C01 => s.cmdCaptureAbort c
  | 0x0C02 => s.cmdPlayback c
  | 0x0C10 => s.cmdSelftest c x.evals x.cols
  | 0x0D00 => s.cmdKernelMode c
  | 0x0D01 => s.cmdKernelLoad c
  | 0x0D02 => s.cmdKernelStart c
  | 0x0D03 => s.cmdKernelHalt c
  | 0x0D04 => s.cmdKernelDoorbell c
  | 0x0D05 => s.cmdKernelStatus c
  | 0x0E00 => s.cmdEventSubscribe c
  | 0x0E01 => s.cmdLogRead c
  | 0x0E02 => s.cmdFaultRead c
  | _ => s.reply c .badOpcode []

/-! ### Meanings -/

/-- MUTE_ALL (0x0F00). -/
def execMuteAll (c : Cmd) (s : State) : Host.Outcome State Fault Refusal := .next (s.cmdMuteAll c)

/-- PA_OFF (0x0F01). -/
def execPaOff (c : Cmd) (s : State) : Host.Outcome State Fault Refusal := .next (s.cmdPaOff c)

/-- CHAIN_MUTE (0x0F02). -/
def execChainMute (c : Cmd) (s : State) : Host.Outcome State Fault Refusal := .next (s.cmdChainMute c)

/-- PING (0x0100). -/
def execPing (c : Cmd) (s : State) : Host.Outcome State Fault Refusal := .next (s.cmdPing c)

/-- IDENT (0x0101). -/
def execIdent (c : Cmd) (s : State) : Host.Outcome State Fault Refusal := .next (s.cmdIdent c)

/-- RESET (0x0102). -/
def execReset (c : Cmd) (s : State) : Host.Outcome State Fault Refusal := .next (s.cmdReset c)

/-- UNFREEZE (0x0110). -/
def execUnfreeze (c : Cmd) (s : State) : Host.Outcome State Fault Refusal := .next (s.cmdUnfreeze c)

/-- FREEZE_LIST (0x0111). -/
def execFreezeList (c : Cmd) (s : State) : Host.Outcome State Fault Refusal := .next (s.cmdFreezeList c)

/-- CARRIER_CLAIM (0x0200). -/
def execCarrierClaim (c : Cmd) (s : State) : Host.Outcome State Fault Refusal := .next (s.cmdCarrierClaim c)

/-- CARRIER_RELEASE (0x0201). -/
def execCarrierRelease (c : Cmd) (s : State) : Host.Outcome State Fault Refusal := .next (s.cmdCarrierRelease c)

/-- CARRIER_CONFIG (0x0202). -/
def execCarrierConfig (c : Cmd) (s : State) : Host.Outcome State Fault Refusal := .next (s.cmdCarrierConfig c)

/-- CARRIER_ENABLE (0x0203). -/
def execCarrierEnable (c : Cmd) (s : State) : Host.Outcome State Fault Refusal := .next (s.cmdCarrierEnable c)

/-- CARRIER_UL_FORMAT (0x0204). -/
def execCarrierUlFormat (c : Cmd) (s : State) : Host.Outcome State Fault Refusal := .next (s.cmdCarrierUlFormat c)

/-- CARRIER_GAIN (0x0205). -/
def execCarrierGain (c : Cmd) (s : State) : Host.Outcome State Fault Refusal := .next (s.cmdCarrierGain c)

/-- PRACH_CONFIG (0x0210). -/
def execPrachConfig (c : Cmd) (s : State) : Host.Outcome State Fault Refusal := .next (s.cmdPrachConfig c)

/-- CARRIER_STATUS (0x0220). -/
def execCarrierStatus (c : Cmd) (s : State) : Host.Outcome State Fault Refusal := .next (s.cmdCarrierStatus c)

/-- LO_MODE (0x0300). -/
def execLoMode (c : Cmd) (s : State) : Host.Outcome State Fault Refusal := .next (s.cmdLoMode c)

/-- TUNE (0x0301). -/
def execTune (c : Cmd) (s : State) : Host.Outcome State Fault Refusal := .next (s.cmdTune c)

/-- ARRAY_ARM (0x0302). -/
def execArrayArm (c : Cmd) (s : State) : Host.Outcome State Fault Refusal := .next (s.cmdArrayArm c)

/-- QLO_TRIM (0x0303). -/
def execQloTrim (c : Cmd) (s : State) : Host.Outcome State Fault Refusal := .next (s.cmdQloTrim c)

/-- CHAIN_SET (0x0310). -/
def execChainSet (c : Cmd) (s : State) : Host.Outcome State Fault Refusal := .next (s.cmdChainSet c)

/-- ORX_CONFIG (0x0311). -/
def execOrxConfig (c : Cmd) (s : State) : Host.Outcome State Fault Refusal := .next (s.cmdOrxConfig c)

/-- CFR_CONFIG (0x0312). -/
def execCfrConfig (c : Cmd) (s : State) : Host.Outcome State Fault Refusal := .next (s.cmdCfrConfig c)

/-- CFR_PULSE (0x0313). -/
def execCfrPulse (c : Cmd) (s : State) : Host.Outcome State Fault Refusal := .next (s.cmdCfrPulse c)

/-- BEAM_BLOCK_CLAIM (0x0400). -/
def execBeamBlockClaim (c : Cmd) (s : State) : Host.Outcome State Fault Refusal := .next (s.cmdBeamBlockClaim c)

/-- BEAM_BLOCK_RELEASE (0x0401). -/
def execBeamBlockRelease (c : Cmd) (s : State) : Host.Outcome State Fault Refusal := .next (s.cmdBeamBlockRelease c)

/-- WSET_DECLARE (0x0402). -/
def execWsetDeclare (c : Cmd) (s : State) : Host.Outcome State Fault Refusal := .next (s.cmdWsetDeclare c)

/-- WSET_WRITE (0x0403). -/
def execWsetWrite (c : Cmd) (s : State) : Host.Outcome State Fault Refusal := .next (s.cmdWsetWrite c)

/-- BEAM_WRITE (0x0404). -/
def execBeamWrite (c : Cmd) (s : State) : Host.Outcome State Fault Refusal := .next (s.cmdBeamWrite c)

/-- STEER (0x0405). -/
def execSteer (c : Cmd) (s : State) : Host.Outcome State Fault Refusal := .next (s.cmdSteer c)

/-- BF_SHIFT (0x0406). -/
def execBfShift (c : Cmd) (s : State) : Host.Outcome State Fault Refusal := .next (s.cmdBfShift c)

/-- BEAM_DEFAULT (0x0407). -/
def execBeamDefault (c : Cmd) (s : State) : Host.Outcome State Fault Refusal := .next (s.cmdBeamDefault c)

/-- GEOM_WRITE (0x0408). -/
def execGeomWrite (c : Cmd) (s : State) : Host.Outcome State Fault Refusal := .next (s.cmdGeomWrite c)

/-- PD_CONFIG (0x0500). -/
def execPdConfig (c : Cmd) (s : State) : Host.Outcome State Fault Refusal := .next (s.cmdPdConfig c)

/-- PD_CHAIN (0x0501). -/
def execPdChain (c : Cmd) (ecc : List (Nat × EccFinding)) (s : State) : Host.Outcome State Fault Refusal := .next (s.cmdPdChain c ecc)

/-- PD_BANK_WRITE (0x0502). -/
def execPdBankWrite (c : Cmd) (s : State) : Host.Outcome State Fault Refusal := .next (s.cmdPdBankWrite c)

/-- PD_COMMIT (0x0503). -/
def execPdCommit (c : Cmd) (ecc : List (Nat × EccFinding)) (s : State) : Host.Outcome State Fault Refusal := .next (s.cmdPdCommit c ecc)

/-- PD_POST (0x0504). -/
def execPdPost (c : Cmd) (s : State) : Host.Outcome State Fault Refusal := .next (s.cmdPdPost c)

/-- PD_ROLLBACK (0x0505). -/
def execPdRollback (c : Cmd) (s : State) : Host.Outcome State Fault Refusal := .next (s.cmdPdRollback c)

/-- PD_STATUS (0x0506). -/
def execPdStatus (c : Cmd) (s : State) : Host.Outcome State Fault Refusal := .next (s.cmdPdStatus c)

/-- PD_ADAPT (0x0510). -/
def execPdAdapt (c : Cmd) (s : State) : Host.Outcome State Fault Refusal := .next (s.cmdPdAdapt c)

/-- CAL_ENABLE (0x0600). -/
def execCalEnable (c : Cmd) (s : State) : Host.Outcome State Fault Refusal := .next (s.cmdCalEnable c)

/-- CAL_CONFIG (0x0601). -/
def execCalConfig (c : Cmd) (s : State) : Host.Outcome State Fault Refusal := .next (s.cmdCalConfig c)

/-- CAL_JOB (0x0602). -/
def execCalJob (c : Cmd) (s : State) : Host.Outcome State Fault Refusal := .next (s.cmdCalJob c)

/-- CAL_ABORT (0x0603). -/
def execCalAbort (c : Cmd) (s : State) : Host.Outcome State Fault Refusal := .next (s.cmdCalAbort c)

/-- CAL_READ_CORR (0x0604). -/
def execCalReadCorr (c : Cmd) (s : State) : Host.Outcome State Fault Refusal := .next (s.cmdCalReadCorr c)

/-- CAL_FACTORY_COMMIT (0x0610). -/
def execCalFactoryCommit (c : Cmd) (s : State) : Host.Outcome State Fault Refusal := .next (s.cmdCalFactoryCommit c)

/-- SLOT_WRITE (0x0700). -/
def execSlotWrite (c : Cmd) (s : State) : Host.Outcome State Fault Refusal := .next (s.cmdSlotWrite c)

/-- SLOT_MU (0x0701). -/
def execSlotMu (c : Cmd) (s : State) : Host.Outcome State Fault Refusal := .next (s.cmdSlotMu c)

/-- SLOT_COPY (0x0702). -/
def execSlotCopy (c : Cmd) (s : State) : Host.Outcome State Fault Refusal := .next (s.cmdSlotCopy c)

/-- SLOT_COMMIT (0x0710). -/
def execSlotCommit (c : Cmd) (s : State) : Host.Outcome State Fault Refusal := .next (s.cmdSlotCommit c)

/-- SLOT_CANCEL (0x0711). -/
def execSlotCancel (c : Cmd) (s : State) : Host.Outcome State Fault Refusal := .next (s.cmdSlotCancel c)

/-- FRAME_CONFIG (0x0720). -/
def execFrameConfig (c : Cmd) (s : State) : Host.Outcome State Fault Refusal := .next (s.cmdFrameConfig c)

/-- TIME_SET (0x0730). -/
def execTimeSet (c : Cmd) (s : State) : Host.Outcome State Fault Refusal := .next (s.cmdTimeSet c)

/-- TIME_GET (0x0731). -/
def execTimeGet (c : Cmd) (s : State) : Host.Outcome State Fault Refusal := .next (s.cmdTimeGet c)

/-- SERVO_CONFIG (0x0732). -/
def execServoConfig (c : Cmd) (s : State) : Host.Outcome State Fault Refusal := .next (s.cmdServoConfig c)

/-- TIME_SELECT (0x0733). -/
def execTimeSelect (c : Cmd) (s : State) : Host.Outcome State Fault Refusal := .next (s.cmdTimeSelect c)

/-- PPS_CONFIG (0x0734). -/
def execPpsConfig (c : Cmd) (s : State) : Host.Outcome State Fault Refusal := .next (s.cmdPpsConfig c)

/-- STATE_SET (0x0800). -/
def execStateSet (c : Cmd) (s : State) : Host.Outcome State Fault Refusal := .next (s.cmdStateSet c)

/-- STATE_GET (0x0801). -/
def execStateGet (c : Cmd) (s : State) : Host.Outcome State Fault Refusal := .next (s.cmdStateGet c)

/-- THERM_CONFIG (0x0810). -/
def execThermConfig (c : Cmd) (s : State) : Host.Outcome State Fault Refusal := .next (s.cmdThermConfig c)

/-- THERM_READ (0x0811). -/
def execThermRead (c : Cmd) (s : State) : Host.Outcome State Fault Refusal := .next (s.cmdThermRead c)

/-- LARK_RULE (0x0812). -/
def execLarkRule (c : Cmd) (s : State) : Host.Outcome State Fault Refusal := .next (s.cmdLarkRule c)

/-- REG_READ (0x0900). -/
def execRegRead (c : Cmd) (s : State) : Host.Outcome State Fault Refusal := .next (s.cmdRegRead c)

/-- REG_WRITE (0x0901). -/
def execRegWrite (c : Cmd) (s : State) : Host.Outcome State Fault Refusal := .next (s.cmdRegWrite c)

/-- MEM_READ (0x0902). -/
def execMemRead (c : Cmd) (ecc : List (Nat × EccFinding)) (s : State) : Host.Outcome State Fault Refusal := .next (s.cmdMemRead c ecc)

/-- MEM_WRITE (0x0903). -/
def execMemWrite (c : Cmd) (ecc : List (Nat × EccFinding)) (s : State) : Host.Outcome State Fault Refusal := .next (s.cmdMemWrite c ecc)

/-- SMEM_PARTITION (0x0904). -/
def execSmemPartition (c : Cmd) (s : State) : Host.Outcome State Fault Refusal := .next (s.cmdSmemPartition c)

/-- BANK_RETIRE (0x0910). -/
def execBankRetire (c : Cmd) (s : State) : Host.Outcome State Fault Refusal := .next (s.cmdBankRetire c)

/-- FW_STAGE (0x0A00). -/
def execFwStage (c : Cmd) (s : State) : Host.Outcome State Fault Refusal := .next (s.cmdFwStage c)

/-- FW_ACTIVATE (0x0A01). -/
def execFwActivate (c : Cmd) (s : State) : Host.Outcome State Fault Refusal := .next (s.cmdFwActivate c)

/-- FW_STATUS (0x0A02). -/
def execFwStatus (c : Cmd) (s : State) : Host.Outcome State Fault Refusal := .next (s.cmdFwStatus c)

/-- ATTEST (0x0A10). -/
def execAttest (c : Cmd) (s : State) : Host.Outcome State Fault Refusal := .next (s.cmdAttest c)

/-- SESSION_OPEN (0x0A20). -/
def execSessionOpen (c : Cmd) (s : State) : Host.Outcome State Fault Refusal := .next (s.cmdSessionOpen c)

/-- SESSION_FINISH (0x0A21). -/
def execSessionFinish (c : Cmd) (s : State) : Host.Outcome State Fault Refusal := .next (s.cmdSessionFinish c)

/-- SESSION_CLOSE (0x0A22). -/
def execSessionClose (c : Cmd) (s : State) : Host.Outcome State Fault Refusal := .next (s.cmdSessionClose c)

/-- CRED_ENROLL (0x0A30). -/
def execCredEnroll (c : Cmd) (s : State) : Host.Outcome State Fault Refusal := .next (s.cmdCredEnroll c)

/-- CRED_REVOKE (0x0A31). -/
def execCredRevoke (c : Cmd) (s : State) : Host.Outcome State Fault Refusal := .next (s.cmdCredRevoke c)

/-- CASCADE_DISCOVER (0x0B00). -/
def execCascadeDiscover (c : Cmd) (links : List LinkReport) (s : State) : Host.Outcome State Fault Refusal := .next (s.cmdCascadeDiscover c links)

/-- DA_ASSIGN (0x0B01). -/
def execDaAssign (c : Cmd) (s : State) : Host.Outcome State Fault Refusal := .next (s.cmdDaAssign c)

/-- CASCADE_MAP (0x0B02). -/
def execCascadeMap (c : Cmd) (s : State) : Host.Outcome State Fault Refusal := .next (s.cmdCascadeMap c)

/-- TREE_PLAN (0x0B03). -/
def execTreePlan (c : Cmd) (s : State) : Host.Outcome State Fault Refusal := .next (s.cmdTreePlan c)

/-- TREE_COMMIT (0x0B04). -/
def execTreeCommit (c : Cmd) (s : State) : Host.Outcome State Fault Refusal := .next (s.cmdTreeCommit c)

/-- CASCADE_STATUS (0x0B05). -/
def execCascadeStatus (c : Cmd) (s : State) : Host.Outcome State Fault Refusal := .next (s.cmdCascadeStatus c)

/-- HG_CONTROL (0x0B10). -/
def execHgControl (c : Cmd) (s : State) : Host.Outcome State Fault Refusal := .next (s.cmdHgControl c)

/-- CAPTURE (0x0C00). -/
def execCapture (c : Cmd) (s : State) : Host.Outcome State Fault Refusal := .next (s.cmdCapture c)

/-- CAPTURE_ABORT (0x0C01). -/
def execCaptureAbort (c : Cmd) (s : State) : Host.Outcome State Fault Refusal := .next (s.cmdCaptureAbort c)

/-- PLAYBACK (0x0C02). -/
def execPlayback (c : Cmd) (s : State) : Host.Outcome State Fault Refusal := .next (s.cmdPlayback c)

/-- SELFTEST (0x0C10). -/
def execSelftest (c : Cmd) (evals cols : Nat) (s : State) : Host.Outcome State Fault Refusal := .next (s.cmdSelftest c evals cols)

/-- KERNEL_MODE (0x0D00). -/
def execKernelMode (c : Cmd) (s : State) : Host.Outcome State Fault Refusal := .next (s.cmdKernelMode c)

/-- KERNEL_LOAD (0x0D01). -/
def execKernelLoad (c : Cmd) (s : State) : Host.Outcome State Fault Refusal := .next (s.cmdKernelLoad c)

/-- KERNEL_START (0x0D02). -/
def execKernelStart (c : Cmd) (s : State) : Host.Outcome State Fault Refusal := .next (s.cmdKernelStart c)

/-- KERNEL_HALT (0x0D03). -/
def execKernelHalt (c : Cmd) (s : State) : Host.Outcome State Fault Refusal := .next (s.cmdKernelHalt c)

/-- KERNEL_DOORBELL (0x0D04). -/
def execKernelDoorbell (c : Cmd) (s : State) : Host.Outcome State Fault Refusal := .next (s.cmdKernelDoorbell c)

/-- KERNEL_STATUS (0x0D05). -/
def execKernelStatus (c : Cmd) (s : State) : Host.Outcome State Fault Refusal := .next (s.cmdKernelStatus c)

/-- EVENT_SUBSCRIBE (0x0E00). -/
def execEventSubscribe (c : Cmd) (s : State) : Host.Outcome State Fault Refusal := .next (s.cmdEventSubscribe c)

/-- LOG_READ (0x0E01). -/
def execLogRead (c : Cmd) (s : State) : Host.Outcome State Fault Refusal := .next (s.cmdLogRead c)

/-- FAULT_READ (0x0E02). -/
def execFaultRead (c : Cmd) (s : State) : Host.Outcome State Fault Refusal := .next (s.cmdFaultRead c)

end Sys2Proof.Machine
end

