-- ==== Sys2Proof/Machine/Protocol.lean ====
section
/-! DEFINITION. The command front end: packets, their checks, queues, dispatch, the load monitor, and what waits for room (R437 to R454);
replies and events that pass through the cascade (R452). -/

namespace Sys2Proof.Machine

/-! ### Packets (R437, R438) -/

/-- The header of a packet and what follows it. -/
structure Header where
  version : Nat
  tagged : Bool
  noReply : Bool
  kind : Nat
  opcode : Nat
  tag : Nat
  session : Nat
  target : Nat
  len : Nat
  seq : Nat
  status : Nat
  hint : Nat
  body : List Byte
  mac : List Byte
deriving DecidableEq, Repr

/-- The fields of a packet's bytes. -/
def readHeader (b : List Byte) : Header :=
  let n (o k : Nat) : Nat := beNat ((b.drop o).take k)
  let len := n 7 2
  { version := n 0 1 / 16, tagged := bit (n 0 1) 3, noReply := bit (n 0 1) 2, kind := n 0 1 % 4, opcode := n 1 2, tag := n 3 2, session := n 5 1
    target := n 6 1, len := len, seq := n 9 4, status := n 13 2, hint := n 15 1, body := (b.drop 16).take len, mac := b.drop (16 + len) }

/-- A packet of `n` bytes that R438 drops, whatever its KIND. -/
def Header.bad (h : Header) (n : Nat) : Bool :=
  n < 16 || h.version ≠ 1 || h.kind == 3 || 8192 < h.len || n ≠ 16 + h.len + (if h.tagged then 8 else 0) || (15 < h.session && h.session < 0xFF)

/-- The command that a packet spells. -/
def Header.cmd (h : Header) (via : Via) (src now : Nat) : Cmd :=
  { via := via, session := h.session, opcode := h.opcode, tag := h.tag, seq := h.seq, noReply := h.noReply, target := h.target, acceptedAt := now
    src := src, payload := h.body }

/-- The end of a session whose highest SEQUENCE is 0xFFFFFFFF, after the reply to that command (R442). -/
def State.seqEnd (s : State) (c : Cmd) : State :=
  if c.via ≠ .cascade ∧ c.session < 16 ∧ c.seq = 0xFFFFFFFF ∧ (s.session c.session).seqHi = 0xFFFFFFFF then s.closeSession c.session 4 else s

/-! ### Orders 1 to 5 of R445 -/

/-- A packet on a transport that does not carry its session, or carries none (R440, R443). -/
def State.wrongPort (s : State) (c : Cmd) : Bool :=
  match c.via with
  | .cascade => false
  | v => (s.worker && (v == .host || c.session < 16))
    || (c.session < 16 && s.sessState c.session != sessClosed && s.sessVia c.session != v)

/-- The authentic tag of a command's packet (R439). -/
def State.tagOk (s : State) (c : Cmd) (h : Header) (b : List Byte) : Bool :=
  h.tagged && h.mac == Config.hmacTag (s.session c.session).kCmd (b.take (16 + h.len))

/-- Orders 2 to 5 of R445; a worker trusts the manager's orders 3 and 4 (R452). False: the command goes no further. -/
def State.authentic (s : State) (c : Cmd) (h : Header) (b : List Byte) : State × Bool :=
  let x := c.session
  if 15 < x then
    if h.tagged then ((s.count R.CMD_CNT0_AUTH_BAD).sendReply c .authFail 0 [] false, false) else (s, true)
  else if s.sessState x = sessClosed ∨ (s.sessState x = sessOpening ∧ (c.opcode ≠ 0x0A21 ∨ c.via = .cascade)) then
    (s.sendReply c .sessionClosed 0 [] false, false)
  else if c.via = .cascade then
    if s.sessState x = sessFrozen then (s.count R.CMD_CNT2_FROZEN_DROP, false) else (s, true)
  else if !s.tagOk c h b then ((s.sendReply c .authFail 0 [] false).tagFail x, false)
  else
    let s := s.modSession x fun y => { y with tagFails := 0 }
    if !(s.session x).seqOk c.seq then ((s.count R.CMD_CNT0_REPLAY).sendReply c .authFail 0 [] true, false)
    else
      let s := s.modSession x fun y => y.seqTake c.seq
      if s.sessState x = sessFrozen then (s.count R.CMD_CNT2_FROZEN_DROP, false) else (s, true)

/-! ### Orders 6 to 8 -/

/-- Whether an UNOWNED device executes an opcode of a session (R552). -/
def State.unownedOk (s : State) (c : Cmd) : Bool :=
  if s.owned then true
  else if s.worker then s.priv c && [0x0F00, 0x0F01, 0x0F02, 0x0100, 0x0101, 0x0A10, 0x0A00, 0x0A01].contains c.opcode
  else [0x0101, 0x0A10, 0x0A00, 0x0A01, 0x0A22].contains c.opcode

/-- Order 8 (R443, R455, R552): who may issue the opcode. -/
def State.permitted (s : State) (c : Cmd) (r : OpRow) : Bool :=
  if 15 < c.session then
    c.opcode == 0x0100 || c.opcode == 0x0101 || c.opcode == 0x0A20
      || (c.via == .spi && s.flag R.CMD_CFG_SPI_URGENT && (c.opcode == 0x0F00 || c.opcode == 0x0F01))
  else if c.opcode = 0x0A21 then s.sessState c.session == sessOpening
  else s.unownedOk c && (r.who != .priv || s.priv c)

/-! ### Order 9: admission (R446, R447) -/

/-- The entries that wait in a queue. -/
def State.waiting (s : State) (q : Nat) : List Cmd := if q = 1 then s.fe.q1 else if q = 2 then s.fe.q2 else if q = 3 then s.fe.q3 else s.fe.q0

/-- The entries held in a queue, waiting or executing. -/
def State.heldIn (s : State) (q : Nat) : List Cmd := s.waiting q ++ ((s.fe.running.filter fun r => r.queue == q).map (·.cmd))

/-- Depth of a queue, the occupancy above which it is BUSY, and the entries of one session at which it is BUSY (R446). -/
def admission (q : Nat) : Nat × Nat × Nat := if q = 1 then (64, 64, 32) else if q = 2 then (128, 96, 32) else if q = 3 then (48, 24, 12) else (16, 16, 17)

/-- The excess of R447, 0 when neither BUSY condition holds. -/
def State.excess (s : State) (c : Cmd) (q : Nat) : Nat :=
  let (_, lim, own) := admission q
  let mine := ((s.heldIn q).filter fun x => x.session == c.session).length
  max ((s.heldIn q).length - lim) (if c.session < 16 then mine - (own - 1) else 0)

/-- The retry hint of a BUSY reply, in ms (R447). -/
def State.hintOf (s : State) (q excess : Nat) : Nat := max 1 (min 255 (ceilDiv ((excess + 1) * s.get (R.CMD_LAT0_P50 (q - 1))) 1000))

/-- A command enters its queue. -/
def State.enqueue (s : State) (c : Cmd) (q : Nat) : State :=
  let f := s.fe
  let s := { s with fe := { f with
    q1 := if q = 1 then f.q1 ++ [c] else f.q1
    q2 := if q = 2 then f.q2 ++ [c] else f.q2
    q3 := if q = 3 then f.q3 ++ [c] else f.q3 } }
  let n := (s.heldIn q).length
  (s.modFe fun f => { f with occMax := updAt f.occMax q (max n) }).showHeldOf c

/-- A command of a session was accepted: its idle time starts again (R444). -/
def State.touch (s : State) (c : Cmd) : State := if c.session < 16 then s.modSession c.session fun y => { y with lastAt := c.acceptedAt } else s

/-- Order 9: an urgent opcode executes at once (R449), any other is queued or refused (R446). -/
def State.admitCmd (s : State) (c : Cmd) (q : Nat) : State :=
  if q = 0 then ((s.touch c).runOpcode c { ecc := [], evals := 0, cols := 0, links := [] }).seqEnd c
  else if (admission q).1 ≤ (s.heldIn q).length then ((s.count R.CMD_CNT1_QFULL).sendReply c .queueFull 0 [] true).seqEnd c
  else if 0 < s.excess c q then
    ((s.count R.CMD_CNT1_BUSY).sendReply c .busy (s.hintOf q (s.excess c q)) [] true).seqEnd c
  else (s.touch c).enqueue c q

/-! ### Through the cascade (R303, R304, R452) -/

/-- A packet goes down to the devices it is for; the manager remembers one of no session, whose reply has no other way back. -/
def State.passDown (s : State) (c : Cmd) (q : Nat) (ports : List Nat) (b : List Byte) : State :=
  let s := doIf (15 < c.session) (fun s => s.modFe fun f => { f with anon := f.anon ++ [c] }) s
  forAll (ports.filter fun p => !s.frozen (0x50 + p)) (fun p s => s.sendSide p (if q = 0 then 0 else 3) c.target s.ownDa b) s

/-- Orders 6 to 9 of R445, on the manager with forwarding (R452): a worker takes what its side frames bring it. -/
def State.commandAt (s : State) (c : Cmd) (b : List Byte) : State :=
  let fail (st : Status) (s : State) : State := (s.sendReply c st 0 [] true).seqEnd c
  let t := c.target
  let away : Bool := t ≠ 0xFF && t ≠ s.ownDa && c.via ≠ .cascade
  let route := if s.worker then none else (s.routeOf t).filter fun p => s.cmdPorts.contains p
  match opRow c.opcode with
  | none => fail .badOpcode s
  | some r =>
    if 63 < t ∧ t ≠ 0xFF then fail .badParam s
    else if away && route.isNone then fail .targetUnreachable s
    else if !s.permitted c r then fail .notPermitted s
    else if away then
      let p := route.getD 0
      if s.frozen (0x50 + p) then fail .targetFrozen s else (s.touch c).passDown c r.queue [p] b
    else (doIf (t == 0xFF && c.via ≠ .cascade && !s.worker) (fun s => s.passDown c r.queue s.cmdPorts b) s).admitCmd c r.queue

/-- Whether the boot ROM of host-port boot takes a packet (R572). -/
def State.romTakes (s : State) (c : Cmd) (h : Header) : Bool :=
  s.boot == .image && (s.th.mode == 1 || s.th.mode == 2) && c.via == .host && c.session == 0xFF && !h.tagged
    && (c.opcode == 0x0A40 || c.opcode == 0x0A41)

/-- HOST_COMMAND_PACKET (R438, R440, R445, R454): the bytes of a packet that arrive on a transport, on the host port from a source address in
a message of eCPRI type `ty`. In FALLOW nothing arrives. -/
def State.commandIn (s : State) (via : Via) (src ty : Nat) (b : List Byte) : State :=
  let h := readHeader b
  let c := h.cmd via src s.now
  if s.pwrState = 3 then s
  else if h.bad b.length || h.kind ≠ 0 || (via == .host && ty ≠ 0xC0) then s.count R.CMD_CNT2_MALFORMED
  else if s.boot ≠ .ready then
    if s.romTakes c h then (if c.opcode = 0x0A40 then s.bootLoad c else s.bootGo c) else s.count R.CMD_CNT2_MALFORMED
  else if s.wrongPort c then s.count R.CMD_CNT3_WRONG_PORT
  else if h.status ≠ 0 ∨ h.hint ≠ 0 then s.sendReply c .badLength 0 [] false
  else
    match s.authentic c h b with
    | (s, true) => s.commandAt c b
    | (s, false) => s

/-- A reply that a worker sent up arrives at the manager (R452): it is tagged with K_rsp and sent on its session's transport. -/
def State.relayReply (s : State) (b : List Byte) : State :=
  let h := readHeader b
  let p : Packet := { kind := 1, opcode := h.opcode, tag := h.tag, session := h.session, da := h.target, seq := h.seq, status := h.status
                      hint := h.hint, payload := h.body, mac := [], dest := 0 }
  let send (s : State) (c : Cmd) (p : Packet) : State := s.putReply c { p with dest := s.destOf c.via p.session c.src }
  if h.bad b.length ∨ h.kind ≠ 1 then s
  else if 15 < h.session then
    match s.fe.anon.find? fun c => c.opcode == h.opcode && c.tag == h.tag with
    | some c => send (s.modFe fun f => { f with anon := f.anon.filter (· ≠ c) }) c p
    | none => s
  else if s.sessState h.session = sessClosed then s
  else
    let c := h.cmd (s.sessVia h.session) 0 s.now
    (send s c (p.keyed (s.session h.session).kRsp)).seqEnd c

/-- An event that a worker sent up arrives at the manager (R452): the manager numbers and tags it; one of no session goes untagged to every
open session's host (R542). -/
def State.relayEvent (s : State) (b : List Byte) : State :=
  let h := readHeader b
  let p : Packet := { kind := 2, opcode := h.opcode, tag := h.tag, session := h.session, da := h.target, seq := 0, status := h.status
                      hint := 0, payload := h.body, mac := [], dest := 0 }
  if h.bad b.length ∨ h.kind ≠ 2 then s
  else if 15 < h.session then
    forAll ((List.range 16).filter fun x => s.sessState x == sessOpen && s.sessVia x == .host) (fun x s =>
      s.emit (.packet .host { p with dest := s.destOf .host x 0 })) s
  else if s.sessState h.session = sessOpen ∨ s.sessState h.session = sessFrozen then s.putEvent h.session p
  else s

/-! ### Dispatch (R448) -/

/-- The queue that the Dehan cluster takes its next command from, and the count of Q2 commands taken since the last of Q3. -/
def State.nextQueue (s : State) : Option (Nat × Nat) :=
  if s.fe.q1 ≠ [] then some (1, s.fe.q2Taken)
  else if s.fe.q2 ≠ [] ∧ s.fe.q3 ≠ [] then (if 4 ≤ s.fe.q2Taken then some (3, 0) else some (2, s.fe.q2Taken + 1))
  else if s.fe.q2 ≠ [] then some (2, s.fe.q2Taken)
  else if s.fe.q3 ≠ [] then some (3, s.fe.q2Taken)
  else none

/-- The head of a queue leaves it. -/
def State.dropHead (s : State) (q : Nat) : State :=
  s.modFe fun f => { f with
    q1 := if q = 1 then f.q1.tail else f.q1
    q2 := if q = 2 then f.q2.tail else f.q2
    q3 := if q = 3 then f.q3.tail else f.q3 }

/-- The cycle on which a queued command's age reaches AGE_MS. -/
def State.ageLimit (s : State) (c : Cmd) : Nat := c.acceptedAt + s.get R.CMD_AGE_AGE_MS * msCycles

/-- COMMAND_DISPATCH (R448): the next command is taken and executed; one too old completes with TIMEOUT. -/
def State.takeNext (s : State) (x : Aux) : State :=
  if s.fe.stopped ∨ s.boot ≠ .ready then s
  else
    match s.nextQueue with
    | none => s
    | some (q, k) =>
      match s.waiting q with
      | [] => s
      | c :: _ =>
        let s := ((s.dropHead q).modFe fun f => { f with q2Taken := k }).showHeldOf c
        (if s.ageLimit c ≤ s.now then s.reply c .timeout [] else s.runOpcode c x).seqEnd c

/-- QUEUE_AGE_TIMEOUT (R448): the head of a queue reaches AGE_MS. -/
def State.ageOut (s : State) (q : Nat) : State :=
  match (if q = 0 then [] else s.waiting q) with
  | [] => s
  | c :: _ => ((((s.advanceTo (s.ageLimit c)).dropHead q).showHeldOf c).reply c .timeout []).seqEnd c

/-! ### The load monitor (R453) -/

/-- Insert a number into a rising list. -/
def insertNum (n : Nat) : List Nat → List Nat
  | [] => [n]
  | a :: t => if n ≤ a then n :: a :: t else a :: insertNum n t

/-- A list in rising order. -/
def sortNums (l : List Nat) : List Nat := l.foldr insertNum []

/-- The value that `num / den` of a list do not exceed, by rank, saturating at 65,535; 0 for an empty list. -/
def percentile (l : List Nat) (num den : Nat) : Nat := min 65535 ((sortNums l).getD (ceilDiv (num * l.length) den - 1) 0)

/-- LOAD_MONITOR_PUBLISH (R453): each second. -/
def State.publishLoad (s : State) : State :=
  let s := s.tickTo 2 (s.nextMultiple secCycles)
  let s := forAll [1, 2, 3] (fun q s =>
    let l := s.fe.lat.getD (q - 1) []
    let s := (s.put (R.CMD_LAT0_P50 (q - 1)) (percentile l 1 2)).put (R.CMD_LAT0_P99 (q - 1)) (percentile l 99 100)
    (s.put (R.CMD_LAT1_P999 (q - 1)) (percentile l 999 1000)).put (R.CMD_LAT1_MAX (q - 1)) (percentile l 1 1)) s
  let s := forAll (List.range 4) (fun q s =>
    let n := (s.heldIn q).length
    (s.put (R.CMD_QOCC_MAX q) (max n (s.fe.occMax.getD q 0))).put (R.CMD_QOCC_NOW q) n) s
  let now := (List.range 4).map fun q => (s.heldIn q).length
  let s := s.modFe fun f => { f with lat := List.replicate 3 [], occMax := now }
  let p := s.get (R.CMD_LAT0_P99 0)
  doIf (s.flag R.CMD_CFG_LOAD_EVT && s.get R.CMD_CFG_LOAD_THR < p) (fun s => s.event (.cmdLoad p)) s

/-! ### Room (R440, R451) -/

/-- SPI_READ (R440): the oldest packet leaves the buffer; with none waiting the length is 0. -/
def State.spiRead (s : State) : State :=
  match s.fe.spiOut with
  | p :: t => (s.modFe fun f => { f with spiOut := t }).emit (.packet .spi p)
  | [] => s

/-- SPI_BUFFER_ROOM (R440): the oldest reply that waits in a session's reply slot (16 for no session) enters the buffer if it fits. -/
def State.spiFill (s : State) (x : Nat) : State :=
  match (if x < 16 then (s.session x).replies else s.fe.noSess) with
  | p :: t =>
    if !s.spiRoom p then s
    else if x < 16 then (s.modSession x fun y => { y with replies := t }).spiPut p
    else (s.modFe fun f => { f with noSess := t }).spiPut p
  | [] => s

/-- EVENT_QUEUE_ROOM (R451): the host port takes `n` packets from a session's event queue; EVENTS_LOST follows once there is room. -/
def State.eventRoom (s : State) (x n : Nat) : State :=
  let l := (s.session x).events
  let s := forAll (l.take n) (fun p s => s.emit (.packet .host p)) s
  let s := (s.modSession x fun y => { y with events := l.drop n }).showEvq x
  let lost := (s.session x).lost
  if lost = 0 ∨ 256 ≤ (l.drop n).length ∨ 15 < x then s
  else (s.modSession x fun y => { y with lost := 0 }).sendEvent x 0x0E80 0 0 (beBytes 4 lost)

/-! ### Meanings -/

/-- HOST_COMMAND_PACKET (R445). -/
def execHostCommandPacket (via : Via) (src : Nat) (bytes : List Byte) (s : State) : Host.Outcome State Fault Refusal :=
  .next (s.commandIn via src 0xC0 bytes)

/-- SPI_READ (R440). -/
def execSpiRead (s : State) : Host.Outcome State Fault Refusal := .next s.spiRead

/-- COMMAND_DISPATCH (R448). -/
def execCommandDispatch (x : Aux) (s : State) : Host.Outcome State Fault Refusal := .next (s.takeNext x)

/-- QUEUE_AGE_TIMEOUT (R448). -/
def execQueueAgeTimeout (q : Nat) (s : State) : Host.Outcome State Fault Refusal := .next (s.ageOut q)

/-- LOAD_MONITOR_PUBLISH (R453). -/
def execLoadMonitorPublish (s : State) : Host.Outcome State Fault Refusal := .next s.publishLoad

/-- EVENT_QUEUE_ROOM (R451). -/
def execEventQueueRoom (x n : Nat) (s : State) : Host.Outcome State Fault Refusal := .next (s.eventRoom x n)

/-- SPI_BUFFER_ROOM (R440). -/
def execSpiBufferRoom (x : Nat) (s : State) : Host.Outcome State Fault Refusal := .next (s.spiFill x)

/-- SLOT_CHECK_DONE (R200, R465): its reply may end a session's sequence. -/
def execSlotCheckDone (s : State) : Host.Outcome State Fault Refusal :=
  .next (match s.slot.job with
    | some c => if s.slot.answered then s.slotCheckDone else s.slotCheckDone.seqEnd c
    | none => s.slotCheckDone)

end Sys2Proof.Machine
end

