-- ==== Sys2Proof/Machine/Ports.lean ====
section
/-! DEFINITION. What arrives on the ports: side frames of the cascade (R302 to R308, R452) and frames of the host port (R311 to R322,
R340). -/

namespace Sys2Proof.Machine

/-! ### A worker's copy of the session table (R452) -/

/-- A worker takes what the manager sends of a session. A CLOSED copy discards the session's waiting commands and releases what it owns
(R355, R434, R444). -/
def State.takeCopy (y : SessCopy) (s : State) : State :=
  let x := y.session
  let was := s.sessState x
  let s := (s.put (R.SESS_STAT_ROLE x) y.role).setSess x y.state
  if y.state = sessClosed then
    if was = sessClosed then s
    else
      let keep (l : List Cmd) : List Cmd := l.filter fun c => c.session ≠ x
      let s := s.modFe fun f => { f with q0 := keep f.q0, q1 := keep f.q1, q2 := keep f.q2, q3 := keep f.q3 }
      let s := (s.modSession x fun _ => Session.empty).showHeld x
      (s.releaseAll x).breakStiles (0x40 + x)
  else
    let s := doIf (was == sessClosed || was == sessOpening) (fun s =>
      (s.modSession x fun z => { z with mask := if y.role = 1 then 0xFFFF else 0, lastAt := s.now }).agentWindow x (y.role == 1)) s
    let gone := allSlots.filter fun (d, cs) => s.slotOwner (dirIx d) cs == x && !y.slots.contains (dirIx d, cs)
    let s := forAll gone (fun (d, cs) s => s.put (R.CS_CFG_OWNER (dirIx d) cs) 0x1F) s
    let s := forAll ((List.range 16).filter fun b => s.beamOwner b == x && !y.blocks.contains b) (fun b s => s.setBlock b 0x1F) s
    let s := forAll y.slots (fun (z : Nat × Nat) s => s.put (R.CS_CFG_OWNER z.1 z.2) x) s
    forAll y.blocks (fun b s => s.setBlock b x) s

/-- The manager's session copies reach a worker: it passes them on, ahead of anything later, and takes them. -/
def State.takeTable (s : State) (l : List SessCopy) : State :=
  let s := forAll s.cmdPorts (fun p s => s.emit (.sessions p l)) s
  forAll (l.filter fun y => y.session < 16) State.takeCopy s

/-! ### Side frames -/

/-- A frame is discarded and counted in FWD_DROP (R303). -/
def State.fwdDrop (s : State) : State := s.count R.CASC_CNT1_FWD_DROP

/-- The DOWN ports by which a frame goes on (R303): the one that ROUTE names, or every one for DST 0xFF. -/
def State.onward (s : State) (dst : Nat) : List Nat :=
  if dst = 0xFF then s.cmdPorts
  else if dst = s.ownDa then []
  else match s.routeOf dst with
    | some p => if s.cmdPorts.contains p then [p] else []
    | none => []

/-- A frame goes on unchanged by ports whose agents are not frozen. -/
def State.passOn (s : State) (ports : List Nat) (kind dst src frag : Nat) (l : List Byte) : State :=
  forAll (ports.filter fun p => !s.frozen (0x50 + p)) (fun p s => s.emit (.side p kind dst src frag l)) s

/-- A part of a packet arrives (R302): the whole packet once its last part has come. -/
def State.assemble (s : State) (key frag : Nat) (l : List Byte) : State × Option (List Byte) :=
  let set (v : Option (List Byte)) : State := s.modCasc fun x => { x with
    parts := (match v with
      | some b => insertKey x.parts key b
      | none => eraseKey x.parts key)
    dropping := if frag ≤ 1 then x.dropping.filter (· ≠ key) else x.dropping }
  if frag = 0 then (set none, some l)
  else if frag = 1 then (set (some l), none)
  else if s.casc.dropping.contains key then (s, none)
  else
    match look s.casc.parts key with
    | some b => if frag = 2 then (set (some (b ++ l)), none) else (set none, some (b ++ l))
    | none => (s, none)

/-- A discovery frame (R271, R272): DA_ASSIGN to the link partner, addressed 0xFE; addressed to a worker by its DA, a DA_ASSIGN that it shall
send from a port of its own, or with no content a request for its partners, which it answers on port `p`. -/
def State.discFrame (s : State) (p dst src : Nat) (b : List Byte) : State :=
  let uid := beNat (b.take 8)
  let da := beNat ((b.drop 8).take 1)
  if dst = 0xFE then (if b.length = 12 then s.daReceive uid da else s)
  else if !s.worker || !s.flag R.CASC_STATUS_DA_VALID || dst ≠ s.ownDa then s
  else if b.length = 12 then s.sendAssign (beNat ((b.drop 9).take 1) % 4) uid da
  else forAll s.ownLinks (fun r s =>
    s.sendSide p 7 src s.ownDa (beBytes 1 r.port ++ beBytes 32 r.record ++ beBytes 1 r.rate ++ beBytes 1 r.txW ++ beBytes 1 r.rxW)) s

/-- A whole packet of a KIND is for this device (R302, R303). -/
def State.deliver (s : State) (p kind dst src : Nat) (b : List Byte) : State :=
  match kind with
  | 0 => s.commandIn .cascade 0 0xC0 b
  | 1 => s.sectForwarded b
  | 2 => s.timeFrame (beNat (b.take 6) * secUnits + beNat ((b.drop 6).take 4) * 65536 + beNat ((b.drop 10).take 2)) s.tm.parentGood
  | 3 => s.commandIn .cascade 0 0xC0 b
  | 4 => s.relayReply b
  | 5 => s.relayEvent b
  | 7 => s.discFrame p dst src b
  | _ => s

/-- Whether a KIND comes from the direction it is accepted from (R251, R299, R303): commands, records and time from an UP port that is TIMED,
replies and events from a DOWN port; a port without a role, or a spare one, carries only BOOT and DISC. -/
def State.sideWay (s : State) (p kind : Nat) : Bool :=
  let r := s.portRole p
  if kind = 4 ∨ kind = 5 then r == 2 else if kind < 4 then r == 1 && s.hgTimedNow p else true

/-- SIDE_FRAME_RECEIVE (R280, R302 to R304, R307, R452): a frame's header failed, or its CRC; or its bytes; `table` is what an internal frame of
the manager brings of its session table. It goes on before it is executed. A port carries side frames in UNTIMED, LATFIX and TIMED (R251). -/
def State.sideFrame (s : State) (p kind dst src frag : Nat) (l : List Byte) (hdrOk crcOk : Bool) (table : Option (List SessCopy)) : State :=
  let key := 16 * p + kind
  if !s.hgCarries p then s
  else if !hdrOk then s.count R.CASC_CNT1_HDR_BAD
  else if 7 < kind then s
  else if !crcOk then
    (s.count R.CASC_CNT1_SIDE_BAD).modCasc fun x => { x with parts := eraseKey x.parts key, dropping := key :: x.dropping.filter (· ≠ key) }
  else if s.frozen (0x50 + p) ∨ !s.sideWay p kind then s.fwdDrop
  else
    match table with
    | some t => if kind = 3 ∧ s.worker then s.takeTable t else s.fwdDrop
    | none =>
      if kind = 4 ∨ kind = 5 then
        if s.worker then s.passOn (s.upPort.toList) kind dst src frag l
        else match s.assemble key frag l with
          | (s, some b) => s.deliver p kind dst src b
          | (s, none) => s
      else
        let mine : Bool := dst = 0xFF || dst = s.ownDa || 5 < kind
        let far := if kind = 0 ∨ kind = 1 ∨ kind = 3 ∨ (kind = 7 ∧ dst < 64) then s.onward dst else []
        let s := s.passOn far kind dst src frag l
        if !mine then (if far = [] then s.fwdDrop else s)
        else match s.assemble key frag l with
          | (s, some b) => s.deliver p kind dst src b
          | (s, none) => s

/-! ### Frames of the host port -/

/-- The messages of a frame, one after another (R340): the type and content of each, none for one whose header is bad and for every
later one of the frame (`bad`: an earlier header was bad); a message whose size does not fit is the last that can be told apart. -/
def messages (bad : Bool) : Nat → List Byte → List (Option (Nat × List Byte))
  | 0, _ => []
  | k + 1, b =>
    let h := beNat (b.take 1)
    let size := at16 b 2
    if b.length < 4 + size then [none]
    else
      let bad : Bool := bad || h / 16 ≠ 1 || bits h 3 1 ≠ 0
      let rest := if bit h 0 then messages bad k (b.drop ((4 + size + 3) / 4 * 4)) else []
      (if bad then none else some (beNat ((b.drop 1).take 1), (b.drop 4).take size)) :: rest

/-- One eCPRI message (R340): `iq` is the source as the section plane judges it, `cmd` as the command front end does. -/
def State.message (iq cmd : Nat) (m : Option (Nat × List Byte)) (s : State) : State :=
  match m with
  | none => s.badHdr
  | some (ty, b) =>
    if ty = 0 then s.iqMessage iq b
    else if ty = 2 then s.sectMessage iq b
    else if ty = 0xC0 ∨ ty = 0xC1 ∨ ty = 0xC2 then s.commandIn .host cmd ty b
    else s.badHdr

/-- The device time at which a frame that arrives now on port `e` crossed the connector (R321). -/
def State.rxStamp (s : State) (e : Nat) : Nat := ((s.time : Int) + s.getS (R.TS_ADJ_RX e) * 256).toNat

/-- HP_FRAME_RECEIVE (R311 to R315, R321, R322, R340): a frame on a port; `corr` and `uncorr` are the codewords corrected and
found uncorrectable since the frame before, `bad` says that an uncorrectable one touched it, `res` and `room` are the residence time (2^−16 ns) and the room it finds if it is forwarded. -/
def State.hpFrame (s : State) (e : Nat) (l : List Byte) (corr uncorr : Nat) (bad : Bool) (res : Int) (room : Bool) : State :=
  if !s.portUp e ∨ s.pwrState = 3 then s
  else
  let s := (s.countBy (R.FEC_CORR_FEC_CORR e) corr).countBy (R.FEC_UNCORR_FEC_UNCORR e) uncorr
  if s.flag R.HP_CTRL_HP1_EN ∧ s.fbit R.HP_CTRL_PMAP e then (if bad then (s.count (R.RX_FRAMES_RX_FRAMES e)).rxDrop e else s.hp1Forward l res room)
  else
    let s := s.count (R.RX_FRAMES_RX_FRAMES e)
    if bad then s.rxDrop e
    else
      match s.classify l with
      | .rxDrop => s.rxDrop e
      | .notLocal => s.count R.HP_FWD_CNT_NOT_LOCAL
      | .toHp1 => s.forward l res room true
      | .esmc => s.emit (.firmware e (s.rxStamp e) l)
      | .ptp =>
        let s := s.emit (.firmware e (s.rxStamp e) l)
        doIf (s.flag R.HP_CTRL_HP1_EN && s.flag R.HP_CTRL_TC_EN) (fun s => s.forward l res room true) s
      | .ecpri src b =>
        let mac := beNat ((l.drop 6).take 6)
        let cmd := mac * 2 ^ 128 + (if s.get R.HP_CTRL_XPORT = 0 then 0 else src)
        if s.worker then s else forAll (messages false l.length b) (State.message src cmd) s

/-! ### Meanings -/

/-- SIDE_FRAME_RECEIVE (R303). -/
def execSideFrameReceive (port kind dst src frag : Nat) (bytes : List Byte) (hdrOk crcOk : Bool) (table : Option (List SessCopy)) (s : State) :
    Host.Outcome State Fault Refusal := .next (s.sideFrame port kind dst src frag bytes hdrOk crcOk table)

/-- HP_FRAME_RECEIVE (R314). -/
def execHpFrameReceive (e : Nat) (frame : List Byte) (corr uncorr : Nat) (bad : Bool) (res : Int) (room : Bool) (s : State) : Host.Outcome State Fault Refusal :=
  .next (s.hpFrame e frame corr uncorr bad res room)

end Sys2Proof.Machine
end

