-- ==== Sys2Proof/Machine/Boundary.lean ====
section
/-! DEFINITION. Symbol and frame boundaries (R183, R186): what a symbol that ended brought, what applies with the symbol that begins, and what
each block does at a frame boundary; and the idle cycle. -/

namespace Sys2Proof.Machine

/-- The symbol in air of a slot. -/
def State.openSym (s : State) (d : Dir) (cs : Nat) : Option OpenSym := s.bound.syms.getD (8 * dirIx d + cs) none

/-- The next symbol boundary of a slot: at or after now, and after the last one it had. -/
def State.slotBoundary (s : State) (d : Dir) (cs : Nat) : Nat × Nat × Nat :=
  let c := match s.openSym d cs with
    | some o => if o.start = s.now then s.now else s.now - 1
    | none => s.now - 1
  s.nextSymbol d (s.slotMu d cs) c

/-! ### The end of a symbol -/

/-- A downlink symbol of a slot ends: the saturated samples of its chains are judged (R165). -/
def State.endDl (s : State) (cs : Nat) (o : OpenSym) : State := forAll ((quadsOf o.act).flatMap chainsOf) (fun ch s => s.pdDiverge cs ch) s

/-- An uplink symbol of a slot ends: RX_LO_INVALID of the quadrants that lacked LO_READY in it (R112), and the grid (R82, R83). -/
def State.endUl (s : State) (cs : Nat) (o : OpenSym) : State :=
  let s := forAll (quadsOf o.act) (fun q s =>
    doIf (((s.lo.rxBad.getD q 0).testBit cs || !s.fbit R.LO_STATUS_LO_READY q) && s.radioOn && !s.quadGated q)
      (fun s => s.rxInvalid q o.frame) s) s
  forAll ((quadsOf o.grid).flatMap chainsOf) (fun ch s => s.judgeSymbol ch (o.act.testBit (quadOf ch)) o.frame) s

/-! ### The beginning of a symbol -/

/-- Whether cycle `b` is a new apply instant of a direction on a quadrant (R63): boundaries of several slots on one cycle are one instant. -/
def State.newInstant (s : State) (d : Dir) (q b : Nat) : Bool := s.bound.applied.getD (4 * dirIx d + q) none != some b

/-- An apply instant of the transmit direction on a quadrant (R63, R74, R93, R136, R160). -/
def State.instantTx (b q : Nat) (s : State) : State :=
  if s.newInstant .dl q b then
    let s := ((s.applyCfr q).trimOnce b q).modBound fun x => { x with applied := updAt x.applied q fun _ => some b }
    forAll (chainsOf q) (fun ch s => (s.applyTx ch).pdBoundary ch) s
  else s

/-- An apply instant of the receive direction on a quadrant (R63, R74, R80, R93). R93 names no direction for the phase trim, which serves both: an
instant of either moves it, once a cycle (DESIGN CHOICE, assumption log entry 15). -/
def State.instantRx (b q : Nat) (s : State) : State :=
  if s.newInstant .ul q b then
    let s := (s.trimOnce b q).modBound fun x => { x with applied := updAt x.applied (4 + q) fun _ => some b }
    forAll (chainsOf q) State.applyRx s
  else s

/-- At the start of a quiet or guard symbol a waiting offset table is loaded and the refresh acts (R68, R71). -/
def State.quietStart (dir : SymDir) (q : Nat) (s : State) : State :=
  if dir == .quiet || dir == .guard then forAll (chainsOf q) (fun ch s => (s.loadDcoTable true ch).trimRefresh ch) s else s

/-- The chains of a slot whose uplink samples are zero in the symbol that begins: muted, protected, or not yet joined (R80, R83, R76). Samples of
a quadrant without LO_READY or with a held crossing are zeroed one by one (R39, R112). -/
def State.ulZeroed (s : State) (cs : Nat) : Nat :=
  ((quadsOf (s.slotQ .ul cs)).flatMap chainsOf).foldl (fun m ch =>
    let x := s.chain ch
    if x.rxMuted || x.protSlots.testBit cs || !x.rxJoined then m + 2 ^ ch else m) 0

/-- A mask of quadrants. -/
def quadMask (l : List Nat) : Nat := l.foldl (fun m q => m + 2 ^ q) 0

/-- A downlink symbol of a slot begins on cycle `b`: its carrier samples are formed. -/
def State.beginDl (s : State) (cs k n b : Nat) : State :=
  let qs := quadsOf (s.slotQ .dl cs)
  let s := ((s.endFailHold qs).applySlot .dl cs).addWave cs k n b
  let s := forAll qs (State.instantTx b) s
  let s := forAll (qs.flatMap chainsOf) (State.endZero b) s
  let dir (q : Nat) : SymDir := s.symDir .dl cs n q b
  let first := qs.filter fun q => (s.activeOn .dl q).head? == some cs
  let s := forAll first (fun q s => doIf (s.activeOn .ul q).isEmpty (State.quietStart (dir q) q) s) s
  let s := forAll (qs.filter fun q => dir q == .dl) (fun q s =>
    doIf (!s.fbit R.LO_STATUS_LO_READY q && s.radioOn && !s.quadGated q) (fun s => s.txLate q k) s) s
  let pb := (quadsOf s.pbQuads).filter first.contains
  let s := if pb = [] then s else s.pbBoundary b (quadMask (pb.filter fun q => dir q == .dl)) (symLen (s.slotMu .dl cs) n)
  let o : OpenSym :=
    { frame := k, sym := n, start := b, fin := b + symLen (s.slotMu .dl cs) n, act := quadMask (qs.filter fun q => dir q == .dl),
      grid := quadMask qs }
  s.modBound fun x => { x with syms := updAt x.syms cs fun _ => some o }

/-- What symbol `n` of frame `k` of an uplink slot, which begins on cycle `b`, is processed with; `act` the quadrants where it is UL. -/
def State.makeUlSym (s : State) (cs k n b act : Nat) : UlSym :=
  { cs := cs, frame := k, sym := n, start := b, fin := b + symLen (s.slotMu .ul cs) n, mu := s.slotMu .ul cs, log2n := s.get (R.CS_CFG_LOG2N 1 cs),
    rb := s.slotRB .ul cs, shift := s.wget (R.CS_FFT_SHIFT 1 cs), adv := s.wget (R.CS_FFT_WIN_ADV 1 cs), theta := s.phcAngle .ul cs n b,
    dg := (s.wrk (R.CS_RX_DG cs)).toNat, act := act, zero := s.ulZeroed cs, own := s.slotOwner 1 cs, slip := 0, mac := s.macShift .ul cs,
    fmt := (s.wrk (R.CS_UL_FMT cs)).toNat, bins := none }

/-- An uplink symbol of a slot begins on cycle `b`. -/
def State.beginUl (s : State) (cs k n b : Nat) : State :=
  let qs := quadsOf (s.slotQ .ul cs)
  let s := (s.endFailHold qs).applySlot .ul cs
  let s := forAll qs (State.instantRx b) s
  let s := forAll (qs.flatMap chainsOf) (fun ch s =>
    s.modChain ch fun x => { x with protSlots := setBit x.protSlots cs (s.flag (R.CH_STATUS_RX_PROTECTED ch)) }) s
  let dir (q : Nat) : SymDir := s.symDir .ul cs n q b
  let grid := qs.filter fun q => s.gridSlot q == some cs
  let s := forAll grid (fun q s => s.quietStart (dir q) q) s
  let s := forAll (grid.flatMap chainsOf) (fun ch s => s.modChain ch fun x => { x with clips := 0 }) s
  let s := s.modLo fun x => { x with rxBad := qs.foldl (fun l q => updAt l q fun m => setBit m cs (!s.fbit R.LO_STATUS_LO_READY q)) x.rxBad }
  let act := if s.radioOn then quadMask (qs.filter fun q => dir q == .ul) else 0
  let s := s.putUlSym (s.makeUlSym cs k n b act)
  let o : OpenSym := { frame := k, sym := n, start := b, fin := b + symLen (s.slotMu .ul cs) n, act := act, grid := quadMask grid }
  s.modBound fun x => { x with syms := updAt x.syms (8 + cs) fun _ => some o }

/-! ### SYMBOL_BOUNDARY -/

/-- The symbol of a slot in air that ends on cycle `b` ends. -/
def State.endSymbol (s : State) (d : Dir) (cs b : Nat) : State :=
  match s.openSym d cs with
  | some o =>
    let s := s.modBound fun x => { x with syms := updAt x.syms (8 * dirIx d + cs) fun _ => none }
    if o.fin = b then
      match d with
      | .dl => s.endDl cs o
      | .ul => s.endUl cs o
    else s
  | none => s

/-- The streams have come to cycle `b`: the converter samples are taken (R54), and the downlink's have left (R53). -/
def State.streamsTo (s : State) (b : Nat) (l : List ChainSamples) : State := ((s.advanceTo b).rxTake b l).txAdvance b

/-- SYMBOL_BOUNDARY (R186): the next symbol boundary of a slot in force, or the end of the last symbol of one that stopped (R180). `l` is what
the converters brought since the samples last brought, `ecc` what checks of predistorter coefficients find from now on (R158). -/
def State.symbolBoundary (s : State) (d : Dir) (cs : Nat) (l : List ChainSamples) (ecc : PdEcc) : State :=
  if s.active d cs then
    let (b, k, n) := s.slotBoundary d cs
    let s := ((s.streamsTo b l).endSymbol d cs b).pdErrors ecc
    match d with
    | .dl => (s.beginDl cs k n b).calWatch
    | .ul => (s.beginUl cs k n b).calWatch
  else
    match s.openSym d cs with
    | some o => if s.now ≤ o.fin then ((s.streamsTo o.fin l).endSymbol d cs o.fin).calWatch else s.endSymbol d cs s.now
    | none => s

/-! ### FRAME_BOUNDARY -/

/-- The slots whose release is due and that have stopped lose their owner (R355). -/
def State.releaseDue (d : Dir) (s : State) : State :=
  let due := fun (j : EnJob) => j.d == dirIx d && j.release && !s.slotEn d j.cs && !s.active d j.cs
  let l := s.enJobs.filter due
  let s := { s with enJobs := s.enJobs.filter fun j => !due j }
  forAll l (fun j s =>
    let x := s.slotOwner j.d j.cs
    let s := s.put (R.CS_CFG_OWNER j.d j.cs) 0x1F
    (if x < 16 then s.tellSession x else s).completeJob j.cmd .ok []) s

/-- EN of a direction's slots takes effect (R180, R355, R364); what was shadowed for a slot that stops applies. -/
def State.enableFrame (d : Dir) (s : State) : State :=
  let was := slots.filter fun cs => s.active d cs
  let busy := (List.range 4).filter fun q => !(s.activeOn d q).isEmpty
  let s := ((s.enApply d).enDone d).releaseDue d
  let stopped := was.filter fun cs => !s.active d cs
  let s := forAll stopped (State.applySlot d) s
  let s := forAll (busy.filter fun q => (s.activeOn d q).isEmpty) (fun q s => (State.stopQuad d q s).refreshReady) s
  match d with
  | .dl => forAll stopped (fun cs s => s.clearRing cs) s
  | .ul => s

/-- A COMMIT that SLOT_COMMIT's AT_EN held for this frame is written (R465). -/
def State.commitIn (s : State) (k : Nat) : State :=
  match s.slot.inFrame, s.slot.job with
  | some f, some j =>
    if f ≤ (k : Int) then
      if s.flag R.SLOT_STATUS_COMMIT_PEND || s.flag R.SLOT_STATUS_CHECK_BUSY then
        (s.modSlot fun x => { x with job := none, answered := false, inFrame := none }).complete j .stateConflict []
      else (s.modSlot fun x => { x with inFrame := none }).slotCommit
    else s
  | _, _ => s

/-- The frame averages of the sensors are taken and begin again (R167, R396). -/
def State.tempFrame (s : State) : State :=
  let s := forAll (List.range 4) (fun q s =>
    let (num, den) := s.frameAverage (s.get (R.PD_TSEL_SENSOR q))
    s.bandEval q num den) s
  s.calFrame.modPw fun x => { x with acc := x.acc.map fun _ => (0, 0) }

/-- A downlink frame boundary of frame `k`. -/
def State.dlFrame (s : State) (k : Nat) : State :=
  let s := s.txAdvance s.now
  let s := ((s.publishCe.slotSwap (k % 1024)).convFrame.gatingApply).applyProfiles
  let s := (State.enableFrame .dl s.cascFrame).commitIn k
  s.tempFrame.advanceTry.armTimeout

/-- On a quadrant with no slot in force the quiet and guard symbols of R68 and R71 are looked for at uplink frame boundaries only (DESIGN CHOICE, log 58). -/
def State.idleQuiet (q : Nat) (s : State) : State :=
  if (s.activeOn .ul q).isEmpty && (s.activeOn .dl q).isEmpty then
    let b := s.bankAt .ul s.now
    s.quietStart (s.symDirIn b (s.get (R.SLOT_MU_TBL_MU b)) 0 q) q
  else s

/-- An uplink frame boundary: slots, the shadows of the uplink messages and of the PRACH engines (R180, R195). -/
def State.ulFrame (s : State) : State :=
  let s := s.pruneSig.enableFrame .ul
  let s := forAll slots State.applyUlFmt s
  forAll (List.range 4) State.idleQuiet (forAll (List.range 4) State.applyPrach s)

/-- FRAME_BOUNDARY (R183, R184): the next frame boundary of a timeline, at or after now and after the last one it had. -/
def State.frameBoundary (s : State) (d : Dir) : State :=
  let last := s.bound.frameAt.getD (dirIx d) none
  let (b, k) := s.nextFrame d (if last == some s.now then s.now else s.now - 1)
  let s := (s.advanceTo b).modBound fun x => { x with frameAt := updAt x.frameAt (dirIx d) fun _ => some b }
  match d with
  | .dl => s.dlFrame k
  | .ul => s.ulFrame

/-- The device reset of a RESET command begins 1 ms after its reply (R462). -/
def State.resetTimeout (s : State) : State :=
  match s.th.resetAt with
  | some t => if t ≤ s.now then s.deviceReset.startRom else s
  | none => s

/-- One SI cycle passes with no command (DESIGN CHOICE): the waits that no row of the table ends, end here. -/
def State.idle (s : State) : State := ({ s with now := s.now + 1 }).armTimeout.resetTimeout

/-! ### Meanings -/

/-- SYMBOL_BOUNDARY (R186). -/
def execSymbolBoundary (d : Dir) (cs : Nat) (l : List ChainSamples) (ecc : List (Nat × EccFinding)) (s : State) :
    Host.Outcome State Fault Refusal := .next (s.symbolBoundary d cs l ecc)

/-- FRAME_BOUNDARY (R183). -/
def execFrameBoundary (d : Dir) (s : State) : Host.Outcome State Fault Refusal := .next (s.frameBoundary d)

end Sys2Proof.Machine
end

