-- ==== Sys2Proof/Machine/Meanings.lean ====
section
/-! DEFINITION. Gathers the files of meanings that Dispatch calls. -/
end

