-- ==== Sys2Proof/Machine/Dispatch.lean ====
section
/-! DEFINITION. Dispatch: each command's one meaning. -/

namespace Sys2Proof.Machine

/-- What a command does to everything but the queue of waiting commands. -/
def exec (i : Instr) (s : State) : Host.Outcome State Fault Refusal :=
  match i with
  | .hostCommandPacket via src bytes => Sys2Proof.Machine.execHostCommandPacket via src bytes s
  | .spiRead => Sys2Proof.Machine.execSpiRead s
  | .commandDispatch x => Sys2Proof.Machine.execCommandDispatch x s
  | .queueAgeTimeout q => Sys2Proof.Machine.execQueueAgeTimeout q s
  | .loadMonitorPublish => Sys2Proof.Machine.execLoadMonitorPublish s
  | .eventQueueRoom x n => Sys2Proof.Machine.execEventQueueRoom x n s
  | .spiBufferRoom x => Sys2Proof.Machine.execSpiBufferRoom x s
  | .sessionOpeningTimeout x => Sys2Proof.Machine.execSessionOpeningTimeout x s
  | .sessionIdleTimeout x => Sys2Proof.Machine.execSessionIdleTimeout x s
  | .muteAll c => Sys2Proof.Machine.execMuteAll c s
  | .paOff c => Sys2Proof.Machine.execPaOff c s
  | .chainMute c => Sys2Proof.Machine.execChainMute c s
  | .tune c => Sys2Proof.Machine.execTune c s
  | .stateSet c => Sys2Proof.Machine.execStateSet c s
  | .ping c => Sys2Proof.Machine.execPing c s
  | .ident c => Sys2Proof.Machine.execIdent c s
  | .reset c => Sys2Proof.Machine.execReset c s
  | .unfreeze c => Sys2Proof.Machine.execUnfreeze c s
  | .freezeList c => Sys2Proof.Machine.execFreezeList c s
  | .carrierClaim c => Sys2Proof.Machine.execCarrierClaim c s
  | .carrierRelease c => Sys2Proof.Machine.execCarrierRelease c s
  | .carrierConfig c => Sys2Proof.Machine.execCarrierConfig c s
  | .carrierEnable c => Sys2Proof.Machine.execCarrierEnable c s
  | .carrierUlFormat c => Sys2Proof.Machine.execCarrierUlFormat c s
  | .carrierGain c => Sys2Proof.Machine.execCarrierGain c s
  | .prachConfig c => Sys2Proof.Machine.execPrachConfig c s
  | .carrierStatus c => Sys2Proof.Machine.execCarrierStatus c s
  | .loMode c => Sys2Proof.Machine.execLoMode c s
  | .arrayArm c => Sys2Proof.Machine.execArrayArm c s
  | .qloTrim c => Sys2Proof.Machine.execQloTrim c s
  | .chainSet c => Sys2Proof.Machine.execChainSet c s
  | .orxConfig c => Sys2Proof.Machine.execOrxConfig c s
  | .cfrConfig c => Sys2Proof.Machine.execCfrConfig c s
  | .cfrPulse c => Sys2Proof.Machine.execCfrPulse c s
  | .beamBlockClaim c => Sys2Proof.Machine.execBeamBlockClaim c s
  | .beamBlockRelease c => Sys2Proof.Machine.execBeamBlockRelease c s
  | .wsetDeclare c => Sys2Proof.Machine.execWsetDeclare c s
  | .wsetWrite c => Sys2Proof.Machine.execWsetWrite c s
  | .beamWrite c => Sys2Proof.Machine.execBeamWrite c s
  | .steer c => Sys2Proof.Machine.execSteer c s
  | .bfShift c => Sys2Proof.Machine.execBfShift c s
  | .beamDefault c => Sys2Proof.Machine.execBeamDefault c s
  | .geomWrite c => Sys2Proof.Machine.execGeomWrite c s
  | .pdConfig c => Sys2Proof.Machine.execPdConfig c s
  | .pdChain c ecc => Sys2Proof.Machine.execPdChain c ecc s
  | .pdBankWrite c => Sys2Proof.Machine.execPdBankWrite c s
  | .pdCommit c ecc => Sys2Proof.Machine.execPdCommit c ecc s
  | .pdPost c => Sys2Proof.Machine.execPdPost c s
  | .pdRollback c => Sys2Proof.Machine.execPdRollback c s
  | .pdStatus c => Sys2Proof.Machine.execPdStatus c s
  | .pdAdapt c => Sys2Proof.Machine.execPdAdapt c s
  | .calEnable c => Sys2Proof.Machine.execCalEnable c s
  | .calConfig c => Sys2Proof.Machine.execCalConfig c s
  | .calJob c => Sys2Proof.Machine.execCalJob c s
  | .calAbort c => Sys2Proof.Machine.execCalAbort c s
  | .calReadCorr c => Sys2Proof.Machine.execCalReadCorr c s
  | .calFactoryCommit c => Sys2Proof.Machine.execCalFactoryCommit c s
  | .slotWrite c => Sys2Proof.Machine.execSlotWrite c s
  | .slotMu c => Sys2Proof.Machine.execSlotMu c s
  | .slotCopy c => Sys2Proof.Machine.execSlotCopy c s
  | .slotCommit c => Sys2Proof.Machine.execSlotCommit c s
  | .slotCancel c => Sys2Proof.Machine.execSlotCancel c s
  | .frameConfig c => Sys2Proof.Machine.execFrameConfig c s
  | .timeSet c => Sys2Proof.Machine.execTimeSet c s
  | .timeGet c => Sys2Proof.Machine.execTimeGet c s
  | .servoConfig c => Sys2Proof.Machine.execServoConfig c s
  | .timeSelect c => Sys2Proof.Machine.execTimeSelect c s
  | .ppsConfig c => Sys2Proof.Machine.execPpsConfig c s
  | .stateGet c => Sys2Proof.Machine.execStateGet c s
  | .thermConfig c => Sys2Proof.Machine.execThermConfig c s
  | .thermRead c => Sys2Proof.Machine.execThermRead c s
  | .larkRule c => Sys2Proof.Machine.execLarkRule c s
  | .regRead c => Sys2Proof.Machine.execRegRead c s
  | .regWrite c => Sys2Proof.Machine.execRegWrite c s
  | .memRead c ecc => Sys2Proof.Machine.execMemRead c ecc s
  | .memWrite c ecc => Sys2Proof.Machine.execMemWrite c ecc s
  | .smemPartition c => Sys2Proof.Machine.execSmemPartition c s
  | .bankRetire c => Sys2Proof.Machine.execBankRetire c s
  | .fwStage c => Sys2Proof.Machine.execFwStage c s
  | .fwActivate c => Sys2Proof.Machine.execFwActivate c s
  | .fwStatus c => Sys2Proof.Machine.execFwStatus c s
  | .attest c => Sys2Proof.Machine.execAttest c s
  | .sessionOpen c => Sys2Proof.Machine.execSessionOpen c s
  | .sessionFinish c => Sys2Proof.Machine.execSessionFinish c s
  | .sessionClose c => Sys2Proof.Machine.execSessionClose c s
  | .credEnroll c => Sys2Proof.Machine.execCredEnroll c s
  | .credRevoke c => Sys2Proof.Machine.execCredRevoke c s
  | .cascadeDiscover c links => Sys2Proof.Machine.execCascadeDiscover c links s
  | .daAssign c => Sys2Proof.Machine.execDaAssign c s
  | .cascadeMap c => Sys2Proof.Machine.execCascadeMap c s
  | .treePlan c => Sys2Proof.Machine.execTreePlan c s
  | .treeCommit c => Sys2Proof.Machine.execTreeCommit c s
  | .cascadeStatus c => Sys2Proof.Machine.execCascadeStatus c s
  | .hgControl c => Sys2Proof.Machine.execHgControl c s
  | .capture c => Sys2Proof.Machine.execCapture c s
  | .captureAbort c => Sys2Proof.Machine.execCaptureAbort c s
  | .playback c => Sys2Proof.Machine.execPlayback c s
  | .selftest c evals cols => Sys2Proof.Machine.execSelftest c evals cols s
  | .kernelMode c => Sys2Proof.Machine.execKernelMode c s
  | .kernelLoad c => Sys2Proof.Machine.execKernelLoad c s
  | .kernelStart c => Sys2Proof.Machine.execKernelStart c s
  | .kernelHalt c => Sys2Proof.Machine.execKernelHalt c s
  | .kernelDoorbell c => Sys2Proof.Machine.execKernelDoorbell c s
  | .kernelStatus c => Sys2Proof.Machine.execKernelStatus c s
  | .eventSubscribe c => Sys2Proof.Machine.execEventSubscribe c s
  | .logRead c => Sys2Proof.Machine.execLogRead c s
  | .faultRead c => Sys2Proof.Machine.execFaultRead c s
  | .bootLoad c => Sys2Proof.Machine.execBootLoad c s
  | .bootGo c => Sys2Proof.Machine.execBootGo c s
  | .bootRequest => Sys2Proof.Machine.execBootRequest s
  | .registerWrite mid addr v => Sys2Proof.Machine.execRegisterWrite mid addr v s
  | .txEnWrite ch v => Sys2Proof.Machine.execTxEnWrite ch v s
  | .rxEnWrite ch v => Sys2Proof.Machine.execRxEnWrite ch v s
  | .txMuteWrite ch v => Sys2Proof.Machine.execTxMuteWrite ch v s
  | .rxMuteWrite ch v => Sys2Proof.Machine.execRxMuteWrite ch v s
  | .rxProtWrite ch v => Sys2Proof.Machine.execRxProtWrite ch v s
  | .txPowerUpDone ch => Sys2Proof.Machine.execTxPowerUpDone ch s
  | .rxPowerUpDone ch => Sys2Proof.Machine.execRxPowerUpDone ch s
  | .symbolBoundary d cs l ecc => Sys2Proof.Machine.execSymbolBoundary d cs l ecc s
  | .frameBoundary d => Sys2Proof.Machine.execFrameBoundary d s
  | .convRelockTimeout q => Sys2Proof.Machine.execConvRelockTimeout q s
  | .arrArmWrite => Sys2Proof.Machine.execArrArmWrite s
  | .arrsyncEdge => Sys2Proof.Machine.execArrsyncEdge s
  | .loModeWrite split => Sys2Proof.Machine.execLoModeWrite split s
  | .tuneGo => Sys2Proof.Machine.execTuneGo s
  | .synCalDone syn => Sys2Proof.Machine.execSynCalDone syn s
  | .synCalTimeout syn => Sys2Proof.Machine.execSynCalTimeout syn s
  | .switchOver => Sys2Proof.Machine.execSwitchOver s
  | .switchOverTransientEnd => Sys2Proof.Machine.execSwitchOverTransientEnd s
  | .quietWindowRetune => Sys2Proof.Machine.execQuietWindowRetune s
  | .bandSettleDone q => Sys2Proof.Machine.execBandSettleDone q s
  | .tuneWaitTimeout => Sys2Proof.Machine.execTuneWaitTimeout s
  | .loUnlock id => Sys2Proof.Machine.execLoUnlock id s
  | .loDrift syn => Sys2Proof.Machine.execLoDrift syn s
  | .mirrorRecalibration => Sys2Proof.Machine.execMirrorRecalibration s
  | .quadrantRelock q bad => Sys2Proof.Machine.execQuadrantRelock q bad s
  | .convUnlock q => Sys2Proof.Machine.execConvUnlock q s
  | .csRfCommit d cs hi => Sys2Proof.Machine.execCsRfCommit d cs hi s
  | .captureGo k => Sys2Proof.Machine.execCaptureGo k s
  | .orxselDrive k => Sys2Proof.Machine.execOrxselDrive k s
  | .captureStart k l l2 => Sys2Proof.Machine.execCaptureStart k l l2 s
  | .captureDone k => Sys2Proof.Machine.execCaptureDone k s
  | .captureTimeout k => Sys2Proof.Machine.execCaptureTimeout k s
  | .capAbortWrite k => Sys2Proof.Machine.execCapAbortWrite k s
  | .playbackStart => Sys2Proof.Machine.execPlaybackStart s
  | .playbackStop => Sys2Proof.Machine.execPlaybackStop s
  | .pdEnableWrite ch v ecc => Sys2Proof.Machine.execPdEnableWrite ch v ecc s
  | .pdCmdGo ch tgt ecc => Sys2Proof.Machine.execPdCmdGo ch tgt ecc s
  | .pdCmdRollback ch => Sys2Proof.Machine.execPdCmdRollback ch s
  | .pdAclPost ch post => Sys2Proof.Machine.execPdAclPost ch post s
  | .fadeStep ch => Sys2Proof.Machine.execFadeStep ch s
  | .fadeComplete ch => Sys2Proof.Machine.execFadeComplete ch s
  | .verifyTimeout ch => Sys2Proof.Machine.execVerifyTimeout ch s
  | .evaluatorResidueMismatch ch => Sys2Proof.Machine.execEvaluatorResidueMismatch ch s
  | .csEnWrite d cs v => Sys2Proof.Machine.execCsEnWrite d cs v s
  | .slotCtrlCommit => Sys2Proof.Machine.execSlotCtrlCommit s
  | .slotCheckDone => Sys2Proof.Machine.execSlotCheckDone s
  | .slotCtrlCancel => Sys2Proof.Machine.execSlotCtrlCancel s
  | .slotCtrlCopy => Sys2Proof.Machine.execSlotCtrlCopy s
  | .slotCopyDone => Sys2Proof.Machine.execSlotCopyDone s
  | .prachOccasion o l => Sys2Proof.Machine.execPrachOccasion o l s
  | .prachRowsWritten o => Sys2Proof.Machine.execPrachRowsWritten o s
  | .prachBeamsWritten o => Sys2Proof.Machine.execPrachBeamsWritten o s
  | .readoutStart cs ecc => Sys2Proof.Machine.execReadoutStart cs ecc s
  | .planInstant d cs => Sys2Proof.Machine.execPlanInstant d cs s
  | .pageHoldExpiry id => Sys2Proof.Machine.execPageHoldExpiry id s
  | .wsCfgWrite ws v => Sys2Proof.Machine.execWsCfgWrite ws v s
  | .blGo => Sys2Proof.Machine.execBlGo s
  | .steerGo => Sys2Proof.Machine.execSteerGo s
  | .steerComputeDone => Sys2Proof.Machine.execSteerComputeDone s
  | .geomDataWrite v => Sys2Proof.Machine.execGeomDataWrite v s
  | .columnResidueMismatch a d cs k => Sys2Proof.Machine.execColumnResidueMismatch a d cs k s
  | .hgEnWrite p v => Sys2Proof.Machine.execHgEnWrite p v s
  | .hgPartnerClockDetect p => Sys2Proof.Machine.execHgPartnerClockDetect p s
  | .hgTrainStepDone p t => Sys2Proof.Machine.execHgTrainStepDone p t s
  | .hgTrainTimeout p => Sys2Proof.Machine.execHgTrainTimeout p s
  | .hgCapRecord p rec => Sys2Proof.Machine.execHgCapRecord p rec s
  | .latfix p delays => Sys2Proof.Machine.execLatfix p delays s
  | .hgLaneFail p lane n lost => Sys2Proof.Machine.execHgLaneFail p lane n lost s
  | .laneDrop p lanes instant => Sys2Proof.Machine.execLaneDrop p lanes instant s
  | .laneAck p lanes instant => Sys2Proof.Machine.execLaneAck p lanes instant s
  | .laneAckTimeout p => Sys2Proof.Machine.execLaneAckTimeout p s
  | .laneRepairInstant p => Sys2Proof.Machine.execLaneRepairInstant p s
  | .idleReqWrite p v => Sys2Proof.Machine.execIdleReqWrite p v s
  | .eidle p => Sys2Proof.Machine.execEidle p s
  | .exitBurstDetect p => Sys2Proof.Machine.execExitBurstDetect p s
  | .fastExitDone p locked delays => Sys2Proof.Machine.execFastExitDone p locked delays s
  | .retrain p => Sys2Proof.Machine.execRetrain p s
  | .downNotice p => Sys2Proof.Machine.execDownNotice p s
  | .forwardedClockLost p => Sys2Proof.Machine.execForwardedClockLost p s
  | .crossingSlip c => Sys2Proof.Machine.execCrossingSlip c s
  | .ulUnitAdd cs frame sym unit l kids ecc => Sys2Proof.Machine.execUlUnitAdd cs frame sym unit l kids ecc s
  | .sumCheckBlock port cs frame sym layer hdr ok flags => Sys2Proof.Machine.execSumCheckBlock port cs frame sym layer hdr ok flags s
  | .broadcastPass cs frame sym => Sys2Proof.Machine.execBroadcastPass cs frame sym s
  | .broadcastUnitReceive cs frame sym unit header rows checks => Sys2Proof.Machine.execBroadcastUnitReceive cs frame sym unit header rows checks s
  | .prachSumSend o kids bad hdr => Sys2Proof.Machine.execPrachSumSend o kids bad hdr s
  | .sideFrameReceive port kind dst src frag bytes hdrOk crcOk table => Sys2Proof.Machine.execSideFrameReceive port kind dst src frag bytes hdrOk crcOk table s
  | .daAssignReceive uid da => Sys2Proof.Machine.execDaAssignReceive uid da s
  | .timeFrameReceive value traceable => Sys2Proof.Machine.execTimeFrameReceive value traceable s
  | .timeFrameTimeout => Sys2Proof.Machine.execTimeFrameTimeout s
  | .upPortLossTimeout => Sys2Proof.Machine.execUpPortLossTimeout s
  | .cascCommit => Sys2Proof.Machine.execCascCommit s
  | .cascCancel => Sys2Proof.Machine.execCascCancel s
  | .hpLinkChange e pcs fec => Sys2Proof.Machine.execHpLinkChange e pcs fec s
  | .hpFrameReceive e frame corr uncorr bad res room => Sys2Proof.Machine.execHpFrameReceive e frame corr uncorr bad res room s
  | .hp1FrameForward frame residence room => Sys2Proof.Machine.execHp1FrameForward frame residence room s
  | .iqDataMessage src msg => Sys2Proof.Machine.execIqDataMessage src msg s
  | .sectionMessage src msg => Sys2Proof.Machine.execSectionMessage src msg s
  | .ulBurstPost cs frame sym => Sys2Proof.Machine.execUlBurstPost cs frame sym s
  | .prachRowLaunch o => Sys2Proof.Machine.execPrachRowLaunch o s
  | .lqPost => Sys2Proof.Machine.execLqPost s
  | .launchInstant e => Sys2Proof.Machine.execLaunchInstant e s
  | .ethrefLoss => Sys2Proof.Machine.execEthrefLoss s
  | .refclkLoss => Sys2Proof.Machine.execRefclkLoss s
  | .tuSnap => Sys2Proof.Machine.execTuSnap s
  | .tuStep => Sys2Proof.Machine.execTuStep s
  | .timeStepApply => Sys2Proof.Machine.execTimeStepApply s
  | .forceValid => Sys2Proof.Machine.execForceValid s
  | .servoSample x e => Sys2Proof.Machine.execServoSample x e s
  | .srvCfgWrite x v => Sys2Proof.Machine.execSrvCfgWrite x v s
  | .servoHoldoverTimeout x => Sys2Proof.Machine.execServoHoldoverTimeout x s
  | .freqSlewPeriod => Sys2Proof.Machine.execFreqSlewPeriod s
  | .vcxoUpdate => Sys2Proof.Machine.execVcxoUpdate s
  | .vcEnWrite v => Sys2Proof.Machine.execVcEnWrite v s
  | .synceGate ferr => Sys2Proof.Machine.execSynceGate ferr s
  | .synceLost => Sys2Proof.Machine.execSynceLost s
  | .ppsOutEdge => Sys2Proof.Machine.execPpsOutEdge s
  | .ppsInEdge eighth => Sys2Proof.Machine.execPpsInEdge eighth s
  | .seqEdge q k frame e => Sys2Proof.Machine.execSeqEdge q k frame e s
  | .seqEnWrite v => Sys2Proof.Machine.execSeqEnWrite v s
  | .adacLock => Sys2Proof.Machine.execAdacLock s
  | .adacLd m => Sys2Proof.Machine.execAdacLd m s
  | .adacCodeWrite n code => Sys2Proof.Machine.execAdacCodeWrite n code s
  | .adacldEdge => Sys2Proof.Machine.execAdacldEdge s
  | .adacclrNChange v => Sys2Proof.Machine.execAdacclrNChange v s
  | .deglitchHoldEnd n => Sys2Proof.Machine.execDeglitchHoldEnd n s
  | .inputQualifiedEdge n level => Sys2Proof.Machine.execInputQualifiedEdge n level s
  | .chatterWindowEnd n => Sys2Proof.Machine.execChatterWindowEnd n s
  | .inputStuck n => Sys2Proof.Machine.execInputStuck n s
  | .rearm n pin => Sys2Proof.Machine.execRearm n pin s
  | .faultClear n => Sys2Proof.Machine.execFaultClear n s
  | .calEnWrite v => Sys2Proof.Machine.execCalEnWrite v s
  | .calRecordCheckDone => Sys2Proof.Machine.execCalRecordCheckDone s
  | .calGo => Sys2Proof.Machine.execCalGo s
  | .calGoAbort => Sys2Proof.Machine.execCalGoAbort s
  | .calMeasurementPost l mean => Sys2Proof.Machine.execCalMeasurementPost l mean s
  | .calJobTimeout => Sys2Proof.Machine.execCalJobTimeout s
  | .fdStart n resume => Sys2Proof.Machine.execFdStart n resume s
  | .fdHalt n => Sys2Proof.Machine.execFdHalt n s
  | .fdReset n => Sys2Proof.Machine.execFdReset n s
  | .fdDbWrite n m => Sys2Proof.Machine.execFdDbWrite n m s
  | .fdOwnerWrite mid n customer mailbox => Sys2Proof.Machine.execFdOwnerWrite mid n customer mailbox s
  | .bundle n fab ecc => Sys2Proof.Machine.execBundle n fab ecc s
  | .farLoadComplete n ok ecc => Sys2Proof.Machine.execFarLoadComplete n ok ecc s
  | .fdWatchdog n => Sys2Proof.Machine.execFdWatchdog n s
  | .fabricAccess mid addr n write ecc => Sys2Proof.Machine.execFabricAccess mid addr n write ecc s
  | .arbiterDecision t reqs => Sys2Proof.Machine.execArbiterDecision t reqs s
  | .maintenanceCycle m bank fabric f => Sys2Proof.Machine.execMaintenanceCycle m bank fabric f s
  | .patrolRead m bank f => Sys2Proof.Machine.execPatrolRead m bank f s
  | .memRetireGo bank => Sys2Proof.Machine.execMemRetireGo bank s
  | .retireCopyDone => Sys2Proof.Machine.execRetireCopyDone s
  | .dmaGo c => Sys2Proof.Machine.execDmaGo c s
  | .dmaAbort c => Sys2Proof.Machine.execDmaAbort c s
  | .dmaResume c => Sys2Proof.Machine.execDmaResume c s
  | .dmaBurst express rd wdraw err ecc => Sys2Proof.Machine.execDmaBurst express rd wdraw err ecc s
  | .dmaRequest line v => Sys2Proof.Machine.execDmaRequest line v s
  | .drainRequest isl inBurst => Sys2Proof.Machine.execDrainRequest isl inBurst s
  | .drainTimeout isl => Sys2Proof.Machine.execDrainTimeout isl s
  | .stileRead mid n => Sys2Proof.Machine.execStileRead mid n s
  | .stileRelease mid n => Sys2Proof.Machine.execStileRelease mid n s
  | .stileClean mid n => Sys2Proof.Machine.execStileClean mid n s
  | .stileForce mid n => Sys2Proof.Machine.execStileForce mid n s
  | .dvfsStep => Sys2Proof.Machine.execDvfsStep s
  | .vsetTimeout => Sys2Proof.Machine.execVsetTimeout s
  | .dvfsWrite x v => Sys2Proof.Machine.execDvfsWrite x v s
  | .miSrcWrite v => Sys2Proof.Machine.execMiSrcWrite v s
  | .fallowQuietInstant inBurst => Sys2Proof.Machine.execFallowQuietInstant inBurst s
  | .fallowGate => Sys2Proof.Machine.execFallowGate s
  | .larkEvaluation tick sup edges levels => Sys2Proof.Machine.execLarkEvaluation tick sup edges levels s
  | .wake rings err => Sys2Proof.Machine.execWake rings err s
  | .pllLock => Sys2Proof.Machine.execPllLock s
  | .hushReached => Sys2Proof.Machine.execHushReached s
  | .sensorConversion n raw => Sys2Proof.Machine.execSensorConversion n raw s
  | .shutdownGate => Sys2Proof.Machine.execShutdownGate s
  | .throttleStep => Sys2Proof.Machine.execThrottleStep s
  | .faultReport unit cls code addr info sub mid => Sys2Proof.Machine.execFaultReport unit cls code addr info sub mid s
  | .faultUnitClr unit => Sys2Proof.Machine.execFaultUnitClr unit s
  | .fmSafeForce mid => Sys2Proof.Machine.execFmSafeForce mid s
  | .supplyFault mon => Sys2Proof.Machine.execSupplyFault mon s
  | .debugUnlock token => Sys2Proof.Machine.execDebugUnlock token s
  | .fwReady => Sys2Proof.Machine.execFwReady s
  | .fwActivateTimeout => Sys2Proof.Machine.execFwActivateTimeout s
  | .resetNLow short => Sys2Proof.Machine.execResetNLow short s
  | .resetRelease mode rails => Sys2Proof.Machine.execResetRelease mode rails s
  | .imageLoaded a b => Sys2Proof.Machine.execImageLoaded a b s
  | .bootPllTimeout => Sys2Proof.Machine.execBootPllTimeout s
  | .bootReady evals cols => Sys2Proof.Machine.execBootReady evals cols s
  | .convPllRelock q => Sys2Proof.Machine.execConvPllRelock q s
  | .farStoreComplete n ok => Sys2Proof.Machine.execFarStoreComplete n ok s
  | .sentinelClear m b => Sys2Proof.Machine.execSentinelClear m b s
  | .larkPowerOnReset => Sys2Proof.Machine.execLarkPowerOnReset s
  | .resetSelfRelease => Sys2Proof.Machine.execResetSelfRelease s
  | .ethrefRestore => Sys2Proof.Machine.execEthrefRestore s

end Sys2Proof.Machine
end

