-- ==== Sys2Proof/Safety.lean ====
section
/-! DEFINITION. What counts as a safe run: no command stops the machine. -/

namespace Sys2Proof

/-- A state is safe when its next step gives a next state: the machine neither faults nor refuses. -/
def Safe (s : Machine.State) : Prop := ∃ t, Machine.step s = .next t

end Sys2Proof
end

