-- ==== Sys2Proof/Certificates/Slice0/Obligations.lean ====
section
/-! DEFINITION. The statements put to the provers about the block, one definition each; OBLIGATIONS.json lists them. -/

open Sys2Proof Sys2Proof.Machine

/-- A step takes the command at the front of the queue and runs it with the queue's rest. The queue is the model's own (log entry 1). -/
def Obligations.StepRunsFrontCommand : Prop :=
  ∀ (c : Sys2Proof.Instr) (rest : List Sys2Proof.Instr) (s : Sys2Proof.Machine.State),
    Sys2Proof.Machine.step { s with pending := c :: rest } = Sys2Proof.Machine.exec c { s with pending := rest }

/-- On an empty queue one SI cycle passes (DESIGN CHOICE, log entry 2); with no wait of R462 running nothing else changes. -/
def Obligations.IdleStepPassesOneCycle : Prop :=
  ∀ s : Sys2Proof.Machine.State, s.pending = [] →
    (∃ t : State, Sys2Proof.Machine.step s = .next t) ∧
    (s.lo.armJob = none → s.th.resetAt = none → Sys2Proof.Machine.step s = .next { s with now := s.now + 1 }) ∧
    (∀ c d, s.lo.armJob = some c → s.lo.armDeadline = d → d ≤ s.now + 1 → s.th.resetAt = none →
      ∃ t : State, Sys2Proof.Machine.step s = .next t ∧ t.lo.armJob = none ∧ t.regs = (({ s with now := s.now + 1 }).complete c .timeout []).regs)

/-- Whatever a command does, the commands that wait behind it stay as they are. The queue is the model's own (log entry 1). -/
def Obligations.EveryCommandKeepsTheQueue : Prop :=
  ∀ (i : Sys2Proof.Instr) (s t : Sys2Proof.Machine.State), Sys2Proof.Machine.exec i s = .next t → t.pending = s.pending

/-- Equal register files and memories are equal data, and every step keeps them so: the canonical form of registers, working copies and
memory is an invariant of the machine (the sparse form is the model's own, log entry 3). -/
def Obligations.EveryStepKeepsCanonicalForm : Prop :=
  ∀ s t : Sys2Proof.Machine.State, s.canonical = true → Sys2Proof.Machine.step s = .next t → t.canonical = true

/-- The block never stops: an error of the device is an effect on its state, so every state is safe. -/
def Obligations.NoCommandStopsTheBlock : Prop := ∀ s : Sys2Proof.Machine.State, Sys2Proof.Safe s

/-- What device reset leaves, by the chapters' reset rules (R85, R339, R534) and register tables. Values that the spec does not give stand in
log entry 4 and are not stated here. -/
def Obligations.ResetState : Prop :=
  State.reset.canonical = true ∧ State.reset.pending = [] ∧
  (∀ a, State.reset.reg a = resetAt a) ∧ (∀ a, State.reset.byte a = 0) ∧
  (∀ ch, ch < 64 →
    State.reset.get (R.CH_CTRL_TX_EN ch) = 0 ∧ State.reset.get (R.CH_CTRL_RX_EN ch) = 0 ∧
    State.reset.get (R.TX_ATT_ATT ch) = 127 ∧ State.reset.get (R.RX_GAIN_GAIN ch) = 0 ∧
    State.reset.reg (R.TX_IQ ch) = 0x4000 ∧ State.reset.reg (R.RX_IQ ch) = 0x4000 ∧ State.reset.reg (R.TX_LOL ch) = 0 ∧
    State.reset.get (R.CH_STATUS_BAND ch) = 3 ∧
    State.reset.get (R.CH_STATUS_TX_LIVE ch) = 0 ∧ State.reset.get (R.CH_STATUS_RX_LIVE ch) = 0) ∧
  State.reset.get R.PWR_STATUS_STATE_NOW = 0 ∧ State.reset.flag R.PWR_STATUS_MI_WAKEOSC = true ∧ State.reset.flag R.CLK_CTRL_MI_SRC = false ∧
  State.reset.time = 0 ∧ State.reset.get R.TU_STATUS_VALID = 0 ∧
  (∀ cs, cs < 8 → State.reset.slotOwner 0 cs = 0x1F ∧ State.reset.slotOwner 1 cs = 0x1F) ∧
  (∀ b, b < 16 → State.reset.beamOwner b = 0x1F) ∧
  (∀ x, x < 16 → State.reset.sessState x = sessClosed)

/-- HOST_COMMAND_PACKET by the order of R445: `h` is the packet's header and `c` the command it spells. -/
def Obligations.CommandPacketIsCheckedAndQueued : Prop :=
  ∀ (via : Via) (src : Nat) (b : List Byte) (s : State),
    let h := readHeader b
    let c := h.cmd via src s.now
    -- in FALLOW nothing arrives
    (s.pwrState = 3 → exec (.hostCommandPacket via src b) s = .next s) ∧
    -- order 1 (R438)
    (s.pwrState ≠ 3 → (h.bad b.length = true ∨ h.kind ≠ 0) →
      exec (.hostCommandPacket via src b) s = .next (s.count R.CMD_CNT2_MALFORMED)) ∧
    -- R440, R443
    (s.pwrState ≠ 3 → h.bad b.length = false → h.kind = 0 → s.boot = .ready → s.wrongPort c = true →
      exec (.hostCommandPacket via src b) s = .next (s.count R.CMD_CNT3_WRONG_PORT)) ∧
    -- orders 6 to 9 for this device, once orders 1 to 5 have passed and led to the state `u`
    (∀ u r, s.pwrState ≠ 3 → h.bad b.length = false → h.kind = 0 → s.boot = .ready → s.wrongPort c = false →
      h.status = 0 → h.hint = 0 → s.authentic c h b = (u, true) → opRow c.opcode = some r → c.target = u.ownDa → c.target < 64 →
      u.permitted c r = true →
      (r.queue = 0 → exec (.hostCommandPacket via src b) s =
        .next (((u.touch c).runOpcode c { ecc := [], evals := 0, cols := 0, links := [] }).seqEnd c)) ∧
      (r.queue ≠ 0 → (admission r.queue).1 ≤ (u.heldIn r.queue).length → exec (.hostCommandPacket via src b) s =
        .next (((u.count R.CMD_CNT1_QFULL).sendReply c .queueFull 0 [] true).seqEnd c)) ∧
      (r.queue ≠ 0 → (u.heldIn r.queue).length < (admission r.queue).1 → 0 < u.excess c r.queue →
        exec (.hostCommandPacket via src b) s =
        .next (((u.count R.CMD_CNT1_BUSY).sendReply c .busy (u.hintOf r.queue (u.excess c r.queue)) [] true).seqEnd c)) ∧
      (r.queue ≠ 0 → (u.heldIn r.queue).length < (admission r.queue).1 → u.excess c r.queue = 0 →
        ∃ t : State, exec (.hostCommandPacket via src b) s = .next t ∧ t.waiting r.queue = u.waiting r.queue ++ [c] ∧
          (∀ q, q ≠ r.queue → t.waiting q = u.waiting q) ∧ t.mem = u.mem ∧ t.out = u.out ∧
          ∀ a, (∀ x, a ≠ R.SESS_STAT x) → t.reg a = u.reg a))

/-- R442 on an authentic command of an OPEN session, on a transport of the manager. -/
def Obligations.SequenceWindow : Prop :=
  (∀ (y : Session) (n : Nat), y.seqOk n = true ↔
    0 < n ∧ (y.seqHi < n ∨ (n ≤ y.seqHi ∧ y.seqHi - n ≤ 63 ∧ n ∉ y.seqSeen))) ∧
  (∀ (y : Session) (n : Nat), y.seqOk n = true →
    (y.seqTake n).seqHi = max y.seqHi n ∧
    ∀ k, k ∈ (y.seqTake n).seqSeen ↔ (k = n ∨ k ∈ y.seqSeen) ∧ max y.seqHi n - k ≤ 63) ∧
  (∀ (s : State) (c : Cmd) (h : Header) (b : List Byte), c.session < 16 → c.via ≠ .cascade → s.sessState c.session = sessOpen →
    s.tagOk c h b = true → c.session < s.fe.sess.length →
    ((s.session c.session).seqOk c.seq = true → ∃ u : State, s.authentic c h b = (u, true) ∧ u.regs = s.regs ∧ u.mem = s.mem ∧ u.out = s.out ∧
      u.session c.session = { (s.session c.session).seqTake c.seq with tagFails := 0 }) ∧
    ((s.session c.session).seqOk c.seq = false → ∃ u : State, s.authentic c h b = (u, false) ∧
      u = ((s.modSession c.session fun y => { y with tagFails := 0 }).count R.CMD_CNT0_REPLAY).sendReply c .authFail 0 [] true)) ∧
  (∀ (s : State) (c : Cmd), c.via ≠ .cascade → c.session < 16 → c.seq = 0xFFFFFFFF → (s.session c.session).seqHi = 0xFFFFFFFF →
    s.seqEnd c = s.closeSession c.session 4)

/-- COMMAND_DISPATCH and QUEUE_AGE_TIMEOUT (R448). -/
def Obligations.DispatchTakesQ1ThenQ2FourToOne : Prop :=
  (∀ s : State, s.nextQueue =
    if s.fe.q1 ≠ [] then some (1, s.fe.q2Taken)
    else if s.fe.q2 ≠ [] ∧ s.fe.q3 ≠ [] then (if s.fe.q2Taken < 4 then some (2, s.fe.q2Taken + 1) else some (3, 0))
    else if s.fe.q2 ≠ [] then some (2, s.fe.q2Taken) else if s.fe.q3 ≠ [] then some (3, s.fe.q2Taken) else none) ∧
  (∀ (s : State) (x : Aux), (s.fe.stopped = true ∨ s.boot ≠ .ready ∨ (s.fe.q1 = [] ∧ s.fe.q2 = [] ∧ s.fe.q3 = [])) →
    exec (.commandDispatch x) s = .next s) ∧
  (∀ (s : State) (x : Aux) (q k : Nat) (c : Cmd) (rest : List Cmd), s.fe.stopped = false → s.boot = .ready →
    s.nextQueue = some (q, k) → s.waiting q = c :: rest →
    ∃ u : State, u.waiting q = rest ∧ (∀ p, p ≠ q → u.waiting p = s.waiting p) ∧ u.fe.q2Taken = k ∧ u.mem = s.mem ∧ u.out = s.out ∧
      (s.now < c.acceptedAt + s.get R.CMD_AGE_AGE_MS * msCycles → exec (.commandDispatch x) s = .next ((u.runOpcode c x).seqEnd c)) ∧
      (c.acceptedAt + s.get R.CMD_AGE_AGE_MS * msCycles ≤ s.now →
        exec (.commandDispatch x) s = .next ((u.reply c .timeout []).seqEnd c))) ∧
  (∀ (s : State) (q : Nat) (c : Cmd) (rest : List Cmd), 1 ≤ q → q ≤ 3 → s.waiting q = c :: rest →
    ∃ u : State, u.waiting q = rest ∧ (∀ p, p ≠ q → u.waiting p = s.waiting p) ∧ u.mem = s.mem ∧ u.out = s.out ∧
      u.now = max s.now (c.acceptedAt + s.get R.CMD_AGE_AGE_MS * msCycles) ∧
      exec (.queueAgeTimeout q) s = .next ((u.reply c .timeout []).seqEnd c)) ∧
  (∀ (s : State) (q : Nat), s.waiting q = [] → 1 ≤ q → q ≤ 3 → exec (.queueAgeTimeout q) s = .next s)

/-- LOAD_MONITOR_PUBLISH (R453). How a percentile is picked from the sorted times is the model's choice: log entry 5 (DESIGN CHOICE). -/
def Obligations.LoadMonitorPublishes : Prop :=
  ∀ s : State, ∃ u t : State, exec .loadMonitorPublish s = .next t ∧ s.now ≤ t.now ∧ t.mem = s.mem ∧
    u.mem = s.mem ∧ u.out = s.out ∧ u.fe.lat = [[], [], []] ∧
    (∀ q, 1 ≤ q → q ≤ 3 →
      let l := s.fe.lat.getD (q - 1) []
      u.get (R.CMD_LAT0_P50 (q - 1)) = percentile l 1 2 ∧ u.get (R.CMD_LAT0_P99 (q - 1)) = percentile l 99 100 ∧
      u.get (R.CMD_LAT1_P999 (q - 1)) = percentile l 999 1000 ∧ u.get (R.CMD_LAT1_MAX (q - 1)) = percentile l 1 1) ∧
    (∀ q, q < 4 → u.get (R.CMD_QOCC_NOW q) = (s.heldIn q).length % 256 ∧
      u.get (R.CMD_QOCC_MAX q) = max (s.heldIn q).length (s.fe.occMax.getD q 0) % 256) ∧
    (∀ a, (∀ q, q < 3 → a ≠ R.CMD_LAT0 q ∧ a ≠ R.CMD_LAT1 q) → (∀ q, q < 4 → a ≠ R.CMD_QOCC q) → u.reg a = s.reg a) ∧
    t = if s.flag R.CMD_CFG_LOAD_EVT ∧ s.get R.CMD_CFG_LOAD_THR < u.get (R.CMD_LAT0_P99 0)
      then u.event (.cmdLoad (u.get (R.CMD_LAT0_P99 0))) else u

/-- SPI_READ and SPI_BUFFER_ROOM (R440), EVENT_QUEUE_ROOM (R451). -/
def Obligations.PacketsLeaveWhenThereIsRoom : Prop :=
  (∀ (s : State) (p : Packet) (l : List Packet), s.fe.spiOut = p :: l →
    exec .spiRead s = .next { s with fe := { s.fe with spiOut := l }, out := s.out ++ [.packet .spi p] }) ∧
  (∀ s : State, s.fe.spiOut = [] → exec .spiRead s = .next s) ∧
  (∀ (s : State) (x : Nat) (p : Packet) (l : List Packet), x < 16 → x < s.fe.sess.length → (s.session x).replies = p :: l →
    (s.spiHeld + p.size ≤ 65536 → ∃ t : State, exec (.spiBufferRoom x) s = .next t ∧ t.fe.spiOut = s.fe.spiOut ++ [p] ∧
      t.session x = { s.session x with replies := l } ∧ t = { s with fe := t.fe }) ∧
    (65536 < s.spiHeld + p.size → exec (.spiBufferRoom x) s = .next s)) ∧
  (∀ (s : State) (x : Nat) (p : Packet) (l : List Packet), 16 ≤ x → s.fe.noSess = p :: l →
    (s.spiHeld + p.size ≤ 65536 →
      exec (.spiBufferRoom x) s = .next { s with fe := { s.fe with noSess := l, spiOut := s.fe.spiOut ++ [p] } }) ∧
    (65536 < s.spiHeld + p.size → exec (.spiBufferRoom x) s = .next s)) ∧
  (∀ (s : State) (x n : Nat), x < 16 → x < s.fe.sess.length → (s.session x).lost = 0 →
    ∃ t : State, exec (.eventQueueRoom x n) s = .next t ∧ t.out = s.out ++ ((s.session x).events.take n).map (.packet .host) ∧
      t.session x = { s.session x with events := (s.session x).events.drop n } ∧ t = { s with regs := t.regs, fe := t.fe, out := t.out } ∧
      ∀ a, a ≠ R.SESS_STAT x → t.reg a = s.reg a) ∧
  (∀ (s : State) (x n : Nat), x < 16 → x < s.fe.sess.length → (s.session x).lost ≠ 0 → (s.session x).events.length - n < 256 →
    ∃ u : State, u.out = s.out ++ ((s.session x).events.take n).map (.packet .host) ∧
      u.session x = { s.session x with events := (s.session x).events.drop n, lost := 0 } ∧ u.mem = s.mem ∧
      exec (.eventQueueRoom x n) s = .next (u.sendEvent x 0x0E80 0 0 (beBytes 4 (s.session x).lost)))

/-- SESSION_OPENING_TIMEOUT (R441) and SESSION_IDLE_TIMEOUT (R444). -/
def Obligations.SessionsTimeOutAndClose : Prop :=
  (∀ (s : State) (x : Nat), x < 16 → x < s.fe.sess.length → s.worker = false → s.sessState x = sessOpening →
    ∃ t : State, exec (.sessionOpeningTimeout x) s = .next t ∧ t.sessState x = sessClosed ∧ t.session x = Session.empty ∧
      t.now = max s.now ((s.session x).openedAt + 491520000) ∧ t.mem = s.mem ∧ t.fe.q1 = s.fe.q1) ∧
  (∀ (s : State) (x : Nat), s.sessState x ≠ sessOpening ∨ s.worker = true → exec (.sessionOpeningTimeout x) s = .next s) ∧
  (∀ (s : State) (x : Nat), s.worker = false → (s.sessState x = sessOpen ∨ s.sessState x = sessFrozen) → s.get R.CMD_CFG_IDLE_S ≠ 0 →
    exec (.sessionIdleTimeout x) s =
      .next ((s.advanceTo ((s.session x).lastAt + 6 * s.get R.CMD_CFG_IDLE_S * 491520000)).closeSession x 2)) ∧
  (∀ (s : State) (x : Nat), ((s.sessState x ≠ sessOpen ∧ s.sessState x ≠ sessFrozen) ∨ s.get R.CMD_CFG_IDLE_S = 0 ∨ s.worker = true) →
    exec (.sessionIdleTimeout x) s = .next s)

/-- Replies, acceptance and completion (R450), on every transport. -/
def Obligations.RepliesAndCompletions : Prop :=
  (∀ (s : State) (c : Cmd) (st : Status) (l : List Byte),
    s.reply c st l = { s with fe := (s.reply c st l).fe, out := (s.reply c st l).out } ∧
    (s.reply c st l).fe.q1 = s.fe.q1 ∧ (s.reply c st l).fe.q2 = s.fe.q2 ∧ (s.reply c st l).fe.q3 = s.fe.q3 ∧
    (s.reply c st l).fe.running = s.fe.running) ∧
  (∀ (s : State) (c : Cmd) (st : Status) (l : List Byte),
    ((c.noReply = true ∧ st = .ok) ∨ (c.session < 16 ∧ s.sessState c.session = sessClosed)) →
    (s.reply c st l).out = s.out ∧ (s.reply c st l).fe.spiOut = s.fe.spiOut) ∧
  (∀ (s : State) (c : Cmd) (st : Status) (l : List Byte), c.via ≠ .spi → (c.noReply = false ∨ st ≠ .ok) →
    (16 ≤ c.session ∨ s.sessState c.session ≠ sessClosed) →
    ∃ p, (s.reply c st l).out = s.out ++ [.packet c.via p] ∧ p.kind = 1 ∧ p.opcode = c.opcode ∧ p.tag = c.tag ∧ p.session = c.session ∧
      p.seq = c.seq ∧ p.status = statusCode st ∧ p.payload = l ∧ (16 ≤ c.session → p.mac = [])) ∧
  (∀ (s : State) (q : Nat) (c : Cmd),
    s.accept q c = ((s.reply c .accepted []).keepRunning q c) ∧ (s.accept q c).fe.running = s.fe.running ++ [{ queue := q, cmd := c }] ∧
    (s.accept q c).mem = s.mem ∧ ∀ a, (∀ x, a ≠ R.SESS_STAT x) → (s.accept q c).reg a = s.reg a) ∧
  (∀ (s : State) (c : Cmd) (st : Status) (l : List Byte),
    (s.complete c st l).fe.running = s.fe.running.filter (fun r => r.cmd ≠ c) ∧ (s.complete c st l).mem = s.mem ∧
    ((16 ≤ c.session ∨ (s.sessState c.session ≠ sessOpen ∧ s.sessState c.session ≠ sessFrozen)) → (s.complete c st l).out = s.out) ∧
    (c.session < 16 → (s.sessState c.session = sessOpen ∨ s.sessState c.session = sessFrozen) →
      s.complete c st l = (s.unrun c).sendEvent c.session 0x0180 c.tag (statusCode st) (beBytes 2 c.opcode ++ l)))

/-- An event of R468 and where it goes (R451). -/
def Obligations.EventsGoToTheirSessions : Prop :=
  (∀ (s : State) (e : Event) (x : Nat), s.receives e x = true ↔
    (s.sessState x = sessOpen ∨ s.sessState x = sessFrozen) ∧
      ((s.session x).mask.testBit ((eventWire e).1 / 256) = true ∨ eventNames e x s = true)) ∧
  (∀ (s : State) (e : Event), (s.event e).mem = s.mem ∧ (s.event e).fe.q1 = s.fe.q1 ∧ (s.event e).fe.q2 = s.fe.q2 ∧
    (s.event e).fe.q3 = s.fe.q3 ∧ ∀ a, (∀ x, x < 16 → a ≠ R.SESS_STAT x) → a ≠ R.CMD_CNT3 → (s.event e).reg a = s.reg a) ∧
  (∀ (s : State) (e : Event), (∀ x, x < 16 → s.receives e x = false) → s.event e = s) ∧
  (∀ (s : State) (x : Nat) (p : Packet), x < 16 → x < s.fe.sess.length → s.sessVia x = .host →
    (s.session x).events.length < 256 → (s.session x).lost = 0 →
    ∃ q, ((s.putEvent x p).session x).events = (s.session x).events ++ [q] ∧ q.seq = (s.session x).evSeq ∧ q.payload = p.payload ∧
      ((s.putEvent x p).session x).evSeq = (s.session x).evSeq + 1) ∧
  (∀ (s : State) (x : Nat) (p : Packet), x < 16 → x < s.fe.sess.length → s.sessVia x = .host →
    ((s.session x).events.length ≥ 256 ∨ (s.session x).lost ≠ 0) →
    ((s.putEvent x p).session x).lost = (s.session x).lost + 1 ∧ ((s.putEvent x p).session x).events = (s.session x).events) ∧
  (∀ (s : State) (x : Nat) (p : Packet), s.sessVia x = .cascade →
    ∃ q, (s.putEvent x p).out = s.out ++ [.packet .cascade q] ∧ q.seq = (s.session x).evSeq ∧ q.mac = p.mac ∧ (s.putEvent x p).regs = s.regs)

/-- MUTE_ALL, PA_OFF and CHAIN_MUTE (R458), by the precedence of R30. -/
def Obligations.UrgentOpcodesMuteTheArray : Prop :=
  ∀ (c : Cmd) (s : State), c.num 1 3 = 0 → c.byte 0 ≤ 1 → s.chains.length = 64 →
    (c.size = 4 → (c.byte 0 = 0 → s.priv c = true) →
      ∃ t : State, exec (.muteAll c) s = .next t ∧ t.now = max s.now (c.acceptedAt + 6) ∧ t.mem = s.mem ∧ t.hold = s.hold ∧
        ∀ ch, ch < 64 → t.flag (R.CH_STATUS_UMUTE ch) = decide (c.byte 0 = 1) ∧ (c.byte 0 = 1 → (t.chain ch).zero = true)) ∧
    (c.size = 4 → (c.byte 0 = 0 → s.priv c = true) →
      ∃ t : State, exec (.paOff c) s = .next t ∧ t.now = max s.now (c.acceptedAt + 6) ∧ t.mem = s.mem ∧
        t.hold = { s.hold with paOff := decide (c.byte 0 = 1) } ∧
        ∀ ch, ch < 64 → t.flag (R.CH_STATUS_UMUTE ch) = s.flag (R.CH_STATUS_UMUTE ch) ∧
          (c.byte 0 = 1 → (t.chain ch).cleared = true ∧ (t.chain ch).held = true ∧ (t.chain ch).zero = true ∧
            t.get (R.CH_STATUS_TX_LIVE ch) = 0)) ∧
    (c.size = 12 → c.num 4 8 ≠ 0 → (c.byte 0 = 0 → s.priv c = true) →
      ∃ t : State, exec (.chainMute c) s = .next t ∧ t.now = max s.now (c.acceptedAt + 6) ∧ t.mem = s.mem ∧ t.hold = s.hold ∧
        ∀ ch, ch < 64 →
          ((c.num 4 8).testBit ch = true → t.flag (R.CH_STATUS_UMUTE ch) = decide (c.byte 0 = 1) ∧
            (c.byte 0 = 1 → (t.chain ch).zero = true)) ∧
          ((c.num 4 8).testBit ch = false → t.flag (R.CH_STATUS_UMUTE ch) = s.flag (R.CH_STATUS_UMUTE ch))) ∧
    (c.byte 0 = 0 → s.priv c = false →
      (c.size = 4 → exec (.muteAll c) s = .next (s.reply c .notPermitted []) ∧ exec (.paOff c) s = .next (s.reply c .notPermitted [])) ∧
      (c.size = 12 → c.num 4 8 ≠ 0 → exec (.chainMute c) s = .next (s.reply c .notPermitted [])))

/-- TX_EN_WRITE, RX_EN_WRITE, TX_POWER_UP_DONE and RX_POWER_UP_DONE (R76, R77). -/
def Obligations.ChainEnables : Prop :=
  (∀ (ch : Nat) (v : Bool) (s : State), ch < 64 → s.chains.length = 64 →
    ∃ t : State, exec (.txEnWrite ch v) s = .next t ∧ t.flag (R.CH_CTRL_TX_EN ch) = v ∧ t = { s with regs := t.regs, chains := t.chains } ∧
      (∀ k, k ≠ ch → t.chain k = s.chain k) ∧
      (∀ a, a ≠ R.CH_CTRL ch → a ≠ R.CH_STATUS ch → a ≠ R.TXON_LIVE (ch / 32) → t.reg a = s.reg a) ∧
      (s.chainGated ch = true ∨ s.flag (R.CH_CTRL_TX_EN ch) = v → t = s.put (R.CH_CTRL_TX_EN ch) (b2n v)) ∧
      (s.chainGated ch = false → s.flag (R.CH_CTRL_TX_EN ch) = false → v = true → s.flag (R.CH_STATUS_TX_RDY ch) = false →
        (s.chain ch).txDis = false → (s.chain ch).txUp = none → (t.chain ch).txUp = some (s.now + 9830)) ∧
      (s.chainGated ch = false → s.flag (R.CH_CTRL_TX_EN ch) = true → v = false →
        (s.activeOn .dl (quadOf ch) ≠ [] → (t.chain ch).txDis = true ∧ t.reg (R.CH_STATUS ch) = s.reg (R.CH_STATUS ch)) ∧
        (s.activeOn .dl (quadOf ch) = [] → t.flag (R.CH_STATUS_TX_RDY ch) = false ∧ t.flag (R.CH_STATUS_TX_LIVE ch) = false ∧
          (t.chain ch).txUp = none ∧ (t.chain ch).txIn = false))) ∧
  (∀ (ch : Nat) (v : Bool) (s : State), ch < 64 → s.chains.length = 64 →
    ∃ t : State, exec (.rxEnWrite ch v) s = .next t ∧ t.flag (R.CH_CTRL_RX_EN ch) = v ∧ t = { s with regs := t.regs, chains := t.chains } ∧
      (∀ k, k ≠ ch → t.chain k = s.chain k) ∧
      (∀ a, a ≠ R.CH_CTRL ch → a ≠ R.CH_STATUS ch → a ≠ R.RXON_LIVE (ch / 32) → t.reg a = s.reg a) ∧
      (s.chainGated ch = true ∨ s.flag (R.CH_CTRL_RX_EN ch) = v → t = s.put (R.CH_CTRL_RX_EN ch) (b2n v)) ∧
      (s.chainGated ch = false → s.flag (R.CH_CTRL_RX_EN ch) = false → v = true → s.flag (R.CH_STATUS_RX_RDY ch) = false →
        (s.chain ch).rxDis = false → (s.chain ch).rxUp = none → (t.chain ch).rxUp = some (s.now + 9830)) ∧
      (s.chainGated ch = false → s.flag (R.CH_CTRL_RX_EN ch) = true → v = false →
        (s.activeOn .ul (quadOf ch) ≠ [] → (t.chain ch).rxDis = true ∧ t.reg (R.CH_STATUS ch) = s.reg (R.CH_STATUS ch)) ∧
        (s.activeOn .ul (quadOf ch) = [] → t.flag (R.CH_STATUS_RX_RDY ch) = false ∧ t.flag (R.CH_STATUS_RX_LIVE ch) = false ∧
          (t.chain ch).rxUp = none ∧ (t.chain ch).rxJoined = false))) ∧
  (∀ (ch : Nat) (s : State), ch < 64 → s.chains.length = 64 →
    ((s.chain ch).txUp ≠ none → ∃ u : State, exec (.txPowerUpDone ch) s = .next u.moveCheck ∧ u.flag (R.CH_STATUS_TX_RDY ch) = true ∧
      u.chain ch = { s.chain ch with txUp := none } ∧ u = { s with regs := u.regs, chains := u.chains } ∧
      ∀ a, a ≠ R.CH_STATUS ch → u.reg a = s.reg a) ∧
    ((s.chain ch).txUp = none → exec (.txPowerUpDone ch) s = .next s.moveCheck) ∧
    ((s.chain ch).rxUp ≠ none → ∃ u : State, exec (.rxPowerUpDone ch) s = .next u.moveCheck ∧ u.flag (R.CH_STATUS_RX_RDY ch) = true ∧
      (u.chain ch).rxUp = none ∧ (u.chain ch).rxJoined = false ∧ (u.chain ch).dcoLoad = [] ∧
      u = { s with regs := u.regs, chains := u.chains } ∧
      ((s.chain ch).dcoLoad ≠ [] → ∀ i, i < 61 → u.reg (R.DCO_TABLE ch i) = (s.chain ch).dcoLoad.getD i 0) ∧
      ((s.chain ch).dcoLoad = [] → ∀ a, a ≠ R.CH_STATUS ch → u.reg a = s.reg a)) ∧
    ((s.chain ch).rxUp = none → exec (.rxPowerUpDone ch) s = .next s.moveCheck)) ∧
  -- a power-up that completes ends a STATE_SET that waited for it, and nothing else (R513, R522)
  (∀ s : State, s.pw.move = none → s.moveCheck = s)

/-- TX_MUTE_WRITE (R78), RX_MUTE_WRITE (R80) and RX_PROT_WRITE (R83). -/
def Obligations.ChainMutesAndProtection : Prop :=
  ∀ (ch : Nat) (v : Bool) (s : State), ch < 64 → s.chains.length = 64 →
    (∃ t : State, exec (.txMuteWrite ch v) s = .next t ∧ t.flag (R.CH_CTRL_TX_MUTE ch) = v ∧ (v = true → (t.chain ch).zero = true) ∧
      (s.txHeld ch = false → t.get (R.CH_STATUS_TX_LIVE ch) = s.get (R.CH_STATUS_TX_LIVE ch) ∧ (t.chain ch).held = false) ∧
      t = { s with regs := t.regs, chains := t.chains } ∧ (∀ k, k ≠ ch → t.chain k = s.chain k) ∧
      ∀ a, a ≠ R.CH_CTRL ch → a ≠ R.CH_STATUS ch → a ≠ R.TXON_LIVE (ch / 32) → t.reg a = s.reg a) ∧
    (∃ t : State, exec (.rxMuteWrite ch v) s = .next t ∧ t.flag (R.CH_CTRL_RX_MUTE ch) = v ∧
      (s.activeOn .ul (quadOf ch) = [] → t.chain ch = { s.chain ch with rxMuted := v }) ∧
      (s.activeOn .ul (quadOf ch) ≠ [] → t.chains = s.chains) ∧
      t = { s with regs := t.regs, chains := t.chains } ∧ (∀ k, k ≠ ch → t.chain k = s.chain k) ∧
      ∀ a, a ≠ R.CH_CTRL ch → t.reg a = s.reg a) ∧
    (∃ t : State, exec (.rxProtWrite ch v) s = .next t ∧ t.flag (R.CH_CTRL_RX_PROT ch) = v ∧
      (v = false → s.activeOn .ul (quadOf ch) = [] →
        t.flag (R.CH_STATUS_RX_PROTECTED ch) = false ∧ t.chain ch = { s.chain ch with protSlots := 0 }) ∧
      (v = true ∨ s.activeOn .ul (quadOf ch) ≠ [] → t = s.put (R.CH_CTRL_RX_PROT ch) (b2n v)) ∧
      t = { s with regs := t.regs, chains := t.chains } ∧
      ∀ a, a ≠ R.CH_CTRL ch → a ≠ R.CH_STATUS ch → t.reg a = s.reg a)

/-- R74: the shadowed corrections and their slew. -/
def Obligations.CorrectionsSlewToTheirShadows : Prop :=
  ∀ (ch : Nat) (s : State), ch < 64 →
    (∀ p ∈ [(R.TX_IQ_PHASE ch, 16), (R.TX_IQ_GAIN ch, 16), (R.TX_LOL_LOL_Q ch, 4), (R.TX_LOL_LOL_I ch, 4)],
      (s.applyTx ch).get p.1 = s.get p.1 ∧
      let cur := toInt p.1.width (s.wget p.1)
      let tgt := toInt p.1.width (s.get p.1)
      toInt p.1.width ((s.applyTx ch).wget p.1) =
        if tgt > cur + (p.2 : Nat) then cur + (p.2 : Nat) else if tgt < cur - (p.2 : Nat) then cur - (p.2 : Nat) else tgt) ∧
    (∀ p ∈ [(R.RX_IQ_PHASE ch, 16), (R.RX_IQ_GAIN ch, 16)],
      (s.applyRx ch).get p.1 = s.get p.1 ∧
      let cur := toInt p.1.width (s.wget p.1)
      let tgt := toInt p.1.width (s.get p.1)
      toInt p.1.width ((s.applyRx ch).wget p.1) =
        if tgt > cur + (p.2 : Nat) then cur + (p.2 : Nat) else if tgt < cur - (p.2 : Nat) then cur - (p.2 : Nat) else tgt) ∧
    (∀ t ∈ [s.applyTx ch, s.applyRx ch], t.flag (R.CH_STATUS_CORR_SLEWING ch) = true ↔
      ∃ a ∈ [R.TX_IQ ch, R.RX_IQ ch, R.TX_LOL ch], t.wrk a ≠ t.reg a) ∧
    (∀ (mid : Nat) (v : Word),
      (s.activeOn .dl (quadOf ch) ≠ [] → ∀ a ∈ [R.TX_IQ ch, R.TX_LOL ch],
        ∃ t : State, exec (.registerWrite mid a v) s = .next t ∧ t.work = s.work ∧ (a = R.TX_IQ ch → t.reg a = v) ∧
          (t.flag (R.CH_STATUS_CORR_SLEWING ch) = true ↔ ∃ b ∈ [R.TX_IQ ch, R.RX_IQ ch, R.TX_LOL ch], t.wrk b ≠ t.reg b)) ∧
      (s.activeOn .ul (quadOf ch) ≠ [] →
        ∃ t : State, exec (.registerWrite mid (R.RX_IQ ch) v) s = .next t ∧ t.work = s.work ∧ t.reg (R.RX_IQ ch) = v ∧
          (t.flag (R.CH_STATUS_CORR_SLEWING ch) = true ↔ ∃ b ∈ [R.TX_IQ ch, R.RX_IQ ch, R.TX_LOL ch], t.wrk b ≠ t.reg b)))

/-- SYMBOL_BOUNDARY (R186) and FRAME_BOUNDARY (R183): `slotBoundary` and `nextFrame` are the instants of R183 to R186. -/
def Obligations.BoundariesOpenSymbolsAndEnableSlots : Prop :=
  (∀ (d : Dir) (cs : Nat) (l : List ChainSamples) (ecc : List (Nat × EccFinding)) (s : State), cs < 8 →
    s.bound.syms.length = 16 →
    (s.active d cs = true → ∃ t o, exec (.symbolBoundary d cs l ecc) s = .next t ∧ t.openSym d cs = some o ∧
      (o.start, o.frame, o.sym) = s.slotBoundary d cs) ∧
    (s.active d cs = false → s.openSym d cs = none → exec (.symbolBoundary d cs l ecc) s = .next s) ∧
    (s.active d cs = false → s.openSym d cs ≠ none →
      ∃ t : State, exec (.symbolBoundary d cs l ecc) s = .next t ∧ t.openSym d cs = none)) ∧
  (∀ (s : State) (d : Dir), s.bound.frameAt.length = 2 →
    let b := (s.nextFrame d (if s.bound.frameAt.getD (dirIx d) none = some s.now then s.now else s.now - 1)).1
    ∃ t : State, exec (.frameBoundary d) s = .next t ∧ t.bound.frameAt.getD (dirIx d) none = some b ∧
      (d = .ul → (s.tm.stepAt = none → s.tm.carriersHeld = false → ∀ cs, cs < 8 → t.active .ul cs = s.slotEn .ul cs) ∧
        (∀ o, o < 4 → t.wrk (R.PR_CTRL o) = s.reg (R.PR_CTRL o) ∧ t.wrk (R.PR_START o) = s.reg (R.PR_START o) ∧
          t.wrk (R.PR_CP o) = s.reg (R.PR_CP o) ∧ t.wrk (R.PR_FOFF o) = s.reg (R.PR_FOFF o))) ∧
      (d = .dl → ∀ c, s.slot.swapAt = some c → c ≤ b → s.bank < 2 → t.get R.SLOT_STATUS_BANK_ACT = 1 - s.bank))

/-- R199, for every entry of both banks and both SLOT_MU, by any master. -/
def Obligations.SlotTableWritesGoToTheShadowBank : Prop :=
  (∀ (mid b : Nat) (v : Word) (s : State) (a : Nat), b < 2 → (a = R.SLOT_MU b ∨ ∃ e, e < 2048 ∧ a = R.SLOT_TBL b e) →
    (b = s.bank → exec (.registerWrite mid a v) s = .next (s.raise R.SLOT_STATUS_ACT_WR)) ∧
    (b ≠ s.bank → (s.flag R.SLOT_STATUS_CHECK_BUSY = true ∨ s.flag R.SLOT_STATUS_COMMIT_PEND = true ∨
        s.flag R.SLOT_STATUS_COPY_BUSY = true) →
      exec (.registerWrite mid a v) s = .next (s.raise R.SLOT_STATUS_SHD_LOCK)) ∧
    (b ≠ s.bank → s.flag R.SLOT_STATUS_CHECK_BUSY = false → s.flag R.SLOT_STATUS_COMMIT_PEND = false →
      s.flag R.SLOT_STATUS_COPY_BUSY = false →
      ∃ t : State, exec (.registerWrite mid a v) s = .next t ∧ t = { s with regs := t.regs } ∧ (∀ k, k ≠ a → t.reg k = s.reg k) ∧
        (a = R.SLOT_MU b → t.get (R.SLOT_MU_TBL_MU b) = v.toNat % 4) ∧
        (a ≠ R.SLOT_MU b → bits (t.reg a).toNat 6 0 = bits v.toNat 6 0 ∧ bits (t.reg a).toNat 11 8 = bits v.toNat 11 8))) ∧
  (∀ o ∈ [0x0700, 0x0701, 0x0702, 0x0710, 0x0711], (opRow o).map (·.who) = some .priv)

/-- SLOT_CTRL COMMIT, CANCEL and COPY, SLOT_CHECK_DONE and SLOT_COPY_DONE (R200 to R202). -/
def Obligations.SlotTableCommitCancelCopy : Prop :=
  ∀ s : State,
    ((s.flag R.SLOT_STATUS_CHECK_BUSY = true ∨ s.flag R.SLOT_STATUS_COMMIT_PEND = true) → exec .slotCtrlCommit s = .next s) ∧
    (s.flag R.SLOT_STATUS_CHECK_BUSY = false → s.flag R.SLOT_STATUS_COMMIT_PEND = false →
      (s.flag R.SLOT_STATUS_COPY_BUSY = true → exec .slotCtrlCommit s = .next { s with slot := { s.slot with commitWaits := true } }) ∧
      (s.flag R.SLOT_STATUS_COPY_BUSY = false → ∃ t : State, exec .slotCtrlCommit s = .next t ∧ t.flag R.SLOT_STATUS_CHECK_BUSY = true ∧
        t.slot = { s.slot with checkAt := some s.now, checkFail := s.slotCheck, cancelWaits := false, commitWaits := false } ∧
        t = { s with regs := t.regs, slot := t.slot } ∧ ∀ a, a ≠ R.SLOT_STATUS → t.reg a = s.reg a)) ∧
    -- the end of the check
    (s.slot.checkAt = none → s.slot.job = none → exec .slotCheckDone s = .next s) ∧
    (∀ c, s.slot.checkAt = some c → s.slot.job = none →
      (∀ e, s.slot.checkFail = some e → e < 2048 → ∃ t : State, exec .slotCheckDone s = .next t ∧ t.now = max s.now (c + 2048) ∧
        t.flag R.SLOT_STATUS_CHECK_BUSY = false ∧ t.flag R.SLOT_STATUS_CHECK_FAIL = true ∧ t.get R.SLOT_STATUS_FAIL_IDX = e ∧
        t.flag R.SLOT_STATUS_COMMIT_PEND = s.flag R.SLOT_STATUS_COMMIT_PEND ∧ t.slot.checkAt = none ∧
        t = { s with regs := t.regs, slot := t.slot, now := t.now } ∧ ∀ a, a ≠ R.SLOT_STATUS → t.reg a = s.reg a) ∧
      (s.slot.checkFail = none → s.slot.cancelWaits = false → ∃ t : State, exec .slotCheckDone s = .next t ∧
        t.now = max s.now (c + 2048) ∧ t.flag R.SLOT_STATUS_CHECK_BUSY = false ∧ t.flag R.SLOT_STATUS_COMMIT_PEND = true ∧
        t.slot.swapAt = some (({ s with now := t.now }).swapFor c) ∧
        t = { s with regs := t.regs, slot := t.slot, now := t.now } ∧ ∀ a, a ≠ R.SLOT_STATUS → t.reg a = s.reg a) ∧
      (s.slot.checkFail = none → s.slot.cancelWaits = true → ∃ t : State, exec .slotCheckDone s = .next t ∧
        t.flag R.SLOT_STATUS_CHECK_BUSY = false ∧ t.flag R.SLOT_STATUS_COMMIT_PEND = false ∧ t.slot.swapAt = none)) ∧
    -- CANCEL
    (s.flag R.SLOT_STATUS_CHECK_BUSY = true → exec .slotCtrlCancel s = .next { s with slot := { s.slot with cancelWaits := true } }) ∧
    (s.flag R.SLOT_STATUS_CHECK_BUSY = false → s.slot.swapAt = none → exec .slotCtrlCancel s = .next s) ∧
    (∀ b, s.flag R.SLOT_STATUS_CHECK_BUSY = false → s.slot.swapAt = some b →
      (b < s.now + 24576 → exec .slotCtrlCancel s = .next (s.raise R.LP_STATUS_WR_REFUSED)) ∧
      (s.now + 24576 ≤ b → ∃ t : State, exec .slotCtrlCancel s = .next t ∧ t.flag R.SLOT_STATUS_COMMIT_PEND = false ∧ t.slot.swapAt = none ∧
        t.slot.job = none ∧ t.mem = s.mem ∧ ∀ a, a ≠ R.SLOT_STATUS → (∀ x, a ≠ R.SESS_STAT x) → a ≠ R.CMD_CNT3 → t.reg a = s.reg a)) ∧
    -- COPY
    ((s.flag R.SLOT_STATUS_CHECK_BUSY = true ∨ s.flag R.SLOT_STATUS_COMMIT_PEND = true) →
      exec .slotCtrlCopy s = .next (s.raise R.LP_STATUS_WR_REFUSED)) ∧
    (s.flag R.SLOT_STATUS_CHECK_BUSY = false → s.flag R.SLOT_STATUS_COMMIT_PEND = false → s.flag R.SLOT_STATUS_COPY_BUSY = false →
      s.bank < 2 → ∃ t : State, exec .slotCtrlCopy s = .next t ∧ t.flag R.SLOT_STATUS_COPY_BUSY = true ∧ t.slot.copyAt = some s.now ∧
        t.get (R.SLOT_MU_TBL_MU (1 - s.bank)) = s.get (R.SLOT_MU_TBL_MU s.bank) ∧
        ∀ a, a ≠ R.SLOT_STATUS → a ≠ R.SLOT_MU (1 - s.bank) → t.reg a = s.reg a) ∧
    (s.slot.copyAt = none → exec .slotCopyDone s = .next s) ∧
    (∀ c, s.slot.copyAt = some c → s.bank < 2 → s.slot.commitWaits = false → ∃ t : State, exec .slotCopyDone s = .next t ∧
      t.now = max s.now (c + 2048) ∧ t.flag R.SLOT_STATUS_COPY_BUSY = false ∧ t.slot.copyAt = none ∧
      (∀ e, e < 2048 → t.entry (1 - s.bank) e = s.entry s.bank e) ∧
      ∀ a, a ≠ R.SLOT_STATUS → (∀ e, e < 2048 → a ≠ R.SLOT_TBL (1 - s.bank) e) → t.reg a = s.reg a)

/-- CS_EN_WRITE (R179, R180): `enCheck` is the code of the first check of R179 that fails, 0 for none. -/
def Obligations.CarrierSlotEnable : Prop :=
  ∀ (d : Dir) (cs : Nat) (v : Bool) (s : State), cs < 8 →
    (s.slotEn d cs = v → exec (.csEnWrite d cs v) s = .next s) ∧
    (s.slotEn d cs ≠ v → (v = true → s.enCheck d cs = 0) → ∃ t : State, exec (.csEnWrite d cs v) s = .next t ∧
      t.slotEn d cs = v ∧ t.active d cs = s.active d cs ∧ (∃ j ∈ t.enJobs, j.d = dirIx d ∧ j.cs = cs ∧ j.cmd = none) ∧
      t.mem = s.mem ∧ t.work = s.work ∧
      ∀ a, a ≠ R.CS_CFG (dirIx d) cs → (∀ x, a ≠ R.SESS_STAT x) → a ≠ R.CMD_CNT3 → t.reg a = s.reg a) ∧
    (v = true → s.slotEn d cs = false → s.enCheck d cs ≠ 0 → ∃ t : State, exec (.csEnWrite d cs v) s = .next t ∧
      t.get R.LP_STATUS_REFUSE = s.enCheck d cs ∧ t.flag R.LP_STATUS_WR_REFUSED = true ∧ t = { s with regs := t.regs } ∧
      ∀ a, a ≠ R.LP_STATUS → t.reg a = s.reg a)

/-- TUNE_GO (R99 to R101, R108), QUIET_WINDOW_RETUNE (R105), TUNE_WAIT_TIMEOUT (R106). -/
def Obligations.TuneSubmission : Prop :=
  (∀ s : State,
    let t := s.stagedTune none
    let b := s.afterRetune
    (b.tuneCheck t true ≠ .ok → exec .tuneGo s = .next (s.put R.TUNE_CMD_RESULT (statusCode (b.tuneCheck t true)))) ∧
    (b.tuneCheck t true = .ok → b.tuneIdle t = true → exec .tuneGo s = .next (s.put R.TUNE_CMD_RESULT 0)) ∧
    (b.tuneCheck t true = .ok → b.tuneIdle t = false → s.radioPowered = false → ∃ u : State, exec .tuneGo s = .next u ∧ u.get R.TUNE_CMD_RESULT = 0 ∧
      u.lo.tune = s.lo.tune ∧
      ∀ q, q < 4 → t.qmask.testBit q = true → u.tuned q = true ∧ u.get (R.QLO_CFG_DIV q) = t.divs.getD q 0 % 8) ∧
    (s.tuneCheck t true = .ok → s.tuneIdle t = false → s.radioPowered = true → s.lo.tune = none → s.recovering = false → s.split = false →
      s.synState s.standby ≠ synOos → (s.synState s.standby = synReady → (s.syn s.standby).job ≠ .tune) →
      ∃ u p, exec .tuneGo s = .next u ∧ u.get R.TUNE_CMD_RESULT = 1 ∧ u.synState s.standby = synCal ∧
        u.synNF s.standby = (s.get R.TUNE_CFG_N, s.get R.TUNE_F_F) ∧ u.lo.tune = some p ∧ p.phase = .calibrating ∧
        p.syn = s.standby ∧ u.flag R.LO_STATUS_TUNE_BUSY = true ∧ u.flag R.LO_STATUS_TUNE_WAIT = false ∧
        u.synState s.activeSyn = s.synState s.activeSyn ∧ u.mem = s.mem ∧ u.out = s.out)) ∧
  (∀ (s : State) (t : Tune) (c : Nat), s.lo.tune = some t → t.phase = .window → t.syn < 2 → s.aligned = true → s.synState t.syn ≠ synOos →
    s.findWindow (if s.split then t.qmask else 15) (s.tuneDeadline t) 20000 s.now = some c →
    ∃ u : State, exec .quietWindowRetune s = .next u ∧ u.now = max s.now c ∧ u.synState t.syn = synCal ∧
      u.lo.tune = some { t with phase := .retuning, wasN := (s.synNF t.syn).1, wasF := (s.synNF t.syn).2 } ∧
      ∀ q, q < 4 → (if s.split then t.qmask else 15).testBit q = true → u.fbit R.LO_STATUS_LO_READY q = false) ∧
  (∀ s : State, (∀ t, s.lo.tune = some t → t.phase ≠ .window) → exec .quietWindowRetune s = .next s) ∧
  (∀ (s : State) (t : Tune), s.lo.tune = some t → (t.phase = .boundary ∨ t.phase = .window) → s.lo.waiting = none →
    ∃ u : State, exec .tuneWaitTimeout s = .next u ∧ u.now = max s.now (s.tuneDeadline t) ∧ u.lo.tune = none ∧
      u.get R.TUNE_CMD_RESULT = 0x61 ∧ u.flag R.LO_STATUS_TUNE_BUSY = false ∧ u.mem = s.mem) ∧
  (∀ s : State, (∀ t, s.lo.tune = some t → t.phase ≠ .window ∧ t.phase ≠ .boundary) → exec .tuneWaitTimeout s = .next s)

/-- SWITCH_OVER (R101, R103), SWITCH_OVER_TRANSIENT_END, BAND_SETTLE_DONE (R56), QUADRANT_RELOCK (R116, R125). -/
def Obligations.SwitchOverOfSynthesisers : Prop :=
  (∀ s : State, (∀ t, s.lo.tune = some t → t.phase ≠ .boundary) → (s.lo.tune = none → s.lo.swapPend = false) →
    s.cal.job = none → exec .switchOver s = .next s) ∧
  (∀ (s : State) (t : Tune) (c : Nat), s.lo.tune = some t → t.phase = .boundary → t.syn < 2 → s.split = false → s.synState t.syn = synReady →
    let qs := (List.range 4).filter fun q => t.qmask.testBit q || s.tuned q
    let from0 := if t.atEn then (s.frameStart (frameFrom t.goFrame t.frame)).toNat else 0
    s.findSwitch qs (s.bandMoves qs t.code) from0 4096 (max (max (s.now - 1) (from0 - 1)) ((s.syn t.syn).calAt.getD 0)) = some c →
    c ≤ s.tuneDeadline t → ∃ u : State, exec .switchOver s = .next u ∧ u.now = max s.now c ∧
      u.lo.tune = some { t with phase := .transient, doneAt := max s.now c } ∧ (∀ q, q < 4 → u.src q = t.syn) ∧
      u.synState t.syn = synActive ∧ ((∀ i, i < 2 → (s.syn i).drift = false) → u.flag R.LO_STATUS_DRIFT = false) ∧
      ∀ q, q < 4 → t.qmask.testBit q = true → u.tuned q = true ∧ u.get (R.QLO_CFG_DIV q) = t.divs.getD q 0 % 8) ∧
  (∀ (s : State) (t : Tune), s.lo.tune = some t → t.phase = .transient → t.syn < 2 → s.lo.waiting = none →
    ∃ u : State, exec .switchOverTransientEnd s = .next u ∧ u.now = max s.now (t.doneAt + 24) ∧ u.lo.tune = none ∧
      u.get R.TUNE_CMD_RESULT = 0 ∧ (s.synState (1 - t.syn) = synActive → u.synState (1 - t.syn) = synReady) ∧
      u.synState t.syn = s.synState t.syn) ∧
  (∀ s : State, (∀ t, s.lo.tune = some t → t.phase ≠ .transient) → (s.lo.tune = none → s.lo.swapAt = none) →
    exec .switchOverTransientEnd s = .next s) ∧
  (∀ (s : State) (q c : Nat), q < 4 → s.lo.settleEnd.length = 4 → s.lo.settleEnd.getD q none = some c → s.lo.tune = none →
    ∃ u : State, exec (.bandSettleDone q) s = .next u ∧ u.now = max s.now c ∧ u.lo.settleEnd.getD q none = none ∧
      (∀ k, k < 4 → u.fbit R.LO_STATUS_LO_READY k = u.loReadyNow k) ∧ u.mem = s.mem) ∧
  (∀ (s : State) (q : Nat), s.lo.settleEnd.getD q none = none → exec (.bandSettleDone q) s = .next s) ∧
  (∀ (s : State) (q : Nat) (bad : Bool), q < 4 →
    (s.radioPowered = true → s.quadGated q = false → ∃ u : State, exec (.quadrantRelock q bad) s = .next u.moveCheck ∧
      u.fbit R.DFE_STATUS_CONV_LOCK q = true ∧ u.lo.relockQ = setBit s.lo.relockQ q false ∧
      (s.synState (s.src q) = synActive → s.tuned q = true → u.fbit R.LO_STATUS_QLO_LOCK q = true ∧
        ∀ ch, quadOf ch = q → u.get (R.CH_STATUS_BAND ch) = bandOf (s.loCode q)) ∧
      (bad = true → u.fbit R.LK_RING_RING (4 + q) = true) ∧
      ∀ k, k < 4 → u.fbit R.LO_STATUS_LO_READY k = u.loReadyNow k) ∧
    (s.radioPowered = false ∨ s.quadGated q = true → exec (.quadrantRelock q false) s = .next s.moveCheck))

/-- SYN_CAL_DONE and SYN_CAL_TIMEOUT (R97), LO_UNLOCK (R113), LO_DRIFT (R115), MIRROR_RECALIBRATION (R98). -/
def Obligations.SynthesiserCalibrationAndLockLoss : Prop :=
  (∀ (s : State) (k : Nat), s.synState k ≠ synCal → exec (.synCalDone k) s = .next s.moveCheck ∧
    exec (.synCalTimeout k) s = .next s.moveCheck) ∧
  (∀ (s : State) (k : Nat) (t : Tune), k < 2 → s.lo.syns.length = 2 → s.synState k = synCal → (s.syn k).calAt ≠ none →
    (s.syn k).job = .tune → s.lo.tune = some t → ∃ u : State, exec (.synCalDone k) s = .next u.moveCheck ∧ u.synState k = synReady ∧
      u.synState (1 - k) = s.synState (1 - k) ∧ u.lo.tune = some { t with phase := .boundary } ∧ (u.syn k).fails = 0 ∧
      u.flag R.LO_STATUS_TUNE_WAIT = true ∧ u = { s with regs := u.regs, lo := u.lo } ∧ ∀ a, a ≠ R.LO_STATUS → u.reg a = s.reg a) ∧
  (∀ (s : State) (k : Nat), k < 2 → s.lo.syns.length = 2 → s.synState k = synCal → (s.syn k).calAt ≠ none →
    ((s.syn k).job = .mirror → ∃ u : State, exec (.synCalDone k) s = .next u.moveCheck ∧
      u.synState k = (if s.flag R.LO_CTRL_STBY_MIRROR ∧ s.synNF k = s.synNF (1 - k) then synMirror else synReady) ∧
      ∀ a, a ≠ R.LO_STATUS → u.reg a = s.reg a) ∧
    ((s.syn k).job = .drift → ∃ u : State, exec (.synCalDone k) s = .next u.moveCheck ∧ u.synState k = synReady ∧ u.lo.swapPend = true ∧
      ∀ a, a ≠ R.LO_STATUS → u.reg a = s.reg a)) ∧
  (∀ (s : State) (k c : Nat), k < 2 → s.lo.syns.length = 2 → s.synState k = synCal → (s.syn k).calAt = some c → (s.syn k).job ≠ .recover → s.lo.waiting = none →
    ∃ u : State, exec (.synCalTimeout k) s = .next u.moveCheck ∧ u.now = max s.now (c + 14745) ∧
      u.synState k = (if 2 ≤ (s.syn k).fails + 1 then synOos else synFailed) ∧ (u.syn k).fails = (s.syn k).fails + 1 ∧
      (u.syn k).calAt = none) ∧
  (∀ (s : State) (q : Nat), q < 4 → ∃ u : State, exec (.loUnlock (q + 2)) s = .next u ∧ u.fbit R.LO_STATUS_QLO_LOCK q = false ∧
    u.fbit R.LO_STATUS_LO_READY q = false ∧ u.lo.relockQ.testBit q = true ∧ u.get R.LO_STATUS_SYNA_STATE = s.get R.LO_STATUS_SYNA_STATE) ∧
  (∀ (s : State) (k : Nat), k < 2 → s.lo.syns.length = 2 → s.aligned = true → (s.synState k = synReady ∨ s.synState k = synMirror) →
    ∃ u : State, exec (.loUnlock k) s = .next u ∧ u.synState k = synCal ∧ (u.syn k).calAt = some s.now ∧
      u.get (if k = 0 then R.SYN_CNT_SYNA_UNLOCK else R.SYN_CNT_SYNB_UNLOCK) =
        min (s.get (if k = 0 then R.SYN_CNT_SYNA_UNLOCK else R.SYN_CNT_SYNB_UNLOCK) + 1) 255) ∧
  (∀ (s : State) (k : Nat), k < 2 → s.lo.syns.length = 2 →
    (s.synState k ≠ synActive → exec (.loDrift k) s = .next s) ∧
    (s.synState k = synActive → ∃ u : State, exec (.loDrift k) s = .next u ∧ u.flag R.LO_STATUS_DRIFT = true ∧
      (s.split = true ∨ k = s.activeSyn → u.synState k = synActive) ∧ u.mem = s.mem)) ∧
  (∀ s : State, s.aligned = true → s.lo.syns.length = 2 →
    (s.split = false → s.flag R.LO_CTRL_STBY_MIRROR = true → s.lo.tune = none → s.lo.swapPend = false →
      s.synState s.standby = synReady → s.synState s.activeSyn = synActive →
      ∃ u : State, exec .mirrorRecalibration s = .next u ∧ u.synState s.standby = synCal ∧ u.synNF s.standby = s.synNF s.activeSyn ∧
        (u.syn s.standby).job = .mirror ∧ u.synState s.activeSyn = synActive) ∧
    (s.split = true ∨ s.flag R.LO_CTRL_STBY_MIRROR = false ∨ s.lo.tune ≠ none ∨ s.synState s.standby ≠ synReady →
      exec .mirrorRecalibration s = .next s))

/-- ARR_ARM_WRITE and ARRSYNC_EDGE (R89), LO_MODE_WRITE (R94, R587). -/
def Obligations.ArrayEpochAndLoMode : Prop :=
  ∀ s : State,
    (s.carriersActive = true → exec .arrArmWrite s = .next (s.raise R.LO_STATUS_WR_REFUSED)) ∧
    (s.carriersActive = false → exec .arrArmWrite s = .next (s.raise R.LO_CTRL_ARR_ARM)) ∧
    (s.flag R.LO_CTRL_ARR_ARM = false → exec .arrsyncEdge s = .next (s.count R.SYN_CNT_ARR_IGNORED)) ∧
    (s.flag R.LO_CTRL_ARR_ARM = true → ∃ t : State, exec .arrsyncEdge s = .next t ∧ t.aligned = true ∧ t.flag R.LO_CTRL_ARR_ARM = false ∧
      t.tm.epoch = s.alignEdge ∧ t.lo.armJob = none ∧ t.mem = s.mem) ∧
    (∀ split, split = s.split → exec (.loModeWrite split) s = .next s) ∧
    (∀ split, split ≠ s.split → s.carriersActive = true → exec (.loModeWrite split) s = .next (s.raise R.LO_STATUS_WR_REFUSED)) ∧
    (s.split = false → s.carriersActive = false → exec (.loModeWrite true) s = .next (s.put R.LO_CTRL_MODE 1)) ∧
    (s.split = true → s.carriersActive = false → (s.serves 0 = 15 ∨ s.serves 1 = 15) →
      exec (.loModeWrite false) s = .next (s.put R.LO_CTRL_MODE 0)) ∧
    (s.split = true → s.carriersActive = false → s.serves 0 ≠ 15 → s.serves 1 ≠ 15 →
      exec (.loModeWrite false) s = .next (s.raise R.LO_STATUS_WR_REFUSED))

/-- CONV_UNLOCK, CONV_PLL_RELOCK (R125), CONV_RELOCK_TIMEOUT (R541), CS_RF_COMMIT (R128, R129). -/
def Obligations.ConverterLossAndCarrierFrequency : Prop :=
  (∀ (q : Nat) (s : State), q < 4 → s.dfe.convLost.length = 4 → ∃ u v : State,
    exec (.convUnlock q) s = .next v.settle ∧
    u = { s with regs := u.regs, dfe := u.dfe } ∧ u.fbit R.DFE_STATUS_CONV_LOCK q = false ∧ u.fbit R.DFE_STATUS_CONV_UNLOCK q = true ∧
    (∀ a, a ≠ R.DFE_STATUS → u.reg a = s.reg a) ∧ u.dfe.convLost.getD q 9 = 0 ∧ u.dfe.caps = s.dfe.caps ∧
    v.hold.convHold.testBit q = true ∧ v = { ((u.report (mkReport 0x09 .clsU 0x0010 q)).event (.convUnlock q)) with hold := v.hold }) ∧
  (∀ (q : Nat) (s : State), q < 4 →
    (s.radioPowered = true → s.quadGated q = false → ∃ u : State, exec (.convPllRelock q) s = .next u.moveCheck ∧
      u = { s with regs := u.regs } ∧ u.fbit R.DFE_STATUS_CONV_LOCK q = true ∧ ∀ a, a ≠ R.DFE_STATUS → u.reg a = s.reg a) ∧
    (s.radioPowered = false ∨ s.quadGated q = true → exec (.convPllRelock q) s = .next s.moveCheck)) ∧
  (∀ (q : Nat) (s : State), q < 4 →
    (s.hold.convHold.testBit q = true → s.fbit R.DFE_STATUS_CONV_LOCK q = false → s.hold.convDead.testBit q = false →
      2 ≤ s.dfe.convLost.getD q 0 → ∃ u : State, exec (.convRelockTimeout q) s = .next (u.report (mkReport 0x09 .clsF 1 q)).settle ∧
        u.hold.convDead.testBit q = true ∧ u.dfe.convLost.getD q 0 = 3 ∧ u = { s with hold := u.hold, dfe := u.dfe }) ∧
    (s.hold.convHold.testBit q = false ∨ s.fbit R.DFE_STATUS_CONV_LOCK q = true ∨ s.hold.convDead.testBit q = true →
      exec (.convRelockTimeout q) s = .next s)) ∧
  (∀ (d : Dir) (cs hi : Nat) (s : State), cs < 8 →
    let code := hi % 2 ^ 10 * 2 ^ 32 + s.get (R.CS_RF_LO_CODE_LO (dirIx d) cs)
    (s.rfOk (dirIx d) cs code = false → exec (.csRfCommit d cs hi) s = .next (s.raise R.DFE_STATUS_WR_REFUSED)) ∧
    (s.rfOk (dirIx d) cs code = true → ∃ t : State, exec (.csRfCommit d cs hi) s = .next t ∧
      t = { s with regs := t.regs, work := t.work, rfPend := t.rfPend, sig := t.sig } ∧ t.get (R.CS_RF_HI_CODE_HI (dirIx d) cs) = hi % 2 ^ 10 ∧
      (s.flag (R.CS_CFG_EN_NOW (dirIx d) cs) = true → { d := dirIx d, cs := cs, code := code } ∈ t.rfPend ∧ t.work = s.work ∧
        ∀ a, a ≠ R.CS_RF_HI (dirIx d) cs → t.reg a = s.reg a) ∧
      (s.flag (R.CS_CFG_EN_NOW (dirIx d) cs) = false → t.carrierCode (dirIx d) cs = code ∧
        ∀ q, q < 4 → t.get (R.NCO_NOW_LO_FTW_LO (dirIx d) q cs) = ofInt 64 ((code : Int) - s.loCode q) % 2 ^ 32)))

/-- CAPTURE_GO, CAPTURE_START, CAPTURE_DONE, CAPTURE_TIMEOUT, CAP_ABORT_WRITE (R140 to R144), ORXSEL_DRIVE (R138), PLAYBACK_START and
PLAYBACK_STOP (R146). An engine is unpaired where neither it nor its even neighbour has PAIR set (R143). -/
def Obligations.CapturesAndPlayback : Prop :=
  (∀ (k : Nat) (s : State), k < 8 → s.dfe.caps.length = 8 →
    (k % 2 = 0 → s.flag (R.CAP_CFG_PAIR k) = false) → (k % 2 = 1 → s.flag (R.CAP_CFG_PAIR (k - 1)) = false) →
    (s.capState k = 1 ∨ s.capState k = 2 → exec (.captureGo k) s = .next (s.raise R.DFE_STATUS_WR_REFUSED)) ∧
    (s.capState k ≠ 1 → s.capState k ≠ 2 → ∃ t : State, exec (.captureGo k) s = .next t ∧ t = { s with regs := t.regs, dfe := t.dfe } ∧
      (∀ a, a ≠ R.CAP_STAT k → a ≠ R.CAP_COUNT k → t.reg a = s.reg a) ∧ t.get (R.CAP_COUNT_COUNT k) = 0 ∧
      (∀ j, j < 8 → j ≠ k → t.cap j = s.cap j) ∧
      t.capState k = (if s.capOk k then 1 else 7) ∧ t.flag (R.CAP_STAT_DONE k) = !s.capOk k)) ∧
  (∀ (k : Nat) (s : State), k < 8 → s.capState k ≠ 1 ∨ s.get (R.CAP_CFG_TAP k) ≠ 4 ∨ (s.cap k).startAt ≠ none →
    exec (.orxselDrive k) s = .next s) ∧
  (∀ (k b : Nat) (s : State), k < 8 → s.dfe.caps.length = 8 → s.capState k = 1 → s.get (R.CAP_CFG_TAP k) = 4 → (s.cap k).startAt = none →
    (s.cap k).paired = false → s.capStart k s.now 0 = some b → s.get R.CAL_STATUS_SW_NOW = 0 →
    (∀ j, j < 8 → j ≠ k → s.capState j ≠ 1 ∧ s.capState j ≠ 2) →
    let n := s.get (R.CAP_CFG_CH k) / 8
    ∃ t : State, exec (.orxselDrive k) s = .next t ∧ t = { s with now := t.now, regs := t.regs, dfe := t.dfe } ∧
      t.now = max s.now (b - s.get (R.ORX_CFG_SETTLE n)) ∧ t.get (R.ORX_CFG_SEL_NOW n) = s.get (R.CAP_CFG_CH k) % 8 ∧
      (t.cap k).startAt = some b ∧ ∀ a, a ≠ R.ORX_CFG n → t.reg a = s.reg a) ∧
  (∀ (k b : Nat) (l l2 : List (Int × Int)) (s : State), k < 8 → s.dfe.caps.length = 8 → (s.cap k).paired = false →
    (s.capState k ≠ 1 → exec (.captureStart k l l2) s = .next s) ∧
    (s.capState k = 1 → (s.get (R.CAP_CFG_TAP k) = 4 → (s.cap k).startAt = some b) →
      (s.get (R.CAP_CFG_TAP k) ≠ 4 → s.capStart k s.now 0 = some b) →
      ∃ t : State, exec (.captureStart k l l2) s = .next t ∧ t = { s with now := t.now, regs := t.regs, dfe := t.dfe } ∧
        t.now = max s.now b ∧ t.capState k = 2 ∧ t.flag (R.CAP_STAT_LO_EVT k) = false ∧ (t.cap k).startAt = some b ∧
        (t.cap k).samples = l ∧ ∀ j, j < 8 → j ≠ k → t.cap j = s.cap j)) ∧
  (∀ (k b : Nat) (s : State), k < 8 → s.dfe.caps.length = 8 → s.capState k = 2 → (s.cap k).startAt = some b →
    let len := s.get (R.CAP_LEN_LEN k) + 1
    let at0 := s.get (R.CAP_ADDR_ADDR k) * 32
    ∃ t : State, exec (.captureDone k) s = .next t ∧ t.now = max s.now (b + s.capCycles k) ∧ t.capState k = 3 ∧
      t.get (R.CAP_COUNT_COUNT k) = len ∧ t.flag (R.CAP_STAT_DONE k) = true ∧ (t.cap k).startAt = none ∧
      (∀ a, a < at0 ∨ at0 + 4 * len ≤ a → t.byte a = s.byte a) ∧
      ∀ i p, i < len → (s.cap k).samples[i]? = some p →
        t.bytes (at0 + 4 * i) 4 = leBytes 4 (capComp (s.get (R.CAP_CFG_TAP k)) p.1 + capComp (s.get (R.CAP_CFG_TAP k)) p.2 * 65536)) ∧
  (∀ (k : Nat) (s : State), k < 8 → s.capState k ≠ 2 ∨ (s.cap k).startAt = none → exec (.captureDone k) s = .next s) ∧
  (∀ (k : Nat) (s : State), k < 8 → s.dfe.caps.length = 8 →
    (s.capState k = 1 → ∃ t : State, exec (.captureTimeout k) s = .next t ∧ t.now = max s.now (s.capDeadline k) ∧ t.capState k = 6 ∧
      t.get (R.CAP_COUNT_COUNT k) = 0 ∧ t.flag (R.CAP_STAT_DONE k) = true ∧ t.mem = s.mem) ∧
    (s.capState k ≠ 1 → exec (.captureTimeout k) s = .next s) ∧
    (s.capState k = 1 ∨ s.capState k = 2 → ∃ t : State, exec (.capAbortWrite k) s = .next t ∧ t.now = s.now ∧ t.capState k = 5 ∧
      t.get (R.CAP_COUNT_COUNT k) = (if s.capState k = 2 then s.capSoFar k s.now else 0) ∧ t.flag (R.CAP_STAT_DONE k) = true) ∧
    (s.capState k ≠ 1 → s.capState k ≠ 2 → exec (.capAbortWrite k) s = .next s)) ∧
  (∀ s : State,
    (s.partOverlap = true → exec .playbackStart s = .next (s.raise R.DFE_STATUS_WR_REFUSED)) ∧
    (s.partOverlap = false → ∃ t : State, exec .playbackStart s = .next t ∧ t = { s with dfe := t.dfe } ∧ t.dfe.pbArm = true ∧
      t.dfe.pbStop = false ∧ t.dfe.caps = s.dfe.caps ∧ t.dfe.pbPtr = if s.flag R.PB_CTRL_RUN then s.dfe.pbPtr else 0) ∧
    exec .playbackStop s = .next { s with dfe := { s.dfe with pbArm := false, pbStop := s.flag R.PB_CTRL_RUN } })

/-- MEM_RETIRE_GO, RETIRE_COPY_DONE (R479), MAINTENANCE_CYCLE (R476), PATROL_READ (R474, R477). -/
def Obligations.MemoriesPatrolAndRetirement : Prop :=
  (∀ (b : Nat) (s : State), b < 64 →
    (s.memx.retire ≠ none ∨ (∀ k, k < 2 → s.memx.spent.testBit k = true ∨ s.flag (R.MEM_SPARE_USED k) = true) →
      ∃ t : State, exec (.memRetireGo b) s = .next t ∧ t = { s with regs := t.regs } ∧
        t.get R.MEM_RETIRE_RESULT = statusCode .stateConflict ∧ ∀ a, a ≠ R.MEM_RETIRE → t.reg a = s.reg a) ∧
    (∀ k, k < 2 → s.memx.retire = none → s.memx.spent.testBit k = false → s.flag (R.MEM_SPARE_USED k) = false →
      (k = 1 → s.memx.spent.testBit 0 = true ∨ s.flag (R.MEM_SPARE_USED 0) = true) →
      ∃ t : State, exec (.memRetireGo b) s = .next t ∧ t = { s with regs := t.regs, memx := t.memx } ∧
        t.get R.MEM_RETIRE_RESULT = statusCode .accepted ∧ t.flag (R.MEM_SPARE_COPYING k) = true ∧ t.get (R.MEM_SPARE_BANK k) = b ∧
        t.memx = { s.memx with retire := some { bank := b, spare := k, start := s.alignEdge, next := 0, cmd := none } } ∧
        ∀ a, a ≠ R.MEM_RETIRE → a ≠ R.MEM_SPARE k → t.reg a = s.reg a)) ∧
  (∀ s : State, s.memx.retire = none → exec .retireCopyDone s = .next s) ∧
  (∀ (r : Retire) (s : State), s.memx.retire = some r → r.spare < 2 → r.bank < 64 → s.get (R.MEM_SPARE_BANK r.spare) = r.bank →
    (∀ b, b ∈ s.memx.retired → b = r.bank) →
    ∃ t : State, exec .retireCopyDone s = .next t ∧ t.now = max s.now (r.start + 98306) ∧ t.mem = s.mem ∧
      t.memx = { s.memx with retire := none, spent := setBit s.memx.spent r.spare true } ∧
      t.flag (R.MEM_SPARE_USED r.spare) = true ∧ t.flag (R.MEM_SPARE_COPYING r.spare) = false ∧
      t.get R.MEM_RETIRE_RESULT = statusCode .ok ∧
      ∀ k, k < 2 → k ≠ r.spare → t.flag (R.MEM_SPARE_USED k) = (s.flag (R.MEM_SPARE_USED k) && s.get (R.MEM_SPARE_BANK k) != r.bank)) ∧
  (∀ (m b : Nat) (fabric : Bool) (f : EccFinding) (s : State), m < 2 → b < banksOf m →
    let u := s.advanceTo (s.now + (3 - (s.now - s.tm.epoch) % 4))
    let k := bankKey m b
    let due := s.tm.epoch + numAt s.memx.due k
    (∀ r, s.memx.retire = some r → m = 0 → r.bank = b → r.next < 24576 → r.start ≤ u.now →
      exec (.maintenanceCycle m b fabric f) s = .next (u.modMem fun x => { x with retire := some { r with next := r.next + 1 } })) ∧
    (s.memx.retire = none →
      (atKey s.memx.wb k ≠ [] → exec (.maintenanceCycle m b fabric f) s =
        .next (u.modMem fun x => { x with wb := insertKey x.wb k ((atKey x.wb k).drop 1) })) ∧
      (atKey s.memx.wb k = [] →
        (due + 4096 < u.now → exec (.maintenanceCycle m b fabric f) s = exec (.patrolRead m b f) u) ∧
        (u.now ≤ due + 4096 → fabric = true → exec (.maintenanceCycle m b fabric f) s = .next u) ∧
        (u.now ≤ due + 4096 → due ≤ u.now → fabric = false → exec (.maintenanceCycle m b fabric f) s = exec (.patrolRead m b f) u) ∧
        (u.now < due → exec (.maintenanceCycle m b fabric f) s = .next u)))) ∧
  (∀ (m b : Nat) (f : EccFinding) (s : State), s.get R.PWR_STATUS_STATE_NOW = 3 → exec (.patrolRead m b f) s = .next s) ∧
  (∀ (m b w y : Nat) (s : State), m < 5 → b < banksOf m → s.get R.PWR_STATUS_STATE_NOW ≠ 3 →
    s.nextValid m b (numAt s.memx.patrol (bankKey m b)) = some w → memOf (16 * w) = some m → bankOf m (16 * w) = b →
    look s.memx.words w = some false →
    (∃ t : State, exec (.patrolRead m b .clean) s = .next t ∧ t = { s with memx := t.memx } ∧ t.memx.words = s.memx.words ∧
      numAt t.memx.patrol (bankKey m b) = w + 1 ∧ numAt t.memx.due (bankKey m b) = numAt s.memx.due (bankKey m b) + patrolEvery m) ∧
    (∃ t : State, exec (.patrolRead m b (.single y)) s = .next t ∧ t.mem = s.mem ∧ t.memx.words = s.memx.words ∧
      (m = 0 → t.get (R.MEM_CE_S_COUNT (s.physBank b)) = min (s.get (R.MEM_CE_S_COUNT (s.physBank b)) + 1) 4294967295) ∧
      (m = 1 → t.get (R.MEM_CE_B_COUNT b) = min (s.get (R.MEM_CE_B_COUNT b) + 1) 4294967295) ∧
      (m ≤ 1 → (atKey s.memx.wb (bankKey m b)).length < 16 → w ∈ atKey t.memx.wb (bankKey m b))) ∧
    (∃ t : State, exec (.patrolRead m b (.double y)) s = .next t ∧ t.mem = s.mem ∧ t.poisoned w = true ∧
      t.get (R.MEM_UE_COUNT m) = min (s.get (R.MEM_UE_COUNT m) + 1) 4294967295))

/-- DVFS_WRITE (R515), DVFS_STEP and VSET_TIMEOUT (R514), MI_SRC_WRITE (R35), PLL_LOCK (R521, R573). The order of the islands is the
model's choice (log entry 43). -/
def Obligations.VoltageAndFrequencyMoves : Prop :=
  (∀ (x : Nat) (v : Word) (s : State), x < 3 →
    let f := (R.DVFS_FSEL x).of v
    let u := (R.DVFS_VSEL x).of v
    let p := (R.DVFS_TGT x).of v
    let f0 := s.get (R.DVFS_FSEL x)
    let u0 := s.get (R.DVFS_VSEL x)
    (s.flag (R.DVFS_BUSY x) = true ∨ lastPoint x < p ∨ lastPoint x < f ∨ lastPoint x < u ∨ (f ≠ f0 ∧ u ≠ u0) ∨ f < u →
      exec (.dvfsWrite x v) s = .next (s.raise R.PWR_STATUS_WR_REFUSED)) ∧
    (s.flag (R.DVFS_BUSY x) = false → p ≤ lastPoint x → f ≤ lastPoint x → u ≤ lastPoint x → u ≤ f →
      (f = f0 → u = u0 → p ≠ s.get (R.DVFS_TGT x) → p ≠ f0 → ∃ t : State, exec (.dvfsWrite x v) s = .next t ∧
        t = { s with regs := t.regs, pw := t.pw } ∧ t.get (R.DVFS_TGT x) = p ∧ t.flag (R.DVFS_BUSY x) = true ∧
        t.get (R.DVFS_FSEL x) = f0 ∧ t.get (R.DVFS_VSEL x) = u0) ∧
      (x ≠ 2 → p = s.get (R.DVFS_TGT x) → (f = f0 ∧ u ≠ u0) ∨ (f ≠ f0 ∧ u = u0) → ∃ t : State, exec (.dvfsWrite x v) s = .next t ∧
        t = { s with regs := t.regs } ∧ t.get (R.DVFS_FSEL x) = f ∧ t.get (R.DVFS_VSEL x) = u ∧ ∀ a, a ≠ R.DVFS x → t.reg a = s.reg a))) ∧
  (∀ s : State, (∀ x, x < 3 → s.flag (R.DVFS_BUSY x) = false) → exec .dvfsStep s = .next s ∧ exec .vsetTimeout s = .next s) ∧
  (∀ (x : Nat) (s : State), x < 2 → s.flag (R.DVFS_BUSY x) = true →
    (x = 1 → s.flag (R.DVFS_BUSY 0) = false ∧ s.flag (R.DVFS_BUSY 2) = false) →
    let f := s.get (R.DVFS_FSEL x)
    let t := s.get (R.DVFS_TGT x)
    let p := if f < t then f + 1 else if f = t then t else f - 1
    ∃ u : State, exec .dvfsStep s = .next u.moveCheck ∧ u = { s with now := u.now, regs := u.regs, pw := u.pw } ∧ u.now = s.alignEdge ∧
      u.get (R.DVFS_FSEL x) = p ∧ u.get (R.DVFS_VSEL x) = p ∧ u.flag (R.DVFS_BUSY x) = decide (p ≠ t) ∧
      u.pw = { s.pw with vsetFrom := s.alignEdge } ∧ ∀ a, a ≠ R.DVFS x → u.reg a = s.reg a) ∧
  (∀ (x : Nat) (s : State), x < 3 → s.flag (R.DVFS_BUSY x) = true → s.pw.move = none → ∃ t : State, exec .vsetTimeout s = .next t ∧
    t = { s with now := t.now, regs := t.regs } ∧ t.now = max s.now (s.pw.vsetFrom + ceilDiv (s.get R.PWR_TMO_VSET_TO * 49152) 100) ∧
    ∀ y, y < 3 → t.flag (R.DVFS_BUSY y) = false ∧ t.get (R.DVFS_FSEL y) = s.get (R.DVFS_FSEL y) ∧
      t.get (R.DVFS_VSEL y) = s.get (R.DVFS_VSEL y) ∧ t.get (R.DVFS_TGT y) = s.get (R.DVFS_TGT y)) ∧
  (∀ (v : Bool) (s : State),
    (v = true → s.flag R.PWR_STATUS_PLL_LOCK = false → exec (.miSrcWrite v) s = .next (s.raise R.PWR_STATUS_WR_REFUSED)) ∧
    (v = false ∨ s.flag R.PWR_STATUS_PLL_LOCK = true → ∃ t : State, exec (.miSrcWrite v) s = .next t ∧ t = { s with regs := t.regs } ∧
      t.flag R.CLK_CTRL_MI_SRC = v ∧ t.flag R.PWR_STATUS_MI_WAKEOSC = !v ∧ t.get R.PWR_STATUS_STATE_NOW = s.get R.PWR_STATUS_STATE_NOW)) ∧
  (∀ s : State,
    (s.pw.wake = none → s.boot ≠ .rom → exec .pllLock s = .next s) ∧
    (s.pw.wake = none → s.boot = .rom → exec .pllLock s = .next { s.put R.PWR_STATUS_PLL_LOCK 1 with boot := .image }) ∧
    (∀ w, s.pw.wake = some w → w.stage ≠ 1 → exec .pllLock s = .next s) ∧
    (∀ w, s.pw.wake = some w → w.stage = 1 → ∃ u : State, exec .pllLock s = .next (u.tmWake w.err) ∧
      u = { s with now := u.now, regs := u.regs, pw := u.pw } ∧ u.now = max s.now (w.at_ + 245760) ∧
      u.flag R.PWR_STATUS_PLL_LOCK = true ∧ u.pw = { s.pw with wake := some { w with stage := 2 } }))

/-- FALLOW_QUIET_INSTANT and FALLOW_GATE (R516), SENTINEL_CLEAR (R518), LARK_EVALUATION (R523 to R525), WAKE and HUSH_REACHED (R519 to
R522). What STATE_NOW shows during a move is the model's choice (log entry 44). -/
def Obligations.FallowEntryAndWake : Prop :=
  (∀ (k : Nat) (s : State), (∀ m, s.pw.move = some m → m.target ≠ 3 ∨ m.quietAt = none) →
    exec (.fallowQuietInstant k) s = .next s) ∧
  (∀ (k c : Nat) (m : PwrMove) (s : State), s.pw.move = some m → m.target = 3 → m.quietAt = some c →
    ∃ t : State, exec (.fallowQuietInstant k) s = .next t ∧ (∀ d cs, cs < 8 → t.active d cs = false) ∧
      (m.source < 2 → t.get R.DFE_STATUS_CONV_LOCK = 0) ∧ ∃ n, t.pw.move = some n ∧ n.draining = true ∧ n.quietAt = none ∧ n.target = 3) ∧
  (∀ s : State, (∀ m, s.pw.move = some m → m.target ≠ 3 ∨ m.draining = false ∨ ∃ x ∈ s.fab.dma, x.drainDue ≠ 0) →
    exec .fallowGate s = .next s) ∧
  (∀ (m : PwrMove) (s : State), s.pw.move = some m → m.target = 3 → m.draining = true → (∀ x ∈ s.fab.dma, x.drainDue = 0) →
    s.pw.pendWake = none → ∃ t : State, exec .fallowGate s = .next t ∧ t.pwrState = 3 ∧ t.flag R.PWR_STATUS_MI_WAKEOSC = true ∧
      t.flag R.CLK_CTRL_MI_SRC = false ∧ t.flag R.PWR_STATUS_PLL_LOCK = false ∧ t.pw.lost = [0, 0, 0, 0, 0] ∧ t.mem = s.mem) ∧
  (∀ (m b : Nat) (s : State),
    (s.pwrState ≠ 3 → exec (.sentinelClear m b) s = .next s) ∧
    (s.pwrState = 3 → m < s.pw.lost.length → b < 66 → ∃ t : State, exec (.sentinelClear m b) s = .next t ∧ t = { s with pw := t.pw } ∧
      (t.pw.lost.getD m 0).testBit b = true ∧ ∀ k, k ≠ m → t.pw.lost.getD k 0 = s.pw.lost.getD k 0)) ∧
  (∀ (edges : List Nat) (levels : Nat) (s : State),
    (∃ t : State, exec (.larkEvaluation false [] edges levels) s = .next t ∧ t.now = s.now ∧ t.mem = s.mem ∧ t.pw.filt = s.pw.filt ∧
      ∀ i, i < 16 → t.pw.runs.getD i 0 = if s.larkOver i then s.pw.runs.getD i 0 + 1 else 0) ∧
    ((∀ i, i < 16 → s.ruleAct i = 0) → s.pw.pendWake = none → ∃ t : State, exec (.larkEvaluation false [] edges levels) s = .next t ∧
      t = { s with regs := t.regs, pw := t.pw } ∧ t.flag R.LK_STATUS_HOLDING = false ∧ ∀ a, a ≠ R.LK_STATUS → t.reg a = s.reg a) ∧
    (∀ i, s.pw.pendWake = some i → (∀ j, j < 16 → s.ruleAct j ≠ 4) → s.pwrState = 3 → s.pw.wake = none →
      ∃ t w, exec (.larkEvaluation false [] edges levels) s = .next t ∧ t.pw.wake = some w ∧ w.rule = i ∧ w.stage = 0 ∧ w.at_ = s.now ∧
        w.active = (s.ruleAct i == 2) ∧ t.pw.pendWake = none ∧ t.flag R.PWR_STATUS_TRANS = true)) ∧
  (∀ (rings : Nat) (err : Int) (s : State), (∀ w, s.pw.wake = some w → w.stage ≠ 0) → exec (.wake rings err) s = .next s) ∧
  (∀ (w : WakeX) (err : Int) (s : State), s.pw.wake = some w → w.stage = 0 → s.pw.lost = [0, 0, 0, 0, 0] →
    ∃ t : State, exec (.wake 0 err) s = .next t ∧ t.now = max s.now (w.at_ + 24576) ∧ t.flag R.LO_STATUS_ALIGNED = false ∧
      t.get R.LK_RING_RING = 0 ∧ t.mem = s.mem ∧ t.fm = s.fm ∧ t.boot = s.boot ∧ ∃ x, t.pw.wake = some x ∧ x.stage = 1) ∧
  (∀ s : State,
    (∀ w, s.pw.wake = some w → w.stage ≠ 2 → exec .hushReached s = .next s) ∧
    (s.pw.wake = none → (∀ m, s.pw.move = some m → m.target ≠ 2 ∨ m.quietAt = none) → exec .hushReached s = .next s) ∧
    (∀ w, s.pw.wake = some w → w.stage = 2 → w.active = false → s.pw.move = none → ∃ t : State, exec .hushReached s = .next t ∧
      t.now = max s.now (w.at_ + 491520) ∧ t.pwrState = 2 ∧ t.pw.wake = none ∧ t.mem = s.mem) ∧
    (∀ m c, s.pw.wake = none → s.pw.move = some m → m.target = 2 → m.quietAt = some c → ∃ t : State, exec .hushReached s = .next t ∧
      s.now ≤ t.now ∧ t.pw.move = none ∧ t.get R.DFE_STATUS_CONV_LOCK = 0))

/-- SENSOR_CONVERSION (R527 to R530), THROTTLE_STEP (R529), REFCLK_LOSS, ETHREF_RESTORE (R36), SUPPLY_FAULT (R541). The anchors of the
dwell are the model's reading (log entry 46). -/
def Obligations.TemperatureAndSupply : Prop :=
  (∀ (n : Nat) (raw : Int) (s : State), n < 24 → s.pw.live.length = 24 → s.pw.hot.length = 24 →
    let x := satS 12 (raw + s.getS (R.SENS_OFS_OFS n))
    let hot : Bool := decide (((s.get R.THERM_CFG_SHUT_C * 8 : Nat) : Int) ≤ x)
    ∃ t : State, exec (.sensorConversion n raw) s = .next t ∧ t.now = s.now ∧ t.mem = s.mem ∧ t.pw.live.getD n 0 = x ∧
      (∀ k, k ≠ n → t.pw.live.getD k 0 = s.pw.live.getD k 0) ∧ t.pw.hot.getD n false = hot ∧
      t.get (R.TEMP_TEMP n) = (if s.flag (R.TEMP_STALE n) then s.get (R.TEMP_TEMP n) else ofInt 12 x) ∧
      t.get R.THERM_STATUS_TMAX = ofInt 12 t.tmax.1 ∧
      t.flag R.THERM_STATUS_WARN = decide ((s.get R.THERM_CFG_WARN_C : Int) * 8 ≤ t.tmax.1) ∧
      t.pw.shut = (s.pw.shut || (hot && s.pw.hot.getD n false))) ∧
  (∀ s : State, s.pw.hotSince = none → s.pw.coolSince = none → exec .throttleStep s = .next s) ∧
  (∀ (h q : Nat) (s : State), s.pw.hotSince = some h →
    (throttleOrder (s.get R.THERM_THR_ORDER)).find? (fun q => q < 4 ∧ !s.pw.throttled.contains q) = some q →
    let due := if s.pw.throttled = [] then h + 10 * 491520
      else max (h + 10 * 491520) (max h s.pw.stepAt + s.get R.THERM_THR_DWELL * 4915200)
    ∃ t : State, exec .throttleStep s = .next t ∧ t.now = max s.now due ∧ t.mem = s.mem ∧ t.pw.throttled = s.pw.throttled ++ [q] ∧
      t.pw.steps = s.pw.steps ++ [(t.now + 24576, q, true)] ∧ t.get R.PWR_STATUS_QGATE = s.get R.PWR_STATUS_QGATE) ∧
  (∀ (c q : Nat) (s : State), s.pw.hotSince = none → s.pw.coolSince = some c → s.pw.throttled.getLast? = some q →
    ∃ t : State, exec .throttleStep s = .next t ∧ t.now = max s.now (c + s.get R.THERM_THR_DWELL * 4915200) ∧ t.mem = s.mem ∧
      t.pw.throttled = s.pw.throttled.dropLast ∧ t.pw.steps = s.pw.steps ++ [(t.now + 24576, q, false)]) ∧
  (∀ s : State, ∃ t : State, exec .refclkLoss s = .next t ∧ t.mem = s.mem ∧ t.flag R.FM_STATUS_SAFE = true ∧
    (s.flag R.FM_STATUS_SAFE = false → ∀ ch, ch < 64 → t.flag (R.CH_STATUS_TX_LIVE ch) = false ∧ t.flag (R.CH_STATUS_RX_LIVE ch) = false)) ∧
  (∀ (mon : Nat) (s : State), mon = 0 ∨ mon = 4 ∨ mon = 5 → s.pwrState ≠ 3 → ∃ t : State, exec (.supplyFault mon) s = .next t ∧
    t.mem = s.mem ∧ t.flag R.FM_STATUS_SAFE = true ∧ (s.flag R.FM_STATUS_SAFE = false →
      ∀ ch, ch < 64 → t.flag (R.CH_STATUS_TX_LIVE ch) = false ∧ t.flag (R.CH_STATUS_RX_LIVE ch) = false)) ∧
  (∀ (mon : Nat) (s : State), mon ≠ 0 ∧ mon ≠ 4 ∧ mon ≠ 5 ∨ s.pwrState = 3 → exec (.supplyFault mon) s = .next s) ∧
  (∀ s : State, exec .ethrefRestore s = .next (s.put R.HP_STATUS_ETHREF_OK 1))

/-- PD_ENABLE_WRITE (R161), PD_CMD_GO (R162), FADE_STEP and FADE_COMPLETE (R163), PD_ACL_POST (R164), VERIFY_TIMEOUT and PD_CMD_ROLLBACK
(R166), EVALUATOR_RESIDUE_MISMATCH (R172). -/
def Obligations.PredistortionLifecycle : Prop :=
  ∀ (ch : Nat) (s : State), ch < 64 → s.pd.length = 64 →
    let busy := s.activeOn .dl (quadOf ch) ≠ []
    let st := s.pdState ch
    (∀ (v : Bool) (ecc : List (Nat × EccFinding)),
      (v = s.flag (R.PD_CHCFG_EN ch) → exec (.pdEnableWrite ch v ecc) s = .next (s.pdErrors ecc)) ∧
      (v = true → s.flag (R.PD_CHCFG_EN ch) = false → s.termsOk ch = false → exec (.pdEnableWrite ch v ecc) s =
        .next (((s.pdErrors ecc).put (R.PD_STATE_REFUSE ch) 4).raise R.PD_STATUS_WR_REFUSED)) ∧
      (v ≠ s.flag (R.PD_CHCFG_EN ch) → (v = true → s.termsOk ch = true) → busy → ∃ t : State, exec (.pdEnableWrite ch v ecc) s = .next t ∧
        t = { s with regs := t.regs, pd := t.pd, pdEcc := (s.pdErrors ecc).pdEcc } ∧ t.flag (R.PD_CHCFG_EN ch) = v ∧ (t.pdx ch).enPend = some v ∧
        (∀ a, a ≠ R.PD_CHCFG ch → t.reg a = s.reg a) ∧ ∀ k, k ≠ ch → t.pdx k = s.pdx k) ∧
      (v = false → s.flag (R.PD_CHCFG_EN ch) = true → ¬busy → (s.pdx ch).resid = none → (s.pdx ch).cmd = none →
        ∃ t : State, exec (.pdEnableWrite ch v ecc) s = .next t ∧
          t = { s with regs := t.regs, pd := t.pd, pdEcc := (s.pdErrors ecc).pdEcc } ∧ t.pdState ch = pdBypass ∧
          t.get (R.PD_STATE_CUR ch) = 0 ∧ t.get (R.PD_STATE_GOOD ch) = 0 ∧ t.flag (R.PD_CHCFG_EN ch) = false)) ∧
    (∀ (tgt : Nat) (ecc : List (Nat × EccFinding)), tgt < 8 →
      let code := if st ≠ pdSteady then 1
        else if (s.pdx ch).lastFade.any (fun c => s.now < c + 4915200) then 2
        else if tgt = s.get (R.PD_STATE_CUR ch) then 3 else 0
      (code ≠ 0 → exec (.pdCmdGo ch tgt ecc) s =
        .next (((s.pdErrors ecc).put (R.PD_STATE_REFUSE ch) code).raise R.PD_STATUS_WR_REFUSED)) ∧
      (code = 0 → busy → (s.pdx ch).goPend = false ∨ (s.pdx ch).cmd = none → ∃ t : State, exec (.pdCmdGo ch tgt ecc) s = .next t ∧
        t = { s with regs := t.regs, pd := t.pd, pdEcc := (s.pdErrors ecc).pdEcc } ∧
        t.get (R.PD_CMD_TGT ch) = tgt ∧ t.get (R.PD_STATE_TGT_NOW ch) = tgt ∧ (t.pdx ch).goPend = true ∧ t.pdState ch = st ∧
        ∀ k, k ≠ ch → t.pdx k = s.pdx k)) ∧
    (st ≠ pdFading → st ≠ pdVerify → st ≠ pdBandFade → exec (.pdCmdRollback ch) s = .next s) ∧
    (st = pdFading ∨ st = pdVerify ∨ st = pdBandFade → busy → ∃ t : State, exec (.pdCmdRollback ch) s = .next t ∧
      t = { s with regs := t.regs, pd := t.pd } ∧ t.pdState ch = pdRollback ∧ t.get (R.PD_STATE_REASON ch) = 5 ∧
      (t.pdx ch).goPend = false ∧ t.get (R.PD_STATE_CUR ch) = s.get (R.PD_STATE_CUR ch)) ∧
    (st = pdFading ∨ st = pdVerify → ¬busy → (s.pdx ch).resid = none → (s.pdx ch).enPend = none →
      s.flag (R.PD_STATE_PEND_BAND ch) = false → (s.pdx ch).bankBad (s.get (R.PD_STATE_GOOD ch)) = false →
      (∀ e, e ∈ s.pdEcc → e.1 / 160 ≠ 8 * ch + s.get (R.PD_STATE_GOOD ch)) → ∃ t : State, exec (.pdCmdRollback ch) s = .next t ∧ t.pdState ch = pdSteady ∧
        t.get (R.PD_STATE_CUR ch) = s.get (R.PD_STATE_GOOD ch) ∧ t.get (R.PD_STATE_REASON ch) = 5 ∧ t.mem = s.mem) ∧
    (∀ post, (st ≠ pdVerify → exec (.pdAclPost ch post) s =
        .next ((s.put (R.PD_STATE_REFUSE ch) 6).raise R.PD_STATUS_WR_REFUSED)) ∧
      (st = pdVerify → busy →
        let u := s.put (R.PD_ACL_POST ch) post
        let worse : Bool := decide (u.getS (R.PD_ACL_POST ch) - s.getS (R.PD_ACL_PRE ch) > (s.get R.PD_CFG_ROLLBACK_THR : Int))
        ∃ t : State, exec (.pdAclPost ch post) s = .next t ∧ t.mem = s.mem ∧ t.get (R.PD_STATE_CUR ch) = s.get (R.PD_STATE_CUR ch) ∧
          (worse = true → t.pdState ch = pdRollback ∧ t.get (R.PD_STATE_REASON ch) = 1 ∧
            t.get (R.PD_STATE_GOOD ch) = s.get (R.PD_STATE_GOOD ch)) ∧
          (worse = false → t.pdState ch = pdSteady ∧ t.get (R.PD_STATE_GOOD ch) = s.get (R.PD_STATE_CUR ch) ∧ (t.pdx ch).cmd = none))) ∧
    (∀ c, (s.pdx ch).fadeAt = some c → st = pdFading ∨ st = pdBandFade → (s.pdx ch).step < 64 →
      ∃ t : State, exec (.fadeStep ch) s = .next t ∧ t = { s with now := t.now, pd := t.pd } ∧
        t.now = max s.now (c + (s.pdx ch).step * 1966) ∧ (t.pdx ch).step = (s.pdx ch).step + 1) ∧
    ((s.pdx ch).fadeAt = none ∨ 64 ≤ (s.pdx ch).step ∨ (st ≠ pdFading ∧ st ≠ pdBandFade) → exec (.fadeStep ch) s = .next s) ∧
    (∀ c, (s.pdx ch).fadeAt = some c →
      (st = pdFading → ∃ t : State, exec (.fadeComplete ch) s = .next t ∧ t.mem = s.mem ∧
        t.now = max s.now (c + 125824) ∧ t.pdState ch = pdVerify ∧ t.get (R.PD_STATE_CUR ch) = s.get (R.PD_STATE_TGT_NOW ch) ∧
        (t.pdx ch).fadeAt = none) ∧
      (st = pdBandFade → busy → ∃ t : State, exec (.fadeComplete ch) s = .next t ∧ t.mem = s.mem ∧
        t.now = max s.now (c + 125824) ∧ t.pdState ch = pdSteady ∧ t.get (R.PD_STATE_CUR ch) = s.get (R.PD_STATE_TGT_NOW ch) ∧
        t.get (R.PD_STATE_GOOD ch) = s.get (R.PD_STATE_TGT_NOW ch))) ∧
    ((s.pdx ch).fadeAt = none ∨ (st ≠ pdFading ∧ st ≠ pdBandFade) → exec (.fadeComplete ch) s = .next s) ∧
    (st ≠ pdVerify → exec (.verifyTimeout ch) s = .next s) ∧
    (st = pdVerify → busy → ∃ t : State, exec (.verifyTimeout ch) s = .next t ∧ t = { s with now := t.now, regs := t.regs, pd := t.pd } ∧
      t.now = max s.now (s.frameStart ((s.pdx ch).verifyFrame + (max 1 (s.get R.PD_CFG_VERIFY_FRAMES) : Nat))).toNat ∧
      t.pdState ch = pdRollback ∧ t.get (R.PD_STATE_REASON ch) = 3) ∧
    ((s.pdx ch).noSpare = true ∨ (s.pdx ch).byp ≠ none → exec (.evaluatorResidueMismatch ch) s = .next (s.raise (R.PD_STATE_RESIDUE ch))) ∧
    ((s.pdx ch).noSpare = false → (s.pdx ch).byp = none → busy → ∃ t : State, exec (.evaluatorResidueMismatch ch) s = .next t ∧
      t = { s with regs := t.regs, pd := t.pd } ∧ t.flag (R.PD_STATE_RESIDUE ch) = true ∧ (t.pdx ch).byp = some (s.now + pdToPort) ∧
      (t.pdx ch).resid ≠ none ∧ ∀ a, a ≠ R.PD_STATE ch → t.reg a = s.reg a)

/-- PRACH_OCCASION, PRACH_ROWS_WRITTEN (R193, R194), PRACH_BEAMS_WRITTEN (R240, R241), PLAN_INSTANT (R232), READOUT_START (R187). -/
def Obligations.PrachPlansAndReadout : Prop :=
  (∀ (o : Nat) (l : List ChainSamples) (s : State), s.wget (R.PR_CTRL_EN o) = 0 → exec (.prachOccasion o l) s = .next (s.rxTake s.now l)) ∧
  (∀ (o : Nat) (s : State), o < 4 → s.prach.length = 4 → s.wget (R.PR_CTRL_EN o) ≠ 0 →
    ∃ t : State, exec (.prachOccasion o []) s = .next t ∧ t = { s with now := t.now, regs := t.regs, prach := t.prach } ∧
      t.now = max s.now (s.prachEnd o).2.2 ∧ (t.prx o).endAt = some (s.prachEnd o).2.2 ∧ (t.prx o).rowsDue = true ∧
      (t.prx o).beamsDue = true ∧ (t.prx o).frame = (s.prachEnd o).1.toNat ∧
      (∀ k, k ≠ o → t.prx k = s.prx k) ∧ (∀ a, a ≠ R.PR_STAT o → t.reg a = s.reg a) ∧
      (s.active .ul (s.wget (R.PR_CTRL_CS o)) = false → ∀ r ∈ (t.prx o).rows, ∀ row ∈ r.2, ∀ v ∈ row, v = (0, 0))) ∧
  (∀ (o : Nat) (s : State), o < 4 → s.prach.length = 4 →
    ((s.prx o).endAt = none ∨ (s.prx o).rowsDue = false → exec (.prachRowsWritten o) s = .next s) ∧
    ((s.prx o).endAt = none ∨ (s.prx o).beamsDue = false → exec (.prachBeamsWritten o) s = .next s) ∧
    (∀ e, (s.prx o).endAt = some e →
      let cls := (s.prx o).cls
      let c := prachClass cls (s.prx o).mu
      ((s.prx o).rowsDue = true → ∃ t : State, exec (.prachRowsWritten o) s = .next t ∧ t.now = max s.now (e + 8192) ∧
        t.mem = s.mem.setList ((s.region 4).1 + o * 229376) ((s.prx o).rows.flatMap fun r => r.2.flatMap (rowWords c.2.2)) ∧
        (t.prx o).rowsDue = false ∧ (t.prx o).rows = (s.prx o).rows ∧ (∀ a, a ≠ R.PR_STAT o → t.reg a = s.reg a) ∧
        t.get (R.PR_STAT_DONE_CNT o) = min (s.get (R.PR_STAT_DONE_CNT o) + 1) 65535) ∧
      ((s.prx o).beamsDue = true →
        let u := s.advanceTo (e + 8192 + (s.prx o).beams.length * (s.prx o).reps * c.2.1 + 64)
        ∃ t : State, exec (.prachBeamsWritten o) s = .next t ∧ t.now = u.now ∧
          t.mem = s.mem.setList ((s.region 4).1 + 917504 + o * 32768)
            ((u.prachBeams (s.prx o)).flatMap fun r => packSums (beamRowBytes cls) r.1) ∧
          (t.prx o).beamsDue = false ∧ (∀ a, a ≠ R.UL_LSAT → a ≠ R.WPOISON → t.reg a = s.reg a)))) ∧
  (∀ (d : Dir) (cs : Nat) (s : State), s.slotEn d cs = false → s.active d cs = false → exec (.planInstant d cs) s = .next s) ∧
  (∀ (d : Dir) (cs : Nat) (s : State), cs < 8 → s.bf.planned.length = 16 → s.slotEn d cs = true ∨ s.active d cs = true →
    let k := (s.nextPlan d cs).1
    let n := (s.nextPlan d cs).2
    let u := (s.advanceTo (s.planAt d cs n (s.symBoundary d (s.slotMu d cs) k n))).modBf fun x =>
      { x with planned := updAt x.planned (slotIx d cs) fun _ => some (k, n) }
    ∃ t : State, exec (.planInstant d cs) s = .next t ∧ t.now = u.now ∧ t.mem = s.mem ∧ t.bf.planned = u.bf.planned ∧
      t.bf.planned.getD (slotIx d cs) none = some (k, n) ∧ (u.symRuns d cs k = false → (∀ e c, c < 8 → (e, c) ≠ (d, cs) → s.slotEn e c = false ∧ s.active e c = false) → t = u) ∧
      (u.symRuns d cs k = true → ∃ p ∈ t.bf.plans, p.d = dirIx d ∧ p.cs = cs ∧ p.frame = k ∧ p.sym = n)) ∧
  (∀ (cs : Nat) (ecc : List (Nat × EccFinding)) (s : State), (∀ p ∈ s.bf.plans, p.d = 0 → p.cs ≠ cs) →
    exec (.readoutStart cs ecc) s = .next s) ∧
  (∀ (cs : Nat) (ecc : List (Nat × EccFinding)) (p : Plan) (rest : List Plan) (s : State), cs < 8 →
    s.sp.lastRead.length = 8 → s.bf.plans = p :: rest → p.d = 0 → p.cs = cs → s.sp.lastRead.getD cs none = none →
    ∃ t : State, exec (.readoutStart cs ecc) s = .next t ∧ s.now ≤ t.now ∧
      t.sp.lastRead.getD cs none = some (p.frame, p.sym) ∧
      (s.radioOn = false → t = { s with now := t.now, sp := t.sp, mem := t.mem, memx := t.memx }) ∧
      (s.radioOn = true → ∀ r ∈ t.bf.dlOut, r.cs = cs → r.frame = p.frame ∧ r.sym = p.sym))

/-- BL_GO (R220, R221), PAGE_HOLD_EXPIRY (R222), WS_CFG_WRITE (R219), STEER_GO (R228), STEER_COMPUTE_DONE (R230), GEOM_DATA_WRITE
(R225), COLUMN_RESIDUE_MISMATCH (R238, R239). QUEUE_FULL for a full loader is the model's choice (log entry 26). -/
def Obligations.BeamTableAndSteering : Prop :=
  (∀ s : State,
    let vec := (List.range 48).flatMap fun i => leBytes 4 (s.get (R.BL_STAGE_DATA i))
    let w := s.get R.BL_TGT_SET
    let v := s.get R.BL_TGT_INDEX
    let id := v % 4096
    (s.get R.BL_TGT_KIND = 0 → s.setInUse w = true → exec .blGo s =
      .next ((s.count R.SET_WR_REFUSED_COUNT).put R.BL_GO_RESULT (statusCode .stateConflict))) ∧
    (s.get R.BL_TGT_KIND = 0 → s.setInUse w = false → (s.memberOf w).isSome = true ∨ s.setSize w ≤ v → exec .blGo s =
      .next (s.put R.BL_GO_RESULT (statusCode .badParam))) ∧
    (s.get R.BL_TGT_KIND = 0 → s.setInUse w = false → s.memberOf w = none → v < s.setSize w → ∃ t : State, exec .blGo s = .next t ∧
      t.mem = s.mem.setList (setVec w v) vec ∧ t.get R.BL_GO_RESULT = statusCode .ok ∧ (∀ a, a ≠ R.BL_GO → t.reg a = s.reg a) ∧
      t.bf = s.bf) ∧
    (s.get R.BL_TGT_KIND = 1 → 32 ≤ s.bf.lq.length → exec .blGo s = .next (s.put R.BL_GO_RESULT (statusCode .queueFull))) ∧
    (s.get R.BL_TGT_KIND = 1 → s.bf.lq.length < 32 → ∃ t : State, exec .blGo s = .next t ∧
      t.get R.BL_GO_RESULT = statusCode .accepted ∧ t.now = s.now ∧
      (s.pageHeld id = false → t.mem = s.mem.setList (beamVec (1 - s.beamPage id) id) vec ∧ ∃ f ∈ t.bf.flips, f.id = id ∧
        f.d = s.get R.BL_APPLY_DIR ∧ f.cs = s.get R.BL_APPLY_CS ∧ f.sym = s.get R.BL_APPLY_SYM) ∧
      (s.pageHeld id = true → t.mem = s.mem ∧ ∃ l ∈ t.bf.lq, l.flip.id = id ∧ l.vec = vec)) ∧
    (1 < s.get R.BL_TGT_KIND → exec .blGo s = .next (s.put R.BL_GO_RESULT (statusCode .badParam)))) ∧
  (∀ (id : Nat) (s : State), id < 4096 →
    ((∀ h ∈ s.bf.holds, h.1 ≠ id) → exec (.pageHoldExpiry id) s = .next s.steerResume) ∧
    (∀ c, s.bf.holds.find? (fun h => h.1 == id) = some (id, c) → (∀ l ∈ s.bf.lq, l.flip.id ≠ id) → ∃ u : State,
      exec (.pageHoldExpiry id) s = .next u.steerResume ∧ u = { s with now := u.now, bf := u.bf } ∧ u.now = max s.now c ∧
      (∀ h ∈ u.bf.holds, h.1 ≠ id) ∧ u.bf.flips = s.bf.flips) ∧
    (∀ c l, s.bf.holds.find? (fun h => h.1 == id) = some (id, c) → s.bf.lq.find? (fun l => l.flip.id == id) = some l → l.steer = none →
      (∀ b, s.bf.busy = some b → b.stalled = false) →
      ∃ t : State, exec (.pageHoldExpiry id) s = .next t ∧ t.now = max s.now c ∧ l.flip ∈ t.bf.flips ∧
        t.mem = s.mem.setList (beamVec (1 - s.beamPage id) id) l.vec)) ∧
  (∀ (ws : Nat) (v : Word) (s : State), ws < 16 →
    (s.wsCheck ws v ≠ 0 → exec (.wsCfgWrite ws v) s = .next ((s.put R.BF_STATUS_REFUSE (s.wsCheck ws v)).raise R.BF_STATUS_WR_REFUSED)) ∧
    (s.wsCheck ws v = 0 → ∃ t : State, exec (.wsCfgWrite ws v) s = .next t ∧ t = { s with regs := t.regs } ∧
      (∀ f ∈ [R.WS_CFG_VALID ws, R.WS_CFG_NL ws, R.WS_CFG_SPAN ws, R.WS_CFG_GRAN ws, R.WS_CFG_DIR ws, R.WS_CFG_CS ws], t.get f = f.of v) ∧
      ∀ a, a ≠ R.WS_CFG ws → t.reg a = s.reg a)) ∧
  (∀ s : State,
    let r : SteerReq := { w0 := s.get (R.STEER_REQ_WORD 0), w1 := s.get (R.STEER_REQ_WORD 1), w2 := s.get (R.STEER_REQ_WORD 2), job := none }
    (s.steerValid r = false ∨ 64 ≤ s.bf.fifo.length → exec .steerGo s = .next (s.count R.STEER_CNT1_DROP)) ∧
    (s.steerValid r = true → s.bf.fifo.length < 64 → s.bf.busy ≠ none → ∃ t : State, exec .steerGo s = .next t ∧
      t = { s with regs := t.regs, bf := t.bf } ∧ t.bf = { s.bf with fifo := s.bf.fifo ++ [r] } ∧
      t.get R.STEER_STATUS_FIFO = s.bf.fifo.length + 1 ∧ ∀ a, a ≠ R.STEER_STATUS → t.reg a = s.reg a) ∧
    (s.steerValid r = true → s.bf.fifo = [] → s.bf.busy = none → s.flag R.STEER_CTRL_EN = true → s.bf.lq.length < 32 →
      ∃ t b, exec .steerGo s = .next t ∧ t.mem = s.mem ∧ t.bf.fifo = [] ∧ t.bf.busy = some b ∧ b.req = r ∧ b.start = s.now ∧
        t.flag R.STEER_STATUS_BUSY = true)) ∧
  (∀ s : State, s.bf.busy = none → exec .steerComputeDone s = .next s.steerKick) ∧
  (∀ (b : SteerBusy) (s : State), s.bf.busy = some b → b.geom.length = 64 →
    let id := bits b.req.w0 31 20
    let base := beamVec (1 - s.beamPage id) id
    (s.advanceTo (b.start + 96)).pageHeld id = false → ∃ t : State, exec .steerComputeDone s = .next t ∧
      t.now = max s.now (b.start + 96) ∧ (∃ f ∈ t.bf.flips, f.id = id) ∧
      t.get R.STEER_DONE_COUNT = min (s.get R.STEER_DONE_COUNT + 1) 4294967295 ∧
      (∀ a, a < base ∨ base + 192 ≤ a → t.byte a = s.byte a) ∧
      ∀ i, i < 64 → t.bytes (base + 3 * i) 3 = elementBytes (steerWeight (bits b.req.w2 19 12) (bits b.req.w1 31 16)
        (bits b.req.w1 15 0) b.code (b.geom.getD i { use := false, x := 0, y := 0, z := 0, corr := (0, 0), taper := 0 })).1) ∧
  (∀ (v : Word) (s : State),
    let w := s.get R.GEOM_ADDR_WORD
    (0xE00 ≤ 4 * w → exec (.geomDataWrite v) s = .next ((s.put R.BF_STATUS_REFUSE 3).raise R.BF_STATUS_WR_REFUSED)) ∧
    (0x400 ≤ 4 * w → 4 * w < 0x600 → s.flag R.CAL_CTRL_EN = true → exec (.geomDataWrite v) s = .next (s.raise R.CAL_STATUS_WR_REFUSED)) ∧
    (4 * w < 0xE00 → (4 * w < 0x400 ∨ 0x600 ≤ 4 * w ∨ s.flag R.CAL_CTRL_EN = false) → ∃ t : State, exec (.geomDataWrite v) s = .next t ∧
      t.mem = s.mem.setList (geomBase + 4 * w) (leBytes 4 v.toNat) ∧ t.geomRead = v ∧ t.bf = s.bf ∧
      ∀ a, a ≠ R.GEOM_DATA → t.reg a = s.reg a)) ∧
  (∀ (a : Nat) (d : Dir) (cs k : Nat) (s : State), a < 64 → cs < 8 →
    let q := quadOf a
    (a ∈ s.bf.colDead → exec (.columnResidueMismatch a d cs k) s = .next (s.count R.RESIDUE_COUNT)) ∧
    (a ∉ s.bf.colDead → s.flag (R.BF_REPAIR_SPARE_BUSY q) = false → s.flag (R.BF_REPAIR_SPARE_FAILED q) = false →
      ∃ t : State, exec (.columnResidueMismatch a d cs k) s = .next t ∧ t.mem = s.mem ∧ t.flag (R.BF_REPAIR_SPARE_BUSY q) = true ∧
        t.get (R.BF_REPAIR_SPARE_CH q) = a ∧ t.fbit (R.BF_REPAIR_FAILED q) (a % 16) = true ∧
        (∀ d' cs', cs' < 8 → s.active d' cs' = true → ∀ j, (if d' = d ∧ cs' = cs then k else s.passPos d' cs') ≤ j →
          t.colZeroed d' cs' a j = true)) ∧
    (a ∉ s.bf.colDead → s.flag (R.BF_REPAIR_SPARE_BUSY q) = true → ∃ t : State, exec (.columnResidueMismatch a d cs k) s = .next t ∧
      t.mem = s.mem ∧ a ∈ t.bf.colDead ∧ ∀ d' cs' j, t.colZeroed d' cs' a j = true))

/-- HG_EN_WRITE, HG_PARTNER_CLOCK_DETECT, HG_TRAIN_TIMEOUT (R254), HG_TRAIN_STEP_DONE (R253), HG_CAP_RECORD (R257, R258), LATFIX (R260),
RETRAIN, DOWN_NOTICE, FORWARDED_CLOCK_LOST (R268). That a step's bound counts from the start of its rate is the model's reading (log entry 27). -/
def Obligations.HedgerowTraining : Prop :=
  ∀ (p : Nat) (s : State), p < 4 → s.hg.length = 4 →
    let st := s.hgState p
    let dark := fun (t : State) => t.get (R.HG_STATUS_RX_W p) = 0 ∧ t.get (R.HG_STATUS_TX_W p) = 0 ∧ (t.hgx p).rxFix = none ∧
      (t.hgx p).txFix = none ∧ t.mem = s.mem
    let down := fun (t : State) (c : Nat) => t.hgState p = hgDown ∧ t.get (R.HG_STATUS_CAUSE p) = c ∧ dark t ∧
      t.get (R.HG_CNT0_DOWNS p) = min (s.get (R.HG_CNT0_DOWNS p) + 1) 65535
    (s.flag (R.HG_CTRL_EN p) = false → ∃ t : State, exec (.hgEnWrite p true) s = .next t ∧ t.hgState p = hgDetect ∧ dark t ∧
      t.flag (R.HG_CTRL_EN p) = true ∧ t = { s with regs := t.regs, fe := t.fe, hg := t.hg }) ∧
    (s.flag (R.HG_CTRL_EN p) = true → exec (.hgEnWrite p true) s = .next (s.put (R.HG_CTRL_EN p) 1)) ∧
    (∃ t : State, exec (.hgEnWrite p false) s = .next t ∧ t.hgState p = hgDisabled ∧ dark t ∧ t.flag (R.HG_CTRL_EN p) = false ∧
      t = { s with regs := t.regs, fe := t.fe, hg := t.hg }) ∧
    (st = hgDetect ∨ (st = hgDown ∧ (s.hgx p).ctrl.testBit 8 = true ∧ s.flag (R.HG_CTRL_EN p) = true) →
      ∃ t : State, exec (.hgPartnerClockDetect p) s = .next t ∧ t.hgState p = hgTrain ∧ dark t ∧ (t.hgx p).anchor = s.now ∧
        (t.hgx p).ctrl = (s.reg (R.HG_CTRL p)).toNat ∧ (t.hgx p).retire = s.get (R.HG_RETIRE_RETIRE p) ∧ (t.hgx p).settled = none ∧
        t = { s with regs := t.regs, fe := t.fe, hg := t.hg }) ∧
    (st ≠ hgDetect → st ≠ hgDown → exec (.hgPartnerClockDetect p) s = .next s) ∧
    (∀ w, st ≠ hgTrain → exec (.hgTrainStepDone p w) s = .next s) ∧
    (∀ pat, st = hgTrain → (s.hgx p).phase = 0 → ∃ t : State, exec (.hgTrainStepDone p (.locked pat)) s = .next t ∧
      t = { s with regs := t.regs, hg := t.hg } ∧ t.hgState p = hgTrain ∧ (t.hgx p).phase = 1 ∧ (t.hgx p).locked = goodLanes pat false ∧
      t.flag (R.HG_STATUS_REVERSED p) = allReversed pat) ∧
    (∀ (lanes : Nat) (eqs : List Nat), st = hgTrain → (s.hgx p).phase = 1 →
      ((s.hgx p).settled = none → ∃ t : State, exec (.hgTrainStepDone p (.equalised lanes false eqs)) s = .next t ∧ down t hcNoRate) ∧
      (let got := (s.hgx p).locked &&& lanes
       ∃ t r, exec (.hgTrainStepDone p (.equalised lanes true eqs)) s = .next t ∧ t.hgState p = hgTrain ∧ t.mem = s.mem ∧
        (t.hgx p).phase = 2 ∧ (t.hgx p).lanes = got - (got &&& (s.hgx p).retire) ∧ t.out = s.out ++ [.capRecord p r])) ∧
    (let tx := bits (s.capPeer p) 215 192
     st = hgTrain → (s.hgx p).phase = 2 →
      ((s.hgx p).peer = false → exec (.hgTrainStepDone p .exchanged) s = .next s) ∧
      ((s.hgx p).peer = true → (s.hgx p).stepped = false → s.aligned = false → (s.hgx p).rate < 3 → (s.hgx p).rateMin ≤ (s.hgx p).rate →
        max 1 (s.hgx p).minLanes ≤ lanesIn (s.hgx p).lanes → max 1 (s.hgx p).minLanes ≤ lanesIn tx →
        ∃ t : State, exec (.hgTrainStepDone p .exchanged) s = .next t ∧ t.hgState p = hgUntimed ∧ t.mem = s.mem ∧
          t.get (R.HG_STATUS_RATE_NOW p) = (s.hgx p).rate ∧ t.get (R.HG_STATUS_RX_W p) = lanesIn (s.hgx p).lanes ∧
          t.get (R.HG_STATUS_TX_W p) = lanesIn tx ∧ t.flag (R.HG_STATUS_NO_ALIGN p) = true ∧
          t.get (R.HG_CNT0_TRAINS p) = min (s.get (R.HG_CNT0_TRAINS p) + 1) 65535)) ∧
    (st = hgTrain → ∃ t : State, exec (.hgTrainTimeout p) s = .next t ∧ down t hcTimeout ∧
      t.now = max s.now ((s.hgx p).rateAt + stepBound (s.hgx p).phase)) ∧
    (st = hgLatfix → ∃ t : State, exec (.hgTrainTimeout p) s = .next t ∧ down t hcTimeout ∧
      t.now = max s.now ((s.hgx p).anchor + if (s.hgx p).stepped then 884736 else 294912)) ∧
    (st ≠ hgTrain → st ≠ hgLatfix → exec (.hgTrainTimeout p) s = .next s) ∧
    (∀ rec,
      (st ≠ hgTrain → s.hgCarries p = false → exec (.hgCapRecord p rec) s = .next s) ∧
      (st = hgTrain ∨ s.hgCarries p = true →
        (capCrcOk rec = false → (s.hgx p).crcBad < 7 → ∃ t : State, exec (.hgCapRecord p rec) s = .next t ∧ t = { s with hg := t.hg } ∧
          t.hgx p = { s.hgx p with crcBad := (s.hgx p).crcBad + 1 }) ∧
        (capCrcOk rec = false → 7 ≤ (s.hgx p).crcBad → ∃ t : State, exec (.hgCapRecord p rec) s = .next t ∧ down t hcCapCrc) ∧
        (capCrcOk rec = true → bits rec 255 240 ≠ 1 → ∃ t : State, exec (.hgCapRecord p rec) s = .next t ∧ down t hcProto) ∧
        (capCrcOk rec = true → bits rec 255 240 = 1 → ∃ t : State, exec (.hgCapRecord p rec) s = .next t ∧
          t = { s with regs := t.regs, fe := t.fe, hg := t.hg, out := t.out } ∧ (t.hgx p).crcBad = 0 ∧ (t.hgx p).peer = true ∧
          (∀ i, i < 8 → t.reg (R.HG_CAP_PEER p i) = BitVec.ofNat 32 (rec / 2 ^ (32 * i))) ∧
          t.hgState p = if st = hgUntimed ∧ t.bothAligned p = true then hgLatfix else st))) ∧
    (∀ delays,
      let f := flightOf delays
      (st ≠ hgLatfix → exec (.latfix p delays) s = .next s) ∧
      (st = hgLatfix → 16 < f → ∃ t : State, exec (.latfix p delays) s = .next t ∧ down t hcReach) ∧
      (st = hgLatfix → f ≤ 16 → ∃ t : State, exec (.latfix p delays) s = .next t ∧ t.hgState p = hgTimed ∧ t.mem = s.mem ∧
        t.flag (R.HG_STATUS_TIMED p) = true ∧ t.get (R.HG_LAT_FLIGHT p) = f ∧ t.get (R.HG_LAT_DEPTH p) = 18 - f)) ∧
    (st = hgDisabled → exec (.retrain p) s = .next s) ∧
    (st ≠ hgDisabled → ∃ t : State, exec (.retrain p) s = .next t ∧ t.hgState p = hgDetect ∧ dark t ∧
      t.out = s.out ++ [.link p (.downNotice hcRemote)]) ∧
    (st = hgDisabled ∨ st = hgDown → exec (.downNotice p) s = .next s) ∧
    (st ≠ hgDisabled → st ≠ hgDown → ∃ t : State, exec (.downNotice p) s = .next t ∧ down t hcRemote) ∧
    (st = hgTrain ∨ st = hgUntimed ∨ st = hgLatfix ∨ st = hgTimed → ∃ t : State, exec (.forwardedClockLost p) s = .next t ∧
      down t hcClock ∧ t.now = s.now + 64) ∧
    (st ≠ hgTrain → st ≠ hgUntimed → st ≠ hgLatfix → st ≠ hgTimed → exec (.forwardedClockLost p) s = .next s)

/-- HG_LANE_FAIL, LANE_DROP, LANE_ACK, LANE_REPAIR_INSTANT (R263), LANE_ACK_TIMEOUT (R264), IDLE_REQ_WRITE, EIDLE (R266),
EXIT_BURST_DETECT, FAST_EXIT_DONE (R267), CROSSING_SLIP (R39). -/
def Obligations.LaneRepairIdleAndSlips : Prop :=
  ∀ (p : Nat) (s : State), p < 4 → s.hg.length = 4 →
    let st := s.hgState p
    let x := s.hgx p
    let live := st = hgUntimed ∨ st = hgTimed
    let down := fun (t : State) (c : Nat) => t.hgState p = hgDown ∧ t.get (R.HG_STATUS_CAUSE p) = c ∧ t.mem = s.mem ∧
      t.get (R.HG_STATUS_RX_W p) = 0 ∧ t.get (R.HG_STATUS_TX_W p) = 0
    (∀ (lane n : Nat) (lost : Bool),
      (s.hgCarries p = false → exec (.hgLaneFail p lane n lost) s = .next s) ∧
      (s.hgCarries p = true →
        let e := s.laneErrors p lane n
        (lane = 24 → ∃ t : State, exec (.hgLaneFail p lane n lost) s = .next t ∧ down t hcClock) ∧
        (lane < 24 → e.get (R.HG_LANE_ERR_COUNT p lane) = min (s.get (R.HG_LANE_ERR_COUNT p lane) + n) 4294967295 ∧
          e = { s with regs := e.regs, hg := e.hg } ∧ (lost = false → (e.hgx p).errs.getD lane 0 ≤ s.get (R.HG_ERR_CFG_LANE_ERR_THR p) →
            exec (.hgLaneFail p lane n lost) s = .next e)) ∧
        (lane < 24 → lost = true → x.rxFix = none → s.get (R.HG_STATUS_RX_W p) - 1 < x.minLanes →
          ∃ t : State, exec (.hgLaneFail p lane n lost) s = .next t ∧ down t hcWidth) ∧
        (lane < 24 → lost = true → x.rxFix = none → x.minLanes ≤ s.get (R.HG_STATUS_RX_W p) - 1 →
          ∃ t : State, exec (.hgLaneFail p lane n lost) s = .next t ∧ t.hgState p = st ∧ t.mem = s.mem ∧
            (t.hgx p).rxFix = some { lanes := 2 ^ lane, at0 := s.now, acked := false, instant := s.repairInstant } ∧
            t.out = s.out ++ [.link p (.laneDrop (2 ^ lane) s.repairInstant)]))) ∧
    (∀ lanes instant, (s.hgCarries p = false → exec (.laneDrop p lanes instant) s = .next s) ∧
      (s.hgCarries p = true → ∃ t : State, exec (.laneDrop p lanes instant) s = .next t ∧ t = { s with hg := t.hg, out := t.out } ∧
        t.out = s.out ++ [.link p (.laneAck lanes instant)] ∧
        t.hgx p = { x with txFix := some { lanes := lanes, at0 := s.now, acked := true, instant := instant } }) ∧
      ∃ t : State, exec (.laneAck p lanes instant) s = .next t ∧ t = { s with hg := t.hg } ∧
        t.hgx p = { x with rxFix := x.rxFix.map fun f => { f with acked := f.acked || (f.lanes == lanes && f.instant == instant) } }) ∧
    ((∀ f, x.rxFix = some f → f.acked = true) → exec (.laneAckTimeout p) s = .next s) ∧
    (∀ f, x.rxFix = some f → f.acked = false → ∃ t : State, exec (.laneAckTimeout p) s = .next t ∧ down t hcRemote ∧
      t.now = max s.now (f.at0 + 1024)) ∧
    (x.txFix = none → (∀ f, x.rxFix = some f → f.acked = false) → exec (.laneRepairInstant p) s = .next (s.linkShort p)) ∧
    (∀ a, x.rxFix = some a → a.acked = true → x.txFix = none → s.flag (R.HG_CTRL_IDLE_REQ p) = false →
      let rx := s.get (R.HG_RX_LANES_LANES p)
      ∃ t : State, exec (.laneRepairInstant p) s = .next t ∧ t.now = max s.now a.instant ∧ t.mem = s.mem ∧ (t.hgx p).rxFix = none ∧
        t.get (R.HG_RX_LANES_LANES p) = rx - (rx &&& a.lanes) ∧ t.get (R.HG_STATUS_RX_W p) = lanesIn (rx - (rx &&& a.lanes)) ∧
        t.get (R.HG_TX_LANES_LANES p) = s.get (R.HG_TX_LANES_LANES p)) ∧
    (∀ b, x.txFix = some b → x.rxFix = none → s.flag (R.HG_CTRL_IDLE_REQ p) = false → s.hgTimedNow p = false →
      let tx := s.get (R.HG_TX_LANES_LANES p)
      ∃ t : State, exec (.laneRepairInstant p) s = .next t ∧ t = { s with now := t.now, regs := t.regs, hg := t.hg } ∧
        t.now = max s.now b.instant ∧ (t.hgx p).txFix = none ∧ t.get (R.HG_TX_LANES_LANES p) = tx - (tx &&& b.lanes) ∧
        t.get (R.HG_STATUS_TX_W p) = lanesIn (tx - (tx &&& b.lanes))) ∧
    (s.flag (R.HG_CTRL_IDLE_REQ p) = true → exec (.idleReqWrite p true) s = .next s) ∧
    (s.flag (R.HG_CTRL_IDLE_REQ p) = false →
      (live → s.hgMapped p = true → exec (.idleReqWrite p true) s = .next (s.raise (R.HG_STATUS_WR_REFUSED p))) ∧
      (live → s.hgMapped p = false → x.rxFix = none → x.txFix = none → x.idling = false → ∃ t : State,
        exec (.idleReqWrite p true) s = .next t ∧ t = { s with regs := t.regs, hg := t.hg, out := t.out } ∧ (t.hgx p).idling = true ∧
        t.flag (R.HG_CTRL_IDLE_REQ p) = true ∧ t.out = s.out ++ [.link p .eidle]) ∧
      (¬live → exec (.idleReqWrite p true) s = .next (s.put (R.HG_CTRL_IDLE_REQ p) 1)) ∧
      exec (.idleReqWrite p false) s = .next (s.put (R.HG_CTRL_IDLE_REQ p) 0)) ∧
    (s.flag (R.HG_CTRL_IDLE_REQ p) = true → st = hgIdle → x.kept = true → ∃ t : State, exec (.idleReqWrite p false) s = .next t ∧
      t.hgState p = hgExiting ∧ t.flag (R.HG_CTRL_IDLE_REQ p) = false ∧ (t.hgx p).anchor = s.now ∧
      ∃ l, t.out = s.out ++ .link p .burst :: l) ∧
    (live → x.rxFix = none → x.txFix = none → x.exitDue = false → ∃ t : State, exec (.eidle p) s = .next t ∧ t.hgState p = hgIdle ∧
      (t.hgx p).kept = true ∧ (t.hgx p).idling = false ∧ t = { s with regs := t.regs, fe := t.fe, hg := t.hg, out := t.out } ∧
      t.out = s.out ++ (if x.idling then [] else [.link p .eidle])) ∧
    (¬live ∨ x.rxFix ≠ none ∨ x.txFix ≠ none → exec (.eidle p) s = .next s) ∧
    (st = hgIdle → x.kept = true → s.get R.PWR_STATUS_STATE_NOW ≠ 3 → ∃ t : State, exec (.exitBurstDetect p) s = .next t ∧
      t.hgState p = hgExiting ∧ (t.hgx p).anchor = s.now ∧ ∃ l, t.out = s.out ++ .link p .burst :: l) ∧
    (st = hgIdle → s.get R.PWR_STATUS_STATE_NOW = 3 → ∃ t : State, exec (.exitBurstDetect p) s = .next t ∧ t = { s with hg := t.hg } ∧
      t.hgx p = { x with exitDue := true }) ∧
    (st ≠ hgIdle → st ≠ hgExiting → x.idling = false → exec (.exitBurstDetect p) s = .next s) ∧
    (∀ (locked : Bool) (delays : List Nat),
      let f := flightOf delays
      (st ≠ hgExiting → exec (.fastExitDone p locked delays) s = .next s) ∧
      (st = hgExiting → locked = false ∨ x.anchor + 9830 < s.now ∨ (s.bothAligned p = true ∧ f ≠ s.get (R.HG_LAT_FLIGHT p)) →
        ∃ t : State, exec (.fastExitDone p locked delays) s = .next t ∧ t.hgState p = hgTrain ∧ (t.hgx p).anchor = s.now) ∧
      (st = hgExiting → locked = true → s.now ≤ x.anchor + 9830 → (s.bothAligned p = true → f = s.get (R.HG_LAT_FLIGHT p)) →
        ∃ t : State, exec (.fastExitDone p locked delays) s = .next t ∧ t.mem = s.mem ∧
          t.hgState p = (if s.bothAligned p then hgTimed else hgUntimed) ∧
          t.flag (R.HG_STATUS_NO_ALIGN p) = !s.bothAligned p ∧
          t.get (R.HG_CNT1_FAST_EXITS p) = min (s.get (R.HG_CNT1_FAST_EXITS p) + 1) 65535)) ∧
    (∃ t : State, exec (.crossingSlip (.gi p)) s = .next t ∧ down t hcSlip ∧ t.fbit R.XMON_STATUS_GI_SLIP p = true) ∧
    (∃ t : State, exec (.crossingSlip (.ci p)) s = .next t ∧ t.mem = s.mem ∧ t.fbit R.XMON_STATUS_CI_SLIP p = true ∧
      t.hold.convHold.testBit p = true) ∧
    (∀ mid a, s.fm.retried.contains mid = false →
      (∃ t : State, exec (.crossingSlip (.fi mid a)) s = .next t ∧ t.mem = s.mem ∧ t.flag R.XMON_STATUS_FI_SLIP = true ∧
        mid ∈ t.fm.retried) ∧
      (∃ t : State, exec (.crossingSlip (.di mid a)) s = .next t ∧ t.mem = s.mem ∧ t.flag R.XMON_STATUS_DI_SLIP = true ∧
        mid ∈ t.fm.retried) ∧
      (s.flag R.PWR_STATUS_MI_WAKEOSC = false → ∃ t : State, exec (.crossingSlip (.mi mid a)) s = .next t ∧ t.mem = s.mem ∧
        t.flag R.XMON_STATUS_MI_SLIP = true ∧ mid ∈ t.fm.retried) ∧
      (s.flag R.PWR_STATUS_MI_WAKEOSC = true → exec (.crossingSlip (.mi mid a)) s = .next s))

/-- UL_UNIT_ADD (R287, R289, R295, R297) and SUM_CHECK_BLOCK (R280, R282, R296). The numbers of a slot's symbol and unit are the command's. -/
def Obligations.SumsInFlight : Prop :=
  (∀ (cs k n u : Nat) (l : List ChainSamples) (kids : List (Nat × ChildArrival)) (ecc : List (Nat × EccFinding)) (s : State),
    let c : Instr := .ulUnitAdd cs k n u l kids ecc
    let next := ((s.sumOf cs k n).getD (s.newSum cs k n)).unit
    (s.ulSym cs k n = none → exec c s = .next s) ∧
    (∀ y, s.ulSym cs k n = some y → s.get R.PWR_STATUS_STATE_NOW = 3 ∨ u ≠ next ∨ unitsOf y.rb ≤ u ∨ y.act = 0 → exec c s = .next s) ∧
    (∀ y, s.ulSym cs k n = some y → s.get R.PWR_STATUS_STATE_NOW ≠ 3 → u = next → u < unitsOf y.rb → y.act ≠ 0 →
      ∃ t : State, exec c s = .next t ∧ t.now = max s.now (y.localAt + s.hopWait k + 16 * u) ∧ (∃ more, t.out = s.out ++ more) ∧
        (s.worker = false → ∃ g, t.sumOf cs k n = some g ∧ g.unit = u + 1 ∧
          (s.sumOf cs k n = none → g.rows.length = s.slotNL .ul cs ∧ ∀ r ∈ g.rows, r.length = 16 ∧ ∀ v ∈ r,
            -2097152 ≤ v.1 ∧ v.1 ≤ 2097151 ∧ -2097152 ≤ v.2 ∧ v.2 ≤ 2097151)) ∧
        (∀ p, s.upFor k = some p → s.worker = true → s.streams p y.start = true →
          ∃ rows, .sumUnit p cs (k % 1024) n u rows ∈ t.out ∧ rows.length = s.slotNL .ul cs ∧ ∀ r ∈ rows, r.length = 16 ∧ ∀ v ∈ r,
            -2097152 ≤ v.1 ∧ v.1 ≤ 2097151 ∧ -2097152 ≤ v.2 ∧ v.2 ≤ 2097151))) ∧
  (∀ (p cs k n layer : Nat) (hdr ok : Bool) (flags : Option (List Nat)) (s : State), p < 4 →
    let c : Instr := .sumCheckBlock p cs k n layer hdr ok flags
    let i := layer - s.lbase .ul cs
    let h := if hdr then s else s.count R.CASC_CNT1_HDR_BAD
    (s.sumOf cs k n = none → exec c s = .next h) ∧
    (∀ f, s.sumOf cs k n = some f → (p, i) ∉ f.tails → exec c s = .next h) ∧
    (∀ f, s.sumOf cs k n = some f → (p, i) ∈ f.tails → ∃ t : State, exec c s = .next t ∧
      t = { s with regs := t.regs, mem := t.mem, memx := t.memx, casc := t.casc, out := t.out } ∧
      (hdr = true → ok = true → t.regs = s.regs) ∧
      (hdr = true → ok = false → t.get (R.CHILD_CNT1_CRC_FAIL p) = min (s.get (R.CHILD_CNT1_CRC_FAIL p) + 1) 65535 ∧
        ∀ a, a ≠ R.CHILD_CNT1 p → t.reg a = s.reg a) ∧
      (hdr = false → t.get R.CASC_CNT1_HDR_BAD = min (s.get R.CASC_CNT1_HDR_BAD + 1) 255 ∧
        ∀ a, a ≠ R.CASC_CNT1 → t.reg a = s.reg a) ∧
      (hdr = false ∨ ok = false ∨ flags = none → t.mem = s.mem) ∧
      (s.worker = false → ∃ g, t.sumOf cs k n = some g ∧ g.rows = f.rows ∧ g.unit = f.unit ∧
        g.tails = (f.tails.erase (p, i)).filter (fun x => s.streams x.1 (s.sumBoundary f)) ∧
        ((∀ x ∈ f.tails, s.streams x.1 (s.sumBoundary f) = true) →
          (∀ j, j ≠ i → g.flags.getD j [] = f.flags.getD j []) ∧
          (hdr = false ∨ ok = false ∨ flags = none → g.flags.getD i [] = (f.flags.getD i []).map (· ||| 8)) ∧
          (∀ l, hdr = true → ok = true → flags = some l →
            let row := s.stageRow cs k n p i
            g.flags.getD i [] = (f.flags.getD i []).mapIdx fun x v => v ||| l.getD x 0 % 16 |||
              (if s.word32 row = rowTag k n cs 1 layer then t.rowFlags row x else 0))))))

/-- BROADCAST_PASS (R284, R359), BROADCAST_UNIT_RECEIVE (R284, R298) and PRACH_SUM_SEND (R286, R288, R296). -/
def Obligations.BroadcastAndPrachSums : Prop :=
  (∀ (cs k n : Nat) (s : State), cs < 8 →
    let c : Instr := .broadcastPass cs k n
    (s.worker = true ∨ s.symRuns .dl cs k = false ∨ s.radioOn = false ∨ s.anyDir .dl cs k n = false → exec c s = .next s) ∧
    (s.worker = false → s.symRuns .dl cs k = true → s.radioOn = true → s.anyDir .dl cs k n = true →
      let rb := s.slotRB .dl cs
      let miss := ((List.range (s.slotNL .dl cs)).map fun i => ((List.range rb).filter fun p => !s.landed cs k n i p).length).sum
      ∃ t : State, exec c s = .next t ∧
        t.now = max s.now (s.readoutAt cs (s.symBoundary .dl (s.slotMu .dl cs) k n) - s.bcLead k) ∧
        t = { s with now := t.now, regs := t.regs, fe := t.fe, sp := t.sp, out := t.out } ∧
        t.get (R.SP_WIN1_MISS_PRB 0 cs) = min (s.get (R.SP_WIN1_MISS_PRB 0 cs) + miss) 65535 ∧
        (miss = 0 → (∀ a, a ≠ R.SP_WIN1 0 cs → t.reg a = s.reg a) ∧ t.fe = s.fe ∧ t.sp = s.sp) ∧
        (∀ p ∈ s.bcastPorts k (s.symBoundary .dl (s.slotMu .dl cs) k n),
          (∀ u < unitsOf rb, ∃ rows, .bcast p cs (k % 1024) n u rows ∈ t.out ∧
            rows.length = s.slotNL .dl cs ∧ ∀ r ∈ rows, r.length = 16) ∧
          ∃ checks, .bcastTail p cs (k % 1024) n checks ∈ t.out ∧ checks.length = s.slotNL .dl cs))) ∧
  (∀ (cs k n u : Nat) (header : Bool) (rows : Option (List (List (Int × Int)))) (checks : List Nat) (s : State),
    let c : Instr := .broadcastUnitReceive cs k n u header rows checks
    let b := s.symBoundary .dl (s.slotMu .dl cs) k n
    let ports := s.bcastPorts k b
    let last := unitsOf (s.slotRB .dl cs)
    let zero := List.replicate (s.slotNL .dl cs) (List.replicate 16 ((0 : Int), (0 : Int)))
    (s.worker = false ∨ s.upFor k = none ∨ (s.slotEn .dl cs = false ∧ s.active .dl cs = false) ∨ last < u → exec c s = .next s) ∧
    (∀ up, s.worker = true → s.upFor k = some up → s.slotEn .dl cs = true ∨ s.active .dl cs = true →
      (u = last → s.streams up b = true → header = true →
        exec c s = .next { s with out := s.out ++ ports.map fun p => .bcastTail p cs (k % 1024) n checks }) ∧
      (u = last → s.streams up b = true → header = false → exec c s = .next (s.count R.CASC_CNT1_HDR_BAD)) ∧
      (u = last → s.streams up b = false → exec c s = .next s) ∧
      (∀ r, u < last → s.streams up b = true → header = true → rows = some r → ∃ t : State, exec c s = .next t ∧
        t = { s with mem := t.mem, memx := t.memx, out := t.out } ∧ t.out = s.out ++ ports.map fun p => .bcast p cs (k % 1024) n u r) ∧
      (u < last → s.streams up b = false ∨ (header = true ∧ rows = none) → ∃ t : State, exec c s = .next t ∧
        t = { s with regs := t.regs, mem := t.mem, memx := t.memx, out := t.out } ∧
        t.get R.CASC_CNT0_DL_ROW_MISSING = min (s.get R.CASC_CNT0_DL_ROW_MISSING + 1) 65535 ∧
        (∀ a, a ≠ R.CASC_CNT0 → t.reg a = s.reg a) ∧ t.out = s.out ++ ports.map fun p => .bcast p cs (k % 1024) n u zero) ∧
      (u < last → s.streams up b = true → header = false → ∃ t : State, exec c s = .next t ∧
        t = { s with regs := t.regs, mem := t.mem, memx := t.memx, out := t.out } ∧
        t.get R.CASC_CNT0_DL_ROW_MISSING = min (s.get R.CASC_CNT0_DL_ROW_MISSING + 1) 65535 ∧
        t.get R.CASC_CNT1_HDR_BAD = min (s.get R.CASC_CNT1_HDR_BAD + 1) 255 ∧
        (∀ a, a ≠ R.CASC_CNT0 → a ≠ R.CASC_CNT1 → t.reg a = s.reg a) ∧
        t.out = s.out ++ ports.map fun p => .bcast p cs (k % 1024) n u zero))) ∧
  (∀ (o : Nat) (kids : List ChildRow) (bad : List Nat) (hdr : Nat) (s : State), o < 4 →
    ((s.prx o).endAt = none → exec (.prachSumSend o kids bad hdr) s = .next s) ∧
    (∀ e, (s.prx o).endAt = some e →
      let k := (s.prx o).frame
      let base := (s.beamRows o).1
      let size := (s.beamRows o).2.2
      let n := (s.prx o).beams.length * (s.prx o).reps
      ∃ t : State, exec (.prachSumSend o kids bad hdr) s = .next t ∧
        t.now = max s.now (e + s.prBase k + (s.treeD k - s.depth k) * 4608) ∧
        t = { s with now := t.now, regs := t.regs, mem := t.mem, memx := t.memx, casc := t.casc, out := t.out } ∧
        (∀ a, a < base ∨ base + n * size ≤ a → t.byte a = s.byte a) ∧
        (s.worker = false → t.out = s.out) ∧
        (∀ p, s.upFor k = some p → s.worker = true → s.streams p e = true → t.out.length = s.out.length + n)))

/-- DA_ASSIGN_RECEIVE (R272), TIME_FRAME_RECEIVE, TIME_FRAME_TIMEOUT (R305, R306, R320) and UP_PORT_LOSS_TIMEOUT (R299). -/
def Obligations.AddressesAndTimeInTheTree : Prop :=
  (∀ (uid da : Nat) (s : State),
    (s.worker = false ∨ uid ≠ Config.uid % 2 ^ 64 ∨ s.upPort ≠ none → exec (.daAssignReceive uid da) s = .next s) ∧
    (s.worker = true → uid = Config.uid % 2 ^ 64 → s.upPort = none → ∃ t : State, exec (.daAssignReceive uid da) s = .next t ∧
      t = { s with regs := t.regs, out := t.out } ∧ t.ownDa = da % 64 ∧ t.flag R.CASC_STATUS_DA_VALID = true ∧ t.worker = true ∧
      ∀ a, a ≠ R.CASC_STATUS → (∀ p i, p < 4 → i < 8 → a ≠ R.HG_CAP_LOCAL p i) → t.reg a = s.reg a)) ∧
  (∀ (value : Nat) (good : Bool) (s : State),
    let c : Instr := .timeFrameReceive value good
    let d : Int := (value : Int) + 8000000 - s.time
    let grade := if good then 2 else 1
    (s.worker = false → exec c s = .next s) ∧
    (s.worker = true → d.natAbs ≤ 16 * 65536 → ∃ t : State, exec c s = .next t ∧ t = { s with regs := t.regs, casc := t.casc, tm := t.tm } ∧
      t.time = s.time ∧ t.tm.slew = (if d = 0 then none else some { start := s.now, total := d }) ∧ t.casc.timeLostN = 0 ∧
      t.flag R.CASC_STATUS_TIME_LOCK = true ∧ t.get R.TU_STATUS_VALID = grade ∧ t.get R.TIME_DELTA_DELTA = ofInt 32 d ∧
      ∀ a, a ≠ R.TIME_DELTA → a ≠ R.CASC_STATUS → a ≠ R.TU_STATUS → t.reg a = s.reg a) ∧
    (s.worker = true → 16 * 65536 < d.natAbs → s.carriersActive = false → ∃ t : State, exec c s = .next t ∧
      t = { s with regs := t.regs, casc := t.casc, tm := t.tm } ∧ t.time = value + 8000000 ∧ t.tm.slew = none ∧
      t.flag R.CASC_STATUS_TIME_LOCK = true ∧ t.get R.TU_STATUS_VALID = grade ∧ t.get R.TIME_DELTA_DELTA = ofInt 32 (satS 32 d) ∧
      ∀ a, a ≠ R.TIME_DELTA → a ≠ R.CASC_STATUS → a ≠ R.TU_STATUS → t.reg a = s.reg a) ∧
    (s.worker = true → 16 * 65536 < d.natAbs → s.carriersActive = true → ∃ t : State, exec c s = .next t ∧ t.time = s.time ∧
      t.flag R.CASC_STATUS_TIME_LOCK = false ∧ t.flag R.CASC_STATUS_TIME_FAULT = true ∧ t.mem = s.mem ∧
      t.get R.TU_STATUS_VALID = (if s.get R.TU_STATUS_VALID = 0 then 0 else 1))) ∧
  (∀ s : State,
    (s.worker = false ∨ s.casc.timeLostN < 100 ∨ s.flag R.CASC_STATUS_TIME_LOCK = false → exec .timeFrameTimeout s = .next s) ∧
    (s.worker = true → 100 ≤ s.casc.timeLostN → s.flag R.CASC_STATUS_TIME_LOCK = true → ∃ t : State,
      exec .timeFrameTimeout s = .next t ∧ t.flag R.CASC_STATUS_TIME_LOCK = false ∧ t.flag R.CASC_STATUS_TIME_FAULT = true ∧
      t.mem = s.mem ∧ t.time = s.time) ∧
    (s.worker = false ∨ s.casc.upLostN < 100 ∨ s.hold.upLost = true → exec .upPortLossTimeout s = .next s) ∧
    (s.worker = true → 100 ≤ s.casc.upLostN → s.hold.upLost = false → s.chains.length = 64 → ∃ t : State,
      exec .upPortLossTimeout s = .next t ∧ t.hold = { s.hold with upLost := true } ∧ t.mem = s.mem ∧ t.now = s.now ∧
      ∀ ch, ch < 64 → (t.chain ch).zero = true))

/-- CASC_COMMIT (R276, R277) and CASC_CANCEL (R277 under R202), for a swap that no command waits for. -/
def Obligations.PlanCommitAndCancel : Prop :=
  ∀ s : State,
    let f := s.get R.CASC_CTRL_FRAME
    let k := s.frameNo s.now + ((f + 1024 - s.sfn) % 1024 : Nat)
    (s.planCheck f ≠ 0 → ∃ t : State, exec .cascCommit s = .next t ∧ t = { s with regs := t.regs } ∧
      t.get R.CASC_STATUS_FAIL = s.planCheck f ∧ t.flag R.CASC_STATUS_COMMIT_PEND = s.flag R.CASC_STATUS_COMMIT_PEND ∧
      t.planAct = s.planAct ∧ ∀ a, a ≠ R.CASC_STATUS → t.reg a = s.reg a) ∧
    (s.planAct < 2 → (4 < s.get (R.PLAN_A_TREE_D (1 - s.planAct)) ∨
        s.get (R.PLAN_A_TREE_D (1 - s.planAct)) < s.get (R.PLAN_A_DEPTH (1 - s.planAct))) →
      ∃ t : State, exec .cascCommit s = .next t ∧ t.get R.CASC_STATUS_FAIL = 1 ∧ t.casc = s.casc) ∧
    (s.planCheck f = 0 → (∀ w, s.casc.swap = some w → w.cmd = none) → ∃ t : State, exec .cascCommit s = .next t ∧
      t = { s with regs := t.regs, casc := t.casc } ∧ t.flag R.CASC_STATUS_COMMIT_PEND = true ∧ t.planAct = s.planAct ∧
      t.casc = { s.casc with swap := some { frame := k.toNat, at_ := (s.frameStart k).toNat, cmd := none } } ∧
      s.now + 24576 ≤ s.frameStart k ∧ ∀ a, a ≠ R.CASC_STATUS → t.reg a = s.reg a) ∧
    (s.casc.swap = none → exec .cascCancel s = .next s) ∧
    (∀ w, s.casc.swap = some w →
      (w.at_ < s.now + 24576 → exec .cascCancel s = .next (s.raise (R.HG_STATUS_WR_REFUSED 0))) ∧
      (s.now + 24576 ≤ w.at_ → w.cmd = none → ∃ t : State, exec .cascCancel s = .next t ∧
        t = { s with regs := t.regs, casc := { s.casc with swap := none } } ∧ t.flag R.CASC_STATUS_COMMIT_PEND = false ∧
        t.planAct = s.planAct ∧ ∀ a, a ≠ R.CASC_STATUS → t.reg a = s.reg a))

/-- HP_LINK_CHANGE (R311), ETHREF_LOSS (R36), HP_FRAME_RECEIVE (R311 to R315), HP1_FRAME_FORWARD (R315, R322) and SIDE_FRAME_RECEIVE
(R280, R302, R303, R452). -/
def Obligations.FramesArrive : Prop :=
  let up := fun (n : Nat) => min (n + 1) 4294967295
  (∀ (e : Nat) (pcs fec : Bool) (s : State), e < 8 →
    let can := s.portOn e && s.flag R.HP_STATUS_ETHREF_OK
    ∃ t : State, exec (.hpLinkChange e pcs fec) s = .next t ∧ t = { s with regs := t.regs, fe := t.fe, out := t.out } ∧
      t.portUp e = (pcs && fec && can) ∧ t.fbit R.HP_STATUS_FEC_LOCK e = (fec && can) ∧
      (∀ k, k < 8 → k ≠ e → t.portUp k = s.portUp k) ∧
      (s.portUp e = (pcs && fec && can) → t.fe = s.fe ∧ t.out = s.out ∧ ∀ a, a ≠ R.HP_STATUS → t.reg a = s.reg a) ∧
      ∀ a, a ≠ R.HP_STATUS → (∀ x, x < 16 → a ≠ R.SESS_STAT x) → a ≠ R.CMD_CNT3 → t.reg a = s.reg a) ∧
  (∀ s : State, ∃ t : State, exec .ethrefLoss s = .next t ∧ t = { s with regs := t.regs, fe := t.fe, out := t.out } ∧
    t.flag R.HP_STATUS_ETHREF_OK = false ∧ ∀ e, e < 8 → t.portUp e = false) ∧
  -- frames on an Ethernet port
  (∀ (e : Nat) (l : List Byte) (corr uncorr : Nat) (bad : Bool) (res : Int) (room : Bool) (s : State), e < 8 →
    let c : Instr := .hpFrameReceive e l corr uncorr bad res room
    let u := (s.countBy (R.FEC_CORR_FEC_CORR e) corr).countBy (R.FEC_UNCORR_FEC_UNCORR e) uncorr
    let h := s.hp1Port
    let rx := fun (t : State) => t.get (R.RX_FRAMES_RX_FRAMES e) = up (s.get (R.RX_FRAMES_RX_FRAMES e))
    (s.portUp e = false ∨ s.pwrState = 3 → exec c s = .next s) ∧
    (s.portUp e = true → s.pwrState ≠ 3 →
      (bad = true ∨ (s.classify l = .rxDrop ∧ (s.flag R.HP_CTRL_HP1_EN = false ∨ s.fbit R.HP_CTRL_PMAP e = false)) →
        ∃ t : State, exec c s = .next t ∧ t = { s with regs := t.regs } ∧ rx t ∧
          t.get (R.RX_DROP_RX_DROP e) = up (s.get (R.RX_DROP_RX_DROP e)) ∧
          ∀ a, a ≠ R.RX_FRAMES e → a ≠ R.RX_DROP e → t.reg a = u.reg a) ∧
      (bad = false → s.flag R.HP_CTRL_HP1_EN = false ∨ s.fbit R.HP_CTRL_PMAP e = false →
        (s.classify l = .notLocal → ∃ t : State, exec c s = .next t ∧ t = { s with regs := t.regs } ∧ rx t ∧
          t.get R.HP_FWD_CNT_NOT_LOCAL = min (s.get R.HP_FWD_CNT_NOT_LOCAL + 1) 65535 ∧
          ∀ a, a ≠ R.RX_FRAMES e → a ≠ R.HP_FWD_CNT → t.reg a = u.reg a) ∧
        (s.classify l = .esmc → ∃ t : State, exec c s = .next t ∧ t = { s with regs := t.regs, out := t.out } ∧ rx t ∧
          t.out = s.out ++ [.firmware e (s.rxStamp e) l] ∧ ∀ a, a ≠ R.RX_FRAMES e → t.reg a = u.reg a) ∧
        (s.classify l = .toHp1 → room = false → ∃ t : State, exec c s = .next t ∧ t = { s with regs := t.regs } ∧ rx t ∧
          t.get R.HP_FWD_CNT_FWD_OVF = min (s.get R.HP_FWD_CNT_FWD_OVF + 1) 65535) ∧
        (s.classify l = .toHp1 → room = true → s.flag R.HP_CTRL_TC_EN = false → s.portUp h = true → ∃ t : State, exec c s = .next t ∧
          t = { s with regs := t.regs, out := t.out } ∧ rx t ∧ t.out = s.out ++ [.toHp1 l] ∧
          t.get (R.TX_FRAMES_TX_FRAMES h) = up (s.get (R.TX_FRAMES_TX_FRAMES h)) ∧
          ∀ a, a ≠ R.RX_FRAMES e → a ≠ R.TX_FRAMES h → t.reg a = u.reg a) ∧
        (∀ src b, s.classify l = .ecpri src b → s.worker = true → ∃ t : State, exec c s = .next t ∧ t = { s with regs := t.regs } ∧ rx t ∧
          ∀ a, a ≠ R.RX_FRAMES e → t.reg a = u.reg a)))) ∧
  -- frames of the HP1 port
  (∀ (l : List Byte) (res : Int) (room : Bool) (s : State),
    let c : Instr := .hp1FrameForward l res room
    (s.flag R.HP_CTRL_HP1_EN = false ∨ s.portUp s.hp1Port = false → exec c s = .next s) ∧
    (∀ e, e < 8 → s.flag R.HP_CTRL_HP1_EN = true → s.get R.HP_CTRL_PMAP = 2 ^ e → s.portUp e = true →
      let rx := fun (t : State) => t.get (R.RX_FRAMES_RX_FRAMES e) = up (s.get (R.RX_FRAMES_RX_FRAMES e))
      (9212 < l.length → ∃ t : State, exec c s = .next t ∧ t = { s with regs := t.regs } ∧ rx t ∧
        t.get (R.RX_DROP_RX_DROP e) = up (s.get (R.RX_DROP_RX_DROP e))) ∧
      (l.length ≤ 9212 → room = false → ∃ t : State, exec c s = .next t ∧ t = { s with regs := t.regs } ∧ rx t ∧
        t.get R.HP_FWD_CNT_FWD_OVF = min (s.get R.HP_FWD_CNT_FWD_OVF + 1) 65535) ∧
      (l.length ≤ 9212 → room = true → s.portUp 0 = true → ∃ t : State, exec c s = .next t ∧ t = { s with regs := t.regs, out := t.out } ∧ rx t ∧
        t.get (R.TX_FRAMES_TX_FRAMES 0) = up (s.get (R.TX_FRAMES_TX_FRAMES 0)) ∧
        t.out = s.out ++ [.frame 0 (if s.flag R.HP_CTRL_TC_EN then (tcCorrect l res).1 else l)]))) ∧
  -- side frames
  (∀ (p kind dst src frag : Nat) (l : List Byte) (s : State),
    let c := fun (h k : Bool) (x : Option (List SessCopy)) => Instr.sideFrameReceive p kind dst src frag l h k x
    (s.hgCarries p = false → ∀ h k x, exec (c h k x) s = .next s) ∧ (s.hgCarries p = true →
    (∀ k x, ∃ t : State, exec (c false k x) s = .next t ∧ t = { s with regs := t.regs } ∧
      t.get R.CASC_CNT1_HDR_BAD = min (s.get R.CASC_CNT1_HDR_BAD + 1) 255 ∧ ∀ a, a ≠ R.CASC_CNT1 → t.reg a = s.reg a) ∧
    (∀ k x, 7 < kind → exec (c true k x) s = .next s) ∧
    (∀ x, kind ≤ 7 → ∃ t : State, exec (c true false x) s = .next t ∧ t = { s with regs := t.regs, casc := t.casc } ∧
      t.get R.CASC_CNT1_SIDE_BAD = min (s.get R.CASC_CNT1_SIDE_BAD + 1) 255 ∧ look t.casc.parts (16 * p + kind) = none ∧
      ∀ a, a ≠ R.CASC_CNT1 → t.reg a = s.reg a) ∧
    (∀ x, kind ≤ 7 → s.frozen (0x50 + p) = true ∨ s.sideWay p kind = false → ∃ t : State, exec (c true true x) s = .next t ∧
      t = { s with regs := t.regs } ∧ t.get R.CASC_CNT1_FWD_DROP = min (s.get R.CASC_CNT1_FWD_DROP + 1) 65535 ∧
      ∀ a, a ≠ R.CASC_CNT1 → t.reg a = s.reg a) ∧
    (s.frozen (0x50 + p) = false → s.sideWay p kind = true → kind = 0 ∨ kind = 1 ∨ kind = 3 → dst ≠ 0xFF → dst ≠ s.ownDa →
      (∀ q, s.routeOf dst = some q → q ∈ s.cmdPorts → s.frozen (0x50 + q) = false →
        exec (c true true none) s = .next (s.emit (.side q kind dst src frag l))) ∧
      (s.routeOf dst = none → ∃ t : State, exec (c true true none) s = .next t ∧ t = { s with regs := t.regs } ∧
        t.get R.CASC_CNT1_FWD_DROP = min (s.get R.CASC_CNT1_FWD_DROP + 1) 65535)) ∧
    (s.frozen (0x50 + p) = false → s.sideWay p kind = true → kind = 4 ∨ kind = 5 → s.worker = true → ∀ q, s.upPort = some q →
      s.frozen (0x50 + q) = false → exec (c true true none) s = .next (s.emit (.side q kind dst src frag l)))))

/-- IQ_DATA_MESSAGE (R341, R343, R351, R356, R357, R359, R363) and SECTION_MESSAGE (R347, R348, R350, R351, R357). -/
def Obligations.FronthaulMessages : Prop :=
  (∀ (src : Nat) (m : List Byte) (s : State),
    let id := at16 m 0
    let cs := bits id 12 10
    let w0 := beNat ((m.drop 4).take 4)
    let w1 := beNat ((m.drop 8).take 4)
    let n := bits w0 21 10
    let comp := bits w0 9 6
    let p0 := bits w1 31 23
    let num := bits w1 22 14
    let layer := bits id 9 5
    let row := layer - s.lbase .dl cs
    let own := s.slotOwner 0 cs
    let k := s.frameNear (w0 / 2 ^ 22)
    let a := s.ringRow cs k n row
    let c : Instr := .iqDataMessage src m
    let bump := fun (t : State) (f : Field) => t.get f = min (s.get f + 1) 65535
    let good := id / 2 ^ 14 = 0 ∧ id.testBit 13 = false ∧ beNat ((m.drop 3).take 1) = 128 ∧ comp ≤ 8 ∧
      (s.slotEn .dl cs = true ∨ s.active .dl cs = true) ∧ s.lbase .dl cs ≤ layer ∧ row < s.slotNL .dl cs ∧ p0 + num ≤ s.slotRB .dl cs ∧
      n < symsPerFrame (s.slotMu .dl cs)
    let kept := fun (t : State) => t = { s with regs := t.regs, sp := t.sp, fe := t.fe, out := t.out }
    (id / 2 ^ 14 ≠ 0 ∨ id.testBit 13 = true ∨ beNat ((m.drop 3).take 1) ≠ 128 → ∃ t : State, exec c s = .next t ∧
      t = { s with regs := t.regs } ∧ bump t R.SP_CNT0_BAD_HDR ∧ ∀ b, b ≠ R.SP_CNT0 → t.reg b = s.reg b) ∧
    (good → m.length ≠ 12 + num * blockBytes comp → ∃ t : State, exec c s = .next t ∧ kept t ∧ bump t R.SP_CNT0_BAD_LEN) ∧
    (good → m.length = 12 + num * blockBytes comp →
      (16 ≤ own ∨ s.fbit R.SP_STATUS_OPEN own = false → ∃ t : State, exec c s = .next t ∧ kept t ∧ bump t R.SP_CNT1_NOT_OWNER) ∧
      (own < 16 → s.fbit R.SP_STATUS_OPEN own = true →
        (s.fbit R.SP_STATUS_FROZEN own = true → ∃ t : State, exec c s = .next t ∧ kept t ∧ bump t R.SP_CNT1_FROZEN_DROP) ∧
        (s.fbit R.SP_STATUS_FROZEN own = false →
          (s.flag R.SP_CFG_SRC_CHECK = true → s.sessSource own ≠ src → ∃ t : State, exec c s = .next t ∧ kept t ∧
            bump t R.SP_CNT1_NOT_OWNER) ∧
          (s.flag R.SP_CFG_SRC_CHECK = false ∨ s.sessSource own = src →
            ((s.now : Int) < (s.iqWindow cs k n).1 → ∃ t : State, exec c s = .next t ∧ kept t ∧ bump t (R.SP_WIN0_EARLY 0 cs)) ∧
            ((s.iqWindow cs k n).1 ≤ s.now → (s.iqWindow cs k n).2 < s.now → ∃ t : State, exec c s = .next t ∧ kept t ∧
              bump t (R.SP_WIN0_LATE 0 cs)) ∧
            ((s.iqWindow cs k n).1 ≤ s.now → (s.now : Int) ≤ (s.iqWindow cs k n).2 → s.anyDir .dl cs k n = true →
              s.slotRB .dl cs ≤ 273 → ∃ t : State, exec c s = .next t ∧
                t = { s with regs := t.regs, mem := t.mem, memx := t.memx, sp := t.sp } ∧
                (∀ i, i < num → t.landed cs k n row (p0 + i) = true) ∧
                ∀ b, b < a ∨ (a + 512 ≤ b ∧ b < a + 512 + 48 * p0) ∨ a + 512 + 48 * (p0 + num) ≤ b ∨
                  (s.word32 a = rowTag k n cs 0 layer ∧ a + 48 ≤ b ∧ b < a + 512) → t.byte b = s.byte b)))))) ∧
  (∀ (src : Nat) (m : List Byte) (s : State), s.sectHeader m = none → at16 m 0 / 2 ^ 14 ≠ 0 ∨ beNat ((m.drop 3).take 1) ≠ 128 →
    ∃ t : State, exec (.sectionMessage src m) s = .next t ∧ t = { s with regs := t.regs } ∧
      t.get R.SP_CNT0_BAD_HDR = min (s.get R.SP_CNT0_BAD_HDR + 1) 65535 ∧ ∀ b, b ≠ R.SP_CNT0 → t.reg b = s.reg b) ∧
  (∀ (src : Nat) (m : List Byte) (d : Dir) (cs sfn n num : Nat) (s : State), s.sectHeader m = some (d, cs, sfn, n, num, 1) → m.length = 16 →
    let c : Instr := .sectionMessage src m
    let own := s.slotOwner (dirIx d) cs
    let k := s.frameNear sfn
    let w0 := beNat ((m.drop 8).take 4)
    let w1 := beNat ((m.drop 12).take 4)
    let layer := w0 / 2 ^ 27
    let p0 := bits w0 26 18
    let np := bits w0 17 9
    let fits := s.lbase d cs ≤ layer ∧ layer < s.lbase d cs + s.slotNL d cs ∧ np ≠ 0 ∧ p0 + np ≤ s.slotRB d cs ∧ bits w0 8 1 = 0 ∧
      w1 % 65536 = 0
    let r : SectRec := { d := dirIx d, cs := cs, frame := k, sym := n, num := num, layer := layer, p0 := p0, p1 := p0 + np,
                         ref := w1 / 65536 }
    let w := s.sectWindow d cs k n
    let kept := fun (t : State) => t = { s with regs := t.regs, sp := t.sp, fe := t.fe, out := t.out }
    (16 ≤ own ∨ s.fbit R.SP_STATUS_OPEN own = false → ∃ t : State, exec c s = .next t ∧ kept t ∧ t.sp.store = s.sp.store ∧
      t.get R.SP_CNT1_NOT_OWNER = min (s.get R.SP_CNT1_NOT_OWNER + 1) 65535) ∧
    (own < 16 → s.fbit R.SP_STATUS_OPEN own = true → s.fbit R.SP_STATUS_FROZEN own = false →
      s.flag R.SP_CFG_SRC_CHECK = false ∨ s.sessSource own = src →
      ((s.now : Int) < w.1 → ∃ t : State, exec c s = .next t ∧ kept t ∧ t.sp.store = s.sp.store ∧
        t.get (R.SP_WIN0_EARLY (dirIx d) cs) = min (s.get (R.SP_WIN0_EARLY (dirIx d) cs) + 1) 65535) ∧
      (w.1 ≤ s.now → w.2 < s.now → ∃ t : State, exec c s = .next t ∧ kept t ∧ t.sp.store = s.sp.store ∧
        t.get (R.SP_WIN0_LATE (dirIx d) cs) = min (s.get (R.SP_WIN0_LATE (dirIx d) cs) + 1) 65535) ∧
      (w.1 ≤ s.now → (s.now : Int) ≤ w.2 → w0.testBit 0 = false →
        (¬fits → ∃ t : State, exec c s = .next t ∧ kept t ∧ t.sp.store = s.sp.store ∧
          t.get R.SP_CNT2_BAD_REC = min (s.get R.SP_CNT2_BAD_REC + 1) 65535) ∧
        (fits → 8192 ≤ s.sp.store.length → ∃ t : State, exec c s = .next t ∧ kept t ∧ t.sp.store = s.sp.store ∧
          t.get R.SP_CNT2_STORE_FULL = min (s.get R.SP_CNT2_STORE_FULL + 1) 65535) ∧
        (fits → s.sp.store.length < 8192 → ∃ t : State, exec c s = .next t ∧ kept t ∧ t.sp.store = s.sp.store ++ [r] ∧
          t.get R.SP_STORE_FREE = 8191 - s.sp.store.length))))

/-- LQ_POST (R335, R337), LAUNCH_INSTANT (R335 to R337), UL_BURST_POST (R360, R361) and PRACH_ROW_LAUNCH (R362). -/
def Obligations.UplinkAndTimedLaunch : Prop :=
  (∀ s : State, s.hp.lq.length = 8 →
    let q := s.get R.LQ_DESC1_QUEUE
    let e := s.get R.LQ_DESC1_PORT
    let len := s.get R.LQ_DESC1_LEN
    let one := if s.flag R.LQ_DESC1_ONE_STEP then some (s.get R.LQ_DESC1_OFS) else none
    let bad := q = 0 ∨ 1000000000 ≤ s.get R.LQ_DESC2_NS ∨ 9212 < len
    let full := 64 ≤ s.lqLen e q ∨ 65536 < s.lqBytes e + len
    let late := ∀ i, s.lqInstant = some i → s.cycleOf s.now i < s.now + 1024
    (bad → exec .lqPost s = .next (s.put R.LQ_STATUS_RESULT 0x21)) ∧
    (¬bad → full → exec .lqPost s = .next (s.put R.LQ_STATUS_RESULT 0x11)) ∧
    (∀ i, ¬bad → ¬full → s.lqInstant = some i → s.now + 1024 ≤ s.cycleOf s.now i → ∃ t : State, exec .lqPost s = .next t ∧
      t = { s with regs := t.regs, hp := t.hp } ∧ t.get R.LQ_STATUS_RESULT = 0 ∧
      t.lqOf e = s.lqOf e ++ [LqEntry.mk q i true one (s.bytes (s.get R.LQ_DESC0_ADDR) len)] ∧
      (∀ k, k ≠ e → t.lqOf k = s.lqOf k) ∧ ∀ a, a ≠ R.LQ_STATUS → t.reg a = s.reg a) ∧
    (¬bad → ¬full → late → ∃ t : State, exec .lqPost s = .next t ∧ t = { s with regs := t.regs, hp := t.hp, out := t.out } ∧
      t.get R.LQ_STATUS_RESULT = 0 ∧ (∀ k, t.lqOf k = s.lqOf k) ∧
      t.get (R.LQ_CNT_LATE e) = min (s.get (R.LQ_CNT_LATE e) + 1) 4095 ∧
      (s.flag R.LQ_DESC1_LATE = false → t.out = s.out ∧ t.hp = s.hp) ∧
      (s.flag R.LQ_DESC1_LATE = true → s.portUp e = true → t.out.length = s.out.length + 2))) ∧
  (∀ (e : Nat) (s : State), e < 8 → s.hp.lq.length = 8 → s.hp.wire.length = 8 →
    (s.lqOf e = [] → exec (.launchInstant e) s = .next s) ∧
    (∀ x, firstDue (s.lqOf e) = some x → ∃ t : State, exec (.launchInstant e) s = .next t ∧
      t = { s with now := t.now, regs := t.regs, hp := t.hp, out := t.out } ∧ t.now = max s.now (s.cycleOf s.now x.at_) ∧
      t.lqOf e = (s.lqOf e).erase x ∧ (∀ k, k ≠ e → t.lqOf k = s.lqOf k) ∧ x ∈ s.lqOf e ∧ (∀ y ∈ s.lqOf e, x.at_ ≤ y.at_) ∧
      (s.portUp e = false → t.out = s.out ∧ t.get (R.LQ_CNT_DROP e) = min (s.get (R.LQ_CNT_DROP e) + 1) 4095) ∧
      (s.portUp e = true →
        let busy := s.hp.wire.getD e 0
        t.get (R.TX_FRAMES_TX_FRAMES e) = min (s.get (R.TX_FRAMES_TX_FRAMES e) + 1) 4294967295 ∧
        t.hp.wire.getD e 0 > max busy x.at_ ∧
        (x.at_ < busy → x.first = true → t.get (R.LQ_CNT_SHIFTED e) = min (s.get (R.LQ_CNT_SHIFTED e) + 1) 255) ∧
        (busy ≤ x.at_ ∨ x.first = false → t.get (R.LQ_CNT_SHIFTED e) = s.get (R.LQ_CNT_SHIFTED e)) ∧
        (x.oneStep = none → t.out = s.out ++ .frame e x.bytes ::
          (if x.queue = 0 then [] else [.txStamp e (((max busy x.at_ : Nat) : Int) + s.getS (R.TS_ADJ_TX e) * 256).toNat]))))) ∧
  (∀ (cs k n : Nat) (s : State), cs < 8 → s.hp.lq.length = 8 →
    let c : Instr := .ulBurstPost cs k n
    (s.sumOf cs k n = none ∨ s.ulSym cs k n = none → exec c s = .next s) ∧
    (∀ f y, s.sumOf cs k n = some f → s.ulSym cs k n = some y →
      let at0 := y.localAt + 12 * y.rb + 35 + s.treeD k * 212
      (s.worker = true ∨ f.unit ≠ unitsOf y.rb → exec c s = .next s) ∧
      (s.worker = false → f.unit = unitsOf y.rb → ∃ t : State, exec c s = .next t ∧
        t = { s with now := t.now, regs := t.regs, casc := t.casc, sp := t.sp, hp := t.hp } ∧ t.now = max s.now at0 ∧
        t.sumOf cs k n = none ∧ (∀ a, a ≠ R.SP_CNT4 → a ≠ R.SP_WIN1 1 cs → t.reg a = s.reg a) ∧
        (16 ≤ y.own → t.hp = s.hp ∧ t.sp = s.sp ∧ t.regs = s.regs) ∧
        (y.own < 16 →
          let port := fmtOf R.CS_UL_FMT_PORT y.fmt
          (∀ e, e ≠ port → t.lqOf e = s.lqOf e) ∧ (s.lqLen port 0 ≤ 64 → t.lqLen port 0 ≤ 64) ∧
          ∃ new, t.lqOf port = s.lqOf port ++ new ∧ ∀ x ∈ new, x.queue = 0 ∧ x.oneStep = none ∧
            x.at_ = (s.timeAt (at0 + fmtOf R.CS_UL_FMT_UL_ADD y.fmt)).toNat)))) ∧
  (∀ (o : Nat) (s : State), o < 4 → s.hp.lq.length = 8 →
    ((s.prx o).endAt = none → exec (.prachRowLaunch o) s = .next s) ∧
    (∀ e, (s.prx o).endAt = some e →
      let x := s.prx o
      let done := e + s.prBase x.frame + s.treeD x.frame * 4608
      let port := fmtOf R.CS_UL_FMT_PORT x.fmt
      ∃ t : State, exec (.prachRowLaunch o) s = .next t ∧ t.now = max s.now done ∧
        t = { s with now := t.now, regs := t.regs, sp := t.sp, hp := t.hp } ∧
        (∀ a, a ≠ R.SP_CNT4 → a ≠ R.SP_WIN1 1 x.cs → t.reg a = s.reg a) ∧
        (s.worker = true ∨ 16 ≤ x.own → t.hp = s.hp ∧ t.sp = s.sp ∧ t.regs = s.regs) ∧
        (s.worker = false → x.own < 16 → ∃ new, t.lqOf port = s.lqOf port ++ new ∧ new.length ≤ x.beams.length * x.reps ∧
          ∀ y ∈ new, y.queue = 0 ∧ y.at_ = (s.timeAt (done + x.prAdd)).toNat)))

/-- TU_SNAP, TU_STEP, TIME_STEP_APPLY (R319), FORCE_VALID (R334), FREQ_SLEW_PERIOD (R326), VCXO_UPDATE (R327), VC_EN_WRITE (R328),
PPS_OUT_EDGE (R331) and PPS_IN_EDGE (R332). -/
def Obligations.DeviceTimeAndPps : Prop :=
  ∀ s : State,
    (∃ t : State, exec .tuSnap s = .next t ∧ t = { s with regs := t.regs } ∧
      (t.reg R.TU_SNAP0).toNat = timeSec s.time / 2 ^ 32 ∧ (t.reg R.TU_SNAP1).toNat = timeSec s.time % 2 ^ 32 ∧
      (t.reg R.TU_SNAP2).toNat = timeNs s.time ∧ (t.reg R.TU_SNAP3).toNat = timeFrac s.time ∧
      ∀ a, a ≠ R.TU_SNAP0 → a ≠ R.TU_SNAP1 → a ≠ R.TU_SNAP2 → a ≠ R.TU_SNAP3 → t.reg a = s.reg a) ∧
    -- steps
    (1000000000 ≤ s.get R.TU_SET2_NS → exec .tuStep s = .next (s.raise R.TU_STATUS_STEP_REFUSED)) ∧
    (s.get R.TU_SET2_NS < 1000000000 →
      (s.carriersActive = true → ∃ t : State, exec .tuStep s = .next t ∧ t.flag R.TU_STATUS_STEP_REFUSED = true ∧
        t.tm.stepAt = s.tm.stepAt ∧ t.time = s.time ∧ t = { s with regs := t.regs, tm := t.tm, fe := t.fe, out := t.out }) ∧
      (s.carriersActive = false → (∀ c, s.tm.stepAt = some c → exec .tuStep s = .next s) ∧
        (s.tm.stepAt = none → ∃ c, s.now ≤ c ∧ c ≤ s.now + 1 ∧ (s.tm.epoch ≤ s.now → (c - s.tm.epoch) % 2 = 0) ∧
          exec .tuStep s = .next { s with tm := { s.tm with stepAt := some c } }))) ∧
    (s.tm.stepAt = none → exec .timeStepApply s = .next s) ∧
    (∀ c, s.tm.stepAt = some c → ∃ t : State, exec .timeStepApply s = .next t ∧ t.now = max s.now c ∧ t.time = s.tuTarget ∧
      t.tm.stepAt = none ∧ t.flag R.TU_STATUS_STEPPED = true ∧ t.mem = s.mem ∧
      (s.worker = false → s.get (servoField s.selNow) = svFreerun → t.get R.TU_STATUS_VALID = 1)) ∧
    (exec .forceValid s = .next { s with tm := { s.tm with carriersHeld := false } }) ∧
    -- the VCXO
    (∃ t : State, exec .freqSlewPeriod s = .next t ∧ t = { s with now := t.now, bound := t.bound, tm := { s.tm with freqCmd := t.tm.freqCmd } } ∧
      (s.get R.VC_CFG_DF_MAX = 0 → t.tm.freqCmd = s.servoOut) ∧
      (s.get R.VC_CFG_DF_MAX ≠ 0 → (t.tm.freqCmd - s.tm.freqCmd).natAbs ≤ s.get R.VC_CFG_DF_MAX * 1024 ∧
        ((s.servoOut - s.tm.freqCmd).natAbs ≤ s.get R.VC_CFG_DF_MAX * 1024 → t.tm.freqCmd = s.servoOut))) ∧
    (s.flag R.VC_CFG_EN = false → ∃ t : State, exec .vcxoUpdate s = .next t ∧ t = { s with now := t.now, bound := t.bound }) ∧
    (s.flag R.VC_CFG_EN = true → s.get R.VC_LIM_LIMIT_LO ≤ s.get R.VC_LIM_LIMIT_HI → ∃ t : State, exec .vcxoUpdate s = .next t ∧
      s.get R.VC_LIM_LIMIT_LO ≤ t.get R.VC_NOW_CODE ∧ t.get R.VC_NOW_CODE ≤ s.get R.VC_LIM_LIMIT_HI ∧
      t.flag R.TU_STATUS_VC_LIMIT = decide (s.vcCode.1 ≠ s.vcCode.2) ∧ t.tm.freqCmd = s.tm.freqCmd ∧ t.mem = s.mem ∧
      ((t.get R.VC_NOW_CODE : Int) * 65536 + t.get R.VC_NOW_FRAC) = s.vcCode.2) ∧
    (exec (.vcEnWrite false) s = .next ((s.put R.VC_CFG_EN 0).put (R.ADAC_CFG_OWNER 64) 0)) ∧
    (s.flag R.VC_CFG_EN = true → exec (.vcEnWrite true) s = .next ((s.put R.VC_CFG_EN 1).put (R.ADAC_CFG_OWNER 64) 2)) ∧
    (s.flag R.VC_CFG_EN = false → ∃ t : State, exec (.vcEnWrite true) s = .next t ∧ t.flag R.VC_CFG_EN = true ∧
      t.get (R.ADAC_CFG_OWNER 64) = 2 ∧ t.mem = s.mem ∧ t.now = s.now ∧ t.tm.freqCmd = s.tm.freqCmd) ∧
    -- PPS
    (s.flag R.PPS_OUT_CFG_EN = false ∨ (s.flag R.PPS_OUT_CFG_GATE = true ∧ s.get R.TU_STATUS_VALID ≠ 2) → ∃ t : State,
      exec .ppsOutEdge s = .next t ∧ t = { s with now := t.now, bound := t.bound }) ∧
    (s.flag R.PPS_OUT_CFG_EN = true → s.flag R.PPS_OUT_CFG_GATE = false ∨ s.get R.TU_STATUS_VALID = 2 → ∃ t : State,
      exec .ppsOutEdge s = .next t ∧ t = { s with now := t.now, bound := t.bound, tm := t.tm, out := t.out } ∧
      (∃ place, t.out = s.out ++ [.ppsEdge place]) ∧ t.tm = { s.tm with ppsUntil := t.now + s.get R.PPS_OUT_CFG_WIDTH * msCycles } ∧
      (1 ≤ s.get R.PPS_OUT_CFG_WIDTH → t.ppsOut = true)) ∧
    (∀ c eighth, s.tm.ppsLast = some c → s.now < c + 500 * msCycles → ∃ t : State, exec (.ppsInEdge eighth) s = .next t ∧
      t = { s with regs := t.regs } ∧ t.get R.PPS_IN_CNT_EXTRA = min (s.get R.PPS_IN_CNT_EXTRA + 1) 65535 ∧
      ∀ a, a ≠ R.PPS_IN_CNT → t.reg a = s.reg a) ∧
    (∀ eighth, (∀ c, s.tm.ppsLast = some c → c + 500 * msCycles ≤ s.now) → ∃ t : State, exec (.ppsInEdge eighth) s = .next t ∧
      t.tm.ppsLast = some s.now ∧ t.get R.PPS_IN_CNT_EDGES = min (s.get R.PPS_IN_CNT_EDGES + 1) 65535 ∧ t.time = s.time ∧
      t.get R.PPS_IN_TS1_NS = timeNs (s.time + (roundDiv (eighth * 50000) 3).toNat) ∧
      (s.flag (R.SRV_CFG_SRC 1) = false → t = { s with regs := t.regs, tm := { s.tm with ppsLast := some s.now } }))

/-- SERVO_SAMPLE (R323), SRV_CFG_WRITE (R324, R338), SERVO_HOLDOVER_TIMEOUT (R324, R325), SYNCE_GATE (R329, R330) and SYNCE_LOST (R330). -/
def Obligations.ServosAndSyncE : Prop :=
  ∀ s : State, s.tm.servos.length = 2 →
    (∀ e, s.flag (R.SRV_CFG_SRC 1) = true → exec (.servoSample 1 e) s = .next s) ∧
    (∀ x w, x < 2 → s.worker = false → (x = 1 → s.flag (R.SRV_CFG_SRC 1) = false) →
      let e := toInt 32 w
      let st := s.get (servoField x)
      let near := e.natAbs ≤ s.get (R.SRV_HOLD_LOCK_THR x) * 256
      (256000000 < e.natAbs → ∃ t : State, exec (.servoSample x w) s = .next t ∧ t = { s with regs := t.regs } ∧
        t.get (R.SRV_CNT_REJECTED x) = min (s.get (R.SRV_CNT_REJECTED x) + 1) 65535 ∧ ∀ a, a ≠ R.SRV_CNT x → t.reg a = s.reg a) ∧
      (e.natAbs ≤ 256000000 → ∃ t : State, exec (.servoSample x w) s = .next t ∧
        t = { s with regs := t.regs, tm := t.tm, fe := t.fe, out := t.out } ∧ t.time = s.time ∧
        t.servo (1 - x) = s.servo (1 - x) ∧ (t.servo x).lastE = e ∧ (t.servo x).lastAt = s.now ∧
        (t.servo x).run = (if near then (s.servo x).run + 1 else 0) ∧
        (t.servo x).pull.natAbs ≤ (roundDiv ((s.get (R.SRV_CFG_PULL_MAX x) : Nat) * 65536 : Nat) 10).natAbs ∧
        (s.takesKi x = true → (t.servo x).fInt = (s.servo x).fInt + roundShift (e * 256) (s.get (R.SRV_CFG_KI x))) ∧
        (s.takesKi x = false → (t.servo x).fInt = (s.servo x).fInt) ∧
        t.get (R.SRV_CNT_ACCEPTED x) = min (s.get (R.SRV_CNT_ACCEPTED x) + 1) 65535 ∧
        t.get (R.SRV_ERR_E x) = ofInt 32 e ∧ t.get (R.SRV_FREQ_F_INT x) = ofInt 32 (t.servo x).fInt ∧
        (st = svLocked → t.get (servoField x) = svLocked) ∧
        (st = svAcquiring ∨ st = svFreerun →
          t.get (servoField x) = (if near ∧ 15 ≤ (s.servo x).run then svLocked else svAcquiring)) ∧
        (st = svHoldover → t.get (servoField x) = svAcquiring))) ∧
    (s.worker = true → (∀ x w, exec (.servoSample x w) s = .next s) ∧ (∀ x, exec (.servoHoldoverTimeout x) s = .next s) ∧
      ∀ ferr, exec (.synceGate ferr) s = .next s) ∧
    (∀ x v, x < 2 →
      (100 < (R.SRV_CFG_PULL_MAX x).of v → exec (.srvCfgWrite x v) s = .next s) ∧
      ((R.SRV_CFG_PULL_MAX x).of v ≤ 100 → ∃ t : State, exec (.srvCfgWrite x v) s = .next t ∧ t = { s with regs := t.regs, tm := t.tm } ∧
        t.get (servoField x) = svFreerun ∧ (t.servo x).fInt = 0 ∧ (t.servo x).pull = 0 ∧ t.servo (1 - x) = s.servo (1 - x) ∧
        t.get (R.SRV_CFG_PULL_MAX x) = (R.SRV_CFG_PULL_MAX x).of v ∧ t.get (R.SRV_CFG_KI x) = (R.SRV_CFG_KI x).of v ∧
        t.get (R.SRV_CFG_KP x) = (R.SRV_CFG_KP x).of v ∧ t.get (R.SRV_FREQ_F_INT x) = 0 ∧
        ∀ a, a ≠ R.SRV_CFG x → a ≠ R.SRV_FREQ x → a ≠ R.SRV_ERR x → a ≠ R.TU_STATUS → t.reg a = s.reg a)) ∧
    (∀ x, x < 2 → s.worker = false →
      let st := s.get (servoField x)
      (st ≠ svAcquiring → st ≠ svLocked → exec (.servoHoldoverTimeout x) s = .next s) ∧
      (st = svAcquiring ∨ st = svLocked → ∃ t : State, exec (.servoHoldoverTimeout x) s = .next t ∧
        t.now = max s.now ((s.servo x).lastAt + s.get (R.SRV_HOLD_HOLD_TO x) * msCycles) ∧
        t = { s with now := t.now, regs := t.regs, tm := t.tm, fe := t.fe, out := t.out } ∧ t.get (servoField x) = svHoldover ∧
        (t.servo x).pull = 0 ∧ (t.servo x).fInt = roundDiv (s.servo x).hist.sum (max 1 (s.servo x).hist.length) ∧
        t.servo (1 - x) = s.servo (1 - x) ∧
        (s.selNow = x → s.flag R.TU_CTRL_AUTO_SEL = true → s.get (servoField (1 - x)) = svLocked → t.selNow = 1 - x) ∧
        (s.selNow ≠ x ∨ s.flag R.TU_CTRL_AUTO_SEL = false ∨ s.get (servoField (1 - x)) ≠ svLocked → t.selNow = s.selNow))) ∧
    (let m := s.get R.TU_CTRL_SYNCE_MODE
     let lost := fun (t : State) => t.flag R.TU_STATUS_SYNCE_OK = false ∧ t.tm = { s.tm with synceEnded := s.tm.synceEnded || m == 2 } ∧
       t.mem = s.mem
     (∀ ferr, m ≠ 1 → m ≠ 2 → exec (.synceGate ferr) s = .next s) ∧
     (∀ ferr, s.worker = false → m = 1 ∨ m = 2 →
       (4600 * 65536 < ferr.natAbs → ∃ t : State, exec (.synceGate ferr) s = .next t ∧ lost t ∧ t.get R.SE_FERR_FERR = ofInt 32 ferr) ∧
       (ferr.natAbs ≤ 4600 * 65536 → ∃ t : State, exec (.synceGate ferr) s = .next t ∧
         t = { s with now := t.now, bound := t.bound, regs := t.regs, tm := t.tm } ∧ t.flag R.TU_STATUS_SYNCE_OK = true ∧
         t.get R.SE_FERR_FERR = ofInt 32 ferr ∧
         (m = 1 ∨ s.tm.synceEnded = true → t.tm = s.tm) ∧
         (m = 2 → s.tm.synceEnded = false → (t.servo s.selNow).pull = (s.servo s.selNow).pull ∧
           (t.servo s.selNow).fInt = (s.servo s.selNow).fInt - roundShift ferr (s.get R.TU_CTRL_KSE)))) ∧
     (m = 0 → exec .synceLost s = .next s) ∧
     (m ≠ 0 → ∃ t : State, exec .synceLost s = .next t ∧ lost t ∧ t.now = s.now))

/-- SEQ_EDGE (R366 to R370), SEQ_EN_WRITE (R369), ADAC_LOCK (R377), ADAC_LD, ADAC_CODE_WRITE, ADACLD_EDGE (R375, R376, R378),
ADACCLR_N_CHANGE (R379) and DEGLITCH_HOLD_END (R378). -/
def Obligations.SequencerAndAuxDacs : Prop :=
  (∀ (q k e : Nat) (s : State), q < 4 → s.chains.length = 64 →
    let x := (k, e)
    (∀ kind, s.seqRuns = false → s.pa.leave[q]? = none → exec (.seqEdge q kind k e) s = .next s) ∧
    (∀ l, s.seqRuns = false → s.pa.leave[q]? = some l →
      (∃ t : State, exec (.seqEdge q .txOff k e) s = .next t ∧ t.now = max s.now l.1 ∧
        ∀ ch ∈ chainsOf q, t.flag (R.CH_STATUS_TX_LIVE ch) = false) ∧
      (∃ t : State, exec (.seqEdge q .rxOff k e) s = .next t ∧ t.now = max s.now l.2.2 ∧
        ∀ ch ∈ chainsOf q, t.flag (R.CH_STATUS_RX_LIVE ch) = false)) ∧
    (∀ kind, ∃ t : State, exec (.seqEdge q kind k e) s = .next t ∧ t.mem = s.mem ∧ s.now ≤ t.now ∧
      ∀ ch, ch < 64 → ch / 16 ≠ q → t.chain ch = s.chain ch ∧ t.get (R.CH_STATUS_TX_LIVE ch) = s.get (R.CH_STATUS_TX_LIVE ch) ∧
        t.get (R.CH_STATUS_RX_LIVE ch) = s.get (R.CH_STATUS_RX_LIVE ch)) ∧
    (s.seqRuns = true → s.runEnd .dl q x = false ∨ s.mergesOn .dl q .txOn .txOff x = true → exec (.seqEdge q .txOff k e) s = .next s) ∧
    (s.seqRuns = true → s.runEnd .dl q x = true → s.mergesOn .dl q .txOn .txOff x = false → ∃ t : State,
      exec (.seqEdge q .txOff k e) s = .next t ∧ t.now = max s.now (s.seqTime .txOff x) ∧
      ∀ ch ∈ chainsOf q, t.flag (R.CH_STATUS_TX_LIVE ch) = false ∧ (t.chain ch).txWait = false) ∧
    (s.seqRuns = true → s.runEnd .ul q x = true → s.mergesOn .ul q .rxOn .rxOff x = false → ∃ t : State,
      exec (.seqEdge q .rxOff k e) s = .next t ∧ t.now = max s.now (s.seqTime .rxOff x) ∧
      ∀ ch ∈ chainsOf q, t.flag (R.CH_STATUS_RX_LIVE ch) = false ∧ (t.chain ch).rxWait = false) ∧
    (s.runStart .dl q x = false ∨ s.mergesBack .dl q .txOn .txOff x = true → exec (.seqEdge q .txOn k e) s = .next s) ∧
    (∃ t : State, exec (.seqEdge q .txOn k e) s = .next t ∧ ∀ ch ∈ chainsOf q, t.flag (R.CH_STATUS_TX_LIVE ch) = true →
      s.flag (R.CH_STATUS_TX_LIVE ch) = true ∨ ((s.chain ch).runOpen = true ∧ (s.chain ch).runSkip = false ∧ s.txHeld ch = false ∧
        s.flag (R.CH_CTRL_TX_EN ch) = true ∧ s.flag (R.CH_STATUS_TX_RDY ch) = true ∧ s.flag (R.CH_STATUS_RX_LIVE ch) = false)) ∧
    (s.seqRuns = true → s.runStart .dl q x = true → s.mergesBack .dl q .txOn .txOff x = false → ∃ t : State,
      exec (.seqEdge q .txOn k e) s = .next t ∧ t.now = max s.now (s.seqTime .txOn x))) ∧
  (∀ s : State, s.chains.length = 64 →
    (∃ t : State, exec (.seqEnWrite false) s = .next t ∧ t = { s with regs := t.regs, chains := t.chains } ∧ t.flag R.SEQ_CFG_EN = false ∧
      ∀ ch, ch < 64 → t.flag (R.CH_STATUS_TX_LIVE ch) = false ∧ t.flag (R.CH_STATUS_RX_LIVE ch) = false ∧ (t.chain ch).runOpen = false) ∧
    (s.flag R.SEQ_CFG_EN = false →
      exec (.seqEnWrite true) s = .next { s.put R.SEQ_CFG_EN 1 with pa := { s.pa with seqFrom := s.now } }) ∧
    (s.flag R.SEQ_CFG_EN = true → exec (.seqEnWrite true) s = .next (s.put R.SEQ_CFG_EN 1))) ∧
  (∀ s : State, s.pa.adacs.length = 80 →
    let free := fun (n : Nat) => s.flag R.SEQ_STATUS_LOCKED = true ∧ s.flag R.SEQ_STATUS_CLR_N = true ∧
      s.get R.PWR_STATUS_STATE_NOW ≠ 3 ∧ s.rank1 = false ∧ (n < 64 → s.biasCleared n = false)
    let takes := fun (t : State) (g n : Nat) => n < 80 →
      (s.get (R.ADAC_CFG_OWNER n) = 0 → s.get (R.ADAC_CFG_GROUP n) = g → (t.adac n).loaded = s.get (R.ADAC_CODE_CODE n)) ∧
      (s.get (R.ADAC_CFG_OWNER n) ≠ 0 → t.adac n = s.adac n ∧ t.get (R.ADAC_CODE_NOW n) = s.get (R.ADAC_CODE_NOW n))
    (s.flag R.SEQ_STATUS_LOCKED = true → exec .adacLock s = .next s) ∧
    (s.flag R.SEQ_STATUS_LOCKED = false → ∃ t : State, exec .adacLock s = .next t ∧ t = { s with regs := t.regs, pa := t.pa } ∧
      t.flag R.SEQ_STATUS_LOCKED = true ∧ ∀ n, n < 80 → t.get (R.ADAC_CODE_NOW n) = s.get (R.ADAC_CLR_CLR n) ∧
        (t.adac n).loaded = (s.adac n).loaded ∧ (t.adac n).stuckClr = true) ∧
    (∀ m, ∃ t : State, exec (.adacLd m) s = .next t ∧ t = { s with now := t.now, regs := t.regs, pa := t.pa } ∧
      t.now = max s.now s.alignEdge ∧ ∀ g n, g < 8 → m.testBit g = true → takes t g n) ∧
    (∀ m n, n < 80 → 8 ≤ s.get (R.ADAC_CFG_GROUP n) ∨ m.testBit (s.get (R.ADAC_CFG_GROUP n)) = false → ∃ t : State,
      exec (.adacLd m) s = .next t ∧ t.adac n = s.adac n ∧ t.get (R.ADAC_CODE_NOW n) = s.get (R.ADAC_CODE_NOW n)) ∧
    (∃ t : State, exec .adacldEdge s = .next t ∧ t = { s with now := s.now + 2, regs := t.regs, pa := t.pa } ∧ ∀ n, takes t 9 n) ∧
    (∀ n code, n < 80 →
      (s.get (R.ADAC_CFG_OWNER n) ≠ 0 → exec (.adacCodeWrite n code) s = .next (s.raise R.SEQ_STATUS_WR_REFUSED)) ∧
      (s.get (R.ADAC_CFG_OWNER n) = 0 →
        (s.get (R.ADAC_CFG_GROUP n) ≠ 8 → exec (.adacCodeWrite n code) s = .next (s.put (R.ADAC_CODE_CODE n) code)) ∧
        (s.get (R.ADAC_CFG_GROUP n) = 8 → ∃ t : State, exec (.adacCodeWrite n code) s = .next t ∧
          t = { s with now := t.now, regs := t.regs, pa := t.pa } ∧ t.now = max s.now s.alignEdge ∧ (t.adac n).loaded = code % 4096 ∧
          (∀ k, k ≠ n → t.adac k = s.adac k) ∧ (∀ a, a ≠ R.ADAC_CODE n → t.reg a = s.reg a) ∧
          (free n → (s.adac n).holdEnd = none →
            (code % 4096 / 256 = s.get (R.ADAC_CODE_NOW n) / 256 → t.get (R.ADAC_CODE_NOW n) = code % 4096) ∧
            (code % 4096 / 256 ≠ s.get (R.ADAC_CODE_NOW n) / 256 → t.get (R.ADAC_CODE_NOW n) = s.get (R.ADAC_CODE_NOW n) ∧
              (t.adac n).holdEnd = some (t.now + 74)))))) ∧
    (∀ n, (s.adac n).holdEnd = none → exec (.deglitchHoldEnd n) s = .next s) ∧
    (∀ n c, n < 80 → (s.adac n).holdEnd = some c → ∃ t : State, exec (.deglitchHoldEnd n) s = .next t ∧ t.now = max s.now c ∧
      t = { s with now := t.now, regs := t.regs, pa := t.pa } ∧ t.get (R.ADAC_CODE_NOW n) = (s.adac n).loaded % 4096 ∧
      (t.adac n).holdEnd = none ∧ ∀ a, a ≠ R.ADAC_CODE n → t.reg a = s.reg a) ∧
    (∀ v, ∃ t : State, exec (.adacclrNChange v) s = .next t ∧ t.flag R.SEQ_STATUS_CLR_N = v ∧ t.mem = s.mem ∧ t.now = s.now ∧
      (v = false → ∀ n, n < 80 → t.get (R.ADAC_CODE_NOW n) = s.get (R.ADAC_CLR_CLR n))))

/-- INPUT_QUALIFIED_EDGE (R380 to R384), CHATTER_WINDOW_END, INPUT_STUCK (R381), REARM (R381, R384) and FAULT_CLEAR (R384). -/
def Obligations.FaultInputs : Prop :=
  ∀ (i : Nat) (s : State), i < 33 → s.pa.inputs.length = 33 → s.chains.length = 64 →
    let x := s.input i
    let group := fun (t : State) => t.flag (R.IN_STAT_FAULT i) = true ∧ t.hold.paLine.testBit i = true ∧ ∀ ch, ch < 64 → ch / 4 = i →
      (t.chain ch).cleared = true ∧ (t.chain ch).zero = true ∧ t.flag (R.CH_STATUS_TX_LIVE ch) = false
    (∀ level, x.qual = level → exec (.inputQualifiedEdge i level) s = .next (s.modInput i fun y => { y with pin := level })) ∧
    (∀ level, x.qual ≠ level → ∃ t : State, exec (.inputQualifiedEdge i level) s = .next t ∧ t.mem = s.mem ∧ t.now = s.now ∧
      (t.input i).qual = level ∧ (t.input i).pin = level ∧ t.get (R.IN_STAT_EDGES i) = min (s.get (R.IN_STAT_EDGES i) + 1) 65535 ∧
      (∀ k, k ≠ i → t.input k = s.input k) ∧
      (i < 16 → s.isActive i level = true → group t) ∧
      (16 ≤ i → t.hold = s.hold) ∧
      (s.get (R.IN_MON_CHAT_N i) = 0 → t.flag (R.IN_STAT_CHATTER i) = s.flag (R.IN_STAT_CHATTER i)) ∧
      (∀ w, s.get (R.IN_MON_CHAT_N i) ≠ 0 → x.winEnd = some w → s.now < w → s.get (R.IN_MON_CHAT_N i) ≤ x.winEdges →
        t.flag (R.IN_STAT_CHATTER i) = true)) ∧
    (x.winEnd = none → exec (.chatterWindowEnd i) s = .next s) ∧
    (∀ w, x.winEnd = some w → ∃ t : State, exec (.chatterWindowEnd i) s = .next t ∧ t = { s with now := t.now, pa := t.pa } ∧
      t.now = max s.now w ∧ t.input i = { x with winEnd := none, winEdges := 0 } ∧ ∀ k, k ≠ i → t.input k = s.input k) ∧
    (x.activeAt = none ∨ s.get (R.IN_STUCK_STUCK_TO i) = 0 ∨ s.flag (R.IN_STAT_STUCK i) = true → exec (.inputStuck i) s = .next s) ∧
    (∀ a, x.activeAt = some a → s.get (R.IN_STUCK_STUCK_TO i) ≠ 0 → s.flag (R.IN_STAT_STUCK i) = false → ∃ t : State,
      exec (.inputStuck i) s = .next t ∧ t.now = max s.now (a + s.get (R.IN_STUCK_STUCK_TO i) * 491520) ∧ t.mem = s.mem ∧
      t.flag (R.IN_STAT_STUCK i) = true ∧ (i < 16 → t.flag (R.IN_STAT_FAULT i) = true ∧ t.hold.paLine.testBit i = true) ∧
      (16 ≤ i → t.hold = s.hold ∧ t.flag (R.IN_STAT_LEVEL i) = false)) ∧
    (∀ pin, ∃ t : State, exec (.rearm i pin) s = .next t ∧ t.mem = s.mem ∧ t.now = s.now ∧ t.flag (R.IN_STAT_CHATTER i) = false ∧
      t.flag (R.IN_STAT_STUCK i) = false ∧ (t.input i).qual = pin ∧ (t.input i).winEnd = none ∧
      t.flag (R.IN_STAT_LEVEL i) = s.isActive i pin ∧ t.flag (R.IN_STAT_FAULT i) = s.flag (R.IN_STAT_FAULT i) ∧
      (i < 16 → s.flag (R.IN_CFG_LATCH i) = false → s.isActive i pin = false → t.hold.paLine.testBit i = false) ∧
      (i < 16 → s.flag (R.IN_CFG_LATCH i) = true → s.flag (R.IN_STAT_FAULT i) = false → s.isActive i pin = false →
        t.hold.paLine.testBit i = false) ∧
      (16 ≤ i ∨ (s.flag (R.IN_CFG_LATCH i) = true ∧ (s.flag (R.IN_STAT_FAULT i) = true ∨ s.isActive i pin = true)) → t.hold = s.hold)) ∧
    (16 ≤ i → exec (.faultClear i) s = .next s) ∧
    (i < 16 →
      (s.isActive i x.qual = true → exec (.faultClear i) s = .next (s.raise R.SEQ_STATUS_WR_REFUSED)) ∧
      (s.isActive i x.qual = false → ∃ t : State, exec (.faultClear i) s = .next t ∧ t.mem = s.mem ∧ t.now = s.now ∧
        t.flag (R.IN_STAT_FAULT i) = false ∧
        (s.masked i = false → t.hold.paLine.testBit i = false) ∧ (s.masked i = true → t.hold = s.hold)))

/-- CAL_EN_WRITE, CAL_RECORD_CHECK_DONE (R394, R408), CAL_GO, CAL_GO_ABORT, CAL_JOB_TIMEOUT (R398, R406) and CAL_MEASUREMENT_POST (R400, R402,
R405), for jobs that no command waits for. -/
def Obligations.CalibrationJobs : Prop :=
  ∀ s : State,
    let staged := s.stagedCal none
    let kind := s.get R.CAL_JOB_KIND
    let qmask := s.get R.CAL_JOB_QMASK
    let sound := fun (j : CalJobX) => j.cmd = none ∧ j.sensor < 24 ∧ (∀ ch ∈ j.todo, ch < 64) ∧ ∀ m ∈ j.got, m.1 < 64
    let ended := fun (t : State) (st : Nat) => t.cal.job = none ∧ t.flag R.CAL_STATUS_BUSY = false ∧ t.get R.CAL_GO_RESULT = st
    (∃ t : State, exec (.calEnWrite true) s = .next t ∧ t = { s with regs := t.regs, cal := { s.cal with checkAt := some s.now } } ∧
      t.flag R.CAL_CTRL_EN = true ∧
      t.get R.CAL_CFG_PILOT_ATT = (if s.get R.CAL_CFG_PILOT_ATT < 20 then 40 else s.get R.CAL_CFG_PILOT_ATT)) ∧
    (s.cal.job = none → s.cal.checkCmds = [] → exec (.calEnWrite false) s =
      .next { s.put R.CAL_CTRL_EN 0 with cal := { s.cal with checkAt := none, checkCmds := [], fresh := 15 } }) ∧
    (∀ j, s.cal.job = some j → sound j → s.cal.checkCmds = [] → ∃ t : State, exec (.calEnWrite false) s = .next t ∧
      ended t 0x71 ∧ t.flag R.CAL_CTRL_EN = false ∧ t.cal.checkAt = none ∧ t.now = s.now) ∧
    (s.cal.checkAt = none → exec .calRecordCheckDone s = .next s) ∧
    (∀ c, s.cal.checkAt = some c → s.cal.checkCmds = [] →
      (s.recordPoisoned = true ∨ (∀ d, s.cal.digests.getLast? = some d → d ≠ s.recordDigest) → ∃ t : State,
        exec .calRecordCheckDone s = .next t ∧ t.flag R.CAL_STATUS_REC_OK = false ∧ t.get R.CAL_STATUS_UNCAL = 15 ∧
        t.cal.checkAt = none ∧ t.mem = s.mem ∧ ∀ ch, ch < 64 → t.reg (R.CAL_DTX ch) = s.reg (R.CAL_DTX ch)) ∧
      (∀ d, s.recordPoisoned = false → s.cal.digests.getLast? = some d → d = s.recordDigest → ∃ t : State,
        exec .calRecordCheckDone s = .next t ∧ t.flag R.CAL_STATUS_REC_OK = true ∧ t.cal.checkAt = none ∧ t.cal.loaded = true ∧
        (s.cal.loaded = false → ∀ ch, ch < 64 →
          (t.reg (R.CAL_DTX ch)).toNat = leNat (s.bytes (fieldBase + 8 * ch) 4) ∧
          (t.reg (R.CAL_DRX ch)).toNat = leNat (s.bytes (fieldBase + 8 * ch + 4) 4)) ∧
        (s.cal.loaded = true → ∀ ch, ch < 64 → t.reg (R.CAL_DTX ch) = s.reg (R.CAL_DTX ch)))) ∧
    -- GO
    (s.cal.job ≠ none → exec .calGo s = .next ((s.raise R.CAL_STATUS_WR_REFUSED).put R.CAL_GO_RESULT 0x10)) ∧
    (s.cal.job = none → s.frozen 0x5A = true → exec .calGo s = .next (s.put R.CAL_GO_RESULT (statusCode .targetFrozen))) ∧
    (s.cal.job = none → s.frozen 0x5A = false → s.flag R.CAL_CTRL_EN = false ∨ s.radioOn = false → exec .calGo s = .next (s.put R.CAL_GO_RESULT 0x40)) ∧
    (s.cal.job = none → s.frozen 0x5A = false → s.flag R.CAL_CTRL_EN = true → s.radioOn = true → kind = 0 ∨ kind = 7 ∨ (kind < 5 ∧ qmask = 0) →
      exec .calGo s = .next (s.put R.CAL_GO_RESULT 0x21)) ∧
    (s.calCheck staged = .accepted →
      (s.jobChains kind qmask = [] → kind < 5 → ∃ t : State, exec .calGo s = .next t ∧ ended t 0 ∧ t.now = s.now) ∧
      (s.jobChains kind qmask ≠ [] ∨ 5 ≤ kind → ∃ t : State, exec .calGo s = .next t ∧ t.flag R.CAL_STATUS_BUSY = true ∧
        t.get R.CAL_GO_RESULT = 1 ∧ t.mem = s.mem ∧ t.now = s.now ∧ ∃ j, t.cal.job = some j ∧ j.kind = kind ∧ j.qmask = qmask ∧
          j.todo = s.jobChains kind qmask ∧ j.got = [] ∧ j.cmd = none)) ∧
    -- the end
    (s.cal.job = none → exec .calGoAbort s = .next s ∧ exec .calJobTimeout s = .next s ∧
      ∀ l mean, exec (.calMeasurementPost l mean) s = .next s) ∧
    (∀ j, s.cal.job = some j → sound j →
      (∃ t : State, exec .calGoAbort s = .next t ∧ ended t 0x71 ∧ t.now = s.now ∧
        ∀ ch, ch < 64 → t.reg (R.CAL_DTX ch) = s.reg (R.CAL_DTX ch) ∧ t.reg (R.CAL_DRX ch) = s.reg (R.CAL_DRX ch)) ∧
      (∃ t : State, exec .calJobTimeout s = .next t ∧ ended t 0x61 ∧ t.now = max s.now (s.calDeadline j) ∧
        (j.got = [] ∨ 2 < j.kind → ∀ ch, ch < 64 → t.reg (R.CAL_DTX ch) = s.reg (R.CAL_DTX ch))) ∧
      (∀ l mean, j.onOrx s = false →
        (s.calWindow j = none → exec (.calMeasurementPost l mean) s = .next s) ∧
        (∀ b e, s.calWindow j = some (b, e) →
          let u := s.advanceTo (e + (if j.kind = 6 then 0 else 2048))
          let left := j.todo.filter fun ch => !j.current.contains ch
          (j.spoilt = true ∨ u.spoils j = true → ∃ t : State, exec (.calMeasurementPost l mean) s = .next t ∧ t.now = u.now ∧
            t.get R.CAL_CNT_DISCARD = min (s.get R.CAL_CNT_DISCARD + 1) 65535 ∧ t.mem = s.mem ∧
            ∃ k, t.cal.job = some k ∧ k.todo = j.todo ∧ k.got = j.got ∧ k.spoilt = false) ∧
          (j.spoilt = false → u.spoils j = false →
            (left = [] → ∃ t : State, exec (.calMeasurementPost l mean) s = .next t ∧ t.now = u.now ∧ ended t 0) ∧
            (left ≠ [] → ∃ t : State, exec (.calMeasurementPost l mean) s = .next t ∧ t.now = u.now ∧
              t.get R.CAL_CNT_DISCARD = s.get R.CAL_CNT_DISCARD ∧
              ∃ k, t.cal.job = some k ∧ k.todo = left ∧ k.kind = j.kind)))))

/-- FD_START, FD_HALT, FD_RESET (R428, R435, R505), FD_DB_WRITE (R426), FD_OWNER_WRITE (R432) and FD_WATCHDOG (R429). -/
def Obligations.FliorCoreStates : Prop :=
  ∀ (n : Nat) (s : State), n < 8 → s.fd.length = 8 →
    let x := s.flior n
    let st := s.fdState n
    let kept := fun (y : FliorX) => y.v = x.v ∧ y.acc = x.acc ∧ y.sr = x.sr ∧ y.pr = x.pr ∧ y.mr = x.mr
    let others := fun (t : State) => ∀ k, k ≠ n → t.flior k = s.flior k
    let broken := fun (t : State) => ∀ i, i < 64 → s.stileMid i = 8 + n → s.stile i = 1 ∨ s.stile i = 3 → t.stile i = 2
    (∀ r, st ≠ fdHalted → exec (.fdStart n r) s = .next (s.raise (R.FD_STATUS_WR_REFUSED n))) ∧
    (∀ r, st = fdHalted → ∃ t : State, exec (.fdStart n r) s = .next t ∧ t = { s with regs := t.regs, fd := t.fd } ∧ others t ∧
      t.fdState n = fdRunning ∧ kept (t.flior n) ∧ t.get (R.FD_CYCLE_COUNT n) = 0 ∧
      t.get (R.FD_PC_PC n) = (if r then s.get (R.FD_PC_PC n) else s.get (R.FD_ENTRY_ENTRY n)) ∧
      (∀ a, a ≠ R.FD_PC n → a ≠ R.FD_CYCLE n → a ≠ R.FD_STATUS n → t.reg a = s.reg a)) ∧
    (st ≠ fdRunning → st ≠ fdWaiting → exec (.fdHalt n) s = .next s) ∧
    (st = fdWaiting ∨ (st = fdRunning ∧ x.loads = []) → ∃ t : State, exec (.fdHalt n) s = .next t ∧
      t = { s with regs := t.regs, fd := t.fd } ∧ t.fdState n = fdHalted ∧ kept (t.flior n) ∧ others t ∧
      ∀ a, a ≠ R.FD_STATUS n → t.reg a = s.reg a) ∧
    (st = fdRunning → x.loads ≠ [] → ∃ t : State, exec (.fdHalt n) s = .next t ∧ t = { s with fd := t.fd } ∧ others t ∧
      t.flior n = { x with haltDue := true }) ∧
    (st = fdLoading ∨ st = fdFrozen → exec (.fdReset n) s = .next (s.raise (R.FD_STATUS_WR_REFUSED n))) ∧
    (st ≠ fdLoading → st ≠ fdFrozen → ∃ t : State, exec (.fdReset n) s = .next t ∧ t.fdState n = fdHalted ∧ t.get (R.FD_PC_PC n) = 0 ∧
      t.reg (R.FD_FAULT_ADDR n) = 0 ∧ t.reg (R.FD_STALL n) = 0 ∧ t.flag (R.FD_STATUS_PSN n) = false ∧ t.get (R.FD_STATUS_RB n) = 0 ∧
      (t.flior n).v = List.replicate 32 0 ∧ (t.flior n).sr = List.replicate 16 0 ∧ (t.flior n).owned = x.owned ∧ others t ∧
      t.mem = s.mem ∧ broken t) ∧
    (∀ m, ∃ t : State, exec (.fdDbWrite n m) s = .next t ∧ t = { s with regs := t.regs, fd := t.fd } ∧ others t ∧ kept (t.flior n) ∧
      t.get (R.FD_DB_DB n) = s.get (R.FD_DB_DB n) ||| m % 65536 ∧
      (st = fdWaiting → (s.get (R.FD_DB_DB n) ||| m % 65536) &&& x.wfe ≠ 0 → t.fdState n = fdRunning) ∧
      (st ≠ fdWaiting ∨ (s.get (R.FD_DB_DB n) ||| m % 65536) &&& x.wfe = 0 → t.fdState n = st ∧ t.fd = s.fd) ∧
      ∀ a, a ≠ R.FD_DB n → a ≠ R.FD_STATUS n → t.reg a = s.reg a) ∧
    (∀ mid v box, 4 ≤ mid ∨ st ≠ fdHalted → exec (.fdOwnerWrite mid n v box) s = .next (s.raise (R.FD_STATUS_WR_REFUSED n))) ∧
    (∀ mid v box, mid < 4 → st = fdHalted →
      (s.flag (R.FD_OWNER_MODE n) = v → exec (.fdOwnerWrite mid n v box) s = .next (s.modFlior n fun y => { y with mailbox := box })) ∧
      (s.flag (R.FD_OWNER_MODE n) ≠ v → ∃ t : State, exec (.fdOwnerWrite mid n v box) s = .next t ∧
        t = { s with regs := t.regs, mem := t.mem, memx := t.memx, fd := t.fd } ∧ t.flag (R.FD_OWNER_MODE n) = v ∧
        (t.flior n).owned = false ∧ (t.flior n).mailbox = box ∧ others t ∧ (∀ k, k < 8 → t.flag (R.WIN1_LOCK (8 + n) k) = v) ∧
        (∀ a, dlm n ≤ a → a < dlm n + 0x40000 → t.byte a = 0) ∧
        ∀ a, a < dlm n ∨ dlm n + 0x40000 ≤ a → t.byte a = s.byte a)) ∧
    (s.get (R.FD_WDOG_LIMIT n) = 0 ∨ (st ≠ fdRunning ∧ st ≠ fdWaiting) → exec (.fdWatchdog n) s = .next s) ∧
    (s.get (R.FD_WDOG_LIMIT n) ≠ 0 → st = fdRunning ∨ st = fdWaiting → ∃ t : State, exec (.fdWatchdog n) s = .next t ∧
      t.now = max s.now (s.fdTime n (s.get (R.FD_WDOG_LIMIT n) * 65536 + 1)) ∧ t.fdState n = fdFaulted ∧
      t.get (R.FD_STATUS_CAUSE n) = 3 ∧ t.get (R.FD_PC_PC n) = s.get (R.FD_PC_PC n) ∧ kept (t.flior n) ∧ others t ∧ t.mem = s.mem ∧
      broken t)

/-- BUNDLE (R413, R418, R421, R422, R428, R429), FAR_LOAD_COMPLETE and FAR_STORE_COMPLETE (R424, R429). -/
def Obligations.FliorBundles : Prop :=
  ∀ (n : Nat) (s : State), n < 8 → s.fd.length = 8 →
    let x := s.flior n
    let pc := s.get (R.FD_PC_PC n)
    let raw := leNat (s.bytes (dlm n + 0x30000 + 16 * pc) 16)
    let others := fun (t : State) => ∀ k, k ≠ n → t.flior k = s.flior k
    let kept := fun (y : FliorX) => y.v = x.v ∧ y.acc = x.acc ∧ y.pr = x.pr ∧ y.mr = x.mr
    let ready := s.fdState n = fdRunning ∧ x.halting = false ∧ x.loops = [] ∧ x.loads = [] ∧ x.stores = [] ∧
      s.get (R.FD_WDOG_LIMIT n) = 0 ∧ s.poisoned ((dlm n + 0x30000 + 16 * pc) / 16) = false
    (∀ fab ecc, s.fdState n ≠ fdRunning ∨ x.halting = true → exec (.bundle n fab ecc) s = .next s) ∧
    (∀ fab ecc, ∃ t : State, exec (.bundle n fab ecc) s = .next t ∧ s.now ≤ t.now ∧ others t ∧
      ∀ a, a < dlm n ∨ dlm n + 0x40000 ≤ a → t.byte a = s.byte a) ∧
    (∀ fab, ready → raw = 0 → ∃ t : State, exec (.bundle n fab []) s = .next t ∧ t.now = max s.now (s.fdTime n x.cyc) ∧
      t.fdState n = fdRunning ∧ t.get (R.FD_PC_PC n) = (pc + 1) % 4096 ∧ kept (t.flior n) ∧ (t.flior n).sr = x.sr ∧
      (t.flior n).cyc = x.cyc + fab + 1 ∧ t.get (R.FD_STALL_COUNT n) = min (s.get (R.FD_STALL_COUNT n) + fab) 4294967295 ∧
      t = { s with now := t.now, regs := t.regs, fd := t.fd }) ∧
    (∀ fab, ready → raw < 2 ^ 32 → slotOp raw = 0x08 → raw.testBit 25 = false → raw.testBit 9 = true → ∃ t : State,
      exec (.bundle n fab []) s = .next t ∧ t.fdState n = fdRunning ∧ t.get (R.FD_PC_PC n) = (pc + 1) % 4096 ∧ kept (t.flior n) ∧
      (t.flior n).sr = updAt x.sr (bits raw 24 20 % 16) (fun _ =>
        ofInt 32 (toInt 32 (x.sr.getD (bits raw 19 15 % 16) 0) + toInt 9 (raw % 512))) ∧
      t = { s with now := t.now, regs := t.regs, fd := t.fd }) ∧
    (∀ fab, ready → raw = 0x16 * 2 ^ 26 → ∃ t : State, exec (.bundle n fab []) s = .next t ∧ t.fdState n = fdHalted ∧
      t.get (R.FD_PC_PC n) = (pc + 1) % 4096 ∧ kept (t.flior n) ∧ (t.flior n).sr = x.sr) ∧
    (∀ fab, ready → raw < 2 ^ 32 → aluLegal raw true = false → ∃ t : State, exec (.bundle n fab []) s = .next t ∧
      t.fdState n = fdFaulted ∧ t.get (R.FD_STATUS_CAUSE n) = 1 ∧ t.get (R.FD_PC_PC n) = pc ∧ kept (t.flior n) ∧
      (t.flior n).sr = x.sr ∧ t.mem = s.mem) ∧
    -- far accesses
    (x.loads = [] → ∀ ok ecc, exec (.farLoadComplete n ok ecc) s = .next s) ∧
    (∀ l rest ok ecc, x.loads = l :: rest →
      (ok = false ∨ mapped l.addr (lsBytes l.op) = false → ∃ t : State, exec (.farLoadComplete n ok ecc) s = .next t ∧
        t.now = max s.now (s.fdTime n (l.issued + 40)) ∧ t.fdState n = fdFaulted ∧ t.get (R.FD_STATUS_CAUSE n) = 5 ∧
        t.get (R.FD_PC_PC n) = l.pc % 4096 ∧ (t.flior n).loads = [] ∧ kept (t.flior n) ∧ (t.flior n).sr = x.sr ∧ t.mem = s.mem) ∧
      (ok = true → ecc = [] → inMemory l.addr (lsBytes l.op) = true → s.poisoned (l.addr / 16) = false → ∃ t : State,
        exec (.farLoadComplete n ok ecc) s = .next t ∧ t.now = max s.now (s.fdTime n (l.issued + 40)) ∧ (t.flior n).loads = rest ∧
        t.mem = s.mem ∧ others t ∧
        (l.op = 1 → (t.flior n).v = updAt x.v l.dst fun _ => leNat (s.bytes l.addr 16) % 2 ^ 128) ∧
        (l.op = 3 → (t.flior n).sr = updAt x.sr l.dst fun _ => leNat (s.bytes l.addr 4) % 2 ^ 32))) ∧
    (x.stores = [] → ∀ ok, exec (.farStoreComplete n ok) s = .next s) ∧
    (∀ l rest ok, x.stores = l :: rest →
      (ok = false ∨ mapped l.addr l.bytes.length = false →
        (s.fdState n = fdRunning ∨ s.fdState n = fdWaiting → ∃ t : State, exec (.farStoreComplete n ok) s = .next t ∧
          t.fdState n = fdFaulted ∧ t.get (R.FD_STATUS_CAUSE n) = 5 ∧ t.get (R.FD_PC_PC n) = l.pc % 4096 ∧
          (t.flior n).stores = rest ∧ t.mem = s.mem) ∧
        (s.fdState n ≠ fdRunning → s.fdState n ≠ fdWaiting →
          exec (.farStoreComplete n ok) s = .next (s.modFlior n fun y => { y with stores := rest }))) ∧
      (ok = true → inMemory l.addr l.bytes.length = true → ∃ t : State, exec (.farStoreComplete n ok) s = .next t ∧
        (t.flior n).stores = rest ∧ t.mem = s.mem.setList l.addr l.bytes ∧ t.regs = s.regs ∧ others t))

/-- FABRIC_ACCESS (R489, R491), ARBITER_DECISION (R486, R487), STILE_READ, STILE_RELEASE, STILE_CLEAN, STILE_FORCE (R503 to R505). -/
def Obligations.FabricAndStiles : Prop :=
  (∀ (mid a n : Nat) (s : State),
    let read : Instr := .fabricAccess mid a n none []
    (∀ w ecc, s.frozen mid = true → exec (.fabricAccess mid a n w ecc) s = .next s) ∧
    (s.frozen mid = false →
      (s.accessCause mid a n false = 0 → inMemory a n = true → (∀ i, i < n → s.poisoned ((a + i) / 16) = false) → ∃ t : State,
        exec read s = .next t ∧ t = { s with fm := t.fm, out := t.out } ∧
        t.out = s.out ++ [.fabric mid a ((List.range n).map fun i => s.byte (a + i))]) ∧
      (∀ l, s.accessCause mid a l.length true = 0 → inMemory a l.length = true → ∃ t : State,
        exec (.fabricAccess mid a n (some l) []) s = .next t ∧ t = { s with fm := t.fm, mem := t.mem, memx := t.memx } ∧
        t.mem = s.mem.setList a l) ∧
      (∀ w ecc, mid < 0x5B → mid ≠ 0x59 → (mid = 0x5A → s.cal.job = none) →
        s.accessCause mid a (match w with | some l => l.length | none => n) w.isSome ≠ 0 → ∃ t : State,
          exec (.fabricAccess mid a n w ecc) s = .next t ∧ t.frozen mid = true ∧
          (mid < 0x20 ∨ 0x40 ≤ mid → t.mem = s.mem) ∧
          (∀ i, i < 64 → s.stileMid i = mid → s.stile i = 1 ∨ s.stile i = 3 → t.stile i = 2)) ∧
      (∀ w ecc, mid = 0x59 →
        s.accessCause mid a (match w with | some l => l.length | none => n) w.isSome ≠ 0 → ∃ t : State,
          exec (.fabricAccess mid a n w ecc) s = .next t ∧ t.flag R.FM_STATUS_SAFE = true ∧ t.mem = s.mem))) ∧
  (∀ (x : Nat) (all : List Nat) (s : State),
    let reqs := all.filter fun m => !s.frozen m
    (reqs = [] → ∃ t : State, exec (.arbiterDecision x all) s = .next t ∧ t = { s with fab := { s.fab with ages := t.fab.ages } } ∧
      ∀ m, m < 256 → t.age x m = 0) ∧
    (reqs ≠ [] → (∀ m ∈ reqs, m < 256) → ∃ (t : State) (w : Nat), exec (.arbiterDecision x all) s = .next t ∧ w ∈ reqs ∧
      (∀ m ∈ reqs, s.fabClass m + s.age x m ≤ s.fabClass w + s.age x w) ∧
      t = { s with fab := { s.fab with ages := t.fab.ages, granted := t.fab.granted } } ∧ look t.fab.granted x = some w ∧
      t.age x w = 0 ∧ (∀ m ∈ reqs, m ≠ w → t.age x m = min 3 (s.age x m + 1)) ∧
      (∀ m, m < 256 → m ∉ reqs → t.age x m = 0) ∧ ∀ y m, y ≠ x → m < 256 → t.age y m = s.age y m)) ∧
  (∀ (mid i : Nat) (s : State), mid < 128 → i < 64 →
    let st := s.stile i
    let own := s.stileMid i
    let alone := fun (t : State) => ∀ a, a ≠ R.STILE_PEEK i → t.reg a = s.reg a
    let answer := fun (t : State) (r m : Nat) => t.out = s.out ++ [.fabric mid (R.STILE i) (leBytes 4 (r * 2 ^ 30 + m))]
    (st = 0 → ∃ t : State, exec (.stileRead mid i) s = .next t ∧ t = { s with regs := t.regs, out := t.out } ∧ t.stile i = 1 ∧
      t.stileMid i = mid ∧ answer t 1 mid ∧ alone t) ∧
    (st = 2 → ∃ t : State, exec (.stileRead mid i) s = .next t ∧ t = { s with regs := t.regs, out := t.out } ∧ t.stile i = 3 ∧
      t.stileMid i = mid ∧ answer t 2 own ∧ alone t) ∧
    (st = 1 ∨ st = 3 → exec (.stileRead mid i) s =
      .next (s.emit (.fabric mid (R.STILE i) (leBytes 4 (if own = mid then 3 * 2 ^ 30 + mid else own))))) ∧
    (∀ (want after : Nat) (c : Instr), (want, after, c) = (1, 0, Instr.stileRelease mid i) ∨ (want, after, c) = (3, 1, Instr.stileClean mid i) →
      (st = want → own = mid → ∃ t : State, exec c s = .next t ∧ t = { s with regs := t.regs } ∧ t.stile i = after ∧ alone t) ∧
      (st ≠ want ∨ own ≠ mid → exec c s = .next (s.count R.STILE_CNT_REFUSED))) ∧
    (4 ≤ mid → exec (.stileForce mid i) s = .next (s.raise R.FAB_STATUS_WR_REFUSED)) ∧
    (mid < 4 → st = 0 ∨ st = 2 → exec (.stileForce mid i) s = .next s) ∧
    (mid < 4 → st = 1 ∨ st = 3 → ∃ t : State, exec (.stileForce mid i) s = .next t ∧ t.stile i = 2 ∧ t.stileMid i = own ∧
      t.get R.STILE_CNT_BREAKS = min (s.get R.STILE_CNT_BREAKS + 1) (2 ^ R.STILE_CNT_BREAKS.width - 1) ∧ t.mem = s.mem))

/-- DMA_GO (R492 to R494, R499), DMA_ABORT (R509), DMA_RESUME (R494), DMA_REQUEST (R497), DMA_BURST (R495), DRAIN_REQUEST (R501) and
DRAIN_TIMEOUT (R502). -/
def Obligations.DmaChannels : Prop :=
  (∀ (c : Nat) (s : State), c < 32 → s.fab.dma.length = 32 →
    let stop := s.dcBusy c = true ∨ s.dcState c = dcFrozen ∨ s.quotaFull c = true
    let a := 16 * s.get (R.DC_DESC_DESC c)
    let w := fun (i : Nat) => leNat (((s.readClean a 16).1.drop (4 * i)).take 4)
    let paced := fun (t : State) => t.dcState c =
      (if s.get (R.DC_CFG_REQ c) = 0 ∨ s.fab.lines.testBit (s.get (R.DC_CFG_REQ c)) then dcRun else dcWait)
    let others := fun (t : State) => ∀ k, k ≠ c → t.dmaX k = s.dmaX k
    (stop → exec (.dmaGo c) s = .next (s.raise R.DMA_STATUS_WR_REFUSED)) ∧
    (¬stop → s.accessCause (0x20 + c) a 16 false ≠ 0 → s.frozen (0x20 + c) = false → ∃ t : State, exec (.dmaGo c) s = .next t ∧
      t.frozen (0x20 + c) = true ∧ t.dcState c = dcFrozen ∧ t.mem = s.mem) ∧
    (¬stop → s.accessCause (0x20 + c) a 16 false = 0 → s.descBad c (w 0) (w 1) (w 2) = true → ∃ t : State,
      exec (.dmaGo c) s = .next t ∧ t.dcState c = dcError ∧ t.get (R.DC_STATUS_CODE c) = 6 ∧ others t ∧
      ∀ b, b < a ∨ a + 16 ≤ b → t.byte b = s.byte b) ∧
    (¬stop → s.accessCause (0x20 + c) a 16 false = 0 → s.descBad c (w 0) (w 1) (w 2) = false → ∃ t : State,
      exec (.dmaGo c) s = .next t ∧ paced t ∧ t = { s with regs := t.regs, fab := t.fab } ∧ others t ∧
      t.get (R.DC_SRC_SRC c) = w 0 ∧ t.get (R.DC_DST_DST c) = w 1 ∧ t.get (R.DC_LEN_LEN c) = w 2 % 2 ^ 24 ∧
      (t.dmaX c).desc = some (w 2, w 3 / 16 * 16)) ∧
    (s.dcBusy c = false → exec (.dmaAbort c) s = .next s) ∧
    (s.dcBusy c = true → ∃ t : State, exec (.dmaAbort c) s = .next t ∧ t.dcState c = dcAborted ∧ (t.dmaX c).ahead = [] ∧ others t ∧
      ((s.dmaX c).desc ≠ none → t.get (R.DC_STATUS_CODE c) = 3 ∧ t.get (R.DC_CNT_DESCS c) = min (s.get (R.DC_CNT_DESCS c) + 1) 65535) ∧
      ((s.dmaX c).desc = none → t.mem = s.mem)) ∧
    ((s.dmaX c).desc = none ∨ stop → exec (.dmaResume c) s = .next (s.raise R.DMA_STATUS_WR_REFUSED)) ∧
    (∀ w2 w3, (s.dmaX c).desc = some (w2, w3) → ¬stop → s.get (R.DC_LEN_LEN c) ≠ 0 → ∃ t : State, exec (.dmaResume c) s = .next t ∧
      paced t ∧ t = { s with regs := t.regs, fab := t.fab } ∧ others t ∧ t.get (R.DC_LEN_LEN c) = s.get (R.DC_LEN_LEN c) ∧
      (t.dmaX c).desc = some (w2, w3) ∧ (t.dmaX c).rdSrc = s.get (R.DC_SRC_SRC c))) ∧
  (∀ (line : Nat) (v : Bool) (s : State), line ≠ 0 → ∃ t : State, exec (.dmaRequest line v) s = .next t ∧
    t = { s with regs := t.regs, fab := { s.fab with lines := t.fab.lines, ages := t.fab.ages } } ∧ t.fab.lines.testBit line = v ∧
    ∀ c, c < 32 →
      (s.get (R.DC_CFG_REQ c) ≠ line → t.dcState c = s.dcState c) ∧
      (s.get (R.DC_CFG_REQ c) = line → t.dcState c =
        (if v = true ∧ s.dcState c = dcWait then dcRun else if v = false ∧ s.dcState c = dcRun then dcWait else s.dcState c))) ∧
  -- bursts
  (∀ (rd wdraw err : Bool) (ecc : List (Nat × EccFinding)) (s : State), (∀ c, c < 28 → s.dcState c ≠ dcRun) →
    ∃ t : State, exec (.dmaBurst none rd wdraw err ecc) s = .next t ∧ t = { s with fab := { s.fab with ages := t.fab.ages } }) ∧
  (∀ (k : Nat) (rd wdraw err : Bool) (ecc : List (Nat × EccFinding)) (s : State),
    (4 ≤ k → exec (.dmaBurst (some k) rd wdraw err ecc) s = .next s) ∧
    (k < 4 → (s.dmaX (28 + k)).desc = none → exec (.dmaBurst (some k) rd wdraw err ecc) s = .next s) ∧
    (k < 4 → (s.dmaX (28 + k)).ahead = [] → exec (.dmaBurst (some k) false wdraw err ecc) s = .next s)) ∧
  (∀ (c w2 w3 : Nat) (rd : Bool) (s : State), c < 28 → s.fab.dma.length = 32 → s.dcState c = dcRun →
    (∀ k, k < 28 → k ≠ c → s.dcState k ≠ dcRun) → (s.dmaX c).desc = some (w2, w3) → w2 < 2 ^ 24 → s.get (R.DC_CFG_BURST c) = 0 →
    16 < s.get (R.DC_LEN_LEN c) → (s.dmaX c).drainDue = 0 → (s.dmaX c).freezeDue = false →
    let src := s.get (R.DC_SRC_SRC c)
    let dst := s.get (R.DC_DST_DST c)
    src % 16 = 0 → dst % 16 = 0 → inMemory src 16 = true → inMemory dst 16 = true → s.poisoned (src / 16) = false →
    s.accessCause (0x20 + c) src 16 false = 0 → s.accessCause (0x20 + c) dst 16 true = 0 →
    ∃ t : State, exec (.dmaBurst none rd false false []) s = .next t ∧ t.dcState c = dcRun ∧
      t.mem = s.mem.setList dst ((List.range 16).map fun i => s.byte (src + i)) ∧
      t.get (R.DC_SRC_SRC c) = src + 16 ∧ t.get (R.DC_DST_DST c) = dst + 16 ∧ t.get (R.DC_LEN_LEN c) = s.get (R.DC_LEN_LEN c) - 16 ∧
      ∀ a, a ≠ R.DC_SRC c → a ≠ R.DC_DST c → a ≠ R.DC_LEN c → t.reg a = s.reg a) ∧
  -- drains
  (∀ (i : Island) (inBurst : Nat) (s : State), s.fab.dma.length = 32 → ∃ t : State, exec (.drainRequest i inBurst) s = .next t ∧
    t = { s with regs := t.regs, mem := t.mem, memx := t.memx, fab := { s.fab with dma := t.fab.dma, drain := t.fab.drain } } ∧
    look t.fab.drain (islandIx i) = some s.now ∧
    ((∀ c, c < 32 → (s.dcBusy c && (s.dcIslands c).testBit (islandIx i)) = true → s.writeBackCause c ≠ 0) → t.mem = s.mem) ∧ ∀ c, c < 32 →
      let part : Bool := s.dcBusy c && (s.dcIslands c).testBit (islandIx i)
      (part = false → t.dcState c = s.dcState c ∧ t.dmaX c = s.dmaX c) ∧
      (part = true → (s.dmaX c).ahead = [] → inBurst.testBit c = false ∨ s.dcState c ≠ dcRun → t.dcState c = dcDrained ∧
        (t.dmaX c).drained.testBit (islandIx i) = true) ∧
      (part = true → (s.dmaX c).ahead ≠ [] ∨ (inBurst.testBit c = true ∧ s.dcState c = dcRun) → t.dcState c = s.dcState c ∧
        (t.dmaX c).drainDue.testBit (islandIx i) = true)) ∧
  (∀ (i : Island) (s : State), s.fab.dma.length = 32 →
    (look s.fab.drain (islandIx i) = none → exec (.drainTimeout i) s = .next s) ∧
    (∀ t0, look s.fab.drain (islandIx i) = some t0 → ∃ t : State, exec (.drainTimeout i) s = .next t ∧
      t.now = max s.now (t0 + ceilDiv (s.get R.DMA_DRAIN_DRAIN_TO * 49152) 100) ∧ look t.fab.drain (islandIx i) = none ∧
      ∀ c, c < 32 →
        (s.dcBusy c = true → (s.dmaX c).drainDue.testBit (islandIx i) = true → t.dcState c = dcDown) ∧
        (s.dcBusy c = false ∨ (s.dmaX c).drainDue.testBit (islandIx i) = false → t.dcState c = s.dcState c)))

/-- FAULT_REPORT (R535 to R537, R540, R541, R556), FAULT_UNIT_CLR (R538), FM_SAFE_FORCE (R542), DEBUG_UNLOCK (R553), FW_READY (R554) and
FW_ACTIVATE_TIMEOUT (R555). -/
def Obligations.FaultsDebugAndUpdate : Prop :=
  ∀ s : State,
    let off := fun (t : State) => ∀ ch, ch < 64 → t.flag (R.CH_STATUS_TX_LIVE ch) = false ∧ t.flag (R.CH_STATUS_RX_LIVE ch) = false
    (∀ u cls code addr info sub mid : Nat,
      let r : Instr := .faultReport u cls code addr info sub mid
      let ws := [2 ^ 31 + cls % 4 * 2 ^ 28 + u * 2 ^ 16 + code, addr, info, sub * 256 + mid, timeSec s.time / 2 ^ 32, timeSec s.time % 2 ^ 32,
        timeNs s.time, timeFrac s.time]
      let full := ∀ k, k < 4 → (s.reg (R.FM_REC u k 0)).toNat.testBit 31 = true
      let early := ∃ x ∈ s.fm.held, x.cls = .clsF ∧ x.at_ < s.now
      (unitExists u = false → exec r s = .next s) ∧
      (unitExists u = true →
        (∀ k, k < 4 → (s.reg (R.FM_REC u k 0)).toNat.testBit 31 = false → (∀ j, j < k → (s.reg (R.FM_REC u j 0)).toNat.testBit 31 = true) →
          ∃ t : State, exec r s = .next t ∧ t.now = s.now ∧ t.mem = s.mem ∧ t.fm.held.length = s.fm.held.length + 1 ∧
            t.reg (R.FM_OVF u) = s.reg (R.FM_OVF u) ∧ (∀ i, i < 8 → t.reg (R.FM_REC u k i) = BitVec.ofNat 32 (ws.getD i 0)) ∧
            ∀ v j i, v < 37 → j < 4 → i < 8 → v ≠ u ∨ j ≠ k → t.reg (R.FM_REC v j i) = s.reg (R.FM_REC v j i)) ∧
        (full → ∃ t : State, exec r s = .next t ∧ t.now = s.now ∧ t.mem = s.mem ∧ t.fm.held = s.fm.held ∧
          t.get (R.FM_OVF_OVF u) = min (s.get (R.FM_OVF_OVF u) + 1) (2 ^ (R.FM_OVF_OVF u).width - 1) ∧
          ∀ v j i, v < 37 → j < 4 → i < 8 → t.reg (R.FM_REC v j i) = s.reg (R.FM_REC v j i)) ∧
        (cls % 4 ≠ 3 → ¬early → ∃ t : State, exec r s = .next t ∧ t = { s with regs := t.regs, fm := t.fm } ∧
          ∀ a, (∀ k i, k < 4 → i < 8 → a ≠ R.FM_REC u k i) → a ≠ R.FM_OVF u → a ≠ R.FM_TOP → a ≠ R.FM_PEND 0 → a ≠ R.FM_PEND 1 →
            a ≠ R.FM_STATUS → t.reg a = s.reg a) ∧
        (early ∨ (cls % 4 = 3 ∧ (immediateCause u code).isSome = true) → ∃ t : State, exec r s = .next t ∧ t.flag R.FM_STATUS_SAFE = true ∧
          (s.flag R.FM_STATUS_SAFE = false → off t ∧ (early → t.get R.FM_STATUS_CAUSE = 6) ∧
            ∀ x, ¬early → immediateCause u code = some x → t.get R.FM_STATUS_CAUSE = safeCauseCode x)))) ∧
    (∀ u, (unitExists u = false → exec (.faultUnitClr u) s = .next s) ∧
      (unitExists u = true → ∃ t : State, exec (.faultUnitClr u) s = .next t ∧ t = { s with regs := t.regs, fm := t.fm } ∧
        (∀ k i, k < 4 → i < 8 → t.reg (R.FM_REC u k i) = 0) ∧ t.reg (R.FM_OVF u) = 0 ∧ t.fm.held = s.fm.held.filter (fun x => x.unit ≠ u) ∧
        ∀ v k i, v < 37 → k < 4 → i < 8 → v ≠ u → t.reg (R.FM_REC v k i) = s.reg (R.FM_REC v k i))) ∧
    (∀ mid,
      (4 ≤ mid → exec (.fmSafeForce mid) s = .next (s.raise R.FM_STATUS_WR_REFUSED)) ∧
      (mid < 4 → s.flag R.FM_STATUS_SAFE = true → exec (.fmSafeForce mid) s = .next s) ∧
      (mid < 4 → s.flag R.FM_STATUS_SAFE = false → ∃ t : State, exec (.fmSafeForce mid) s = .next t ∧ t.flag R.FM_STATUS_SAFE = true ∧
        t.get R.FM_STATUS_CAUSE = 7 ∧ off t ∧ t.mem = s.mem ∧ t.now = s.now)) ∧
    (∀ b, let o := Config.signed b
      (s.th.debugDis = true ∨ o.kind ≠ 3 ∨ s.vendorSigned b = false ∨ o.uid ≠ Config.uid ∨ o.nonce ≠ Config.jtagNonce →
        exec (.debugUnlock b) s = .next s) ∧
      (s.th.debugDis = false → o.kind = 3 → s.vendorSigned b = true → o.uid = Config.uid → o.nonce = Config.jtagNonce → ∃ t : State,
        exec (.debugUnlock b) s = .next t ∧ t.flag R.TH_STATUS_DEBUG = true ∧ t.flag R.FM_STATUS_SAFE = true ∧ t.now = s.now ∧
        (s.flag R.FM_STATUS_SAFE = false → off t ∧ ((∀ x ∈ s.fm.held, x.cls ≠ .clsF) → t.get R.FM_STATUS_CAUSE = 8)) ∧ (∀ x, x < 16 → t.sessState x = sessClosed) ∧
        ∀ m a, m < 5 → (memRange m).1 ≤ a → a < (memRange m).1 + (memRange m).2 → t.byte a = 0)) ∧
    (s.th.fw = none → exec .fwReady s = .next s ∧ exec .fwActivateTimeout s = .next s) ∧
    (∀ j, s.th.fw = some j →
      (∃ t : State, exec .fwReady s = .next t ∧ t.get R.TH_STATUS_FW_REGION = 1 - s.get R.TH_STATUS_FW_REGION ∧
        t.reg R.TH_FWVER = BitVec.ofNat 32 j.version ∧ t.reg R.TH_FWSTG = 0 ∧ t.th.fw = none ∧ t.th.runHash = j.hash ∧
        t.fe.stopped = false ∧ t.mem = s.mem ∧ t.now = s.now) ∧
      (∃ t : State, exec .fwActivateTimeout s = .next t ∧ t.now = max s.now (j.at_ + 2 * secCycles) ∧ t.th = { s.th with fw := none } ∧
        t.reg R.TH_FWVER = s.reg R.TH_FWVER ∧ t.reg R.TH_STATUS = s.reg R.TH_STATUS ∧ t.fe.stopped = false ∧ t.mem = s.mem))

/-- RESET_N_LOW (R525, R569), RESET_RELEASE and RESET_SELF_RELEASE (R570, R571), BOOT_PLL_TIMEOUT (R573), IMAGE_LOADED (R549, R554), BOOT_REQUEST,
BOOT_LOAD and BOOT_GO (R572, R574), BOOT_READY (R454, R550), SHUTDOWN_GATE and LARK_POWER_ON_RESET (R530). -/
def Obligations.ResetAndBoot : Prop :=
  ∀ s : State,
    let fresh := fun (t : State) => t.regs = State.reset.regs ∧ t.mem = [] ∧ t.chains = State.reset.chains ∧ t.boot = .held ∧ t.now = s.now ∧
      t.time = 0 ∧ t.th.keys = s.th.keys ∧ t.th.counter = s.th.counter ∧ t.th.creds = s.th.creds ∧ t.cal.digests = s.cal.digests ∧ t.out = s.out
    let started := fun (m : Nat) (t : State) =>
      t.boot = (if s.pw.shut = true then .held else if 3 < m then .failed else .rom) ∧ t.th.from0 = s.now ∧ t.th.railWait = false ∧
      t.flag R.CASC_STATUS_ROLE = decide (m = 3) ∧ (m ≠ 3 → t.get R.CASC_STATUS_DA = 0 ∧ t.flag R.CASC_STATUS_DA_VALID = true) ∧
      t.get R.THERM_CFG_SHUT_C = min 125 s.th.shutFuse ∧ t.mem = s.mem ∧ t.now = s.now ∧
      ∀ w ∈ [0, 1, 2, 3, 0x58, 0x59], t.flag (R.WIN1_EN w 0) = true ∧ ∀ k, k < 8 → t.flag (R.WIN1_LOCK w k) = true
    let booted := fun (t : State) (b : List Byte) (src : Nat) => t.boot = .firmware ∧ t.mem = s.mem.setList 0x3200000 b ∧
      t.reg R.TH_FWVER = BitVec.ofNat 32 (Config.signed b).version ∧ t.get R.TH_STATUS_BOOT_SRC = src ∧ t.get R.TH_STATUS_FW_REGION = 0 ∧
      t.th.runHash = (Config.signed b).hash ∧ (Config.bootWorker b = true → t.worker = true)
    let hostBoot := s.boot = .image ∧ (s.th.mode = 1 ∨ s.th.mode = 2)
    -- reset
    (∀ short, s.pwrState ≠ 3 ∨ short = false → ∃ t : State, exec (.resetNLow short) s = .next t ∧ fresh t ∧ t.pw.shut = s.pw.shut) ∧
    (s.pwrState = 3 → s.pw.wake = none → ∃ t : State, exec (.resetNLow true) s = .next t ∧ t = { s with regs := t.regs, pw := t.pw } ∧
      ∃ w, t.pw.wake = some w ∧ w.stage = 0 ∧ w.at_ = s.now ∧ w.active = false) ∧
    (∀ mode rails,
      (s.boot ≠ .held ∨ s.pw.dead = true → exec (.resetRelease mode rails) s = .next s) ∧
      (s.boot = .held → s.pw.dead = false →
        exec (.resetRelease mode false) s = .next { s with th := { s.th with mode := mode % 8, railWait := true } } ∧
        ∃ t : State, exec (.resetRelease mode true) s = .next t ∧ started (mode % 8) t ∧ t.th.mode = mode % 8)) ∧
    (s.th.railWait = false → exec .resetSelfRelease s = .next s) ∧
    (s.th.railWait = true → ∃ t : State, exec .resetSelfRelease s = .next t ∧ started s.th.mode t ∧ t.th.mode = s.th.mode) ∧
    (s.boot ≠ .rom → exec .bootPllTimeout s = .next s) ∧
    (s.boot = .rom → exec .bootPllTimeout s = .next { s with now := max s.now (s.th.from0 + 100 * msCycles), boot := .failed }) ∧
    -- images
    (∀ a b, (s.boot ≠ .image → exec (.imageLoaded a b) s = .next s) ∧
      (s.boot = .image → s.th.mode = 0 →
        (s.imageCheck a = .ok → s.manifestCheck b ≠ .ok ∨ (Config.signed b).svn ≤ (Config.signed a).svn → ∃ t : State,
          exec (.imageLoaded a b) s = .next t ∧ booted t a 0) ∧
        (s.imageCheck b = .ok → s.manifestCheck a ≠ .ok ∨ (Config.signed a).svn < (Config.signed b).svn → ∃ t : State,
          exec (.imageLoaded a b) s = .next t ∧ booted t b 1) ∧
        (s.imageCheck a ≠ .ok → s.imageCheck b ≠ .ok → exec (.imageLoaded a b) s = .next { s with boot := .failed })) ∧
      (s.boot = .image → s.th.mode = 3 → s.bootPort ≠ none →
        (s.imageCheck a = .ok → ∃ t : State, exec (.imageLoaded a b) s = .next t ∧ booted t a 3) ∧
        (s.imageCheck a ≠ .ok → s.th.tries < 3 →
          exec (.imageLoaded a b) s = .next { s with th := { s.th with tries := s.th.tries + 1 } }) ∧
        (s.imageCheck a ≠ .ok → 3 ≤ s.th.tries → exec (.imageLoaded a b) s = .next { s with boot := .failed })) ∧
      (hostBoot → s.th.bootGo = none → exec (.imageLoaded a b) s = .next s) ∧
      ∀ c len, hostBoot → s.th.bootGo = some (c, len) →
        let x := (s.readClean 0x3200000 len).1
        (s.imageCheck x = .ok → ∃ t : State, exec (.imageLoaded a b) s = .next t ∧ booted t x 2 ∧ t.th.bootGo = none) ∧
        (s.imageCheck x ≠ .ok → ∃ t : State, exec (.imageLoaded a b) s = .next t ∧ t.mem = s.mem ∧ t.regs = s.regs ∧ t.th.bootGo = none ∧
          (s.th.tries < 3 → t.boot = .image ∧ t.th.tries = s.th.tries + 1) ∧ (3 ≤ s.th.tries → t.boot = .failed))) ∧
    (¬hostBoot ∨ s.flag R.HP_STATUS_ETHREF_OK = false → exec .bootRequest s = .next s) ∧
    (hostBoot → s.flag R.HP_STATUS_ETHREF_OK = true → ∃ (t : State) (p : Packet), exec .bootRequest s = .next t ∧
      t = { s with now := max s.now s.th.reqAt, th := { s.th with reqAt := t.now + 100 * msCycles }, out := s.out ++ [.packet .host p] } ∧
      p.opcode = 0x0A82 ∧ p.payload = timeBytes t.time ++ beBytes 8 Config.uid ++ beBytes 1 0xB1 ++ beBytes 1 s.th.arb) ∧
    (∀ c : Cmd,
      let ofs := c.num 0 4
      let b := c.payload.drop 4
      (¬hostBoot → exec (.bootLoad c) s = .next (s.reply c .badOpcode []) ∧ exec (.bootGo c) s = .next (s.reply c .badOpcode [])) ∧
      (hostBoot →
        (4 ≤ b.length → b.length ≤ 8188 → ofs + b.length ≤ 0x100000 → ∃ u : State, u.mem = s.mem.setList (0x3200000 + ofs) b ∧
          u = { s with mem := u.mem, memx := u.memx } ∧ exec (.bootLoad c) s = .next (u.sendReply c .ok 0 [] false)) ∧
        (c.size = 4 → ofs ≠ 0 → ofs ≤ 0x100000 → exec (.bootGo c) s = .next { s with th := { s.th with bootGo := some (c, ofs) } }))) ∧
    (∀ evals cols,
      (s.boot ≠ .firmware → exec (.bootReady evals cols) s = .next s) ∧
      (s.boot = .firmware → ∃ t : State, exec (.bootReady evals cols) s = .next t ∧ t.boot = .ready ∧ t.mem = s.mem ∧ t.now = s.now ∧
        ∀ q, q < 4 → evals.testBit (64 + q) = true → t.flag (R.PD_REPAIR_SPARE_FAILED q) = true)) ∧
    -- the end of power
    (s.pw.shut = false ∨ s.pw.dead = true → exec .shutdownGate s = .next s) ∧
    (s.pw.shut = true → s.pw.dead = false → RegFile.wf s.regs = true → ∃ t : State, exec .shutdownGate s = .next t ∧
      t.now = max s.now (s.pw.shutAt + 491520) ∧ t.pw.dead = true ∧ t.pw.shut = true ∧ t.mem = [] ∧ t.boot = .held ∧
      ∀ a, t.reg a = if a / 2 ^ 20 = 0x120 then s.reg a else State.reset.reg a) ∧
    (∃ t : State, exec .larkPowerOnReset s = .next t ∧ fresh t ∧ t.pw.shut = false ∧ t.pw.dead = false)

/-- PING, IDENT, RESET, UNFREEZE, FREEZE_LIST (R462), REG_READ, REG_WRITE, MEM_READ, MEM_WRITE, SMEM_PARTITION, BANK_RETIRE, FW_STAGE, FW_ACTIVATE,
FW_STATUS, ATTEST, SESSION_OPEN, SESSION_FINISH, SESSION_CLOSE, CRED_ENROLL, CRED_REVOKE (R466), SELFTEST, EVENT_SUBSCRIBE, LOG_READ and FAULT_READ
(R467). What REG_READ and REG_WRITE answer is said for one register, and for words of memory. -/
def Obligations.SystemSessionAndMemoryCommands : Prop :=
  ∀ (c : Cmd) (s : State),
    let n := c.byte 0
    let mid := 0x40 + c.session
    -- system
    (c.size ≤ 64 → exec (.ping c) s = .next (s.reply c .ok c.payload)) ∧
    (c.size = 0 → exec (.ident c) s = .next (s.reply c .ok (beBytes 2 0x6464 ++ beBytes 1 0xB1 ++ beBytes 1 (s.get R.CASC_STATUS_ROLE) ++
      beBytes 1 (s.get R.CASC_STATUS_DA) ++ beBytes 1 (s.get R.CASC_STATUS_DA_VALID) ++ beBytes 1 s.th.mode ++ beBytes 1 (b2n (s.boot == .ready)) ++
      beBytes 8 Config.uid ++ beBytes 4 (s.reg R.TH_FWVER).toNat ++ beBytes 2 1 ++ beBytes 2 0))) ∧
    (c.size = 4 → c.num 2 2 = 0 →
      (n = 0 → ∃ u : State, exec (.reset c) s = .next { u with th := { s.th with resetAt := some (s.now + msCycles) } } ∧ u = s.reply c .ok []) ∧
      (n = 1 → c.byte 1 < 8 → s.fdState (c.byte 1) ≠ fdFrozen → s.fdState (c.byte 1) ≠ fdLoading → ∃ u : State,
        exec (.fdReset (c.byte 1)) s = .next u ∧ exec (.reset c) s = .next (u.reply c .ok [])) ∧
      (n = 2 → c.byte 1 < 4 → exec (.reset c) s = .next ((s.hgRetrain (c.byte 1)).reply c .ok []))) ∧
    (c.size = 4 → c.num 1 3 = 0 → n ≤ 0x5F → n ≠ mid → s.frozen n = true → ∃ u : State, exec (.unfreeze c) s = .next (u.reply c .ok []) ∧
      u.frozen n = false ∧ (∀ m, m < 96 → m ≠ n → u.frozen m = s.frozen m) ∧ u.mem = s.mem ∧
      (8 ≤ n → n < 16 → s.fdState (n - 8) = fdFrozen → u.fdState (n - 8) = fdHalted) ∧
      (0x20 ≤ n → n < 0x40 → s.dcState (n - 0x20) = dcFrozen → u.dcState (n - 0x20) = dcIdle) ∧
      (0x40 ≤ n → n < 0x50 → s.sessState (n - 0x40) = sessFrozen → u.sessState (n - 0x40) = sessOpen)) ∧
    (c.size = 0 → exec (.freezeList c) s = .next (s.reply c .ok (beBytes 12 ((s.reg (R.FAB_FROZEN 0)).toNat +
      (s.reg (R.FAB_FROZEN 1)).toNat * 2 ^ 32 + (s.reg (R.FAB_FROZEN 2)).toNat * 2 ^ 64)))) ∧
    -- registers and memory
    (∀ a k, a = c.num 0 4 → k = c.byte 4 → c.size = 8 → c.num 5 3 = 0 → 1 ≤ k → k ≤ 64 → a % 4 = 0 → a + 4 * k ≤ 2 ^ 32 →
      (∀ i, i < k → s.accessCause mid (a + 4 * i) 4 false = 0) →
      ((∀ i, i < k → inMemory (a + 4 * i) 4 = true) → exec (.regRead c) s = .next (s.reply c .ok
        ((List.range k).flatMap fun i => beBytes 4 (leNat (s.readClean (a + 4 * i) 4).1)))) ∧
      (k = 1 → inMemory a 4 = false → (∀ i, i < 64 → a ≠ R.STILE i) →
        exec (.regRead c) s = .next (s.reply c .ok (beBytes 4 (s.regPeek a).toNat)))) ∧
    (∀ a m v, a = c.num 4 4 → m = c.num 8 4 → v = c.num 12 4 → c.size = 16 → n = 1 → c.num 1 3 = 0 → a % 4 = 0 →
      s.accessCause mid a 4 true = 0 → s.accessCause mid a 4 false = 0 →
      (inMemory a 4 = true → m = 2 ^ 32 - 1 → ∃ u : State, exec (.regWrite c) s = .next u ∧ u.mem = s.mem.setList a (leBytes 4 v)) ∧
      (∀ u, inMemory a 4 = false → (∀ i, i < 64 → a ≠ R.STILE i) → m ≠ 0 →
        s.regWrite mid a (s.maskWord a m (BitVec.ofNat 32 v)) = .ok u →
        exec (.registerWrite mid a (s.maskWord a m (BitVec.ofNat 32 v))) s = .next u ∧
          exec (.regWrite c) s = .next (u.reply c .ok (beBytes 4 (u.regPeek a).toNat)))) ∧
    (∀ a k, a = c.num 0 4 → k = c.num 4 2 → c.size = 8 → c.num 6 2 = 0 → k % 4 = 0 → k ≤ 8188 → a + k ≤ 2 ^ 32 →
      s.firstViolation mid a k false = none → inMemory a k = true → s.anyPoison a k = false →
      exec (.memRead c []) s = .next ((s.settled mid).reply c .ok (beBytes 4 0 ++ (List.range k).map fun i => s.byte (a + i)))) ∧
    (∀ a l, a = c.num 0 4 → l = c.payload.drop 4 → 4 ≤ l.length → l.length ≤ 8188 → a + l.length ≤ 2 ^ 32 →
      s.firstViolation mid a l.length true = none → inMemory a l.length = true → ∃ u : State,
      exec (.memWrite c []) s = .next (u.reply c .ok []) ∧ u.mem = s.mem.setList a l ∧ u = { s with mem := u.mem, memx := u.memx }) ∧
    (∀ l, l = c.words 0 6 → c.size = 24 → partOk (l.map fun w => (bits w 24 16, bits w 8 0)) = true →
      (s.writes ((List.range 6).map fun i => (R.SMEM_PART i, l.getD i 0))).2 = none →
      exec (.smemPartition c) s = .next ((s.writes ((List.range 6).map fun i => (R.SMEM_PART i, l.getD i 0))).1.reply c .ok [])) ∧
    (∀ k, c.size = 4 → c.num 1 3 = 0 → n < 64 → s.retireCheck n = some k → ∃ u : State, exec (.bankRetire c) s = .next (u.accept 2 c) ∧
      u = { s with regs := u.regs, memx := u.memx } ∧ u.flag (R.MEM_SPARE_COPYING k) = true ∧
      u.memx.retire = some { bank := n, spare := k, start := s.alignEdge, next := 0, cmd := some c }) ∧
    -- firmware and attestation
    (∀ o l, o = c.num 0 4 → l = c.payload.drop 4 → 4 ≤ c.size → o + l.length ≤ 0x100000 → ∃ u : State,
      exec (.fwStage c) s = .next (u.reply c .ok []) ∧ u.mem = s.mem.setList (s.stagingBase + o) l ∧ u.reg R.TH_FWSTG = 0 ∧
      ∀ a, a ≠ R.TH_FWSTG → u.reg a = s.reg a) ∧
    (∀ len o, len = c.num 0 4 → o = Config.signed (s.staged len) → c.size = 8 → c.num 4 4 = 0 → len ≤ 0x100000 → s.owned = true →
      s.th.fw = none → o.kind ≠ 2 → s.imageCheck (s.staged len) = .ok → ∃ u : State, exec (.fwActivate c) s = .next u ∧ u.fe.stopped = true ∧
      u.reg R.TH_FWSTG = BitVec.ofNat 32 o.version ∧
      u.th.fw = some { cmd := some c, at_ := s.now, version := o.version, svn := o.svn, hash := o.hash, advance := o.advance }) ∧
    (c.size = 0 → exec (.fwStatus c) s = .next (s.reply c .ok (beBytes 4 (s.regPeek R.TH_FWVER).toNat ++ beBytes 4 (s.regPeek R.TH_FWSTG).toNat ++
      beBytes 8 s.th.counter))) ∧
    (c.size = 32 → s.flag R.TH_STATUS_DEBUG = false → exec (.attest c) s = .next (s.reply c .ok (s.attest c.payload))) ∧
    -- sessions
    (∀ x, x < 16 → s.fe.sess.length = 16 → s.sessState x = sessClosed → (∀ y, y < x → s.sessState y ≠ sessClosed) → c.size = 1249 →
      c.byte 1248 < 8 → s.worker = false → s.flag R.TH_STATUS_DEBUG = false → ∃ u : State, exec (.sessionOpen c) s = .next u ∧
      u.sessState x = sessOpening ∧ u.get (R.SESS_STAT_CRED x) = c.byte 1248 ∧ u.flag (R.SESS_STAT_ROLE x) = false ∧
      (u.session x).openedAt = s.now ∧ u.mem = s.mem ∧ ∀ y, y < 16 → y ≠ x → u.sessState y = s.sessState y) ∧
    (∀ p, c.session < 16 → s.sessState c.session = sessOpening → c.size = 3373 →
      (s.owned = false ∧ c.via = .spi ∧ p = true) ∨ (s.owned = true ∧ ∃ k, s.th.creds.getD (s.get (R.SESS_STAT_CRED c.session)) none = some k ∧
        Config.credValid k.ed k.ml (Config.sha384 (s.session c.session).transcript) c.payload = true ∧ p = k.privileged) →
      ∃ u : State, exec (.sessionFinish c) s = .next (u.reply c .ok []) ∧ u.sessState c.session = sessOpen ∧
        u.flag (R.SESS_STAT_ROLE c.session) = p ∧ u.flag (R.WIN1_EN mid 0) = p ∧ u.mem = s.mem) ∧
    (c.size = 4 → c.num 1 3 = 0 → n < 16 → n = c.session ∨ s.priv c = true → ∃ u : State, exec (.sessionClose c) s = .next u ∧
      u.sessState n = sessClosed ∧ ∀ b, b < 16 → s.beamOwner b = n → s.sessState n ≠ sessClosed → u.beamOwner b = 0x1F) ∧
    (c.size = 1988 → c.num 2 2 = 0 → n ≠ 0 → n < 8 → c.byte 1 ≤ 1 → s.th.creds.getD n none = none → ∃ k : Cred,
      exec (.credEnroll c) s = .next ({ s with th := { s.th with creds := updAt s.th.creds n fun _ => some k } }.reply c .ok []) ∧
      k.privileged = decide (c.byte 1 = 1) ∧ k.ed = Config.sha384 ((c.payload.drop 4).take 32) ∧ k.ml = Config.sha384 (c.payload.drop 36)) ∧
    (c.size = 4 → c.num 1 3 = 0 → n < 8 → s.worker = true ∨ s.get (R.SESS_STAT_CRED c.session) ≠ n → s.th.creds.length = 8 → ∃ u : State,
      exec (.credRevoke c) s = .next u ∧ u.th.creds.getD n none = none ∧
      ∀ x, x < 16 → s.worker = false → s.get (R.SESS_STAT_CRED x) = n → u.sessState x = sessClosed) ∧
    -- self-test, events, log and faults
    (∀ evals cols, c.size = 0 → s.carriersActive = false → ∃ u : State, exec (.selftest c evals cols) s = .next u ∧ u.mem = s.mem ∧ u.now = s.now ∧
      ∀ q, q < 4 → (evals.testBit (64 + q) = true → u.flag (R.PD_REPAIR_SPARE_FAILED q) = true) ∧
        (cols.testBit (64 + q) = true → u.flag (R.BF_REPAIR_SPARE_FAILED q) = true)) ∧
    (c.size = 2 → exec (.eventSubscribe c) s = .next ({ s with
      fe := { s.fe with sess := updAt s.fe.sess c.session fun y => { y with mask := c.num 0 2 } } }.reply c .ok [])) ∧
    (c.size = 8 → c.num 6 2 = 0 → ∃ l : List Byte, l.length ≤ 8192 ∧ exec (.logRead c) s = .next ({ s with free := s.free + 1 }.reply c .ok l)) ∧
    (c.size = 4 → c.num 2 2 = 0 → unitExists n = true → c.byte 1 ≤ 1 →
      let l := (List.range 4).flatMap (fun r => (List.range 8).flatMap fun k => beBytes 4 (s.regPeek (R.FM_REC n r k)).toNat) ++
        beBytes 4 (s.regPeek (R.FM_OVF n)).toNat
      (c.byte 1 = 0 → exec (.faultRead c) s = .next (s.reply c .ok l)) ∧
      (c.byte 1 = 1 → ∃ u : State, exec (.faultUnitClr n) s = .next u ∧ exec (.faultRead c) s = .next (u.reply c .ok l)))

/-- CARRIER_CLAIM, CARRIER_RELEASE, CARRIER_CONFIG, CARRIER_ENABLE, CARRIER_UL_FORMAT, CARRIER_GAIN, PRACH_CONFIG, CARRIER_STATUS (R181, R355, R462,
R469), LO_MODE, TUNE, ARRAY_ARM, QLO_TRIM, CHAIN_SET, ORX_CONFIG, CFR_CONFIG and CFR_PULSE (R89, R99, R460, R462). The writes of a command are
those of R456, in order; that none is refused is a condition on the registers alone. -/
def Obligations.CarrierAndRadioCommands : Prop :=
  ∀ (c : Cmd) (s : State),
    let n := c.byte 0
    let d := dirOf n
    let cs := c.byte 1
    let wrote := fun (l : List (Nat × Nat)) (k : Instr) => (s.writes l).2 = none → exec k s = .next ((s.writes l).1.reply c .ok [])
    -- carriers
    (c.size = 4 → c.num 2 2 = 0 → n ≤ 1 → cs < 8 → c.session < 16 →
      (s.slotOwner n cs = c.session → exec (.carrierClaim c) s = .next (s.reply c .ok [])) ∧
      (s.slotOwner n cs = 0x1F → ∃ u : State, exec (.carrierClaim c) s = .next (u.reply c .ok []) ∧ u = { s with regs := u.regs, out := u.out } ∧
        u.slotOwner n cs = c.session ∧ ∀ a, a ≠ R.CS_CFG n cs → u.reg a = s.reg a) ∧
      (s.mayUse c (s.slotOwner n cs) = true → ∃ u : State, exec (.carrierRelease c) s = .next u ∧ u.slotEn d cs = false ∧
        u.active d cs = s.active d cs ∧ { d := n, cs := cs, release := true, cmd := some c } ∈ u.enJobs ∧ u.mem = s.mem) ∧
      exec (.carrierStatus c) s = .next (s.reply c .ok (s.word4 (R.CS_CFG n cs) ++ s.word4 (R.CS_FFT n cs) ++ s.word4 (R.SP_WIN0 n cs) ++
        s.word4 (R.SP_WIN1 n cs) ++ s.word4 R.LP_SAT))) ∧
    (c.size = 36 → c.byte 15 = 0 → c.num 18 2 = 0 → n ≤ 1 → cs < 8 → configBad c = false → s.mayUse c (s.slotOwner n cs) = true → wrote
      ([(R.CS_CFG n cs, s.wordWith (R.CS_CFG n cs) [(R.CS_CFG_QMASK n cs, c.byte 9), (R.CS_CFG_MU n cs, c.byte 2), (R.CS_CFG_LOG2N n cs, c.byte 3),
          (R.CS_CFG_N_RB n cs, c.num 4 2)]),
        (R.CS_FFT n cs, s.wordWith (R.CS_FFT n cs) ([(R.CS_FFT_NL n cs, c.byte 6), (R.CS_FFT_PHC n cs, c.byte 10), (R.CS_FFT_SHIFT n cs, c.byte 11)] ++
          (if n = 1 then [(R.CS_FFT_WIN_ADV n cs, c.num 12 2)] else [])))] ++
        (if n = 0 then [(R.CS_BUF cs, wordOf [(R.CS_BUF_DEPTH cs, c.byte 14), (R.CS_BUF_BASE cs, c.num 16 2)])] else []) ++
        [(R.BF_LMAP n cs, s.wordWith (R.BF_LMAP n cs) [(R.BF_LMAP_GRAN n cs, c.byte 8), (R.BF_LMAP_LBASE n cs, c.byte 7)]),
         (R.CS_RF_LO n cs, c.num 24 4), (R.CS_RF_HI n cs, c.num 20 4), (R.CS_F0_LO n cs, c.num 32 4), (R.CS_F0_HI n cs, c.num 28 4)])
      (.carrierConfig c)) ∧
    (c.size = 4 → c.byte 3 = 0 → n ≤ 1 → cs < 8 → s.mayUse c (s.slotOwner n cs) = true → ∀ v, c.byte 2 = (if v = true then 1 else 0) →
      (s.slotEn d cs = v → s.active d cs = v → exec (.carrierEnable c) s = .next ((s.accept 1 c).complete c .ok [])) ∧
      (s.slotEn d cs ≠ v ∨ s.active d cs ≠ v → (v = true → s.slotEn d cs = false → s.enCheck d cs = 0) → ∃ (u : State) (r : Bool),
        exec (.carrierEnable c) s = .next u ∧ u.slotEn d cs = v ∧ u.active d cs = s.active d cs ∧
        { d := n, cs := cs, release := r, cmd := some c } ∈ u.enJobs ∧ u.mem = s.mem)) ∧
    (c.size = 12 → c.num 10 2 = 0 → ulFormatBad c = false → s.mayUse c (s.slotOwner 1 n) = true → wrote
      [(R.CS_UL_FMT n, wordOf [(R.CS_UL_FMT_P_MSG n, c.num 4 2), (R.CS_UL_FMT_PORT n, c.byte 3), (R.CS_UL_FMT_SHIFT n, c.byte 2),
        (R.CS_UL_FMT_COMP n, c.byte 1), (R.CS_UL_FMT_UL_ADD n, c.num 6 2)]), (R.CS_UL_PR n, c.num 8 2)] (.carrierUlFormat c)) ∧
    (c.size = 8 → c.byte 3 = 0 → c.num 6 2 = 0 → n ≤ 1 → cs < 8 → (n = 0 → c.byte 2 = 0) → c.byte 2 ≤ 7 →
      s.mayUse c (s.slotOwner n cs) = true → ∃ u : State, exec (.carrierGain c) s = .next (u.reply c .ok []) ∧ u.mem = s.mem ∧
      (n = 0 → u.get (R.CS_TX_GAIN_GAIN cs) = c.num 4 2) ∧
      (n = 1 → u.get (R.CS_RX_DG_MANT cs) = c.num 4 2 ∧ u.get (R.CS_RX_DG_EXP cs) = c.byte 2)) ∧
    (c.size = 36 → c.num 2 2 = 0 → prachConfigBad c = false → s.mayUse c (s.slotOwner 1 (bits (c.num 4 4) 30 28)) = true → wrote
      ([(R.PR_START n, c.num 8 4), (R.PR_CP n, c.num 12 4), (R.PR_FOFF n, c.num 16 4 % 2 ^ 20), (R.PRB_CFG n, c.byte 1)] ++
        ((List.range 4).map fun j => (R.PRB_ID n j, wordOf [(R.PRB_ID_ID_HI n j, c.num (22 + 4 * j) 2), (R.PRB_ID_ID_LO n j, c.num (20 + 4 * j) 2)])) ++
        [(R.PR_CTRL n, c.num 4 4)]) (.prachConfig c)) ∧
    -- LO
    (c.size = 4 → c.byte 3 = 0 → n ≤ 1 → cs ≤ 3 → c.byte 2 < 16 → wrote
      ((R.LO_CTRL, wordOf [(R.LO_CTRL_MODE, n), (R.LO_CTRL_AUTO_SWAP, cs % 2), (R.LO_CTRL_STBY_MIRROR, cs / 2)]) ::
        (if n = 1 then (List.range 4).map fun q => (R.QLO_CFG q, s.wordWith (R.QLO_CFG q) [(R.QLO_CFG_SRC q, bits (c.byte 2) q q)]) else []))
      (.loMode c)) ∧
    (c.size = 4 → c.num 1 3 = 0 → 1 ≤ n → n ≤ 60 → s.carriersActive = false → ∃ u : State, exec (.arrayArm c) s = .next u ∧
      u.flag R.LO_CTRL_ARR_ARM = true ∧ u.lo.armJob = some c ∧ u.lo.armDeadline = s.now + n * secCycles ∧ u.mem = s.mem ∧ u.now = s.now) ∧
    (c.size = 4 → n < 16 → c.num 2 2 < 3600 → s.flag R.CAL_CTRL_EN = false → wrote
      ((quadsOf n).map fun q => (R.QLO_CFG q, s.wordWith (R.QLO_CFG q) [(R.QLO_CFG_TRIM_SLEW q, cs), (R.QLO_CFG_TRIM q, c.num 2 2)])) (.qloTrim c)) ∧
    (∀ v, commonVco ((quadsOf n).map fun q => c.num (8 + 8 * q) 8) = some v → c.size = 40 → c.byte 3 = 0 → c.num 6 2 = 0 → 1 ≤ n →
      n < 16 → cs ≤ 3 → c.byte 2 < 16 → c.num 4 2 < 1024 → (∀ q ∈ quadsOf n, c.num (8 + 8 * q) 8 < 2 ^ 42) → ∃ b : State,
        b = { s with regs := b.regs } ∧ b.get R.TUNE_F_F = v % 2 ^ 32 ∧ b.get R.TUNE_CFG_QMASK = n ∧ b.get R.TUNE_AT_FRAME = c.num 4 2 ∧
        b.flag R.TUNE_CFG_RECAL = decide (2 ≤ cs) ∧ b.flag R.TUNE_CFG_AT_EN = decide (cs % 2 = 1) ∧
        (∀ a, a ≠ R.TUNE_F → a ≠ R.TUNE_CFG → a ≠ R.TUNE_AT → b.reg a = s.reg a) ∧
        let t := b.stagedTune (some c)
        (b.afterRetune.tuneCheck t (b.afterRetune.tuneAllowed c t) = .ok →
          (b.afterRetune.tuneIdle t = true ∨ s.radioPowered = false → ∃ u : State, exec (.tune c) s = .next u ∧ u.get R.TUNE_CMD_RESULT = 0) ∧
          (b.afterRetune.tuneIdle t = false → s.radioPowered = true → s.lo.tune = none → s.recovering = false → ∃ (u : State) (p : Tune),
            exec (.tune c) s = .next u ∧ u.get R.TUNE_CMD_RESULT = 1 ∧ u.lo.tune = some p ∧ p.cmd = some c ∧ p.qmask = n ∧ p.n = t.n ∧ p.f = t.f))) ∧
    -- chains, observation receivers, CFR
    (c.size = 12 → c.byte 8 < 128 → c.byte 9 < 128 → (bit (c.byte 8) 2 = true → c.byte 10 < 128) → (bit (c.byte 8) 3 = true → c.byte 11 ≤ 60) →
      wrote ((bitList 64 (c.num 0 8)).flatMap fun ch =>
        let sel := (([(R.CH_CTRL_TX_EN ch, 0), (R.CH_CTRL_RX_EN ch, 1), (R.CH_CTRL_TX_MUTE ch, 4), (R.CH_CTRL_RX_MUTE ch, 5),
          (R.CH_CTRL_RX_PROT ch, 6)] : List (Field × Nat)).filter fun p => bit (c.byte 8) p.2).map fun p => (p.1, bits (c.byte 9) p.2 p.2)
        (if sel = [] then [] else [(R.CH_CTRL ch, s.wordWith (R.CH_CTRL ch) sel)]) ++ (if bit (c.byte 8) 2 then [(R.TX_ATT ch, c.byte 10)] else []) ++
          (if bit (c.byte 8) 3 then [(R.RX_GAIN ch, c.byte 11)] else [])) (.chainSet c)) ∧
    (c.size = 4 → n < 8 → cs < 32 → c.num 2 2 < 1024 → ∃ u : State, exec (.orxConfig c) s = .next (u.reply c .ok []) ∧
      u = { s with regs := u.regs } ∧ u.get (R.ORX_CFG_SETTLE n) = c.num 2 2 ∧ u.get (R.ORX_CFG_ATT n) = cs ∧
      ∀ a, a ≠ R.ORX_CFG n → u.reg a = s.reg a) ∧
    (c.size = 28 → c.num 1 3 = 0 → n < 4 → bits (c.num 4 4) 23 16 % 2 = 1 → 15 ≤ bits (c.num 4 4) 23 16 → 1 ≤ bits (c.num 4 4) 7 4 →
      bits (c.num 4 4) 7 4 ≤ 8 → (∀ w ∈ c.words 8 5, w < 2 ^ 17) → ∃ u : State, exec (.cfrConfig c) s = .next (u.reply c .ok []) ∧ u.mem = s.mem ∧
      u.get (R.CFR_CFG_PULSE_LEN n) = bits (c.num 4 4) 23 16 ∧ u.get (R.CFR_CFG_PK_MAX n) = bits (c.num 4 4) 7 4) ∧
    (4 ≤ c.size → c.size = 4 + 4 * c.byte 3 → n < 4 → cs ≤ 1 → c.byte 2 + c.byte 3 ≤ 256 → cs ≠ s.get (R.CFR_CFG_BANK_NOW n) → wrote
      ((List.range (c.byte 3)).map fun i => (R.CFR_PULSE n cs (c.byte 2 + i), c.num (4 + 4 * i) 4)) (.cfrPulse c))

/-- BEAM_BLOCK_CLAIM, BEAM_BLOCK_RELEASE, WSET_DECLARE, WSET_WRITE, BEAM_WRITE, STEER, BF_SHIFT, BEAM_DEFAULT, GEOM_WRITE, PD_CONFIG, PD_CHAIN,
PD_BANK_WRITE, PD_COMMIT, PD_POST, PD_ROLLBACK, PD_STATUS, PD_ADAPT, CAL_ENABLE, CAL_CONFIG, CAL_JOB, CAL_ABORT, CAL_READ_CORR and
CAL_FACTORY_COMMIT (R463). -/
def Obligations.BeamPdAndCalibrationCommands : Prop :=
  ∀ (c : Cmd) (s : State),
    let n := c.byte 0
    let cs := c.byte 1
    let wrote := fun (l : List (Nat × Nat)) (k : Instr) => (s.writes l).2 = none → exec k s = .next ((s.writes l).1.reply c .ok [])
    -- beams
    (c.size = 4 → c.num 1 3 = 0 → n < 16 →
      (s.beamOwner n = c.session → c.session < 16 → exec (.beamBlockClaim c) s = .next (s.reply c .ok [])) ∧
      (s.beamOwner n = 0x1F → c.session < 16 → ∃ u : State, exec (.beamBlockClaim c) s = .next u ∧ u.beamOwner n = c.session ∧ u.mem = s.mem ∧
        ∀ b, b < 16 → b ≠ n → u.beamOwner b = s.beamOwner b) ∧
      (s.mayUse c (s.beamOwner n) = true → ∃ u : State, exec (.beamBlockRelease c) s = .next u ∧ u.beamOwner n = 0x1F ∧ u.mem = s.mem ∧
        ∀ b, b < 16 → b ≠ n → u.beamOwner b = s.beamOwner b)) ∧
    (∀ sp v, spanCode (c.byte 6) = some sp → v = BitVec.ofNat 32 (wordOf [(R.WS_CFG_VALID n, cs), (R.WS_CFG_NL n, c.byte 4), (R.WS_CFG_SPAN n, sp),
        (R.WS_CFG_GRAN n, c.byte 5), (R.WS_CFG_DIR n, c.byte 2), (R.WS_CFG_CS n, c.byte 3)]) →
      c.size = 8 → c.num 7 1 = 0 → n < 16 → cs ≤ 1 → c.byte 2 ≤ 1 → c.byte 3 < 8 → c.byte 4 < 64 → c.byte 5 < 8 →
      s.mayUse c (s.slotOwner (c.byte 2) (c.byte 3)) = true → s.wsCheck n v = 0 → ∃ u : State, exec (.wsCfgWrite n v) s = .next u ∧
        exec (.wsetDeclare c) s = .next (u.reply c .ok []) ∧ u.get (R.WS_CFG_VALID n) = cs ∧ u.get (R.WS_CFG_NL n) = c.byte 4 ∧
        u.get (R.WS_CFG_SPAN n) = sp ∧ u.get (R.WS_CFG_GRAN n) = c.byte 5 ∧ u.get (R.WS_CFG_DIR n) = c.byte 2 ∧ u.get (R.WS_CFG_CS n) = c.byte 3) ∧
    (∀ v k, v = c.num 2 2 → k = c.num 4 2 → c.size = 8 + 192 * k → 1 ≤ k → k ≤ 42 → cs = 0 → c.num 6 2 = 0 → n < 16 → s.memberOf n = none →
      v + k ≤ s.setSize n → s.mayUse c (s.slotOwner (s.get (R.WS_CFG_DIR n)) (s.get (R.WS_CFG_CS n))) = true → s.setInUse n = false →
      ∃ u : State, exec (.wsetWrite c) s = .next (u.reply c .ok []) ∧
        (∀ i, i < k → u.bytes (setVec n (v + i)) 192 = weightVec ((c.payload.drop (8 + 192 * i)).take 192)) ∧
        ∀ a, a < setVec n v ∨ setVec n (v + k) ≤ a → u.byte a = s.byte a) ∧
    (∀ id f, id = c.num 0 2 → f = { id := id, d := c.byte 2, cs := c.byte 3, atEn := decide (c.byte 4 = 1), frame := c.num 6 2, sym := c.num 8 2, src := .cmd c } →
      c.size = 204 → c.num 5 1 = 0 → c.num 10 2 = 0 → id < 4096 → c.byte 2 ≤ 1 → c.byte 3 < 8 → c.byte 4 ≤ 1 → c.num 6 2 < 1024 →
      c.num 8 2 < symsPerFrame (s.slotMu (dirOf (c.byte 2)) (c.byte 3)) → s.mayUse c (s.beamOwner (id / 256)) = true → s.bf.lq.length < 32 →
      ∃ u : State, exec (.beamWrite c) s = .next u ∧
        (s.pageHeld id = false → f ∈ u.bf.flips ∧ u.bytes (beamVec (1 - s.beamPage id) id) 192 = weightVec (c.payload.drop 12) ∧
          ∀ a, a < beamVec (1 - s.beamPage id) id ∨ beamVec (1 - s.beamPage id) id + 192 ≤ a → u.byte a = s.byte a) ∧
        (s.pageHeld id = true → { flip := f, vec := weightVec (c.payload.drop 12), steer := none } ∈ u.bf.lq ∧ u.mem = s.mem)) ∧
    (∀ l : List SteerReq, l = ((List.range n).map fun i => { w0 := c.num (4 + 12 * i) 4, w1 := c.num (8 + 12 * i) 4, w2 := c.num (12 + 12 * i) 4, job := some (c, i) }) →
      c.size = 4 + 12 * n → c.num 1 3 = 0 → 1 ≤ n → n ≤ 32 → (∀ r ∈ l, s.steerValid r = true) →
      (∀ r ∈ l, s.mayUse c (s.beamOwner (bits r.w0 31 20 / 256)) = true) → s.bf.fifo.length + n ≤ 64 → ∃ u : State, exec (.steer c) s = .next u ∧
        { cmd := c, done := List.replicate n none } ∈ u.bf.jobs ∧ u.mem = s.mem ∧ u.bf.flips = s.bf.flips ∧
        (s.flag R.STEER_CTRL_EN = false ∨ s.bf.busy.isSome = true → u.bf.fifo = s.bf.fifo ++ l)) ∧
    (c.size = 4 → c.num 2 2 = 0 → n < 8 → cs < 8 → ∃ u : State, exec (.bfShift c) s = .next (u.reply c .ok []) ∧ u.mem = s.mem ∧
      u.get R.BF_SHIFT_DL_SHIFT = n ∧ u.get R.BF_SHIFT_UL_SHIFT = cs ∧ ∀ a, a ≠ R.BF_SHIFT → u.reg a = s.reg a) ∧
    (c.size = 4 → n ≤ 1 → cs < 8 → s.mayUse c (s.slotOwner n cs) = true → wrote
      [(R.BF_LMAP n cs, s.wordWith (R.BF_LMAP n cs) [(R.BF_LMAP_DEFAULT n cs, c.num 2 2)])] (.beamDefault c)) ∧
    (∀ w k, w = c.num 0 2 → k = c.num 2 2 → c.size = 4 + 4 * k → w + k ≤ 0x380 → (∀ i, i < k → s.geomOk (w + i) = true) → ∃ u : State,
      exec (.geomWrite c) s = .next (u.reply c .ok []) ∧ (∀ i, i < k → u.word32 (geomBase + 4 * (w + i)) = c.num (4 + 4 * i) 4) ∧
      ∀ a, a < geomBase + 4 * w ∨ geomBase + 4 * (w + k) ≤ a → u.byte a = s.byte a) ∧
    -- predistortion
    (c.size = 12 → c.num 5 3 = 0 → c.num 0 2 < 4096 → c.byte 3 < 16 → c.byte 4 ≤ 1 → (∀ q, q < 4 → c.byte (8 + q) < 24) → wrote
      ((R.PD_CFG, wordOf [(R.PD_CFG_ROLLBACK_THR, c.num 0 2), (R.PD_CFG_DIV_THR, c.byte 2), (R.PD_CFG_VERIFY_FRAMES, c.byte 3),
        (R.PD_CFG_TBAND_EN, c.byte 4)]) :: (List.range 4).map fun q => (R.PD_TSEL q, c.byte (8 + q))) (.pdConfig c)) ∧
    (∀ l ecc u, l = [(R.PD_NBR n, c.num 8 4)] ++ (List.range 16).map (fun i => (R.PD_TERMS n i, c.num (12 + 4 * i) 4)) ++
        [(R.PD_BYP_G n, c.num 4 2), (R.PD_TBMAP n, c.num 6 2)] →
      c.size = 76 → n < 64 → cs ≤ 1 → c.byte 2 < 8 → c.byte 3 ≤ 1 → c.num 6 2 < 2 ^ 15 →
      (∀ j, j < 4 → bit (c.num 8 4) (8 * j + 7) = true → bits (c.num 8 4) (8 * j + 5) (8 * j) ≠ n) → (s.writes l).2 = none →
      let b := ((s.writes l).1.put (R.PD_CHCFG_INIT n) (c.byte 2)).put (R.PD_CHCFG_NOSPARE_MUTE n) (c.byte 3)
      b.pdEnWrite n (decide (cs = 1)) ecc = .ok u →
        exec (.pdEnableWrite n (decide (cs = 1)) ecc) b = .next u ∧ exec (.pdChain c ecc) s = .next (u.reply c .ok [])) ∧
    (∀ o k, o = c.byte 2 → k = c.byte 3 → c.size = 4 + 8 * k → n < 64 → cs < 8 → o + k ≤ 80 → (c.words 4 (2 * k)).all partFits = true → wrote
      ((List.range k).flatMap fun i => [(R.COEF_I n cs (o + i), c.num (4 + 8 * i) 4), (R.COEF_Q n cs (o + i), c.num (8 + 8 * i) 4)])
      (.pdBankWrite c)) ∧
    (∀ ecc, c.size = 4 → n < 64 → cs < 8 → s.pd.length = 64 → s.pdGoCode n cs = 0 → s.activeOn .dl (quadOf n) ≠ [] → ∃ u : State,
      exec (.pdCommit c ecc) s = .next u ∧ u.get (R.PD_ACL_PRE n) = c.num 2 2 ∧ u.get (R.PD_STATE_TGT_NOW n) = cs ∧ (u.pdx n).goPend = true ∧
      (u.pdx n).cmd = some c ∧ u.pdState n = pdSteady ∧ u.mem = s.mem) ∧
    (c.size = 4 → c.num 1 1 = 0 → n < 64 → s.pdState n = pdVerify → ∃ u : State, exec (.pdAclPost n (c.num 2 2)) s = .next u ∧
      exec (.pdPost c) s = .next (u.reply c .ok [])) ∧
    (c.size = 4 → c.num 1 3 = 0 → n < 64 → (∃ u : State, exec (.pdCmdRollback n) s = .next u ∧ exec (.pdRollback c) s = .next (u.reply c .ok [])) ∧
      exec (.pdStatus c) s = .next (s.reply c .ok (s.word4 (R.PD_STATE n) ++ s.word4 (R.PD_CNT n) ++ s.word4 (R.PD_REPAIR (quadOf n))))) ∧
    (∀ m, m = c.num 0 8 → c.size = 12 → c.num 9 3 = 0 →
      (c.byte 8 = 1 → exec (.pdAdapt c) s = .next ({ s with pdAdapt := s.pdAdapt ||| m }.reply c .ok [])) ∧
      (c.byte 8 = 0 → exec (.pdAdapt c) s = .next ({ s with pdAdapt := s.pdAdapt - (s.pdAdapt &&& m) }.reply c .ok []))) ∧
    -- calibration
    (c.size = 4 → c.num 1 3 = 0 → (n = 1 → ∃ u : State, exec (.calEnable c) s = .next u ∧ u.flag R.CAL_CTRL_EN = true ∧ u.cal.checkAt = some s.now ∧
        c ∈ u.cal.checkCmds ∧ u.mem = s.mem) ∧
      (n = 0 → ∃ u : State, exec (.calEnable c) s = .next u ∧ u.flag R.CAL_CTRL_EN = false ∧ u.cal.checkAt = none ∧ u.cal.job = none)) ∧
    (∀ w, w = c.num 0 4 → c.size = 12 → 20 ≤ bits w 13 8 → bits w 13 8 ≤ 60 → w % 16 ≠ 0 → s.cal.job = none → wrote
      [(R.CAL_CFG, w), (R.CAL_REF, c.num 4 4), (R.CAL_LIM, c.num 8 4)] (.calConfig c)) ∧
    (c.size = 12 → c.num 5 1 = 0 → c.num 10 2 = 0 → 1 ≤ n → n ≤ 6 → cs < 16 → c.byte 2 < 32 → (n = 6 → c.byte 2 < 24) → c.byte 3 < 16 → c.byte 4 ≤ 1 →
      c.num 6 2 < 1024 → c.num 8 2 < 4096 → s.cal.job = none → ∃ b : State, b = { s with regs := b.regs } ∧ b.get R.CAL_JOB_KIND = n ∧
        b.get R.CAL_JOB_QMASK = cs ∧ b.get R.CAL_JOB_SENSOR = c.byte 2 ∧ b.get R.CAL_JOB_WAIT_FRAMES = c.byte 3 ∧ b.get R.CAL_JOB_AT_EN = c.byte 4 ∧
        b.get R.CAL_JOB_AT_FRAME = c.num 6 2 ∧ b.get R.CAL_JOB_AT_SYM = c.num 8 2 ∧ (∀ a, a ≠ R.CAL_JOB → a ≠ R.CAL_JOB_AT → b.reg a = s.reg a) ∧
        (b.calCheck (b.stagedCal (some c)) = .accepted → b.jobChains n cs ≠ [] ∨ 5 ≤ n → ∃ (u : State) (j : CalJobX),
          exec (.calJob c) s = .next u ∧ u.flag R.CAL_STATUS_BUSY = true ∧ u.cal.job = some j ∧ j.cmd = some c ∧ j.kind = n ∧ j.qmask = cs)) ∧
    (c.size = 0 → ∃ u : State, exec .calGoAbort s = .next u ∧ exec (.calAbort c) s = .next (u.reply c .ok []) ∧ u.cal.job = none) ∧
    (c.size = 4 → c.num 3 1 = 0 → n ≤ 1 → 1 ≤ c.byte 2 → cs + c.byte 2 ≤ 64 → exec (.calReadCorr c) s = .next (s.reply c .ok
      ((List.range (c.byte 2)).flatMap fun i => beBytes 4 (s.word32 (corrAddr n (cs + i)))))) ∧
    (c.size = 0 → s.otpWindow = true → s.cal.digests.length < 4 → ∃ u : State, exec (.calFactoryCommit c) s = .next u ∧
      u.cal.digests = s.cal.digests ++ [s.recordDigest] ∧ u.cal.refine = [] ∧ u.reg R.CAL_XPH = 0 ∧
      ∀ ch, ch < 64 → u.reg (R.CAL_DTX ch) = 0 ∧ u.reg (R.CAL_DRX ch) = 0)

/-- SLOT_WRITE, SLOT_MU, SLOT_COPY, SLOT_COMMIT, SLOT_CANCEL, FRAME_CONFIG (R465), TIME_SET, TIME_GET, SERVO_CONFIG, TIME_SELECT, PPS_CONFIG,
STATE_SET, STATE_GET, THERM_CONFIG, THERM_READ and LARK_RULE (R461, R464). What STATE_NOW shows during a move is the model's choice
(log entry 44); the power estimate of STATE_GET is an open value. -/
def Obligations.TimeAndPowerCommands : Prop :=
  ∀ (c : Cmd) (s : State),
    let n := c.byte 0
    let cs := c.byte 1
    let wrote := fun (l : List (Nat × Nat)) (k : Instr) => (s.writes l).2 = none → exec k s = .next ((s.writes l).1.reply c .ok [])
    -- the slot table
    (∀ w k l, w = c.num 0 2 → k = c.num 2 2 → l = c.words 4 k → c.size = 4 + 4 * k → 1 ≤ k → k ≤ 2047 → w + k ≤ 2048 →
      (∀ x ∈ l, x < 4096 ∧ bit x 7 = false) → wrote ((List.range k).map fun i => (R.SLOT_TBL (1 - s.bank) (w + i), l.getD i 0)) (.slotWrite c)) ∧
    (c.size = 4 → c.num 1 3 = 0 → n ≤ 3 → wrote [(R.SLOT_MU (1 - s.bank), n)] (.slotMu c)) ∧
    (c.size = 0 → s.flag R.SLOT_STATUS_CHECK_BUSY = false → s.flag R.SLOT_STATUS_COMMIT_PEND = false → ∃ u : State,
      exec .slotCtrlCopy s = .next u ∧ exec (.slotCopy c) s = .next (u.reply c .ok []) ∧ u.flag R.SLOT_STATUS_COPY_BUSY = true) ∧
    (c.size = 4 → c.num 1 1 = 0 → c.num 2 2 < 1024 → s.flag R.SLOT_STATUS_CHECK_BUSY = false → s.flag R.SLOT_STATUS_COMMIT_PEND = false →
      s.slot.job = none →
      (n = 0 → s.flag R.SLOT_STATUS_COPY_BUSY = false → ∃ u : State, exec (.slotCommit c) s = .next u ∧ u.mem = s.mem ∧
        u.flag R.SLOT_STATUS_CHECK_BUSY = true ∧ u.slot.checkAt = some s.now ∧ u.slot.job = some c ∧ u.slot.answered = false) ∧
      (n = 0 → s.flag R.SLOT_STATUS_COPY_BUSY = true → ∃ u : State, exec (.slotCommit c) s = .next u ∧ u.slot.commitWaits = true ∧
        u.slot.job = some c ∧ u.slot.answered = false) ∧
      (∀ w, w = (((c.num 2 2 : Int) - 1 - s.frameNo s.now) % 1024).toNat → n = 1 → s.slotCheck = none →
        (512 ≤ w → exec (.slotCommit c) s = .next ((s.accept 1 c).complete c .timeout [])) ∧
        (1 ≤ w → w < 512 → ∃ u : State, exec (.slotCommit c) s = .next u ∧ u.slot.job = some c ∧ u.slot.answered = true ∧
          u.slot.inFrame = some (s.frameNo s.now + w) ∧ u.mem = s.mem))) ∧
    (c.size = 0 → s.flag R.SLOT_STATUS_CHECK_BUSY = true ∨ (∀ b, s.slot.swapAt = some b → s.now + 24576 ≤ b) → ∃ u : State,
      exec .slotCtrlCancel s = .next u ∧ exec (.slotCancel c) s = .next (u.reply c .ok [])) ∧
    (c.size = 8 → c.num 6 2 = 0 → c.num 0 4 < frameCycles → c.num 4 2 < 8192 → wrote [(R.FRAME_CFG, c.num 0 4), (R.TA_CFG, c.num 4 2)] (.frameConfig c)) ∧
    -- device time
    (c.size = 12 → c.num 6 4 < 1000000000 → s.carriersActive = false → ∃ u : State, exec (.timeSet c) s = .next (u.reply c .ok []) ∧
      u.tm.stepAt = some (s.tm.stepAt.getD s.alignEdge) ∧ u.get R.TU_SET0_SEC_HI = c.num 0 2 ∧ u.get R.TU_SET1_SEC_LO = c.num 2 4 ∧
      u.get R.TU_SET2_NS = c.num 6 4 ∧ u.get R.TU_SET3_FRAC = c.num 10 2 ∧ u.mem = s.mem ∧ u.now = s.now) ∧
    (c.size = 0 → exec (.timeGet c) s = .next (s.reply c .ok (timeBytes s.time ++ s.word4 R.TU_STATUS ++ s.word4 (R.SRV_ERR 0) ++
      s.word4 (R.SRV_ERR 1)))) ∧
    (c.size = 12 → c.num 5 1 = 0 → c.num 10 2 = 0 → n ≤ 1 → cs ≤ 1 → (n = 0 → cs = 0) → c.byte 2 ≤ 100 → c.byte 3 < 32 → c.byte 4 < 32 → wrote
      [(R.SRV_HOLD n, wordOf [(R.SRV_HOLD_LOCK_THR n, c.num 6 2), (R.SRV_HOLD_HOLD_TO n, c.num 8 2)]),
       (R.SRV_CFG n, wordOf [(R.SRV_CFG_SRC n, cs), (R.SRV_CFG_PULL_MAX n, c.byte 2), (R.SRV_CFG_KI n, c.byte 3), (R.SRV_CFG_KP n, c.byte 4)])]
      (.servoConfig c)) ∧
    (c.size = 8 → c.num 5 3 = 0 → n ≤ 1 → cs ≤ 1 → c.byte 2 ≤ 2 → c.byte 3 ≤ 3 → c.byte 4 < 8 → wrote
      [(R.SE_CFG, c.byte 4), (R.TU_CTRL, wordOf [(R.TU_CTRL_SEL, n), (R.TU_CTRL_AUTO_SEL, cs), (R.TU_CTRL_SYNCE_MODE, c.byte 2),
        (R.TU_CTRL_KSE, c.byte 3)])] (.timeSelect c)) ∧
    (c.size = 12 → 1 ≤ bits (c.num 0 4) 15 8 → bits (c.num 0 4) 15 8 ≤ 200 → wrote
      [(R.PPS_OUT_CFG, c.num 0 4), (R.PPS_OUT_OFS, c.num 4 4), (R.PPS_IN_OFS, c.num 8 4)] (.ppsConfig c)) ∧
    -- power, temperature and the Lark
    (c.size = 12 → c.num 3 1 = 0 → s.stateCheck n cs (c.byte 2) = .accepted → s.pw.move = none →
      (n = s.pwrState → n ≠ 1 → exec (.stateSet c) s = .next ((s.accept 2 c).complete c .ok (beBytes 1 s.pwrState ++ noWake))) ∧
      (n < 2 → s.pwrState < 2 → n ≠ s.pwrState → ∃ (u : State) (m : PwrMove), exec (.stateSet c) s = .next u ∧ u.pw.move = some m ∧ m.target = n ∧
        m.source = s.pwrState ∧ m.cmd = some c ∧ m.gateAt = s.now + 24576 ∧ m.gated = false ∧ u.flag R.PWR_STATUS_TRANS = true ∧
        u.pwrState = s.pwrState ∧ u.mem = s.mem) ∧
      (2 ≤ n → n ≠ s.pwrState → ∃ (u : State) (m : PwrMove) (q : Nat), exec (.stateSet c) s = .next u ∧ u.pw.move = some m ∧ m.target = n ∧
        m.cmd = some c ∧ m.quietAt = some q ∧ s.now ≤ q ∧ u.pwrState = 2) ∧
      (n < 2 → s.pwrState = 2 → ∃ u : State, exec (.stateSet c) s = .next u ∧ u.pwrState = n ∧ u.pa.seqFrom = s.now ∧
        u.pw.qgate = (if n = 1 then cs else 0) ∧ u.pw.chgate = (if n = 1 then c.num 4 8 else 0))) ∧
    (c.size = 0 → exec (.stateGet c) s = .next ({ s with free := s.free + 1 }.reply c .ok (beBytes 1 s.pwrState ++ beBytes 1 s.pw.qgate ++
      beBytes 1 s.pointsNow ++ beBytes 1 0 ++ beBytes 8 s.pw.chgate ++ beBytes 4 s.freeVal))) ∧
    (c.size = 6 → c.num 3 1 = 0 → thermBad c = false → n ≤ s.get R.THERM_CFG_SHUT_C → wrote
      [(R.THERM_CFG, s.wordWith R.THERM_CFG [(R.THERM_CFG_SHUT_C, n), (R.THERM_CFG_WARN_C, cs), (R.THERM_CFG_THROTTLE_C, c.byte 2)]),
       (R.THERM_THR, s.wordWith R.THERM_THR [(R.THERM_THR_ORDER, c.num 4 2)])] (.thermConfig c)) ∧
    (c.size = 0 → exec (.thermRead c) s = .next (s.reply c .ok ((List.range 24).flatMap fun k => beInt 2 (s.getS (R.TEMP_TEMP k)) ++
      beBytes 1 (s.get (R.TEMP_STALE k))))) ∧
    (c.size = 12 → c.num 1 3 = 0 → n < 16 → bits (c.num 8 4) 31 28 ≤ 4 → wrote
      [(R.LK_RULE_COND n, c.num 4 4), (R.LK_RULE_ACTION n, c.num 8 4)] (.larkRule c))

/-- CASCADE_DISCOVER, DA_ASSIGN, CASCADE_MAP, TREE_PLAN, TREE_COMMIT, CASCADE_STATUS, HG_CONTROL (R271 to R278), CAPTURE, CAPTURE_ABORT,
PLAYBACK (R144, R146), KERNEL_MODE, KERNEL_LOAD, KERNEL_START, KERNEL_HALT, KERNEL_DOORBELL and KERNEL_STATUS (R432 to R434, R467). The bytes of a
DA_ASSIGN frame and of a map in CSTORE are the model's layouts (log entry 28). -/
def Obligations.CascadeCaptureAndKernelCommands : Prop :=
  ∀ (c : Cmd) (s : State),
    let n := c.byte 0
    let cs := c.byte 1
    let wrote := fun (l : List (Nat × Nat)) (k : Instr) => (s.writes l).2 = none → exec k s = .next ((s.writes l).1.reply c .ok [])
    -- the cascade
    (∀ l, c.size = 0 → s.worker = false → ∃ u : State, exec (.cascadeDiscover c l) s = .next u ∧
      u.casc.graph.length + u.casc.conflict.length = (s.ownLinks ++ l).length ∧ u.casc.map = s.casc.map ∧ u.mem = s.mem) ∧
    (∀ p, p = c.byte 9 → c.size = 12 → c.num 10 2 = 0 → c.byte 8 < 64 → p < 4 → s.hgState p = hgUntimed ∨ s.hgState p = hgTimed →
      s.portRole p ≠ 1 → s.portRole p ≠ 2 → s.routeOf (bits (s.capPeer p) 223 216) = none →
      exec (.daAssign c) s = .next ({ s with
        fe := { s.fe with told := setBit s.fe.told p false }
        out := s.out ++ [Output.side p 7 0xFE s.ownDa (fragOf 0 1) (beBytes 8 (c.num 0 8) ++ beBytes 1 (c.byte 8) ++ beBytes 3 0)] }.reply c .ok [])) ∧
    (c.size = 4 + 12 * n → c.num 1 3 = 0 → (∀ i, i < n → c.num (13 + 12 * i) 3 = 0 ∧ c.byte (12 + 12 * i) < 64) → ∃ u : State,
      exec (.cascadeMap c) s = .next (u.reply c .ok []) ∧ u.bytes (cstore + 0x159000) c.size = c.payload ∧
      u.casc.map = some ((List.range n).map fun i => (c.num (4 + 12 * i) 8, c.byte (12 + 12 * i))) ∧
      ∀ a, a < cstore + 0x159000 ∨ cstore + 0x159000 + c.size ≤ a → u.byte a = s.byte a) ∧
    (∀ b, b = 1 - s.planAct → c.size = 44 → c.num 1 3 = 0 → n ≤ 1 →
      (n = 0 → (R.PLAN_A_TREE_D b).of (BitVec.ofNat 32 (c.num 4 4)) = (R.PLAN_A_TREE_D s.planAct).of (s.reg (R.PLAN_A s.planAct))) → wrote
      ([(R.PLAN_A b, c.num 4 4), (R.PLAN_B b, c.num 8 4)] ++ (List.range 8).map fun w => (R.ROUTE b w, c.num (12 + 4 * w) 4)) (.treePlan c)) ∧
    (∀ f k, f = c.num 0 2 → k = s.frameNo s.now + ((f + 1024 - s.sfn) % 1024 : Nat) → c.size = 4 → c.num 2 2 = 0 → f < 1024 → s.planCheck f = 0 →
      ∃ u : State, exec (.treeCommit c) s = .next u ∧ u.flag R.CASC_STATUS_COMMIT_PEND = true ∧ u.planAct = s.planAct ∧ u.mem = s.mem ∧
        u.casc = { s.casc with swap := some { frame := k.toNat, at_ := (s.frameStart k).toNat, cmd := some c } }) ∧
    (c.size = 0 → exec (.cascadeStatus c) s = .next (s.reply c .ok (s.word4 R.CASC_STATUS ++ (List.range 4).flatMap fun p => s.word4 (R.HG_STATUS p)))) ∧
    (∀ w, w = c.num 4 4 → c.size = 12 → c.num 1 3 = 0 → n < 4 → 1 ≤ bits w 23 19 → bits w 23 19 ≤ 24 → bits w 13 12 ≠ 3 → bits w 17 16 ≠ 3 →
      c.num 8 4 < 2 ^ 24 → wrote [(R.HG_RETIRE n, c.num 8 4), (R.HG_CTRL n, w)] (.hgControl c)) ∧
    -- capture and playback
    (∀ b l, l = [(R.CAP_ADDR n, c.num 4 4), (R.CAP_LEN n, c.num 8 4), (R.CAP_CFG n, c.num 12 4), (R.CAP_AT n, c.num 16 4)] →
      b = (s.writes l).1.put (R.CAP_CTRL_FRAME n) (c.num 20 4) → c.size = 24 → c.num 1 3 = 0 → n < 8 → c.num 20 4 < 1024 → s.capState n ≠ 1 →
      s.capState n ≠ 2 → (s.writes l).2 = none → s.dfe.caps.length = 8 → (n % 2 = 0 → b.flag (R.CAP_CFG_PAIR n) = false) →
      (n % 2 = 1 → b.flag (R.CAP_CFG_PAIR (n - 1)) = false) → b.capOk n = true → ∃ u : State, exec (.capture c) s = .next u ∧ u.capState n = 1 ∧
        (u.cap n).cmd = some c ∧ (u.cap n).startAt = none ∧ (u.cap n).goFrame = b.frameNo b.now ∧ u.get (R.CAP_COUNT_COUNT n) = 0 ∧
        u.get (R.CAP_CTRL_FRAME n) = c.num 20 4 ∧ u.mem = b.mem) ∧
    (c.size = 4 → c.num 1 3 = 0 → n < 8 → ∃ u : State, exec (.capAbortWrite n) s = .next u ∧ exec (.captureAbort c) s = .next (u.reply c .ok [])) ∧
    (c.size = 16 → c.num 1 3 = 0 →
      (n = 0 → ∃ u : State, exec .playbackStop s = .next u ∧ exec (.playback c) s = .next (u.reply c .ok [])) ∧
      (∀ b l, l = [(R.PB_ADDR, c.num 4 4), (R.PB_LEN, c.num 8 4), (R.PB_CFG, c.num 12 4)] → b = (s.writes l).1 → n = 1 →
        s.flag R.PB_CTRL_RUN = false → (s.writes l).2 = none → b.partOverlap = false → ∃ u : State, exec .playbackStart b = .next u ∧
          exec (.playback c) s = .next (u.reply c .ok []) ∧ u.dfe.pbArm = true ∧ u.dfe.pbStop = false)) ∧
    -- kernels
    (∀ m, m = c.num 4 4 → c.size = 8 → c.num 2 2 = 0 → n < 8 → cs ≤ 1 → (cs = 1 → 0x3000000 ≤ m ∧ m + 0x10000 ≤ 0x4000000) → s.fdState n = fdHalted →
      ∃ u : State, exec (.fdOwnerWrite 0 n (decide (cs = 1)) m) s = .next u ∧ exec (.kernelMode c) s = .next (u.reply c .ok []) ∧
        u.get (R.FD_OWNER_MODE n) = cs) ∧
    (∀ a len o, a = c.num 4 4 → len = c.num 8 4 → o = Config.signed (s.readClean a len).1 → c.size = 12 → c.num 1 3 = 0 → n ≠ 0 →
      0x3000000 ≤ a → a + len ≤ 0x4000000 → o.kind = 1 → o.slot ≤ 2 → s.verifies (3 + o.slot) (s.readClean a len).1 = true →
      c.session < 16 → s.fd.length = 8 → kernelFits o = true →
      (∀ k ∈ bitList 8 n, s.get (R.FD_OWNER_MODE k) = 1 ∧ ((s.flior k).owned = true → s.coreOwner k = c.session) ∧ s.fdState k = fdHalted ∧
        bit o.cores k = true) → ∃ u : State, exec (.kernelLoad c) s = .next u ∧
      ∀ k ∈ bitList 8 n, (u.flior k).owned = true ∧ (u.flior k).kernel = some o.hash ∧ u.get (R.FD_OWNER_SESSION k) = c.session ∧
        u.get (R.FD_ENTRY_ENTRY k) = o.entry % 2 ^ 12 ∧ u.fdState k = fdHalted) ∧
    (c.size = 4 → c.num 2 2 = 0 → n ≠ 0 → cs ≤ 1 → (∀ k ∈ bitList 8 n, s.mayCore c k = true ∧ s.fdState k = fdHalted) → ∃ u : State,
      exec (.kernelStart c) s = .next (u.reply c .ok []) ∧ u.mem = s.mem ∧ ∀ k ∈ bitList 8 n, u.fdState k = fdRunning ∧
        u.get (R.FD_PC_PC k) = (if cs = 1 then s.get (R.FD_PC_PC k) else s.get (R.FD_ENTRY_ENTRY k))) ∧
    (c.size = 4 → c.num 1 3 = 0 → n ≠ 0 → (∀ k ∈ bitList 8 n, s.mayCore c k = true) → ∃ u : State,
      exec (.kernelHalt c) s = .next (u.reply c .ok []) ∧ u.mem = s.mem ∧
      (∀ k ∈ bitList 8 n, s.fdState k = fdWaiting ∨ (s.fdState k = fdRunning ∧ (s.flior k).loads = []) → u.fdState k = fdHalted) ∧
      ∀ k, k < 8 → k ∉ bitList 8 n → u.fdState k = s.fdState k) ∧
    (c.size = 4 → c.num 1 1 = 0 → n < 8 → s.mayCore c n = true → ∃ u : State, exec (.fdDbWrite n (c.num 2 2)) s = .next u ∧
      exec (.kernelDoorbell c) s = .next (u.reply c .ok [])) ∧
    (c.size = 4 → c.num 1 3 = 0 → n < 8 → exec (.kernelStatus c) s = .next (s.reply c .ok (s.word4 (R.FD_STATUS n) ++ s.word4 (R.FD_PC n) ++
      s.word4 (R.FD_OWNER n) ++ s.word4 (R.FD_FAULT_ADDR n))))
end

