-- ==== Sys2Proof/Laws/Maps.lean ====
section
/-! SUPPORT. The laws of the sorted sparse maps that hold registers and memory: read after write, and the canonical form. -/

namespace Sys2Proof.Machine

/-! ### Read after write -/

theorem look_insertKey_same {α : Type} (l : List (Nat × α)) (a : Nat) (v : α) : look (insertKey l a v) a = some v := by
  induction l with
  | nil => simp [insertKey, look]
  | cons p t ih =>
    obtain ⟨b, w⟩ := p
    simp only [insertKey]
    split
    · simp [look]
    · split
      · simp [look]
      · next h => simp [look, h, ih]

theorem look_insertKey_other {α : Type} (l : List (Nat × α)) (a b : Nat) (v : α) (h : b ≠ a) :
    look (insertKey l a v) b = look l b := by
  induction l with
  | nil => simp [insertKey, look, h]
  | cons p t ih =>
    obtain ⟨c, w⟩ := p
    simp only [insertKey]
    split
    · simp [look, h]
    · split
      · next e => subst e; simp [look, h]
      · simp [look, ih]

theorem look_eraseKey_same {α : Type} (l : List (Nat × α)) (a : Nat) : look (eraseKey l a) a = none := by
  induction l with
  | nil => rfl
  | cons p t ih =>
    obtain ⟨b, w⟩ := p
    simp only [eraseKey]
    split
    · exact ih
    · next h => simp [look, h, ih]

theorem look_eraseKey_other {α : Type} (l : List (Nat × α)) (a b : Nat) (h : b ≠ a) : look (eraseKey l a) b = look l b := by
  induction l with
  | nil => rfl
  | cons p t ih =>
    obtain ⟨c, w⟩ := p
    simp only [eraseKey]
    split
    · next e => subst e; simp [look, h, ih]
    · simp [look, ih]

/-- A register reads what was last written to it. -/
@[simp] theorem RegFile.get_set_same (f : RegFile) (a : Nat) (v : Word) : (f.set a v).get a = v := by
  unfold RegFile.set RegFile.get
  split
  · next h => simp [look_eraseKey_same, h]
  · simp [look_insertKey_same]

/-- A write of one register leaves every other. -/
theorem RegFile.get_set_other (f : RegFile) (a b : Nat) (v : Word) (h : b ≠ a) : (f.set a v).get b = f.get b := by
  unfold RegFile.set RegFile.get
  split
  · simp [look_eraseKey_other _ _ _ h]
  · simp [look_insertKey_other _ _ _ _ h]

/-- A byte reads what was last written to it. -/
@[simp] theorem Memory.get_set_same (m : Memory) (a : Nat) (v : Byte) : (m.set a v).get a = v := by
  unfold Memory.set Memory.get
  split
  · next h => simp [look_eraseKey_same, h]
  · simp [look_insertKey_same]

/-- A write of one byte leaves every other. -/
theorem Memory.get_set_other (m : Memory) (a b : Nat) (v : Byte) (h : b ≠ a) : (m.set a v).get b = m.get b := by
  unfold Memory.set Memory.get
  split
  · simp [look_eraseKey_other _ _ _ h]
  · simp [look_insertKey_other _ _ _ _ h]

/-- A stretch of bytes leaves every byte outside it. -/
theorem Memory.get_setList_other (m : Memory) (a b : Nat) (l : List Byte) (h : b < a ∨ a + l.length ≤ b) :
    (m.setList a l).get b = m.get b := by
  induction l generalizing m a with
  | nil => rfl
  | cons x t ih =>
    simp only [Memory.setList, List.length_cons] at *
    rw [ih _ _ (by omega), Memory.get_set_other _ _ _ _ (by omega)]

/-- A stretch of bytes reads back. -/
theorem Memory.get_setList (m : Memory) (a i : Nat) (l : List Byte) (h : i < l.length) :
    (m.setList a l).get (a + i) = l.getD i 0 := by
  induction l generalizing m a i with
  | nil => simp at h
  | cons x t ih =>
    simp only [Memory.setList, List.length_cons] at *
    cases i with
    | zero => simp [Memory.get_setList_other _ (a + 1) a t (by omega)]
    | succ j => rw [show a + (j + 1) = a + 1 + j by omega, ih _ _ _ (by omega)]; simp

/-! ### The canonical form -/

theorem keysRise_tail {α : Type} {p : Nat × α} {t : List (Nat × α)} (h : keysRise (p :: t) = true) : keysRise t = true := by
  cases t with
  | nil => rfl
  | cons q u => simp only [keysRise, Bool.and_eq_true] at h; exact h.2

/-- The keys of a rising list lie above a bound. -/
def keysAbove {α : Type} (a : Nat) (l : List (Nat × α)) : Prop := ∀ p ∈ l, a < p.1

theorem keysRise_cons {α : Type} (p : Nat × α) (t : List (Nat × α)) :
    keysRise (p :: t) = true ↔ keysAbove p.1 t ∧ keysRise t = true := by
  induction t generalizing p with
  | nil => simp [keysRise, keysAbove]
  | cons q u ih =>
    simp only [keysRise, Bool.and_eq_true, decide_eq_true_eq]
    constructor
    · rintro ⟨h, r⟩
      refine ⟨fun x hx => ?_, r⟩
      rcases List.mem_cons.1 hx with e | hx
      · rw [e]; exact h
      · exact Nat.lt_trans h (((ih q).1 r).1 x hx)
    · rintro ⟨h, r⟩
      exact ⟨h q (by simp), r⟩

theorem keysAbove_insertKey {α : Type} {a b : Nat} {l : List (Nat × α)} (v : α) (h : keysAbove a l) (hb : a < b) :
    keysAbove a (insertKey l b v) := by
  induction l with
  | nil => intro p hp; simp [insertKey] at hp; simpa [hp] using hb
  | cons q t ih =>
    obtain ⟨c, w⟩ := q
    have ht : keysAbove a t := fun p hp => h p (by simp [hp])
    have hc : a < c := h (c, w) (by simp)
    simp only [insertKey]
    split
    · intro p hp; simp only [List.mem_cons] at hp
      rcases hp with e | e | e
      · simpa [e] using hb
      · simpa [e] using hc
      · exact ht p e
    · split
      · intro p hp; simp only [List.mem_cons] at hp
        rcases hp with e | e
        · simpa [e] using hb
        · exact ht p e
      · intro p hp; simp only [List.mem_cons] at hp
        rcases hp with e | e
        · simpa [e] using hc
        · exact ih ht p e

theorem keysRise_insertKey {α : Type} (l : List (Nat × α)) (a : Nat) (v : α) (h : keysRise l = true) :
    keysRise (insertKey l a v) = true := by
  induction l with
  | nil => rfl
  | cons q t ih =>
    obtain ⟨c, w⟩ := q
    have hq := (keysRise_cons _ _).1 h
    simp only [insertKey]
    split
    · next hlt => exact (keysRise_cons _ _).2 ⟨fun p hp => by
        simp only [List.mem_cons] at hp
        rcases hp with e | e
        · simpa [e] using hlt
        · exact Nat.lt_trans hlt (hq.1 p e), h⟩
    · split
      · next e => subst e; exact (keysRise_cons _ _).2 ⟨hq.1, hq.2⟩
      · exact (keysRise_cons _ _).2 ⟨keysAbove_insertKey v hq.1 (by simp only; omega), ih hq.2⟩

theorem mem_eraseKey {α : Type} {l : List (Nat × α)} {a : Nat} {p : Nat × α} (h : p ∈ eraseKey l a) : p ∈ l := by
  induction l with
  | nil => simp [eraseKey] at h
  | cons q t ih =>
    obtain ⟨c, w⟩ := q
    simp only [eraseKey] at h
    split at h
    · exact List.mem_cons_of_mem _ (ih h)
    · rcases List.mem_cons.1 h with e | e
      · simp [e]
      · exact List.mem_cons_of_mem _ (ih e)

theorem mem_insertKey {α : Type} {l : List (Nat × α)} {a : Nat} {v : α} {p : Nat × α} (h : p ∈ insertKey l a v) :
    p = (a, v) ∨ p ∈ l := by
  induction l with
  | nil => simp [insertKey] at h; simp [h]
  | cons q t ih =>
    obtain ⟨c, w⟩ := q
    simp only [insertKey] at h
    split at h
    · rcases List.mem_cons.1 h with e | e <;> simp [e]
    · split at h
      · rcases List.mem_cons.1 h with e | e <;> simp [e]
      · rcases List.mem_cons.1 h with e | e
        · simp [e]
        · rcases ih e with e | e <;> simp [e]

theorem keysRise_eraseKey {α : Type} (l : List (Nat × α)) (a : Nat) (h : keysRise l = true) : keysRise (eraseKey l a) = true := by
  induction l with
  | nil => rfl
  | cons q t ih =>
    obtain ⟨c, w⟩ := q
    have hq := (keysRise_cons _ _).1 h
    simp only [eraseKey]
    split
    · exact ih hq.2
    · exact (keysRise_cons _ _).2 ⟨fun p hp => hq.1 p (mem_eraseKey hp), ih hq.2⟩

/-- Dropping entries keeps the keys rising. -/
theorem keysRise_filter {α : Type} (l : List (Nat × α)) (f : Nat × α → Bool) (h : keysRise l = true) : keysRise (l.filter f) = true := by
  induction l with
  | nil => rfl
  | cons q t ih =>
    have hq := (keysRise_cons _ _).1 h
    simp only [List.filter_cons]
    split
    · exact (keysRise_cons _ _).2 ⟨fun p hp => hq.1 p (List.mem_of_mem_filter hp), ih hq.2⟩
    · exact ih hq.2

/-- A register write keeps the canonical form. -/
theorem RegFile.wf_set (f : RegFile) (a : Nat) (v : Word) (h : f.wf = true) : (f.set a v).wf = true := by
  unfold RegFile.wf RegFile.set at *
  simp only [Bool.and_eq_true, List.all_eq_true] at h ⊢
  split
  · exact ⟨keysRise_eraseKey _ _ h.1, fun p hp => h.2 p (mem_eraseKey hp)⟩
  · next hv =>
    refine ⟨keysRise_insertKey _ _ _ h.1, fun p hp => ?_⟩
    rcases mem_insertKey hp with e | e
    · simpa [e] using hv
    · exact h.2 p e

/-- Dropping registers keeps the canonical form. -/
theorem RegFile.wf_filter (f : RegFile) (g : Nat × Word → Bool) (h : f.wf = true) : RegFile.wf (f.filter g) = true := by
  unfold RegFile.wf at *
  simp only [Bool.and_eq_true, List.all_eq_true] at h ⊢
  exact ⟨keysRise_filter _ _ h.1, fun p hp => h.2 p (List.mem_of_mem_filter hp)⟩

/-- A byte write keeps the canonical form. -/
theorem Memory.wf_set (m : Memory) (a : Nat) (v : Byte) (h : m.wf = true) : (m.set a v).wf = true := by
  unfold Memory.wf Memory.set at *
  simp only [Bool.and_eq_true, List.all_eq_true] at h ⊢
  split
  · exact ⟨keysRise_eraseKey _ _ h.1, fun p hp => h.2 p (mem_eraseKey hp)⟩
  · next hv =>
    refine ⟨keysRise_insertKey _ _ _ h.1, fun p hp => ?_⟩
    rcases mem_insertKey hp with e | e
    · simpa [e] using hv
    · exact h.2 p e

/-- A stretch of bytes keeps the canonical form. -/
theorem Memory.wf_setList (m : Memory) (a : Nat) (l : List Byte) (h : m.wf = true) : (m.setList a l).wf = true := by
  induction l generalizing m a with
  | nil => exact h
  | cons x t ih => exact ih _ _ (Memory.wf_set _ _ _ h)

/-- Dropping bytes keeps the canonical form. -/
theorem Memory.wf_filter (m : Memory) (g : Nat × Byte → Bool) (h : m.wf = true) : Memory.wf (m.filter g) = true := by
  unfold Memory.wf at *
  simp only [Bool.and_eq_true, List.all_eq_true] at h ⊢
  exact ⟨keysRise_filter _ _ h.1, fun p hp => h.2 p (List.mem_of_mem_filter hp)⟩

end Sys2Proof.Machine
end

