-- ==== Sys2Proof/Laws/Fields.lean ====
section
/-! SUPPORT. The laws of register fields: what a field reads after a field is written. -/

namespace Sys2Proof.Machine

theorem insBits_testBit (n lo w v i : Nat) :
    (insBits n lo w v).testBit i = if lo ≤ i ∧ i < lo + w then v.testBit (i - lo) else n.testBit i := by
  have e : insBits n lo w v = (n >>> (lo + w)) <<< (lo + w) ||| (((v % 2 ^ w) <<< lo) ||| n % 2 ^ lo) := by
    have h1 : n = (n >>> (lo + w)) * 2 ^ (lo + w) + (n >>> lo) % 2 ^ w * 2 ^ lo + n % 2 ^ lo := by
      have a := Nat.div_add_mod n (2 ^ lo)
      have b := Nat.div_add_mod (n / 2 ^ lo) (2 ^ w)
      simp only [Nat.shiftRight_eq_div_pow]
      rw [Nat.pow_add, ← Nat.div_div_eq_div_mul]
      calc n = 2 ^ lo * (n / 2 ^ lo) + n % 2 ^ lo := a.symm
        _ = 2 ^ lo * (2 ^ w * (n / 2 ^ lo / 2 ^ w) + n / 2 ^ lo % 2 ^ w) + n % 2 ^ lo := by rw [b]
        _ = _ := by ring
    have h2 : insBits n lo w v = (n >>> (lo + w)) * 2 ^ (lo + w) + (v % 2 ^ w * 2 ^ lo + n % 2 ^ lo) := by
      unfold insBits
      conv_lhs => lhs; lhs; rw [h1]
      omega
    rw [h2]
    have l1 : n % 2 ^ lo < 2 ^ lo := Nat.mod_lt _ (Nat.two_pow_pos _)
    have l2 : v % 2 ^ w < 2 ^ w := Nat.mod_lt _ (Nat.two_pow_pos _)
    have l3 : v % 2 ^ w * 2 ^ lo + n % 2 ^ lo < 2 ^ (lo + w) := by
      rw [Nat.pow_add]
      have : v % 2 ^ w * 2 ^ lo + 2 ^ lo ≤ 2 ^ w * 2 ^ lo := by
        rw [← Nat.succ_mul]; exact Nat.mul_le_mul_right _ l2
      rw [Nat.mul_comm (2 ^ lo)]
      omega
    rw [← Nat.shiftLeft_eq, ← Nat.shiftLeft_eq, Nat.shiftLeft_add_eq_or_of_lt l1] at *
    rw [Nat.shiftLeft_add_eq_or_of_lt l3]
  rw [e]
  simp only [Nat.testBit_or, Nat.testBit_shiftLeft, Nat.testBit_shiftRight, Nat.testBit_mod_two_pow]
  by_cases h : lo ≤ i
  · by_cases h' : i < lo + w
    · have : ¬ (lo + w ≤ i) := by omega
      have : ¬ (i < lo) := by omega
      have : i - lo < w := by omega
      simp [*]
    · have a : lo + w ≤ i := by omega
      have b : ¬ (i - lo < w) := by omega
      have c : ¬ (i < lo) := by omega
      have d : lo + w + (i - (lo + w)) = i := by omega
      simp [*]
  · have a : ¬ (lo + w ≤ i) := by omega
    have b : i < lo := by omega
    simp [*]

theorem insBits_lt (n lo w v : Nat) (hn : n < 2 ^ 32) (h : lo + w ≤ 32) : insBits n lo w v < 2 ^ 32 := by
  apply Nat.lt_pow_two_of_testBit
  intro i hi
  rw [insBits_testBit]
  have : ¬ (lo ≤ i ∧ i < lo + w) := by omega
  simp only [this, if_false]
  exact Nat.testBit_lt_two_pow (Nat.lt_of_lt_of_le hn (Nat.pow_le_pow_right (by omega) hi))

theorem Field.into_toNat (f : Field) (w : Word) (v : Nat) (h : f.lo + f.width ≤ 32) :
    (f.into w v).toNat = insBits w.toNat f.lo f.width v := by
  unfold Field.into
  rw [BitVec.toNat_ofNat, Nat.mod_eq_of_lt (insBits_lt _ _ _ _ w.isLt h)]

/-- A field reads what was written to it, cut to its width. -/
theorem Field.of_into (f : Field) (w : Word) (v : Nat) (h : f.lo + f.width ≤ 32) : f.of (f.into w v) = v % 2 ^ f.width := by
  unfold Field.of
  rw [Field.into_toNat _ _ _ h]
  apply Nat.eq_of_testBit_eq
  intro i
  simp only [Nat.testBit_mod_two_pow, Nat.testBit_shiftRight, insBits_testBit]
  by_cases hi : i < f.width
  · have : f.lo ≤ f.lo + i ∧ f.lo + i < f.lo + f.width := by omega
    simp [hi, this]
  · simp [hi]

/-- A field leaves a disjoint field of its word. -/
theorem Field.of_into_disjoint (f g : Field) (w : Word) (v : Nat) (h : f.lo + f.width ≤ 32)
    (d : g.lo + g.width ≤ f.lo ∨ f.lo + f.width ≤ g.lo) : g.of (f.into w v) = g.of w := by
  unfold Field.of
  rw [Field.into_toNat _ _ _ h]
  apply Nat.eq_of_testBit_eq
  intro i
  simp only [Nat.testBit_mod_two_pow, Nat.testBit_shiftRight, insBits_testBit]
  by_cases hi : i < g.width
  · have : ¬ (f.lo ≤ g.lo + i ∧ g.lo + i < f.lo + f.width) := by omega
    simp [this]
  · simp [hi]

/-! ### Registers of a state -/

@[simp] theorem State.reg_setReg_same (s : State) (a : Nat) (v : Word) : (s.setReg a v).reg a = v := RegFile.get_set_same _ _ _

theorem State.reg_setReg_other (s : State) (a b : Nat) (v : Word) (h : b ≠ a) : (s.setReg a v).reg b = s.reg b :=
  RegFile.get_set_other _ _ _ _ h

@[simp] theorem State.wrk_setWrk_same (s : State) (a : Nat) (v : Word) : (s.setWrk a v).wrk a = v := RegFile.get_set_same _ _ _

theorem State.wrk_setWrk_other (s : State) (a b : Nat) (v : Word) (h : b ≠ a) : (s.setWrk a v).wrk b = s.wrk b :=
  RegFile.get_set_other _ _ _ _ h

/-- A field reads what was put into it. -/
theorem State.get_put_same (s : State) (f : Field) (v : Nat) (h : f.lo + f.width ≤ 32) : (s.put f v).get f = v % 2 ^ f.width := by
  unfold State.get State.put
  rw [State.reg_setReg_same, Field.of_into _ _ _ h]

/-- A put leaves the fields of other registers. -/
theorem State.get_put_other (s : State) (f g : Field) (v : Nat) (h : g.addr ≠ f.addr) : (s.put f v).get g = s.get g := by
  unfold State.get State.put
  rw [State.reg_setReg_other _ _ _ _ h]

/-- A put leaves the disjoint fields of its own register. -/
theorem State.get_put_disjoint (s : State) (f g : Field) (v : Nat) (h : f.lo + f.width ≤ 32)
    (d : g.lo + g.width ≤ f.lo ∨ f.lo + f.width ≤ g.lo) : (s.put f v).get g = s.get g := by
  by_cases e : g.addr = f.addr
  · unfold State.get State.put
    rw [e, State.reg_setReg_same, Field.of_into_disjoint _ _ _ _ h d]
  · exact State.get_put_other _ _ _ _ e

/-- A put leaves every other register. -/
theorem State.reg_put_other (s : State) (f : Field) (a v : Nat) (h : a ≠ f.addr) : (s.put f v).reg a = s.reg a :=
  State.reg_setReg_other _ _ _ _ h

/-- A working copy reads what was put into it. -/
theorem State.wget_wput_same (s : State) (f : Field) (v : Nat) (h : f.lo + f.width ≤ 32) : (s.wput f v).wget f = v % 2 ^ f.width := by
  unfold State.wget State.wput
  rw [State.wrk_setWrk_same, Field.of_into _ _ _ h]

/-- Applying a shadowed register brings its working copy to the register (R22). -/
@[simp] theorem State.wrk_apply_same (s : State) (a : Nat) : (s.apply a).wrk a = s.reg a := State.wrk_setWrk_same _ _ _

theorem State.wrk_apply_other (s : State) (a b : Nat) (h : b ≠ a) : (s.apply a).wrk b = s.wrk b := State.wrk_setWrk_other _ _ _ _ h

end Sys2Proof.Machine
end

