-- ==== Sys2Proof/Laws/State.lean ====
section
/-! SUPPORT. One lemma per field per update of the state: what each update leaves, and what it writes. -/

namespace Sys2Proof.Machine

variable (s : State)

@[simp] theorem State.setReg_pending (a : Nat) (v : Word) : (s.setReg a v).pending = s.pending := rfl
@[simp] theorem State.setReg_work (a : Nat) (v : Word) : (s.setReg a v).work = s.work := rfl
@[simp] theorem State.setReg_mem (a : Nat) (v : Word) : (s.setReg a v).mem = s.mem := rfl
@[simp] theorem State.setReg_now (a : Nat) (v : Word) : (s.setReg a v).now = s.now := rfl
@[simp] theorem State.setReg_free (a : Nat) (v : Word) : (s.setReg a v).free = s.free := rfl
@[simp] theorem State.setReg_out (a : Nat) (v : Word) : (s.setReg a v).out = s.out := rfl
@[simp] theorem State.setReg_tm (a : Nat) (v : Word) : (s.setReg a v).tm = s.tm := rfl
@[simp] theorem State.setReg_fe (a : Nat) (v : Word) : (s.setReg a v).fe = s.fe := rfl
@[simp] theorem State.setReg_fm (a : Nat) (v : Word) : (s.setReg a v).fm = s.fm := rfl
@[simp] theorem State.setReg_chains (a : Nat) (v : Word) : (s.setReg a v).chains = s.chains := rfl
@[simp] theorem State.setReg_hold (a : Nat) (v : Word) : (s.setReg a v).hold = s.hold := rfl
@[simp] theorem State.setReg_lo (a : Nat) (v : Word) : (s.setReg a v).lo = s.lo := rfl
@[simp] theorem State.setReg_rfPend (a : Nat) (v : Word) : (s.setReg a v).rfPend = s.rfPend := rfl
@[simp] theorem State.setReg_f0Pend (a : Nat) (v : Word) : (s.setReg a v).f0Pend = s.f0Pend := rfl
@[simp] theorem State.setReg_dfe (a : Nat) (v : Word) : (s.setReg a v).dfe = s.dfe := rfl
@[simp] theorem State.setReg_pd (a : Nat) (v : Word) : (s.setReg a v).pd = s.pd := rfl
@[simp] theorem State.setReg_pdFresh (a : Nat) (v : Word) : (s.setReg a v).pdFresh = s.pdFresh := rfl
@[simp] theorem State.setReg_pdEcc (a : Nat) (v : Word) : (s.setReg a v).pdEcc = s.pdEcc := rfl
@[simp] theorem State.setReg_pdAdapt (a : Nat) (v : Word) : (s.setReg a v).pdAdapt = s.pdAdapt := rfl
@[simp] theorem State.setReg_slot (a : Nat) (v : Word) : (s.setReg a v).slot = s.slot := rfl
@[simp] theorem State.setReg_enJobs (a : Nat) (v : Word) : (s.setReg a v).enJobs = s.enJobs := rfl
@[simp] theorem State.setReg_prach (a : Nat) (v : Word) : (s.setReg a v).prach = s.prach := rfl
@[simp] theorem State.setReg_bf (a : Nat) (v : Word) : (s.setReg a v).bf = s.bf := rfl
@[simp] theorem State.setReg_hg (a : Nat) (v : Word) : (s.setReg a v).hg = s.hg := rfl
@[simp] theorem State.setReg_casc (a : Nat) (v : Word) : (s.setReg a v).casc = s.casc := rfl
@[simp] theorem State.setReg_hp (a : Nat) (v : Word) : (s.setReg a v).hp = s.hp := rfl
@[simp] theorem State.setReg_sp (a : Nat) (v : Word) : (s.setReg a v).sp = s.sp := rfl
@[simp] theorem State.setReg_pa (a : Nat) (v : Word) : (s.setReg a v).pa = s.pa := rfl
@[simp] theorem State.setReg_cal (a : Nat) (v : Word) : (s.setReg a v).cal = s.cal := rfl
@[simp] theorem State.setReg_fd (a : Nat) (v : Word) : (s.setReg a v).fd = s.fd := rfl
@[simp] theorem State.setReg_memx (a : Nat) (v : Word) : (s.setReg a v).memx = s.memx := rfl
@[simp] theorem State.setReg_fab (a : Nat) (v : Word) : (s.setReg a v).fab = s.fab := rfl
@[simp] theorem State.setReg_pw (a : Nat) (v : Word) : (s.setReg a v).pw = s.pw := rfl
@[simp] theorem State.setReg_th (a : Nat) (v : Word) : (s.setReg a v).th = s.th := rfl
@[simp] theorem State.setReg_boot (a : Nat) (v : Word) : (s.setReg a v).boot = s.boot := rfl
@[simp] theorem State.setReg_bound (a : Nat) (v : Word) : (s.setReg a v).bound = s.bound := rfl
@[simp] theorem State.setReg_sig (a : Nat) (v : Word) : (s.setReg a v).sig = s.sig := rfl

@[simp] theorem State.put_pending (f : Field) (v : Nat) : (s.put f v).pending = s.pending := rfl
@[simp] theorem State.put_work (f : Field) (v : Nat) : (s.put f v).work = s.work := rfl
@[simp] theorem State.put_mem (f : Field) (v : Nat) : (s.put f v).mem = s.mem := rfl
@[simp] theorem State.put_now (f : Field) (v : Nat) : (s.put f v).now = s.now := rfl
@[simp] theorem State.put_free (f : Field) (v : Nat) : (s.put f v).free = s.free := rfl
@[simp] theorem State.put_out (f : Field) (v : Nat) : (s.put f v).out = s.out := rfl
@[simp] theorem State.put_tm (f : Field) (v : Nat) : (s.put f v).tm = s.tm := rfl
@[simp] theorem State.put_fe (f : Field) (v : Nat) : (s.put f v).fe = s.fe := rfl
@[simp] theorem State.put_fm (f : Field) (v : Nat) : (s.put f v).fm = s.fm := rfl
@[simp] theorem State.put_chains (f : Field) (v : Nat) : (s.put f v).chains = s.chains := rfl
@[simp] theorem State.put_hold (f : Field) (v : Nat) : (s.put f v).hold = s.hold := rfl
@[simp] theorem State.put_lo (f : Field) (v : Nat) : (s.put f v).lo = s.lo := rfl
@[simp] theorem State.put_rfPend (f : Field) (v : Nat) : (s.put f v).rfPend = s.rfPend := rfl
@[simp] theorem State.put_f0Pend (f : Field) (v : Nat) : (s.put f v).f0Pend = s.f0Pend := rfl
@[simp] theorem State.put_dfe (f : Field) (v : Nat) : (s.put f v).dfe = s.dfe := rfl
@[simp] theorem State.put_pd (f : Field) (v : Nat) : (s.put f v).pd = s.pd := rfl
@[simp] theorem State.put_pdFresh (f : Field) (v : Nat) : (s.put f v).pdFresh = s.pdFresh := rfl
@[simp] theorem State.put_pdEcc (f : Field) (v : Nat) : (s.put f v).pdEcc = s.pdEcc := rfl
@[simp] theorem State.put_pdAdapt (f : Field) (v : Nat) : (s.put f v).pdAdapt = s.pdAdapt := rfl
@[simp] theorem State.put_slot (f : Field) (v : Nat) : (s.put f v).slot = s.slot := rfl
@[simp] theorem State.put_enJobs (f : Field) (v : Nat) : (s.put f v).enJobs = s.enJobs := rfl
@[simp] theorem State.put_prach (f : Field) (v : Nat) : (s.put f v).prach = s.prach := rfl
@[simp] theorem State.put_bf (f : Field) (v : Nat) : (s.put f v).bf = s.bf := rfl
@[simp] theorem State.put_hg (f : Field) (v : Nat) : (s.put f v).hg = s.hg := rfl
@[simp] theorem State.put_casc (f : Field) (v : Nat) : (s.put f v).casc = s.casc := rfl
@[simp] theorem State.put_hp (f : Field) (v : Nat) : (s.put f v).hp = s.hp := rfl
@[simp] theorem State.put_sp (f : Field) (v : Nat) : (s.put f v).sp = s.sp := rfl
@[simp] theorem State.put_pa (f : Field) (v : Nat) : (s.put f v).pa = s.pa := rfl
@[simp] theorem State.put_cal (f : Field) (v : Nat) : (s.put f v).cal = s.cal := rfl
@[simp] theorem State.put_fd (f : Field) (v : Nat) : (s.put f v).fd = s.fd := rfl
@[simp] theorem State.put_memx (f : Field) (v : Nat) : (s.put f v).memx = s.memx := rfl
@[simp] theorem State.put_fab (f : Field) (v : Nat) : (s.put f v).fab = s.fab := rfl
@[simp] theorem State.put_pw (f : Field) (v : Nat) : (s.put f v).pw = s.pw := rfl
@[simp] theorem State.put_th (f : Field) (v : Nat) : (s.put f v).th = s.th := rfl
@[simp] theorem State.put_boot (f : Field) (v : Nat) : (s.put f v).boot = s.boot := rfl
@[simp] theorem State.put_bound (f : Field) (v : Nat) : (s.put f v).bound = s.bound := rfl
@[simp] theorem State.put_sig (f : Field) (v : Nat) : (s.put f v).sig = s.sig := rfl

@[simp] theorem State.emit_pending (o : Output) : (s.emit o).pending = s.pending := rfl
@[simp] theorem State.emit_regs (o : Output) : (s.emit o).regs = s.regs := rfl
@[simp] theorem State.emit_work (o : Output) : (s.emit o).work = s.work := rfl
@[simp] theorem State.emit_mem (o : Output) : (s.emit o).mem = s.mem := rfl
@[simp] theorem State.emit_now (o : Output) : (s.emit o).now = s.now := rfl
@[simp] theorem State.emit_free (o : Output) : (s.emit o).free = s.free := rfl
@[simp] theorem State.emit_tm (o : Output) : (s.emit o).tm = s.tm := rfl
@[simp] theorem State.emit_fe (o : Output) : (s.emit o).fe = s.fe := rfl
@[simp] theorem State.emit_fm (o : Output) : (s.emit o).fm = s.fm := rfl
@[simp] theorem State.emit_chains (o : Output) : (s.emit o).chains = s.chains := rfl
@[simp] theorem State.emit_hold (o : Output) : (s.emit o).hold = s.hold := rfl
@[simp] theorem State.emit_lo (o : Output) : (s.emit o).lo = s.lo := rfl
@[simp] theorem State.emit_rfPend (o : Output) : (s.emit o).rfPend = s.rfPend := rfl
@[simp] theorem State.emit_f0Pend (o : Output) : (s.emit o).f0Pend = s.f0Pend := rfl
@[simp] theorem State.emit_dfe (o : Output) : (s.emit o).dfe = s.dfe := rfl
@[simp] theorem State.emit_pd (o : Output) : (s.emit o).pd = s.pd := rfl
@[simp] theorem State.emit_pdFresh (o : Output) : (s.emit o).pdFresh = s.pdFresh := rfl
@[simp] theorem State.emit_pdEcc (o : Output) : (s.emit o).pdEcc = s.pdEcc := rfl
@[simp] theorem State.emit_pdAdapt (o : Output) : (s.emit o).pdAdapt = s.pdAdapt := rfl
@[simp] theorem State.emit_slot (o : Output) : (s.emit o).slot = s.slot := rfl
@[simp] theorem State.emit_enJobs (o : Output) : (s.emit o).enJobs = s.enJobs := rfl
@[simp] theorem State.emit_prach (o : Output) : (s.emit o).prach = s.prach := rfl
@[simp] theorem State.emit_bf (o : Output) : (s.emit o).bf = s.bf := rfl
@[simp] theorem State.emit_hg (o : Output) : (s.emit o).hg = s.hg := rfl
@[simp] theorem State.emit_casc (o : Output) : (s.emit o).casc = s.casc := rfl
@[simp] theorem State.emit_hp (o : Output) : (s.emit o).hp = s.hp := rfl
@[simp] theorem State.emit_sp (o : Output) : (s.emit o).sp = s.sp := rfl
@[simp] theorem State.emit_pa (o : Output) : (s.emit o).pa = s.pa := rfl
@[simp] theorem State.emit_cal (o : Output) : (s.emit o).cal = s.cal := rfl
@[simp] theorem State.emit_fd (o : Output) : (s.emit o).fd = s.fd := rfl
@[simp] theorem State.emit_memx (o : Output) : (s.emit o).memx = s.memx := rfl
@[simp] theorem State.emit_fab (o : Output) : (s.emit o).fab = s.fab := rfl
@[simp] theorem State.emit_pw (o : Output) : (s.emit o).pw = s.pw := rfl
@[simp] theorem State.emit_th (o : Output) : (s.emit o).th = s.th := rfl
@[simp] theorem State.emit_boot (o : Output) : (s.emit o).boot = s.boot := rfl
@[simp] theorem State.emit_bound (o : Output) : (s.emit o).bound = s.bound := rfl
@[simp] theorem State.emit_sig (o : Output) : (s.emit o).sig = s.sig := rfl

@[simp] theorem State.advanceTo_pending (c : Nat) : (s.advanceTo c).pending = s.pending := rfl
@[simp] theorem State.advanceTo_regs (c : Nat) : (s.advanceTo c).regs = s.regs := rfl
@[simp] theorem State.advanceTo_work (c : Nat) : (s.advanceTo c).work = s.work := rfl
@[simp] theorem State.advanceTo_mem (c : Nat) : (s.advanceTo c).mem = s.mem := rfl
@[simp] theorem State.advanceTo_free (c : Nat) : (s.advanceTo c).free = s.free := rfl
@[simp] theorem State.advanceTo_out (c : Nat) : (s.advanceTo c).out = s.out := rfl
@[simp] theorem State.advanceTo_tm (c : Nat) : (s.advanceTo c).tm = s.tm := rfl
@[simp] theorem State.advanceTo_fe (c : Nat) : (s.advanceTo c).fe = s.fe := rfl
@[simp] theorem State.advanceTo_fm (c : Nat) : (s.advanceTo c).fm = s.fm := rfl
@[simp] theorem State.advanceTo_chains (c : Nat) : (s.advanceTo c).chains = s.chains := rfl
@[simp] theorem State.advanceTo_hold (c : Nat) : (s.advanceTo c).hold = s.hold := rfl
@[simp] theorem State.advanceTo_lo (c : Nat) : (s.advanceTo c).lo = s.lo := rfl
@[simp] theorem State.advanceTo_rfPend (c : Nat) : (s.advanceTo c).rfPend = s.rfPend := rfl
@[simp] theorem State.advanceTo_f0Pend (c : Nat) : (s.advanceTo c).f0Pend = s.f0Pend := rfl
@[simp] theorem State.advanceTo_dfe (c : Nat) : (s.advanceTo c).dfe = s.dfe := rfl
@[simp] theorem State.advanceTo_pd (c : Nat) : (s.advanceTo c).pd = s.pd := rfl
@[simp] theorem State.advanceTo_pdFresh (c : Nat) : (s.advanceTo c).pdFresh = s.pdFresh := rfl
@[simp] theorem State.advanceTo_pdEcc (c : Nat) : (s.advanceTo c).pdEcc = s.pdEcc := rfl
@[simp] theorem State.advanceTo_pdAdapt (c : Nat) : (s.advanceTo c).pdAdapt = s.pdAdapt := rfl
@[simp] theorem State.advanceTo_slot (c : Nat) : (s.advanceTo c).slot = s.slot := rfl
@[simp] theorem State.advanceTo_enJobs (c : Nat) : (s.advanceTo c).enJobs = s.enJobs := rfl
@[simp] theorem State.advanceTo_prach (c : Nat) : (s.advanceTo c).prach = s.prach := rfl
@[simp] theorem State.advanceTo_bf (c : Nat) : (s.advanceTo c).bf = s.bf := rfl
@[simp] theorem State.advanceTo_hg (c : Nat) : (s.advanceTo c).hg = s.hg := rfl
@[simp] theorem State.advanceTo_casc (c : Nat) : (s.advanceTo c).casc = s.casc := rfl
@[simp] theorem State.advanceTo_hp (c : Nat) : (s.advanceTo c).hp = s.hp := rfl
@[simp] theorem State.advanceTo_sp (c : Nat) : (s.advanceTo c).sp = s.sp := rfl
@[simp] theorem State.advanceTo_pa (c : Nat) : (s.advanceTo c).pa = s.pa := rfl
@[simp] theorem State.advanceTo_cal (c : Nat) : (s.advanceTo c).cal = s.cal := rfl
@[simp] theorem State.advanceTo_fd (c : Nat) : (s.advanceTo c).fd = s.fd := rfl
@[simp] theorem State.advanceTo_memx (c : Nat) : (s.advanceTo c).memx = s.memx := rfl
@[simp] theorem State.advanceTo_fab (c : Nat) : (s.advanceTo c).fab = s.fab := rfl
@[simp] theorem State.advanceTo_pw (c : Nat) : (s.advanceTo c).pw = s.pw := rfl
@[simp] theorem State.advanceTo_th (c : Nat) : (s.advanceTo c).th = s.th := rfl
@[simp] theorem State.advanceTo_boot (c : Nat) : (s.advanceTo c).boot = s.boot := rfl
@[simp] theorem State.advanceTo_bound (c : Nat) : (s.advanceTo c).bound = s.bound := rfl
@[simp] theorem State.advanceTo_sig (c : Nat) : (s.advanceTo c).sig = s.sig := rfl

@[simp] theorem State.setWrk_pending (a : Nat) (v : Word) : (s.setWrk a v).pending = s.pending := rfl
@[simp] theorem State.setWrk_regs (a : Nat) (v : Word) : (s.setWrk a v).regs = s.regs := rfl
@[simp] theorem State.setWrk_mem (a : Nat) (v : Word) : (s.setWrk a v).mem = s.mem := rfl
@[simp] theorem State.setWrk_now (a : Nat) (v : Word) : (s.setWrk a v).now = s.now := rfl
@[simp] theorem State.setWrk_free (a : Nat) (v : Word) : (s.setWrk a v).free = s.free := rfl
@[simp] theorem State.setWrk_out (a : Nat) (v : Word) : (s.setWrk a v).out = s.out := rfl
@[simp] theorem State.setWrk_boot (a : Nat) (v : Word) : (s.setWrk a v).boot = s.boot := rfl

@[simp] theorem State.wput_pending (f : Field) (v : Nat) : (s.wput f v).pending = s.pending := rfl
@[simp] theorem State.wput_regs (f : Field) (v : Nat) : (s.wput f v).regs = s.regs := rfl
@[simp] theorem State.wput_mem (f : Field) (v : Nat) : (s.wput f v).mem = s.mem := rfl
@[simp] theorem State.wput_now (f : Field) (v : Nat) : (s.wput f v).now = s.now := rfl
@[simp] theorem State.wput_free (f : Field) (v : Nat) : (s.wput f v).free = s.free := rfl
@[simp] theorem State.wput_out (f : Field) (v : Nat) : (s.wput f v).out = s.out := rfl
@[simp] theorem State.wput_boot (f : Field) (v : Nat) : (s.wput f v).boot = s.boot := rfl

@[simp] theorem State.apply_pending (a : Nat) : (s.apply a).pending = s.pending := rfl
@[simp] theorem State.apply_regs (a : Nat) : (s.apply a).regs = s.regs := rfl
@[simp] theorem State.apply_mem (a : Nat) : (s.apply a).mem = s.mem := rfl
@[simp] theorem State.apply_now (a : Nat) : (s.apply a).now = s.now := rfl
@[simp] theorem State.apply_free (a : Nat) : (s.apply a).free = s.free := rfl
@[simp] theorem State.apply_out (a : Nat) : (s.apply a).out = s.out := rfl
@[simp] theorem State.apply_boot (a : Nat) : (s.apply a).boot = s.boot := rfl

@[simp] theorem State.freeNext_pending : (s.freeNext).pending = s.pending := rfl
@[simp] theorem State.freeNext_regs : (s.freeNext).regs = s.regs := rfl
@[simp] theorem State.freeNext_work : (s.freeNext).work = s.work := rfl
@[simp] theorem State.freeNext_mem : (s.freeNext).mem = s.mem := rfl
@[simp] theorem State.freeNext_now : (s.freeNext).now = s.now := rfl
@[simp] theorem State.freeNext_out : (s.freeNext).out = s.out := rfl
@[simp] theorem State.freeNext_boot : (s.freeNext).boot = s.boot := rfl

@[simp] theorem State.store_pending (a : Nat) (l : List Byte) : (s.store a l).pending = s.pending := rfl
@[simp] theorem State.store_regs (a : Nat) (l : List Byte) : (s.store a l).regs = s.regs := rfl
@[simp] theorem State.store_work (a : Nat) (l : List Byte) : (s.store a l).work = s.work := rfl
@[simp] theorem State.store_now (a : Nat) (l : List Byte) : (s.store a l).now = s.now := rfl
@[simp] theorem State.store_free (a : Nat) (l : List Byte) : (s.store a l).free = s.free := rfl
@[simp] theorem State.store_out (a : Nat) (l : List Byte) : (s.store a l).out = s.out := rfl
@[simp] theorem State.store_boot (a : Nat) (l : List Byte) : (s.store a l).boot = s.boot := rfl

@[simp] theorem State.countBy_pending (f : Field) (n : Nat) : (s.countBy f n).pending = s.pending := rfl
@[simp] theorem State.countBy_work (f : Field) (n : Nat) : (s.countBy f n).work = s.work := rfl
@[simp] theorem State.countBy_mem (f : Field) (n : Nat) : (s.countBy f n).mem = s.mem := rfl
@[simp] theorem State.countBy_now (f : Field) (n : Nat) : (s.countBy f n).now = s.now := rfl
@[simp] theorem State.countBy_free (f : Field) (n : Nat) : (s.countBy f n).free = s.free := rfl
@[simp] theorem State.countBy_out (f : Field) (n : Nat) : (s.countBy f n).out = s.out := rfl
@[simp] theorem State.countBy_boot (f : Field) (n : Nat) : (s.countBy f n).boot = s.boot := rfl

@[simp] theorem State.count_pending (f : Field) : (s.count f).pending = s.pending := rfl
@[simp] theorem State.count_work (f : Field) : (s.count f).work = s.work := rfl
@[simp] theorem State.count_mem (f : Field) : (s.count f).mem = s.mem := rfl
@[simp] theorem State.count_now (f : Field) : (s.count f).now = s.now := rfl
@[simp] theorem State.count_free (f : Field) : (s.count f).free = s.free := rfl
@[simp] theorem State.count_out (f : Field) : (s.count f).out = s.out := rfl
@[simp] theorem State.count_boot (f : Field) : (s.count f).boot = s.boot := rfl

@[simp] theorem State.raise_pending (f : Field) : (s.raise f).pending = s.pending := rfl
@[simp] theorem State.raise_work (f : Field) : (s.raise f).work = s.work := rfl
@[simp] theorem State.raise_mem (f : Field) : (s.raise f).mem = s.mem := rfl
@[simp] theorem State.raise_now (f : Field) : (s.raise f).now = s.now := rfl
@[simp] theorem State.raise_free (f : Field) : (s.raise f).free = s.free := rfl
@[simp] theorem State.raise_out (f : Field) : (s.raise f).out = s.out := rfl
@[simp] theorem State.raise_boot (f : Field) : (s.raise f).boot = s.boot := rfl

@[simp] theorem State.raiseBit_pending (f : Field) (i : Nat) : (s.raiseBit f i).pending = s.pending := rfl
@[simp] theorem State.raiseBit_work (f : Field) (i : Nat) : (s.raiseBit f i).work = s.work := rfl
@[simp] theorem State.raiseBit_mem (f : Field) (i : Nat) : (s.raiseBit f i).mem = s.mem := rfl
@[simp] theorem State.raiseBit_now (f : Field) (i : Nat) : (s.raiseBit f i).now = s.now := rfl
@[simp] theorem State.raiseBit_free (f : Field) (i : Nat) : (s.raiseBit f i).free = s.free := rfl
@[simp] theorem State.raiseBit_out (f : Field) (i : Nat) : (s.raiseBit f i).out = s.out := rfl
@[simp] theorem State.raiseBit_boot (f : Field) (i : Nat) : (s.raiseBit f i).boot = s.boot := rfl

@[simp] theorem State.clearBit_pending (f : Field) (i : Nat) : (s.clearBit f i).pending = s.pending := rfl
@[simp] theorem State.clearBit_work (f : Field) (i : Nat) : (s.clearBit f i).work = s.work := rfl
@[simp] theorem State.clearBit_mem (f : Field) (i : Nat) : (s.clearBit f i).mem = s.mem := rfl
@[simp] theorem State.clearBit_now (f : Field) (i : Nat) : (s.clearBit f i).now = s.now := rfl
@[simp] theorem State.clearBit_free (f : Field) (i : Nat) : (s.clearBit f i).free = s.free := rfl
@[simp] theorem State.clearBit_out (f : Field) (i : Nat) : (s.clearBit f i).out = s.out := rfl
@[simp] theorem State.clearBit_boot (f : Field) (i : Nat) : (s.clearBit f i).boot = s.boot := rfl

@[simp] theorem State.putBit_pending (f : Field) (i : Nat) (b : Bool) : (s.putBit f i b).pending = s.pending := rfl
@[simp] theorem State.putBit_work (f : Field) (i : Nat) (b : Bool) : (s.putBit f i b).work = s.work := rfl
@[simp] theorem State.putBit_mem (f : Field) (i : Nat) (b : Bool) : (s.putBit f i b).mem = s.mem := rfl
@[simp] theorem State.putBit_now (f : Field) (i : Nat) (b : Bool) : (s.putBit f i b).now = s.now := rfl
@[simp] theorem State.putBit_free (f : Field) (i : Nat) (b : Bool) : (s.putBit f i b).free = s.free := rfl
@[simp] theorem State.putBit_out (f : Field) (i : Nat) (b : Bool) : (s.putBit f i b).out = s.out := rfl
@[simp] theorem State.putBit_boot (f : Field) (i : Nat) (b : Bool) : (s.putBit f i b).boot = s.boot := rfl

@[simp] theorem State.plainWrite_pending (r : RegRow) (a : Nat) (v : Word) : (s.plainWrite r a v).pending = s.pending := rfl
@[simp] theorem State.plainWrite_work (r : RegRow) (a : Nat) (v : Word) : (s.plainWrite r a v).work = s.work := rfl
@[simp] theorem State.plainWrite_mem (r : RegRow) (a : Nat) (v : Word) : (s.plainWrite r a v).mem = s.mem := rfl
@[simp] theorem State.plainWrite_now (r : RegRow) (a : Nat) (v : Word) : (s.plainWrite r a v).now = s.now := rfl
@[simp] theorem State.plainWrite_free (r : RegRow) (a : Nat) (v : Word) : (s.plainWrite r a v).free = s.free := rfl
@[simp] theorem State.plainWrite_out (r : RegRow) (a : Nat) (v : Word) : (s.plainWrite r a v).out = s.out := rfl
@[simp] theorem State.plainWrite_boot (r : RegRow) (a : Nat) (v : Word) : (s.plainWrite r a v).boot = s.boot := rfl

@[simp] theorem State.modBf_pending (f : BeamX → BeamX) : (s.modBf f).pending = s.pending := rfl
@[simp] theorem State.modBf_regs (f : BeamX → BeamX) : (s.modBf f).regs = s.regs := rfl
@[simp] theorem State.modBf_work (f : BeamX → BeamX) : (s.modBf f).work = s.work := rfl
@[simp] theorem State.modBf_mem (f : BeamX → BeamX) : (s.modBf f).mem = s.mem := rfl
@[simp] theorem State.modBf_now (f : BeamX → BeamX) : (s.modBf f).now = s.now := rfl
@[simp] theorem State.modBf_free (f : BeamX → BeamX) : (s.modBf f).free = s.free := rfl
@[simp] theorem State.modBf_out (f : BeamX → BeamX) : (s.modBf f).out = s.out := rfl
@[simp] theorem State.modBf_boot (f : BeamX → BeamX) : (s.modBf f).boot = s.boot := rfl

@[simp] theorem State.modBf_bf (f : BeamX → BeamX) : (s.modBf f).bf = f s.bf := rfl

@[simp] theorem State.modBound_pending (f : BoundX → BoundX) : (s.modBound f).pending = s.pending := rfl
@[simp] theorem State.modBound_regs (f : BoundX → BoundX) : (s.modBound f).regs = s.regs := rfl
@[simp] theorem State.modBound_work (f : BoundX → BoundX) : (s.modBound f).work = s.work := rfl
@[simp] theorem State.modBound_mem (f : BoundX → BoundX) : (s.modBound f).mem = s.mem := rfl
@[simp] theorem State.modBound_now (f : BoundX → BoundX) : (s.modBound f).now = s.now := rfl
@[simp] theorem State.modBound_free (f : BoundX → BoundX) : (s.modBound f).free = s.free := rfl
@[simp] theorem State.modBound_out (f : BoundX → BoundX) : (s.modBound f).out = s.out := rfl
@[simp] theorem State.modBound_boot (f : BoundX → BoundX) : (s.modBound f).boot = s.boot := rfl

@[simp] theorem State.modBound_bound (f : BoundX → BoundX) : (s.modBound f).bound = f s.bound := rfl

@[simp] theorem State.modCal_pending (f : CalX → CalX) : (s.modCal f).pending = s.pending := rfl
@[simp] theorem State.modCal_regs (f : CalX → CalX) : (s.modCal f).regs = s.regs := rfl
@[simp] theorem State.modCal_work (f : CalX → CalX) : (s.modCal f).work = s.work := rfl
@[simp] theorem State.modCal_mem (f : CalX → CalX) : (s.modCal f).mem = s.mem := rfl
@[simp] theorem State.modCal_now (f : CalX → CalX) : (s.modCal f).now = s.now := rfl
@[simp] theorem State.modCal_free (f : CalX → CalX) : (s.modCal f).free = s.free := rfl
@[simp] theorem State.modCal_out (f : CalX → CalX) : (s.modCal f).out = s.out := rfl
@[simp] theorem State.modCal_boot (f : CalX → CalX) : (s.modCal f).boot = s.boot := rfl

@[simp] theorem State.modCal_cal (f : CalX → CalX) : (s.modCal f).cal = f s.cal := rfl

@[simp] theorem State.modCasc_pending (f : CascX → CascX) : (s.modCasc f).pending = s.pending := rfl
@[simp] theorem State.modCasc_regs (f : CascX → CascX) : (s.modCasc f).regs = s.regs := rfl
@[simp] theorem State.modCasc_work (f : CascX → CascX) : (s.modCasc f).work = s.work := rfl
@[simp] theorem State.modCasc_mem (f : CascX → CascX) : (s.modCasc f).mem = s.mem := rfl
@[simp] theorem State.modCasc_now (f : CascX → CascX) : (s.modCasc f).now = s.now := rfl
@[simp] theorem State.modCasc_free (f : CascX → CascX) : (s.modCasc f).free = s.free := rfl
@[simp] theorem State.modCasc_out (f : CascX → CascX) : (s.modCasc f).out = s.out := rfl
@[simp] theorem State.modCasc_boot (f : CascX → CascX) : (s.modCasc f).boot = s.boot := rfl

@[simp] theorem State.modCasc_casc (f : CascX → CascX) : (s.modCasc f).casc = f s.casc := rfl

@[simp] theorem State.modDfe_pending (f : DfeX → DfeX) : (s.modDfe f).pending = s.pending := rfl
@[simp] theorem State.modDfe_regs (f : DfeX → DfeX) : (s.modDfe f).regs = s.regs := rfl
@[simp] theorem State.modDfe_work (f : DfeX → DfeX) : (s.modDfe f).work = s.work := rfl
@[simp] theorem State.modDfe_mem (f : DfeX → DfeX) : (s.modDfe f).mem = s.mem := rfl
@[simp] theorem State.modDfe_now (f : DfeX → DfeX) : (s.modDfe f).now = s.now := rfl
@[simp] theorem State.modDfe_free (f : DfeX → DfeX) : (s.modDfe f).free = s.free := rfl
@[simp] theorem State.modDfe_out (f : DfeX → DfeX) : (s.modDfe f).out = s.out := rfl
@[simp] theorem State.modDfe_boot (f : DfeX → DfeX) : (s.modDfe f).boot = s.boot := rfl

@[simp] theorem State.modDfe_dfe (f : DfeX → DfeX) : (s.modDfe f).dfe = f s.dfe := rfl

@[simp] theorem State.modFm_pending (f : FaultX → FaultX) : (s.modFm f).pending = s.pending := rfl
@[simp] theorem State.modFm_regs (f : FaultX → FaultX) : (s.modFm f).regs = s.regs := rfl
@[simp] theorem State.modFm_work (f : FaultX → FaultX) : (s.modFm f).work = s.work := rfl
@[simp] theorem State.modFm_mem (f : FaultX → FaultX) : (s.modFm f).mem = s.mem := rfl
@[simp] theorem State.modFm_now (f : FaultX → FaultX) : (s.modFm f).now = s.now := rfl
@[simp] theorem State.modFm_free (f : FaultX → FaultX) : (s.modFm f).free = s.free := rfl
@[simp] theorem State.modFm_out (f : FaultX → FaultX) : (s.modFm f).out = s.out := rfl
@[simp] theorem State.modFm_boot (f : FaultX → FaultX) : (s.modFm f).boot = s.boot := rfl

@[simp] theorem State.modFm_fm (f : FaultX → FaultX) : (s.modFm f).fm = f s.fm := rfl

@[simp] theorem State.modLo_pending (f : LoX → LoX) : (s.modLo f).pending = s.pending := rfl
@[simp] theorem State.modLo_regs (f : LoX → LoX) : (s.modLo f).regs = s.regs := rfl
@[simp] theorem State.modLo_work (f : LoX → LoX) : (s.modLo f).work = s.work := rfl
@[simp] theorem State.modLo_mem (f : LoX → LoX) : (s.modLo f).mem = s.mem := rfl
@[simp] theorem State.modLo_now (f : LoX → LoX) : (s.modLo f).now = s.now := rfl
@[simp] theorem State.modLo_free (f : LoX → LoX) : (s.modLo f).free = s.free := rfl
@[simp] theorem State.modLo_out (f : LoX → LoX) : (s.modLo f).out = s.out := rfl
@[simp] theorem State.modLo_boot (f : LoX → LoX) : (s.modLo f).boot = s.boot := rfl

@[simp] theorem State.modLo_lo (f : LoX → LoX) : (s.modLo f).lo = f s.lo := rfl

@[simp] theorem State.modSlot_pending (f : SlotX → SlotX) : (s.modSlot f).pending = s.pending := rfl
@[simp] theorem State.modSlot_regs (f : SlotX → SlotX) : (s.modSlot f).regs = s.regs := rfl
@[simp] theorem State.modSlot_work (f : SlotX → SlotX) : (s.modSlot f).work = s.work := rfl
@[simp] theorem State.modSlot_mem (f : SlotX → SlotX) : (s.modSlot f).mem = s.mem := rfl
@[simp] theorem State.modSlot_now (f : SlotX → SlotX) : (s.modSlot f).now = s.now := rfl
@[simp] theorem State.modSlot_free (f : SlotX → SlotX) : (s.modSlot f).free = s.free := rfl
@[simp] theorem State.modSlot_out (f : SlotX → SlotX) : (s.modSlot f).out = s.out := rfl
@[simp] theorem State.modSlot_boot (f : SlotX → SlotX) : (s.modSlot f).boot = s.boot := rfl

@[simp] theorem State.modSlot_slot (f : SlotX → SlotX) : (s.modSlot f).slot = f s.slot := rfl

@[simp] theorem State.modMem_pending (f : MemX → MemX) : (s.modMem f).pending = s.pending := rfl
@[simp] theorem State.modMem_regs (f : MemX → MemX) : (s.modMem f).regs = s.regs := rfl
@[simp] theorem State.modMem_work (f : MemX → MemX) : (s.modMem f).work = s.work := rfl
@[simp] theorem State.modMem_mem (f : MemX → MemX) : (s.modMem f).mem = s.mem := rfl
@[simp] theorem State.modMem_now (f : MemX → MemX) : (s.modMem f).now = s.now := rfl
@[simp] theorem State.modMem_free (f : MemX → MemX) : (s.modMem f).free = s.free := rfl
@[simp] theorem State.modMem_out (f : MemX → MemX) : (s.modMem f).out = s.out := rfl
@[simp] theorem State.modMem_boot (f : MemX → MemX) : (s.modMem f).boot = s.boot := rfl

@[simp] theorem State.modMem_memx (f : MemX → MemX) : (s.modMem f).memx = f s.memx := rfl

@[simp] theorem State.modPw_pending (f : PowerX → PowerX) : (s.modPw f).pending = s.pending := rfl
@[simp] theorem State.modPw_regs (f : PowerX → PowerX) : (s.modPw f).regs = s.regs := rfl
@[simp] theorem State.modPw_work (f : PowerX → PowerX) : (s.modPw f).work = s.work := rfl
@[simp] theorem State.modPw_mem (f : PowerX → PowerX) : (s.modPw f).mem = s.mem := rfl
@[simp] theorem State.modPw_now (f : PowerX → PowerX) : (s.modPw f).now = s.now := rfl
@[simp] theorem State.modPw_free (f : PowerX → PowerX) : (s.modPw f).free = s.free := rfl
@[simp] theorem State.modPw_out (f : PowerX → PowerX) : (s.modPw f).out = s.out := rfl
@[simp] theorem State.modPw_boot (f : PowerX → PowerX) : (s.modPw f).boot = s.boot := rfl

@[simp] theorem State.modPw_pw (f : PowerX → PowerX) : (s.modPw f).pw = f s.pw := rfl

@[simp] theorem State.modSp_pending (f : SpX → SpX) : (s.modSp f).pending = s.pending := rfl
@[simp] theorem State.modSp_regs (f : SpX → SpX) : (s.modSp f).regs = s.regs := rfl
@[simp] theorem State.modSp_work (f : SpX → SpX) : (s.modSp f).work = s.work := rfl
@[simp] theorem State.modSp_mem (f : SpX → SpX) : (s.modSp f).mem = s.mem := rfl
@[simp] theorem State.modSp_now (f : SpX → SpX) : (s.modSp f).now = s.now := rfl
@[simp] theorem State.modSp_free (f : SpX → SpX) : (s.modSp f).free = s.free := rfl
@[simp] theorem State.modSp_out (f : SpX → SpX) : (s.modSp f).out = s.out := rfl
@[simp] theorem State.modSp_boot (f : SpX → SpX) : (s.modSp f).boot = s.boot := rfl

@[simp] theorem State.modSp_sp (f : SpX → SpX) : (s.modSp f).sp = f s.sp := rfl

@[simp] theorem State.modFe_pending (f : FrontX → FrontX) : (s.modFe f).pending = s.pending := rfl
@[simp] theorem State.modFe_regs (f : FrontX → FrontX) : (s.modFe f).regs = s.regs := rfl
@[simp] theorem State.modFe_work (f : FrontX → FrontX) : (s.modFe f).work = s.work := rfl
@[simp] theorem State.modFe_mem (f : FrontX → FrontX) : (s.modFe f).mem = s.mem := rfl
@[simp] theorem State.modFe_now (f : FrontX → FrontX) : (s.modFe f).now = s.now := rfl
@[simp] theorem State.modFe_free (f : FrontX → FrontX) : (s.modFe f).free = s.free := rfl
@[simp] theorem State.modFe_out (f : FrontX → FrontX) : (s.modFe f).out = s.out := rfl
@[simp] theorem State.modFe_boot (f : FrontX → FrontX) : (s.modFe f).boot = s.boot := rfl

@[simp] theorem State.modFe_fe (f : FrontX → FrontX) : (s.modFe f).fe = f s.fe := rfl

@[simp] theorem State.modFab_pending (f : FabX → FabX) : (s.modFab f).pending = s.pending := rfl
@[simp] theorem State.modFab_regs (f : FabX → FabX) : (s.modFab f).regs = s.regs := rfl
@[simp] theorem State.modFab_work (f : FabX → FabX) : (s.modFab f).work = s.work := rfl
@[simp] theorem State.modFab_mem (f : FabX → FabX) : (s.modFab f).mem = s.mem := rfl
@[simp] theorem State.modFab_now (f : FabX → FabX) : (s.modFab f).now = s.now := rfl
@[simp] theorem State.modFab_free (f : FabX → FabX) : (s.modFab f).free = s.free := rfl
@[simp] theorem State.modFab_out (f : FabX → FabX) : (s.modFab f).out = s.out := rfl
@[simp] theorem State.modFab_boot (f : FabX → FabX) : (s.modFab f).boot = s.boot := rfl

@[simp] theorem State.modFab_fab (f : FabX → FabX) : (s.modFab f).fab = f s.fab := rfl

@[simp] theorem State.modTh_pending (f : ThX → ThX) : (s.modTh f).pending = s.pending := rfl
@[simp] theorem State.modTh_regs (f : ThX → ThX) : (s.modTh f).regs = s.regs := rfl
@[simp] theorem State.modTh_work (f : ThX → ThX) : (s.modTh f).work = s.work := rfl
@[simp] theorem State.modTh_mem (f : ThX → ThX) : (s.modTh f).mem = s.mem := rfl
@[simp] theorem State.modTh_now (f : ThX → ThX) : (s.modTh f).now = s.now := rfl
@[simp] theorem State.modTh_free (f : ThX → ThX) : (s.modTh f).free = s.free := rfl
@[simp] theorem State.modTh_out (f : ThX → ThX) : (s.modTh f).out = s.out := rfl
@[simp] theorem State.modTh_boot (f : ThX → ThX) : (s.modTh f).boot = s.boot := rfl

@[simp] theorem State.modTh_th (f : ThX → ThX) : (s.modTh f).th = f s.th := rfl

@[simp] theorem State.modTm_pending (f : TimeX → TimeX) : (s.modTm f).pending = s.pending := rfl
@[simp] theorem State.modTm_regs (f : TimeX → TimeX) : (s.modTm f).regs = s.regs := rfl
@[simp] theorem State.modTm_work (f : TimeX → TimeX) : (s.modTm f).work = s.work := rfl
@[simp] theorem State.modTm_mem (f : TimeX → TimeX) : (s.modTm f).mem = s.mem := rfl
@[simp] theorem State.modTm_now (f : TimeX → TimeX) : (s.modTm f).now = s.now := rfl
@[simp] theorem State.modTm_free (f : TimeX → TimeX) : (s.modTm f).free = s.free := rfl
@[simp] theorem State.modTm_out (f : TimeX → TimeX) : (s.modTm f).out = s.out := rfl
@[simp] theorem State.modTm_boot (f : TimeX → TimeX) : (s.modTm f).boot = s.boot := rfl

@[simp] theorem State.modTm_tm (f : TimeX → TimeX) : (s.modTm f).tm = f s.tm := rfl

@[simp] theorem State.modSig_pending (f : SigX → SigX) : (s.modSig f).pending = s.pending := rfl
@[simp] theorem State.modSig_regs (f : SigX → SigX) : (s.modSig f).regs = s.regs := rfl
@[simp] theorem State.modSig_work (f : SigX → SigX) : (s.modSig f).work = s.work := rfl
@[simp] theorem State.modSig_mem (f : SigX → SigX) : (s.modSig f).mem = s.mem := rfl
@[simp] theorem State.modSig_now (f : SigX → SigX) : (s.modSig f).now = s.now := rfl
@[simp] theorem State.modSig_free (f : SigX → SigX) : (s.modSig f).free = s.free := rfl
@[simp] theorem State.modSig_out (f : SigX → SigX) : (s.modSig f).out = s.out := rfl
@[simp] theorem State.modSig_boot (f : SigX → SigX) : (s.modSig f).boot = s.boot := rfl

@[simp] theorem State.modSig_sig (f : SigX → SigX) : (s.modSig f).sig = f s.sig := rfl

@[simp] theorem State.modSession_pending (x : Nat) (f : Session → Session) : (s.modSession x f).pending = s.pending := rfl
@[simp] theorem State.modSession_regs (x : Nat) (f : Session → Session) : (s.modSession x f).regs = s.regs := rfl
@[simp] theorem State.modSession_work (x : Nat) (f : Session → Session) : (s.modSession x f).work = s.work := rfl
@[simp] theorem State.modSession_mem (x : Nat) (f : Session → Session) : (s.modSession x f).mem = s.mem := rfl
@[simp] theorem State.modSession_now (x : Nat) (f : Session → Session) : (s.modSession x f).now = s.now := rfl
@[simp] theorem State.modSession_free (x : Nat) (f : Session → Session) : (s.modSession x f).free = s.free := rfl
@[simp] theorem State.modSession_out (x : Nat) (f : Session → Session) : (s.modSession x f).out = s.out := rfl
@[simp] theorem State.modSession_boot (x : Nat) (f : Session → Session) : (s.modSession x f).boot = s.boot := rfl

@[simp] theorem State.modFlior_pending (n : Nat) (f : FliorX → FliorX) : (s.modFlior n f).pending = s.pending := rfl
@[simp] theorem State.modFlior_regs (n : Nat) (f : FliorX → FliorX) : (s.modFlior n f).regs = s.regs := rfl
@[simp] theorem State.modFlior_work (n : Nat) (f : FliorX → FliorX) : (s.modFlior n f).work = s.work := rfl
@[simp] theorem State.modFlior_mem (n : Nat) (f : FliorX → FliorX) : (s.modFlior n f).mem = s.mem := rfl
@[simp] theorem State.modFlior_now (n : Nat) (f : FliorX → FliorX) : (s.modFlior n f).now = s.now := rfl
@[simp] theorem State.modFlior_free (n : Nat) (f : FliorX → FliorX) : (s.modFlior n f).free = s.free := rfl
@[simp] theorem State.modFlior_out (n : Nat) (f : FliorX → FliorX) : (s.modFlior n f).out = s.out := rfl
@[simp] theorem State.modFlior_boot (n : Nat) (f : FliorX → FliorX) : (s.modFlior n f).boot = s.boot := rfl

@[simp] theorem State.modHg_pending (p : Nat) (f : HgX → HgX) : (s.modHg p f).pending = s.pending := rfl
@[simp] theorem State.modHg_regs (p : Nat) (f : HgX → HgX) : (s.modHg p f).regs = s.regs := rfl
@[simp] theorem State.modHg_work (p : Nat) (f : HgX → HgX) : (s.modHg p f).work = s.work := rfl
@[simp] theorem State.modHg_mem (p : Nat) (f : HgX → HgX) : (s.modHg p f).mem = s.mem := rfl
@[simp] theorem State.modHg_now (p : Nat) (f : HgX → HgX) : (s.modHg p f).now = s.now := rfl
@[simp] theorem State.modHg_free (p : Nat) (f : HgX → HgX) : (s.modHg p f).free = s.free := rfl
@[simp] theorem State.modHg_out (p : Nat) (f : HgX → HgX) : (s.modHg p f).out = s.out := rfl
@[simp] theorem State.modHg_boot (p : Nat) (f : HgX → HgX) : (s.modHg p f).boot = s.boot := rfl

@[simp] theorem State.modInput_pending (i : Nat) (f : InputX → InputX) : (s.modInput i f).pending = s.pending := rfl
@[simp] theorem State.modInput_regs (i : Nat) (f : InputX → InputX) : (s.modInput i f).regs = s.regs := rfl
@[simp] theorem State.modInput_work (i : Nat) (f : InputX → InputX) : (s.modInput i f).work = s.work := rfl
@[simp] theorem State.modInput_mem (i : Nat) (f : InputX → InputX) : (s.modInput i f).mem = s.mem := rfl
@[simp] theorem State.modInput_now (i : Nat) (f : InputX → InputX) : (s.modInput i f).now = s.now := rfl
@[simp] theorem State.modInput_free (i : Nat) (f : InputX → InputX) : (s.modInput i f).free = s.free := rfl
@[simp] theorem State.modInput_out (i : Nat) (f : InputX → InputX) : (s.modInput i f).out = s.out := rfl
@[simp] theorem State.modInput_boot (i : Nat) (f : InputX → InputX) : (s.modInput i f).boot = s.boot := rfl

@[simp] theorem State.modPd_pending (ch : Nat) (f : PdX → PdX) : (s.modPd ch f).pending = s.pending := rfl
@[simp] theorem State.modPd_regs (ch : Nat) (f : PdX → PdX) : (s.modPd ch f).regs = s.regs := rfl
@[simp] theorem State.modPd_work (ch : Nat) (f : PdX → PdX) : (s.modPd ch f).work = s.work := rfl
@[simp] theorem State.modPd_mem (ch : Nat) (f : PdX → PdX) : (s.modPd ch f).mem = s.mem := rfl
@[simp] theorem State.modPd_now (ch : Nat) (f : PdX → PdX) : (s.modPd ch f).now = s.now := rfl
@[simp] theorem State.modPd_free (ch : Nat) (f : PdX → PdX) : (s.modPd ch f).free = s.free := rfl
@[simp] theorem State.modPd_out (ch : Nat) (f : PdX → PdX) : (s.modPd ch f).out = s.out := rfl
@[simp] theorem State.modPd_boot (ch : Nat) (f : PdX → PdX) : (s.modPd ch f).boot = s.boot := rfl

@[simp] theorem State.modChain_pending (ch : Nat) (f : ChainX → ChainX) : (s.modChain ch f).pending = s.pending := rfl
@[simp] theorem State.modChain_regs (ch : Nat) (f : ChainX → ChainX) : (s.modChain ch f).regs = s.regs := rfl
@[simp] theorem State.modChain_work (ch : Nat) (f : ChainX → ChainX) : (s.modChain ch f).work = s.work := rfl
@[simp] theorem State.modChain_mem (ch : Nat) (f : ChainX → ChainX) : (s.modChain ch f).mem = s.mem := rfl
@[simp] theorem State.modChain_now (ch : Nat) (f : ChainX → ChainX) : (s.modChain ch f).now = s.now := rfl
@[simp] theorem State.modChain_free (ch : Nat) (f : ChainX → ChainX) : (s.modChain ch f).free = s.free := rfl
@[simp] theorem State.modChain_out (ch : Nat) (f : ChainX → ChainX) : (s.modChain ch f).out = s.out := rfl
@[simp] theorem State.modChain_boot (ch : Nat) (f : ChainX → ChainX) : (s.modChain ch f).boot = s.boot := rfl

@[simp] theorem State.modAdac_pending (n : Nat) (f : AdacX → AdacX) : (s.modAdac n f).pending = s.pending := rfl
@[simp] theorem State.modAdac_regs (n : Nat) (f : AdacX → AdacX) : (s.modAdac n f).regs = s.regs := rfl
@[simp] theorem State.modAdac_work (n : Nat) (f : AdacX → AdacX) : (s.modAdac n f).work = s.work := rfl
@[simp] theorem State.modAdac_mem (n : Nat) (f : AdacX → AdacX) : (s.modAdac n f).mem = s.mem := rfl
@[simp] theorem State.modAdac_now (n : Nat) (f : AdacX → AdacX) : (s.modAdac n f).now = s.now := rfl
@[simp] theorem State.modAdac_free (n : Nat) (f : AdacX → AdacX) : (s.modAdac n f).free = s.free := rfl
@[simp] theorem State.modAdac_out (n : Nat) (f : AdacX → AdacX) : (s.modAdac n f).out = s.out := rfl
@[simp] theorem State.modAdac_boot (n : Nat) (f : AdacX → AdacX) : (s.modAdac n f).boot = s.boot := rfl

@[simp] theorem State.modSyn_pending (i : Nat) (f : Syn → Syn) : (s.modSyn i f).pending = s.pending := rfl
@[simp] theorem State.modSyn_regs (i : Nat) (f : Syn → Syn) : (s.modSyn i f).regs = s.regs := rfl
@[simp] theorem State.modSyn_work (i : Nat) (f : Syn → Syn) : (s.modSyn i f).work = s.work := rfl
@[simp] theorem State.modSyn_mem (i : Nat) (f : Syn → Syn) : (s.modSyn i f).mem = s.mem := rfl
@[simp] theorem State.modSyn_now (i : Nat) (f : Syn → Syn) : (s.modSyn i f).now = s.now := rfl
@[simp] theorem State.modSyn_free (i : Nat) (f : Syn → Syn) : (s.modSyn i f).free = s.free := rfl
@[simp] theorem State.modSyn_out (i : Nat) (f : Syn → Syn) : (s.modSyn i f).out = s.out := rfl
@[simp] theorem State.modSyn_boot (i : Nat) (f : Syn → Syn) : (s.modSyn i f).boot = s.boot := rfl

@[simp] theorem State.modServo_pending (x : Nat) (f : Servo → Servo) : (s.modServo x f).pending = s.pending := rfl
@[simp] theorem State.modServo_regs (x : Nat) (f : Servo → Servo) : (s.modServo x f).regs = s.regs := rfl
@[simp] theorem State.modServo_work (x : Nat) (f : Servo → Servo) : (s.modServo x f).work = s.work := rfl
@[simp] theorem State.modServo_mem (x : Nat) (f : Servo → Servo) : (s.modServo x f).mem = s.mem := rfl
@[simp] theorem State.modServo_now (x : Nat) (f : Servo → Servo) : (s.modServo x f).now = s.now := rfl
@[simp] theorem State.modServo_free (x : Nat) (f : Servo → Servo) : (s.modServo x f).free = s.free := rfl
@[simp] theorem State.modServo_out (x : Nat) (f : Servo → Servo) : (s.modServo x f).out = s.out := rfl
@[simp] theorem State.modServo_boot (x : Nat) (f : Servo → Servo) : (s.modServo x f).boot = s.boot := rfl

@[simp] theorem State.modCap_pending (k : Nat) (f : Cap → Cap) : (s.modCap k f).pending = s.pending := rfl
@[simp] theorem State.modCap_regs (k : Nat) (f : Cap → Cap) : (s.modCap k f).regs = s.regs := rfl
@[simp] theorem State.modCap_work (k : Nat) (f : Cap → Cap) : (s.modCap k f).work = s.work := rfl
@[simp] theorem State.modCap_mem (k : Nat) (f : Cap → Cap) : (s.modCap k f).mem = s.mem := rfl
@[simp] theorem State.modCap_now (k : Nat) (f : Cap → Cap) : (s.modCap k f).now = s.now := rfl
@[simp] theorem State.modCap_free (k : Nat) (f : Cap → Cap) : (s.modCap k f).free = s.free := rfl
@[simp] theorem State.modCap_out (k : Nat) (f : Cap → Cap) : (s.modCap k f).out = s.out := rfl
@[simp] theorem State.modCap_boot (k : Nat) (f : Cap → Cap) : (s.modCap k f).boot = s.boot := rfl

@[simp] theorem State.modDma_pending (c : Nat) (f : DmaX → DmaX) : (s.modDma c f).pending = s.pending := rfl
@[simp] theorem State.modDma_regs (c : Nat) (f : DmaX → DmaX) : (s.modDma c f).regs = s.regs := rfl
@[simp] theorem State.modDma_work (c : Nat) (f : DmaX → DmaX) : (s.modDma c f).work = s.work := rfl
@[simp] theorem State.modDma_mem (c : Nat) (f : DmaX → DmaX) : (s.modDma c f).mem = s.mem := rfl
@[simp] theorem State.modDma_now (c : Nat) (f : DmaX → DmaX) : (s.modDma c f).now = s.now := rfl
@[simp] theorem State.modDma_free (c : Nat) (f : DmaX → DmaX) : (s.modDma c f).free = s.free := rfl
@[simp] theorem State.modDma_out (c : Nat) (f : DmaX → DmaX) : (s.modDma c f).out = s.out := rfl
@[simp] theorem State.modDma_boot (c : Nat) (f : DmaX → DmaX) : (s.modDma c f).boot = s.boot := rfl

@[simp] theorem State.modLq_pending (e : Nat) (f : List LqEntry → List LqEntry) : (s.modLq e f).pending = s.pending := rfl
@[simp] theorem State.modLq_regs (e : Nat) (f : List LqEntry → List LqEntry) : (s.modLq e f).regs = s.regs := rfl
@[simp] theorem State.modLq_work (e : Nat) (f : List LqEntry → List LqEntry) : (s.modLq e f).work = s.work := rfl
@[simp] theorem State.modLq_mem (e : Nat) (f : List LqEntry → List LqEntry) : (s.modLq e f).mem = s.mem := rfl
@[simp] theorem State.modLq_now (e : Nat) (f : List LqEntry → List LqEntry) : (s.modLq e f).now = s.now := rfl
@[simp] theorem State.modLq_free (e : Nat) (f : List LqEntry → List LqEntry) : (s.modLq e f).free = s.free := rfl
@[simp] theorem State.modLq_out (e : Nat) (f : List LqEntry → List LqEntry) : (s.modLq e f).out = s.out := rfl
@[simp] theorem State.modLq_boot (e : Nat) (f : List LqEntry → List LqEntry) : (s.modLq e f).boot = s.boot := rfl

@[simp] theorem State.emit_out (o : Output) : (s.emit o).out = s.out ++ [o] := rfl
@[simp] theorem State.advanceTo_now (c : Nat) : (s.advanceTo c).now = max s.now c := rfl
@[simp] theorem State.setReg_regs (a : Nat) (v : Word) : (s.setReg a v).regs = s.regs.set a v := rfl
@[simp] theorem State.setWrk_work (a : Nat) (v : Word) : (s.setWrk a v).work = s.work.set a v := rfl
@[simp] theorem State.store_mem (a : Nat) (l : List Byte) : (s.store a l).mem = s.mem.setList a l := rfl
@[simp] theorem State.freeNext_free : s.freeNext.free = s.free + 1 := rfl

end Sys2Proof.Machine
end

