-- ==== Sys2Proof/Laws/Canonical.lean ====
section
/-! SUPPORT. The canonical form of registers, working copies and memory is kept by every shared operation (the guide's law of memory). -/

namespace Sys2Proof.Machine

theorem State.canonical_iff (s : State) :
    s.canonical = true ↔ s.regs.wf = true ∧ s.work.wf = true ∧ s.mem.wf = true := by
  simp [State.canonical, and_assoc]

/-- A state with the same registers, working copies and memory is as canonical. -/
theorem State.canonical_congr {s t : State} (hr : t.regs = s.regs) (hw : t.work = s.work) (hm : t.mem = s.mem)
    (h : s.canonical = true) : t.canonical = true := by
  rw [State.canonical_iff] at *
  rw [hr, hw, hm]; exact h

theorem State.canonical_setReg {s : State} (a : Nat) (v : Word) (h : s.canonical = true) : (s.setReg a v).canonical = true := by
  rw [State.canonical_iff] at *
  exact ⟨RegFile.wf_set _ _ _ h.1, h.2⟩

theorem State.canonical_setWrk {s : State} (a : Nat) (v : Word) (h : s.canonical = true) : (s.setWrk a v).canonical = true := by
  rw [State.canonical_iff] at *
  exact ⟨h.1, RegFile.wf_set _ _ _ h.2.1, h.2.2⟩

theorem State.canonical_store {s : State} (a : Nat) (l : List Byte) (h : s.canonical = true) : (s.store a l).canonical = true := by
  rw [State.canonical_iff] at *
  exact ⟨h.1, h.2.1, Memory.wf_setList _ _ _ h.2.2⟩

theorem State.canonical_put {s : State} (f : Field) (v : Nat) (h : s.canonical = true) : (s.put f v).canonical = true :=
  State.canonical_setReg _ _ h

theorem State.canonical_wput {s : State} (f : Field) (v : Nat) (h : s.canonical = true) : (s.wput f v).canonical = true :=
  State.canonical_setWrk _ _ h

theorem State.canonical_apply {s : State} (a : Nat) (h : s.canonical = true) : (s.apply a).canonical = true :=
  State.canonical_setWrk _ _ h

theorem State.canonical_plainWrite {s : State} (r : RegRow) (a : Nat) (v : Word) (h : s.canonical = true) :
    (s.plainWrite r a v).canonical = true := State.canonical_setReg _ _ h

theorem State.canonical_countBy {s : State} (f : Field) (n : Nat) (h : s.canonical = true) : (s.countBy f n).canonical = true :=
  State.canonical_put _ _ h

theorem State.canonical_count {s : State} (f : Field) (h : s.canonical = true) : (s.count f).canonical = true :=
  State.canonical_put _ _ h

theorem State.canonical_raise {s : State} (f : Field) (h : s.canonical = true) : (s.raise f).canonical = true :=
  State.canonical_put _ _ h

theorem State.canonical_putBit {s : State} (f : Field) (i : Nat) (b : Bool) (h : s.canonical = true) :
    (s.putBit f i b).canonical = true := State.canonical_put _ _ h

/-- A property that every turn of a loop keeps is kept by the loop. -/
theorem forAll_keeps {α : Type} (P : State → Prop) (l : List α) (f : α → State → State)
    (hf : ∀ a ∈ l, ∀ s, P s → P (f a s)) (s : State) (h : P s) : P (forAll l f s) := by
  induction l generalizing s with
  | nil => exact h
  | cons a t ih => exact ih (fun b hb => hf b (by simp [hb])) _ (hf a (by simp) s h)

/-- A property that a step keeps is kept by the step taken under a condition. -/
theorem doIf_keeps (P : State → Prop) (b : Bool) (f : State → State) (hf : ∀ s, P s → P (f s)) (s : State) (h : P s) :
    P (doIf b f s) := by
  cases b
  · exact h
  · exact hf s h

/-! ### Events, replies, memory -/

theorem State.canonical_modSession {s : State} (x : Nat) (f : Session → Session) (h : s.canonical = true) :
    (s.modSession x f).canonical = true := State.canonical_congr (by simp) (by simp) (by simp) h

theorem State.canonical_putEvent {s : State} (x : Nat) (p : Packet) (h : s.canonical = true) : (s.putEvent x p).canonical = true := by
  have hm : ∀ f : Session → Session, (s.modSession x f).canonical = true := fun f => State.canonical_modSession x f h
  unfold State.putEvent
  split
  · exact State.canonical_congr rfl rfl rfl h
  · simp only []
    split
    · exact State.canonical_congr rfl rfl rfl h
    · exact State.canonical_count _ (hm _)
  · simp only []
    split
    · exact State.canonical_put _ _ (hm _)
    · exact hm _

/-- Raising an event keeps the canonical form. -/
theorem State.canonical_event {s : State} (e : Event) (h : s.canonical = true) : (s.event e).canonical = true := by
  unfold State.event
  exact forAll_keeps (fun s => s.canonical = true) _ _ (fun _ _ _ hs => State.canonical_putEvent _ _ hs) s h

/-- A packet that answers a command changes no register and no memory. -/
theorem State.putReply_frame (s : State) (c : Cmd) (p : Packet) :
    (s.putReply c p).regs = s.regs ∧ (s.putReply c p).work = s.work ∧ (s.putReply c p).mem = s.mem := by
  unfold State.putReply
  split
  · split
    · exact ⟨rfl, rfl, rfl⟩
    · split <;> exact ⟨rfl, rfl, rfl⟩
  · exact ⟨rfl, rfl, rfl⟩

theorem State.canonical_sendReply {s : State} (c : Cmd) (st : Status) (hint : Nat) (payload : List Byte) (tagged : Bool)
    (h : s.canonical = true) : (s.sendReply c st hint payload tagged).canonical = true := by
  unfold State.sendReply
  exact State.canonical_congr (State.putReply_frame s c _).1 (State.putReply_frame s c _).2.1 (State.putReply_frame s c _).2.2 h

/-- Replying to a command keeps the canonical form. -/
theorem State.canonical_reply {s : State} (c : Cmd) (st : Status) (payload : List Byte) (h : s.canonical = true) :
    (s.reply c st payload).canonical = true := by
  have h' : (s.served c).canonical = true := by
    unfold State.served
    split
    · split
      · exact h
      · exact State.canonical_congr rfl rfl rfl h
    · exact h
  unfold State.reply
  simp only []
  split
  · exact h'
  · split
    · exact h'
    · exact State.canonical_sendReply _ _ _ _ _ h'

end Sys2Proof.Machine
end

