-- ==== Sys2Proof/WellFormed.lean ====
section
/-! DEFINITION. When a command names only what exists: every index it carries lies in the range of the spec's table (R10, R17), and a
command of the protocol carries the opcode of its row (R446, R572). -/

namespace Sys2Proof

/-- Banks of a memory (R470): SMEM, BMEM, MMEM, DLM, CSTORE. -/
def memBanks (m : Nat) : Nat :=
  match m with
  | 0 => 64
  | 1 => 16
  | 2 => 8
  | 3 => 24
  | _ => 4

/-- Whether a crossing exists (R37). -/
def Crossing.wf (c : Crossing) : Bool :=
  match c with
  | .ci q => q < 4
  | .gi p => p < 4
  | .fi mid _ => mid < 256
  | .mi mid _ => mid < 256
  | .di mid _ => mid < 256

/-- Whether a command's fields have the widths of the packet header (R443) and it carries opcode `op`. -/
def Cmd.wf (c : Cmd) (op : Nat) : Bool := c.opcode == op && c.session < 256 && c.tag < 2 ^ 16 && c.target < 256

/-- Whether a command names only what exists. -/
def Instr.wf (i : Instr) : Bool :=
  match i with
  | .hostCommandPacket _ _ _ => true
  | .spiRead => true
  | .commandDispatch _ => true
  | .queueAgeTimeout q => q < 4
  | .loadMonitorPublish => true
  | .eventQueueRoom x _ => x < 16
  | .spiBufferRoom _ => true
  | .sessionOpeningTimeout x => x < 16
  | .sessionIdleTimeout x => x < 16
  | .muteAll c => c.wf 0x0F00
  | .paOff c => c.wf 0x0F01
  | .chainMute c => c.wf 0x0F02
  | .tune c => c.wf 0x0301
  | .stateSet c => c.wf 0x0800
  | .ping c => c.wf 0x0100
  | .ident c => c.wf 0x0101
  | .reset c => c.wf 0x0102
  | .unfreeze c => c.wf 0x0110
  | .freezeList c => c.wf 0x0111
  | .carrierClaim c => c.wf 0x0200
  | .carrierRelease c => c.wf 0x0201
  | .carrierConfig c => c.wf 0x0202
  | .carrierEnable c => c.wf 0x0203
  | .carrierUlFormat c => c.wf 0x0204
  | .carrierGain c => c.wf 0x0205
  | .prachConfig c => c.wf 0x0210
  | .carrierStatus c => c.wf 0x0220
  | .loMode c => c.wf 0x0300
  | .arrayArm c => c.wf 0x0302
  | .qloTrim c => c.wf 0x0303
  | .chainSet c => c.wf 0x0310
  | .orxConfig c => c.wf 0x0311
  | .cfrConfig c => c.wf 0x0312
  | .cfrPulse c => c.wf 0x0313
  | .beamBlockClaim c => c.wf 0x0400
  | .beamBlockRelease c => c.wf 0x0401
  | .wsetDeclare c => c.wf 0x0402
  | .wsetWrite c => c.wf 0x0403
  | .beamWrite c => c.wf 0x0404
  | .steer c => c.wf 0x0405
  | .bfShift c => c.wf 0x0406
  | .beamDefault c => c.wf 0x0407
  | .geomWrite c => c.wf 0x0408
  | .pdConfig c => c.wf 0x0500
  | .pdChain c _ => c.wf 0x0501
  | .pdBankWrite c => c.wf 0x0502
  | .pdCommit c _ => c.wf 0x0503
  | .pdPost c => c.wf 0x0504
  | .pdRollback c => c.wf 0x0505
  | .pdStatus c => c.wf 0x0506
  | .pdAdapt c => c.wf 0x0510
  | .calEnable c => c.wf 0x0600
  | .calConfig c => c.wf 0x0601
  | .calJob c => c.wf 0x0602
  | .calAbort c => c.wf 0x0603
  | .calReadCorr c => c.wf 0x0604
  | .calFactoryCommit c => c.wf 0x0610
  | .slotWrite c => c.wf 0x0700
  | .slotMu c => c.wf 0x0701
  | .slotCopy c => c.wf 0x0702
  | .slotCommit c => c.wf 0x0710
  | .slotCancel c => c.wf 0x0711
  | .frameConfig c => c.wf 0x0720
  | .timeSet c => c.wf 0x0730
  | .timeGet c => c.wf 0x0731
  | .servoConfig c => c.wf 0x0732
  | .timeSelect c => c.wf 0x0733
  | .ppsConfig c => c.wf 0x0734
  | .stateGet c => c.wf 0x0801
  | .thermConfig c => c.wf 0x0810
  | .thermRead c => c.wf 0x0811
  | .larkRule c => c.wf 0x0812
  | .regRead c => c.wf 0x0900
  | .regWrite c => c.wf 0x0901
  | .memRead c _ => c.wf 0x0902
  | .memWrite c _ => c.wf 0x0903
  | .smemPartition c => c.wf 0x0904
  | .bankRetire c => c.wf 0x0910
  | .fwStage c => c.wf 0x0A00
  | .fwActivate c => c.wf 0x0A01
  | .fwStatus c => c.wf 0x0A02
  | .attest c => c.wf 0x0A10
  | .sessionOpen c => c.wf 0x0A20
  | .sessionFinish c => c.wf 0x0A21
  | .sessionClose c => c.wf 0x0A22
  | .credEnroll c => c.wf 0x0A30
  | .credRevoke c => c.wf 0x0A31
  | .cascadeDiscover c _ => c.wf 0x0B00
  | .daAssign c => c.wf 0x0B01
  | .cascadeMap c => c.wf 0x0B02
  | .treePlan c => c.wf 0x0B03
  | .treeCommit c => c.wf 0x0B04
  | .cascadeStatus c => c.wf 0x0B05
  | .hgControl c => c.wf 0x0B10
  | .capture c => c.wf 0x0C00
  | .captureAbort c => c.wf 0x0C01
  | .playback c => c.wf 0x0C02
  | .selftest c _ _ => c.wf 0x0C10
  | .kernelMode c => c.wf 0x0D00
  | .kernelLoad c => c.wf 0x0D01
  | .kernelStart c => c.wf 0x0D02
  | .kernelHalt c => c.wf 0x0D03
  | .kernelDoorbell c => c.wf 0x0D04
  | .kernelStatus c => c.wf 0x0D05
  | .eventSubscribe c => c.wf 0x0E00
  | .logRead c => c.wf 0x0E01
  | .faultRead c => c.wf 0x0E02
  | .bootLoad c => c.wf 0x0A40
  | .bootGo c => c.wf 0x0A41
  | .bootRequest => true
  | .registerWrite mid _ _ => mid < 256
  | .txEnWrite ch _ => ch < 64
  | .rxEnWrite ch _ => ch < 64
  | .txMuteWrite ch _ => ch < 64
  | .rxMuteWrite ch _ => ch < 64
  | .rxProtWrite ch _ => ch < 64
  | .txPowerUpDone ch => ch < 64
  | .rxPowerUpDone ch => ch < 64
  | .symbolBoundary _ cs _ _ => cs < 8
  | .frameBoundary _ => true
  | .convRelockTimeout q => q < 4
  | .arrArmWrite => true
  | .arrsyncEdge => true
  | .loModeWrite _ => true
  | .tuneGo => true
  | .synCalDone syn => syn < 2
  | .synCalTimeout syn => syn < 2
  | .switchOver => true
  | .switchOverTransientEnd => true
  | .quietWindowRetune => true
  | .bandSettleDone q => q < 4
  | .tuneWaitTimeout => true
  | .loUnlock id => id < 6
  | .loDrift syn => syn < 2
  | .mirrorRecalibration => true
  | .quadrantRelock q _ => q < 4
  | .convUnlock q => q < 4
  | .csRfCommit _ cs _ => cs < 8
  | .captureGo k => k < 8
  | .orxselDrive k => k < 8
  | .captureStart k _ _ => k < 8
  | .captureDone k => k < 8
  | .captureTimeout k => k < 8
  | .capAbortWrite k => k < 8
  | .playbackStart => true
  | .playbackStop => true
  | .pdEnableWrite ch _ _ => ch < 64
  | .pdCmdGo ch tgt _ => ch < 64 && tgt < 8
  | .pdCmdRollback ch => ch < 64
  | .pdAclPost ch _ => ch < 64
  | .fadeStep ch => ch < 64
  | .fadeComplete ch => ch < 64
  | .verifyTimeout ch => ch < 64
  | .evaluatorResidueMismatch ch => ch < 64
  | .csEnWrite _ cs _ => cs < 8
  | .slotCtrlCommit => true
  | .slotCheckDone => true
  | .slotCtrlCancel => true
  | .slotCtrlCopy => true
  | .slotCopyDone => true
  | .prachOccasion o _ => o < 4
  | .prachRowsWritten o => o < 4
  | .prachBeamsWritten o => o < 4
  | .readoutStart cs _ => cs < 8
  | .planInstant _ cs => cs < 8
  | .pageHoldExpiry id => id < 4096
  | .wsCfgWrite ws _ => ws < 16
  | .blGo => true
  | .steerGo => true
  | .steerComputeDone => true
  | .geomDataWrite _ => true
  | .columnResidueMismatch a _ cs k => a < 64 && cs < 8 && k < 3300
  | .hgEnWrite p _ => p < 4
  | .hgPartnerClockDetect p => p < 4
  | .hgTrainStepDone p _ => p < 4
  | .hgTrainTimeout p => p < 4
  | .hgCapRecord p _ => p < 4
  | .latfix p _ => p < 4
  | .hgLaneFail p lane _ _ => p < 4 && lane < 25
  | .laneDrop p _ _ => p < 4
  | .laneAck p _ _ => p < 4
  | .laneAckTimeout p => p < 4
  | .laneRepairInstant p => p < 4
  | .idleReqWrite p _ => p < 4
  | .eidle p => p < 4
  | .exitBurstDetect p => p < 4
  | .fastExitDone p _ _ => p < 4
  | .retrain p => p < 4
  | .downNotice p => p < 4
  | .forwardedClockLost p => p < 4
  | .crossingSlip c => c.wf
  | .ulUnitAdd cs _ _ _ _ _ _ => cs < 8
  | .sumCheckBlock port cs _ _ _ _ _ _ => port < 4 && cs < 8
  | .broadcastPass cs _ _ => cs < 8
  | .broadcastUnitReceive cs _ _ _ _ _ _ => cs < 8
  | .prachSumSend o _ _ _ => o < 4
  | .sideFrameReceive port _ _ _ _ _ _ _ _ => port < 4
  | .daAssignReceive _ _ => true
  | .timeFrameReceive _ _ => true
  | .timeFrameTimeout => true
  | .upPortLossTimeout => true
  | .cascCommit => true
  | .cascCancel => true
  | .hpLinkChange e _ _ => e < 8
  | .hpFrameReceive e _ _ _ _ _ _ => e < 8
  | .hp1FrameForward _ _ _ => true
  | .iqDataMessage _ _ => true
  | .sectionMessage _ _ => true
  | .ulBurstPost cs _ _ => cs < 8
  | .prachRowLaunch o => o < 4
  | .lqPost => true
  | .launchInstant e => e < 8
  | .ethrefLoss => true
  | .refclkLoss => true
  | .tuSnap => true
  | .tuStep => true
  | .timeStepApply => true
  | .forceValid => true
  | .servoSample x e => x < 2 && e < 8
  | .srvCfgWrite x _ => x < 2
  | .servoHoldoverTimeout x => x < 2
  | .freqSlewPeriod => true
  | .vcxoUpdate => true
  | .vcEnWrite _ => true
  | .synceGate _ => true
  | .synceLost => true
  | .ppsOutEdge => true
  | .ppsInEdge _ => true
  | .seqEdge q _ _ e => q < 4 && e < 1120
  | .seqEnWrite _ => true
  | .adacLock => true
  | .adacLd _ => true
  | .adacCodeWrite n _ => n < 80
  | .adacldEdge => true
  | .adacclrNChange _ => true
  | .deglitchHoldEnd n => n < 80
  | .inputQualifiedEdge _ _ => true
  | .chatterWindowEnd _ => true
  | .inputStuck _ => true
  | .rearm _ _ => true
  | .faultClear _ => true
  | .calEnWrite _ => true
  | .calRecordCheckDone => true
  | .calGo => true
  | .calGoAbort => true
  | .calMeasurementPost _ _ => true
  | .calJobTimeout => true
  | .fdStart n _ => n < 8
  | .fdHalt n => n < 8
  | .fdReset n => n < 8
  | .fdDbWrite n _ => n < 8
  | .fdOwnerWrite mid n _ _ => mid < 256 && n < 8
  | .bundle n _ _ => n < 8
  | .farLoadComplete n _ _ => n < 8
  | .fdWatchdog n => n < 8
  | .fabricAccess mid _ _ _ _ => mid < 256
  | .arbiterDecision _ _ => true
  | .maintenanceCycle m bank _ _ => m < 5 && bank < memBanks m
  | .patrolRead m bank _ => m < 5 && bank < memBanks m
  | .memRetireGo bank => bank < 64
  | .retireCopyDone => true
  | .dmaGo c => c < 32
  | .dmaAbort c => c < 32
  | .dmaResume c => c < 32
  | .dmaBurst _ _ _ _ _ => true
  | .dmaRequest _ _ => true
  | .drainRequest _ _ => true
  | .drainTimeout _ => true
  | .stileRead mid _ => mid < 256
  | .stileRelease mid _ => mid < 256
  | .stileClean mid _ => mid < 256
  | .stileForce mid _ => mid < 256
  | .dvfsStep => true
  | .vsetTimeout => true
  | .dvfsWrite x _ => x < 3
  | .miSrcWrite _ => true
  | .fallowQuietInstant _ => true
  | .fallowGate => true
  | .larkEvaluation _ _ _ _ => true
  | .wake _ _ => true
  | .pllLock => true
  | .hushReached => true
  | .sensorConversion n _ => n < 24
  | .shutdownGate => true
  | .throttleStep => true
  | .faultReport _ _ _ _ _ _ mid => mid < 256
  | .faultUnitClr _ => true
  | .fmSafeForce mid => mid < 256
  | .supplyFault mon => mon < 13
  | .debugUnlock _ => true
  | .fwReady => true
  | .fwActivateTimeout => true
  | .resetNLow _ => true
  | .resetRelease _ _ => true
  | .imageLoaded _ _ => true
  | .bootPllTimeout => true
  | .bootReady _ _ => true
  | .convPllRelock q => q < 4
  | .farStoreComplete n _ => n < 8
  | .sentinelClear m b => m < 5 && b < memBanks m
  | .larkPowerOnReset => true
  | .resetSelfRelease => true
  | .ethrefRestore => true

end Sys2Proof
end

