-- ==== Sys2Proof/Tests/Slice0.lean ====
section
/-! SUPPORT. Small tests of single steps, and for every statement with hypotheses a state and operands that meet them. -/

set_option maxRecDepth 100000

namespace Sys2Proof.Tests

open Sys2Proof Sys2Proof.Machine

/-! ### Well-formedness: an ill-formed term for each check, which the check refuses -/

/-- A command whose opcode is that of no row. -/
def badCmd : Cmd where
  via := .host
  session := 0
  opcode := 0xFFFF
  tag := 0
  seq := 0
  noReply := false
  target := 0
  acceptedAt := 0
  src := 0
  payload := []

theorem test_command_header_is_checked : badCmd.wf 0 = false ∧ ({ badCmd with session := 256 }).wf 0xFFFF = false ∧
    ({ badCmd with tag := 65536 }).wf 0xFFFF = false ∧ ({ badCmd with target := 256 }).wf 0xFFFF = false ∧ badCmd.wf 0xFFFF = true := by decide

theorem test_crossing_is_checked : ∀ c ∈ [Crossing.ci 4, .gi 4, .fi 256 0, .mi 256 0, .di 256 0], c.wf = false := by decide

theorem test_wf_refuses_1 : ∀ i ∈ [Instr.queueAgeTimeout 4,
      Instr.eventQueueRoom 16 0,
      Instr.sessionOpeningTimeout 16,
      Instr.sessionIdleTimeout 16,
      Instr.muteAll badCmd,
      Instr.paOff badCmd,
      Instr.chainMute badCmd,
      Instr.tune badCmd,
      Instr.stateSet badCmd,
      Instr.ping badCmd,
      Instr.ident badCmd,
      Instr.reset badCmd,
      Instr.unfreeze badCmd,
      Instr.freezeList badCmd,
      Instr.carrierClaim badCmd,
      Instr.carrierRelease badCmd,
      Instr.carrierConfig badCmd,
      Instr.carrierEnable badCmd,
      Instr.carrierUlFormat badCmd,
      Instr.carrierGain badCmd], i.wf = false := by decide

theorem test_wf_refuses_2 : ∀ i ∈ [Instr.prachConfig badCmd,
      Instr.carrierStatus badCmd,
      Instr.loMode badCmd,
      Instr.arrayArm badCmd,
      Instr.qloTrim badCmd,
      Instr.chainSet badCmd,
      Instr.orxConfig badCmd,
      Instr.cfrConfig badCmd,
      Instr.cfrPulse badCmd,
      Instr.beamBlockClaim badCmd,
      Instr.beamBlockRelease badCmd,
      Instr.wsetDeclare badCmd,
      Instr.wsetWrite badCmd,
      Instr.beamWrite badCmd,
      Instr.steer badCmd,
      Instr.bfShift badCmd,
      Instr.beamDefault badCmd,
      Instr.geomWrite badCmd,
      Instr.pdConfig badCmd,
      Instr.pdChain badCmd []], i.wf = false := by decide

theorem test_wf_refuses_3 : ∀ i ∈ [Instr.pdBankWrite badCmd,
      Instr.pdCommit badCmd [],
      Instr.pdPost badCmd,
      Instr.pdRollback badCmd,
      Instr.pdStatus badCmd,
      Instr.pdAdapt badCmd,
      Instr.calEnable badCmd,
      Instr.calConfig badCmd,
      Instr.calJob badCmd,
      Instr.calAbort badCmd,
      Instr.calReadCorr badCmd,
      Instr.calFactoryCommit badCmd,
      Instr.slotWrite badCmd,
      Instr.slotMu badCmd,
      Instr.slotCopy badCmd,
      Instr.slotCommit badCmd,
      Instr.slotCancel badCmd,
      Instr.frameConfig badCmd,
      Instr.timeSet badCmd,
      Instr.timeGet badCmd], i.wf = false := by decide

theorem test_wf_refuses_4 : ∀ i ∈ [Instr.servoConfig badCmd,
      Instr.timeSelect badCmd,
      Instr.ppsConfig badCmd,
      Instr.stateGet badCmd,
      Instr.thermConfig badCmd,
      Instr.thermRead badCmd,
      Instr.larkRule badCmd,
      Instr.regRead badCmd,
      Instr.regWrite badCmd,
      Instr.memRead badCmd [],
      Instr.memWrite badCmd [],
      Instr.smemPartition badCmd,
      Instr.bankRetire badCmd,
      Instr.fwStage badCmd,
      Instr.fwActivate badCmd,
      Instr.fwStatus badCmd,
      Instr.attest badCmd,
      Instr.sessionOpen badCmd,
      Instr.sessionFinish badCmd,
      Instr.sessionClose badCmd], i.wf = false := by decide

theorem test_wf_refuses_5 : ∀ i ∈ [Instr.credEnroll badCmd,
      Instr.credRevoke badCmd,
      Instr.cascadeDiscover badCmd [],
      Instr.daAssign badCmd,
      Instr.cascadeMap badCmd,
      Instr.treePlan badCmd,
      Instr.treeCommit badCmd,
      Instr.cascadeStatus badCmd,
      Instr.hgControl badCmd,
      Instr.capture badCmd,
      Instr.captureAbort badCmd,
      Instr.playback badCmd,
      Instr.selftest badCmd 0 0,
      Instr.kernelMode badCmd,
      Instr.kernelLoad badCmd,
      Instr.kernelStart badCmd,
      Instr.kernelHalt badCmd,
      Instr.kernelDoorbell badCmd,
      Instr.kernelStatus badCmd,
      Instr.eventSubscribe badCmd], i.wf = false := by decide

theorem test_wf_refuses_6 : ∀ i ∈ [Instr.logRead badCmd,
      Instr.faultRead badCmd,
      Instr.bootLoad badCmd,
      Instr.bootGo badCmd,
      Instr.registerWrite 256 0 0,
      Instr.txEnWrite 64 true,
      Instr.rxEnWrite 64 true,
      Instr.txMuteWrite 64 true,
      Instr.rxMuteWrite 64 true,
      Instr.rxProtWrite 64 true,
      Instr.txPowerUpDone 64,
      Instr.rxPowerUpDone 64,
      Instr.symbolBoundary .dl 8 [] [],
      Instr.convRelockTimeout 4,
      Instr.synCalDone 2,
      Instr.synCalTimeout 2,
      Instr.bandSettleDone 4,
      Instr.loUnlock 6,
      Instr.loDrift 2,
      Instr.quadrantRelock 4 true], i.wf = false := by decide

theorem test_wf_refuses_7 : ∀ i ∈ [Instr.convUnlock 4,
      Instr.csRfCommit .dl 8 0,
      Instr.captureGo 8,
      Instr.orxselDrive 8,
      Instr.captureStart 8 [] [],
      Instr.captureDone 8,
      Instr.captureTimeout 8,
      Instr.capAbortWrite 8,
      Instr.pdEnableWrite 64 true [],
      Instr.pdCmdGo 64 0 [],
      Instr.pdCmdGo 0 8 [],
      Instr.pdCmdRollback 64,
      Instr.pdAclPost 64 0,
      Instr.fadeStep 64,
      Instr.fadeComplete 64,
      Instr.verifyTimeout 64,
      Instr.evaluatorResidueMismatch 64,
      Instr.csEnWrite .dl 8 true,
      Instr.prachOccasion 4 [],
      Instr.prachRowsWritten 4], i.wf = false := by decide

theorem test_wf_refuses_8 : ∀ i ∈ [Instr.prachBeamsWritten 4,
      Instr.readoutStart 8 [],
      Instr.planInstant .dl 8,
      Instr.pageHoldExpiry 4096,
      Instr.wsCfgWrite 16 0,
      Instr.columnResidueMismatch 64 .dl 0 0,
      Instr.columnResidueMismatch 0 .dl 8 0,
      Instr.columnResidueMismatch 0 .dl 0 3300,
      Instr.hgEnWrite 4 true,
      Instr.hgPartnerClockDetect 4,
      Instr.hgTrainStepDone 4 .exchanged,
      Instr.hgTrainTimeout 4,
      Instr.hgCapRecord 4 0,
      Instr.latfix 4 [],
      Instr.hgLaneFail 4 0 0 true,
      Instr.hgLaneFail 0 25 0 true,
      Instr.laneDrop 4 0 0,
      Instr.laneAck 4 0 0,
      Instr.laneAckTimeout 4,
      Instr.laneRepairInstant 4], i.wf = false := by decide

theorem test_wf_refuses_9 : ∀ i ∈ [Instr.idleReqWrite 4 true,
      Instr.eidle 4,
      Instr.exitBurstDetect 4,
      Instr.fastExitDone 4 true [],
      Instr.retrain 4,
      Instr.downNotice 4,
      Instr.forwardedClockLost 4,
      Instr.crossingSlip (.ci 4),
      Instr.ulUnitAdd 8 0 0 0 [] [] [],
      Instr.sumCheckBlock 4 0 0 0 0 true true none,
      Instr.sumCheckBlock 0 8 0 0 0 true true none,
      Instr.broadcastPass 8 0 0,
      Instr.broadcastUnitReceive 8 0 0 0 true none [],
      Instr.prachSumSend 4 [] [] 0,
      Instr.sideFrameReceive 4 0 0 0 0 [] true true none,
      Instr.hpLinkChange 8 true true,
      Instr.hpFrameReceive 8 [] 0 0 true 0 true,
      Instr.ulBurstPost 8 0 0,
      Instr.prachRowLaunch 4,
      Instr.launchInstant 8], i.wf = false := by decide

theorem test_wf_refuses_10 : ∀ i ∈ [Instr.servoSample 2 0,
      Instr.servoSample 0 8,
      Instr.srvCfgWrite 2 0,
      Instr.servoHoldoverTimeout 2,
      Instr.seqEdge 4 .bias 0 0,
      Instr.seqEdge 0 .bias 0 1120,
      Instr.adacCodeWrite 80 0,
      Instr.deglitchHoldEnd 80,
      Instr.fdStart 8 true,
      Instr.fdHalt 8,
      Instr.fdReset 8,
      Instr.fdDbWrite 8 0,
      Instr.fdOwnerWrite 256 0 true 0,
      Instr.fdOwnerWrite 0 8 true 0,
      Instr.bundle 8 0 [],
      Instr.farLoadComplete 8 true [],
      Instr.fdWatchdog 8,
      Instr.fabricAccess 256 0 0 none [],
      Instr.maintenanceCycle 5 0 true .clean,
      Instr.maintenanceCycle 0 64 true .clean], i.wf = false := by decide

theorem test_wf_refuses_11 : ∀ i ∈ [Instr.patrolRead 5 0 .clean,
      Instr.patrolRead 0 64 .clean,
      Instr.memRetireGo 64,
      Instr.dmaGo 32,
      Instr.dmaAbort 32,
      Instr.dmaResume 32,
      Instr.stileRead 256 0,
      Instr.stileRelease 256 0,
      Instr.stileClean 256 0,
      Instr.stileForce 256 0,
      Instr.dvfsWrite 3 0,
      Instr.sensorConversion 24 0,
      Instr.faultReport 0 0 0 0 0 0 256,
      Instr.fmSafeForce 256,
      Instr.supplyFault 13,
      Instr.convPllRelock 4,
      Instr.farStoreComplete 8 true,
      Instr.sentinelClear 5 0,
      Instr.sentinelClear 0 64], i.wf = false := by decide


/-! ### For each statement with hypotheses, states and operands that meet them, one clause after the other -/

/-- A command of session 0 on the host port with a payload. -/
def cmdOf (l : List Byte) : Cmd where
  via := .host
  session := 0
  opcode := 0
  tag := 0
  seq := 0
  noReply := false
  target := 0
  acceptedAt := 0
  src := 0
  payload := l

/-- A command with a payload of `n` bytes, those listed set and the others zero. -/
def cmdN (n : Nat) (l : List (Nat × Nat)) : Cmd :=
  cmdOf ((List.range n).map fun i => BitVec.ofNat 8 (((l.find? fun e => e.1 == i).map (·.2)).getD 0))
/-- Window 0 of a master opened over the whole address space. -/
def openWin (s : State) (m : Nat) : State :=
  (((s.put (R.WIN1_EN m 0) 1).put (R.WIN1_SIZE m 0) 32).put (R.WIN1_W m 0) 1).put (R.WIN1_R m 0) 1
/-- The state of a write that is taken. -/
def wrOk (w : Wr) (s : State) : State :=
  match w with
  | .ok u => u
  | _ => s

/-- A CalJobX with every field at its least value. -/
def mkCalJobX : CalJobX where
  kind := 0
  qmask := 0
  sensor := 0
  wait := 0
  start := none
  goFrame := 0
  goAt := 0
  cmd := none
  todo := []
  got := []
  from0 := 0
  snap := []
  spoilt := false
  marked := false

/-- A FarLoad with every field at its least value. -/
def mkFarLoad : FarLoad where
  op := 0
  dst := 0
  addr := 0
  issued := 0
  pc := 0

/-- A FarStore with every field at its least value. -/
def mkFarStore : FarStore where
  addr := 0
  bytes := []
  pc := 0

/-- A FwJob with every field at its least value. -/
def mkFwJob : FwJob where
  cmd := none
  at_ := 0
  version := 0
  svn := 0
  hash := 0
  advance := false

/-- A LqEntry with every field at its least value. -/
def mkLqEntry : LqEntry where
  queue := 0
  at_ := 0
  first := false
  oneStep := none
  bytes := []

/-- A Flip with every field at its least value. -/
def mkFlip : Flip where
  id := 0
  d := 0
  cs := 0
  atEn := false
  frame := 0
  sym := 0
  src := .none

/-- A LqItem with every field at its least value. -/
def mkLqItem : LqItem where
  flip := mkFlip
  vec := []
  steer := none

/-- A OpenSym with every field at its least value. -/
def mkOpenSym : OpenSym where
  frame := 0
  sym := 0
  start := 0
  fin := 0
  act := 0
  grid := 0

/-- A Packet with every field at its least value. -/
def mkPacket : Packet where
  kind := 0
  opcode := 0
  tag := 0
  session := 0
  da := 0
  seq := 0
  status := 0
  hint := 0
  payload := []
  mac := []
  dest := 0

/-- A Plan with every field at its least value. -/
def mkPlan : Plan where
  d := 0
  cs := 0
  frame := 0
  sym := 0
  passEnd := 0
  items := []
  vecs := []

/-- A PlanItem with every field at its least value. -/
def mkPlanItem : PlanItem where
  layer := 0
  p0 := 0
  p1 := 0
  src := .zero
  gran := 0
  groups := 0

/-- A PlanSwap with every field at its least value. -/
def mkPlanSwap : PlanSwap where
  frame := 0
  at_ := 0
  cmd := none

/-- A PwrMove with every field at its least value. -/
def mkPwrMove : PwrMove where
  source := 0
  target := 0
  qgate := 0
  chgate := 0
  gateAt := 0
  gated := false
  ungate := 0
  quietAt := none
  draining := false
  rest := []
  cmd := none

/-- A Repair with every field at its least value. -/
def mkRepair : Repair where
  lanes := 0
  at0 := 0
  acked := false
  instant := 0

/-- A Retire with every field at its least value. -/
def mkRetire : Retire where
  bank := 0
  spare := 0
  start := 0
  next := 0
  cmd := none

/-- A SectRec with every field at its least value. -/
def mkSectRec : SectRec where
  d := 0
  cs := 0
  frame := 0
  sym := 0
  num := 0
  layer := 0
  p0 := 0
  p1 := 0
  ref := 0

/-- A SteerReq with every field at its least value. -/
def mkSteerReq : SteerReq where
  w0 := 0
  w1 := 0
  w2 := 0
  job := none

/-- A SteerBusy with every field at its least value. -/
def mkSteerBusy : SteerBusy where
  req := mkSteerReq
  start := 0
  geom := []
  code := 0
  stalled := false

/-- A SteerGeom with every field at its least value. -/
def mkSteerGeom : SteerGeom where
  use := false
  x := 0
  y := 0
  z := 0
  corr := (0, 0)
  taper := 0

/-- A SumFrame with every field at its least value. -/
def mkSumFrame : SumFrame where
  cs := 0
  frame := 0
  sym := 0
  rows := []
  flags := []
  unit := 0
  tails := []

/-- A Tune with every field at its least value. -/
def mkTune : Tune where
  cmd := none
  n := 0
  f := 0
  divs := []
  qmask := 0
  atEn := false
  frame := 0
  recal := false
  wait := 0
  goFrame := 0
  syn := 0
  wasN := 0
  wasF := 0
  phase := .calibrating
  doneAt := 0

/-- A UlSym with every field at its least value. -/
def mkUlSym : UlSym where
  cs := 0
  frame := 0
  sym := 0
  start := 0
  fin := 0
  mu := 0
  log2n := 0
  rb := 0
  shift := 0
  adv := 0
  theta := none
  dg := 0
  act := 0
  zero := 0
  own := 0
  slip := 0
  mac := 0
  fmt := 0
  bins := none

/-- A WakeX with every field at its least value. -/
def mkWakeX : WakeX where
  src := 0
  rule := 0
  active := false
  at_ := 0
  err := 0
  ms := 0
  stage := 0

/-- A state for clause 0 of IdleStepPassesOneCycle. -/
def wit2s0 : State :=
  let s := State.reset
  let s := { s with lo.armJob := none }
  let s := { s with th.resetAt := none }
  s
/-- A state for clause 1 of IdleStepPassesOneCycle. -/
def wit2s1 : State :=
  let s := State.reset
  let s := { s with lo.armJob := some ((cmdOf [])) }
  let s := { s with lo.armDeadline := 0 }
  let s := { s with th.resetAt := none }
  s
theorem test_idle_step_passes_one_cycle_hypotheses :
    (wit2s0.pending = [] ∧ wit2s0.lo.armJob = none ∧ wit2s0.th.resetAt = none) ∧
    (wit2s1.pending = [] ∧ wit2s1.lo.armJob = some ((cmdOf [])) ∧ wit2s1.lo.armDeadline = 0 ∧ 0 ≤ wit2s1.now + 1 ∧ wit2s1.th.resetAt = none) :=
  ⟨by decide,
   by decide⟩

theorem test_every_command_keeps_the_queue_hypotheses :
    (Sys2Proof.Machine.exec .spiRead State.reset = .next State.reset) :=
  by rfl

theorem test_every_step_keeps_canonical_form_hypotheses :
    (State.reset.canonical = true ∧ Sys2Proof.Machine.step State.reset = .next ({ State.reset with now := 1 })) :=
  ⟨by decide, rfl⟩

theorem test_reset_state_hypotheses :
    (0 < 64) ∧
    (0 < 8) ∧
    (0 < 16) ∧
    (0 < 16) :=
  ⟨by decide,
   by decide,
   by decide,
   by decide⟩

/-- A helper of the witnesses of CommandPacketIsCheckedAndQueued. -/
def pingBytes (x da : Nat) : List Byte :=
  [0x10, 1, 0, 0, 0, BitVec.ofNat 8 x, BitVec.ofNat 8 da, 0, 0, 0, 0, 0, 0, 0, 0, 0]
/-- A helper of the witnesses of CommandPacketIsCheckedAndQueued. -/
def muteBytes : List Byte := [0x10, 0x0F, 0, 0, 0, 0xFF, 0, 0, 4, 0, 0, 0, 0, 0, 0, 0, 0, 0, 0, 0]
/-- A state for clause 0 of CommandPacketIsCheckedAndQueued. -/
def wit7s0 : State :=
  let s := State.reset
  let s := s.put (R.PWR_STATUS_STATE_NOW) (3)
  s
/-- A state for clause 2 of CommandPacketIsCheckedAndQueued. -/
def wit7s2 : State :=
  let s := State.reset
  let s := { s with boot := .ready }
  let s := s.put (R.SESS_STAT_STATE 0) sessOpen
  s
/-- A state for clause 3 of CommandPacketIsCheckedAndQueued. -/
def wit7s3 : State :=
  let s := State.reset
  let s := { s with boot := .ready }
  let s := s.put (R.CASC_STATUS_DA) (((readHeader muteBytes).cmd ((.spi : Via)) 0 s.now).target)
  let s := { s with boot := .ready }
  let s := s.put R.CASC_STATUS_DA 0
  let s := s.put R.CMD_CFG_SPI_URGENT 1
  s
/-- A state for clause 4 of CommandPacketIsCheckedAndQueued. -/
def wit7s4 : State :=
  let s := State.reset
  let s := { s with boot := .ready }
  let s := s.put (R.CASC_STATUS_DA) (((readHeader (pingBytes 0xFF 0)).cmd ((.host : Via)) 0 s.now).target)
  let s := { s with boot := .ready }
  let s := s.put R.CASC_STATUS_DA 0
  let s := { s with fe.q2 := List.replicate 128 (cmdOf []) }
  s
/-- A state for clause 5 of CommandPacketIsCheckedAndQueued. -/
def wit7s5 : State :=
  let s := State.reset
  let s := { s with boot := .ready }
  let s := s.put (R.CASC_STATUS_DA) (((readHeader (pingBytes 0xFF 0)).cmd ((.host : Via)) 0 s.now).target)
  let s := { s with boot := .ready }
  let s := s.put R.CASC_STATUS_DA 0
  let s := { s with fe.q2 := List.replicate 97 (cmdOf []) }
  s
/-- A state for clause 6 of CommandPacketIsCheckedAndQueued. -/
def wit7s6 : State :=
  let s := State.reset
  let s := { s with boot := .ready }
  let s := s.put (R.CASC_STATUS_DA) (((readHeader (pingBytes 0xFF 0)).cmd ((.host : Via)) 0 s.now).target)
  let s := { s with boot := .ready }
  let s := s.put R.CASC_STATUS_DA 0
  s
theorem test_command_packet_is_checked_and_queued_hypotheses :
    (wit7s0.pwrState = 3) ∧
    (State.reset.pwrState ≠ 3 ∧ ((readHeader (([] : List Byte))).bad (([] : List Byte)).length = true ∨ (readHeader (([] : List Byte))).kind ≠ 0)) ∧
    (wit7s2.pwrState ≠ 3 ∧ (readHeader (pingBytes 0 0)).bad (pingBytes 0 0).length = false ∧ (readHeader (pingBytes 0 0)).kind = 0 ∧ wit7s2.boot = .ready ∧
    wit7s2.wrongPort ((readHeader (pingBytes 0 0)).cmd ((.spi : Via)) 0 wit7s2.now) = true) ∧
    (wit7s3.pwrState ≠ 3 ∧ (readHeader muteBytes).bad muteBytes.length = false ∧ (readHeader muteBytes).kind = 0 ∧ wit7s3.boot = .ready ∧
    wit7s3.wrongPort ((readHeader muteBytes).cmd ((.spi : Via)) 0 wit7s3.now) = false ∧ (readHeader muteBytes).status = 0 ∧
    (readHeader muteBytes).hint = 0 ∧
    wit7s3.authentic ((readHeader muteBytes).cmd ((.spi : Via)) 0 wit7s3.now) (readHeader muteBytes) muteBytes = (wit7s3, true) ∧
    opRow ((readHeader muteBytes).cmd ((.spi : Via)) 0 wit7s3.now).opcode = some (({ opcode := 0x0F00, queue := 0, who := .any } : OpRow)) ∧
    ((readHeader muteBytes).cmd ((.spi : Via)) 0 wit7s3.now).target = wit7s3.ownDa ∧
    ((readHeader muteBytes).cmd ((.spi : Via)) 0 wit7s3.now).target < 64 ∧
    wit7s3.permitted ((readHeader muteBytes).cmd ((.spi : Via)) 0 wit7s3.now) (({ opcode := 0x0F00, queue := 0, who := .any } : OpRow)) = true ∧
    (({ opcode := 0x0F00, queue := 0, who := .any } : OpRow)).queue = 0) ∧
    (wit7s4.pwrState ≠ 3 ∧ (readHeader (pingBytes 0xFF 0)).bad (pingBytes 0xFF 0).length = false ∧ (readHeader (pingBytes 0xFF 0)).kind = 0 ∧
    wit7s4.boot = .ready ∧ wit7s4.wrongPort ((readHeader (pingBytes 0xFF 0)).cmd ((.host : Via)) 0 wit7s4.now) = false ∧
    (readHeader (pingBytes 0xFF 0)).status = 0 ∧ (readHeader (pingBytes 0xFF 0)).hint = 0 ∧
    wit7s4.authentic ((readHeader (pingBytes 0xFF 0)).cmd ((.host : Via)) 0 wit7s4.now) (readHeader (pingBytes 0xFF 0)) (pingBytes 0xFF 0) = (wit7s4, true) ∧
    opRow ((readHeader (pingBytes 0xFF 0)).cmd ((.host : Via)) 0 wit7s4.now).opcode = some (({ opcode := 0x0100, queue := 2, who := .free } : OpRow)) ∧
    ((readHeader (pingBytes 0xFF 0)).cmd ((.host : Via)) 0 wit7s4.now).target = wit7s4.ownDa ∧
    ((readHeader (pingBytes 0xFF 0)).cmd ((.host : Via)) 0 wit7s4.now).target < 64 ∧
    wit7s4.permitted ((readHeader (pingBytes 0xFF 0)).cmd ((.host : Via)) 0 wit7s4.now) (({ opcode := 0x0100, queue := 2, who := .free } : OpRow)) = true ∧
    (({ opcode := 0x0100, queue := 2, who := .free } : OpRow)).queue ≠ 0 ∧
    (admission (({ opcode := 0x0100, queue := 2, who := .free } : OpRow)).queue).1 ≤ (wit7s4.heldIn (({ opcode := 0x0100, queue := 2, who := .free } : OpRow)).queue).length) ∧
    (wit7s5.pwrState ≠ 3 ∧ (readHeader (pingBytes 0xFF 0)).bad (pingBytes 0xFF 0).length = false ∧ (readHeader (pingBytes 0xFF 0)).kind = 0 ∧
    wit7s5.boot = .ready ∧ wit7s5.wrongPort ((readHeader (pingBytes 0xFF 0)).cmd ((.host : Via)) 0 wit7s5.now) = false ∧
    (readHeader (pingBytes 0xFF 0)).status = 0 ∧ (readHeader (pingBytes 0xFF 0)).hint = 0 ∧
    wit7s5.authentic ((readHeader (pingBytes 0xFF 0)).cmd ((.host : Via)) 0 wit7s5.now) (readHeader (pingBytes 0xFF 0)) (pingBytes 0xFF 0) = (wit7s5, true) ∧
    opRow ((readHeader (pingBytes 0xFF 0)).cmd ((.host : Via)) 0 wit7s5.now).opcode = some (({ opcode := 0x0100, queue := 2, who := .free } : OpRow)) ∧
    ((readHeader (pingBytes 0xFF 0)).cmd ((.host : Via)) 0 wit7s5.now).target = wit7s5.ownDa ∧
    ((readHeader (pingBytes 0xFF 0)).cmd ((.host : Via)) 0 wit7s5.now).target < 64 ∧
    wit7s5.permitted ((readHeader (pingBytes 0xFF 0)).cmd ((.host : Via)) 0 wit7s5.now) (({ opcode := 0x0100, queue := 2, who := .free } : OpRow)) = true ∧
    (({ opcode := 0x0100, queue := 2, who := .free } : OpRow)).queue ≠ 0 ∧
    (wit7s5.heldIn (({ opcode := 0x0100, queue := 2, who := .free } : OpRow)).queue).length < (admission (({ opcode := 0x0100, queue := 2, who := .free } : OpRow)).queue).1 ∧
    0 < wit7s5.excess ((readHeader (pingBytes 0xFF 0)).cmd ((.host : Via)) 0 wit7s5.now) (({ opcode := 0x0100, queue := 2, who := .free } : OpRow)).queue) ∧
    (wit7s6.pwrState ≠ 3 ∧ (readHeader (pingBytes 0xFF 0)).bad (pingBytes 0xFF 0).length = false ∧ (readHeader (pingBytes 0xFF 0)).kind = 0 ∧
    wit7s6.boot = .ready ∧ wit7s6.wrongPort ((readHeader (pingBytes 0xFF 0)).cmd ((.host : Via)) 0 wit7s6.now) = false ∧
    (readHeader (pingBytes 0xFF 0)).status = 0 ∧ (readHeader (pingBytes 0xFF 0)).hint = 0 ∧
    wit7s6.authentic ((readHeader (pingBytes 0xFF 0)).cmd ((.host : Via)) 0 wit7s6.now) (readHeader (pingBytes 0xFF 0)) (pingBytes 0xFF 0) = (wit7s6, true) ∧
    opRow ((readHeader (pingBytes 0xFF 0)).cmd ((.host : Via)) 0 wit7s6.now).opcode = some (({ opcode := 0x0100, queue := 2, who := .free } : OpRow)) ∧
    ((readHeader (pingBytes 0xFF 0)).cmd ((.host : Via)) 0 wit7s6.now).target = wit7s6.ownDa ∧
    ((readHeader (pingBytes 0xFF 0)).cmd ((.host : Via)) 0 wit7s6.now).target < 64 ∧
    wit7s6.permitted ((readHeader (pingBytes 0xFF 0)).cmd ((.host : Via)) 0 wit7s6.now) (({ opcode := 0x0100, queue := 2, who := .free } : OpRow)) = true ∧
    (({ opcode := 0x0100, queue := 2, who := .free } : OpRow)).queue ≠ 0 ∧
    (wit7s6.heldIn (({ opcode := 0x0100, queue := 2, who := .free } : OpRow)).queue).length < (admission (({ opcode := 0x0100, queue := 2, who := .free } : OpRow)).queue).1 ∧
    wit7s6.excess ((readHeader (pingBytes 0xFF 0)).cmd ((.host : Via)) 0 wit7s6.now) (({ opcode := 0x0100, queue := 2, who := .free } : OpRow)).queue = 0) :=
  ⟨by decide,
   by decide,
   by decide,
   by decide,
   by decide,
   by decide,
   by decide⟩

/-- A helper of the witnesses of SequenceWindow. -/
def macState : State := State.reset.put (R.SESS_STAT_STATE 0) sessOpen
/-- A helper of the witnesses of SequenceWindow. -/
def macHeader : Header :=
  { readHeader [0x18, 1, 0, 0, 0, 0, 0, 0, 0, 0, 0, 0, 1, 0, 0, 0] with mac := Config.hmacTag (macState.session 0).kCmd [] }
/-- A state for clause 1 of SequenceWindow. -/
def wit8s1 : State :=
  let s := State.reset
  let s := macState
  s
/-- A state for clause 3 of SequenceWindow. -/
def wit8s3 : State :=
  let s := State.reset
  let s := s.modSession 0 fun x => { x with seqHi := 0xFFFFFFFF }
  s
theorem test_sequence_window_hypotheses :
    (Session.empty.seqOk 1 = true) ∧
    (({ cmdOf [] with seq := 1 }).session < 16 ∧ ({ cmdOf [] with seq := 1 }).via ≠ .cascade ∧
    wit8s1.sessState ({ cmdOf [] with seq := 1 }).session = sessOpen ∧ wit8s1.tagOk ({ cmdOf [] with seq := 1 }) macHeader (([] : List Byte)) = true ∧
    ({ cmdOf [] with seq := 1 }).session < wit8s1.fe.sess.length ∧
    (wit8s1.session ({ cmdOf [] with seq := 1 }).session).seqOk ({ cmdOf [] with seq := 1 }).seq = true) ∧
    (({ cmdOf [] with seq := 0 }).session < 16 ∧ ({ cmdOf [] with seq := 0 }).via ≠ .cascade ∧
    wit8s1.sessState ({ cmdOf [] with seq := 0 }).session = sessOpen ∧ wit8s1.tagOk ({ cmdOf [] with seq := 0 }) macHeader (([] : List Byte)) = true ∧
    ({ cmdOf [] with seq := 0 }).session < wit8s1.fe.sess.length ∧
    (wit8s1.session ({ cmdOf [] with seq := 0 }).session).seqOk ({ cmdOf [] with seq := 0 }).seq = false) ∧
    (({ cmdOf [] with seq := 0xFFFFFFFF }).via ≠ .cascade ∧ ({ cmdOf [] with seq := 0xFFFFFFFF }).session < 16 ∧
    ({ cmdOf [] with seq := 0xFFFFFFFF }).seq = 0xFFFFFFFF ∧ (wit8s3.session ({ cmdOf [] with seq := 0xFFFFFFFF }).session).seqHi = 0xFFFFFFFF) :=
  ⟨by decide,
   ⟨by decide, by decide, by decide, by show (true && (Config.hmacTag (macState.session 0).kCmd [] == Config.hmacTag (macState.session 0).kCmd [])) = true; rw [beq_self_eq_true]; rfl, by decide, by decide⟩,
   ⟨by decide, by decide, by decide, by show (true && (Config.hmacTag (macState.session 0).kCmd [] == Config.hmacTag (macState.session 0).kCmd [])) = true; rw [beq_self_eq_true]; rfl, by decide, by decide⟩,
   by decide⟩

/-- A state for clause 0 of DispatchTakesQ1ThenQ2FourToOne. -/
def wit9s0 : State :=
  let s := State.reset
  let s := { s with fe.stopped := true }
  s
/-- A state for clause 1 of DispatchTakesQ1ThenQ2FourToOne. -/
def wit9s1 : State :=
  let s := State.reset
  let s := { s with fe.stopped := false }
  let s := { s with boot := .ready }
  let s := { s with fe.q1 := (cmdOf []) :: (([] : List Cmd)) }
  s
/-- A state for clause 2 of DispatchTakesQ1ThenQ2FourToOne. -/
def wit9s2 : State :=
  let s := State.reset
  let s := { s with fe.q1 := ((cmdOf [])) :: (([] : List Cmd)) }
  s
/-- A state for clause 3 of DispatchTakesQ1ThenQ2FourToOne. -/
def wit9s3 : State :=
  let s := State.reset
  let s := { s with fe.q1 := [] }
  s
theorem test_dispatch_takes_q1_then_q2_four_to_one_hypotheses :
    ((wit9s0.fe.stopped = true ∨ wit9s0.boot ≠ .ready ∨ (wit9s0.fe.q1 = [] ∧ wit9s0.fe.q2 = [] ∧ wit9s0.fe.q3 = []))) ∧
    (wit9s1.fe.stopped = false ∧ wit9s1.boot = .ready ∧ wit9s1.nextQueue = some (1, 0) ∧ wit9s1.waiting 1 = (cmdOf []) :: (([] : List Cmd))) ∧
    (1 ≤ 1 ∧ 1 ≤ 3 ∧ wit9s2.waiting 1 = ((cmdOf [])) :: (([] : List Cmd))) ∧
    (wit9s3.waiting 1 = [] ∧ 1 ≤ 1 ∧ 1 ≤ 3) :=
  ⟨by decide,
   by decide,
   by decide,
   by decide⟩

/-- A state for clause 0 of PacketsLeaveWhenThereIsRoom. -/
def wit11s0 : State :=
  let s := State.reset
  let s := { s with fe.spiOut := (mkPacket : Packet) :: (([] : List Packet)) }
  s
/-- A state for clause 1 of PacketsLeaveWhenThereIsRoom. -/
def wit11s1 : State :=
  let s := State.reset
  let s := { s with fe.spiOut := [] }
  s
/-- A state for clause 2 of PacketsLeaveWhenThereIsRoom. -/
def wit11s2 : State :=
  let s := State.reset
  let s := s.modSession (0) fun x => { x with replies := (mkPacket : Packet) :: (([] : List Packet)) }
  s
/-- A state for clause 3 of PacketsLeaveWhenThereIsRoom. -/
def wit11s3 : State :=
  let s := State.reset
  let s := s.modSession (15) fun x => { x with replies := ({ mkPacket with payload := List.replicate 65536 0 } : Packet) :: (([] : List Packet)) }
  s
/-- A state for clause 4 of PacketsLeaveWhenThereIsRoom. -/
def wit11s4 : State :=
  let s := State.reset
  let s := { s with fe.noSess := (mkPacket : Packet) :: (([] : List Packet)) }
  s
/-- A state for clause 5 of PacketsLeaveWhenThereIsRoom. -/
def wit11s5 : State :=
  let s := State.reset
  let s := { s with fe.noSess := ({ mkPacket with payload := List.replicate 65536 0 } : Packet) :: (([] : List Packet)) }
  s
/-- A state for clause 6 of PacketsLeaveWhenThereIsRoom. -/
def wit11s6 : State :=
  let s := State.reset
  let s := s.modSession (0) fun x => { x with lost := 0 }
  s
/-- A state for clause 7 of PacketsLeaveWhenThereIsRoom. -/
def wit11s7 : State :=
  let s := State.reset
  let s := s.modSession 0 fun x => { x with lost := 1 }
  s
theorem test_packets_leave_when_there_is_room_hypotheses :
    (wit11s0.fe.spiOut = (mkPacket : Packet) :: (([] : List Packet))) ∧
    (wit11s1.fe.spiOut = []) ∧
    (0 < 16 ∧ 0 < wit11s2.fe.sess.length ∧ (wit11s2.session 0).replies = (mkPacket : Packet) :: (([] : List Packet)) ∧
    wit11s2.spiHeld + (mkPacket : Packet).size ≤ 65536) ∧
    (15 < 16 ∧ 15 < wit11s3.fe.sess.length ∧
    (wit11s3.session 15).replies = ({ mkPacket with payload := List.replicate 65536 0 } : Packet) :: (([] : List Packet)) ∧
    65536 < wit11s3.spiHeld + ({ mkPacket with payload := List.replicate 65536 0 } : Packet).size) ∧
    (16 ≤ 16 ∧ wit11s4.fe.noSess = (mkPacket : Packet) :: (([] : List Packet)) ∧ wit11s4.spiHeld + (mkPacket : Packet).size ≤ 65536) ∧
    (16 ≤ 16 ∧ wit11s5.fe.noSess = ({ mkPacket with payload := List.replicate 65536 0 } : Packet) :: (([] : List Packet)) ∧
    65536 < wit11s5.spiHeld + ({ mkPacket with payload := List.replicate 65536 0 } : Packet).size) ∧
    (0 < 16 ∧ 0 < wit11s6.fe.sess.length ∧ (wit11s6.session 0).lost = 0) ∧
    (0 < 16 ∧ 0 < wit11s7.fe.sess.length ∧ (wit11s7.session 0).lost ≠ 0 ∧ (wit11s7.session 0).events.length - 0 < 256) :=
  ⟨by decide,
   by decide,
   by decide,
   ⟨by decide, by decide, rfl, by refine Nat.lt_of_lt_of_le ?_ (Nat.le_add_left _ _); simp only [Packet.size, List.length_replicate]; omega⟩,
   by decide,
   ⟨by decide, rfl, by refine Nat.lt_of_lt_of_le ?_ (Nat.le_add_left _ _); simp only [Packet.size, List.length_replicate]; omega⟩,
   by decide,
   by decide⟩

/-- A state for clause 0 of SessionsTimeOutAndClose. -/
def wit12s0 : State :=
  let s := State.reset
  let s := s.put R.CASC_STATUS_ROLE 0
  let s := s.put (R.SESS_STAT_STATE 0) (sessOpening)
  s
/-- A state for clause 2 of SessionsTimeOutAndClose. -/
def wit12s2 : State :=
  let s := State.reset
  let s := s.put R.CASC_STATUS_ROLE 0
  let s := s.put (R.SESS_STAT_STATE 0) (sessOpen)
  let s := s.put (R.CMD_CFG_IDLE_S) 1
  s
theorem test_sessions_time_out_and_close_hypotheses :
    (0 < 16 ∧ 0 < wit12s0.fe.sess.length ∧ wit12s0.worker = false ∧ wit12s0.sessState 0 = sessOpening) ∧
    ((State.reset.sessState 0 ≠ sessOpening ∨ State.reset.worker = true)) ∧
    (wit12s2.worker = false ∧ (wit12s2.sessState 0 = sessOpen ∨ wit12s2.sessState 0 = sessFrozen) ∧ wit12s2.get R.CMD_CFG_IDLE_S ≠ 0) ∧
    (((State.reset.sessState 0 ≠ sessOpen ∧ State.reset.sessState 0 ≠ sessFrozen) ∨ State.reset.get R.CMD_CFG_IDLE_S = 0 ∨ State.reset.worker = true)) :=
  ⟨by decide,
   by decide,
   by decide,
   by decide⟩

/-- A state for clause 4 of RepliesAndCompletions. -/
def wit13s4 : State :=
  let s := State.reset
  let s := s.put (R.SESS_STAT_STATE ((cmdOf [])).session) (sessOpen)
  s
theorem test_replies_and_completions_hypotheses :
    (((({ cmdOf [] with noReply := true }).noReply = true ∧ Status.ok = .ok) ∨ (({ cmdOf [] with noReply := true }).session < 16 ∧
    State.reset.sessState ({ cmdOf [] with noReply := true }).session = sessClosed))) ∧
    (({ cmdOf [] with session := 255 }).via ≠ .spi ∧ (({ cmdOf [] with session := 255 }).noReply = false ∨ Status.ok ≠ .ok) ∧
    (16 ≤ ({ cmdOf [] with session := 255 }).session ∨ State.reset.sessState ({ cmdOf [] with session := 255 }).session ≠ sessClosed)) ∧
    ((∀ x, R.CMD_CNT0 ≠ R.SESS_STAT x)) ∧
    ((16 ≤ ((cmdOf [])).session ∨ (State.reset.sessState ((cmdOf [])).session ≠ sessOpen ∧ State.reset.sessState ((cmdOf [])).session ≠ sessFrozen))) ∧
    (((cmdOf [])).session < 16 ∧ (wit13s4.sessState ((cmdOf [])).session = sessOpen ∨ wit13s4.sessState ((cmdOf [])).session = sessFrozen)) :=
  ⟨by decide,
   by decide,
   by intro x; unfold R.SESS_STAT R.CMD_CNT0; omega,
   by decide,
   by decide⟩

/-- A state for clause 2 of EventsGoToTheirSessions. -/
def wit14s2 : State :=
  let s := State.reset
  let s := s.modSession (0) fun x => { x with lost := 0 }
  s
/-- A state for clause 3 of EventsGoToTheirSessions. -/
def wit14s3 : State :=
  let s := State.reset
  let s := s.modSession 0 fun x => { x with lost := 1 }
  s
/-- A state for clause 4 of EventsGoToTheirSessions. -/
def wit14s4 : State :=
  let s := State.reset
  let s := s.put R.CASC_STATUS_ROLE 1
  s
theorem test_events_go_to_their_sessions_hypotheses :
    ((∀ x, x < 16 → 0 ≠ R.SESS_STAT x) ∧ 0 ≠ R.CMD_CNT3) ∧
    ((∀ x, x < 16 → State.reset.receives (Event.ready 0) x = false)) ∧
    (0 < 16 ∧ 0 < wit14s2.fe.sess.length ∧ wit14s2.sessVia 0 = .host ∧ (wit14s2.session 0).events.length < 256 ∧ (wit14s2.session 0).lost = 0) ∧
    (0 < 16 ∧ 0 < wit14s3.fe.sess.length ∧ wit14s3.sessVia 0 = .host ∧ ((wit14s3.session 0).events.length ≥ 256 ∨ (wit14s3.session 0).lost ≠ 0)) ∧
    (wit14s4.sessVia 0 = .cascade) :=
  ⟨by decide,
   by decide,
   by decide,
   by decide,
   by decide⟩

theorem test_urgent_opcodes_mute_the_array_hypotheses :
    ((cmdN 4 [(0, 1)]).num 1 3 = 0 ∧ (cmdN 4 [(0, 1)]).byte 0 ≤ 1 ∧ State.reset.chains.length = 64 ∧ (cmdN 4 [(0, 1)]).size = 4 ∧
    ((cmdN 4 [(0, 1)]).byte 0 = 0 → State.reset.priv (cmdN 4 [(0, 1)]) = true)) ∧
    ((cmdN 12 [(0, 1), (11, 1)]).num 1 3 = 0 ∧ (cmdN 12 [(0, 1), (11, 1)]).byte 0 ≤ 1 ∧ State.reset.chains.length = 64 ∧
    (cmdN 12 [(0, 1), (11, 1)]).size = 12 ∧ (cmdN 12 [(0, 1), (11, 1)]).num 4 8 ≠ 0 ∧
    ((cmdN 12 [(0, 1), (11, 1)]).byte 0 = 0 → State.reset.priv (cmdN 12 [(0, 1), (11, 1)]) = true)) ∧
    ((cmdN 4 [(0, 0)]).num 1 3 = 0 ∧ (cmdN 4 [(0, 0)]).byte 0 ≤ 1 ∧ State.reset.chains.length = 64 ∧ (cmdN 4 [(0, 0)]).byte 0 = 0 ∧
    State.reset.priv (cmdN 4 [(0, 0)]) = false ∧ (cmdN 4 [(0, 0)]).size = 4) ∧
    ((cmdN 12 [(11, 1)]).num 1 3 = 0 ∧ (cmdN 12 [(11, 1)]).byte 0 ≤ 1 ∧ State.reset.chains.length = 64 ∧ (cmdN 12 [(11, 1)]).byte 0 = 0 ∧
    State.reset.priv (cmdN 12 [(11, 1)]) = false ∧ (cmdN 12 [(11, 1)]).size = 12 ∧ (cmdN 12 [(11, 1)]).num 4 8 ≠ 0) :=
  ⟨by decide,
   by decide,
   by decide,
   by decide⟩

/-- A state for clause 1 of ChainEnables. -/
def wit16s1 : State :=
  let s := State.reset
  let s := s.modChain (0) fun x => { x with txUp := some (0) }
  s
/-- A state for clause 2 of ChainEnables. -/
def wit16s2 : State :=
  let s := State.reset
  let s := s.modChain (0) fun x => { x with txUp := none }
  s
/-- A state for clause 3 of ChainEnables. -/
def wit16s3 : State :=
  let s := State.reset
  let s := s.modChain (0) fun x => { x with rxUp := some (0) }
  s
/-- A state for clause 4 of ChainEnables. -/
def wit16s4 : State :=
  let s := State.reset
  let s := s.modChain (0) fun x => { x with rxUp := none }
  s
/-- A state for clause 5 of ChainEnables. -/
def wit16s5 : State :=
  let s := State.reset
  let s := { s with pw.move := none }
  s
theorem test_chain_enables_hypotheses :
    (0 < 64 ∧ State.reset.chains.length = 64) ∧
    (0 < 64 ∧ wit16s1.chains.length = 64 ∧ (wit16s1.chain 0).txUp ≠ none) ∧
    (0 < 64 ∧ wit16s2.chains.length = 64 ∧ (wit16s2.chain 0).txUp = none) ∧
    (0 < 64 ∧ wit16s3.chains.length = 64 ∧ (wit16s3.chain 0).rxUp ≠ none) ∧
    (0 < 64 ∧ wit16s4.chains.length = 64 ∧ (wit16s4.chain 0).rxUp = none) ∧
    (wit16s5.pw.move = none) :=
  ⟨by decide,
   by decide,
   by decide,
   by decide,
   by decide,
   by decide⟩

theorem test_chain_mutes_and_protection_hypotheses :
    (0 < 64 ∧ State.reset.chains.length = 64) :=
  by decide

/-- A state for clause 3 of CorrectionsSlewToTheirShadows. -/
def wit18s3 : State :=
  let s := State.reset
  let s := s.put (R.CS_CFG_EN_NOW (dirIx .dl) 0) 1
  let s := s.put (R.CS_CFG_QMASK (dirIx .dl) 0) 15
  s
/-- A state for clause 4 of CorrectionsSlewToTheirShadows. -/
def wit18s4 : State :=
  let s := State.reset
  let s := s.put (R.CS_CFG_EN_NOW (dirIx .ul) 0) 1
  let s := s.put (R.CS_CFG_QMASK (dirIx .ul) 0) 15
  s
theorem test_corrections_slew_to_their_shadows_hypotheses :
    (63 < 64 ∧ ((R.TX_IQ_PHASE 63, 16)) ∈ [(R.TX_IQ_PHASE 63, 16), (R.TX_IQ_GAIN 63, 16), (R.TX_LOL_LOL_Q 63, 4), (R.TX_LOL_LOL_I 63, 4)]) ∧
    (63 < 64 ∧ ((R.RX_IQ_GAIN 63, 16)) ∈ [(R.RX_IQ_PHASE 63, 16), (R.RX_IQ_GAIN 63, 16)]) ∧
    (63 < 64 ∧ (State.reset.applyTx 63) ∈ [State.reset.applyTx 63, State.reset.applyRx 63]) ∧
    (0 < 64 ∧ wit18s3.activeOn .dl (quadOf 0) ≠ [] ∧ (R.TX_IQ 0) ∈ [R.TX_IQ 0, R.TX_LOL 0]) ∧
    (0 < 64 ∧ wit18s4.activeOn .ul (quadOf 0) ≠ []) :=
  ⟨by decide,
   by decide,
   by decide,
   by decide,
   by decide⟩

/-- A state for clause 0 of BoundariesOpenSymbolsAndEnableSlots. -/
def wit19s0 : State :=
  let s := State.reset
  let s := s.put (R.CS_CFG_EN_NOW (dirIx ((.dl : Dir))) 0) 1
  s
/-- A state for clause 1 of BoundariesOpenSymbolsAndEnableSlots. -/
def wit19s1 : State :=
  let s := State.reset
  let s := s.put (R.CS_CFG_EN_NOW (dirIx ((.dl : Dir))) 0) 0
  s
/-- A state for clause 2 of BoundariesOpenSymbolsAndEnableSlots. -/
def wit19s2 : State :=
  let s := State.reset
  let s := s.put (R.CS_CFG_EN_NOW (dirIx ((.dl : Dir))) 0) 0
  let s := { s with bound.syms := updAt s.bound.syms 0 fun _ => some mkOpenSym }
  s
theorem test_boundaries_open_symbols_and_enable_slots_hypotheses :
    (0 < 8 ∧ wit19s0.bound.syms.length = 16 ∧ wit19s0.active ((.dl : Dir)) 0 = true) ∧
    (0 < 8 ∧ wit19s1.bound.syms.length = 16 ∧ wit19s1.active ((.dl : Dir)) 0 = false ∧ wit19s1.openSym ((.dl : Dir)) 0 = none) ∧
    (0 < 8 ∧ wit19s2.bound.syms.length = 16 ∧ wit19s2.active ((.dl : Dir)) 0 = false ∧ wit19s2.openSym ((.dl : Dir)) 0 ≠ none) ∧
    (State.reset.bound.frameAt.length = 2) :=
  ⟨by decide,
   by decide,
   by decide,
   by decide⟩

/-- A state for clause 0 of SlotTableWritesGoToTheShadowBank. -/
def wit20s0 : State :=
  let s := State.reset
  let s := s.put (R.SLOT_STATUS_BANK_ACT) (1)
  let s := s.put R.SLOT_STATUS_BANK_ACT 1
  s
/-- A state for clause 1 of SlotTableWritesGoToTheShadowBank. -/
def wit20s1 : State :=
  let s := State.reset
  let s := s.put (R.SLOT_STATUS_CHECK_BUSY) 1
  s
/-- A state for clause 2 of SlotTableWritesGoToTheShadowBank. -/
def wit20s2 : State :=
  let s := State.reset
  let s := s.put (R.SLOT_STATUS_CHECK_BUSY) 0
  let s := s.put (R.SLOT_STATUS_COMMIT_PEND) 0
  let s := s.put (R.SLOT_STATUS_COPY_BUSY) 0
  s
theorem test_slot_table_writes_go_to_the_shadow_bank_hypotheses :
    (1 < 2 ∧ ((R.SLOT_TBL 1 2047) = R.SLOT_MU 1 ∨ ∃ e, e < 2048 ∧ (R.SLOT_TBL 1 2047) = R.SLOT_TBL 1 e) ∧ 1 = wit20s0.bank) ∧
    (1 < 2 ∧ ((R.SLOT_TBL 1 2047) = R.SLOT_MU 1 ∨ ∃ e, e < 2048 ∧ (R.SLOT_TBL 1 2047) = R.SLOT_TBL 1 e) ∧ 1 ≠ wit20s1.bank ∧
    (wit20s1.flag R.SLOT_STATUS_CHECK_BUSY = true ∨ wit20s1.flag R.SLOT_STATUS_COMMIT_PEND = true ∨ wit20s1.flag R.SLOT_STATUS_COPY_BUSY = true)) ∧
    (1 < 2 ∧ ((R.SLOT_MU 1) = R.SLOT_MU 1 ∨ ∃ e, e < 2048 ∧ (R.SLOT_MU 1) = R.SLOT_TBL 1 e) ∧ 1 ≠ wit20s2.bank ∧
    wit20s2.flag R.SLOT_STATUS_CHECK_BUSY = false ∧ wit20s2.flag R.SLOT_STATUS_COMMIT_PEND = false ∧ wit20s2.flag R.SLOT_STATUS_COPY_BUSY = false) ∧
    (0x0700 ∈ [0x0700, 0x0701, 0x0702, 0x0710, 0x0711]) :=
  ⟨⟨by decide, .inr ⟨2047, by decide, rfl⟩, by decide⟩,
   ⟨by decide, .inr ⟨2047, by decide, rfl⟩, by decide, by decide⟩,
   ⟨by decide, .inl rfl, by decide, by decide, by decide, by decide⟩,
   by decide⟩

/-- A state for clause 0 of SlotTableCommitCancelCopy. -/
def wit21s0 : State :=
  let s := State.reset
  let s := s.put (R.SLOT_STATUS_CHECK_BUSY) 1
  s
/-- A state for clause 1 of SlotTableCommitCancelCopy. -/
def wit21s1 : State :=
  let s := State.reset
  let s := s.put (R.SLOT_STATUS_CHECK_BUSY) 0
  let s := s.put (R.SLOT_STATUS_COMMIT_PEND) 0
  let s := s.put (R.SLOT_STATUS_COPY_BUSY) 1
  s
/-- A state for clause 2 of SlotTableCommitCancelCopy. -/
def wit21s2 : State :=
  let s := State.reset
  let s := { s with slot.checkAt := none }
  let s := { s with slot.job := none }
  s
/-- A state for clause 3 of SlotTableCommitCancelCopy. -/
def wit21s3 : State :=
  let s := State.reset
  let s := { s with slot.checkAt := some 0 }
  let s := { s with slot.job := none }
  let s := { s with slot.checkFail := some 0 }
  s
/-- A state for clause 4 of SlotTableCommitCancelCopy. -/
def wit21s4 : State :=
  let s := State.reset
  let s := { s with slot.checkAt := some 0 }
  let s := { s with slot.job := none }
  let s := { s with slot.checkFail := none }
  let s := { s with slot.cancelWaits := false }
  s
/-- A state for clause 5 of SlotTableCommitCancelCopy. -/
def wit21s5 : State :=
  let s := State.reset
  let s := { s with slot.checkAt := some 0 }
  let s := { s with slot.job := none }
  let s := { s with slot.checkFail := none }
  let s := { s with slot.cancelWaits := true }
  s
/-- A state for clause 7 of SlotTableCommitCancelCopy. -/
def wit21s7 : State :=
  let s := State.reset
  let s := s.put (R.SLOT_STATUS_CHECK_BUSY) 0
  let s := { s with slot.swapAt := none }
  s
/-- A state for clause 8 of SlotTableCommitCancelCopy. -/
def wit21s8 : State :=
  let s := State.reset
  let s := s.put (R.SLOT_STATUS_CHECK_BUSY) 0
  let s := { s with slot.swapAt := some 0 }
  s
/-- A state for clause 9 of SlotTableCommitCancelCopy. -/
def wit21s9 : State :=
  let s := State.reset
  let s := s.put (R.SLOT_STATUS_CHECK_BUSY) 0
  let s := { s with slot.swapAt := some 24576 }
  s
/-- A state for clause 10 of SlotTableCommitCancelCopy. -/
def wit21s10 : State :=
  let s := State.reset
  let s := s.put (R.SLOT_STATUS_CHECK_BUSY) 0
  let s := s.put (R.SLOT_STATUS_COMMIT_PEND) 0
  let s := s.put (R.SLOT_STATUS_COPY_BUSY) 0
  s
/-- A state for clause 11 of SlotTableCommitCancelCopy. -/
def wit21s11 : State :=
  let s := State.reset
  let s := { s with slot.copyAt := none }
  s
/-- A state for clause 12 of SlotTableCommitCancelCopy. -/
def wit21s12 : State :=
  let s := State.reset
  let s := { s with slot.copyAt := some 0 }
  let s := { s with slot.commitWaits := false }
  s
theorem test_slot_table_commit_cancel_copy_hypotheses :
    ((wit21s0.flag R.SLOT_STATUS_CHECK_BUSY = true ∨ wit21s0.flag R.SLOT_STATUS_COMMIT_PEND = true)) ∧
    (wit21s1.flag R.SLOT_STATUS_CHECK_BUSY = false ∧ wit21s1.flag R.SLOT_STATUS_COMMIT_PEND = false ∧ wit21s1.flag R.SLOT_STATUS_COPY_BUSY = true) ∧
    (wit21s2.slot.checkAt = none ∧ wit21s2.slot.job = none) ∧
    (wit21s3.slot.checkAt = some 0 ∧ wit21s3.slot.job = none ∧ wit21s3.slot.checkFail = some 0 ∧ 0 < 2048) ∧
    (wit21s4.slot.checkAt = some 0 ∧ wit21s4.slot.job = none ∧ wit21s4.slot.checkFail = none ∧ wit21s4.slot.cancelWaits = false) ∧
    (wit21s5.slot.checkAt = some 0 ∧ wit21s5.slot.job = none ∧ wit21s5.slot.checkFail = none ∧ wit21s5.slot.cancelWaits = true) ∧
    (wit21s0.flag R.SLOT_STATUS_CHECK_BUSY = true) ∧
    (wit21s7.flag R.SLOT_STATUS_CHECK_BUSY = false ∧ wit21s7.slot.swapAt = none) ∧
    (wit21s8.flag R.SLOT_STATUS_CHECK_BUSY = false ∧ wit21s8.slot.swapAt = some 0 ∧ 0 < wit21s8.now + 24576) ∧
    (wit21s9.flag R.SLOT_STATUS_CHECK_BUSY = false ∧ wit21s9.slot.swapAt = some 24576 ∧ wit21s9.now + 24576 ≤ 24576) ∧
    (wit21s10.flag R.SLOT_STATUS_CHECK_BUSY = false ∧ wit21s10.flag R.SLOT_STATUS_COMMIT_PEND = false ∧ wit21s10.flag R.SLOT_STATUS_COPY_BUSY = false ∧
    wit21s10.bank < 2) ∧
    (wit21s11.slot.copyAt = none) ∧
    (wit21s12.slot.copyAt = some 0 ∧ wit21s12.bank < 2 ∧ wit21s12.slot.commitWaits = false) :=
  ⟨by decide,
   by decide,
   by decide,
   by decide,
   by decide,
   by decide,
   by decide,
   by decide,
   by decide,
   by decide,
   by decide,
   by decide,
   by decide⟩

/-- A state for clause 0 of CarrierSlotEnable. -/
def wit22s0 : State :=
  let s := State.reset
  let s := s.put (R.CS_CFG_EN (dirIx ((.dl : Dir))) 0) 1
  s
/-- A state for clause 1 of CarrierSlotEnable. -/
def wit22s1 : State :=
  let s := State.reset
  let s := s.put (R.CS_CFG_EN (dirIx ((.dl : Dir))) 7) 1
  let s := s.put (R.CS_CFG_EN 0 7) 1
  s
/-- A state for clause 2 of CarrierSlotEnable. -/
def wit22s2 : State :=
  let s := State.reset
  let s := s.put (R.CS_CFG_EN (dirIx ((.dl : Dir))) 0) 0
  s
theorem test_carrier_slot_enable_hypotheses :
    (0 < 8 ∧ wit22s0.slotEn ((.dl : Dir)) 0 = true) ∧
    (7 < 8 ∧ wit22s1.slotEn ((.dl : Dir)) 7 ≠ false ∧ (false = true → wit22s1.enCheck ((.dl : Dir)) 7 = 0)) ∧
    (0 < 8 ∧ true = true ∧ wit22s2.slotEn ((.dl : Dir)) 0 = false ∧ wit22s2.enCheck ((.dl : Dir)) 0 ≠ 0) :=
  ⟨by decide,
   by decide,
   by decide⟩

/-- A state for clause 1 of TuneSubmission. -/
def wit23s1 : State :=
  let s := State.reset
  let s := ((s.put R.TUNE_CFG_N 20).put R.LO_STATUS_ALIGNED 1).put R.TUNE_CFG_QMASK 15
  let s := { s with lo.hasLo := 15 }
  let s := s.put R.SYN_N_SYNA_N 20
  s
/-- A state for clause 2 of TuneSubmission. -/
def wit23s2 : State :=
  let s := State.reset
  let s := ((s.put R.TUNE_CFG_N 20).put R.LO_STATUS_ALIGNED 1).put R.TUNE_CFG_QMASK 15
  let s := s.put R.PWR_STATUS_STATE_NOW 2
  s
/-- A state for clause 3 of TuneSubmission. -/
def wit23s3 : State :=
  let s := State.reset
  let s := ((s.put R.TUNE_CFG_N 20).put R.LO_STATUS_ALIGNED 1).put R.TUNE_CFG_QMASK 15
  let s := { s with lo.tune := none }
  let s := s.put R.LO_CTRL_MODE 0
  s
/-- A state for clause 4 of TuneSubmission. -/
def wit23s4 : State :=
  let s := State.reset
  let s := { s with lo.tune := some ({ mkTune with phase := .window } : Tune) }
  let s := s.put R.LO_STATUS_ALIGNED 1
  s
/-- A state for clause 6 of TuneSubmission. -/
def wit23s6 : State :=
  let s := State.reset
  let s := { s with lo.tune := some ({ mkTune with phase := .boundary } : Tune) }
  let s := { s with lo.waiting := none }
  s
theorem test_tune_submission_hypotheses :
    ((State.reset.afterRetune).tuneCheck (State.reset.stagedTune none) true ≠ .ok) ∧
    ((wit23s1.afterRetune).tuneCheck (wit23s1.stagedTune none) true = .ok ∧ (wit23s1.afterRetune).tuneIdle (wit23s1.stagedTune none) = true) ∧
    ((wit23s2.afterRetune).tuneCheck (wit23s2.stagedTune none) true = .ok ∧ (wit23s2.afterRetune).tuneIdle (wit23s2.stagedTune none) = false ∧
    wit23s2.radioPowered = false) ∧
    (wit23s3.tuneCheck (wit23s3.stagedTune none) true = .ok ∧ wit23s3.tuneIdle (wit23s3.stagedTune none) = false ∧ wit23s3.radioPowered = true ∧
    wit23s3.lo.tune = none ∧ wit23s3.recovering = false ∧ wit23s3.split = false ∧ wit23s3.synState wit23s3.standby ≠ synOos ∧
    (wit23s3.synState wit23s3.standby = synReady → (wit23s3.syn wit23s3.standby).job ≠ .tune)) ∧
    (wit23s4.lo.tune = some ({ mkTune with phase := .window } : Tune) ∧ ({ mkTune with phase := .window } : Tune).phase = .window ∧
    ({ mkTune with phase := .window } : Tune).syn < 2 ∧ wit23s4.aligned = true ∧ wit23s4.synState ({ mkTune with phase := .window } : Tune).syn ≠ synOos ∧
    wit23s4.findWindow (if wit23s4.split then ({ mkTune with phase := .window } : Tune).qmask else 15) (wit23s4.tuneDeadline ({ mkTune with phase := .window } : Tune)) 20000 wit23s4.now = some 35328) ∧
    ((∀ t, State.reset.lo.tune = some t → t.phase ≠ .window)) ∧
    (wit23s6.lo.tune = some ({ mkTune with phase := .boundary } : Tune) ∧
    (({ mkTune with phase := .boundary } : Tune).phase = .boundary ∨ ({ mkTune with phase := .boundary } : Tune).phase = .window) ∧
    wit23s6.lo.waiting = none) ∧
    ((∀ t, State.reset.lo.tune = some t → t.phase ≠ .window ∧ t.phase ≠ .boundary)) :=
  ⟨by decide,
   by decide,
   by decide,
   by decide,
   by decide,
   by decide,
   by decide,
   by decide⟩

/-- A state for clause 0 of SwitchOverOfSynthesisers. -/
def wit24s0 : State :=
  let s := State.reset
  let s := { s with cal.job := none }
  s
/-- A state for clause 1 of SwitchOverOfSynthesisers. -/
def wit24s1 : State :=
  let s := State.reset
  let s := { s with lo.tune := some ({ mkTune with phase := .boundary } : Tune) }
  let s := s.put R.LO_CTRL_MODE 0
  let s := s.setSyn (({ mkTune with phase := .boundary } : Tune).syn) (synReady)
  s
/-- A state for clause 2 of SwitchOverOfSynthesisers. -/
def wit24s2 : State :=
  let s := State.reset
  let s := { s with lo.tune := some ({ mkTune with phase := .transient } : Tune) }
  let s := { s with lo.waiting := none }
  s
/-- A state for clause 4 of SwitchOverOfSynthesisers. -/
def wit24s4 : State :=
  let s := State.reset
  let s := { s with lo.tune := none }
  let s := { s with lo.settleEnd := updAt s.lo.settleEnd 0 fun _ => some 0 }
  s
/-- A state for clause 7 of SwitchOverOfSynthesisers. -/
def wit24s7 : State :=
  let s := State.reset
  let s := s.put R.PWR_STATUS_QGATE 8
  s
theorem test_switch_over_of_synthesisers_hypotheses :
    ((∀ t, wit24s0.lo.tune = some t → t.phase ≠ .boundary) ∧ (wit24s0.lo.tune = none → wit24s0.lo.swapPend = false) ∧ wit24s0.cal.job = none) ∧
    (wit24s1.lo.tune = some ({ mkTune with phase := .boundary } : Tune) ∧ ({ mkTune with phase := .boundary } : Tune).phase = .boundary ∧
    ({ mkTune with phase := .boundary } : Tune).syn < 2 ∧ wit24s1.split = false ∧
    wit24s1.synState ({ mkTune with phase := .boundary } : Tune).syn = synReady ∧
    wit24s1.findSwitch ((List.range 4).filter fun q => ({ mkTune with phase := .boundary } : Tune).qmask.testBit q || wit24s1.tuned q) (wit24s1.bandMoves ((List.range 4).filter fun q => ({ mkTune with phase := .boundary } : Tune).qmask.testBit q || wit24s1.tuned q) ({ mkTune with phase := .boundary } : Tune).code) (if ({ mkTune with phase := .boundary } : Tune).atEn then (wit24s1.frameStart (frameFrom ({ mkTune with phase := .boundary } : Tune).goFrame ({ mkTune with phase := .boundary } : Tune).frame)).toNat else 0) 4096 (max (max (wit24s1.now - 1) ((if ({ mkTune with phase := .boundary } : Tune).atEn then (wit24s1.frameStart (frameFrom ({ mkTune with phase := .boundary } : Tune).goFrame ({ mkTune with phase := .boundary } : Tune).frame)).toNat else 0) - 1)) ((wit24s1.syn ({ mkTune with phase := .boundary } : Tune).syn).calAt.getD 0)) = some 0 ∧
    0 ≤ wit24s1.tuneDeadline ({ mkTune with phase := .boundary } : Tune)) ∧
    (wit24s2.lo.tune = some ({ mkTune with phase := .transient } : Tune) ∧ ({ mkTune with phase := .transient } : Tune).phase = .transient ∧
    ({ mkTune with phase := .transient } : Tune).syn < 2 ∧ wit24s2.lo.waiting = none) ∧
    ((∀ t, State.reset.lo.tune = some t → t.phase ≠ .transient) ∧ (State.reset.lo.tune = none → State.reset.lo.swapAt = none)) ∧
    (0 < 4 ∧ wit24s4.lo.settleEnd.length = 4 ∧ wit24s4.lo.settleEnd.getD 0 none = some 0 ∧ wit24s4.lo.tune = none) ∧
    (State.reset.lo.settleEnd.getD 0 none = none) ∧
    (0 < 4 ∧ State.reset.radioPowered = true ∧ State.reset.quadGated 0 = false) ∧
    (3 < 4 ∧ (wit24s7.radioPowered = false ∨ wit24s7.quadGated 3 = true)) :=
  ⟨by decide,
   by decide,
   by decide,
   by decide,
   by decide,
   by decide,
   by decide,
   by decide⟩

/-- A state for clause 1 of SynthesiserCalibrationAndLockLoss. -/
def wit25s1 : State :=
  let s := State.reset
  let s := s.setSyn (0) (synCal)
  let s := s.modSyn (0) fun x => { x with calAt := some (0) }
  let s := s.modSyn (0) fun x => { x with job := .tune }
  let s := { s with lo.tune := some (mkTune : Tune) }
  s
/-- A state for clause 2 of SynthesiserCalibrationAndLockLoss. -/
def wit25s2 : State :=
  let s := State.reset
  let s := s.setSyn (0) (synCal)
  let s := s.modSyn (0) fun x => { x with calAt := some (0) }
  let s := s.modSyn (0) fun x => { x with job := .mirror }
  s
/-- A state for clause 3 of SynthesiserCalibrationAndLockLoss. -/
def wit25s3 : State :=
  let s := State.reset
  let s := s.setSyn (0) (synCal)
  let s := s.modSyn (0) fun x => { x with calAt := some (0) }
  let s := s.modSyn (0) fun x => { x with job := .drift }
  s
/-- A state for clause 4 of SynthesiserCalibrationAndLockLoss. -/
def wit25s4 : State :=
  let s := State.reset
  let s := s.setSyn (0) (synCal)
  let s := s.modSyn (0) fun x => { x with calAt := some 0 }
  let s := { s with lo.waiting := none }
  s
/-- A state for clause 6 of SynthesiserCalibrationAndLockLoss. -/
def wit25s6 : State :=
  let s := State.reset
  let s := s.put R.LO_STATUS_ALIGNED 1
  let s := s.setSyn (0) (synReady)
  s
/-- A state for clause 8 of SynthesiserCalibrationAndLockLoss. -/
def wit25s8 : State :=
  let s := State.reset
  let s := s.setSyn (0) (synActive)
  s
/-- A state for clause 9 of SynthesiserCalibrationAndLockLoss. -/
def wit25s9 : State :=
  let s := State.reset
  let s := s.put R.LO_STATUS_ALIGNED 1
  let s := s.put R.LO_CTRL_MODE 0
  let s := s.put (R.LO_CTRL_STBY_MIRROR) 1
  let s := { s with lo.tune := none }
  let s := { s with lo.swapPend := false }
  let s := s.setSyn (s.standby) (synReady)
  let s := s.setSyn (s.activeSyn) (synActive)
  s
/-- A state for clause 10 of SynthesiserCalibrationAndLockLoss. -/
def wit25s10 : State :=
  let s := State.reset
  let s := s.put R.LO_STATUS_ALIGNED 1
  let s := s.put R.LO_CTRL_MODE 1
  s
theorem test_synthesiser_calibration_and_lock_loss_hypotheses :
    (State.reset.synState 0 ≠ synCal) ∧
    (0 < 2 ∧ wit25s1.lo.syns.length = 2 ∧ wit25s1.synState 0 = synCal ∧ (wit25s1.syn 0).calAt ≠ none ∧ (wit25s1.syn 0).job = .tune ∧
    wit25s1.lo.tune = some (mkTune : Tune)) ∧
    (0 < 2 ∧ wit25s2.lo.syns.length = 2 ∧ wit25s2.synState 0 = synCal ∧ (wit25s2.syn 0).calAt ≠ none ∧ (wit25s2.syn 0).job = .mirror) ∧
    (0 < 2 ∧ wit25s3.lo.syns.length = 2 ∧ wit25s3.synState 0 = synCal ∧ (wit25s3.syn 0).calAt ≠ none ∧ (wit25s3.syn 0).job = .drift) ∧
    (0 < 2 ∧ wit25s4.lo.syns.length = 2 ∧ wit25s4.synState 0 = synCal ∧ (wit25s4.syn 0).calAt = some 0 ∧ (wit25s4.syn 0).job ≠ .recover ∧
    wit25s4.lo.waiting = none) ∧
    (0 < 4) ∧
    (0 < 2 ∧ wit25s6.lo.syns.length = 2 ∧ wit25s6.aligned = true ∧ (wit25s6.synState 0 = synReady ∨ wit25s6.synState 0 = synMirror)) ∧
    (0 < 2 ∧ State.reset.lo.syns.length = 2 ∧ State.reset.synState 0 ≠ synActive) ∧
    (0 < 2 ∧ wit25s8.lo.syns.length = 2 ∧ wit25s8.synState 0 = synActive) ∧
    (wit25s9.aligned = true ∧ wit25s9.lo.syns.length = 2 ∧ wit25s9.split = false ∧ wit25s9.flag R.LO_CTRL_STBY_MIRROR = true ∧ wit25s9.lo.tune = none ∧
    wit25s9.lo.swapPend = false ∧ wit25s9.synState wit25s9.standby = synReady ∧ wit25s9.synState wit25s9.activeSyn = synActive) ∧
    (wit25s10.aligned = true ∧ wit25s10.lo.syns.length = 2 ∧
    (wit25s10.split = true ∨ wit25s10.flag R.LO_CTRL_STBY_MIRROR = false ∨ wit25s10.lo.tune ≠ none ∨ wit25s10.synState wit25s10.standby ≠ synReady)) :=
  ⟨by decide,
   by decide,
   by decide,
   by decide,
   by decide,
   by decide,
   by decide,
   by decide,
   by decide,
   by decide,
   by decide⟩

/-- A state for clause 0 of ArrayEpochAndLoMode. -/
def wit26s0 : State :=
  let s := State.reset
  let s := s.put (R.CS_CFG_EN_NOW 0 0) 1
  s
/-- A state for clause 2 of ArrayEpochAndLoMode. -/
def wit26s2 : State :=
  let s := State.reset
  let s := s.put (R.LO_CTRL_ARR_ARM) 0
  s
/-- A state for clause 3 of ArrayEpochAndLoMode. -/
def wit26s3 : State :=
  let s := State.reset
  let s := s.put (R.LO_CTRL_ARR_ARM) 1
  s
/-- A state for clause 4 of ArrayEpochAndLoMode. -/
def wit26s4 : State :=
  let s := State.reset
  let s := s.put R.LO_CTRL_MODE 0
  s
/-- A state for clause 7 of ArrayEpochAndLoMode. -/
def wit26s7 : State :=
  let s := State.reset
  let s := s.put R.LO_CTRL_MODE 1
  s
/-- A state for clause 8 of ArrayEpochAndLoMode. -/
def wit26s8 : State :=
  let s := State.reset
  let s := s.put R.LO_CTRL_MODE 1
  let s := s.put (R.QLO_CFG_SRC 0) 1
  s
theorem test_array_epoch_and_lo_mode_hypotheses :
    (wit26s0.carriersActive = true) ∧
    (State.reset.carriersActive = false) ∧
    (wit26s2.flag R.LO_CTRL_ARR_ARM = false) ∧
    (wit26s3.flag R.LO_CTRL_ARR_ARM = true) ∧
    (0 = wit26s4.split) ∧
    (true ≠ wit26s0.split ∧ wit26s0.carriersActive = true) ∧
    (wit26s4.split = false ∧ wit26s4.carriersActive = false) ∧
    (wit26s7.split = true ∧ wit26s7.carriersActive = false ∧ (wit26s7.serves 0 = 15 ∨ wit26s7.serves 1 = 15)) ∧
    (wit26s8.split = true ∧ wit26s8.carriersActive = false ∧ wit26s8.serves 0 ≠ 15 ∧ wit26s8.serves 1 ≠ 15) :=
  ⟨by decide,
   by decide,
   by decide,
   by decide,
   by decide,
   by decide,
   by decide,
   by decide,
   by decide⟩

/-- A state for clause 2 of ConverterLossAndCarrierFrequency. -/
def wit27s2 : State :=
  let s := State.reset
  let s := s.put R.PWR_STATUS_QGATE 8
  s
/-- A state for clause 3 of ConverterLossAndCarrierFrequency. -/
def wit27s3 : State :=
  let s := State.reset
  let s := s.put (R.DFE_STATUS_CONV_LOCK) 0
  let s := { s with hold.convHold := 1 }
  let s := { s with dfe.convLost := [2, 0, 0, 0] }
  let s := s.put R.DFE_STATUS_CONV_LOCK 0
  s
/-- A state for clause 5 of ConverterLossAndCarrierFrequency. -/
def wit27s5 : State :=
  let s := State.reset
  let s := s.put (R.CS_CFG_EN 0 0) 1
  s
theorem test_converter_loss_and_carrier_frequency_hypotheses :
    (0 < 4 ∧ State.reset.dfe.convLost.length = 4) ∧
    (0 < 4 ∧ State.reset.radioPowered = true ∧ State.reset.quadGated 0 = false) ∧
    (3 < 4 ∧ (wit27s2.radioPowered = false ∨ wit27s2.quadGated 3 = true)) ∧
    (0 < 4 ∧ wit27s3.hold.convHold.testBit 0 = true ∧ wit27s3.fbit R.DFE_STATUS_CONV_LOCK 0 = false ∧ wit27s3.hold.convDead.testBit 0 = false ∧
    2 ≤ wit27s3.dfe.convLost.getD 0 0) ∧
    (0 < 4 ∧ (State.reset.hold.convHold.testBit 0 = false ∨ State.reset.fbit R.DFE_STATUS_CONV_LOCK 0 = true ∨ State.reset.hold.convDead.testBit 0 = true)) ∧
    (0 < 8 ∧ wit27s5.rfOk (dirIx ((.dl : Dir))) 0 (0 % 2 ^ 10 * 2 ^ 32 + wit27s5.get (R.CS_RF_LO_CODE_LO (dirIx ((.dl : Dir))) 0)) = false) ∧
    (0 < 8 ∧ State.reset.rfOk (dirIx ((.dl : Dir))) 0 (0 % 2 ^ 10 * 2 ^ 32 + State.reset.get (R.CS_RF_LO_CODE_LO (dirIx ((.dl : Dir))) 0)) = true) :=
  ⟨by decide,
   by decide,
   by decide,
   by decide,
   by decide,
   by decide,
   by decide⟩

/-- A state for clause 0 of CapturesAndPlayback. -/
def wit28s0 : State :=
  let s := State.reset
  let s := s.put (R.CAP_STAT_STATE 0) (1)
  s
/-- A state for clause 3 of CapturesAndPlayback. -/
def wit28s3 : State :=
  let s := State.reset
  let s := s.put (R.CAP_STAT_STATE 0) (1)
  let s := s.put (R.CAP_CFG_TAP 0) (4)
  let s := s.modCap (0) fun x => { x with startAt := none }
  let s := s.modCap (0) fun x => { x with paired := false }
  let s := s.put (R.CAL_STATUS_SW_NOW) (0)
  let s := s.put (R.CAP_CFG_TRIG 0) 3
  let s := s.put (R.CAP_AT_CYCLE 0) 491520
  let s := s.put (R.CAP_CFG_WAIT_FRAMES 0) 10
  s
/-- A state for clause 4 of CapturesAndPlayback. -/
def wit28s4 : State :=
  let s := State.reset
  let s := s.modCap (0) fun x => { x with paired := false }
  s
/-- A state for clause 5 of CapturesAndPlayback. -/
def wit28s5 : State :=
  let s := State.reset
  let s := s.modCap (0) fun x => { x with paired := false }
  let s := s.put (R.CAP_STAT_STATE 0) (1)
  s
/-- A state for clause 6 of CapturesAndPlayback. -/
def wit28s6 : State :=
  let s := State.reset
  let s := s.put (R.CAP_STAT_STATE 0) (2)
  let s := s.modCap (0) fun x => { x with startAt := some 0 }
  s
/-- A state for clause 11 of CapturesAndPlayback. -/
def wit28s11 : State :=
  let s := State.reset
  let s := s.put (R.SMEM_PART_BASE 0) 0
  let s := s.put (R.SMEM_PART_SIZE 0) 2
  let s := s.put (R.SMEM_PART_BASE 1) 1
  let s := s.put (R.SMEM_PART_SIZE 1) 2
  s
theorem test_captures_and_playback_hypotheses :
    (0 < 8 ∧ wit28s0.dfe.caps.length = 8 ∧ (0 % 2 = 0 → wit28s0.flag (R.CAP_CFG_PAIR 0) = false) ∧
    (0 % 2 = 1 → wit28s0.flag (R.CAP_CFG_PAIR (0 - 1)) = false) ∧ (wit28s0.capState 0 = 1 ∨ wit28s0.capState 0 = 2)) ∧
    (0 < 8 ∧ State.reset.dfe.caps.length = 8 ∧ (0 % 2 = 0 → State.reset.flag (R.CAP_CFG_PAIR 0) = false) ∧
    (0 % 2 = 1 → State.reset.flag (R.CAP_CFG_PAIR (0 - 1)) = false) ∧ State.reset.capState 0 ≠ 1 ∧ State.reset.capState 0 ≠ 2) ∧
    (0 < 8 ∧ (State.reset.capState 0 ≠ 1 ∨ State.reset.get (R.CAP_CFG_TAP 0) ≠ 4 ∨ (State.reset.cap 0).startAt ≠ none)) ∧
    (0 < 8 ∧ wit28s3.dfe.caps.length = 8 ∧ wit28s3.capState 0 = 1 ∧ wit28s3.get (R.CAP_CFG_TAP 0) = 4 ∧ (wit28s3.cap 0).startAt = none ∧
    (wit28s3.cap 0).paired = false ∧ wit28s3.capStart 0 wit28s3.now 0 = some 491520 ∧ wit28s3.get R.CAL_STATUS_SW_NOW = 0 ∧
    (∀ j, j < 8 → j ≠ 0 → wit28s3.capState j ≠ 1 ∧ wit28s3.capState j ≠ 2)) ∧
    (0 < 8 ∧ wit28s4.dfe.caps.length = 8 ∧ (wit28s4.cap 0).paired = false ∧ wit28s4.capState 0 ≠ 1) ∧
    (0 < 8 ∧ wit28s5.dfe.caps.length = 8 ∧ (wit28s5.cap 0).paired = false ∧ wit28s5.capState 0 = 1 ∧
    (wit28s5.get (R.CAP_CFG_TAP 0) = 4 → (wit28s5.cap 0).startAt = some 0) ∧
    (wit28s5.get (R.CAP_CFG_TAP 0) ≠ 4 → wit28s5.capStart 0 wit28s5.now 0 = some 0)) ∧
    (0 < 8 ∧ wit28s6.dfe.caps.length = 8 ∧ wit28s6.capState 0 = 2 ∧ (wit28s6.cap 0).startAt = some 0) ∧
    (0 < 8 ∧ (State.reset.capState 0 ≠ 2 ∨ (State.reset.cap 0).startAt = none)) ∧
    (0 < 8 ∧ wit28s0.dfe.caps.length = 8 ∧ wit28s0.capState 0 = 1) ∧
    (0 < 8 ∧ wit28s0.dfe.caps.length = 8 ∧ (wit28s0.capState 0 = 1 ∨ wit28s0.capState 0 = 2)) ∧
    (0 < 8 ∧ State.reset.dfe.caps.length = 8 ∧ State.reset.capState 0 ≠ 1 ∧ State.reset.capState 0 ≠ 2) ∧
    (wit28s11.partOverlap = true) ∧
    (State.reset.partOverlap = false) :=
  ⟨by decide,
   by decide,
   by decide,
   by decide,
   by decide,
   by decide,
   by decide,
   by decide,
   by decide,
   by decide,
   by decide,
   by decide,
   by decide⟩

/-- A state for clause 0 of MemoriesPatrolAndRetirement. -/
def wit29s0 : State :=
  let s := State.reset
  let s := { s with memx.retire := some (mkRetire) }
  s
/-- A state for clause 1 of MemoriesPatrolAndRetirement. -/
def wit29s1 : State :=
  let s := State.reset
  let s := { s with memx.retire := none }
  let s := s.put (R.MEM_SPARE_USED 0) 0
  s
/-- A state for clause 2 of MemoriesPatrolAndRetirement. -/
def wit29s2 : State :=
  let s := State.reset
  let s := { s with memx.retire := none }
  s
/-- A state for clause 3 of MemoriesPatrolAndRetirement. -/
def wit29s3 : State :=
  let s := State.reset
  let s := { s with memx.retire := some (mkRetire : Retire) }
  let s := s.put (R.MEM_SPARE_BANK (mkRetire : Retire).spare) ((mkRetire : Retire).bank)
  s
/-- A state for clause 4 of MemoriesPatrolAndRetirement. -/
def wit29s4 : State :=
  let s := State.reset
  let s := { s with memx.retire := some ({ mkRetire with bank := 0 } : Retire) }
  s
/-- A state for clause 5 of MemoriesPatrolAndRetirement. -/
def wit29s5 : State :=
  let s := State.reset
  let s := { s with memx.retire := none }
  let s := { s with memx.wb := [(0, [5])] }
  s
/-- A state for clause 6 of MemoriesPatrolAndRetirement. -/
def wit29s6 : State :=
  let s := State.reset
  let s := { s with memx.retire := none }
  let s := { s with now := 8000 }
  let s := { s with memx.due := [(0, 1)] }
  s
/-- A state for clause 9 of MemoriesPatrolAndRetirement. -/
def wit29s9 : State :=
  let s := State.reset
  let s := { s with memx.retire := none }
  let s := { s with memx.due := [(0, 100)] }
  s
/-- A state for clause 10 of MemoriesPatrolAndRetirement. -/
def wit29s10 : State :=
  let s := State.reset
  let s := s.put (R.PWR_STATUS_STATE_NOW) (3)
  s
/-- A state for clause 11 of MemoriesPatrolAndRetirement. -/
def wit29s11 : State :=
  let s := State.reset
  let s := { s with memx.words := [(0, false)] }
  s
theorem test_memories_patrol_and_retirement_hypotheses :
    (0 < 64 ∧ (wit29s0.memx.retire ≠ none ∨ (∀ k, k < 2 → wit29s0.memx.spent.testBit k = true ∨ wit29s0.flag (R.MEM_SPARE_USED k) = true))) ∧
    (0 < 64 ∧ 0 < 2 ∧ wit29s1.memx.retire = none ∧ wit29s1.memx.spent.testBit 0 = false ∧ wit29s1.flag (R.MEM_SPARE_USED 0) = false ∧
    (0 = 1 → wit29s1.memx.spent.testBit 0 = true ∨ wit29s1.flag (R.MEM_SPARE_USED 0) = true)) ∧
    (wit29s2.memx.retire = none) ∧
    (wit29s3.memx.retire = some (mkRetire : Retire) ∧ (mkRetire : Retire).spare < 2 ∧ (mkRetire : Retire).bank < 64 ∧
    wit29s3.get (R.MEM_SPARE_BANK (mkRetire : Retire).spare) = (mkRetire : Retire).bank ∧ (∀ b, b ∈ wit29s3.memx.retired → b = (mkRetire : Retire).bank)) ∧
    (0 < 2 ∧ 0 < banksOf 0 ∧ wit29s4.memx.retire = some ({ mkRetire with bank := 0 } : Retire) ∧ 0 = 0 ∧ ({ mkRetire with bank := 0 } : Retire).bank = 0 ∧
    ({ mkRetire with bank := 0 } : Retire).next < 24576 ∧
    ({ mkRetire with bank := 0 } : Retire).start ≤ (wit29s4.advanceTo (wit29s4.now + (3 - (wit29s4.now - wit29s4.tm.epoch) % 4))).now) ∧
    (0 < 2 ∧ 0 < banksOf 0 ∧ wit29s5.memx.retire = none ∧ atKey wit29s5.memx.wb (bankKey 0 0) ≠ []) ∧
    (0 < 2 ∧ 0 < banksOf 0 ∧ wit29s6.memx.retire = none ∧ atKey wit29s6.memx.wb (bankKey 0 0) = [] ∧
    (wit29s6.tm.epoch + numAt wit29s6.memx.due (bankKey 0 0)) + 4096 < (wit29s6.advanceTo (wit29s6.now + (3 - (wit29s6.now - wit29s6.tm.epoch) % 4))).now) ∧
    (0 < 2 ∧ 0 < banksOf 0 ∧ wit29s2.memx.retire = none ∧ atKey wit29s2.memx.wb (bankKey 0 0) = [] ∧
    (wit29s2.advanceTo (wit29s2.now + (3 - (wit29s2.now - wit29s2.tm.epoch) % 4))).now ≤ (wit29s2.tm.epoch + numAt wit29s2.memx.due (bankKey 0 0)) + 4096 ∧
    true = true) ∧
    (0 < 2 ∧ 0 < banksOf 0 ∧ wit29s2.memx.retire = none ∧ atKey wit29s2.memx.wb (bankKey 0 0) = [] ∧
    (wit29s2.advanceTo (wit29s2.now + (3 - (wit29s2.now - wit29s2.tm.epoch) % 4))).now ≤ (wit29s2.tm.epoch + numAt wit29s2.memx.due (bankKey 0 0)) + 4096 ∧
    (wit29s2.tm.epoch + numAt wit29s2.memx.due (bankKey 0 0)) ≤ (wit29s2.advanceTo (wit29s2.now + (3 - (wit29s2.now - wit29s2.tm.epoch) % 4))).now ∧
    false = false) ∧
    (0 < 2 ∧ 0 < banksOf 0 ∧ wit29s9.memx.retire = none ∧ atKey wit29s9.memx.wb (bankKey 0 0) = [] ∧
    (wit29s9.advanceTo (wit29s9.now + (3 - (wit29s9.now - wit29s9.tm.epoch) % 4))).now < (wit29s9.tm.epoch + numAt wit29s9.memx.due (bankKey 0 0))) ∧
    (wit29s10.get R.PWR_STATUS_STATE_NOW = 3) ∧
    (0 < 5 ∧ 0 < banksOf 0 ∧ wit29s11.get R.PWR_STATUS_STATE_NOW ≠ 3 ∧ wit29s11.nextValid 0 0 (numAt wit29s11.memx.patrol (bankKey 0 0)) = some 0 ∧
    memOf (16 * 0) = some 0 ∧ bankOf 0 (16 * 0) = 0 ∧ look wit29s11.memx.words 0 = some false) :=
  ⟨by decide,
   by decide,
   by decide,
   by decide,
   by decide,
   by decide,
   by decide,
   by decide,
   by decide,
   by decide,
   by decide,
   by decide⟩

/-- A state for clause 0 of VoltageAndFrequencyMoves. -/
def wit30s0 : State :=
  let s := State.reset
  let s := s.put (R.DVFS_BUSY 0) 1
  s
/-- A state for clause 1 of VoltageAndFrequencyMoves. -/
def wit30s1 : State :=
  let s := State.reset
  let s := ((s.put (R.DVFS_FSEL 0) 1).put (R.DVFS_VSEL 0) 1).put (R.DVFS_TGT 0) 1
  s
/-- A state for clause 2 of VoltageAndFrequencyMoves. -/
def wit30s2 : State :=
  let s := State.reset
  let s := ((s.put (R.DVFS_FSEL 0) 2).put (R.DVFS_VSEL 0) 2).put (R.DVFS_TGT 0) 2
  s
/-- A state for clause 4 of VoltageAndFrequencyMoves. -/
def wit30s4 : State :=
  let s := State.reset
  let s := s.put (R.DVFS_BUSY 0) 1
  let s := s.put (R.DVFS_BUSY 2) 0
  s
/-- A state for clause 5 of VoltageAndFrequencyMoves. -/
def wit30s5 : State :=
  let s := State.reset
  let s := s.put (R.DVFS_BUSY 0) 1
  let s := { s with pw.move := none }
  s
/-- A state for clause 6 of VoltageAndFrequencyMoves. -/
def wit30s6 : State :=
  let s := State.reset
  let s := s.put (R.PWR_STATUS_PLL_LOCK) 0
  s
/-- A state for clause 8 of VoltageAndFrequencyMoves. -/
def wit30s8 : State :=
  let s := State.reset
  let s := { s with pw.wake := none }
  s
/-- A state for clause 9 of VoltageAndFrequencyMoves. -/
def wit30s9 : State :=
  let s := State.reset
  let s := { s with pw.wake := none }
  let s := { s with boot := .rom }
  s
/-- A state for clause 10 of VoltageAndFrequencyMoves. -/
def wit30s10 : State :=
  let s := State.reset
  let s := { s with pw.wake := some (mkWakeX : WakeX) }
  s
/-- A state for clause 11 of VoltageAndFrequencyMoves. -/
def wit30s11 : State :=
  let s := State.reset
  let s := { s with pw.wake := some ({ mkWakeX with stage := 1 } : WakeX) }
  s
theorem test_voltage_and_frequency_moves_hypotheses :
    (0 < 3 ∧
    (wit30s0.flag (R.DVFS_BUSY 0) = true ∨ lastPoint 0 < ((R.DVFS_TGT 0).of ((0 : Word))) ∨ lastPoint 0 < ((R.DVFS_FSEL 0).of ((0 : Word))) ∨ lastPoint 0 < ((R.DVFS_VSEL 0).of ((0 : Word))) ∨ (((R.DVFS_FSEL 0).of ((0 : Word))) ≠ (wit30s0.get (R.DVFS_FSEL 0)) ∧
    ((R.DVFS_VSEL 0).of ((0 : Word))) ≠ (wit30s0.get (R.DVFS_VSEL 0))) ∨ ((R.DVFS_FSEL 0).of ((0 : Word))) < ((R.DVFS_VSEL 0).of ((0 : Word))))) ∧
    (0 < 3 ∧ wit30s1.flag (R.DVFS_BUSY 0) = false ∧ ((R.DVFS_TGT 0).of ((0x10100 : Word))) ≤ lastPoint 0 ∧
    ((R.DVFS_FSEL 0).of ((0x10100 : Word))) ≤ lastPoint 0 ∧ ((R.DVFS_VSEL 0).of ((0x10100 : Word))) ≤ lastPoint 0 ∧
    ((R.DVFS_VSEL 0).of ((0x10100 : Word))) ≤ ((R.DVFS_FSEL 0).of ((0x10100 : Word))) ∧
    ((R.DVFS_FSEL 0).of ((0x10100 : Word))) = (wit30s1.get (R.DVFS_FSEL 0)) ∧ ((R.DVFS_VSEL 0).of ((0x10100 : Word))) = (wit30s1.get (R.DVFS_VSEL 0)) ∧
    ((R.DVFS_TGT 0).of ((0x10100 : Word))) ≠ wit30s1.get (R.DVFS_TGT 0) ∧ ((R.DVFS_TGT 0).of ((0x10100 : Word))) ≠ (wit30s1.get (R.DVFS_FSEL 0))) ∧
    (0 < 3 ∧ wit30s2.flag (R.DVFS_BUSY 0) = false ∧ ((R.DVFS_TGT 0).of ((0x10202 : Word))) ≤ lastPoint 0 ∧
    ((R.DVFS_FSEL 0).of ((0x10202 : Word))) ≤ lastPoint 0 ∧ ((R.DVFS_VSEL 0).of ((0x10202 : Word))) ≤ lastPoint 0 ∧
    ((R.DVFS_VSEL 0).of ((0x10202 : Word))) ≤ ((R.DVFS_FSEL 0).of ((0x10202 : Word))) ∧ 0 ≠ 2 ∧
    ((R.DVFS_TGT 0).of ((0x10202 : Word))) = wit30s2.get (R.DVFS_TGT 0) ∧ ((((R.DVFS_FSEL 0).of ((0x10202 : Word))) = (wit30s2.get (R.DVFS_FSEL 0)) ∧
    ((R.DVFS_VSEL 0).of ((0x10202 : Word))) ≠ (wit30s2.get (R.DVFS_VSEL 0))) ∨ (((R.DVFS_FSEL 0).of ((0x10202 : Word))) ≠ (wit30s2.get (R.DVFS_FSEL 0)) ∧
    ((R.DVFS_VSEL 0).of ((0x10202 : Word))) = (wit30s2.get (R.DVFS_VSEL 0))))) ∧
    ((∀ x, x < 3 → State.reset.flag (R.DVFS_BUSY x) = false)) ∧
    (0 < 2 ∧ wit30s4.flag (R.DVFS_BUSY 0) = true ∧ (0 = 1 → wit30s4.flag (R.DVFS_BUSY 0) = false ∧ wit30s4.flag (R.DVFS_BUSY 2) = false)) ∧
    (0 < 3 ∧ wit30s5.flag (R.DVFS_BUSY 0) = true ∧ wit30s5.pw.move = none) ∧
    (true = true ∧ wit30s6.flag R.PWR_STATUS_PLL_LOCK = false) ∧
    ((false = false ∨ State.reset.flag R.PWR_STATUS_PLL_LOCK = true)) ∧
    (wit30s8.pw.wake = none ∧ wit30s8.boot ≠ .rom) ∧
    (wit30s9.pw.wake = none ∧ wit30s9.boot = .rom) ∧
    (wit30s10.pw.wake = some (mkWakeX : WakeX) ∧ (mkWakeX : WakeX).stage ≠ 1) ∧
    (wit30s11.pw.wake = some ({ mkWakeX with stage := 1 } : WakeX) ∧ ({ mkWakeX with stage := 1 } : WakeX).stage = 1) :=
  ⟨by decide,
   by decide,
   by decide,
   by decide,
   by decide,
   by decide,
   by decide,
   by decide,
   by decide,
   by decide,
   by decide,
   by decide⟩

/-- A state for clause 1 of FallowEntryAndWake. -/
def wit31s1 : State :=
  let s := State.reset
  let s := { s with pw.move := some ({ mkPwrMove with target := 3, quietAt := some 0 } : PwrMove) }
  s
/-- A state for clause 3 of FallowEntryAndWake. -/
def wit31s3 : State :=
  let s := State.reset
  let s := { s with pw.move := some ({ mkPwrMove with target := 3, draining := true } : PwrMove) }
  let s := { s with pw.pendWake := none }
  s
/-- A state for clause 5 of FallowEntryAndWake. -/
def wit31s5 : State :=
  let s := State.reset
  let s := s.put (R.PWR_STATUS_STATE_NOW) (3)
  s
/-- A state for clause 6 of FallowEntryAndWake. -/
def wit31s6 : State :=
  let s := State.reset
  let s := { s with pw.pendWake := none }
  let s := (List.range 16).foldl (fun s i => s.setReg (R.LK_RULE_ACTION i) 0) s
  s
/-- A state for clause 7 of FallowEntryAndWake. -/
def wit31s7 : State :=
  let s := State.reset
  let s := { s with pw.pendWake := some 0 }
  let s := s.put (R.PWR_STATUS_STATE_NOW) (3)
  let s := { s with pw.wake := none }
  s
/-- A state for clause 9 of FallowEntryAndWake. -/
def wit31s9 : State :=
  let s := State.reset
  let s := { s with pw.wake := some ({ mkWakeX with stage := 0 } : WakeX) }
  let s := { s with pw.lost := [0, 0, 0, 0, 0] }
  s
/-- A state for clause 10 of FallowEntryAndWake. -/
def wit31s10 : State :=
  let s := State.reset
  let s := { s with pw.wake := some (mkWakeX : WakeX) }
  s
/-- A state for clause 11 of FallowEntryAndWake. -/
def wit31s11 : State :=
  let s := State.reset
  let s := { s with pw.wake := none }
  s
/-- A state for clause 12 of FallowEntryAndWake. -/
def wit31s12 : State :=
  let s := State.reset
  let s := { s with pw.wake := some ({ mkWakeX with stage := 2, active := false } : WakeX) }
  let s := { s with pw.move := none }
  s
/-- A state for clause 13 of FallowEntryAndWake. -/
def wit31s13 : State :=
  let s := State.reset
  let s := { s with pw.wake := none }
  let s := { s with pw.move := some ({ mkPwrMove with target := 2, quietAt := some 0 } : PwrMove) }
  s
theorem test_fallow_entry_and_wake_hypotheses :
    ((∀ m, State.reset.pw.move = some m → m.target ≠ 3 ∨ m.quietAt = none)) ∧
    (wit31s1.pw.move = some ({ mkPwrMove with target := 3, quietAt := some 0 } : PwrMove) ∧
    ({ mkPwrMove with target := 3, quietAt := some 0 } : PwrMove).target = 3 ∧
    ({ mkPwrMove with target := 3, quietAt := some 0 } : PwrMove).quietAt = some 0) ∧
    ((∀ m, State.reset.pw.move = some m → m.target ≠ 3 ∨ m.draining = false ∨ ∃ x ∈ State.reset.fab.dma, x.drainDue ≠ 0)) ∧
    (wit31s3.pw.move = some ({ mkPwrMove with target := 3, draining := true } : PwrMove) ∧
    ({ mkPwrMove with target := 3, draining := true } : PwrMove).target = 3 ∧
    ({ mkPwrMove with target := 3, draining := true } : PwrMove).draining = true ∧ (∀ x ∈ wit31s3.fab.dma, x.drainDue = 0) ∧ wit31s3.pw.pendWake = none) ∧
    (State.reset.pwrState ≠ 3) ∧
    (wit31s5.pwrState = 3 ∧ 0 < wit31s5.pw.lost.length ∧ 0 < 66) ∧
    ((∀ i, i < 16 → wit31s6.ruleAct i = 0) ∧ wit31s6.pw.pendWake = none) ∧
    (wit31s7.pw.pendWake = some 0 ∧ (∀ j, j < 16 → wit31s7.ruleAct j ≠ 4) ∧ wit31s7.pwrState = 3 ∧ wit31s7.pw.wake = none) ∧
    ((∀ w, State.reset.pw.wake = some w → w.stage ≠ 0)) ∧
    (wit31s9.pw.wake = some ({ mkWakeX with stage := 0 } : WakeX) ∧ ({ mkWakeX with stage := 0 } : WakeX).stage = 0 ∧ wit31s9.pw.lost = [0, 0, 0, 0, 0]) ∧
    (wit31s10.pw.wake = some (mkWakeX : WakeX) ∧ (mkWakeX : WakeX).stage ≠ 2) ∧
    (wit31s11.pw.wake = none ∧ (∀ m, wit31s11.pw.move = some m → m.target ≠ 2 ∨ m.quietAt = none)) ∧
    (wit31s12.pw.wake = some ({ mkWakeX with stage := 2, active := false } : WakeX) ∧ ({ mkWakeX with stage := 2, active := false } : WakeX).stage = 2 ∧
    ({ mkWakeX with stage := 2, active := false } : WakeX).active = false ∧ wit31s12.pw.move = none) ∧
    (wit31s13.pw.wake = none ∧ wit31s13.pw.move = some ({ mkPwrMove with target := 2, quietAt := some 0 } : PwrMove) ∧
    ({ mkPwrMove with target := 2, quietAt := some 0 } : PwrMove).target = 2 ∧
    ({ mkPwrMove with target := 2, quietAt := some 0 } : PwrMove).quietAt = some 0) :=
  ⟨by decide,
   by decide,
   by decide,
   by decide,
   by decide,
   by decide,
   by decide,
   by decide,
   by decide,
   by decide,
   by decide,
   by decide,
   by decide,
   by decide⟩

/-- A state for clause 1 of TemperatureAndSupply. -/
def wit32s1 : State :=
  let s := State.reset
  let s := { s with pw.hotSince := none }
  let s := { s with pw.coolSince := none }
  s
/-- A state for clause 2 of TemperatureAndSupply. -/
def wit32s2 : State :=
  let s := State.reset
  let s := { s with pw.hotSince := some 0 }
  let s := s.put R.THERM_THR_ORDER 0x1230
  s
/-- A state for clause 3 of TemperatureAndSupply. -/
def wit32s3 : State :=
  let s := State.reset
  let s := { s with pw.hotSince := none }
  let s := { s with pw.coolSince := some 0 }
  let s := { s with pw.throttled := [0] }
  s
theorem test_temperature_and_supply_hypotheses :
    (0 < 24 ∧ State.reset.pw.live.length = 24 ∧ State.reset.pw.hot.length = 24) ∧
    (wit32s1.pw.hotSince = none ∧ wit32s1.pw.coolSince = none) ∧
    (wit32s2.pw.hotSince = some 0 ∧ ((throttleOrder (wit32s2.get R.THERM_THR_ORDER)).find? (fun q => q < 4 ∧ !wit32s2.pw.throttled.contains q) = some 1)) ∧
    (wit32s3.pw.hotSince = none ∧ wit32s3.pw.coolSince = some 0 ∧ wit32s3.pw.throttled.getLast? = some 0) ∧
    ((0 = 0 ∨ 0 = 4 ∨ 0 = 5) ∧ State.reset.pwrState ≠ 3) ∧
    ((1 ≠ 0 ∧ 1 ≠ 4 ∧ 1 ≠ 5 ∨ State.reset.pwrState = 3)) :=
  ⟨by decide,
   by decide,
   by decide,
   by decide,
   by decide,
   by decide⟩

/-- A state for clause 0 of PredistortionLifecycle. -/
def wit33s0 : State :=
  let s := State.reset
  let s := s.put (R.PD_CHCFG_EN 0) 1
  s
/-- A state for clause 1 of PredistortionLifecycle. -/
def wit33s1 : State :=
  let s := State.reset
  let s := s.put (R.PD_CHCFG_EN 0) 0
  let s := s.setReg (R.PD_TERMS 0 0) 0x80
  s
/-- A state for clause 2 of PredistortionLifecycle. -/
def wit33s2 : State :=
  let s := State.reset
  let s := s.put (R.CS_CFG_EN_NOW (dirIx .dl) 0) 1
  let s := s.put (R.CS_CFG_QMASK (dirIx .dl) 0) 15
  s
/-- A state for clause 3 of PredistortionLifecycle. -/
def wit33s3 : State :=
  let s := State.reset
  let s := s.put (R.PD_CHCFG_EN 0) 1
  let s := s.modPd (0) fun x => { x with resid := none }
  let s := s.modPd (0) fun x => { x with cmd := none }
  s
/-- A state for clause 5 of PredistortionLifecycle. -/
def wit33s5 : State :=
  let s := State.reset
  let s := s.put (R.CS_CFG_EN_NOW (dirIx .dl) 0) 1
  let s := s.put (R.CS_CFG_QMASK (dirIx .dl) 0) 15
  let s := s.modPd (0) fun x => { x with goPend := false }
  let s := s.put (R.PD_STATE_STATE 0) pdSteady
  let s := s.put (R.PD_STATE_CUR 0) 0
  let s := (s.put (R.CS_CFG_EN_NOW 0 0) 1).put (R.CS_CFG_QMASK 0 0) 15
  s
/-- A state for clause 7 of PredistortionLifecycle. -/
def wit33s7 : State :=
  let s := State.reset
  let s := s.put (R.PD_STATE_STATE 0) (pdFading)
  let s := s.put (R.CS_CFG_EN_NOW (dirIx .dl) 0) 1
  let s := s.put (R.CS_CFG_QMASK (dirIx .dl) 0) 15
  s
/-- A state for clause 8 of PredistortionLifecycle. -/
def wit33s8 : State :=
  let s := State.reset
  let s := s.put (R.PD_STATE_STATE 0) (pdFading)
  let s := s.modPd (0) fun x => { x with resid := none }
  let s := s.modPd (0) fun x => { x with enPend := none }
  let s := s.put (R.PD_STATE_PEND_BAND 0) 0
  s
/-- A state for clause 10 of PredistortionLifecycle. -/
def wit33s10 : State :=
  let s := State.reset
  let s := s.put (R.PD_STATE_STATE 0) (pdVerify)
  let s := s.put (R.CS_CFG_EN_NOW (dirIx .dl) 0) 1
  let s := s.put (R.CS_CFG_QMASK (dirIx .dl) 0) 15
  s
/-- A state for clause 11 of PredistortionLifecycle. -/
def wit33s11 : State :=
  let s := State.reset
  let s := s.modPd (0) fun x => { x with fadeAt := some 0 }
  let s := s.put (R.PD_STATE_STATE 0) (pdFading)
  s
/-- A state for clause 12 of PredistortionLifecycle. -/
def wit33s12 : State :=
  let s := State.reset
  let s := s.modPd (0) fun x => { x with fadeAt := none }
  s
/-- A state for clause 14 of PredistortionLifecycle. -/
def wit33s14 : State :=
  let s := State.reset
  let s := s.modPd (0) fun x => { x with fadeAt := some 0 }
  let s := s.put (R.PD_STATE_STATE 0) (pdBandFade)
  let s := s.put (R.CS_CFG_EN_NOW (dirIx .dl) 0) 1
  let s := s.put (R.CS_CFG_QMASK (dirIx .dl) 0) 15
  s
/-- A state for clause 18 of PredistortionLifecycle. -/
def wit33s18 : State :=
  let s := State.reset
  let s := s.modPd (0) fun x => { x with noSpare := true }
  s
/-- A state for clause 19 of PredistortionLifecycle. -/
def wit33s19 : State :=
  let s := State.reset
  let s := s.modPd (0) fun x => { x with noSpare := false }
  let s := s.modPd (0) fun x => { x with byp := none }
  let s := s.put (R.CS_CFG_EN_NOW (dirIx .dl) 0) 1
  let s := s.put (R.CS_CFG_QMASK (dirIx .dl) 0) 15
  s
theorem test_predistortion_lifecycle_hypotheses :
    (0 < 64 ∧ wit33s0.pd.length = 64 ∧ true = wit33s0.flag (R.PD_CHCFG_EN 0)) ∧
    (0 < 64 ∧ wit33s1.pd.length = 64 ∧ true = true ∧ wit33s1.flag (R.PD_CHCFG_EN 0) = false ∧ wit33s1.termsOk 0 = false) ∧
    (0 < 64 ∧ wit33s2.pd.length = 64 ∧ true ≠ wit33s2.flag (R.PD_CHCFG_EN 0) ∧ (true = true → wit33s2.termsOk 0 = true) ∧
    (wit33s2.activeOn .dl (quadOf 0) ≠ [])) ∧
    (0 < 64 ∧ wit33s3.pd.length = 64 ∧ false = false ∧ wit33s3.flag (R.PD_CHCFG_EN 0) = true ∧ ¬(wit33s3.activeOn .dl (quadOf 0) ≠ []) ∧
    (wit33s3.pdx 0).resid = none ∧ (wit33s3.pdx 0).cmd = none) ∧
    (0 < 64 ∧ State.reset.pd.length = 64 ∧ 1 < 8 ∧
    (if (State.reset.pdState 0) ≠ pdSteady then 1 else if (State.reset.pdx 0).lastFade.any (fun c => State.reset.now < c + 4915200) then 2 else if 1 = State.reset.get (R.PD_STATE_CUR 0) then 3 else 0) ≠ 0) ∧
    (0 < 64 ∧ wit33s5.pd.length = 64 ∧ 1 < 8 ∧
    (if (wit33s5.pdState 0) ≠ pdSteady then 1 else if (wit33s5.pdx 0).lastFade.any (fun c => wit33s5.now < c + 4915200) then 2 else if 1 = wit33s5.get (R.PD_STATE_CUR 0) then 3 else 0) = 0 ∧
    (wit33s5.activeOn .dl (quadOf 0) ≠ []) ∧ ((wit33s5.pdx 0).goPend = false ∨ (wit33s5.pdx 0).cmd = none)) ∧
    (0 < 64 ∧ State.reset.pd.length = 64 ∧ (State.reset.pdState 0) ≠ pdFading ∧ (State.reset.pdState 0) ≠ pdVerify ∧ (State.reset.pdState 0) ≠ pdBandFade) ∧
    (0 < 64 ∧ wit33s7.pd.length = 64 ∧ ((wit33s7.pdState 0) = pdFading ∨ (wit33s7.pdState 0) = pdVerify ∨ (wit33s7.pdState 0) = pdBandFade) ∧
    (wit33s7.activeOn .dl (quadOf 0) ≠ [])) ∧
    (0 < 64 ∧ wit33s8.pd.length = 64 ∧ ((wit33s8.pdState 0) = pdFading ∨ (wit33s8.pdState 0) = pdVerify) ∧ ¬(wit33s8.activeOn .dl (quadOf 0) ≠ []) ∧
    (wit33s8.pdx 0).resid = none ∧ (wit33s8.pdx 0).enPend = none ∧ wit33s8.flag (R.PD_STATE_PEND_BAND 0) = false ∧
    (wit33s8.pdx 0).bankBad (wit33s8.get (R.PD_STATE_GOOD 0)) = false ∧ (∀ e, e ∈ wit33s8.pdEcc → e.1 / 160 ≠ 8 * 0 + wit33s8.get (R.PD_STATE_GOOD 0))) ∧
    (0 < 64 ∧ State.reset.pd.length = 64 ∧ (State.reset.pdState 0) ≠ pdVerify) ∧
    (0 < 64 ∧ wit33s10.pd.length = 64 ∧ (wit33s10.pdState 0) = pdVerify ∧ (wit33s10.activeOn .dl (quadOf 0) ≠ [])) ∧
    (0 < 64 ∧ wit33s11.pd.length = 64 ∧ (wit33s11.pdx 0).fadeAt = some 0 ∧ ((wit33s11.pdState 0) = pdFading ∨ (wit33s11.pdState 0) = pdBandFade) ∧
    (wit33s11.pdx 0).step < 64) ∧
    (0 < 64 ∧ wit33s12.pd.length = 64 ∧ ((wit33s12.pdx 0).fadeAt = none ∨ 64 ≤ (wit33s12.pdx 0).step ∨ ((wit33s12.pdState 0) ≠ pdFading ∧
    (wit33s12.pdState 0) ≠ pdBandFade))) ∧
    (0 < 64 ∧ wit33s11.pd.length = 64 ∧ (wit33s11.pdx 0).fadeAt = some 0 ∧ (wit33s11.pdState 0) = pdFading) ∧
    (0 < 64 ∧ wit33s14.pd.length = 64 ∧ (wit33s14.pdx 0).fadeAt = some 0 ∧ (wit33s14.pdState 0) = pdBandFade ∧ (wit33s14.activeOn .dl (quadOf 0) ≠ [])) ∧
    (0 < 64 ∧ wit33s12.pd.length = 64 ∧ ((wit33s12.pdx 0).fadeAt = none ∨ ((wit33s12.pdState 0) ≠ pdFading ∧ (wit33s12.pdState 0) ≠ pdBandFade))) ∧
    (0 < 64 ∧ State.reset.pd.length = 64 ∧ (State.reset.pdState 0) ≠ pdVerify) ∧
    (0 < 64 ∧ wit33s10.pd.length = 64 ∧ (wit33s10.pdState 0) = pdVerify ∧ (wit33s10.activeOn .dl (quadOf 0) ≠ [])) ∧
    (0 < 64 ∧ wit33s18.pd.length = 64 ∧ ((wit33s18.pdx 0).noSpare = true ∨ (wit33s18.pdx 0).byp ≠ none)) ∧
    (0 < 64 ∧ wit33s19.pd.length = 64 ∧ (wit33s19.pdx 0).noSpare = false ∧ (wit33s19.pdx 0).byp = none ∧ (wit33s19.activeOn .dl (quadOf 0) ≠ [])) :=
  ⟨by decide,
   by decide,
   by decide,
   by decide,
   by decide,
   by decide,
   by decide,
   by decide,
   by decide,
   by decide,
   by decide,
   by decide,
   by decide,
   by decide,
   by decide,
   by decide,
   by decide,
   by decide,
   by decide,
   by decide⟩

/-- A state for clause 1 of PrachPlansAndReadout. -/
def wit34s1 : State :=
  let s := State.reset
  let s := s.wput (R.PR_CTRL_EN 0) 1
  s
/-- A state for clause 2 of PrachPlansAndReadout. -/
def wit34s2 : State :=
  let s := State.reset
  let s := { s with prach := updAt s.prach (0) fun x => { x with endAt := none } }
  s
/-- A state for clause 4 of PrachPlansAndReadout. -/
def wit34s4 : State :=
  let s := State.reset
  let s := { s with prach := updAt s.prach (0) fun x => { x with endAt := some 0 } }
  let s := { s with prach := updAt s.prach (0) fun x => { x with rowsDue := true } }
  s
/-- A state for clause 5 of PrachPlansAndReadout. -/
def wit34s5 : State :=
  let s := State.reset
  let s := { s with prach := updAt s.prach (0) fun x => { x with endAt := some 0 } }
  let s := { s with prach := updAt s.prach (0) fun x => { x with beamsDue := true } }
  s
/-- A state for clause 6 of PrachPlansAndReadout. -/
def wit34s6 : State :=
  let s := State.reset
  let s := s.put (R.CS_CFG_EN (dirIx ((.dl : Dir))) 0) 0
  let s := s.put (R.CS_CFG_EN_NOW (dirIx ((.dl : Dir))) 0) 0
  s
/-- A state for clause 7 of PrachPlansAndReadout. -/
def wit34s7 : State :=
  let s := State.reset
  let s := s.put (R.CS_CFG_EN (dirIx ((.dl : Dir))) 0) 1
  s
/-- A state for clause 9 of PrachPlansAndReadout. -/
def wit34s9 : State :=
  let s := State.reset
  let s := { s with bf.plans := ({ mkPlan with d := 0, cs := 0 } : Plan) :: (([] : List Plan)) }
  s
theorem test_prach_plans_and_readout_hypotheses :
    (State.reset.wget (R.PR_CTRL_EN 0) = 0) ∧
    (0 < 4 ∧ wit34s1.prach.length = 4 ∧ wit34s1.wget (R.PR_CTRL_EN 0) ≠ 0) ∧
    (0 < 4 ∧ wit34s2.prach.length = 4 ∧ ((wit34s2.prx 0).endAt = none ∨ (wit34s2.prx 0).rowsDue = false)) ∧
    (0 < 4 ∧ wit34s2.prach.length = 4 ∧ ((wit34s2.prx 0).endAt = none ∨ (wit34s2.prx 0).beamsDue = false)) ∧
    (0 < 4 ∧ wit34s4.prach.length = 4 ∧ (wit34s4.prx 0).endAt = some 0 ∧ (wit34s4.prx 0).rowsDue = true) ∧
    (0 < 4 ∧ wit34s5.prach.length = 4 ∧ (wit34s5.prx 0).endAt = some 0 ∧ (wit34s5.prx 0).beamsDue = true) ∧
    (wit34s6.slotEn ((.dl : Dir)) 0 = false ∧ wit34s6.active ((.dl : Dir)) 0 = false) ∧
    (0 < 8 ∧ wit34s7.bf.planned.length = 16 ∧ (wit34s7.slotEn ((.dl : Dir)) 0 = true ∨ wit34s7.active ((.dl : Dir)) 0 = true)) ∧
    ((∀ p ∈ State.reset.bf.plans, p.d = 0 → p.cs ≠ 0)) ∧
    (0 < 8 ∧ wit34s9.sp.lastRead.length = 8 ∧ wit34s9.bf.plans = ({ mkPlan with d := 0, cs := 0 } : Plan) :: (([] : List Plan)) ∧
    ({ mkPlan with d := 0, cs := 0 } : Plan).d = 0 ∧ ({ mkPlan with d := 0, cs := 0 } : Plan).cs = 0 ∧ wit34s9.sp.lastRead.getD 0 none = none) :=
  ⟨by decide,
   by decide,
   by decide,
   by decide,
   by decide,
   by decide,
   by decide,
   by decide,
   by decide,
   by decide⟩

/-- A state for clause 0 of BeamTableAndSteering. -/
def wit35s0 : State :=
  let s := State.reset
  let s := s.put (R.BL_TGT_KIND) (0)
  let s := { s with bf.plans := [{ mkPlan with passEnd := 1, items := [{ mkPlanItem with src := .set 0 0 }] }] }
  s
/-- A state for clause 1 of BeamTableAndSteering. -/
def wit35s1 : State :=
  let s := State.reset
  let s := s.put (R.BL_TGT_KIND) (0)
  let s := s.put R.BL_TGT_INDEX 2208
  s
/-- A state for clause 2 of BeamTableAndSteering. -/
def wit35s2 : State :=
  let s := State.reset
  let s := s.put (R.BL_TGT_KIND) (0)
  s
/-- A state for clause 3 of BeamTableAndSteering. -/
def wit35s3 : State :=
  let s := State.reset
  let s := s.put (R.BL_TGT_KIND) (1)
  let s := { s with bf.lq := List.replicate 32 mkLqItem }
  s
/-- A state for clause 4 of BeamTableAndSteering. -/
def wit35s4 : State :=
  let s := State.reset
  let s := s.put (R.BL_TGT_KIND) (1)
  s
/-- A state for clause 5 of BeamTableAndSteering. -/
def wit35s5 : State :=
  let s := State.reset
  let s := s.put (R.BL_TGT_KIND) (2)
  s
/-- A state for clause 7 of BeamTableAndSteering. -/
def wit35s7 : State :=
  let s := State.reset
  let s := { s with bf.holds := [(0, 0)] }
  s
/-- A state for clause 8 of BeamTableAndSteering. -/
def wit35s8 : State :=
  let s := State.reset
  let s := { s with bf.holds := [(0, 0)] }
  let s := { s with bf.lq := [mkLqItem] }
  s
/-- A state for clause 12 of BeamTableAndSteering. -/
def wit35s12 : State :=
  let s := State.reset
  let s := s.put (R.CS_CFG_EN 0 0) 1
  let s := { s with bf.busy := some (mkSteerBusy) }
  s
/-- A state for clause 13 of BeamTableAndSteering. -/
def wit35s13 : State :=
  let s := State.reset
  let s := s.put (R.CS_CFG_EN 0 0) 1
  let s := { s with bf.fifo := [] }
  let s := { s with bf.busy := none }
  let s := s.put (R.STEER_CTRL_EN) 1
  s
/-- A state for clause 14 of BeamTableAndSteering. -/
def wit35s14 : State :=
  let s := State.reset
  let s := { s with bf.busy := none }
  s
/-- A state for clause 15 of BeamTableAndSteering. -/
def wit35s15 : State :=
  let s := State.reset
  let s := { s with bf.busy := some ({ mkSteerBusy with geom := List.replicate 64 mkSteerGeom } : SteerBusy) }
  s
/-- A state for clause 16 of BeamTableAndSteering. -/
def wit35s16 : State :=
  let s := State.reset
  let s := s.put R.GEOM_ADDR_WORD 896
  s
/-- A state for clause 17 of BeamTableAndSteering. -/
def wit35s17 : State :=
  let s := State.reset
  let s := s.put (R.CAL_CTRL_EN) 1
  let s := s.put R.GEOM_ADDR_WORD 256
  s
/-- A state for clause 19 of BeamTableAndSteering. -/
def wit35s19 : State :=
  let s := State.reset
  let s := { s with bf.colDead := [0] }
  s
/-- A state for clause 20 of BeamTableAndSteering. -/
def wit35s20 : State :=
  let s := State.reset
  let s := s.put (R.BF_REPAIR_SPARE_BUSY (quadOf 0)) 0
  let s := s.put (R.BF_REPAIR_SPARE_FAILED (quadOf 0)) 0
  s
/-- A state for clause 21 of BeamTableAndSteering. -/
def wit35s21 : State :=
  let s := State.reset
  let s := s.put (R.BF_REPAIR_SPARE_BUSY (quadOf 63)) 1
  s
theorem test_beam_table_and_steering_hypotheses :
    (wit35s0.get R.BL_TGT_KIND = 0 ∧ wit35s0.setInUse (wit35s0.get R.BL_TGT_SET) = true) ∧
    (wit35s1.get R.BL_TGT_KIND = 0 ∧ wit35s1.setInUse (wit35s1.get R.BL_TGT_SET) = false ∧
    ((wit35s1.memberOf (wit35s1.get R.BL_TGT_SET)).isSome = true ∨ wit35s1.setSize (wit35s1.get R.BL_TGT_SET) ≤ (wit35s1.get R.BL_TGT_INDEX))) ∧
    (wit35s2.get R.BL_TGT_KIND = 0 ∧ wit35s2.setInUse (wit35s2.get R.BL_TGT_SET) = false ∧ wit35s2.memberOf (wit35s2.get R.BL_TGT_SET) = none ∧
    (wit35s2.get R.BL_TGT_INDEX) < wit35s2.setSize (wit35s2.get R.BL_TGT_SET)) ∧
    (wit35s3.get R.BL_TGT_KIND = 1 ∧ 32 ≤ wit35s3.bf.lq.length) ∧
    (wit35s4.get R.BL_TGT_KIND = 1 ∧ wit35s4.bf.lq.length < 32) ∧
    (1 < wit35s5.get R.BL_TGT_KIND) ∧
    (0 < 4096 ∧ (∀ h ∈ State.reset.bf.holds, h.1 ≠ 0)) ∧
    (0 < 4096 ∧ wit35s7.bf.holds.find? (fun h => h.1 == 0) = some (0, 0) ∧ (∀ l ∈ wit35s7.bf.lq, l.flip.id ≠ 0)) ∧
    (0 < 4096 ∧ wit35s8.bf.holds.find? (fun h => h.1 == 0) = some (0, 0) ∧ wit35s8.bf.lq.find? (fun l => l.flip.id == 0) = some mkLqItem ∧
    mkLqItem.steer = none ∧ (∀ b, wit35s8.bf.busy = some b → b.stalled = false)) ∧
    (0 < 16 ∧ State.reset.wsCheck 0 ((0x40000000 : Word)) ≠ 0) ∧
    (0 < 16 ∧ State.reset.wsCheck 0 ((0 : Word)) = 0) ∧
    ((State.reset.steerValid ({ w0 := State.reset.get (R.STEER_REQ_WORD 0), w1 := State.reset.get (R.STEER_REQ_WORD 1), w2 := State.reset.get (R.STEER_REQ_WORD 2), job := none } : SteerReq) = false ∨ 64 ≤ State.reset.bf.fifo.length)) ∧
    (wit35s12.steerValid ({ w0 := wit35s12.get (R.STEER_REQ_WORD 0), w1 := wit35s12.get (R.STEER_REQ_WORD 1), w2 := wit35s12.get (R.STEER_REQ_WORD 2), job := none } : SteerReq) = true ∧
    wit35s12.bf.fifo.length < 64 ∧ wit35s12.bf.busy ≠ none) ∧
    (wit35s13.steerValid ({ w0 := wit35s13.get (R.STEER_REQ_WORD 0), w1 := wit35s13.get (R.STEER_REQ_WORD 1), w2 := wit35s13.get (R.STEER_REQ_WORD 2), job := none } : SteerReq) = true ∧
    wit35s13.bf.fifo = [] ∧ wit35s13.bf.busy = none ∧ wit35s13.flag R.STEER_CTRL_EN = true ∧ wit35s13.bf.lq.length < 32) ∧
    (wit35s14.bf.busy = none) ∧
    (wit35s15.bf.busy = some ({ mkSteerBusy with geom := List.replicate 64 mkSteerGeom } : SteerBusy) ∧
    ({ mkSteerBusy with geom := List.replicate 64 mkSteerGeom } : SteerBusy).geom.length = 64 ∧
    (wit35s15.advanceTo (({ mkSteerBusy with geom := List.replicate 64 mkSteerGeom } : SteerBusy).start + 96)).pageHeld (bits ({ mkSteerBusy with geom := List.replicate 64 mkSteerGeom } : SteerBusy).req.w0 31 20) = false) ∧
    (0xE00 ≤ 4 * (wit35s16.get R.GEOM_ADDR_WORD)) ∧
    (0x400 ≤ 4 * (wit35s17.get R.GEOM_ADDR_WORD) ∧ 4 * (wit35s17.get R.GEOM_ADDR_WORD) < 0x600 ∧ wit35s17.flag R.CAL_CTRL_EN = true) ∧
    (4 * (State.reset.get R.GEOM_ADDR_WORD) < 0xE00 ∧
    (4 * (State.reset.get R.GEOM_ADDR_WORD) < 0x400 ∨ 0x600 ≤ 4 * (State.reset.get R.GEOM_ADDR_WORD) ∨ State.reset.flag R.CAL_CTRL_EN = false)) ∧
    (0 < 64 ∧ 0 < 8 ∧ 0 ∈ wit35s19.bf.colDead) ∧
    (0 < 64 ∧ 0 < 8 ∧ 0 ∉ wit35s20.bf.colDead ∧ wit35s20.flag (R.BF_REPAIR_SPARE_BUSY (quadOf 0)) = false ∧
    wit35s20.flag (R.BF_REPAIR_SPARE_FAILED (quadOf 0)) = false) ∧
    (63 < 64 ∧ 0 < 8 ∧ 63 ∉ wit35s21.bf.colDead ∧ wit35s21.flag (R.BF_REPAIR_SPARE_BUSY (quadOf 63)) = true) :=
  ⟨by decide,
   by decide,
   by decide,
   by decide,
   by decide,
   by decide,
   by decide,
   by decide,
   by decide,
   by decide,
   by decide,
   by decide,
   by decide,
   by decide,
   by decide,
   by decide,
   by decide,
   by decide,
   by decide,
   by decide,
   by decide,
   by decide⟩

/-- A state for clause 0 of HedgerowTraining. -/
def wit36s0 : State :=
  let s := State.reset
  let s := s.put (R.HG_CTRL_EN 0) 0
  s
/-- A state for clause 1 of HedgerowTraining. -/
def wit36s1 : State :=
  let s := State.reset
  let s := s.put (R.HG_CTRL_EN 0) 1
  s
/-- A state for clause 2 of HedgerowTraining. -/
def wit36s2 : State :=
  let s := State.reset
  let s := s.put (R.HG_STATUS_STATE 0) (hgDetect)
  s
/-- A state for clause 5 of HedgerowTraining. -/
def wit36s5 : State :=
  let s := State.reset
  let s := s.put (R.HG_STATUS_STATE 0) (hgTrain)
  let s := s.modHg (0) fun x => { x with phase := 0 }
  s
/-- A state for clause 6 of HedgerowTraining. -/
def wit36s6 : State :=
  let s := State.reset
  let s := s.put (R.HG_STATUS_STATE 0) (hgTrain)
  let s := s.modHg (0) fun x => { x with phase := 1 }
  let s := s.modHg (0) fun x => { x with settled := none }
  s
/-- A state for clause 7 of HedgerowTraining. -/
def wit36s7 : State :=
  let s := State.reset
  let s := s.put (R.HG_STATUS_STATE 0) (hgTrain)
  let s := s.modHg (0) fun x => { x with phase := 1 }
  s
/-- A state for clause 8 of HedgerowTraining. -/
def wit36s8 : State :=
  let s := State.reset
  let s := s.put (R.HG_STATUS_STATE 0) (hgTrain)
  let s := s.modHg (0) fun x => { x with phase := 2 }
  let s := s.modHg (0) fun x => { x with peer := false }
  s
/-- A state for clause 9 of HedgerowTraining. -/
def wit36s9 : State :=
  let s := State.reset
  let s := s.put (R.HG_CAP_PEER_WORD 0 6) 0xFFFFFFFF
  let s := s.put (R.HG_STATUS_STATE 0) hgTrain
  let s := s.modHg 0 fun x => { x with phase := 2, peer := true, ctrl := 0x00800001, rate := 1, lanes := 0xFFFFFF }
  s
/-- A state for clause 10 of HedgerowTraining. -/
def wit36s10 : State :=
  let s := State.reset
  let s := s.put (R.HG_STATUS_STATE 0) (hgTrain)
  s
/-- A state for clause 11 of HedgerowTraining. -/
def wit36s11 : State :=
  let s := State.reset
  let s := s.put (R.HG_STATUS_STATE 0) (hgLatfix)
  s
/-- A state for clause 15 of HedgerowTraining. -/
def wit36s15 : State :=
  let s := State.reset
  let s := s.put (R.HG_STATUS_STATE 0) (hgTrain)
  let s := s.modHg (0) fun x => { x with crcBad := 7 }
  s
/-- A state for clause 21 of HedgerowTraining. -/
def wit36s21 : State :=
  let s := State.reset
  let s := s.put (R.HG_STATUS_STATE 0) (hgDisabled)
  s
/-- A state for clause 23 of HedgerowTraining. -/
def wit36s23 : State :=
  let s := State.reset
  let s := s.put (R.HG_STATUS_STATE 0) hgTimed
  s
theorem test_hedgerow_training_hypotheses :
    (0 < 4 ∧ wit36s0.hg.length = 4 ∧ wit36s0.flag (R.HG_CTRL_EN 0) = false) ∧
    (0 < 4 ∧ wit36s1.hg.length = 4 ∧ wit36s1.flag (R.HG_CTRL_EN 0) = true) ∧
    (0 < 4 ∧ wit36s2.hg.length = 4 ∧ ((wit36s2.hgState 0) = hgDetect ∨ ((wit36s2.hgState 0) = hgDown ∧ (wit36s2.hgx 0).ctrl.testBit 8 = true ∧
    wit36s2.flag (R.HG_CTRL_EN 0) = true))) ∧
    (0 < 4 ∧ State.reset.hg.length = 4 ∧ (State.reset.hgState 0) ≠ hgDetect ∧ (State.reset.hgState 0) ≠ hgDown) ∧
    (0 < 4 ∧ State.reset.hg.length = 4 ∧ (State.reset.hgState 0) ≠ hgTrain) ∧
    (0 < 4 ∧ wit36s5.hg.length = 4 ∧ (wit36s5.hgState 0) = hgTrain ∧ (wit36s5.hgx 0).phase = 0) ∧
    (0 < 4 ∧ wit36s6.hg.length = 4 ∧ (wit36s6.hgState 0) = hgTrain ∧ (wit36s6.hgx 0).phase = 1 ∧ (wit36s6.hgx 0).settled = none) ∧
    (0 < 4 ∧ wit36s7.hg.length = 4 ∧ (wit36s7.hgState 0) = hgTrain ∧ (wit36s7.hgx 0).phase = 1) ∧
    (0 < 4 ∧ wit36s8.hg.length = 4 ∧ (wit36s8.hgState 0) = hgTrain ∧ (wit36s8.hgx 0).phase = 2 ∧ (wit36s8.hgx 0).peer = false) ∧
    (0 < 4 ∧ wit36s9.hg.length = 4 ∧ (wit36s9.hgState 0) = hgTrain ∧ (wit36s9.hgx 0).phase = 2 ∧ (wit36s9.hgx 0).peer = true ∧
    (wit36s9.hgx 0).stepped = false ∧ wit36s9.aligned = false ∧ (wit36s9.hgx 0).rate < 3 ∧ (wit36s9.hgx 0).rateMin ≤ (wit36s9.hgx 0).rate ∧
    max 1 (wit36s9.hgx 0).minLanes ≤ lanesIn (wit36s9.hgx 0).lanes ∧ max 1 (wit36s9.hgx 0).minLanes ≤ lanesIn (bits (wit36s9.capPeer 0) 215 192)) ∧
    (0 < 4 ∧ wit36s10.hg.length = 4 ∧ (wit36s10.hgState 0) = hgTrain) ∧
    (0 < 4 ∧ wit36s11.hg.length = 4 ∧ (wit36s11.hgState 0) = hgLatfix) ∧
    (0 < 4 ∧ State.reset.hg.length = 4 ∧ (State.reset.hgState 0) ≠ hgTrain ∧ (State.reset.hgState 0) ≠ hgLatfix) ∧
    (0 < 4 ∧ State.reset.hg.length = 4 ∧ (State.reset.hgState 0) ≠ hgTrain ∧ State.reset.hgCarries 0 = false) ∧
    (0 < 4 ∧ wit36s10.hg.length = 4 ∧ ((wit36s10.hgState 0) = hgTrain ∨ wit36s10.hgCarries 0 = true) ∧ capCrcOk 0 = false ∧ (wit36s10.hgx 0).crcBad < 7) ∧
    (0 < 4 ∧ wit36s15.hg.length = 4 ∧ ((wit36s15.hgState 0) = hgTrain ∨ wit36s15.hgCarries 0 = true) ∧ capCrcOk 0 = false ∧ 7 ≤ (wit36s15.hgx 0).crcBad) ∧
    (0 < 4 ∧ wit36s10.hg.length = 4 ∧ ((wit36s10.hgState 0) = hgTrain ∨ wit36s10.hgCarries 0 = true) ∧ capCrcOk (crc16 0 240 0xFFFF) = true ∧
    bits (crc16 0 240 0xFFFF) 255 240 ≠ 1) ∧
    (0 < 4 ∧ wit36s10.hg.length = 4 ∧ ((wit36s10.hgState 0) = hgTrain ∨ wit36s10.hgCarries 0 = true) ∧
    capCrcOk ((crc16 (2 ^ 224) 240 0xFFFF) + 2 ^ 240) = true ∧ bits ((crc16 (2 ^ 224) 240 0xFFFF) + 2 ^ 240) 255 240 = 1) ∧
    (0 < 4 ∧ State.reset.hg.length = 4 ∧ (State.reset.hgState 0) ≠ hgLatfix) ∧
    (0 < 4 ∧ wit36s11.hg.length = 4 ∧ (wit36s11.hgState 0) = hgLatfix ∧ 16 < (flightOf ([17 * 65536]))) ∧
    (0 < 4 ∧ wit36s11.hg.length = 4 ∧ (wit36s11.hgState 0) = hgLatfix ∧ (flightOf ([16 * 65536])) ≤ 16) ∧
    (0 < 4 ∧ wit36s21.hg.length = 4 ∧ (wit36s21.hgState 0) = hgDisabled) ∧
    (0 < 4 ∧ wit36s21.hg.length = 4 ∧ ((wit36s21.hgState 0) = hgDisabled ∨ (wit36s21.hgState 0) = hgDown)) ∧
    (0 < 4 ∧ wit36s23.hg.length = 4 ∧ (wit36s23.hgState 0) ≠ hgDisabled ∧ (wit36s23.hgState 0) ≠ hgDown) ∧
    (0 < 4 ∧ wit36s10.hg.length = 4 ∧
    ((wit36s10.hgState 0) = hgTrain ∨ (wit36s10.hgState 0) = hgUntimed ∨ (wit36s10.hgState 0) = hgLatfix ∨ (wit36s10.hgState 0) = hgTimed)) ∧
    (0 < 4 ∧ State.reset.hg.length = 4 ∧ (State.reset.hgState 0) ≠ hgTrain ∧ (State.reset.hgState 0) ≠ hgUntimed ∧ (State.reset.hgState 0) ≠ hgLatfix ∧
    (State.reset.hgState 0) ≠ hgTimed) :=
  ⟨by decide,
   by decide,
   by decide,
   by decide,
   by decide,
   by decide,
   by decide,
   by decide,
   by decide,
   by decide,
   by decide,
   by decide,
   by decide,
   by decide,
   by decide,
   by decide,
   by decide,
   by decide,
   by decide,
   by decide,
   by decide,
   by decide,
   by decide,
   by decide,
   by decide,
   by decide⟩

/-- A state for clause 1 of LaneRepairIdleAndSlips. -/
def wit37s1 : State :=
  let s := State.reset
  let s := s.put (R.HG_STATUS_STATE 0) hgTimed
  s
/-- A state for clause 3 of LaneRepairIdleAndSlips. -/
def wit37s3 : State :=
  let s := State.reset
  let s := s.put (R.HG_STATUS_STATE 0) hgTimed
  let s := s.modHg (0) fun x => { x with rxFix := none }
  s
/-- A state for clause 4 of LaneRepairIdleAndSlips. -/
def wit37s4 : State :=
  let s := State.reset
  let s := s.put (R.HG_STATUS_STATE 0) hgTimed
  let s := s.modHg (0) fun x => { x with rxFix := none }
  let s := s.put (R.HG_STATUS_RX_W 0) 24
  s
/-- A state for clause 8 of LaneRepairIdleAndSlips. -/
def wit37s8 : State :=
  let s := State.reset
  let s := s.modHg (0) fun x => { x with rxFix := some ({ mkRepair with acked := false } : Repair) }
  s
/-- A state for clause 9 of LaneRepairIdleAndSlips. -/
def wit37s9 : State :=
  let s := State.reset
  let s := s.modHg (0) fun x => { x with txFix := none }
  s
/-- A state for clause 10 of LaneRepairIdleAndSlips. -/
def wit37s10 : State :=
  let s := State.reset
  let s := s.modHg (0) fun x => { x with rxFix := some ({ mkRepair with acked := true } : Repair) }
  let s := s.modHg (0) fun x => { x with txFix := none }
  let s := s.put (R.HG_CTRL_IDLE_REQ 0) 0
  s
/-- A state for clause 11 of LaneRepairIdleAndSlips. -/
def wit37s11 : State :=
  let s := State.reset
  let s := s.modHg (0) fun x => { x with txFix := some (mkRepair : Repair) }
  let s := s.modHg (0) fun x => { x with rxFix := none }
  let s := s.put (R.HG_CTRL_IDLE_REQ 0) 0
  s
/-- A state for clause 12 of LaneRepairIdleAndSlips. -/
def wit37s12 : State :=
  let s := State.reset
  let s := s.put (R.HG_CTRL_IDLE_REQ 0) 0
  let s := s.put (R.HG_STATUS_STATE 0) (hgUntimed)
  let s := s.put (R.PLAN_A_PORT_ROLE 0) 2
  s
/-- A state for clause 13 of LaneRepairIdleAndSlips. -/
def wit37s13 : State :=
  let s := State.reset
  let s := s.put (R.HG_CTRL_IDLE_REQ 0) 0
  let s := s.put (R.HG_STATUS_STATE 0) (hgUntimed)
  let s := s.modHg (0) fun x => { x with rxFix := none }
  let s := s.modHg (0) fun x => { x with txFix := none }
  let s := s.modHg (0) fun x => { x with idling := false }
  s
/-- A state for clause 14 of LaneRepairIdleAndSlips. -/
def wit37s14 : State :=
  let s := State.reset
  let s := s.put (R.HG_CTRL_IDLE_REQ 0) 0
  s
/-- A state for clause 15 of LaneRepairIdleAndSlips. -/
def wit37s15 : State :=
  let s := State.reset
  let s := s.put (R.HG_CTRL_IDLE_REQ 0) 1
  let s := s.put (R.HG_STATUS_STATE 0) (hgIdle)
  let s := s.modHg (0) fun x => { x with kept := true }
  s
/-- A state for clause 16 of LaneRepairIdleAndSlips. -/
def wit37s16 : State :=
  let s := State.reset
  let s := s.put (R.HG_STATUS_STATE 0) (hgUntimed)
  let s := s.modHg (0) fun x => { x with rxFix := none }
  let s := s.modHg (0) fun x => { x with txFix := none }
  let s := s.modHg (0) fun x => { x with exitDue := false }
  s
/-- A state for clause 18 of LaneRepairIdleAndSlips. -/
def wit37s18 : State :=
  let s := State.reset
  let s := s.put (R.HG_STATUS_STATE 0) (hgIdle)
  let s := s.modHg (0) fun x => { x with kept := true }
  s
/-- A state for clause 19 of LaneRepairIdleAndSlips. -/
def wit37s19 : State :=
  let s := State.reset
  let s := s.put (R.HG_STATUS_STATE 0) (hgIdle)
  let s := s.put (R.PWR_STATUS_STATE_NOW) (3)
  s
/-- A state for clause 20 of LaneRepairIdleAndSlips. -/
def wit37s20 : State :=
  let s := State.reset
  let s := s.modHg (0) fun x => { x with idling := false }
  s
/-- A state for clause 22 of LaneRepairIdleAndSlips. -/
def wit37s22 : State :=
  let s := State.reset
  let s := s.put (R.HG_STATUS_STATE 0) (hgExiting)
  s
/-- A state for clause 24 of LaneRepairIdleAndSlips. -/
def wit37s24 : State :=
  let s := State.reset
  let s := s.put (R.PWR_STATUS_MI_WAKEOSC) 0
  s
/-- A state for clause 25 of LaneRepairIdleAndSlips. -/
def wit37s25 : State :=
  let s := State.reset
  let s := s.put (R.PWR_STATUS_MI_WAKEOSC) 1
  s
theorem test_lane_repair_idle_and_slips_hypotheses :
    (0 < 4 ∧ State.reset.hg.length = 4 ∧ State.reset.hgCarries 0 = false) ∧
    (0 < 4 ∧ wit37s1.hg.length = 4 ∧ wit37s1.hgCarries 0 = true ∧ 24 = 24) ∧
    (0 < 4 ∧ wit37s1.hg.length = 4 ∧ wit37s1.hgCarries 0 = true ∧ 0 < 24 ∧ false = false ∧
    ((wit37s1.laneErrors 0 0 0).hgx 0).errs.getD 0 0 ≤ wit37s1.get (R.HG_ERR_CFG_LANE_ERR_THR 0)) ∧
    (0 < 4 ∧ wit37s3.hg.length = 4 ∧ wit37s3.hgCarries 0 = true ∧ 0 < 24 ∧ true = true ∧ (wit37s3.hgx 0).rxFix = none ∧
    wit37s3.get (R.HG_STATUS_RX_W 0) - 1 < (wit37s3.hgx 0).minLanes) ∧
    (0 < 4 ∧ wit37s4.hg.length = 4 ∧ wit37s4.hgCarries 0 = true ∧ 0 < 24 ∧ true = true ∧ (wit37s4.hgx 0).rxFix = none ∧
    (wit37s4.hgx 0).minLanes ≤ wit37s4.get (R.HG_STATUS_RX_W 0) - 1) ∧
    (0 < 4 ∧ State.reset.hg.length = 4 ∧ State.reset.hgCarries 0 = false) ∧
    (0 < 4 ∧ wit37s1.hg.length = 4 ∧ wit37s1.hgCarries 0 = true) ∧
    (0 < 4 ∧ State.reset.hg.length = 4 ∧ (∀ f, (State.reset.hgx 0).rxFix = some f → f.acked = true)) ∧
    (0 < 4 ∧ wit37s8.hg.length = 4 ∧ (wit37s8.hgx 0).rxFix = some ({ mkRepair with acked := false } : Repair) ∧
    ({ mkRepair with acked := false } : Repair).acked = false) ∧
    (0 < 4 ∧ wit37s9.hg.length = 4 ∧ (wit37s9.hgx 0).txFix = none ∧ (∀ f, (wit37s9.hgx 0).rxFix = some f → f.acked = false)) ∧
    (0 < 4 ∧ wit37s10.hg.length = 4 ∧ (wit37s10.hgx 0).rxFix = some ({ mkRepair with acked := true } : Repair) ∧
    ({ mkRepair with acked := true } : Repair).acked = true ∧ (wit37s10.hgx 0).txFix = none ∧ wit37s10.flag (R.HG_CTRL_IDLE_REQ 0) = false) ∧
    (0 < 4 ∧ wit37s11.hg.length = 4 ∧ (wit37s11.hgx 0).txFix = some (mkRepair : Repair) ∧ (wit37s11.hgx 0).rxFix = none ∧
    wit37s11.flag (R.HG_CTRL_IDLE_REQ 0) = false ∧ wit37s11.hgTimedNow 0 = false) ∧
    (0 < 4 ∧ wit37s12.hg.length = 4 ∧ wit37s12.flag (R.HG_CTRL_IDLE_REQ 0) = false ∧ ((wit37s12.hgState 0) = hgUntimed ∨ (wit37s12.hgState 0) = hgTimed) ∧
    wit37s12.hgMapped 0 = true) ∧
    (0 < 4 ∧ wit37s13.hg.length = 4 ∧ wit37s13.flag (R.HG_CTRL_IDLE_REQ 0) = false ∧ ((wit37s13.hgState 0) = hgUntimed ∨ (wit37s13.hgState 0) = hgTimed) ∧
    wit37s13.hgMapped 0 = false ∧ (wit37s13.hgx 0).rxFix = none ∧ (wit37s13.hgx 0).txFix = none ∧ (wit37s13.hgx 0).idling = false) ∧
    (0 < 4 ∧ wit37s14.hg.length = 4 ∧ wit37s14.flag (R.HG_CTRL_IDLE_REQ 0) = false ∧ (¬((wit37s14.hgState 0) = hgUntimed ∨ (wit37s14.hgState 0) = hgTimed))) ∧
    (0 < 4 ∧ wit37s15.hg.length = 4 ∧ wit37s15.flag (R.HG_CTRL_IDLE_REQ 0) = true ∧ (wit37s15.hgState 0) = hgIdle ∧ (wit37s15.hgx 0).kept = true) ∧
    (0 < 4 ∧ wit37s16.hg.length = 4 ∧ ((wit37s16.hgState 0) = hgUntimed ∨ (wit37s16.hgState 0) = hgTimed) ∧ (wit37s16.hgx 0).rxFix = none ∧
    (wit37s16.hgx 0).txFix = none ∧ (wit37s16.hgx 0).exitDue = false) ∧
    (0 < 4 ∧ State.reset.hg.length = 4 ∧
    (¬((State.reset.hgState 0) = hgUntimed ∨ (State.reset.hgState 0) = hgTimed) ∨ (State.reset.hgx 0).rxFix ≠ none ∨ (State.reset.hgx 0).txFix ≠ none)) ∧
    (0 < 4 ∧ wit37s18.hg.length = 4 ∧ (wit37s18.hgState 0) = hgIdle ∧ (wit37s18.hgx 0).kept = true ∧ wit37s18.get R.PWR_STATUS_STATE_NOW ≠ 3) ∧
    (0 < 4 ∧ wit37s19.hg.length = 4 ∧ (wit37s19.hgState 0) = hgIdle ∧ wit37s19.get R.PWR_STATUS_STATE_NOW = 3) ∧
    (0 < 4 ∧ wit37s20.hg.length = 4 ∧ (wit37s20.hgState 0) ≠ hgIdle ∧ (wit37s20.hgState 0) ≠ hgExiting ∧ (wit37s20.hgx 0).idling = false) ∧
    (0 < 4 ∧ State.reset.hg.length = 4 ∧ (State.reset.hgState 0) ≠ hgExiting) ∧
    (0 < 4 ∧ wit37s22.hg.length = 4 ∧ (wit37s22.hgState 0) = hgExiting ∧
    (false = false ∨ (wit37s22.hgx 0).anchor + 9830 < wit37s22.now ∨ (wit37s22.bothAligned 0 = true ∧
    (flightOf (([] : List Nat))) ≠ wit37s22.get (R.HG_LAT_FLIGHT 0)))) ∧
    (0 < 4 ∧ wit37s22.hg.length = 4 ∧ (wit37s22.hgState 0) = hgExiting ∧ true = true ∧ wit37s22.now ≤ (wit37s22.hgx 0).anchor + 9830 ∧
    (wit37s22.bothAligned 0 = true → (flightOf (([] : List Nat))) = wit37s22.get (R.HG_LAT_FLIGHT 0))) ∧
    (0 < 4 ∧ wit37s24.hg.length = 4 ∧ wit37s24.fm.retried.contains 0 = false ∧ wit37s24.flag R.PWR_STATUS_MI_WAKEOSC = false) ∧
    (0 < 4 ∧ wit37s25.hg.length = 4 ∧ wit37s25.fm.retried.contains 0 = false ∧ wit37s25.flag R.PWR_STATUS_MI_WAKEOSC = true) :=
  ⟨by decide,
   by decide,
   by decide,
   by decide,
   by decide,
   by decide,
   by decide,
   by decide,
   by decide,
   by decide,
   by decide,
   by decide,
   by decide,
   by decide,
   by decide,
   by decide,
   by decide,
   by decide,
   by decide,
   by decide,
   by decide,
   by decide,
   by decide,
   by decide,
   by decide,
   by decide⟩

/-- A state for clause 1 of SumsInFlight. -/
def wit38s1 : State :=
  let s := State.reset
  let s := s.putUlSym (mkUlSym : UlSym)
  let s := s.put (R.PWR_STATUS_STATE_NOW) (3)
  s
/-- A state for clause 2 of SumsInFlight. -/
def wit38s2 : State :=
  let s := State.reset
  let s := s.putUlSym ({ mkUlSym with rb := 24, act := 15 } : UlSym)
  s
/-- A state for clause 4 of SumsInFlight. -/
def wit38s4 : State :=
  let s := State.reset
  let s := s.putSum (mkSumFrame : SumFrame)
  s
/-- A state for clause 5 of SumsInFlight. -/
def wit38s5 : State :=
  let s := State.reset
  let s := s.putSum ({ mkSumFrame with tails := [(0, 0)] } : SumFrame)
  s
theorem test_sums_in_flight_hypotheses :
    (State.reset.ulSym 0 0 0 = none) ∧
    (wit38s1.ulSym 0 0 0 = some (mkUlSym : UlSym) ∧
    (wit38s1.get R.PWR_STATUS_STATE_NOW = 3 ∨ 0 ≠ (((wit38s1.sumOf 0 0 0).getD (wit38s1.newSum 0 0 0)).unit) ∨ unitsOf (mkUlSym : UlSym).rb ≤ 0 ∨ (mkUlSym : UlSym).act = 0)) ∧
    (wit38s2.ulSym 0 0 0 = some ({ mkUlSym with rb := 24, act := 15 } : UlSym) ∧ wit38s2.get R.PWR_STATUS_STATE_NOW ≠ 3 ∧
    0 = (((wit38s2.sumOf 0 0 0).getD (wit38s2.newSum 0 0 0)).unit) ∧ 0 < unitsOf ({ mkUlSym with rb := 24, act := 15 } : UlSym).rb ∧
    ({ mkUlSym with rb := 24, act := 15 } : UlSym).act ≠ 0) ∧
    (0 < 4 ∧ State.reset.sumOf 0 0 0 = none) ∧
    (0 < 4 ∧ wit38s4.sumOf 0 0 0 = some (mkSumFrame : SumFrame) ∧ (0, (0 - wit38s4.lbase .ul 0)) ∉ (mkSumFrame : SumFrame).tails) ∧
    (0 < 4 ∧ wit38s5.sumOf 0 0 0 = some ({ mkSumFrame with tails := [(0, 0)] } : SumFrame) ∧
    (0, (0 - wit38s5.lbase .ul 0)) ∈ ({ mkSumFrame with tails := [(0, 0)] } : SumFrame).tails) :=
  ⟨by decide,
   by decide,
   by decide,
   by decide,
   by decide,
   by decide⟩

/-- A state for clause 0 of BroadcastAndPrachSums. -/
def wit39s0 : State :=
  let s := State.reset
  let s := s.put R.CASC_STATUS_ROLE 1
  s
/-- A state for clause 1 of BroadcastAndPrachSums. -/
def wit39s1 : State :=
  let s := State.reset
  let s := (((((List.range 14).foldl (fun s e => s.put (R.SLOT_TBL_QMASK 0 e) 15) s).put (R.CS_CFG_N_RB 0 0) 24).put (R.CS_CFG_MU 0 0) 1).put (R.CS_CFG_QMASK 0 0) 15).put (R.CS_CFG_EN_NOW 0 0) 1
  let s := s.put R.CASC_STATUS_ROLE 0
  s
/-- A state for clause 2 of BroadcastAndPrachSums. -/
def wit39s2 : State :=
  let s := State.reset
  let s := s.put R.CASC_STATUS_ROLE 0
  s
/-- A state for clause 3 of BroadcastAndPrachSums. -/
def wit39s3 : State :=
  let s := State.reset
  let s := (s.put (R.PLAN_A_PORT_ROLE 0) 1).put (R.HG_STATUS_STATE 0) hgTimed
  let s := s.put R.CASC_STATUS_ROLE 1
  let s := s.put (R.CS_CFG_EN (dirIx .dl) 0) 1
  s
/-- A state for clause 5 of BroadcastAndPrachSums. -/
def wit39s5 : State :=
  let s := State.reset
  let s := s.put (R.PLAN_A_PORT_ROLE 0) 1
  let s := s.put R.CASC_STATUS_ROLE 1
  let s := s.put (R.CS_CFG_EN (dirIx .dl) 0) 1
  s
/-- A state for clause 6 of BroadcastAndPrachSums. -/
def wit39s6 : State :=
  let s := State.reset
  let s := ((s.put (R.PLAN_A_PORT_ROLE 0) 1).put (R.HG_STATUS_STATE 0) hgTimed).put (R.CS_CFG_N_RB 0 0) 24
  let s := s.put R.CASC_STATUS_ROLE 1
  let s := s.put (R.CS_CFG_EN (dirIx .dl) 0) 1
  s
/-- A state for clause 9 of BroadcastAndPrachSums. -/
def wit39s9 : State :=
  let s := State.reset
  let s := { s with prach := updAt s.prach (0) fun x => { x with endAt := none } }
  s
/-- A state for clause 10 of BroadcastAndPrachSums. -/
def wit39s10 : State :=
  let s := State.reset
  let s := { s with prach := updAt s.prach (0) fun x => { x with endAt := some 0 } }
  s
theorem test_broadcast_and_prach_sums_hypotheses :
    (0 < 8 ∧ (wit39s0.worker = true ∨ wit39s0.symRuns .dl 0 0 = false ∨ wit39s0.radioOn = false ∨ wit39s0.anyDir .dl 0 0 0 = false)) ∧
    (0 < 8 ∧ wit39s1.worker = false ∧ wit39s1.symRuns .dl 0 0 = true ∧ wit39s1.radioOn = true ∧ wit39s1.anyDir .dl 0 0 0 = true) ∧
    ((wit39s2.worker = false ∨ wit39s2.upFor 0 = none ∨ (wit39s2.slotEn .dl 0 = false ∧
    wit39s2.active .dl 0 = false) ∨ (unitsOf (wit39s2.slotRB .dl 0)) < 0)) ∧
    (wit39s3.worker = true ∧ wit39s3.upFor 0 = some 0 ∧ (wit39s3.slotEn .dl 0 = true ∨ wit39s3.active .dl 0 = true) ∧
    0 = (unitsOf (wit39s3.slotRB .dl 0)) ∧ wit39s3.streams 0 (wit39s3.symBoundary .dl (wit39s3.slotMu .dl 0) 0 0) = true ∧ true = true) ∧
    (wit39s3.worker = true ∧ wit39s3.upFor 0 = some 0 ∧ (wit39s3.slotEn .dl 0 = true ∨ wit39s3.active .dl 0 = true) ∧
    0 = (unitsOf (wit39s3.slotRB .dl 0)) ∧ wit39s3.streams 0 (wit39s3.symBoundary .dl (wit39s3.slotMu .dl 0) 0 0) = true ∧ false = false) ∧
    (wit39s5.worker = true ∧ wit39s5.upFor 0 = some 0 ∧ (wit39s5.slotEn .dl 0 = true ∨ wit39s5.active .dl 0 = true) ∧
    0 = (unitsOf (wit39s5.slotRB .dl 0)) ∧ wit39s5.streams 0 (wit39s5.symBoundary .dl (wit39s5.slotMu .dl 0) 0 0) = false) ∧
    (wit39s6.worker = true ∧ wit39s6.upFor 0 = some 0 ∧ (wit39s6.slotEn .dl 0 = true ∨ wit39s6.active .dl 0 = true) ∧
    17 < (unitsOf (wit39s6.slotRB .dl 0)) ∧ wit39s6.streams 0 (wit39s6.symBoundary .dl (wit39s6.slotMu .dl 0) 0 0) = true ∧ true = true ∧
    (some []) = some (([] : List (List (Int × Int))))) ∧
    (wit39s6.worker = true ∧ wit39s6.upFor 0 = some 0 ∧ (wit39s6.slotEn .dl 0 = true ∨ wit39s6.active .dl 0 = true) ∧
    17 < (unitsOf (wit39s6.slotRB .dl 0)) ∧ (wit39s6.streams 0 (wit39s6.symBoundary .dl (wit39s6.slotMu .dl 0) 0 0) = false ∨ (true = true ∧
    ((none : Option (List (List (Int × Int))))) = none))) ∧
    (wit39s6.worker = true ∧ wit39s6.upFor 0 = some 0 ∧ (wit39s6.slotEn .dl 0 = true ∨ wit39s6.active .dl 0 = true) ∧
    17 < (unitsOf (wit39s6.slotRB .dl 0)) ∧ wit39s6.streams 0 (wit39s6.symBoundary .dl (wit39s6.slotMu .dl 0) 0 0) = true ∧ false = false) ∧
    (0 < 4 ∧ (wit39s9.prx 0).endAt = none) ∧
    (0 < 4 ∧ (wit39s10.prx 0).endAt = some 0) :=
  ⟨by decide,
   by decide,
   by decide,
   by decide,
   by decide,
   by decide,
   by decide,
   by decide,
   by decide,
   by decide,
   by decide⟩

/-- A state for clause 0 of AddressesAndTimeInTheTree. -/
def wit40s0 : State :=
  let s := State.reset
  let s := s.put R.CASC_STATUS_ROLE 0
  s
/-- A state for clause 1 of AddressesAndTimeInTheTree. -/
def wit40s1 : State :=
  let s := State.reset
  let s := s.put R.CASC_STATUS_ROLE 1
  s
/-- A state for clause 3 of AddressesAndTimeInTheTree. -/
def wit40s3 : State :=
  let s := State.reset
  let s := s.put R.CASC_STATUS_ROLE 1
  let s := { s with tm.base := 8000000 }
  s
/-- A state for clause 5 of AddressesAndTimeInTheTree. -/
def wit40s5 : State :=
  let s := State.reset
  let s := s.put R.CASC_STATUS_ROLE 1
  let s := s.put (R.CS_CFG_EN_NOW 0 0) 1
  s
/-- A state for clause 7 of AddressesAndTimeInTheTree. -/
def wit40s7 : State :=
  let s := State.reset
  let s := s.put R.CASC_STATUS_ROLE 1
  let s := { s with casc.timeLostN := 100 }
  let s := s.put (R.CASC_STATUS_TIME_LOCK) 1
  s
/-- A state for clause 9 of AddressesAndTimeInTheTree. -/
def wit40s9 : State :=
  let s := State.reset
  let s := s.put R.CASC_STATUS_ROLE 1
  let s := { s with casc.upLostN := 100 }
  let s := { s with hold.upLost := false }
  s
theorem test_addresses_and_time_in_the_tree_hypotheses :
    ((wit40s0.worker = false ∨ 0 ≠ Config.uid % 2 ^ 64 ∨ wit40s0.upPort ≠ none)) ∧
    (wit40s1.worker = true ∧ (Config.uid % 2 ^ 64) = Config.uid % 2 ^ 64 ∧ wit40s1.upPort = none) ∧
    (wit40s0.worker = false) ∧
    (wit40s3.worker = true ∧ ((0 : Int) + 8000000 - wit40s3.time : Int).natAbs ≤ 16 * 65536) ∧
    (wit40s1.worker = true ∧ 16 * 65536 < ((0 : Int) + 8000000 - wit40s1.time : Int).natAbs ∧ wit40s1.carriersActive = false) ∧
    (wit40s5.worker = true ∧ 16 * 65536 < ((0 : Int) + 8000000 - wit40s5.time : Int).natAbs ∧ wit40s5.carriersActive = true) ∧
    ((wit40s0.worker = false ∨ wit40s0.casc.timeLostN < 100 ∨ wit40s0.flag R.CASC_STATUS_TIME_LOCK = false)) ∧
    (wit40s7.worker = true ∧ 100 ≤ wit40s7.casc.timeLostN ∧ wit40s7.flag R.CASC_STATUS_TIME_LOCK = true) ∧
    ((wit40s0.worker = false ∨ wit40s0.casc.upLostN < 100 ∨ wit40s0.hold.upLost = true)) ∧
    (wit40s9.worker = true ∧ 100 ≤ wit40s9.casc.upLostN ∧ wit40s9.hold.upLost = false ∧ wit40s9.chains.length = 64) :=
  ⟨by decide,
   ⟨by decide, rfl, by decide⟩,
   by decide,
   by decide,
   by decide,
   by decide,
   by decide,
   by decide,
   by decide,
   by decide⟩

/-- A state for clause 1 of PlanCommitAndCancel. -/
def wit41s1 : State :=
  let s := State.reset
  let s := s.put (R.PLAN_A_TREE_D (1 - s.planAct)) (5)
  s
/-- A state for clause 2 of PlanCommitAndCancel. -/
def wit41s2 : State :=
  let s := State.reset
  let s := s.put (R.PLAN_A_TREE_D 1) 0
  let s := s.put (R.PLAN_B_BC_LEAD 1) 16
  let s := s.put R.CASC_CTRL_FRAME 1
  s
/-- A state for clause 3 of PlanCommitAndCancel. -/
def wit41s3 : State :=
  let s := State.reset
  let s := { s with casc.swap := none }
  s
/-- A state for clause 4 of PlanCommitAndCancel. -/
def wit41s4 : State :=
  let s := State.reset
  let s := { s with casc.swap := some (mkPlanSwap : PlanSwap) }
  s
/-- A state for clause 5 of PlanCommitAndCancel. -/
def wit41s5 : State :=
  let s := State.reset
  let s := { s with casc.swap := some ({ mkPlanSwap with cmd := none, at_ := 24576 } : PlanSwap) }
  s
theorem test_plan_commit_and_cancel_hypotheses :
    (State.reset.planCheck (State.reset.get R.CASC_CTRL_FRAME) ≠ 0) ∧
    (wit41s1.planAct < 2 ∧
    (4 < wit41s1.get (R.PLAN_A_TREE_D (1 - wit41s1.planAct)) ∨ wit41s1.get (R.PLAN_A_TREE_D (1 - wit41s1.planAct)) < wit41s1.get (R.PLAN_A_DEPTH (1 - wit41s1.planAct)))) ∧
    (wit41s2.planCheck (wit41s2.get R.CASC_CTRL_FRAME) = 0 ∧ (∀ w, wit41s2.casc.swap = some w → w.cmd = none)) ∧
    (wit41s3.casc.swap = none) ∧
    (wit41s4.casc.swap = some (mkPlanSwap : PlanSwap) ∧ (mkPlanSwap : PlanSwap).at_ < wit41s4.now + 24576) ∧
    (wit41s5.casc.swap = some ({ mkPlanSwap with cmd := none, at_ := 24576 } : PlanSwap) ∧
    wit41s5.now + 24576 ≤ ({ mkPlanSwap with cmd := none, at_ := 24576 } : PlanSwap).at_ ∧
    ({ mkPlanSwap with cmd := none, at_ := 24576 } : PlanSwap).cmd = none) :=
  ⟨by decide,
   by decide,
   ⟨by decide, by intro w h; cases h⟩,
   by decide,
   by decide,
   by decide⟩

/-- A state for clause 2 of FramesArrive. -/
def wit42s2 : State :=
  let s := State.reset
  let s := s.put R.HP_STATUS_LINK (2^(0))
  s
/-- A state for clause 3 of FramesArrive. -/
def wit42s3 : State :=
  let s := State.reset
  let s := s.put R.HP_STATUS_LINK (2^(0))
  let s := s.put (R.HP_CTRL_HP1_EN) 0
  let s := s.put R.HP_CTRL_VLAN_EN 0
  s
/-- A state for clause 5 of FramesArrive. -/
def wit42s5 : State :=
  let s := State.reset
  let s := s.put R.HP_STATUS_LINK (2^(0))
  let s := s.put (R.HP_CTRL_HP1_EN) 0
  let s := s.put R.HP_CTRL_VLAN_EN 0
  let s := s.put R.HP_CTRL_HP1_EN 1
  let s := s.put R.HP_CTRL_PMAP 2
  let s := s.put R.HP_STATUS_LINK 3
  s
/-- A state for clause 6 of FramesArrive. -/
def wit42s6 : State :=
  let s := State.reset
  let s := s.put R.HP_STATUS_LINK (2^(0))
  let s := s.put (R.HP_CTRL_HP1_EN) 0
  let s := s.put (R.HP_CTRL_TC_EN) 0
  let s := s.put R.HP_STATUS_LINK (2^((s.hp1Port)))
  let s := s.put R.HP_CTRL_VLAN_EN 0
  let s := s.put R.HP_CTRL_HP1_EN 1
  let s := s.put R.HP_CTRL_PMAP 2
  let s := s.put R.HP_STATUS_LINK 3
  s
/-- A state for clause 7 of FramesArrive. -/
def wit42s7 : State :=
  let s := State.reset
  let s := s.put R.HP_STATUS_LINK (2^(0))
  let s := s.put (R.HP_CTRL_HP1_EN) 0
  let s := s.put R.CASC_STATUS_ROLE 1
  let s := s.put R.HP_CTRL_VLAN_EN 0
  s
/-- A state for clause 8 of FramesArrive. -/
def wit42s8 : State :=
  let s := State.reset
  let s := s.put (R.HP_CTRL_HP1_EN) 0
  s
/-- A state for clause 9 of FramesArrive. -/
def wit42s9 : State :=
  let s := State.reset
  let s := s.put (R.HP_CTRL_HP1_EN) 1
  let s := s.put (R.HP_CTRL_PMAP) (2 ^ 0)
  let s := s.put R.HP_STATUS_LINK (2^(0))
  s
/-- A state for clause 11 of FramesArrive. -/
def wit42s11 : State :=
  let s := State.reset
  let s := s.put (R.HP_CTRL_HP1_EN) 1
  let s := s.put (R.HP_CTRL_PMAP) (2 ^ 0)
  let s := s.put R.HP_STATUS_LINK (2^(0))
  let s := s.put R.HP_STATUS_LINK (2^(0))
  s
/-- A state for clause 13 of FramesArrive. -/
def wit42s13 : State :=
  let s := State.reset
  let s := s.put (R.HG_STATUS_STATE 0) hgTimed
  s
/-- A state for clause 14 of FramesArrive. -/
def wit42s14 : State :=
  let s := State.reset
  let s := s.put (R.HG_STATUS_STATE 0) hgTimed
  let s := s.put (R.FAB_FROZEN_FROZEN ( (0x50 + 0) / 32)) (2^( (0x50 + 0) % 32))
  s
/-- A state for clause 15 of FramesArrive. -/
def wit42s15 : State :=
  let s := State.reset
  let s := s.put (R.HG_STATUS_STATE 0) hgTimed
  let s := s.put (R.PLAN_A_PORT_ROLE 0) 9
  let s := s.setReg (R.ROUTE 0 0) 0x90
  let s := s.put (R.HG_STATUS_STATE 1) hgTimed
  let s := s.put R.CASC_STATUS_DA 0
  s
/-- A state for clause 16 of FramesArrive. -/
def wit42s16 : State :=
  let s := State.reset
  let s := s.put (R.HG_STATUS_STATE 0) hgTimed
  let s := s.put (R.PLAN_A_PORT_ROLE 0) 9
  let s := s.put R.CASC_STATUS_DA 0
  s
/-- A state for clause 17 of FramesArrive. -/
def wit42s17 : State :=
  let s := State.reset
  let s := s.put (R.HG_STATUS_STATE 0) hgTimed
  let s := s.put R.CASC_STATUS_ROLE 1
  let s := s.put (R.PLAN_A_PORT_ROLE 0) 6
  s
theorem test_frames_arrive_hypotheses :
    (0 < 8) ∧
    (0 < 8 ∧ (State.reset.portUp 0 = false ∨ State.reset.pwrState = 3)) ∧
    (0 < 8 ∧ wit42s2.portUp 0 = true ∧ wit42s2.pwrState ≠ 3 ∧ (true = true ∨ (wit42s2.classify (([] : List Byte)) = .rxDrop ∧
    (wit42s2.flag R.HP_CTRL_HP1_EN = false ∨ wit42s2.fbit R.HP_CTRL_PMAP 0 = false)))) ∧
    (0 < 8 ∧ wit42s3.portUp 0 = true ∧ wit42s3.pwrState ≠ 3 ∧ false = false ∧
    (wit42s3.flag R.HP_CTRL_HP1_EN = false ∨ wit42s3.fbit R.HP_CTRL_PMAP 0 = false) ∧ wit42s3.classify (1 :: List.replicate 20 0) = .notLocal) ∧
    (0 < 8 ∧ wit42s3.portUp 0 = true ∧ wit42s3.pwrState ≠ 3 ∧ false = false ∧
    (wit42s3.flag R.HP_CTRL_HP1_EN = false ∨ wit42s3.fbit R.HP_CTRL_PMAP 0 = false) ∧ wit42s3.classify (List.replicate 12 0 ++ [0x88, 0x09, 0x0A]) = .esmc) ∧
    (0 < 8 ∧ wit42s5.portUp 0 = true ∧ wit42s5.pwrState ≠ 3 ∧ false = false ∧
    (wit42s5.flag R.HP_CTRL_HP1_EN = false ∨ wit42s5.fbit R.HP_CTRL_PMAP 0 = false) ∧ wit42s5.classify (2 :: List.replicate 20 0) = .toHp1 ∧ false = false) ∧
    (0 < 8 ∧ wit42s6.portUp 0 = true ∧ wit42s6.pwrState ≠ 3 ∧ false = false ∧
    (wit42s6.flag R.HP_CTRL_HP1_EN = false ∨ wit42s6.fbit R.HP_CTRL_PMAP 0 = false) ∧ wit42s6.classify (2 :: List.replicate 20 0) = .toHp1 ∧ true = true ∧
    wit42s6.flag R.HP_CTRL_TC_EN = false ∧ wit42s6.portUp (wit42s6.hp1Port) = true) ∧
    (0 < 8 ∧ wit42s7.portUp 0 = true ∧ wit42s7.pwrState ≠ 3 ∧ false = false ∧
    (wit42s7.flag R.HP_CTRL_HP1_EN = false ∨ wit42s7.fbit R.HP_CTRL_PMAP 0 = false) ∧
    wit42s7.classify (List.replicate 12 0 ++ [0xAE, 0xFE]) = .ecpri 0 (([] : List Byte)) ∧ wit42s7.worker = true) ∧
    ((wit42s8.flag R.HP_CTRL_HP1_EN = false ∨ wit42s8.portUp wit42s8.hp1Port = false)) ∧
    (0 < 8 ∧ wit42s9.flag R.HP_CTRL_HP1_EN = true ∧ wit42s9.get R.HP_CTRL_PMAP = 2 ^ 0 ∧ wit42s9.portUp 0 = true ∧ 9212 < (List.replicate 9213 0).length) ∧
    (0 < 8 ∧ wit42s9.flag R.HP_CTRL_HP1_EN = true ∧ wit42s9.get R.HP_CTRL_PMAP = 2 ^ 0 ∧ wit42s9.portUp 0 = true ∧ (([] : List Byte)).length ≤ 9212 ∧
    false = false) ∧
    (0 < 8 ∧ wit42s11.flag R.HP_CTRL_HP1_EN = true ∧ wit42s11.get R.HP_CTRL_PMAP = 2 ^ 0 ∧ wit42s11.portUp 0 = true ∧ (([] : List Byte)).length ≤ 9212 ∧
    true = true ∧ wit42s11.portUp 0 = true) ∧
    (State.reset.hgCarries 0 = false) ∧
    (wit42s13.hgCarries 0 = true ∧ 7 < 8) ∧
    (wit42s14.hgCarries 0 = true ∧ 0 ≤ 7 ∧ (wit42s14.frozen (0x50 + 0) = true ∨ wit42s14.sideWay 0 0 = false)) ∧
    (wit42s15.hgCarries 0 = true ∧ wit42s15.frozen (0x50 + 0) = false ∧ wit42s15.sideWay 0 0 = true ∧ (0 = 0 ∨ 0 = 1 ∨ 0 = 3) ∧ 1 ≠ 0xFF ∧
    1 ≠ wit42s15.ownDa ∧ wit42s15.routeOf 1 = some 1 ∧ 1 ∈ wit42s15.cmdPorts ∧ wit42s15.frozen (0x50 + 1) = false) ∧
    (wit42s16.hgCarries 0 = true ∧ wit42s16.frozen (0x50 + 0) = false ∧ wit42s16.sideWay 0 0 = true ∧ (0 = 0 ∨ 0 = 1 ∨ 0 = 3) ∧ 1 ≠ 0xFF ∧
    1 ≠ wit42s16.ownDa ∧ wit42s16.routeOf 1 = none) ∧
    (wit42s17.hgCarries 0 = true ∧ wit42s17.frozen (0x50 + 0) = false ∧ wit42s17.sideWay 0 4 = true ∧ (4 = 4 ∨ 4 = 5) ∧ wit42s17.worker = true ∧
    wit42s17.upPort = some 1 ∧ wit42s17.frozen (0x50 + 1) = false) :=
  ⟨by decide,
   by decide,
   by decide,
   by decide,
   by decide,
   by decide,
   by decide,
   by decide,
   by decide,
   ⟨by decide, by decide, by decide, by decide, by rw [List.length_replicate]; omega⟩,
   by decide,
   by decide,
   by decide,
   by decide,
   by decide,
   by decide,
   by decide,
   by decide⟩

/-- A helper of the witnesses of FronthaulMessages. -/
def iqMsg (f : BitVec 8) : List Byte := [0, 0, 0, 128, 0, f, 0, 0, 0, 0, 0x40, 0] ++ List.replicate (blockBytes 0) 0
/-- A helper of the witnesses of FronthaulMessages. -/
def sectMsg (f np : BitVec 8) : List Byte := [0, 0, 0, 128, 0, f, 0, 0x41, 0, 0, np, 0, 0, 0, 0, 0]
/-- A helper of the witnesses of FronthaulMessages. -/
def fhSlot (s : State) : State :=
  let s := (((s.put (R.CS_FFT_NL 0 0) 1).put (R.CS_CFG_N_RB 0 0) 24).put (R.CS_CFG_QMASK 0 0) 15).put (R.CS_CFG_EN 0 0) 1
  let s := ((s.put (R.CS_CFG_OWNER 0 0) 0).put R.SP_STATUS_OPEN 1).put (R.CS_BUF_DEPTH 0) 2
  (List.range 14).foldl (fun s e => s.put (R.SLOT_TBL_QMASK 0 e) 15) s
/-- A state for clause 0 of FronthaulMessages. -/
def wit43s0 : State :=
  let s := State.reset
  let s := fhSlot s
  s
/-- A state for clause 1 of FronthaulMessages. -/
def wit43s1 : State :=
  let s := State.reset
  let s := fhSlot s
  let s := s.put (R.CS_CFG_EN (dirIx .dl) (bits (at16 ([0, 0, 0, 128, 0, 0, 0, 0, 0, 0, 0x40, 0]) 0) 12 10)) 1
  s
/-- A state for clause 2 of FronthaulMessages. -/
def wit43s2 : State :=
  let s := State.reset
  let s := fhSlot s
  let s := s.put (R.CS_CFG_EN (dirIx .dl) (bits (at16 (iqMsg 0) 0) 12 10)) 1
  let s := s.put (R.CS_CFG_OWNER 0 (bits (at16 (iqMsg 0) 0) 12 10)) (16)
  let s := s.put (R.CS_CFG_OWNER 0 0) 31
  s
/-- A state for clause 3 of FronthaulMessages. -/
def wit43s3 : State :=
  let s := State.reset
  let s := fhSlot s
  let s := s.put (R.CS_CFG_EN (dirIx .dl) (bits (at16 (iqMsg 0) 0) 12 10)) 1
  let s := s.put R.SP_STATUS_FROZEN 1
  s
/-- A state for clause 4 of FronthaulMessages. -/
def wit43s4 : State :=
  let s := State.reset
  let s := fhSlot s
  let s := s.put (R.CS_CFG_EN (dirIx .dl) (bits (at16 (iqMsg 0) 0) 12 10)) 1
  let s := s.put (R.SP_CFG_SRC_CHECK) 1
  s
/-- A state for clause 5 of FronthaulMessages. -/
def wit43s5 : State :=
  let s := State.reset
  let s := fhSlot s
  let s := s.put (R.CS_CFG_EN (dirIx .dl) (bits (at16 (iqMsg 0x40) 0) 12 10)) 1
  let s := s.put (R.SP_CFG_SRC_CHECK) 0
  s
/-- A state for clause 6 of FronthaulMessages. -/
def wit43s6 : State :=
  let s := State.reset
  let s := fhSlot s
  let s := s.put (R.CS_CFG_EN (dirIx .dl) (bits (at16 (iqMsg 0) 0) 12 10)) 1
  let s := s.put (R.SP_CFG_SRC_CHECK) 0
  let s := { s with now := 50000 }
  s
/-- A state for clause 7 of FronthaulMessages. -/
def wit43s7 : State :=
  let s := State.reset
  let s := fhSlot s
  let s := s.put (R.CS_CFG_EN (dirIx .dl) (bits (at16 (iqMsg 0x40) 0) 12 10)) 1
  let s := s.put (R.SP_CFG_SRC_CHECK) 0
  let s := { s with now := 4895200 }
  s
/-- A state for clause 9 of FronthaulMessages. -/
def wit43s9 : State :=
  let s := State.reset
  let s := fhSlot s
  let s := s.put (R.CS_CFG_OWNER (dirIx ((.dl : Dir))) 0) (16)
  let s := s.put (R.CS_CFG_OWNER 0 0) 31
  s
/-- A state for clause 10 of FronthaulMessages. -/
def wit43s10 : State :=
  let s := State.reset
  let s := fhSlot s
  let s := s.put (R.SP_CFG_SRC_CHECK) 0
  s
/-- A state for clause 11 of FronthaulMessages. -/
def wit43s11 : State :=
  let s := State.reset
  let s := fhSlot s
  let s := s.put (R.SP_CFG_SRC_CHECK) 0
  let s := { s with now := 50000 }
  s
/-- A state for clause 12 of FronthaulMessages. -/
def wit43s12 : State :=
  let s := State.reset
  let s := fhSlot s
  let s := s.put (R.SP_CFG_SRC_CHECK) 0
  let s := { s with now := 4895200 }
  let s := s.put R.SP_CFG_C_OPEN 40
  s
/-- A state for clause 13 of FronthaulMessages. -/
def wit43s13 : State :=
  let s := State.reset
  let s := fhSlot s
  let s := s.put (R.SP_CFG_SRC_CHECK) 0
  let s := { s with now := 4895200 }
  let s := s.put R.SP_CFG_C_OPEN 40
  let s := { s with sp.store := List.replicate 8192 mkSectRec }
  s
theorem test_fronthaul_messages_hypotheses :
    (((at16 (([] : List Byte)) 0) / 2 ^ 14 ≠ 0 ∨ (at16 (([] : List Byte)) 0).testBit 13 = true ∨ beNat (((([] : List Byte)).drop 3).take 1) ≠ 128)) ∧
    (((at16 ([0, 0, 0, 128, 0, 0, 0, 0, 0, 0, 0x40, 0]) 0) / 2 ^ 14 = 0 ∧ (at16 ([0, 0, 0, 128, 0, 0, 0, 0, 0, 0, 0x40, 0]) 0).testBit 13 = false ∧
    beNat ((([0, 0, 0, 128, 0, 0, 0, 0, 0, 0, 0x40, 0]).drop 3).take 1) = 128 ∧
    (bits (beNat ((([0, 0, 0, 128, 0, 0, 0, 0, 0, 0, 0x40, 0]).drop 4).take 4)) 9 6) ≤ 8 ∧
    (wit43s1.slotEn .dl (bits (at16 ([0, 0, 0, 128, 0, 0, 0, 0, 0, 0, 0x40, 0]) 0) 12 10) = true ∨ wit43s1.active .dl (bits (at16 ([0, 0, 0, 128, 0, 0, 0, 0, 0, 0, 0x40, 0]) 0) 12 10) = true) ∧
    wit43s1.lbase .dl (bits (at16 ([0, 0, 0, 128, 0, 0, 0, 0, 0, 0, 0x40, 0]) 0) 12 10) ≤ (bits (at16 ([0, 0, 0, 128, 0, 0, 0, 0, 0, 0, 0x40, 0]) 0) 9 5) ∧
    ((bits (at16 ([0, 0, 0, 128, 0, 0, 0, 0, 0, 0, 0x40, 0]) 0) 9 5) - wit43s1.lbase .dl (bits (at16 ([0, 0, 0, 128, 0, 0, 0, 0, 0, 0, 0x40, 0]) 0) 12 10)) < wit43s1.slotNL .dl (bits (at16 ([0, 0, 0, 128, 0, 0, 0, 0, 0, 0, 0x40, 0]) 0) 12 10) ∧
    (bits (beNat ((([0, 0, 0, 128, 0, 0, 0, 0, 0, 0, 0x40, 0]).drop 8).take 4)) 31 23) + (bits (beNat ((([0, 0, 0, 128, 0, 0, 0, 0, 0, 0, 0x40, 0]).drop 8).take 4)) 22 14) ≤ wit43s1.slotRB .dl (bits (at16 ([0, 0, 0, 128, 0, 0, 0, 0, 0, 0, 0x40, 0]) 0) 12 10) ∧
    (bits (beNat ((([0, 0, 0, 128, 0, 0, 0, 0, 0, 0, 0x40, 0]).drop 4).take 4)) 21 10) < symsPerFrame (wit43s1.slotMu .dl (bits (at16 ([0, 0, 0, 128, 0, 0, 0, 0, 0, 0, 0x40, 0]) 0) 12 10))) ∧
    ([0, 0, 0, 128, 0, 0, 0, 0, 0, 0, 0x40, 0]).length ≠ 12 + (bits (beNat ((([0, 0, 0, 128, 0, 0, 0, 0, 0, 0, 0x40, 0]).drop 8).take 4)) 22 14) * blockBytes (bits (beNat ((([0, 0, 0, 128, 0, 0, 0, 0, 0, 0, 0x40, 0]).drop 4).take 4)) 9 6)) ∧
    (((at16 (iqMsg 0) 0) / 2 ^ 14 = 0 ∧ (at16 (iqMsg 0) 0).testBit 13 = false ∧ beNat (((iqMsg 0).drop 3).take 1) = 128 ∧
    (bits (beNat (((iqMsg 0).drop 4).take 4)) 9 6) ≤ 8 ∧
    (wit43s2.slotEn .dl (bits (at16 (iqMsg 0) 0) 12 10) = true ∨ wit43s2.active .dl (bits (at16 (iqMsg 0) 0) 12 10) = true) ∧
    wit43s2.lbase .dl (bits (at16 (iqMsg 0) 0) 12 10) ≤ (bits (at16 (iqMsg 0) 0) 9 5) ∧
    ((bits (at16 (iqMsg 0) 0) 9 5) - wit43s2.lbase .dl (bits (at16 (iqMsg 0) 0) 12 10)) < wit43s2.slotNL .dl (bits (at16 (iqMsg 0) 0) 12 10) ∧
    (bits (beNat (((iqMsg 0).drop 8).take 4)) 31 23) + (bits (beNat (((iqMsg 0).drop 8).take 4)) 22 14) ≤ wit43s2.slotRB .dl (bits (at16 (iqMsg 0) 0) 12 10) ∧
    (bits (beNat (((iqMsg 0).drop 4).take 4)) 21 10) < symsPerFrame (wit43s2.slotMu .dl (bits (at16 (iqMsg 0) 0) 12 10))) ∧
    (iqMsg 0).length = 12 + (bits (beNat (((iqMsg 0).drop 8).take 4)) 22 14) * blockBytes (bits (beNat (((iqMsg 0).drop 4).take 4)) 9 6) ∧
    (16 ≤ (wit43s2.slotOwner 0 (bits (at16 (iqMsg 0) 0) 12 10)) ∨ wit43s2.fbit R.SP_STATUS_OPEN (wit43s2.slotOwner 0 (bits (at16 (iqMsg 0) 0) 12 10)) = false)) ∧
    (((at16 (iqMsg 0) 0) / 2 ^ 14 = 0 ∧ (at16 (iqMsg 0) 0).testBit 13 = false ∧ beNat (((iqMsg 0).drop 3).take 1) = 128 ∧
    (bits (beNat (((iqMsg 0).drop 4).take 4)) 9 6) ≤ 8 ∧
    (wit43s3.slotEn .dl (bits (at16 (iqMsg 0) 0) 12 10) = true ∨ wit43s3.active .dl (bits (at16 (iqMsg 0) 0) 12 10) = true) ∧
    wit43s3.lbase .dl (bits (at16 (iqMsg 0) 0) 12 10) ≤ (bits (at16 (iqMsg 0) 0) 9 5) ∧
    ((bits (at16 (iqMsg 0) 0) 9 5) - wit43s3.lbase .dl (bits (at16 (iqMsg 0) 0) 12 10)) < wit43s3.slotNL .dl (bits (at16 (iqMsg 0) 0) 12 10) ∧
    (bits (beNat (((iqMsg 0).drop 8).take 4)) 31 23) + (bits (beNat (((iqMsg 0).drop 8).take 4)) 22 14) ≤ wit43s3.slotRB .dl (bits (at16 (iqMsg 0) 0) 12 10) ∧
    (bits (beNat (((iqMsg 0).drop 4).take 4)) 21 10) < symsPerFrame (wit43s3.slotMu .dl (bits (at16 (iqMsg 0) 0) 12 10))) ∧
    (iqMsg 0).length = 12 + (bits (beNat (((iqMsg 0).drop 8).take 4)) 22 14) * blockBytes (bits (beNat (((iqMsg 0).drop 4).take 4)) 9 6) ∧
    (wit43s3.slotOwner 0 (bits (at16 (iqMsg 0) 0) 12 10)) < 16 ∧
    wit43s3.fbit R.SP_STATUS_OPEN (wit43s3.slotOwner 0 (bits (at16 (iqMsg 0) 0) 12 10)) = true ∧
    wit43s3.fbit R.SP_STATUS_FROZEN (wit43s3.slotOwner 0 (bits (at16 (iqMsg 0) 0) 12 10)) = true) ∧
    (((at16 (iqMsg 0) 0) / 2 ^ 14 = 0 ∧ (at16 (iqMsg 0) 0).testBit 13 = false ∧ beNat (((iqMsg 0).drop 3).take 1) = 128 ∧
    (bits (beNat (((iqMsg 0).drop 4).take 4)) 9 6) ≤ 8 ∧
    (wit43s4.slotEn .dl (bits (at16 (iqMsg 0) 0) 12 10) = true ∨ wit43s4.active .dl (bits (at16 (iqMsg 0) 0) 12 10) = true) ∧
    wit43s4.lbase .dl (bits (at16 (iqMsg 0) 0) 12 10) ≤ (bits (at16 (iqMsg 0) 0) 9 5) ∧
    ((bits (at16 (iqMsg 0) 0) 9 5) - wit43s4.lbase .dl (bits (at16 (iqMsg 0) 0) 12 10)) < wit43s4.slotNL .dl (bits (at16 (iqMsg 0) 0) 12 10) ∧
    (bits (beNat (((iqMsg 0).drop 8).take 4)) 31 23) + (bits (beNat (((iqMsg 0).drop 8).take 4)) 22 14) ≤ wit43s4.slotRB .dl (bits (at16 (iqMsg 0) 0) 12 10) ∧
    (bits (beNat (((iqMsg 0).drop 4).take 4)) 21 10) < symsPerFrame (wit43s4.slotMu .dl (bits (at16 (iqMsg 0) 0) 12 10))) ∧
    (iqMsg 0).length = 12 + (bits (beNat (((iqMsg 0).drop 8).take 4)) 22 14) * blockBytes (bits (beNat (((iqMsg 0).drop 4).take 4)) 9 6) ∧
    (wit43s4.slotOwner 0 (bits (at16 (iqMsg 0) 0) 12 10)) < 16 ∧
    wit43s4.fbit R.SP_STATUS_OPEN (wit43s4.slotOwner 0 (bits (at16 (iqMsg 0) 0) 12 10)) = true ∧
    wit43s4.fbit R.SP_STATUS_FROZEN (wit43s4.slotOwner 0 (bits (at16 (iqMsg 0) 0) 12 10)) = false ∧ wit43s4.flag R.SP_CFG_SRC_CHECK = true ∧
    wit43s4.sessSource (wit43s4.slotOwner 0 (bits (at16 (iqMsg 0) 0) 12 10)) ≠ 1) ∧
    (((at16 (iqMsg 0x40) 0) / 2 ^ 14 = 0 ∧ (at16 (iqMsg 0x40) 0).testBit 13 = false ∧ beNat (((iqMsg 0x40).drop 3).take 1) = 128 ∧
    (bits (beNat (((iqMsg 0x40).drop 4).take 4)) 9 6) ≤ 8 ∧
    (wit43s5.slotEn .dl (bits (at16 (iqMsg 0x40) 0) 12 10) = true ∨ wit43s5.active .dl (bits (at16 (iqMsg 0x40) 0) 12 10) = true) ∧
    wit43s5.lbase .dl (bits (at16 (iqMsg 0x40) 0) 12 10) ≤ (bits (at16 (iqMsg 0x40) 0) 9 5) ∧
    ((bits (at16 (iqMsg 0x40) 0) 9 5) - wit43s5.lbase .dl (bits (at16 (iqMsg 0x40) 0) 12 10)) < wit43s5.slotNL .dl (bits (at16 (iqMsg 0x40) 0) 12 10) ∧
    (bits (beNat (((iqMsg 0x40).drop 8).take 4)) 31 23) + (bits (beNat (((iqMsg 0x40).drop 8).take 4)) 22 14) ≤ wit43s5.slotRB .dl (bits (at16 (iqMsg 0x40) 0) 12 10) ∧
    (bits (beNat (((iqMsg 0x40).drop 4).take 4)) 21 10) < symsPerFrame (wit43s5.slotMu .dl (bits (at16 (iqMsg 0x40) 0) 12 10))) ∧
    (iqMsg 0x40).length = 12 + (bits (beNat (((iqMsg 0x40).drop 8).take 4)) 22 14) * blockBytes (bits (beNat (((iqMsg 0x40).drop 4).take 4)) 9 6) ∧
    (wit43s5.slotOwner 0 (bits (at16 (iqMsg 0x40) 0) 12 10)) < 16 ∧
    wit43s5.fbit R.SP_STATUS_OPEN (wit43s5.slotOwner 0 (bits (at16 (iqMsg 0x40) 0) 12 10)) = true ∧
    wit43s5.fbit R.SP_STATUS_FROZEN (wit43s5.slotOwner 0 (bits (at16 (iqMsg 0x40) 0) 12 10)) = false ∧
    (wit43s5.flag R.SP_CFG_SRC_CHECK = false ∨ wit43s5.sessSource (wit43s5.slotOwner 0 (bits (at16 (iqMsg 0x40) 0) 12 10)) = 0) ∧
    (wit43s5.now : Int) < (wit43s5.iqWindow (bits (at16 (iqMsg 0x40) 0) 12 10) (wit43s5.frameNear ((beNat (((iqMsg 0x40).drop 4).take 4)) / 2 ^ 22)) (bits (beNat (((iqMsg 0x40).drop 4).take 4)) 21 10)).1) ∧
    (((at16 (iqMsg 0) 0) / 2 ^ 14 = 0 ∧ (at16 (iqMsg 0) 0).testBit 13 = false ∧ beNat (((iqMsg 0).drop 3).take 1) = 128 ∧
    (bits (beNat (((iqMsg 0).drop 4).take 4)) 9 6) ≤ 8 ∧
    (wit43s6.slotEn .dl (bits (at16 (iqMsg 0) 0) 12 10) = true ∨ wit43s6.active .dl (bits (at16 (iqMsg 0) 0) 12 10) = true) ∧
    wit43s6.lbase .dl (bits (at16 (iqMsg 0) 0) 12 10) ≤ (bits (at16 (iqMsg 0) 0) 9 5) ∧
    ((bits (at16 (iqMsg 0) 0) 9 5) - wit43s6.lbase .dl (bits (at16 (iqMsg 0) 0) 12 10)) < wit43s6.slotNL .dl (bits (at16 (iqMsg 0) 0) 12 10) ∧
    (bits (beNat (((iqMsg 0).drop 8).take 4)) 31 23) + (bits (beNat (((iqMsg 0).drop 8).take 4)) 22 14) ≤ wit43s6.slotRB .dl (bits (at16 (iqMsg 0) 0) 12 10) ∧
    (bits (beNat (((iqMsg 0).drop 4).take 4)) 21 10) < symsPerFrame (wit43s6.slotMu .dl (bits (at16 (iqMsg 0) 0) 12 10))) ∧
    (iqMsg 0).length = 12 + (bits (beNat (((iqMsg 0).drop 8).take 4)) 22 14) * blockBytes (bits (beNat (((iqMsg 0).drop 4).take 4)) 9 6) ∧
    (wit43s6.slotOwner 0 (bits (at16 (iqMsg 0) 0) 12 10)) < 16 ∧
    wit43s6.fbit R.SP_STATUS_OPEN (wit43s6.slotOwner 0 (bits (at16 (iqMsg 0) 0) 12 10)) = true ∧
    wit43s6.fbit R.SP_STATUS_FROZEN (wit43s6.slotOwner 0 (bits (at16 (iqMsg 0) 0) 12 10)) = false ∧
    (wit43s6.flag R.SP_CFG_SRC_CHECK = false ∨ wit43s6.sessSource (wit43s6.slotOwner 0 (bits (at16 (iqMsg 0) 0) 12 10)) = 0) ∧
    (wit43s6.iqWindow (bits (at16 (iqMsg 0) 0) 12 10) (wit43s6.frameNear ((beNat (((iqMsg 0).drop 4).take 4)) / 2 ^ 22)) (bits (beNat (((iqMsg 0).drop 4).take 4)) 21 10)).1 ≤ wit43s6.now ∧
    (wit43s6.iqWindow (bits (at16 (iqMsg 0) 0) 12 10) (wit43s6.frameNear ((beNat (((iqMsg 0).drop 4).take 4)) / 2 ^ 22)) (bits (beNat (((iqMsg 0).drop 4).take 4)) 21 10)).2 < wit43s6.now) ∧
    (((at16 (iqMsg 0x40) 0) / 2 ^ 14 = 0 ∧ (at16 (iqMsg 0x40) 0).testBit 13 = false ∧ beNat (((iqMsg 0x40).drop 3).take 1) = 128 ∧
    (bits (beNat (((iqMsg 0x40).drop 4).take 4)) 9 6) ≤ 8 ∧
    (wit43s7.slotEn .dl (bits (at16 (iqMsg 0x40) 0) 12 10) = true ∨ wit43s7.active .dl (bits (at16 (iqMsg 0x40) 0) 12 10) = true) ∧
    wit43s7.lbase .dl (bits (at16 (iqMsg 0x40) 0) 12 10) ≤ (bits (at16 (iqMsg 0x40) 0) 9 5) ∧
    ((bits (at16 (iqMsg 0x40) 0) 9 5) - wit43s7.lbase .dl (bits (at16 (iqMsg 0x40) 0) 12 10)) < wit43s7.slotNL .dl (bits (at16 (iqMsg 0x40) 0) 12 10) ∧
    (bits (beNat (((iqMsg 0x40).drop 8).take 4)) 31 23) + (bits (beNat (((iqMsg 0x40).drop 8).take 4)) 22 14) ≤ wit43s7.slotRB .dl (bits (at16 (iqMsg 0x40) 0) 12 10) ∧
    (bits (beNat (((iqMsg 0x40).drop 4).take 4)) 21 10) < symsPerFrame (wit43s7.slotMu .dl (bits (at16 (iqMsg 0x40) 0) 12 10))) ∧
    (iqMsg 0x40).length = 12 + (bits (beNat (((iqMsg 0x40).drop 8).take 4)) 22 14) * blockBytes (bits (beNat (((iqMsg 0x40).drop 4).take 4)) 9 6) ∧
    (wit43s7.slotOwner 0 (bits (at16 (iqMsg 0x40) 0) 12 10)) < 16 ∧
    wit43s7.fbit R.SP_STATUS_OPEN (wit43s7.slotOwner 0 (bits (at16 (iqMsg 0x40) 0) 12 10)) = true ∧
    wit43s7.fbit R.SP_STATUS_FROZEN (wit43s7.slotOwner 0 (bits (at16 (iqMsg 0x40) 0) 12 10)) = false ∧
    (wit43s7.flag R.SP_CFG_SRC_CHECK = false ∨ wit43s7.sessSource (wit43s7.slotOwner 0 (bits (at16 (iqMsg 0x40) 0) 12 10)) = 0) ∧
    (wit43s7.iqWindow (bits (at16 (iqMsg 0x40) 0) 12 10) (wit43s7.frameNear ((beNat (((iqMsg 0x40).drop 4).take 4)) / 2 ^ 22)) (bits (beNat (((iqMsg 0x40).drop 4).take 4)) 21 10)).1 ≤ wit43s7.now ∧
    (wit43s7.now : Int) ≤ (wit43s7.iqWindow (bits (at16 (iqMsg 0x40) 0) 12 10) (wit43s7.frameNear ((beNat (((iqMsg 0x40).drop 4).take 4)) / 2 ^ 22)) (bits (beNat (((iqMsg 0x40).drop 4).take 4)) 21 10)).2 ∧
    wit43s7.anyDir .dl (bits (at16 (iqMsg 0x40) 0) 12 10) (wit43s7.frameNear ((beNat (((iqMsg 0x40).drop 4).take 4)) / 2 ^ 22)) (bits (beNat (((iqMsg 0x40).drop 4).take 4)) 21 10) = true ∧
    wit43s7.slotRB .dl (bits (at16 (iqMsg 0x40) 0) 12 10) ≤ 273) ∧
    (wit43s0.sectHeader (([] : List Byte)) = none ∧ (at16 (([] : List Byte)) 0 / 2 ^ 14 ≠ 0 ∨ beNat (((([] : List Byte)).drop 3).take 1) ≠ 128)) ∧
    (wit43s9.sectHeader (sectMsg 0 2) = some (((.dl : Dir)), 0, 0, 0, 1, 1) ∧ (sectMsg 0 2).length = 16 ∧
    (16 ≤ (wit43s9.slotOwner (dirIx ((.dl : Dir))) 0) ∨ wit43s9.fbit R.SP_STATUS_OPEN (wit43s9.slotOwner (dirIx ((.dl : Dir))) 0) = false)) ∧
    (wit43s10.sectHeader (sectMsg 0x40 2) = some (((.dl : Dir)), 0, 1, 0, 1, 1) ∧ (sectMsg 0x40 2).length = 16 ∧
    (wit43s10.slotOwner (dirIx ((.dl : Dir))) 0) < 16 ∧ wit43s10.fbit R.SP_STATUS_OPEN (wit43s10.slotOwner (dirIx ((.dl : Dir))) 0) = true ∧
    wit43s10.fbit R.SP_STATUS_FROZEN (wit43s10.slotOwner (dirIx ((.dl : Dir))) 0) = false ∧
    (wit43s10.flag R.SP_CFG_SRC_CHECK = false ∨ wit43s10.sessSource (wit43s10.slotOwner (dirIx ((.dl : Dir))) 0) = 0) ∧
    (wit43s10.now : Int) < (wit43s10.sectWindow ((.dl : Dir)) 0 (wit43s10.frameNear 1) 0).1) ∧
    (wit43s11.sectHeader (sectMsg 0 2) = some (((.dl : Dir)), 0, 0, 0, 1, 1) ∧ (sectMsg 0 2).length = 16 ∧
    (wit43s11.slotOwner (dirIx ((.dl : Dir))) 0) < 16 ∧ wit43s11.fbit R.SP_STATUS_OPEN (wit43s11.slotOwner (dirIx ((.dl : Dir))) 0) = true ∧
    wit43s11.fbit R.SP_STATUS_FROZEN (wit43s11.slotOwner (dirIx ((.dl : Dir))) 0) = false ∧
    (wit43s11.flag R.SP_CFG_SRC_CHECK = false ∨ wit43s11.sessSource (wit43s11.slotOwner (dirIx ((.dl : Dir))) 0) = 0) ∧
    (wit43s11.sectWindow ((.dl : Dir)) 0 (wit43s11.frameNear 0) 0).1 ≤ wit43s11.now ∧
    (wit43s11.sectWindow ((.dl : Dir)) 0 (wit43s11.frameNear 0) 0).2 < wit43s11.now) ∧
    (wit43s12.sectHeader (sectMsg 0x40 0) = some (((.dl : Dir)), 0, 1, 0, 1, 1) ∧ (sectMsg 0x40 0).length = 16 ∧
    (wit43s12.slotOwner (dirIx ((.dl : Dir))) 0) < 16 ∧ wit43s12.fbit R.SP_STATUS_OPEN (wit43s12.slotOwner (dirIx ((.dl : Dir))) 0) = true ∧
    wit43s12.fbit R.SP_STATUS_FROZEN (wit43s12.slotOwner (dirIx ((.dl : Dir))) 0) = false ∧
    (wit43s12.flag R.SP_CFG_SRC_CHECK = false ∨ wit43s12.sessSource (wit43s12.slotOwner (dirIx ((.dl : Dir))) 0) = 0) ∧
    (wit43s12.sectWindow ((.dl : Dir)) 0 (wit43s12.frameNear 1) 0).1 ≤ wit43s12.now ∧
    (wit43s12.now : Int) ≤ (wit43s12.sectWindow ((.dl : Dir)) 0 (wit43s12.frameNear 1) 0).2 ∧
    (beNat (((sectMsg 0x40 0).drop 8).take 4)).testBit 0 = false ∧
    (¬(wit43s12.lbase ((.dl : Dir)) 0 ≤ ((beNat (((sectMsg 0x40 0).drop 8).take 4)) / 2 ^ 27) ∧
    ((beNat (((sectMsg 0x40 0).drop 8).take 4)) / 2 ^ 27) < wit43s12.lbase ((.dl : Dir)) 0 + wit43s12.slotNL ((.dl : Dir)) 0 ∧
    (bits (beNat (((sectMsg 0x40 0).drop 8).take 4)) 17 9) ≠ 0 ∧
    (bits (beNat (((sectMsg 0x40 0).drop 8).take 4)) 26 18) + (bits (beNat (((sectMsg 0x40 0).drop 8).take 4)) 17 9) ≤ wit43s12.slotRB ((.dl : Dir)) 0 ∧
    bits (beNat (((sectMsg 0x40 0).drop 8).take 4)) 8 1 = 0 ∧ (beNat (((sectMsg 0x40 0).drop 12).take 4)) % 65536 = 0))) ∧
    (wit43s13.sectHeader (sectMsg 0x40 2) = some (((.dl : Dir)), 0, 1, 0, 1, 1) ∧ (sectMsg 0x40 2).length = 16 ∧
    (wit43s13.slotOwner (dirIx ((.dl : Dir))) 0) < 16 ∧ wit43s13.fbit R.SP_STATUS_OPEN (wit43s13.slotOwner (dirIx ((.dl : Dir))) 0) = true ∧
    wit43s13.fbit R.SP_STATUS_FROZEN (wit43s13.slotOwner (dirIx ((.dl : Dir))) 0) = false ∧
    (wit43s13.flag R.SP_CFG_SRC_CHECK = false ∨ wit43s13.sessSource (wit43s13.slotOwner (dirIx ((.dl : Dir))) 0) = 0) ∧
    (wit43s13.sectWindow ((.dl : Dir)) 0 (wit43s13.frameNear 1) 0).1 ≤ wit43s13.now ∧
    (wit43s13.now : Int) ≤ (wit43s13.sectWindow ((.dl : Dir)) 0 (wit43s13.frameNear 1) 0).2 ∧
    (beNat (((sectMsg 0x40 2).drop 8).take 4)).testBit 0 = false ∧
    (wit43s13.lbase ((.dl : Dir)) 0 ≤ ((beNat (((sectMsg 0x40 2).drop 8).take 4)) / 2 ^ 27) ∧
    ((beNat (((sectMsg 0x40 2).drop 8).take 4)) / 2 ^ 27) < wit43s13.lbase ((.dl : Dir)) 0 + wit43s13.slotNL ((.dl : Dir)) 0 ∧
    (bits (beNat (((sectMsg 0x40 2).drop 8).take 4)) 17 9) ≠ 0 ∧
    (bits (beNat (((sectMsg 0x40 2).drop 8).take 4)) 26 18) + (bits (beNat (((sectMsg 0x40 2).drop 8).take 4)) 17 9) ≤ wit43s13.slotRB ((.dl : Dir)) 0 ∧
    bits (beNat (((sectMsg 0x40 2).drop 8).take 4)) 8 1 = 0 ∧ (beNat (((sectMsg 0x40 2).drop 12).take 4)) % 65536 = 0) ∧ 8192 ≤ wit43s13.sp.store.length) ∧
    (wit43s12.sectHeader (sectMsg 0x40 2) = some (((.dl : Dir)), 0, 1, 0, 1, 1) ∧ (sectMsg 0x40 2).length = 16 ∧
    (wit43s12.slotOwner (dirIx ((.dl : Dir))) 0) < 16 ∧ wit43s12.fbit R.SP_STATUS_OPEN (wit43s12.slotOwner (dirIx ((.dl : Dir))) 0) = true ∧
    wit43s12.fbit R.SP_STATUS_FROZEN (wit43s12.slotOwner (dirIx ((.dl : Dir))) 0) = false ∧
    (wit43s12.flag R.SP_CFG_SRC_CHECK = false ∨ wit43s12.sessSource (wit43s12.slotOwner (dirIx ((.dl : Dir))) 0) = 0) ∧
    (wit43s12.sectWindow ((.dl : Dir)) 0 (wit43s12.frameNear 1) 0).1 ≤ wit43s12.now ∧
    (wit43s12.now : Int) ≤ (wit43s12.sectWindow ((.dl : Dir)) 0 (wit43s12.frameNear 1) 0).2 ∧
    (beNat (((sectMsg 0x40 2).drop 8).take 4)).testBit 0 = false ∧
    (wit43s12.lbase ((.dl : Dir)) 0 ≤ ((beNat (((sectMsg 0x40 2).drop 8).take 4)) / 2 ^ 27) ∧
    ((beNat (((sectMsg 0x40 2).drop 8).take 4)) / 2 ^ 27) < wit43s12.lbase ((.dl : Dir)) 0 + wit43s12.slotNL ((.dl : Dir)) 0 ∧
    (bits (beNat (((sectMsg 0x40 2).drop 8).take 4)) 17 9) ≠ 0 ∧
    (bits (beNat (((sectMsg 0x40 2).drop 8).take 4)) 26 18) + (bits (beNat (((sectMsg 0x40 2).drop 8).take 4)) 17 9) ≤ wit43s12.slotRB ((.dl : Dir)) 0 ∧
    bits (beNat (((sectMsg 0x40 2).drop 8).take 4)) 8 1 = 0 ∧ (beNat (((sectMsg 0x40 2).drop 12).take 4)) % 65536 = 0) ∧ wit43s12.sp.store.length < 8192) :=
  ⟨by decide,
   by decide,
   by decide,
   by decide,
   by decide,
   by decide,
   by decide,
   by decide,
   by decide,
   by decide,
   by decide,
   by decide,
   by decide,
   ⟨by decide, by decide, by decide, by decide, by decide, by decide, by decide, by decide, by decide, by decide, by show 8192 ≤ (List.replicate 8192 mkSectRec).length; rw [List.length_replicate]⟩,
   by decide⟩

/-- A state for clause 0 of UplinkAndTimedLaunch. -/
def wit44s0 : State :=
  let s := State.reset
  let s := s.put (R.LQ_DESC1_QUEUE) (0)
  s
/-- A state for clause 1 of UplinkAndTimedLaunch. -/
def wit44s1 : State :=
  let s := State.reset
  let s := s.put R.LQ_DESC1_QUEUE 1
  let s := s.put R.LQ_DESC1_LEN 64
  let s := { s with hp.lq := updAt s.hp.lq 0 fun _ => List.replicate 64 { mkLqEntry with queue := 1 } }
  s
/-- A state for clause 2 of UplinkAndTimedLaunch. -/
def wit44s2 : State :=
  let s := State.reset
  let s := s.put R.LQ_DESC1_QUEUE 1
  let s := s.put R.LQ_DESC1_LEN 64
  let s := s.put R.LQ_DESC2_NS 100000
  s
/-- A state for clause 3 of UplinkAndTimedLaunch. -/
def wit44s3 : State :=
  let s := State.reset
  let s := s.put R.LQ_DESC1_QUEUE 1
  let s := s.put R.LQ_DESC1_LEN 64
  s
/-- A state for clause 5 of UplinkAndTimedLaunch. -/
def wit44s5 : State :=
  let s := State.reset
  let s := { s with hp.lq := updAt s.hp.lq 0 fun _ => [mkLqEntry] }
  s
/-- A state for clause 7 of UplinkAndTimedLaunch. -/
def wit44s7 : State :=
  let s := State.reset
  let s := s.putSum (mkSumFrame : SumFrame)
  let s := s.putUlSym (mkUlSym : UlSym)
  let s := s.put R.CASC_STATUS_ROLE 1
  s
/-- A state for clause 8 of UplinkAndTimedLaunch. -/
def wit44s8 : State :=
  let s := State.reset
  let s := s.put R.CASC_STATUS_ROLE 0
  let s := s.putSum { mkSumFrame with unit := 18 }
  let s := s.putUlSym { mkUlSym with rb := 24 }
  s
/-- A state for clause 9 of UplinkAndTimedLaunch. -/
def wit44s9 : State :=
  let s := State.reset
  let s := { s with prach := updAt s.prach (0) fun x => { x with endAt := none } }
  s
/-- A state for clause 10 of UplinkAndTimedLaunch. -/
def wit44s10 : State :=
  let s := State.reset
  let s := { s with prach := updAt s.prach (0) fun x => { x with endAt := some 0 } }
  s
theorem test_uplink_and_timed_launch_hypotheses :
    (wit44s0.hp.lq.length = 8 ∧ ((wit44s0.get R.LQ_DESC1_QUEUE) = 0 ∨ 1000000000 ≤ wit44s0.get R.LQ_DESC2_NS ∨ 9212 < (wit44s0.get R.LQ_DESC1_LEN))) ∧
    (wit44s1.hp.lq.length = 8 ∧ (¬((wit44s1.get R.LQ_DESC1_QUEUE) = 0 ∨ 1000000000 ≤ wit44s1.get R.LQ_DESC2_NS ∨ 9212 < (wit44s1.get R.LQ_DESC1_LEN))) ∧
    (64 ≤ wit44s1.lqLen (wit44s1.get R.LQ_DESC1_PORT) (wit44s1.get R.LQ_DESC1_QUEUE) ∨ 65536 < wit44s1.lqBytes (wit44s1.get R.LQ_DESC1_PORT) + (wit44s1.get R.LQ_DESC1_LEN))) ∧
    (wit44s2.hp.lq.length = 8 ∧ (¬((wit44s2.get R.LQ_DESC1_QUEUE) = 0 ∨ 1000000000 ≤ wit44s2.get R.LQ_DESC2_NS ∨ 9212 < (wit44s2.get R.LQ_DESC1_LEN))) ∧
    (¬(64 ≤ wit44s2.lqLen (wit44s2.get R.LQ_DESC1_PORT) (wit44s2.get R.LQ_DESC1_QUEUE) ∨ 65536 < wit44s2.lqBytes (wit44s2.get R.LQ_DESC1_PORT) + (wit44s2.get R.LQ_DESC1_LEN))) ∧
    wit44s2.lqInstant = some 6553600000 ∧ wit44s2.now + 1024 ≤ wit44s2.cycleOf wit44s2.now 6553600000) ∧
    (wit44s3.hp.lq.length = 8 ∧ (¬((wit44s3.get R.LQ_DESC1_QUEUE) = 0 ∨ 1000000000 ≤ wit44s3.get R.LQ_DESC2_NS ∨ 9212 < (wit44s3.get R.LQ_DESC1_LEN))) ∧
    (¬(64 ≤ wit44s3.lqLen (wit44s3.get R.LQ_DESC1_PORT) (wit44s3.get R.LQ_DESC1_QUEUE) ∨ 65536 < wit44s3.lqBytes (wit44s3.get R.LQ_DESC1_PORT) + (wit44s3.get R.LQ_DESC1_LEN))) ∧
    (∀ i, wit44s3.lqInstant = some i → wit44s3.cycleOf wit44s3.now i < wit44s3.now + 1024)) ∧
    (0 < 8 ∧ State.reset.hp.lq.length = 8 ∧ State.reset.hp.wire.length = 8 ∧ State.reset.lqOf 0 = []) ∧
    (0 < 8 ∧ wit44s5.hp.lq.length = 8 ∧ wit44s5.hp.wire.length = 8 ∧ firstDue (wit44s5.lqOf 0) = some mkLqEntry) ∧
    (0 < 8 ∧ State.reset.hp.lq.length = 8 ∧ (State.reset.sumOf 0 0 0 = none ∨ State.reset.ulSym 0 0 0 = none)) ∧
    (0 < 8 ∧ wit44s7.hp.lq.length = 8 ∧ wit44s7.sumOf 0 0 0 = some (mkSumFrame : SumFrame) ∧ wit44s7.ulSym 0 0 0 = some (mkUlSym : UlSym) ∧
    (wit44s7.worker = true ∨ (mkSumFrame : SumFrame).unit ≠ unitsOf (mkUlSym : UlSym).rb)) ∧
    (0 < 8 ∧ wit44s8.hp.lq.length = 8 ∧ wit44s8.sumOf 0 0 0 = some ({ mkSumFrame with unit := 18 }) ∧
    wit44s8.ulSym 0 0 0 = some ({ mkUlSym with rb := 24 }) ∧ wit44s8.worker = false ∧
    ({ mkSumFrame with unit := 18 }).unit = unitsOf ({ mkUlSym with rb := 24 }).rb) ∧
    (0 < 4 ∧ wit44s9.hp.lq.length = 8 ∧ (wit44s9.prx 0).endAt = none) ∧
    (0 < 4 ∧ wit44s10.hp.lq.length = 8 ∧ (wit44s10.prx 0).endAt = some 0) :=
  ⟨by decide,
   by decide,
   by decide,
   ⟨by decide, by decide, by decide, by intro i h; rw [show wit44s3.lqInstant = some 0 by decide] at h; cases h; decide⟩,
   by decide,
   by decide,
   by decide,
   by decide,
   by decide,
   by decide,
   by decide⟩

/-- A state for clause 0 of DeviceTimeAndPps. -/
def wit45s0 : State :=
  let s := State.reset
  let s := s.put (R.TU_SET2_NS) (1000000000)
  s
/-- A state for clause 1 of DeviceTimeAndPps. -/
def wit45s1 : State :=
  let s := State.reset
  let s := s.put (R.CS_CFG_EN_NOW 0 0) 1
  s
/-- A state for clause 2 of DeviceTimeAndPps. -/
def wit45s2 : State :=
  let s := State.reset
  let s := { s with tm.stepAt := some 0 }
  s
/-- A state for clause 3 of DeviceTimeAndPps. -/
def wit45s3 : State :=
  let s := State.reset
  let s := { s with tm.stepAt := none }
  s
/-- A state for clause 6 of DeviceTimeAndPps. -/
def wit45s6 : State :=
  let s := State.reset
  let s := s.put (R.VC_CFG_EN) 0
  s
/-- A state for clause 7 of DeviceTimeAndPps. -/
def wit45s7 : State :=
  let s := State.reset
  let s := s.put (R.VC_CFG_EN) 1
  s
/-- A state for clause 8 of DeviceTimeAndPps. -/
def wit45s8 : State :=
  let s := State.reset
  let s := s.put (R.PPS_OUT_CFG_EN) 0
  s
/-- A state for clause 9 of DeviceTimeAndPps. -/
def wit45s9 : State :=
  let s := State.reset
  let s := s.put (R.PPS_OUT_CFG_EN) 1
  let s := s.put (R.PPS_OUT_CFG_GATE) 0
  s
/-- A state for clause 10 of DeviceTimeAndPps. -/
def wit45s10 : State :=
  let s := State.reset
  let s := { s with tm.ppsLast := some 0 }
  s
theorem test_device_time_and_pps_hypotheses :
    (1000000000 ≤ wit45s0.get R.TU_SET2_NS) ∧
    (wit45s1.get R.TU_SET2_NS < 1000000000 ∧ wit45s1.carriersActive = true) ∧
    (wit45s2.get R.TU_SET2_NS < 1000000000 ∧ wit45s2.carriersActive = false ∧ wit45s2.tm.stepAt = some 0) ∧
    (wit45s3.get R.TU_SET2_NS < 1000000000 ∧ wit45s3.carriersActive = false ∧ wit45s3.tm.stepAt = none) ∧
    (wit45s3.tm.stepAt = none) ∧
    (wit45s2.tm.stepAt = some 0) ∧
    (wit45s6.flag R.VC_CFG_EN = false) ∧
    (wit45s7.flag R.VC_CFG_EN = true ∧ wit45s7.get R.VC_LIM_LIMIT_LO ≤ wit45s7.get R.VC_LIM_LIMIT_HI) ∧
    ((wit45s8.flag R.PPS_OUT_CFG_EN = false ∨ (wit45s8.flag R.PPS_OUT_CFG_GATE = true ∧ wit45s8.get R.TU_STATUS_VALID ≠ 2))) ∧
    (wit45s9.flag R.PPS_OUT_CFG_EN = true ∧ (wit45s9.flag R.PPS_OUT_CFG_GATE = false ∨ wit45s9.get R.TU_STATUS_VALID = 2)) ∧
    (wit45s10.tm.ppsLast = some 0 ∧ wit45s10.now < 0 + 500 * msCycles) ∧
    ((∀ c, State.reset.tm.ppsLast = some c → c + 500 * msCycles ≤ State.reset.now)) :=
  ⟨by decide,
   by decide,
   by decide,
   by decide,
   by decide,
   by decide,
   by decide,
   by decide,
   by decide,
   by decide,
   by decide,
   by decide⟩

/-- A state for clause 0 of ServosAndSyncE. -/
def wit46s0 : State :=
  let s := State.reset
  let s := s.put (R.SRV_CFG_SRC 1) 1
  s
/-- A state for clause 1 of ServosAndSyncE. -/
def wit46s1 : State :=
  let s := State.reset
  let s := s.put R.CASC_STATUS_ROLE 0
  s
/-- A state for clause 3 of ServosAndSyncE. -/
def wit46s3 : State :=
  let s := State.reset
  let s := s.put R.CASC_STATUS_ROLE 1
  s
/-- A state for clause 8 of ServosAndSyncE. -/
def wit46s8 : State :=
  let s := State.reset
  let s := s.put R.CASC_STATUS_ROLE 0
  let s := s.put (servoField 0) svLocked
  s
/-- A state for clause 10 of ServosAndSyncE. -/
def wit46s10 : State :=
  let s := State.reset
  let s := s.put R.CASC_STATUS_ROLE 0
  let s := s.put (R.TU_CTRL_SYNCE_MODE) (1)
  let s := s.put R.TU_CTRL_SYNCE_MODE 1
  s
/-- A state for clause 12 of ServosAndSyncE. -/
def wit46s12 : State :=
  let s := State.reset
  let s := s.put (R.TU_CTRL_SYNCE_MODE) (0)
  s
/-- A state for clause 13 of ServosAndSyncE. -/
def wit46s13 : State :=
  let s := State.reset
  let s := s.put (R.TU_CTRL_SYNCE_MODE) 1
  s
theorem test_servos_and_sync_e_hypotheses :
    (wit46s0.tm.servos.length = 2 ∧ wit46s0.flag (R.SRV_CFG_SRC 1) = true) ∧
    (wit46s1.tm.servos.length = 2 ∧ 0 < 2 ∧ wit46s1.worker = false ∧ (0 = 1 → wit46s1.flag (R.SRV_CFG_SRC 1) = false) ∧
    256000000 < (toInt 32 300000000).natAbs) ∧
    (wit46s1.tm.servos.length = 2 ∧ 0 < 2 ∧ wit46s1.worker = false ∧ (0 = 1 → wit46s1.flag (R.SRV_CFG_SRC 1) = false) ∧ (toInt 32 0).natAbs ≤ 256000000) ∧
    (wit46s3.tm.servos.length = 2 ∧ wit46s3.worker = true) ∧
    (wit46s3.tm.servos.length = 2 ∧ wit46s3.worker = true) ∧
    (State.reset.tm.servos.length = 2 ∧ 0 < 2 ∧ 100 < (R.SRV_CFG_PULL_MAX 0).of 0xFFFFFFFF) ∧
    (State.reset.tm.servos.length = 2 ∧ 0 < 2 ∧ (R.SRV_CFG_PULL_MAX 0).of 0 ≤ 100) ∧
    (wit46s1.tm.servos.length = 2 ∧ 0 < 2 ∧ wit46s1.worker = false ∧ (wit46s1.get (servoField 0)) ≠ svAcquiring ∧ (wit46s1.get (servoField 0)) ≠ svLocked) ∧
    (wit46s8.tm.servos.length = 2 ∧ 0 < 2 ∧ wit46s8.worker = false ∧ ((wit46s8.get (servoField 0)) = svAcquiring ∨ (wit46s8.get (servoField 0)) = svLocked)) ∧
    (State.reset.tm.servos.length = 2 ∧ (State.reset.get R.TU_CTRL_SYNCE_MODE) ≠ 1 ∧ (State.reset.get R.TU_CTRL_SYNCE_MODE) ≠ 2) ∧
    (wit46s10.tm.servos.length = 2 ∧ wit46s10.worker = false ∧ ((wit46s10.get R.TU_CTRL_SYNCE_MODE) = 1 ∨ (wit46s10.get R.TU_CTRL_SYNCE_MODE) = 2) ∧
    4600 * 65536 < ((4601 * 65536 : Int)).natAbs) ∧
    (wit46s10.tm.servos.length = 2 ∧ wit46s10.worker = false ∧ ((wit46s10.get R.TU_CTRL_SYNCE_MODE) = 1 ∨ (wit46s10.get R.TU_CTRL_SYNCE_MODE) = 2) ∧
    ((0 : Int)).natAbs ≤ 4600 * 65536) ∧
    (wit46s12.tm.servos.length = 2 ∧ (wit46s12.get R.TU_CTRL_SYNCE_MODE) = 0) ∧
    (wit46s13.tm.servos.length = 2 ∧ (wit46s13.get R.TU_CTRL_SYNCE_MODE) ≠ 0) :=
  ⟨by decide,
   by decide,
   by decide,
   by decide,
   by decide,
   by decide,
   by decide,
   by decide,
   by decide,
   by decide,
   by decide,
   by decide,
   by decide,
   by decide⟩

/-- A state for clause 1 of SequencerAndAuxDacs. -/
def wit47s1 : State :=
  let s := State.reset
  let s := { s with pa.leave := [(0, 0, 0)] }
  s
/-- A state for clause 2 of SequencerAndAuxDacs. -/
def wit47s2 : State :=
  let s := State.reset
  let s := s.put R.SEQ_CFG_EN 1
  s
/-- A state for clause 3 of SequencerAndAuxDacs. -/
def wit47s3 : State :=
  let s := State.reset
  let s := (s.put R.SEQ_CFG_EN 1).put (R.SLOT_TBL_QMASK 0 0) 15
  s
/-- A state for clause 4 of SequencerAndAuxDacs. -/
def wit47s4 : State :=
  let s := State.reset
  let s := ((s.put R.SEQ_CFG_EN 1).put (R.SLOT_TBL_QMASK 0 0) 15).put (R.SLOT_TBL_DIR 0 0) 1
  s
/-- A state for clause 7 of SequencerAndAuxDacs. -/
def wit47s7 : State :=
  let s := State.reset
  let s := s.put (R.SEQ_CFG_EN) 0
  s
/-- A state for clause 8 of SequencerAndAuxDacs. -/
def wit47s8 : State :=
  let s := State.reset
  let s := s.put (R.SEQ_CFG_EN) 1
  s
/-- A state for clause 9 of SequencerAndAuxDacs. -/
def wit47s9 : State :=
  let s := State.reset
  let s := s.put (R.SEQ_STATUS_LOCKED) 1
  s
/-- A state for clause 10 of SequencerAndAuxDacs. -/
def wit47s10 : State :=
  let s := State.reset
  let s := s.put (R.SEQ_STATUS_LOCKED) 0
  s
/-- A state for clause 12 of SequencerAndAuxDacs. -/
def wit47s12 : State :=
  let s := State.reset
  let s := s.put (R.ADAC_CFG_OWNER 0) 1
  s
/-- A state for clause 13 of SequencerAndAuxDacs. -/
def wit47s13 : State :=
  let s := State.reset
  let s := s.put (R.ADAC_CFG_OWNER 0) (0)
  s
/-- A state for clause 14 of SequencerAndAuxDacs. -/
def wit47s14 : State :=
  let s := State.reset
  let s := s.put (R.ADAC_CFG_OWNER 0) (0)
  let s := s.put (R.ADAC_CFG_GROUP 0) (8)
  s
/-- A state for clause 15 of SequencerAndAuxDacs. -/
def wit47s15 : State :=
  let s := State.reset
  let s := s.modAdac (0) fun x => { x with holdEnd := none }
  s
/-- A state for clause 16 of SequencerAndAuxDacs. -/
def wit47s16 : State :=
  let s := State.reset
  let s := s.modAdac (0) fun x => { x with holdEnd := some 0 }
  s
theorem test_sequencer_and_aux_dacs_hypotheses :
    (0 < 4 ∧ State.reset.chains.length = 64 ∧ State.reset.seqRuns = false ∧ State.reset.pa.leave[0]? = none) ∧
    (0 < 4 ∧ wit47s1.chains.length = 64 ∧ wit47s1.seqRuns = false ∧ wit47s1.pa.leave[0]? = some ((0, 0, 0))) ∧
    (0 < 4 ∧ wit47s2.chains.length = 64 ∧ wit47s2.seqRuns = true ∧
    (wit47s2.runEnd .dl 0 ((0, 0)) = false ∨ wit47s2.mergesOn .dl 0 .txOn .txOff ((0, 0)) = true)) ∧
    (0 < 4 ∧ wit47s3.chains.length = 64 ∧ wit47s3.seqRuns = true ∧ wit47s3.runEnd .dl 0 ((0, 0)) = true ∧
    wit47s3.mergesOn .dl 0 .txOn .txOff ((0, 0)) = false) ∧
    (0 < 4 ∧ wit47s4.chains.length = 64 ∧ wit47s4.seqRuns = true ∧ wit47s4.runEnd .ul 0 ((0, 0)) = true ∧
    wit47s4.mergesOn .ul 0 .rxOn .rxOff ((0, 0)) = false) ∧
    (0 < 4 ∧ State.reset.chains.length = 64 ∧ (State.reset.runStart .dl 0 ((0, 0)) = false ∨ State.reset.mergesBack .dl 0 .txOn .txOff ((0, 0)) = true)) ∧
    (0 < 4 ∧ wit47s3.chains.length = 64 ∧ wit47s3.seqRuns = true ∧ wit47s3.runStart .dl 0 ((0, 0)) = true ∧
    wit47s3.mergesBack .dl 0 .txOn .txOff ((0, 0)) = false) ∧
    (wit47s7.chains.length = 64 ∧ wit47s7.flag R.SEQ_CFG_EN = false) ∧
    (wit47s8.chains.length = 64 ∧ wit47s8.flag R.SEQ_CFG_EN = true) ∧
    (wit47s9.pa.adacs.length = 80 ∧ wit47s9.flag R.SEQ_STATUS_LOCKED = true) ∧
    (wit47s10.pa.adacs.length = 80 ∧ wit47s10.flag R.SEQ_STATUS_LOCKED = false) ∧
    (State.reset.pa.adacs.length = 80 ∧ ((0 : Nat)) < 80 ∧
    (8 ≤ State.reset.get (R.ADAC_CFG_GROUP ((0 : Nat))) ∨ ((0 : Nat)).testBit (State.reset.get (R.ADAC_CFG_GROUP ((0 : Nat)))) = false)) ∧
    (wit47s12.pa.adacs.length = 80 ∧ 0 < 80 ∧ wit47s12.get (R.ADAC_CFG_OWNER 0) ≠ 0) ∧
    (wit47s13.pa.adacs.length = 80 ∧ 0 < 80 ∧ wit47s13.get (R.ADAC_CFG_OWNER 0) = 0 ∧ wit47s13.get (R.ADAC_CFG_GROUP 0) ≠ 8) ∧
    (wit47s14.pa.adacs.length = 80 ∧ 0 < 80 ∧ wit47s14.get (R.ADAC_CFG_OWNER 0) = 0 ∧ wit47s14.get (R.ADAC_CFG_GROUP 0) = 8) ∧
    (wit47s15.pa.adacs.length = 80 ∧ (wit47s15.adac 0).holdEnd = none) ∧
    (wit47s16.pa.adacs.length = 80 ∧ 0 < 80 ∧ (wit47s16.adac 0).holdEnd = some 0) ∧
    (State.reset.pa.adacs.length = 80) :=
  ⟨by decide,
   by decide,
   by decide,
   by decide,
   by decide,
   by decide,
   by decide,
   by decide,
   by decide,
   by decide,
   by decide,
   by decide,
   by decide,
   by decide,
   by decide,
   by decide,
   by decide,
   by decide⟩

/-- A state for clause 3 of FaultInputs. -/
def wit48s3 : State :=
  let s := State.reset
  let s := { s with pa.inputs := updAt s.pa.inputs 0 fun x => { x with winEnd := some 0 } }
  s
/-- A state for clause 5 of FaultInputs. -/
def wit48s5 : State :=
  let s := State.reset
  let s := s.put (R.IN_STUCK_STUCK_TO 0) 1
  let s := s.put (R.IN_STAT_STUCK 0) 0
  let s := { s with pa.inputs := updAt s.pa.inputs 0 fun x => { x with activeAt := some 0 } }
  s
/-- A state for clause 8 of FaultInputs. -/
def wit48s8 : State :=
  let s := State.reset
  let s := s.put (R.IN_CFG_POL 0) 0
  s
theorem test_fault_inputs_hypotheses :
    (0 < 33 ∧ State.reset.pa.inputs.length = 33 ∧ State.reset.chains.length = 64 ∧ (State.reset.input 0).qual = true) ∧
    (0 < 33 ∧ State.reset.pa.inputs.length = 33 ∧ State.reset.chains.length = 64 ∧ (State.reset.input 0).qual ≠ 0) ∧
    (0 < 33 ∧ State.reset.pa.inputs.length = 33 ∧ State.reset.chains.length = 64 ∧ (State.reset.input 0).winEnd = none) ∧
    (0 < 33 ∧ wit48s3.pa.inputs.length = 33 ∧ wit48s3.chains.length = 64 ∧ (wit48s3.input 0).winEnd = some 0) ∧
    (0 < 33 ∧ State.reset.pa.inputs.length = 33 ∧ State.reset.chains.length = 64 ∧
    ((State.reset.input 0).activeAt = none ∨ State.reset.get (R.IN_STUCK_STUCK_TO 0) = 0 ∨ State.reset.flag (R.IN_STAT_STUCK 0) = true)) ∧
    (0 < 33 ∧ wit48s5.pa.inputs.length = 33 ∧ wit48s5.chains.length = 64 ∧ (wit48s5.input 0).activeAt = some 0 ∧ wit48s5.get (R.IN_STUCK_STUCK_TO 0) ≠ 0 ∧
    wit48s5.flag (R.IN_STAT_STUCK 0) = false) ∧
    (0 < 33 ∧ State.reset.pa.inputs.length = 33 ∧ State.reset.chains.length = 64) ∧
    (16 < 33 ∧ State.reset.pa.inputs.length = 33 ∧ State.reset.chains.length = 64 ∧ 16 ≤ 16) ∧
    (0 < 33 ∧ wit48s8.pa.inputs.length = 33 ∧ wit48s8.chains.length = 64 ∧ 0 < 16 ∧ wit48s8.isActive 0 (wit48s8.input 0).qual = true) ∧
    (0 < 33 ∧ State.reset.pa.inputs.length = 33 ∧ State.reset.chains.length = 64 ∧ 0 < 16 ∧ State.reset.isActive 0 (State.reset.input 0).qual = false) :=
  ⟨by decide,
   by decide,
   by decide,
   by decide,
   by decide,
   by decide,
   by decide,
   by decide,
   by decide,
   by decide⟩

/-- A state for clause 0 of CalibrationJobs. -/
def wit49s0 : State :=
  let s := State.reset
  let s := { s with cal.job := none }
  let s := { s with cal.checkCmds := [] }
  s
/-- A state for clause 1 of CalibrationJobs. -/
def wit49s1 : State :=
  let s := State.reset
  let s := { s with cal.job := some (mkCalJobX : CalJobX) }
  let s := { s with cal.checkCmds := [] }
  s
/-- A state for clause 2 of CalibrationJobs. -/
def wit49s2 : State :=
  let s := State.reset
  let s := { s with cal.checkAt := none }
  s
/-- A state for clause 3 of CalibrationJobs. -/
def wit49s3 : State :=
  let s := State.reset
  let s := { s with cal.checkAt := some 0 }
  let s := { s with cal.checkCmds := [] }
  s
/-- A state for clause 5 of CalibrationJobs. -/
def wit49s5 : State :=
  let s := State.reset
  let s := { s with cal.job := some (mkCalJobX) }
  s
/-- A state for clause 6 of CalibrationJobs. -/
def wit49s6 : State :=
  let s := State.reset
  let s := { s with cal.job := none }
  let s := s.put (R.FAB_FROZEN_FROZEN ( 0x5A / 32)) (2^( 0x5A % 32))
  s
/-- A state for clause 7 of CalibrationJobs. -/
def wit49s7 : State :=
  let s := State.reset
  let s := { s with cal.job := none }
  let s := s.put (R.CAL_CTRL_EN) 0
  s
/-- A state for clause 8 of CalibrationJobs. -/
def wit49s8 : State :=
  let s := State.reset
  let s := { s with cal.job := none }
  let s := s.put (R.CAL_CTRL_EN) 1
  let s := s.put (R.CAL_JOB_KIND) (0)
  s
/-- A state for clause 9 of CalibrationJobs. -/
def wit49s9 : State :=
  let s := State.reset
  let s := ((s.put R.CAL_CTRL_EN 1).put R.CAL_JOB_KIND 1).put R.CAL_JOB_QMASK 1
  s
/-- A state for clause 10 of CalibrationJobs. -/
def wit49s10 : State :=
  let s := State.reset
  let s := ((s.put R.CAL_CTRL_EN 1).put R.CAL_JOB_KIND 3).put R.CAL_JOB_QMASK 1
  s
/-- A state for clause 11 of CalibrationJobs. -/
def wit49s11 : State :=
  let s := State.reset
  let s := { s with cal.job := none }
  s
/-- A state for clause 12 of CalibrationJobs. -/
def wit49s12 : State :=
  let s := State.reset
  let s := { s with cal.job := some ({ mkCalJobX with kind := 2 } : CalJobX) }
  s
/-- A state for clause 13 of CalibrationJobs. -/
def wit49s13 : State :=
  let s := State.reset
  let s := { s with cal.job := some ({ mkCalJobX with spoilt := true, kind := 6 } : CalJobX) }
  s
/-- A state for clause 14 of CalibrationJobs. -/
def wit49s14 : State :=
  let s := State.reset
  let s := { s with cal.job := some ({ mkCalJobX with spoilt := false, kind := 6 } : CalJobX) }
  s
/-- A state for clause 15 of CalibrationJobs. -/
def wit49s15 : State :=
  let s := State.reset
  let s := (((List.range 14).foldl (fun s e => (s.put (R.SLOT_TBL_QMASK 0 e) 15).put (R.SLOT_TBL_CAL 0 e) 1) s).put R.CAL_CFG_NAVG 1)
  let s := { s with cal.job := some ({ mkCalJobX with spoilt := false, kind := 3, todo := [0, 1], wait := 3 } : CalJobX) }
  s
theorem test_calibration_jobs_hypotheses :
    (wit49s0.cal.job = none ∧ wit49s0.cal.checkCmds = []) ∧
    (wit49s1.cal.job = some (mkCalJobX : CalJobX) ∧ ((fun (j : CalJobX) => j.cmd = none ∧ j.sensor < 24 ∧ (∀ ch ∈ j.todo, ch < 64) ∧
    ∀ m ∈ j.got, m.1 < 64) (mkCalJobX : CalJobX)) ∧ wit49s1.cal.checkCmds = []) ∧
    (wit49s2.cal.checkAt = none) ∧
    (wit49s3.cal.checkAt = some 0 ∧ wit49s3.cal.checkCmds = [] ∧
    (wit49s3.recordPoisoned = true ∨ (∀ d, wit49s3.cal.digests.getLast? = some d → d ≠ wit49s3.recordDigest))) ∧
    (wit49s5.cal.job ≠ none) ∧
    (wit49s6.cal.job = none ∧ wit49s6.frozen 0x5A = true) ∧
    (wit49s7.cal.job = none ∧ wit49s7.frozen 0x5A = false ∧ (wit49s7.flag R.CAL_CTRL_EN = false ∨ wit49s7.radioOn = false)) ∧
    (wit49s8.cal.job = none ∧ wit49s8.frozen 0x5A = false ∧ wit49s8.flag R.CAL_CTRL_EN = true ∧ wit49s8.radioOn = true ∧
    ((wit49s8.get R.CAL_JOB_KIND) = 0 ∨ (wit49s8.get R.CAL_JOB_KIND) = 7 ∨ ((wit49s8.get R.CAL_JOB_KIND) < 5 ∧ (wit49s8.get R.CAL_JOB_QMASK) = 0))) ∧
    (wit49s9.calCheck (wit49s9.stagedCal none) = .accepted ∧ wit49s9.jobChains (wit49s9.get R.CAL_JOB_KIND) (wit49s9.get R.CAL_JOB_QMASK) = [] ∧
    (wit49s9.get R.CAL_JOB_KIND) < 5) ∧
    (wit49s10.calCheck (wit49s10.stagedCal none) = .accepted ∧
    (wit49s10.jobChains (wit49s10.get R.CAL_JOB_KIND) (wit49s10.get R.CAL_JOB_QMASK) ≠ [] ∨ 5 ≤ (wit49s10.get R.CAL_JOB_KIND))) ∧
    (wit49s11.cal.job = none) ∧
    (wit49s12.cal.job = some ({ mkCalJobX with kind := 2 } : CalJobX) ∧ ((fun (j : CalJobX) => j.cmd = none ∧ j.sensor < 24 ∧ (∀ ch ∈ j.todo, ch < 64) ∧
    ∀ m ∈ j.got, m.1 < 64) ({ mkCalJobX with kind := 2 } : CalJobX)) ∧ ({ mkCalJobX with kind := 2 } : CalJobX).onOrx wit49s12 = false ∧
    wit49s12.calWindow ({ mkCalJobX with kind := 2 } : CalJobX) = none) ∧
    (wit49s13.cal.job = some ({ mkCalJobX with spoilt := true, kind := 6 } : CalJobX) ∧ ((fun (j : CalJobX) => j.cmd = none ∧ j.sensor < 24 ∧
    (∀ ch ∈ j.todo, ch < 64) ∧ ∀ m ∈ j.got, m.1 < 64) ({ mkCalJobX with spoilt := true, kind := 6 } : CalJobX)) ∧
    ({ mkCalJobX with spoilt := true, kind := 6 } : CalJobX).onOrx wit49s13 = false ∧
    wit49s13.calWindow ({ mkCalJobX with spoilt := true, kind := 6 } : CalJobX) = some (((0 : Nat)), ((4 * msCycles : Nat))) ∧
    (({ mkCalJobX with spoilt := true, kind := 6 } : CalJobX).spoilt = true ∨ (wit49s13.advanceTo (((4 * msCycles : Nat)) + (if ({ mkCalJobX with spoilt := true, kind := 6 } : CalJobX).kind = 6 then 0 else 2048))).spoils ({ mkCalJobX with spoilt := true, kind := 6 } : CalJobX) = true)) ∧
    (wit49s14.cal.job = some ({ mkCalJobX with spoilt := false, kind := 6 } : CalJobX) ∧ ((fun (j : CalJobX) => j.cmd = none ∧ j.sensor < 24 ∧
    (∀ ch ∈ j.todo, ch < 64) ∧ ∀ m ∈ j.got, m.1 < 64) ({ mkCalJobX with spoilt := false, kind := 6 } : CalJobX)) ∧
    ({ mkCalJobX with spoilt := false, kind := 6 } : CalJobX).onOrx wit49s14 = false ∧
    wit49s14.calWindow ({ mkCalJobX with spoilt := false, kind := 6 } : CalJobX) = some (((0 : Nat)), ((4 * msCycles : Nat))) ∧
    ({ mkCalJobX with spoilt := false, kind := 6 } : CalJobX).spoilt = false ∧
    (wit49s14.advanceTo (((4 * msCycles : Nat)) + (if ({ mkCalJobX with spoilt := false, kind := 6 } : CalJobX).kind = 6 then 0 else 2048))).spoils ({ mkCalJobX with spoilt := false, kind := 6 } : CalJobX) = false ∧
    (({ mkCalJobX with spoilt := false, kind := 6 } : CalJobX).todo.filter fun ch => !({ mkCalJobX with spoilt := false, kind := 6 } : CalJobX).current.contains ch) = []) ∧
    (wit49s15.cal.job = some ({ mkCalJobX with spoilt := false, kind := 3, todo := [0, 1], wait := 3 } : CalJobX) ∧ ((fun (j : CalJobX) => j.cmd = none ∧
    j.sensor < 24 ∧ (∀ ch ∈ j.todo, ch < 64) ∧
    ∀ m ∈ j.got, m.1 < 64) ({ mkCalJobX with spoilt := false, kind := 3, todo := [0, 1], wait := 3 } : CalJobX)) ∧
    ({ mkCalJobX with spoilt := false, kind := 3, todo := [0, 1], wait := 3 } : CalJobX).onOrx wit49s15 = false ∧
    wit49s15.calWindow ({ mkCalJobX with spoilt := false, kind := 3, todo := [0, 1], wait := 3 } : CalJobX) = some (35328, 70400) ∧
    ({ mkCalJobX with spoilt := false, kind := 3, todo := [0, 1], wait := 3 } : CalJobX).spoilt = false ∧
    (wit49s15.advanceTo (70400 + (if ({ mkCalJobX with spoilt := false, kind := 3, todo := [0, 1], wait := 3 } : CalJobX).kind = 6 then 0 else 2048))).spoils ({ mkCalJobX with spoilt := false, kind := 3, todo := [0, 1], wait := 3 } : CalJobX) = false ∧
    (({ mkCalJobX with spoilt := false, kind := 3, todo := [0, 1], wait := 3 } : CalJobX).todo.filter fun ch => !({ mkCalJobX with spoilt := false, kind := 3, todo := [0, 1], wait := 3 } : CalJobX).current.contains ch) ≠ []) :=
  ⟨by decide,
   by decide,
   by decide,
   by decide,
   by decide,
   by decide,
   by decide,
   by decide,
   by decide,
   by decide,
   by decide,
   by decide,
   by decide,
   by decide,
   by decide⟩

/-- A state for clause 0 of FliorCoreStates. -/
def wit50s0 : State :=
  let s := State.reset
  let s := s.put (R.FD_STATUS_STATE 0) fdRunning
  s
/-- A state for clause 1 of FliorCoreStates. -/
def wit50s1 : State :=
  let s := State.reset
  let s := s.put (R.FD_STATUS_STATE 0) (fdHalted)
  s
/-- A state for clause 3 of FliorCoreStates. -/
def wit50s3 : State :=
  let s := State.reset
  let s := s.put (R.FD_STATUS_STATE 0) (fdWaiting)
  s
/-- A state for clause 4 of FliorCoreStates. -/
def wit50s4 : State :=
  let s := State.reset
  let s := s.put (R.FD_STATUS_STATE 0) (fdRunning)
  let s := s.modFlior 0 fun x => { x with loads := [mkFarLoad] }
  s
/-- A state for clause 5 of FliorCoreStates. -/
def wit50s5 : State :=
  let s := State.reset
  let s := s.put (R.FD_STATUS_STATE 0) (fdLoading)
  s
/-- A state for clause 9 of FliorCoreStates. -/
def wit50s9 : State :=
  let s := State.reset
  let s := s.put (R.FD_STATUS_STATE 0) (fdHalted)
  let s := s.put (R.FD_OWNER_MODE 0) 0
  s
/-- A state for clause 11 of FliorCoreStates. -/
def wit50s11 : State :=
  let s := State.reset
  let s := s.put (R.FD_WDOG_LIMIT 0) (0)
  s
/-- A state for clause 12 of FliorCoreStates. -/
def wit50s12 : State :=
  let s := State.reset
  let s := s.put (R.FD_WDOG_LIMIT 0) 1
  let s := s.put (R.FD_STATUS_STATE 0) (fdRunning)
  s
theorem test_flior_core_states_hypotheses :
    (0 < 8 ∧ wit50s0.fd.length = 8 ∧ (wit50s0.fdState 0) ≠ fdHalted) ∧
    (0 < 8 ∧ wit50s1.fd.length = 8 ∧ (wit50s1.fdState 0) = fdHalted) ∧
    (0 < 8 ∧ State.reset.fd.length = 8 ∧ (State.reset.fdState 0) ≠ fdRunning ∧ (State.reset.fdState 0) ≠ fdWaiting) ∧
    (0 < 8 ∧ wit50s3.fd.length = 8 ∧ ((wit50s3.fdState 0) = fdWaiting ∨ ((wit50s3.fdState 0) = fdRunning ∧ (wit50s3.flior 0).loads = []))) ∧
    (0 < 8 ∧ wit50s4.fd.length = 8 ∧ (wit50s4.fdState 0) = fdRunning ∧ (wit50s4.flior 0).loads ≠ []) ∧
    (0 < 8 ∧ wit50s5.fd.length = 8 ∧ ((wit50s5.fdState 0) = fdLoading ∨ (wit50s5.fdState 0) = fdFrozen)) ∧
    (0 < 8 ∧ State.reset.fd.length = 8 ∧ (State.reset.fdState 0) ≠ fdLoading ∧ (State.reset.fdState 0) ≠ fdFrozen) ∧
    (0 < 8 ∧ State.reset.fd.length = 8) ∧
    (0 < 8 ∧ State.reset.fd.length = 8 ∧ (4 ≤ ((4 : Nat)) ∨ (State.reset.fdState 0) ≠ fdHalted)) ∧
    (0 < 8 ∧ wit50s9.fd.length = 8 ∧ 0 < 4 ∧ (wit50s9.fdState 0) = fdHalted ∧ wit50s9.flag (R.FD_OWNER_MODE 0) = 0) ∧
    (0 < 8 ∧ wit50s1.fd.length = 8 ∧ 0 < 4 ∧ (wit50s1.fdState 0) = fdHalted ∧ wit50s1.flag (R.FD_OWNER_MODE 0) ≠ true) ∧
    (0 < 8 ∧ wit50s11.fd.length = 8 ∧ (wit50s11.get (R.FD_WDOG_LIMIT 0) = 0 ∨ ((wit50s11.fdState 0) ≠ fdRunning ∧ (wit50s11.fdState 0) ≠ fdWaiting))) ∧
    (0 < 8 ∧ wit50s12.fd.length = 8 ∧ wit50s12.get (R.FD_WDOG_LIMIT 0) ≠ 0 ∧ ((wit50s12.fdState 0) = fdRunning ∨ (wit50s12.fdState 0) = fdWaiting)) :=
  ⟨by decide,
   by decide,
   by decide,
   by decide,
   by decide,
   by decide,
   by decide,
   by decide,
   by decide,
   by decide,
   by decide,
   by decide,
   by decide⟩

/-- A state for clause 1 of FliorBundles. -/
def wit51s1 : State :=
  let s := State.reset
  let s := s.put (R.FD_STATUS_STATE 0) (fdRunning)
  let s := s.modFlior (0) fun x => { x with halting := false }
  let s := s.modFlior (0) fun x => { x with loops := [] }
  let s := s.modFlior (0) fun x => { x with loads := [] }
  let s := s.modFlior (0) fun x => { x with stores := [] }
  let s := s.put (R.FD_WDOG_LIMIT 0) (0)
  s
/-- A state for clause 2 of FliorBundles. -/
def wit51s2 : State :=
  let s := State.reset
  let s := s.put (R.FD_STATUS_STATE 0) (fdRunning)
  let s := s.modFlior (0) fun x => { x with halting := false }
  let s := s.modFlior (0) fun x => { x with loops := [] }
  let s := s.modFlior (0) fun x => { x with loads := [] }
  let s := s.modFlior (0) fun x => { x with stores := [] }
  let s := s.put (R.FD_WDOG_LIMIT 0) (0)
  let s := { s with mem := s.mem.setList (dlm 0 + 0x30000) [0, 2, 0, 0x20] }
  s
/-- A state for clause 3 of FliorBundles. -/
def wit51s3 : State :=
  let s := State.reset
  let s := s.put (R.FD_STATUS_STATE 0) (fdRunning)
  let s := s.modFlior (0) fun x => { x with halting := false }
  let s := s.modFlior (0) fun x => { x with loops := [] }
  let s := s.modFlior (0) fun x => { x with loads := [] }
  let s := s.modFlior (0) fun x => { x with stores := [] }
  let s := s.put (R.FD_WDOG_LIMIT 0) (0)
  let s := { s with mem := s.mem.setList (dlm 0 + 0x30000) [0, 0, 0, 0x58] }
  s
/-- A state for clause 4 of FliorBundles. -/
def wit51s4 : State :=
  let s := State.reset
  let s := s.put (R.FD_STATUS_STATE 0) (fdRunning)
  let s := s.modFlior (0) fun x => { x with halting := false }
  let s := s.modFlior (0) fun x => { x with loops := [] }
  let s := s.modFlior (0) fun x => { x with loads := [] }
  let s := s.modFlior (0) fun x => { x with stores := [] }
  let s := s.put (R.FD_WDOG_LIMIT 0) (0)
  let s := { s with mem := s.mem.setList (dlm 0 + 0x30000) [0, 0, 0, 0xFC] }
  s
/-- A state for clause 5 of FliorBundles. -/
def wit51s5 : State :=
  let s := State.reset
  let s := s.modFlior (0) fun x => { x with loads := [] }
  s
/-- A state for clause 6 of FliorBundles. -/
def wit51s6 : State :=
  let s := State.reset
  let s := s.modFlior (0) fun x => { x with loads := mkFarLoad :: (([] : List FarLoad)) }
  s
/-- A state for clause 7 of FliorBundles. -/
def wit51s7 : State :=
  let s := State.reset
  let s := s.modFlior (0) fun x => { x with loads := ({ mkFarLoad with addr := 0x2000000 }) :: (([] : List FarLoad)) }
  s
/-- A state for clause 8 of FliorBundles. -/
def wit51s8 : State :=
  let s := State.reset
  let s := s.modFlior (0) fun x => { x with stores := [] }
  s
/-- A state for clause 9 of FliorBundles. -/
def wit51s9 : State :=
  let s := State.reset
  let s := s.modFlior (0) fun x => { x with stores := mkFarStore :: (([] : List FarStore)) }
  let s := s.put (R.FD_STATUS_STATE 0) (fdRunning)
  let s := s.put (R.FD_STATUS_STATE 0) fdRunning
  s
/-- A state for clause 10 of FliorBundles. -/
def wit51s10 : State :=
  let s := State.reset
  let s := s.modFlior (0) fun x => { x with stores := mkFarStore :: (([] : List FarStore)) }
  s
/-- A state for clause 11 of FliorBundles. -/
def wit51s11 : State :=
  let s := State.reset
  let s := s.modFlior (0) fun x => { x with stores := ({ mkFarStore with addr := 0x2000000 }) :: (([] : List FarStore)) }
  s
theorem test_flior_bundles_hypotheses :
    (0 < 8 ∧ State.reset.fd.length = 8 ∧ (State.reset.fdState 0 ≠ fdRunning ∨ (State.reset.flior 0).halting = true)) ∧
    (0 < 8 ∧ wit51s1.fd.length = 8 ∧ (wit51s1.fdState 0 = fdRunning ∧ (wit51s1.flior 0).halting = false ∧ (wit51s1.flior 0).loops = [] ∧
    (wit51s1.flior 0).loads = [] ∧ (wit51s1.flior 0).stores = [] ∧ wit51s1.get (R.FD_WDOG_LIMIT 0) = 0 ∧
    wit51s1.poisoned ((dlm 0 + 0x30000 + 16 * (wit51s1.get (R.FD_PC_PC 0))) / 16) = false) ∧
    (leNat (wit51s1.bytes (dlm 0 + 0x30000 + 16 * (wit51s1.get (R.FD_PC_PC 0))) 16)) = 0) ∧
    (0 < 8 ∧ wit51s2.fd.length = 8 ∧ (wit51s2.fdState 0 = fdRunning ∧ (wit51s2.flior 0).halting = false ∧ (wit51s2.flior 0).loops = [] ∧
    (wit51s2.flior 0).loads = [] ∧ (wit51s2.flior 0).stores = [] ∧ wit51s2.get (R.FD_WDOG_LIMIT 0) = 0 ∧
    wit51s2.poisoned ((dlm 0 + 0x30000 + 16 * (wit51s2.get (R.FD_PC_PC 0))) / 16) = false) ∧
    (leNat (wit51s2.bytes (dlm 0 + 0x30000 + 16 * (wit51s2.get (R.FD_PC_PC 0))) 16)) < 2 ^ 32 ∧
    slotOp (leNat (wit51s2.bytes (dlm 0 + 0x30000 + 16 * (wit51s2.get (R.FD_PC_PC 0))) 16)) = 0x08 ∧
    (leNat (wit51s2.bytes (dlm 0 + 0x30000 + 16 * (wit51s2.get (R.FD_PC_PC 0))) 16)).testBit 25 = false ∧
    (leNat (wit51s2.bytes (dlm 0 + 0x30000 + 16 * (wit51s2.get (R.FD_PC_PC 0))) 16)).testBit 9 = true) ∧
    (0 < 8 ∧ wit51s3.fd.length = 8 ∧ (wit51s3.fdState 0 = fdRunning ∧ (wit51s3.flior 0).halting = false ∧ (wit51s3.flior 0).loops = [] ∧
    (wit51s3.flior 0).loads = [] ∧ (wit51s3.flior 0).stores = [] ∧ wit51s3.get (R.FD_WDOG_LIMIT 0) = 0 ∧
    wit51s3.poisoned ((dlm 0 + 0x30000 + 16 * (wit51s3.get (R.FD_PC_PC 0))) / 16) = false) ∧
    (leNat (wit51s3.bytes (dlm 0 + 0x30000 + 16 * (wit51s3.get (R.FD_PC_PC 0))) 16)) = 0x16 * 2 ^ 26) ∧
    (0 < 8 ∧ wit51s4.fd.length = 8 ∧ (wit51s4.fdState 0 = fdRunning ∧ (wit51s4.flior 0).halting = false ∧ (wit51s4.flior 0).loops = [] ∧
    (wit51s4.flior 0).loads = [] ∧ (wit51s4.flior 0).stores = [] ∧ wit51s4.get (R.FD_WDOG_LIMIT 0) = 0 ∧
    wit51s4.poisoned ((dlm 0 + 0x30000 + 16 * (wit51s4.get (R.FD_PC_PC 0))) / 16) = false) ∧
    (leNat (wit51s4.bytes (dlm 0 + 0x30000 + 16 * (wit51s4.get (R.FD_PC_PC 0))) 16)) < 2 ^ 32 ∧
    aluLegal (leNat (wit51s4.bytes (dlm 0 + 0x30000 + 16 * (wit51s4.get (R.FD_PC_PC 0))) 16)) true = false) ∧
    (0 < 8 ∧ wit51s5.fd.length = 8 ∧ (wit51s5.flior 0).loads = []) ∧
    (0 < 8 ∧ wit51s6.fd.length = 8 ∧ (wit51s6.flior 0).loads = mkFarLoad :: (([] : List FarLoad)) ∧
    (false = false ∨ mapped mkFarLoad.addr (lsBytes mkFarLoad.op) = false)) ∧
    (0 < 8 ∧ wit51s7.fd.length = 8 ∧ (wit51s7.flior 0).loads = ({ mkFarLoad with addr := 0x2000000 }) :: (([] : List FarLoad)) ∧ true = true ∧
    (([] : List (Nat × EccFinding))) = [] ∧
    inMemory ({ mkFarLoad with addr := 0x2000000 }).addr (lsBytes ({ mkFarLoad with addr := 0x2000000 }).op) = true ∧
    wit51s7.poisoned (({ mkFarLoad with addr := 0x2000000 }).addr / 16) = false) ∧
    (0 < 8 ∧ wit51s8.fd.length = 8 ∧ (wit51s8.flior 0).stores = []) ∧
    (0 < 8 ∧ wit51s9.fd.length = 8 ∧ (wit51s9.flior 0).stores = mkFarStore :: (([] : List FarStore)) ∧
    (false = false ∨ mapped mkFarStore.addr mkFarStore.bytes.length = false) ∧ (wit51s9.fdState 0 = fdRunning ∨ wit51s9.fdState 0 = fdWaiting)) ∧
    (0 < 8 ∧ wit51s10.fd.length = 8 ∧ (wit51s10.flior 0).stores = mkFarStore :: (([] : List FarStore)) ∧
    (false = false ∨ mapped mkFarStore.addr mkFarStore.bytes.length = false) ∧ wit51s10.fdState 0 ≠ fdRunning ∧ wit51s10.fdState 0 ≠ fdWaiting) ∧
    (0 < 8 ∧ wit51s11.fd.length = 8 ∧ (wit51s11.flior 0).stores = ({ mkFarStore with addr := 0x2000000 }) :: (([] : List FarStore)) ∧ true = true ∧
    inMemory ({ mkFarStore with addr := 0x2000000 }).addr ({ mkFarStore with addr := 0x2000000 }).bytes.length = true) :=
  ⟨by decide,
   by decide,
   by decide,
   by decide,
   by decide,
   by decide,
   by decide,
   by decide,
   by decide,
   by decide,
   by decide,
   by decide⟩

/-- A state for clause 0 of FabricAndStiles. -/
def wit52s0 : State :=
  let s := State.reset
  let s := s.put (R.FAB_FROZEN_FROZEN ( 0 / 32)) (2^( 0 % 32))
  s
/-- A state for clause 2 of FabricAndStiles. -/
def wit52s2 : State :=
  let s := State.reset
  let s := openWin s 0
  s
/-- A state for clause 7 of FabricAndStiles. -/
def wit52s7 : State :=
  let s := State.reset
  let s := s.put (R.STILE_PEEK_STATE 0) (0)
  s
/-- A state for clause 8 of FabricAndStiles. -/
def wit52s8 : State :=
  let s := State.reset
  let s := s.put (R.STILE_PEEK_STATE 0) (2)
  s
/-- A state for clause 9 of FabricAndStiles. -/
def wit52s9 : State :=
  let s := State.reset
  let s := s.put (R.STILE_PEEK_STATE 0) (1)
  s
/-- A state for clause 10 of FabricAndStiles. -/
def wit52s10 : State :=
  let s := State.reset
  let s := s.put (R.STILE_PEEK_STATE 63) (1)
  let s := s.put (R.STILE_PEEK_MID 63) (127)
  s
theorem test_fabric_and_stiles_hypotheses :
    (wit52s0.frozen 0 = true) ∧
    (State.reset.frozen 0 = false ∧ State.reset.accessCause 0 0 0 false = 0 ∧ inMemory 0 0 = true ∧
    (∀ i, i < 0 → State.reset.poisoned ((0 + i) / 16) = false)) ∧
    (wit52s2.frozen 0 = false ∧ wit52s2.accessCause 0 0x3000000 (([0, 0, 0, 0] : List Byte)).length true = 0 ∧
    inMemory 0x3000000 (([0, 0, 0, 0] : List Byte)).length = true) ∧
    (State.reset.frozen 0 = false ∧ 0 < 0x5B ∧ 0 ≠ 0x59 ∧ (0 = 0x5A → State.reset.cal.job = none) ∧
    State.reset.accessCause 0 0xFFFFFFFF (match ((none : Option (List Byte))) with | some l => l.length | none => 4) ((none : Option (List Byte))).isSome ≠ 0) ∧
    (State.reset.frozen 0x59 = false ∧ 0x59 = 0x59 ∧
    State.reset.accessCause 0x59 0xFFFFFFFF (match ((none : Option (List Byte))) with | some l => l.length | none => 4) ((none : Option (List Byte))).isSome ≠ 0) ∧
    (((([] : List Nat)).filter fun m => !State.reset.frozen m) = []) ∧
    ((([127]).filter fun m => !State.reset.frozen m) ≠ [] ∧ (∀ m ∈ (([127]).filter fun m => !State.reset.frozen m), m < 256)) ∧
    (0 < 128 ∧ 0 < 64 ∧ (wit52s7.stile 0) = 0) ∧
    (0 < 128 ∧ 0 < 64 ∧ (wit52s8.stile 0) = 2) ∧
    (0 < 128 ∧ 0 < 64 ∧ ((wit52s9.stile 0) = 1 ∨ (wit52s9.stile 0) = 3)) ∧
    (127 < 128 ∧ 63 < 64 ∧
    ((1, 0, (Instr.stileRelease 127 63)) = (1, 0, Instr.stileRelease 127 63) ∨ (1, 0, (Instr.stileRelease 127 63)) = (3, 1, Instr.stileClean 127 63)) ∧
    (wit52s10.stile 63) = 1 ∧ (wit52s10.stileMid 63) = 127) ∧
    (127 < 128 ∧ 63 < 64 ∧
    ((3, 1, (Instr.stileClean 127 63)) = (1, 0, Instr.stileRelease 127 63) ∨ (3, 1, (Instr.stileClean 127 63)) = (3, 1, Instr.stileClean 127 63)) ∧
    ((State.reset.stile 63) ≠ 3 ∨ (State.reset.stileMid 63) ≠ 127)) ∧
    (4 < 128 ∧ 0 < 64 ∧ 4 ≤ 4) ∧
    (0 < 128 ∧ 0 < 64 ∧ 0 < 4 ∧ ((wit52s7.stile 0) = 0 ∨ (wit52s7.stile 0) = 2)) ∧
    (0 < 128 ∧ 0 < 64 ∧ 0 < 4 ∧ ((wit52s9.stile 0) = 1 ∨ (wit52s9.stile 0) = 3)) :=
  ⟨by decide,
   by decide,
   by decide,
   by decide,
   by decide,
   by decide,
   by decide,
   by decide,
   by decide,
   by decide,
   ⟨by decide, by decide, .inl rfl, by decide, by decide⟩,
   ⟨by decide, by decide, .inr rfl, by decide⟩,
   by decide,
   by decide,
   by decide⟩

/-- A state for clause 4 of DmaChannels. -/
def wit53s4 : State :=
  let s := State.reset
  let s := s.modDma ((28 + 0)) fun x => { x with desc := none }
  s
/-- A state for clause 5 of DmaChannels. -/
def wit53s5 : State :=
  let s := State.reset
  let s := s.modDma ((28 + 0)) fun x => { x with ahead := [] }
  s
/-- A state for clause 6 of DmaChannels. -/
def wit53s6 : State :=
  let s := State.reset
  let s := s.put (R.DC_STATUS_STATE 0) (dcRun)
  let s := s.modDma (0) fun x => { x with desc := some (0, 0) }
  let s := s.put (R.DC_CFG_BURST 0) (0)
  let s := s.put (R.DC_LEN_LEN 0) (17)
  let s := s.modDma (0) fun x => { x with drainDue := 0 }
  let s := s.modDma (0) fun x => { x with freezeDue := false }
  let s := s.put (R.DC_SRC_SRC 0) 0x3000000
  let s := s.put (R.DC_DST_DST 0) 0x3001000
  let s := s.put (R.DC_LEN_LEN 0) 64
  let s := openWin s 0x20
  s
/-- A state for clause 9 of DmaChannels. -/
def wit53s9 : State :=
  let s := State.reset
  let s := { s with fab.drain := [(islandIx Island.si, 0)] }
  s
theorem test_dma_channels_hypotheses :
    (0 < 32 ∧ State.reset.fab.dma.length = 32) ∧
    (1 ≠ 0) ∧
    ((∀ c, c < 28 → State.reset.dcState c ≠ dcRun)) ∧
    (4 ≤ 4) ∧
    (0 < 4 ∧ (wit53s4.dmaX (28 + 0)).desc = none) ∧
    (0 < 4 ∧ (wit53s5.dmaX (28 + 0)).ahead = []) ∧
    (0 < 28 ∧ wit53s6.fab.dma.length = 32 ∧ wit53s6.dcState 0 = dcRun ∧ (∀ k, k < 28 → k ≠ 0 → wit53s6.dcState k ≠ dcRun) ∧
    (wit53s6.dmaX 0).desc = some (0, 0) ∧ 0 < 2 ^ 24 ∧ wit53s6.get (R.DC_CFG_BURST 0) = 0 ∧ 16 < wit53s6.get (R.DC_LEN_LEN 0) ∧
    (wit53s6.dmaX 0).drainDue = 0 ∧ (wit53s6.dmaX 0).freezeDue = false ∧ (wit53s6.get (R.DC_SRC_SRC 0)) % 16 = 0 ∧
    (wit53s6.get (R.DC_DST_DST 0)) % 16 = 0 ∧ inMemory (wit53s6.get (R.DC_SRC_SRC 0)) 16 = true ∧ inMemory (wit53s6.get (R.DC_DST_DST 0)) 16 = true ∧
    wit53s6.poisoned ((wit53s6.get (R.DC_SRC_SRC 0)) / 16) = false ∧ wit53s6.accessCause (0x20 + 0) (wit53s6.get (R.DC_SRC_SRC 0)) 16 false = 0 ∧
    wit53s6.accessCause (0x20 + 0) (wit53s6.get (R.DC_DST_DST 0)) 16 true = 0) ∧
    (State.reset.fab.dma.length = 32) ∧
    (State.reset.fab.dma.length = 32 ∧ look State.reset.fab.drain (islandIx ((.si : Island))) = none) ∧
    (wit53s9.fab.dma.length = 32 ∧ look wit53s9.fab.drain (islandIx ((.si : Island))) = some 0) :=
  ⟨by decide,
   by decide,
   by decide,
   by decide,
   by decide,
   by decide,
   by decide,
   by decide,
   by decide,
   by decide⟩

/-- A state for clause 2 of FaultsDebugAndUpdate. -/
def wit54s2 : State :=
  let s := State.reset
  let s := (List.range 4).foldl (fun s k => s.setReg (R.FM_REC 0x24 k 0) 0x80000000) s
  s
/-- A state for clause 8 of FaultsDebugAndUpdate. -/
def wit54s8 : State :=
  let s := State.reset
  let s := s.put (R.FM_STATUS_SAFE) 1
  s
/-- A state for clause 9 of FaultsDebugAndUpdate. -/
def wit54s9 : State :=
  let s := State.reset
  let s := s.put (R.FM_STATUS_SAFE) 0
  s
/-- A state for clause 10 of FaultsDebugAndUpdate. -/
def wit54s10 : State :=
  let s := State.reset
  let s := { s with th.debugDis := true }
  let s := { s with th.debugDis := true }
  s
/-- A state for clause 12 of FaultsDebugAndUpdate. -/
def wit54s12 : State :=
  let s := State.reset
  let s := { s with th.fw := none }
  s
/-- A state for clause 13 of FaultsDebugAndUpdate. -/
def wit54s13 : State :=
  let s := State.reset
  let s := { s with th.fw := some (mkFwJob : FwJob) }
  s
theorem test_faults_debug_and_update_hypotheses :
    (unitExists 0x13 = false) ∧
    (unitExists 0 = true ∧ 0 < 4 ∧ (State.reset.reg (R.FM_REC 0 0 0)).toNat.testBit 31 = false ∧
    (∀ j, j < 0 → (State.reset.reg (R.FM_REC 0 j 0)).toNat.testBit 31 = true)) ∧
    (unitExists 0x24 = true ∧ (∀ k, k < 4 → (wit54s2.reg (R.FM_REC 0x24 k 0)).toNat.testBit 31 = true)) ∧
    (unitExists 0 = true ∧ 0 % 4 ≠ 3 ∧ (¬(∃ x ∈ State.reset.fm.held, x.cls = .clsF ∧ x.at_ < State.reset.now))) ∧
    (unitExists 0 = true ∧ ((∃ x ∈ State.reset.fm.held, x.cls = .clsF ∧ x.at_ < State.reset.now) ∨ (3 % 4 = 3 ∧ (immediateCause 0 1).isSome = true))) ∧
    (unitExists 0x13 = false) ∧
    (unitExists 0 = true) ∧
    (4 ≤ 4) ∧
    (0 < 4 ∧ wit54s8.flag R.FM_STATUS_SAFE = true) ∧
    (0 < 4 ∧ wit54s9.flag R.FM_STATUS_SAFE = false) ∧
    ((wit54s10.th.debugDis = true ∨ (Config.signed (([] : List Byte))).kind ≠ 3 ∨ wit54s10.vendorSigned (([] : List Byte)) = false ∨ (Config.signed (([] : List Byte))).uid ≠ Config.uid ∨ (Config.signed (([] : List Byte))).nonce ≠ Config.jtagNonce)) ∧
    (wit54s12.th.fw = none) ∧
    (wit54s13.th.fw = some (mkFwJob : FwJob)) :=
  ⟨by decide,
   by decide,
   by decide,
   by decide,
   by decide,
   by decide,
   by decide,
   by decide,
   by decide,
   by decide,
   by decide,
   by decide,
   by decide⟩

/-- A state for clause 1 of ResetAndBoot. -/
def wit55s1 : State :=
  let s := State.reset
  let s := s.put (R.PWR_STATUS_STATE_NOW) (3)
  let s := { s with pw.wake := none }
  s
/-- A state for clause 2 of ResetAndBoot. -/
def wit55s2 : State :=
  let s := State.reset
  let s := { s with boot := .ready }
  s
/-- A state for clause 3 of ResetAndBoot. -/
def wit55s3 : State :=
  let s := State.reset
  let s := { s with boot := .held }
  let s := { s with pw.dead := false }
  s
/-- A state for clause 4 of ResetAndBoot. -/
def wit55s4 : State :=
  let s := State.reset
  let s := { s with th.railWait := false }
  s
/-- A state for clause 5 of ResetAndBoot. -/
def wit55s5 : State :=
  let s := State.reset
  let s := { s with th.railWait := true }
  s
/-- A state for clause 7 of ResetAndBoot. -/
def wit55s7 : State :=
  let s := State.reset
  let s := { s with boot := .rom }
  s
/-- A state for clause 15 of ResetAndBoot. -/
def wit55s15 : State :=
  let s := State.reset
  let s := { s with boot := .image }
  let s := { s with th.mode := 1 }
  let s := { s with th.bootGo := none }
  s
/-- A state for clause 19 of ResetAndBoot. -/
def wit55s19 : State :=
  let s := State.reset
  let s := { s with boot := .image }
  let s := { s with th.mode := 1 }
  let s := s.put (R.HP_STATUS_ETHREF_OK) 1
  s
/-- A state for clause 21 of ResetAndBoot. -/
def wit55s21 : State :=
  let s := State.reset
  let s := { s with boot := .image }
  let s := { s with th.mode := 1 }
  s
/-- A state for clause 24 of ResetAndBoot. -/
def wit55s24 : State :=
  let s := State.reset
  let s := { s with boot := .firmware }
  s
/-- A state for clause 25 of ResetAndBoot. -/
def wit55s25 : State :=
  let s := State.reset
  let s := { s with pw.shut := false }
  s
/-- A state for clause 26 of ResetAndBoot. -/
def wit55s26 : State :=
  let s := State.reset
  let s := { s with pw.shut := true }
  let s := { s with pw.dead := false }
  s
theorem test_reset_and_boot_hypotheses :
    ((State.reset.pwrState ≠ 3 ∨ 0 = false)) ∧
    (wit55s1.pwrState = 3 ∧ wit55s1.pw.wake = none) ∧
    ((wit55s2.boot ≠ .held ∨ wit55s2.pw.dead = true)) ∧
    (wit55s3.boot = .held ∧ wit55s3.pw.dead = false) ∧
    (wit55s4.th.railWait = false) ∧
    (wit55s5.th.railWait = true) ∧
    (State.reset.boot ≠ .rom) ∧
    (wit55s7.boot = .rom) ∧
    (State.reset.boot ≠ .image) ∧
    ((wit55s15.boot = .image ∧ (wit55s15.th.mode = 1 ∨ wit55s15.th.mode = 2)) ∧ wit55s15.th.bootGo = none) ∧
    ((¬(State.reset.boot = .image ∧ (State.reset.th.mode = 1 ∨ State.reset.th.mode = 2)) ∨ State.reset.flag R.HP_STATUS_ETHREF_OK = false)) ∧
    ((wit55s19.boot = .image ∧ (wit55s19.th.mode = 1 ∨ wit55s19.th.mode = 2)) ∧ wit55s19.flag R.HP_STATUS_ETHREF_OK = true) ∧
    ((¬(State.reset.boot = .image ∧ (State.reset.th.mode = 1 ∨ State.reset.th.mode = 2)))) ∧
    ((wit55s21.boot = .image ∧ (wit55s21.th.mode = 1 ∨ wit55s21.th.mode = 2)) ∧ 4 ≤ ((cmdN 8 []).payload.drop 4).length ∧
    ((cmdN 8 []).payload.drop 4).length ≤ 8188 ∧ ((cmdN 8 []).num 0 4) + ((cmdN 8 []).payload.drop 4).length ≤ 0x100000) ∧
    ((wit55s21.boot = .image ∧ (wit55s21.th.mode = 1 ∨ wit55s21.th.mode = 2)) ∧ (cmdN 4 [(3, 1)]).size = 4 ∧ ((cmdN 4 [(3, 1)]).num 0 4) ≠ 0 ∧
    ((cmdN 4 [(3, 1)]).num 0 4) ≤ 0x100000) ∧
    (State.reset.boot ≠ .firmware) ∧
    (wit55s24.boot = .firmware) ∧
    ((wit55s25.pw.shut = false ∨ wit55s25.pw.dead = true)) ∧
    (wit55s26.pw.shut = true ∧ wit55s26.pw.dead = false ∧ RegFile.wf wit55s26.regs = true) :=
  ⟨by decide,
   by decide,
   by decide,
   by decide,
   by decide,
   by decide,
   by decide,
   by decide,
   by decide,
   by decide,
   by decide,
   by decide,
   by decide,
   by decide,
   by decide,
   by decide,
   by decide,
   by decide,
   by decide⟩

/-- A state for clause 5 of SystemSessionAndMemoryCommands. -/
def wit56s5 : State :=
  let s := State.reset
  let s := s.put (R.FAB_FROZEN_FROZEN ( ((cmdN 4 []).byte 0) / 32)) (2^( ((cmdN 4 []).byte 0) % 32))
  s
/-- A state for clause 6 of SystemSessionAndMemoryCommands. -/
def wit56s6 : State :=
  let s := State.reset
  let s := openWin s 0x40
  s
/-- A state for clause 16 of SystemSessionAndMemoryCommands. -/
def wit56s16 : State :=
  let s := State.reset
  let s := s.put (R.TH_STATUS_DEBUG) 0
  s
/-- A state for clause 17 of SystemSessionAndMemoryCommands. -/
def wit56s17 : State :=
  let s := State.reset
  let s := s.put (R.SESS_STAT_STATE 0) (sessClosed)
  let s := s.put R.CASC_STATUS_ROLE 0
  let s := s.put (R.TH_STATUS_DEBUG) 0
  s
/-- A state for clause 18 of SystemSessionAndMemoryCommands. -/
def wit56s18 : State :=
  let s := State.reset
  let s := s.put (R.SESS_STAT_STATE ({ cmdN 3373 [] with via := .spi }).session) (sessOpening)
  s
/-- A state for clause 21 of SystemSessionAndMemoryCommands. -/
def wit56s21 : State :=
  let s := State.reset
  let s := s.put R.CASC_STATUS_ROLE 1
  s
theorem test_system_session_and_memory_commands_hypotheses :
    (((cmdOf [])).size ≤ 64) ∧
    ((cmdN 0 []).size = 0) ∧
    ((cmdN 4 []).size = 4 ∧ (cmdN 4 []).num 2 2 = 0 ∧ ((cmdN 4 []).byte 0) = 0) ∧
    ((cmdN 4 [(0, 1)]).size = 4 ∧ (cmdN 4 [(0, 1)]).num 2 2 = 0 ∧ ((cmdN 4 [(0, 1)]).byte 0) = 1 ∧ (cmdN 4 [(0, 1)]).byte 1 < 8 ∧
    State.reset.fdState ((cmdN 4 [(0, 1)]).byte 1) ≠ fdFrozen ∧ State.reset.fdState ((cmdN 4 [(0, 1)]).byte 1) ≠ fdLoading) ∧
    ((cmdN 4 [(0, 2)]).size = 4 ∧ (cmdN 4 [(0, 2)]).num 2 2 = 0 ∧ ((cmdN 4 [(0, 2)]).byte 0) = 2 ∧ (cmdN 4 [(0, 2)]).byte 1 < 4) ∧
    ((cmdN 4 []).size = 4 ∧ (cmdN 4 []).num 1 3 = 0 ∧ ((cmdN 4 []).byte 0) ≤ 0x5F ∧ ((cmdN 4 []).byte 0) ≠ (0x40 + (cmdN 4 []).session) ∧
    wit56s5.frozen ((cmdN 4 []).byte 0) = true) ∧
    (0x3000000 = (cmdN 8 [(0, 3), (4, 1)]).num 0 4 ∧ 1 = (cmdN 8 [(0, 3), (4, 1)]).byte 4 ∧ (cmdN 8 [(0, 3), (4, 1)]).size = 8 ∧
    (cmdN 8 [(0, 3), (4, 1)]).num 5 3 = 0 ∧ 1 ≤ 1 ∧ 1 ≤ 64 ∧ 0x3000000 % 4 = 0 ∧ 0x3000000 + 4 * 1 ≤ 2 ^ 32 ∧
    (∀ i, i < 1 → wit56s6.accessCause (0x40 + (cmdN 8 [(0, 3), (4, 1)]).session) (0x3000000 + 4 * i) 4 false = 0) ∧
    (∀ i, i < 1 → inMemory (0x3000000 + 4 * i) 4 = true)) ∧
    (0x10000000 = (cmdN 8 [(0, 0x10), (4, 1)]).num 0 4 ∧ 1 = (cmdN 8 [(0, 0x10), (4, 1)]).byte 4 ∧ (cmdN 8 [(0, 0x10), (4, 1)]).size = 8 ∧
    (cmdN 8 [(0, 0x10), (4, 1)]).num 5 3 = 0 ∧ 1 ≤ 1 ∧ 1 ≤ 64 ∧ 0x10000000 % 4 = 0 ∧ 0x10000000 + 4 * 1 ≤ 2 ^ 32 ∧
    (∀ i, i < 1 → wit56s6.accessCause (0x40 + (cmdN 8 [(0, 0x10), (4, 1)]).session) (0x10000000 + 4 * i) 4 false = 0) ∧ 1 = 1 ∧
    inMemory 0x10000000 4 = false ∧ (∀ i, i < 64 → 0x10000000 ≠ R.STILE i)) ∧
    (0x3000000 = (cmdN 16 [(0, 1), (4, 3), (8, 255), (9, 255), (10, 255), (11, 255)]).num 4 4 ∧
    (2 ^ 32 - 1) = (cmdN 16 [(0, 1), (4, 3), (8, 255), (9, 255), (10, 255), (11, 255)]).num 8 4 ∧
    0 = (cmdN 16 [(0, 1), (4, 3), (8, 255), (9, 255), (10, 255), (11, 255)]).num 12 4 ∧
    (cmdN 16 [(0, 1), (4, 3), (8, 255), (9, 255), (10, 255), (11, 255)]).size = 16 ∧
    ((cmdN 16 [(0, 1), (4, 3), (8, 255), (9, 255), (10, 255), (11, 255)]).byte 0) = 1 ∧
    (cmdN 16 [(0, 1), (4, 3), (8, 255), (9, 255), (10, 255), (11, 255)]).num 1 3 = 0 ∧ 0x3000000 % 4 = 0 ∧
    wit56s6.accessCause (0x40 + (cmdN 16 [(0, 1), (4, 3), (8, 255), (9, 255), (10, 255), (11, 255)]).session) 0x3000000 4 true = 0 ∧
    wit56s6.accessCause (0x40 + (cmdN 16 [(0, 1), (4, 3), (8, 255), (9, 255), (10, 255), (11, 255)]).session) 0x3000000 4 false = 0 ∧
    inMemory 0x3000000 4 = true ∧ (2 ^ 32 - 1) = 2 ^ 32 - 1) ∧
    (0x11100600 = (cmdN 16 [(0, 1), (4, 0x11), (5, 0x10), (6, 6), (11, 1)]).num 4 4 ∧
    1 = (cmdN 16 [(0, 1), (4, 0x11), (5, 0x10), (6, 6), (11, 1)]).num 8 4 ∧ 0 = (cmdN 16 [(0, 1), (4, 0x11), (5, 0x10), (6, 6), (11, 1)]).num 12 4 ∧
    (cmdN 16 [(0, 1), (4, 0x11), (5, 0x10), (6, 6), (11, 1)]).size = 16 ∧ ((cmdN 16 [(0, 1), (4, 0x11), (5, 0x10), (6, 6), (11, 1)]).byte 0) = 1 ∧
    (cmdN 16 [(0, 1), (4, 0x11), (5, 0x10), (6, 6), (11, 1)]).num 1 3 = 0 ∧ 0x11100600 % 4 = 0 ∧
    wit56s6.accessCause (0x40 + (cmdN 16 [(0, 1), (4, 0x11), (5, 0x10), (6, 6), (11, 1)]).session) 0x11100600 4 true = 0 ∧
    wit56s6.accessCause (0x40 + (cmdN 16 [(0, 1), (4, 0x11), (5, 0x10), (6, 6), (11, 1)]).session) 0x11100600 4 false = 0 ∧
    inMemory 0x11100600 4 = false ∧ (∀ i, i < 64 → 0x11100600 ≠ R.STILE i) ∧ 1 ≠ 0 ∧
    wit56s6.regWrite (0x40 + (cmdN 16 [(0, 1), (4, 0x11), (5, 0x10), (6, 6), (11, 1)]).session) 0x11100600 (wit56s6.maskWord 0x11100600 1 (BitVec.ofNat 32 0)) = .ok (wrOk (wit56s6.regWrite 0x40 (R.CAP_ADDR 0) 0) wit56s6)) ∧
    (0 = (cmdN 8 []).num 0 4 ∧ 0 = (cmdN 8 []).num 4 2 ∧ (cmdN 8 []).size = 8 ∧ (cmdN 8 []).num 6 2 = 0 ∧ 0 % 4 = 0 ∧ 0 ≤ 8188 ∧ 0 + 0 ≤ 2 ^ 32 ∧
    State.reset.firstViolation (0x40 + (cmdN 8 []).session) 0 0 false = none ∧ inMemory 0 0 = true ∧ State.reset.anyPoison 0 0 = false) ∧
    (0x3000000 = (cmdN 8 [(0, 3)]).num 0 4 ∧ (((cmdN 8 [(0, 3)]).payload.drop 4)) = (cmdN 8 [(0, 3)]).payload.drop 4 ∧
    4 ≤ (((cmdN 8 [(0, 3)]).payload.drop 4)).length ∧ (((cmdN 8 [(0, 3)]).payload.drop 4)).length ≤ 8188 ∧
    0x3000000 + (((cmdN 8 [(0, 3)]).payload.drop 4)).length ≤ 2 ^ 32 ∧
    wit56s6.firstViolation (0x40 + (cmdN 8 [(0, 3)]).session) 0x3000000 (((cmdN 8 [(0, 3)]).payload.drop 4)).length true = none ∧
    inMemory 0x3000000 (((cmdN 8 [(0, 3)]).payload.drop 4)).length = true) ∧
    ((((cmdN 24 []).words 0 6)) = (cmdN 24 []).words 0 6 ∧ (cmdN 24 []).size = 24 ∧
    partOk ((((cmdN 24 []).words 0 6)).map fun w => (bits w 24 16, bits w 8 0)) = true ∧
    (State.reset.writes ((List.range 6).map fun i => (R.SMEM_PART i, (((cmdN 24 []).words 0 6)).getD i 0))).2 = none) ∧
    ((cmdN 4 []).size = 4 ∧ (cmdN 4 []).num 1 3 = 0 ∧ ((cmdN 4 []).byte 0) < 64 ∧ State.reset.retireCheck ((cmdN 4 []).byte 0) = some 0) ∧
    (0 = (cmdN 4 []).num 0 4 ∧ (((cmdN 4 []).payload.drop 4)) = (cmdN 4 []).payload.drop 4 ∧ 4 ≤ (cmdN 4 []).size ∧
    0 + (((cmdN 4 []).payload.drop 4)).length ≤ 0x100000) ∧
    ((cmdN 32 []).size = 32 ∧ wit56s16.flag R.TH_STATUS_DEBUG = false) ∧
    (0 < 16 ∧ wit56s17.fe.sess.length = 16 ∧ wit56s17.sessState 0 = sessClosed ∧ (∀ y, y < 0 → wit56s17.sessState y ≠ sessClosed) ∧
    (cmdN 1249 []).size = 1249 ∧ (cmdN 1249 []).byte 1248 < 8 ∧ wit56s17.worker = false ∧ wit56s17.flag R.TH_STATUS_DEBUG = false) ∧
    (({ cmdN 3373 [] with via := .spi }).session < 16 ∧ wit56s18.sessState ({ cmdN 3373 [] with via := .spi }).session = sessOpening ∧
    ({ cmdN 3373 [] with via := .spi }).size = 3373 ∧ ((wit56s18.owned = false ∧ ({ cmdN 3373 [] with via := .spi }).via = .spi ∧
    true = true) ∨ (wit56s18.owned = true ∧
    ∃ k, wit56s18.th.creds.getD (wit56s18.get (R.SESS_STAT_CRED ({ cmdN 3373 [] with via := .spi }).session)) none = some k ∧
    Config.credValid k.ed k.ml (Config.sha384 (wit56s18.session ({ cmdN 3373 [] with via := .spi }).session).transcript) ({ cmdN 3373 [] with via := .spi }).payload = true ∧
    true = k.privileged))) ∧
    ((cmdN 4 []).size = 4 ∧ (cmdN 4 []).num 1 3 = 0 ∧ ((cmdN 4 []).byte 0) < 16 ∧
    (((cmdN 4 []).byte 0) = (cmdN 4 []).session ∨ State.reset.priv (cmdN 4 []) = true)) ∧
    ((cmdN 1988 [(0, 1)]).size = 1988 ∧ (cmdN 1988 [(0, 1)]).num 2 2 = 0 ∧ ((cmdN 1988 [(0, 1)]).byte 0) ≠ 0 ∧ ((cmdN 1988 [(0, 1)]).byte 0) < 8 ∧
    (cmdN 1988 [(0, 1)]).byte 1 ≤ 1 ∧ State.reset.th.creds.getD ((cmdN 1988 [(0, 1)]).byte 0) none = none) ∧
    ((cmdN 4 []).size = 4 ∧ (cmdN 4 []).num 1 3 = 0 ∧ ((cmdN 4 []).byte 0) < 8 ∧
    (wit56s21.worker = true ∨ wit56s21.get (R.SESS_STAT_CRED (cmdN 4 []).session) ≠ ((cmdN 4 []).byte 0)) ∧ wit56s21.th.creds.length = 8) ∧
    ((cmdN 0 []).size = 0 ∧ State.reset.carriersActive = false) ∧
    ((cmdN 2 []).size = 2) ∧
    ((cmdN 8 []).size = 8 ∧ (cmdN 8 []).num 6 2 = 0) ∧
    ((cmdN 4 [(1, 0)]).size = 4 ∧ (cmdN 4 [(1, 0)]).num 2 2 = 0 ∧ unitExists ((cmdN 4 [(1, 0)]).byte 0) = true ∧ (cmdN 4 [(1, 0)]).byte 1 ≤ 1 ∧
    (cmdN 4 [(1, 0)]).byte 1 = 0) ∧
    ((cmdN 4 [(1, 1)]).size = 4 ∧ (cmdN 4 [(1, 1)]).num 2 2 = 0 ∧ unitExists ((cmdN 4 [(1, 1)]).byte 0) = true ∧ (cmdN 4 [(1, 1)]).byte 1 ≤ 1 ∧
    (cmdN 4 [(1, 1)]).byte 1 = 1) :=
  ⟨by decide,
   by decide,
   by decide,
   by decide,
   by decide,
   by decide,
   by decide,
   by decide,
   by decide,
   ⟨by decide, by decide, by decide, by decide, by decide, by decide, by decide, by decide, by decide, by decide, by decide, by decide, rfl⟩,
   by decide,
   by decide,
   by decide,
   by decide,
   by decide,
   by decide,
   by decide,
   ⟨by decide, by decide, by decide, .inl (by decide)⟩,
   by decide,
   ⟨by decide, by decide, by decide, by decide, by decide, by decide⟩,
   by decide,
   by decide,
   by decide,
   by decide,
   by decide,
   by decide⟩

/-- A state for clause 0 of CarrierAndRadioCommands. -/
def wit57s0 : State :=
  let s := State.reset
  let s := s.put (R.CS_CFG_OWNER ((cmdN 4 []).byte 0) ((cmdN 4 []).byte 1)) ((cmdN 4 []).session)
  s
/-- A state for clause 1 of CarrierAndRadioCommands. -/
def wit57s1 : State :=
  let s := State.reset
  let s := s.put (R.CS_CFG_OWNER ((cmdN 4 []).byte 0) ((cmdN 4 []).byte 1)) (0x1F)
  s
/-- A state for clause 2 of CarrierAndRadioCommands. -/
def wit57s2 : State :=
  let s := State.reset
  let s := s.put (R.SESS_STAT_ROLE 0) 1
  s
/-- A state for clause 3 of CarrierAndRadioCommands. -/
def wit57s3 : State :=
  let s := State.reset
  let s := s.put (R.SESS_STAT_ROLE 0) 1
  let s := s.put (R.SESS_STAT_ROLE 0) 1
  s
/-- A state for clause 4 of CarrierAndRadioCommands. -/
def wit57s4 : State :=
  let s := State.reset
  let s := s.put (R.SESS_STAT_ROLE 0) 1
  let s := s.put (R.CS_CFG_EN (dirIx (dirOf ((cmdN 4 [(3, 0)]).byte 0))) ((cmdN 4 [(3, 0)]).byte 1)) 0
  let s := s.put (R.CS_CFG_EN_NOW (dirIx (dirOf ((cmdN 4 [(3, 0)]).byte 0))) ((cmdN 4 [(3, 0)]).byte 1)) 0
  s
/-- A state for clause 5 of CarrierAndRadioCommands. -/
def wit57s5 : State :=
  let s := State.reset
  let s := s.put (R.SESS_STAT_ROLE 0) 1
  let s := s.put (R.CS_CFG_EN (dirIx (dirOf ((cmdN 4 []).byte 0))) ((cmdN 4 []).byte 1)) 1
  let s := (s.put (R.SESS_STAT_ROLE 0) 1).put (R.CS_CFG_EN 0 0) 1
  s
/-- A state for clause 11 of CarrierAndRadioCommands. -/
def wit57s11 : State :=
  let s := State.reset
  let s := s.put (R.CAL_CTRL_EN) 0
  s
theorem test_carrier_and_radio_commands_hypotheses :
    ((cmdN 4 []).size = 4 ∧ (cmdN 4 []).num 2 2 = 0 ∧ ((cmdN 4 []).byte 0) ≤ 1 ∧ ((cmdN 4 []).byte 1) < 8 ∧ (cmdN 4 []).session < 16 ∧
    wit57s0.slotOwner ((cmdN 4 []).byte 0) ((cmdN 4 []).byte 1) = (cmdN 4 []).session) ∧
    ((cmdN 4 []).size = 4 ∧ (cmdN 4 []).num 2 2 = 0 ∧ ((cmdN 4 []).byte 0) ≤ 1 ∧ ((cmdN 4 []).byte 1) < 8 ∧ (cmdN 4 []).session < 16 ∧
    wit57s1.slotOwner ((cmdN 4 []).byte 0) ((cmdN 4 []).byte 1) = 0x1F) ∧
    ((cmdN 4 []).size = 4 ∧ (cmdN 4 []).num 2 2 = 0 ∧ ((cmdN 4 []).byte 0) ≤ 1 ∧ ((cmdN 4 []).byte 1) < 8 ∧ (cmdN 4 []).session < 16 ∧
    wit57s2.mayUse (cmdN 4 []) (wit57s2.slotOwner ((cmdN 4 []).byte 0) ((cmdN 4 []).byte 1)) = true) ∧
    ((cmdN 36 [(3, 12)]).size = 36 ∧ (cmdN 36 [(3, 12)]).byte 15 = 0 ∧ (cmdN 36 [(3, 12)]).num 18 2 = 0 ∧ ((cmdN 36 [(3, 12)]).byte 0) ≤ 1 ∧
    ((cmdN 36 [(3, 12)]).byte 1) < 8 ∧ configBad (cmdN 36 [(3, 12)]) = false ∧
    wit57s3.mayUse (cmdN 36 [(3, 12)]) (wit57s3.slotOwner ((cmdN 36 [(3, 12)]).byte 0) ((cmdN 36 [(3, 12)]).byte 1)) = true) ∧
    ((cmdN 4 [(3, 0)]).size = 4 ∧ (cmdN 4 [(3, 0)]).byte 3 = 0 ∧ ((cmdN 4 [(3, 0)]).byte 0) ≤ 1 ∧ ((cmdN 4 [(3, 0)]).byte 1) < 8 ∧
    wit57s4.mayUse (cmdN 4 [(3, 0)]) (wit57s4.slotOwner ((cmdN 4 [(3, 0)]).byte 0) ((cmdN 4 [(3, 0)]).byte 1)) = true ∧
    (cmdN 4 [(3, 0)]).byte 2 = (if 0 = true then 1 else 0) ∧ wit57s4.slotEn (dirOf ((cmdN 4 [(3, 0)]).byte 0)) ((cmdN 4 [(3, 0)]).byte 1) = 0 ∧
    wit57s4.active (dirOf ((cmdN 4 [(3, 0)]).byte 0)) ((cmdN 4 [(3, 0)]).byte 1) = 0) ∧
    ((cmdN 4 []).size = 4 ∧ (cmdN 4 []).byte 3 = 0 ∧ ((cmdN 4 []).byte 0) ≤ 1 ∧ ((cmdN 4 []).byte 1) < 8 ∧
    wit57s5.mayUse (cmdN 4 []) (wit57s5.slotOwner ((cmdN 4 []).byte 0) ((cmdN 4 []).byte 1)) = true ∧
    (cmdN 4 []).byte 2 = (if false = true then 1 else 0) ∧
    (wit57s5.slotEn (dirOf ((cmdN 4 []).byte 0)) ((cmdN 4 []).byte 1) ≠ false ∨ wit57s5.active (dirOf ((cmdN 4 []).byte 0)) ((cmdN 4 []).byte 1) ≠ false) ∧
    (false = true → wit57s5.slotEn (dirOf ((cmdN 4 []).byte 0)) ((cmdN 4 []).byte 1) = false → wit57s5.enCheck (dirOf ((cmdN 4 []).byte 0)) ((cmdN 4 []).byte 1) = 0)) ∧
    ((cmdN 12 [(5, 1), (7, 64), (9, 64)]).size = 12 ∧ (cmdN 12 [(5, 1), (7, 64), (9, 64)]).num 10 2 = 0 ∧
    ulFormatBad (cmdN 12 [(5, 1), (7, 64), (9, 64)]) = false ∧
    wit57s3.mayUse (cmdN 12 [(5, 1), (7, 64), (9, 64)]) (wit57s3.slotOwner 1 ((cmdN 12 [(5, 1), (7, 64), (9, 64)]).byte 0)) = true) ∧
    ((cmdN 8 [(3, 0)]).size = 8 ∧ (cmdN 8 [(3, 0)]).byte 3 = 0 ∧ (cmdN 8 [(3, 0)]).num 6 2 = 0 ∧ ((cmdN 8 [(3, 0)]).byte 0) ≤ 1 ∧
    ((cmdN 8 [(3, 0)]).byte 1) < 8 ∧ (((cmdN 8 [(3, 0)]).byte 0) = 0 → (cmdN 8 [(3, 0)]).byte 2 = 0) ∧ (cmdN 8 [(3, 0)]).byte 2 ≤ 7 ∧
    wit57s2.mayUse (cmdN 8 [(3, 0)]) (wit57s2.slotOwner ((cmdN 8 [(3, 0)]).byte 0) ((cmdN 8 [(3, 0)]).byte 1)) = true) ∧
    ((cmdN 36 []).size = 36 ∧ (cmdN 36 []).num 2 2 = 0 ∧ prachConfigBad (cmdN 36 []) = false ∧
    wit57s2.mayUse (cmdN 36 []) (wit57s2.slotOwner 1 (bits ((cmdN 36 []).num 4 4) 30 28)) = true) ∧
    ((cmdN 4 [(3, 0)]).size = 4 ∧ (cmdN 4 [(3, 0)]).byte 3 = 0 ∧ ((cmdN 4 [(3, 0)]).byte 0) ≤ 1 ∧ ((cmdN 4 [(3, 0)]).byte 1) ≤ 3 ∧
    (cmdN 4 [(3, 0)]).byte 2 < 16) ∧
    ((cmdN 4 [(0, 1)]).size = 4 ∧ (cmdN 4 [(0, 1)]).num 1 3 = 0 ∧ 1 ≤ ((cmdN 4 [(0, 1)]).byte 0) ∧ ((cmdN 4 [(0, 1)]).byte 0) ≤ 60 ∧
    State.reset.carriersActive = false) ∧
    ((cmdN 4 []).size = 4 ∧ ((cmdN 4 []).byte 0) < 16 ∧ (cmdN 4 []).num 2 2 < 3600 ∧ wit57s11.flag R.CAL_CTRL_EN = false) ∧
    (commonVco ((quadsOf ((cmdN 40 [(0, 1), (10, 2), (11, 0x80)]).byte 0)).map fun q => (cmdN 40 [(0, 1), (10, 2), (11, 0x80)]).num (8 + 8 * q) 8) = some (20 * 2 ^ 32) ∧
    (cmdN 40 [(0, 1), (10, 2), (11, 0x80)]).size = 40 ∧ (cmdN 40 [(0, 1), (10, 2), (11, 0x80)]).byte 3 = 0 ∧
    (cmdN 40 [(0, 1), (10, 2), (11, 0x80)]).num 6 2 = 0 ∧ 1 ≤ ((cmdN 40 [(0, 1), (10, 2), (11, 0x80)]).byte 0) ∧
    ((cmdN 40 [(0, 1), (10, 2), (11, 0x80)]).byte 0) < 16 ∧ ((cmdN 40 [(0, 1), (10, 2), (11, 0x80)]).byte 1) ≤ 3 ∧
    (cmdN 40 [(0, 1), (10, 2), (11, 0x80)]).byte 2 < 16 ∧ (cmdN 40 [(0, 1), (10, 2), (11, 0x80)]).num 4 2 < 1024 ∧
    (∀ q ∈ quadsOf ((cmdN 40 [(0, 1), (10, 2), (11, 0x80)]).byte 0), (cmdN 40 [(0, 1), (10, 2), (11, 0x80)]).num (8 + 8 * q) 8 < 2 ^ 42)) ∧
    ((cmdN 12 []).size = 12 ∧ (cmdN 12 []).byte 8 < 128 ∧ (cmdN 12 []).byte 9 < 128 ∧ (bit ((cmdN 12 []).byte 8) 2 = true → (cmdN 12 []).byte 10 < 128) ∧
    (bit ((cmdN 12 []).byte 8) 3 = true → (cmdN 12 []).byte 11 ≤ 60)) ∧
    ((cmdN 4 []).size = 4 ∧ ((cmdN 4 []).byte 0) < 8 ∧ ((cmdN 4 []).byte 1) < 32 ∧ (cmdN 4 []).num 2 2 < 1024) ∧
    ((cmdN 28 [(5, 15), (7, 0x10)]).size = 28 ∧ (cmdN 28 [(5, 15), (7, 0x10)]).num 1 3 = 0 ∧ ((cmdN 28 [(5, 15), (7, 0x10)]).byte 0) < 4 ∧
    bits ((cmdN 28 [(5, 15), (7, 0x10)]).num 4 4) 23 16 % 2 = 1 ∧ 15 ≤ bits ((cmdN 28 [(5, 15), (7, 0x10)]).num 4 4) 23 16 ∧
    1 ≤ bits ((cmdN 28 [(5, 15), (7, 0x10)]).num 4 4) 7 4 ∧ bits ((cmdN 28 [(5, 15), (7, 0x10)]).num 4 4) 7 4 ≤ 8 ∧
    (∀ w ∈ (cmdN 28 [(5, 15), (7, 0x10)]).words 8 5, w < 2 ^ 17)) ∧
    (4 ≤ (cmdN 4 [(1, 1)]).size ∧ (cmdN 4 [(1, 1)]).size = 4 + 4 * (cmdN 4 [(1, 1)]).byte 3 ∧ ((cmdN 4 [(1, 1)]).byte 0) < 4 ∧
    ((cmdN 4 [(1, 1)]).byte 1) ≤ 1 ∧ (cmdN 4 [(1, 1)]).byte 2 + (cmdN 4 [(1, 1)]).byte 3 ≤ 256 ∧
    ((cmdN 4 [(1, 1)]).byte 1) ≠ State.reset.get (R.CFR_CFG_BANK_NOW ((cmdN 4 [(1, 1)]).byte 0))) :=
  ⟨by decide,
   by decide,
   by decide,
   by decide,
   by decide,
   by decide,
   by decide,
   by decide,
   by decide,
   by decide,
   by decide,
   by decide,
   by decide,
   by decide,
   by decide,
   by decide,
   by decide⟩

/-- A state for clause 0 of BeamPdAndCalibrationCommands. -/
def wit58s0 : State :=
  let s := State.reset
  let s := s.setReg (R.BT_OWN 3) 0
  s
/-- A state for clause 2 of BeamPdAndCalibrationCommands. -/
def wit58s2 : State :=
  let s := State.reset
  let s := s.put (R.SESS_STAT_ROLE 0) 1
  s
/-- A state for clause 3 of BeamPdAndCalibrationCommands. -/
def wit58s3 : State :=
  let s := State.reset
  let s := s.put (R.SESS_STAT_ROLE 0) 1
  let s := s.put (R.SESS_STAT_ROLE 0) 1
  s
/-- A state for clause 6 of BeamPdAndCalibrationCommands. -/
def wit58s6 : State :=
  let s := State.reset
  let s := (s.put (R.SESS_STAT_ROLE 0) 1).put (R.CS_CFG_EN 0 0) 1
  s
/-- A state for clause 13 of BeamPdAndCalibrationCommands. -/
def wit58s13 : State :=
  let s := State.reset
  let s := s.put (R.CS_CFG_EN_NOW (dirIx .dl) 0) 1
  let s := s.put (R.CS_CFG_QMASK (dirIx .dl) 0) 15
  let s := s.put (R.PD_STATE_STATE 0) pdSteady
  let s := s.put (R.PD_STATE_CUR 0) 0
  let s := (s.put (R.CS_CFG_EN_NOW 0 0) 1).put (R.CS_CFG_QMASK 0 0) 15
  s
/-- A state for clause 14 of BeamPdAndCalibrationCommands. -/
def wit58s14 : State :=
  let s := State.reset
  let s := s.put (R.PD_STATE_STATE ((cmdN 4 []).byte 0)) (pdVerify)
  s
/-- A state for clause 20 of BeamPdAndCalibrationCommands. -/
def wit58s20 : State :=
  let s := State.reset
  let s := { s with cal.job := none }
  s
theorem test_beam_pd_and_calibration_commands_hypotheses :
    ((cmdN 4 [(0, 15)]).size = 4 ∧ (cmdN 4 [(0, 15)]).num 1 3 = 0 ∧ ((cmdN 4 [(0, 15)]).byte 0) < 16 ∧
    wit58s0.beamOwner ((cmdN 4 [(0, 15)]).byte 0) = (cmdN 4 [(0, 15)]).session ∧ (cmdN 4 [(0, 15)]).session < 16) ∧
    ((cmdN 4 []).size = 4 ∧ (cmdN 4 []).num 1 3 = 0 ∧ ((cmdN 4 []).byte 0) < 16 ∧ State.reset.beamOwner ((cmdN 4 []).byte 0) = 0x1F ∧
    (cmdN 4 []).session < 16) ∧
    ((cmdN 4 []).size = 4 ∧ (cmdN 4 []).num 1 3 = 0 ∧ ((cmdN 4 []).byte 0) < 16 ∧
    wit58s2.mayUse (cmdN 4 []) (wit58s2.beamOwner ((cmdN 4 []).byte 0)) = true) ∧
    (spanCode ((cmdN 8 [(6, 1)]).byte 6) = some 0 ∧
    0 = BitVec.ofNat 32 (wordOf [(R.WS_CFG_VALID ((cmdN 8 [(6, 1)]).byte 0), ((cmdN 8 [(6, 1)]).byte 1)), (R.WS_CFG_NL ((cmdN 8 [(6, 1)]).byte 0), (cmdN 8 [(6, 1)]).byte 4), (R.WS_CFG_SPAN ((cmdN 8 [(6, 1)]).byte 0), 0), (R.WS_CFG_GRAN ((cmdN 8 [(6, 1)]).byte 0), (cmdN 8 [(6, 1)]).byte 5), (R.WS_CFG_DIR ((cmdN 8 [(6, 1)]).byte 0), (cmdN 8 [(6, 1)]).byte 2), (R.WS_CFG_CS ((cmdN 8 [(6, 1)]).byte 0), (cmdN 8 [(6, 1)]).byte 3)]) ∧
    (cmdN 8 [(6, 1)]).size = 8 ∧ (cmdN 8 [(6, 1)]).num 7 1 = 0 ∧ ((cmdN 8 [(6, 1)]).byte 0) < 16 ∧ ((cmdN 8 [(6, 1)]).byte 1) ≤ 1 ∧
    (cmdN 8 [(6, 1)]).byte 2 ≤ 1 ∧ (cmdN 8 [(6, 1)]).byte 3 < 8 ∧ (cmdN 8 [(6, 1)]).byte 4 < 64 ∧ (cmdN 8 [(6, 1)]).byte 5 < 8 ∧
    wit58s3.mayUse (cmdN 8 [(6, 1)]) (wit58s3.slotOwner ((cmdN 8 [(6, 1)]).byte 2) ((cmdN 8 [(6, 1)]).byte 3)) = true ∧
    wit58s3.wsCheck ((cmdN 8 [(6, 1)]).byte 0) 0 = 0) ∧
    (0 = (cmdN 200 [(5, 1)]).num 2 2 ∧ 1 = (cmdN 200 [(5, 1)]).num 4 2 ∧ (cmdN 200 [(5, 1)]).size = 8 + 192 * 1 ∧ 1 ≤ 1 ∧ 1 ≤ 42 ∧
    ((cmdN 200 [(5, 1)]).byte 1) = 0 ∧ (cmdN 200 [(5, 1)]).num 6 2 = 0 ∧ ((cmdN 200 [(5, 1)]).byte 0) < 16 ∧
    wit58s3.memberOf ((cmdN 200 [(5, 1)]).byte 0) = none ∧ 0 + 1 ≤ wit58s3.setSize ((cmdN 200 [(5, 1)]).byte 0) ∧
    wit58s3.mayUse (cmdN 200 [(5, 1)]) (wit58s3.slotOwner (wit58s3.get (R.WS_CFG_DIR ((cmdN 200 [(5, 1)]).byte 0))) (wit58s3.get (R.WS_CFG_CS ((cmdN 200 [(5, 1)]).byte 0)))) = true ∧
    wit58s3.setInUse ((cmdN 200 [(5, 1)]).byte 0) = false) ∧
    (0 = (cmdN 204 []).num 0 2 ∧
    (({ id := 0, d := 0, cs := 0, atEn := false, frame := 0, sym := 0, src := .cmd (cmdN 204 []) } : Flip)) = { id := 0, d := (cmdN 204 []).byte 2, cs := (cmdN 204 []).byte 3, atEn := decide ((cmdN 204 []).byte 4 = 1), frame := (cmdN 204 []).num 6 2, sym := (cmdN 204 []).num 8 2, src := .cmd (cmdN 204 []) } ∧
    (cmdN 204 []).size = 204 ∧ (cmdN 204 []).num 5 1 = 0 ∧ (cmdN 204 []).num 10 2 = 0 ∧ 0 < 4096 ∧ (cmdN 204 []).byte 2 ≤ 1 ∧ (cmdN 204 []).byte 3 < 8 ∧
    (cmdN 204 []).byte 4 ≤ 1 ∧ (cmdN 204 []).num 6 2 < 1024 ∧
    (cmdN 204 []).num 8 2 < symsPerFrame (wit58s3.slotMu (dirOf ((cmdN 204 []).byte 2)) ((cmdN 204 []).byte 3)) ∧
    wit58s3.mayUse (cmdN 204 []) (wit58s3.beamOwner (0 / 256)) = true ∧ wit58s3.bf.lq.length < 32) ∧
    ((([{ w0 := 0, w1 := 0, w2 := 0, job := some (cmdN 16 [(0, 1)], 0) }] : List SteerReq)) = ((List.range ((cmdN 16 [(0, 1)]).byte 0)).map fun i => { w0 := (cmdN 16 [(0, 1)]).num (4 + 12 * i) 4, w1 := (cmdN 16 [(0, 1)]).num (8 + 12 * i) 4, w2 := (cmdN 16 [(0, 1)]).num (12 + 12 * i) 4, job := some ((cmdN 16 [(0, 1)]), i) }) ∧
    (cmdN 16 [(0, 1)]).size = 4 + 12 * ((cmdN 16 [(0, 1)]).byte 0) ∧ (cmdN 16 [(0, 1)]).num 1 3 = 0 ∧ 1 ≤ ((cmdN 16 [(0, 1)]).byte 0) ∧
    ((cmdN 16 [(0, 1)]).byte 0) ≤ 32 ∧
    (∀ r ∈ (([{ w0 := 0, w1 := 0, w2 := 0, job := some (cmdN 16 [(0, 1)], 0) }] : List SteerReq)), wit58s6.steerValid r = true) ∧
    (∀ r ∈ (([{ w0 := 0, w1 := 0, w2 := 0, job := some (cmdN 16 [(0, 1)], 0) }] : List SteerReq)), wit58s6.mayUse (cmdN 16 [(0, 1)]) (wit58s6.beamOwner (bits r.w0 31 20 / 256)) = true) ∧
    wit58s6.bf.fifo.length + ((cmdN 16 [(0, 1)]).byte 0) ≤ 64) ∧
    ((cmdN 4 []).size = 4 ∧ (cmdN 4 []).num 2 2 = 0 ∧ ((cmdN 4 []).byte 0) < 8 ∧ ((cmdN 4 []).byte 1) < 8) ∧
    ((cmdN 4 []).size = 4 ∧ ((cmdN 4 []).byte 0) ≤ 1 ∧ ((cmdN 4 []).byte 1) < 8 ∧
    wit58s2.mayUse (cmdN 4 []) (wit58s2.slotOwner ((cmdN 4 []).byte 0) ((cmdN 4 []).byte 1)) = true) ∧
    (0 = (cmdN 4 []).num 0 2 ∧ 0 = (cmdN 4 []).num 2 2 ∧ (cmdN 4 []).size = 4 + 4 * 0 ∧ 0 + 0 ≤ 0x380 ∧ (∀ i, i < 0 → State.reset.geomOk (0 + i) = true)) ∧
    ((cmdN 12 []).size = 12 ∧ (cmdN 12 []).num 5 3 = 0 ∧ (cmdN 12 []).num 0 2 < 4096 ∧ (cmdN 12 []).byte 3 < 16 ∧ (cmdN 12 []).byte 4 ≤ 1 ∧
    (∀ q, q < 4 → (cmdN 12 []).byte (8 + q) < 24)) ∧
    ((([(R.PD_NBR 0, 0)] ++ (List.range 16).map (fun i => (R.PD_TERMS 0 i, 0)) ++ [(R.PD_BYP_G 0, 0), (R.PD_TBMAP 0, 0)])) = [(R.PD_NBR ((cmdN 76 []).byte 0), (cmdN 76 []).num 8 4)] ++ (List.range 16).map (fun i => (R.PD_TERMS ((cmdN 76 []).byte 0) i, (cmdN 76 []).num (12 + 4 * i) 4)) ++ [(R.PD_BYP_G ((cmdN 76 []).byte 0), (cmdN 76 []).num 4 2), (R.PD_TBMAP ((cmdN 76 []).byte 0), (cmdN 76 []).num 6 2)] ∧
    (cmdN 76 []).size = 76 ∧ ((cmdN 76 []).byte 0) < 64 ∧ ((cmdN 76 []).byte 1) ≤ 1 ∧ (cmdN 76 []).byte 2 < 8 ∧ (cmdN 76 []).byte 3 ≤ 1 ∧
    (cmdN 76 []).num 6 2 < 2 ^ 15 ∧
    (∀ j, j < 4 → bit ((cmdN 76 []).num 8 4) (8 * j + 7) = true → bits ((cmdN 76 []).num 8 4) (8 * j + 5) (8 * j) ≠ ((cmdN 76 []).byte 0)) ∧
    (State.reset.writes (([(R.PD_NBR 0, 0)] ++ (List.range 16).map (fun i => (R.PD_TERMS 0 i, 0)) ++ [(R.PD_BYP_G 0, 0), (R.PD_TBMAP 0, 0)]))).2 = none ∧
    (((State.reset.writes (([(R.PD_NBR 0, 0)] ++ (List.range 16).map (fun i => (R.PD_TERMS 0 i, 0)) ++ [(R.PD_BYP_G 0, 0), (R.PD_TBMAP 0, 0)]))).1.put (R.PD_CHCFG_INIT ((cmdN 76 []).byte 0)) ((cmdN 76 []).byte 2)).put (R.PD_CHCFG_NOSPARE_MUTE ((cmdN 76 []).byte 0)) ((cmdN 76 []).byte 3)).pdEnWrite ((cmdN 76 []).byte 0) (decide (((cmdN 76 []).byte 1) = 1)) (([] : List (Nat × EccFinding))) = .ok (wrOk (State.pdEnWrite (((State.reset.writes ([(R.PD_NBR 0, 0)] ++ (List.range 16).map (fun i => (R.PD_TERMS 0 i, 0)) ++ [(R.PD_BYP_G 0, 0), (R.PD_TBMAP 0, 0)])).1.put (R.PD_CHCFG_INIT 0) 0).put (R.PD_CHCFG_NOSPARE_MUTE 0) 0) 0 false []) State.reset)) ∧
    (0 = (cmdN 4 []).byte 2 ∧ 0 = (cmdN 4 []).byte 3 ∧ (cmdN 4 []).size = 4 + 8 * 0 ∧ ((cmdN 4 []).byte 0) < 64 ∧ ((cmdN 4 []).byte 1) < 8 ∧ 0 + 0 ≤ 80 ∧
    ((cmdN 4 []).words 4 (2 * 0)).all partFits = true) ∧
    ((cmdN 4 [(1, 1)]).size = 4 ∧ ((cmdN 4 [(1, 1)]).byte 0) < 64 ∧ ((cmdN 4 [(1, 1)]).byte 1) < 8 ∧ wit58s13.pd.length = 64 ∧
    wit58s13.pdGoCode ((cmdN 4 [(1, 1)]).byte 0) ((cmdN 4 [(1, 1)]).byte 1) = 0 ∧ wit58s13.activeOn .dl (quadOf ((cmdN 4 [(1, 1)]).byte 0)) ≠ []) ∧
    ((cmdN 4 []).size = 4 ∧ (cmdN 4 []).num 1 1 = 0 ∧ ((cmdN 4 []).byte 0) < 64 ∧ wit58s14.pdState ((cmdN 4 []).byte 0) = pdVerify) ∧
    ((cmdN 4 []).size = 4 ∧ (cmdN 4 []).num 1 3 = 0 ∧ ((cmdN 4 []).byte 0) < 64) ∧
    (0 = (cmdN 12 [(8, 1)]).num 0 8 ∧ (cmdN 12 [(8, 1)]).size = 12 ∧ (cmdN 12 [(8, 1)]).num 9 3 = 0 ∧ (cmdN 12 [(8, 1)]).byte 8 = 1) ∧
    (0 = (cmdN 12 [(8, 0)]).num 0 8 ∧ (cmdN 12 [(8, 0)]).size = 12 ∧ (cmdN 12 [(8, 0)]).num 9 3 = 0 ∧ (cmdN 12 [(8, 0)]).byte 8 = 0) ∧
    ((cmdN 4 [(0, 1)]).size = 4 ∧ (cmdN 4 [(0, 1)]).num 1 3 = 0 ∧ ((cmdN 4 [(0, 1)]).byte 0) = 1) ∧
    ((cmdN 4 []).size = 4 ∧ (cmdN 4 []).num 1 3 = 0 ∧ ((cmdN 4 []).byte 0) = 0) ∧
    (0x1401 = (cmdN 12 [(2, 20), (3, 1)]).num 0 4 ∧ (cmdN 12 [(2, 20), (3, 1)]).size = 12 ∧ 20 ≤ bits 0x1401 13 8 ∧ bits 0x1401 13 8 ≤ 60 ∧
    0x1401 % 16 ≠ 0 ∧ wit58s20.cal.job = none) ∧
    ((cmdN 12 [(0, 1)]).size = 12 ∧ (cmdN 12 [(0, 1)]).num 5 1 = 0 ∧ (cmdN 12 [(0, 1)]).num 10 2 = 0 ∧ 1 ≤ ((cmdN 12 [(0, 1)]).byte 0) ∧
    ((cmdN 12 [(0, 1)]).byte 0) ≤ 6 ∧ ((cmdN 12 [(0, 1)]).byte 1) < 16 ∧ (cmdN 12 [(0, 1)]).byte 2 < 32 ∧
    (((cmdN 12 [(0, 1)]).byte 0) = 6 → (cmdN 12 [(0, 1)]).byte 2 < 24) ∧ (cmdN 12 [(0, 1)]).byte 3 < 16 ∧ (cmdN 12 [(0, 1)]).byte 4 ≤ 1 ∧
    (cmdN 12 [(0, 1)]).num 6 2 < 1024 ∧ (cmdN 12 [(0, 1)]).num 8 2 < 4096 ∧ wit58s20.cal.job = none) ∧
    ((cmdN 4 [(2, 1)]).size = 4 ∧ (cmdN 4 [(2, 1)]).num 3 1 = 0 ∧ ((cmdN 4 [(2, 1)]).byte 0) ≤ 1 ∧ 1 ≤ (cmdN 4 [(2, 1)]).byte 2 ∧
    ((cmdN 4 [(2, 1)]).byte 1) + (cmdN 4 [(2, 1)]).byte 2 ≤ 64) ∧
    ((cmdN 0 []).size = 0 ∧ State.reset.otpWindow = true ∧ State.reset.cal.digests.length < 4) :=
  ⟨by decide,
   by decide,
   by decide,
   by decide,
   by decide,
   by decide,
   by decide,
   by decide,
   by decide,
   by decide,
   by decide,
   by decide,
   by decide,
   by decide,
   by decide,
   by decide,
   by decide,
   by decide,
   by decide,
   by decide,
   by decide,
   by decide,
   by decide,
   by decide⟩

/-- A state for clause 2 of TimeAndPowerCommands. -/
def wit59s2 : State :=
  let s := State.reset
  let s := s.put (R.SLOT_STATUS_CHECK_BUSY) 0
  let s := s.put (R.SLOT_STATUS_COMMIT_PEND) 0
  s
/-- A state for clause 3 of TimeAndPowerCommands. -/
def wit59s3 : State :=
  let s := State.reset
  let s := s.put (R.SLOT_STATUS_CHECK_BUSY) 0
  let s := s.put (R.SLOT_STATUS_COMMIT_PEND) 0
  let s := { s with slot.job := none }
  let s := s.put (R.SLOT_STATUS_COPY_BUSY) 0
  s
/-- A state for clause 4 of TimeAndPowerCommands. -/
def wit59s4 : State :=
  let s := State.reset
  let s := s.put (R.SLOT_STATUS_CHECK_BUSY) 0
  let s := s.put (R.SLOT_STATUS_COMMIT_PEND) 0
  let s := { s with slot.job := none }
  let s := s.put (R.SLOT_STATUS_COPY_BUSY) 1
  s
/-- A state for clause 5 of TimeAndPowerCommands. -/
def wit59s5 : State :=
  let s := State.reset
  let s := s.put (R.SLOT_STATUS_CHECK_BUSY) 0
  let s := s.put (R.SLOT_STATUS_COMMIT_PEND) 0
  let s := { s with slot.job := none }
  s
/-- A state for clause 7 of TimeAndPowerCommands. -/
def wit59s7 : State :=
  let s := State.reset
  let s := s.put (R.SLOT_STATUS_CHECK_BUSY) 1
  s
/-- A state for clause 13 of TimeAndPowerCommands. -/
def wit59s13 : State :=
  let s := State.reset
  let s := { s with pw.move := none }
  let s := s.put (R.PWR_STATUS_STATE_NOW) (((cmdN 12 []).byte 0))
  s
/-- A state for clause 14 of TimeAndPowerCommands. -/
def wit59s14 : State :=
  let s := State.reset
  let s := { s with pw.move := none }
  let s := s.put R.PWR_STATUS_STATE_NOW 0
  s
/-- A state for clause 16 of TimeAndPowerCommands. -/
def wit59s16 : State :=
  let s := State.reset
  let s := { s with pw.move := none }
  let s := s.put (R.PWR_STATUS_STATE_NOW) (2)
  s
theorem test_time_and_power_commands_hypotheses :
    (0 = (cmdN 8 [(3, 1)]).num 0 2 ∧ 1 = (cmdN 8 [(3, 1)]).num 2 2 ∧ (([0] : List Nat)) = (cmdN 8 [(3, 1)]).words 4 1 ∧
    (cmdN 8 [(3, 1)]).size = 4 + 4 * 1 ∧ 1 ≤ 1 ∧ 1 ≤ 2047 ∧ 0 + 1 ≤ 2048 ∧ (∀ x ∈ (([0] : List Nat)), x < 4096 ∧ bit x 7 = false)) ∧
    ((cmdN 4 []).size = 4 ∧ (cmdN 4 []).num 1 3 = 0 ∧ ((cmdN 4 []).byte 0) ≤ 3) ∧
    ((cmdN 0 []).size = 0 ∧ wit59s2.flag R.SLOT_STATUS_CHECK_BUSY = false ∧ wit59s2.flag R.SLOT_STATUS_COMMIT_PEND = false) ∧
    ((cmdN 4 []).size = 4 ∧ (cmdN 4 []).num 1 1 = 0 ∧ (cmdN 4 []).num 2 2 < 1024 ∧ wit59s3.flag R.SLOT_STATUS_CHECK_BUSY = false ∧
    wit59s3.flag R.SLOT_STATUS_COMMIT_PEND = false ∧ wit59s3.slot.job = none ∧ ((cmdN 4 []).byte 0) = 0 ∧ wit59s3.flag R.SLOT_STATUS_COPY_BUSY = false) ∧
    ((cmdN 4 []).size = 4 ∧ (cmdN 4 []).num 1 1 = 0 ∧ (cmdN 4 []).num 2 2 < 1024 ∧ wit59s4.flag R.SLOT_STATUS_CHECK_BUSY = false ∧
    wit59s4.flag R.SLOT_STATUS_COMMIT_PEND = false ∧ wit59s4.slot.job = none ∧ ((cmdN 4 []).byte 0) = 0 ∧ wit59s4.flag R.SLOT_STATUS_COPY_BUSY = true) ∧
    ((cmdN 4 [(0, 1), (2, 2), (3, 1)]).size = 4 ∧ (cmdN 4 [(0, 1), (2, 2), (3, 1)]).num 1 1 = 0 ∧ (cmdN 4 [(0, 1), (2, 2), (3, 1)]).num 2 2 < 1024 ∧
    wit59s5.flag R.SLOT_STATUS_CHECK_BUSY = false ∧ wit59s5.flag R.SLOT_STATUS_COMMIT_PEND = false ∧ wit59s5.slot.job = none ∧
    512 = ((((cmdN 4 [(0, 1), (2, 2), (3, 1)]).num 2 2 : Int) - 1 - wit59s5.frameNo wit59s5.now) % 1024).toNat ∧
    ((cmdN 4 [(0, 1), (2, 2), (3, 1)]).byte 0) = 1 ∧ wit59s5.slotCheck = none ∧ 512 ≤ 512) ∧
    ((cmdN 4 [(0, 1), (3, 2)]).size = 4 ∧ (cmdN 4 [(0, 1), (3, 2)]).num 1 1 = 0 ∧ (cmdN 4 [(0, 1), (3, 2)]).num 2 2 < 1024 ∧
    wit59s5.flag R.SLOT_STATUS_CHECK_BUSY = false ∧ wit59s5.flag R.SLOT_STATUS_COMMIT_PEND = false ∧ wit59s5.slot.job = none ∧
    1 = ((((cmdN 4 [(0, 1), (3, 2)]).num 2 2 : Int) - 1 - wit59s5.frameNo wit59s5.now) % 1024).toNat ∧ ((cmdN 4 [(0, 1), (3, 2)]).byte 0) = 1 ∧
    wit59s5.slotCheck = none ∧ 1 ≤ 1 ∧ 1 < 512) ∧
    ((cmdN 0 []).size = 0 ∧ (wit59s7.flag R.SLOT_STATUS_CHECK_BUSY = true ∨ (∀ b, wit59s7.slot.swapAt = some b → wit59s7.now + 24576 ≤ b))) ∧
    ((cmdN 8 []).size = 8 ∧ (cmdN 8 []).num 6 2 = 0 ∧ (cmdN 8 []).num 0 4 < frameCycles ∧ (cmdN 8 []).num 4 2 < 8192) ∧
    ((cmdN 12 []).size = 12 ∧ (cmdN 12 []).num 6 4 < 1000000000 ∧ State.reset.carriersActive = false) ∧
    ((cmdN 12 []).size = 12 ∧ (cmdN 12 []).num 5 1 = 0 ∧ (cmdN 12 []).num 10 2 = 0 ∧ ((cmdN 12 []).byte 0) ≤ 1 ∧ ((cmdN 12 []).byte 1) ≤ 1 ∧
    (((cmdN 12 []).byte 0) = 0 → ((cmdN 12 []).byte 1) = 0) ∧ (cmdN 12 []).byte 2 ≤ 100 ∧ (cmdN 12 []).byte 3 < 32 ∧ (cmdN 12 []).byte 4 < 32) ∧
    ((cmdN 8 []).size = 8 ∧ (cmdN 8 []).num 5 3 = 0 ∧ ((cmdN 8 []).byte 0) ≤ 1 ∧ ((cmdN 8 []).byte 1) ≤ 1 ∧ (cmdN 8 []).byte 2 ≤ 2 ∧
    (cmdN 8 []).byte 3 ≤ 3 ∧ (cmdN 8 []).byte 4 < 8) ∧
    ((cmdN 12 [(2, 1)]).size = 12 ∧ 1 ≤ bits ((cmdN 12 [(2, 1)]).num 0 4) 15 8 ∧ bits ((cmdN 12 [(2, 1)]).num 0 4) 15 8 ≤ 200) ∧
    ((cmdN 12 []).size = 12 ∧ (cmdN 12 []).num 3 1 = 0 ∧
    wit59s13.stateCheck ((cmdN 12 []).byte 0) ((cmdN 12 []).byte 1) ((cmdN 12 []).byte 2) = .accepted ∧ wit59s13.pw.move = none ∧
    ((cmdN 12 []).byte 0) = wit59s13.pwrState ∧ ((cmdN 12 []).byte 0) ≠ 1) ∧
    ((cmdN 12 [(0, 1)]).size = 12 ∧ (cmdN 12 [(0, 1)]).num 3 1 = 0 ∧
    wit59s14.stateCheck ((cmdN 12 [(0, 1)]).byte 0) ((cmdN 12 [(0, 1)]).byte 1) ((cmdN 12 [(0, 1)]).byte 2) = .accepted ∧ wit59s14.pw.move = none ∧
    ((cmdN 12 [(0, 1)]).byte 0) < 2 ∧ wit59s14.pwrState < 2 ∧ ((cmdN 12 [(0, 1)]).byte 0) ≠ wit59s14.pwrState) ∧
    ((cmdN 12 [(0, 2)]).size = 12 ∧ (cmdN 12 [(0, 2)]).num 3 1 = 0 ∧
    wit59s14.stateCheck ((cmdN 12 [(0, 2)]).byte 0) ((cmdN 12 [(0, 2)]).byte 1) ((cmdN 12 [(0, 2)]).byte 2) = .accepted ∧ wit59s14.pw.move = none ∧
    2 ≤ ((cmdN 12 [(0, 2)]).byte 0) ∧ ((cmdN 12 [(0, 2)]).byte 0) ≠ wit59s14.pwrState) ∧
    ((cmdN 12 []).size = 12 ∧ (cmdN 12 []).num 3 1 = 0 ∧
    wit59s16.stateCheck ((cmdN 12 []).byte 0) ((cmdN 12 []).byte 1) ((cmdN 12 []).byte 2) = .accepted ∧ wit59s16.pw.move = none ∧
    ((cmdN 12 []).byte 0) < 2 ∧ wit59s16.pwrState = 2) ∧
    ((cmdN 6 [(0, 105), (1, 50), (2, 60), (4, 0x01), (5, 0x23)]).size = 6 ∧ (cmdN 6 [(0, 105), (1, 50), (2, 60), (4, 0x01), (5, 0x23)]).num 3 1 = 0 ∧
    thermBad (cmdN 6 [(0, 105), (1, 50), (2, 60), (4, 0x01), (5, 0x23)]) = false ∧
    ((cmdN 6 [(0, 105), (1, 50), (2, 60), (4, 0x01), (5, 0x23)]).byte 0) ≤ State.reset.get R.THERM_CFG_SHUT_C) ∧
    ((cmdN 12 []).size = 12 ∧ (cmdN 12 []).num 1 3 = 0 ∧ ((cmdN 12 []).byte 0) < 16 ∧ bits ((cmdN 12 []).num 8 4) 31 28 ≤ 4) :=
  ⟨by decide,
   by decide,
   by decide,
   by decide,
   by decide,
   by decide,
   by decide,
   by decide,
   by decide,
   by decide,
   by decide,
   by decide,
   by decide,
   by decide,
   by decide,
   by decide,
   by decide,
   by decide,
   by decide⟩

/-- A state for clause 0 of CascadeCaptureAndKernelCommands. -/
def wit60s0 : State :=
  let s := State.reset
  let s := s.put R.CASC_STATUS_ROLE 0
  s
/-- A state for clause 1 of CascadeCaptureAndKernelCommands. -/
def wit60s1 : State :=
  let s := State.reset
  let s := s.put (R.HG_STATUS_STATE 0) (hgUntimed)
  s
/-- A state for clause 4 of CascadeCaptureAndKernelCommands. -/
def wit60s4 : State :=
  let s := State.reset
  let s := s.put (R.PLAN_B_BC_LEAD 1) 16
  s
/-- A state for clause 10 of CascadeCaptureAndKernelCommands. -/
def wit60s10 : State :=
  let s := State.reset
  let s := s.put (R.PB_CTRL_RUN) 0
  s
/-- A state for clause 11 of CascadeCaptureAndKernelCommands. -/
def wit60s11 : State :=
  let s := State.reset
  let s := s.put (R.FD_STATUS_STATE ((cmdN 8 []).byte 0)) (fdHalted)
  s
/-- A state for clause 13 of CascadeCaptureAndKernelCommands. -/
def wit60s13 : State :=
  let s := State.reset
  let s := s.put (R.SESS_STAT_ROLE 0) 1
  s
theorem test_cascade_capture_and_kernel_commands_hypotheses :
    ((cmdN 0 []).size = 0 ∧ wit60s0.worker = false) ∧
    (0 = (cmdN 12 []).byte 9 ∧ (cmdN 12 []).size = 12 ∧ (cmdN 12 []).num 10 2 = 0 ∧ (cmdN 12 []).byte 8 < 64 ∧ 0 < 4 ∧
    (wit60s1.hgState 0 = hgUntimed ∨ wit60s1.hgState 0 = hgTimed) ∧ wit60s1.portRole 0 ≠ 1 ∧ wit60s1.portRole 0 ≠ 2 ∧
    wit60s1.routeOf (bits (wit60s1.capPeer 0) 223 216) = none) ∧
    ((cmdN 4 []).size = 4 + 12 * ((cmdN 4 []).byte 0) ∧ (cmdN 4 []).num 1 3 = 0 ∧ (∀ i, i < ((cmdN 4 []).byte 0) → (cmdN 4 []).num (13 + 12 * i) 3 = 0 ∧
    (cmdN 4 []).byte (12 + 12 * i) < 64)) ∧
    (1 = 1 - State.reset.planAct ∧ (cmdN 44 [(0, 1)]).size = 44 ∧ (cmdN 44 [(0, 1)]).num 1 3 = 0 ∧ ((cmdN 44 [(0, 1)]).byte 0) ≤ 1 ∧
    (((cmdN 44 [(0, 1)]).byte 0) = 0 → (R.PLAN_A_TREE_D 1).of (BitVec.ofNat 32 ((cmdN 44 [(0, 1)]).num 4 4)) = (R.PLAN_A_TREE_D State.reset.planAct).of (State.reset.reg (R.PLAN_A State.reset.planAct)))) ∧
    (1 = (cmdN 4 [(1, 1)]).num 0 2 ∧ 1 = wit60s4.frameNo wit60s4.now + ((1 + 1024 - wit60s4.sfn) % 1024 : Nat) ∧ (cmdN 4 [(1, 1)]).size = 4 ∧
    (cmdN 4 [(1, 1)]).num 2 2 = 0 ∧ 1 < 1024 ∧ wit60s4.planCheck 1 = 0) ∧
    ((cmdN 0 []).size = 0) ∧
    (0x80000 = (cmdN 12 [(5, 0x08)]).num 4 4 ∧ (cmdN 12 [(5, 0x08)]).size = 12 ∧ (cmdN 12 [(5, 0x08)]).num 1 3 = 0 ∧ ((cmdN 12 [(5, 0x08)]).byte 0) < 4 ∧
    1 ≤ bits 0x80000 23 19 ∧ bits 0x80000 23 19 ≤ 24 ∧ bits 0x80000 13 12 ≠ 3 ∧ bits 0x80000 17 16 ≠ 3 ∧ (cmdN 12 [(5, 0x08)]).num 8 4 < 2 ^ 24) ∧
    (([(R.CAP_ADDR 0, 0x1250000), (R.CAP_LEN 0, 0), (R.CAP_CFG 0, 1), (R.CAP_AT 0, 0)]) = [(R.CAP_ADDR ((cmdN 24 [(4, 1), (5, 0x25), (15, 1)]).byte 0), (cmdN 24 [(4, 1), (5, 0x25), (15, 1)]).num 4 4), (R.CAP_LEN ((cmdN 24 [(4, 1), (5, 0x25), (15, 1)]).byte 0), (cmdN 24 [(4, 1), (5, 0x25), (15, 1)]).num 8 4), (R.CAP_CFG ((cmdN 24 [(4, 1), (5, 0x25), (15, 1)]).byte 0), (cmdN 24 [(4, 1), (5, 0x25), (15, 1)]).num 12 4), (R.CAP_AT ((cmdN 24 [(4, 1), (5, 0x25), (15, 1)]).byte 0), (cmdN 24 [(4, 1), (5, 0x25), (15, 1)]).num 16 4)] ∧
    ((State.reset.writes [(R.CAP_ADDR 0, 0x1250000), (R.CAP_LEN 0, 0), (R.CAP_CFG 0, 1), (R.CAP_AT 0, 0)]).1.put (R.CAP_CTRL_FRAME 0) 0) = (State.reset.writes ([(R.CAP_ADDR 0, 0x1250000), (R.CAP_LEN 0, 0), (R.CAP_CFG 0, 1), (R.CAP_AT 0, 0)])).1.put (R.CAP_CTRL_FRAME ((cmdN 24 [(4, 1), (5, 0x25), (15, 1)]).byte 0)) ((cmdN 24 [(4, 1), (5, 0x25), (15, 1)]).num 20 4) ∧
    (cmdN 24 [(4, 1), (5, 0x25), (15, 1)]).size = 24 ∧ (cmdN 24 [(4, 1), (5, 0x25), (15, 1)]).num 1 3 = 0 ∧
    ((cmdN 24 [(4, 1), (5, 0x25), (15, 1)]).byte 0) < 8 ∧ (cmdN 24 [(4, 1), (5, 0x25), (15, 1)]).num 20 4 < 1024 ∧
    State.reset.capState ((cmdN 24 [(4, 1), (5, 0x25), (15, 1)]).byte 0) ≠ 1 ∧ State.reset.capState ((cmdN 24 [(4, 1), (5, 0x25), (15, 1)]).byte 0) ≠ 2 ∧
    (State.reset.writes ([(R.CAP_ADDR 0, 0x1250000), (R.CAP_LEN 0, 0), (R.CAP_CFG 0, 1), (R.CAP_AT 0, 0)])).2 = none ∧ State.reset.dfe.caps.length = 8 ∧
    (((cmdN 24 [(4, 1), (5, 0x25), (15, 1)]).byte 0) % 2 = 0 → ((State.reset.writes [(R.CAP_ADDR 0, 0x1250000), (R.CAP_LEN 0, 0), (R.CAP_CFG 0, 1), (R.CAP_AT 0, 0)]).1.put (R.CAP_CTRL_FRAME 0) 0).flag (R.CAP_CFG_PAIR ((cmdN 24 [(4, 1), (5, 0x25), (15, 1)]).byte 0)) = false) ∧
    (((cmdN 24 [(4, 1), (5, 0x25), (15, 1)]).byte 0) % 2 = 1 → ((State.reset.writes [(R.CAP_ADDR 0, 0x1250000), (R.CAP_LEN 0, 0), (R.CAP_CFG 0, 1), (R.CAP_AT 0, 0)]).1.put (R.CAP_CTRL_FRAME 0) 0).flag (R.CAP_CFG_PAIR (((cmdN 24 [(4, 1), (5, 0x25), (15, 1)]).byte 0) - 1)) = false) ∧
    ((State.reset.writes [(R.CAP_ADDR 0, 0x1250000), (R.CAP_LEN 0, 0), (R.CAP_CFG 0, 1), (R.CAP_AT 0, 0)]).1.put (R.CAP_CTRL_FRAME 0) 0).capOk ((cmdN 24 [(4, 1), (5, 0x25), (15, 1)]).byte 0) = true) ∧
    ((cmdN 4 []).size = 4 ∧ (cmdN 4 []).num 1 3 = 0 ∧ ((cmdN 4 []).byte 0) < 8) ∧
    ((cmdN 16 []).size = 16 ∧ (cmdN 16 []).num 1 3 = 0 ∧ ((cmdN 16 []).byte 0) = 0) ∧
    ((cmdN 16 [(0, 1)]).size = 16 ∧ (cmdN 16 [(0, 1)]).num 1 3 = 0 ∧
    ([(R.PB_ADDR, 0), (R.PB_LEN, 0), (R.PB_CFG, 0)]) = [(R.PB_ADDR, (cmdN 16 [(0, 1)]).num 4 4), (R.PB_LEN, (cmdN 16 [(0, 1)]).num 8 4), (R.PB_CFG, (cmdN 16 [(0, 1)]).num 12 4)] ∧
    ((wit60s10.writes [(R.PB_ADDR, 0), (R.PB_LEN, 0), (R.PB_CFG, 0)]).1) = (wit60s10.writes ([(R.PB_ADDR, 0), (R.PB_LEN, 0), (R.PB_CFG, 0)])).1 ∧
    ((cmdN 16 [(0, 1)]).byte 0) = 1 ∧ wit60s10.flag R.PB_CTRL_RUN = false ∧ (wit60s10.writes ([(R.PB_ADDR, 0), (R.PB_LEN, 0), (R.PB_CFG, 0)])).2 = none ∧
    ((wit60s10.writes [(R.PB_ADDR, 0), (R.PB_LEN, 0), (R.PB_CFG, 0)]).1).partOverlap = false) ∧
    (0 = (cmdN 8 []).num 4 4 ∧ (cmdN 8 []).size = 8 ∧ (cmdN 8 []).num 2 2 = 0 ∧ ((cmdN 8 []).byte 0) < 8 ∧ ((cmdN 8 []).byte 1) ≤ 1 ∧
    (((cmdN 8 []).byte 1) = 1 → 0x3000000 ≤ 0 ∧ 0 + 0x10000 ≤ 0x4000000) ∧ wit60s11.fdState ((cmdN 8 []).byte 0) = fdHalted) ∧
    ((cmdN 4 [(0, 0x80)]).size = 4 ∧ (cmdN 4 [(0, 0x80)]).num 2 2 = 0 ∧ ((cmdN 4 [(0, 0x80)]).byte 0) ≠ 0 ∧ ((cmdN 4 [(0, 0x80)]).byte 1) ≤ 1 ∧
    (∀ k ∈ bitList 8 ((cmdN 4 [(0, 0x80)]).byte 0), wit60s13.mayCore (cmdN 4 [(0, 0x80)]) k = true ∧ wit60s13.fdState k = fdHalted)) ∧
    ((cmdN 4 [(0, 0x80)]).size = 4 ∧ (cmdN 4 [(0, 0x80)]).num 1 3 = 0 ∧ ((cmdN 4 [(0, 0x80)]).byte 0) ≠ 0 ∧
    (∀ k ∈ bitList 8 ((cmdN 4 [(0, 0x80)]).byte 0), wit60s13.mayCore (cmdN 4 [(0, 0x80)]) k = true)) ∧
    ((cmdN 4 []).size = 4 ∧ (cmdN 4 []).num 1 1 = 0 ∧ ((cmdN 4 []).byte 0) < 8 ∧ wit60s13.mayCore (cmdN 4 []) ((cmdN 4 []).byte 0) = true) :=
  ⟨by decide,
   by decide,
   by decide,
   by decide,
   by decide,
   by decide,
   by decide,
   by decide,
   by decide,
   by decide,
   by decide,
   by decide,
   by decide,
   by decide,
   by decide⟩

/-! ### The spec's worked examples and single steps -/

/-- The worked example after R129: the first carrier's FTW is −0x5_A000_0000. -/
theorem test_ftw_of_first_carrier :
    ((((State.reset.put R.SYN_N_SYNA_N 30).put (R.QLO_CFG_DIV 0) 2).wput (R.CS_RF_HI_CODE_HI 0 0) 0xEA).wput (R.CS_RF_LO_CODE_LO 0 0)
      0x60000000).ftw 0 0 0 = -24159191040 := by decide
/-- The same example: at N = 30, F = 0 and DIV = 2 the LO code is 0xF0_0000_0000. -/
theorem test_lo_code : loCodeOf 30 0 2 = 0xF000000000 := by decide
/-- The worked example after the compression rules (R346): the two components of the PRB, with exponent 9. -/
theorem test_compress_exponent : bfpExp 9 [130900, -70000] = 9 := by decide
/-- The same: 130,900 saturates to 255 and is counted, −70,000 gives −137. -/
theorem test_compress_prb : compressPrb 1 0 [130900, -70000] = (packBits 4 9 9 [255, -137], 1) := by decide
/-- The worked example of R167: band 2 at 62.9 °C stays, at 63.0 °C goes to band 3, and 57.0 °C brings it back. -/
theorem test_bands_have_hysteresis :
    bandStep 5032 10 5 2 = 2 ∧ bandStep 5040 10 5 2 = 3 ∧ bandStep 4640 10 5 3 = 3 ∧ bandStep 4560 10 5 3 = 2 := by decide
/-- The worked example after R181 (the rate budget): three slots of 64, 32 and 32 units fill the budget of 128, and a slot at 15 kHz with N = 256 adds one. -/
theorem test_rate_budget : fsUnits 3 11 + fsUnits 1 12 + fsUnits 1 12 = 128 ∧ fsUnits 0 8 = 1 := by decide
/-- The worked example after R204: A_cs of 273 PRB is 13 KiB. -/
theorem test_row_bytes : rowBytes 273 = 13312 := by decide
/-- The worked example after R291 (the waits of R289): at D = 4 the hop waits are 848, 636, 424, 212 and 0 cycles. -/
theorem test_hop_waits : (List.range 5).map (fun d =>
    (((State.reset.put (R.PLAN_A_TREE_D 0) 4).put (R.PLAN_A_DEPTH 0) d).hopWait 0)) = [848, 636, 424, 212, 0] := by decide
/-- The worked example after R328: −37.3 ppb at 4.9 ppb a code from 2,048 is CODE 2,040 (its FRAC is worked with 4.9 itself and not
with the GAIN of the register, so the integer part alone is compared). -/
theorem test_vcxo_code :
    let s := (State.reset.put R.VC_GAIN_GAIN 0x4E666).put R.VC_CFG_CENTRE 2048
    ((s.modTm fun x => { x with freqCmd := -2444493 }).vcCode).1 / 65536 = 2040 := by decide
/-- R13: a tie rounds to the even neighbour, at both signs. -/
theorem test_ties_to_even : roundDiv 3 2 = 2 ∧ roundDiv 5 2 = 2 ∧ roundDiv (-3) 2 = -2 ∧ roundDiv (-5) 2 = -2 := by decide
/-- R163: half way from 1 to 2 the working coefficient 1.5 rounds to 2. -/
theorem test_fade_half_way : fadePart 32 1 2 = 2 := by decide
/-- A register write stores its word: CAP_ADDR(0) takes the address of 32-byte units. -/
theorem test_register_write_cap_addr :
    ((match exec (.registerWrite 0 (R.CAP_ADDR 0) 0x1250020) State.reset with
      | .next t => t.reg (R.CAP_ADDR 0)
      | _ => 0)) = 0x1250020 := by decide
/-- R76: TX_EN written 1 starts the power-up and leaves TX_RDY 0. -/
theorem test_tx_en_write :
    (match exec (.txEnWrite 5 true) State.reset with
      | .next t => t.flag (R.CH_CTRL_TX_EN 5) && (t.chain 5).txUp.isSome && !t.flag (R.CH_STATUS_TX_RDY 5)
      | _ => false) = true := by decide
/-- R438: a packet with no bytes is counted in MALFORMED and nothing else happens. -/
theorem test_bad_packet_is_counted :
    (match exec (.hostCommandPacket .host 0 []) State.reset with
      | .next t => t.get R.CMD_CNT2_MALFORMED
      | _ => 0) = 1 := by decide
/-- R504: a write by a master that does not hold the stile is refused: a release of a free stile leaves it free. -/
theorem test_stile_release_of_a_free_stile :
    (match exec (.stileRelease 3 0) State.reset with
      | .next t => t.stile 0
      | _ => 9) = 0 := by decide

end Sys2Proof.Tests
end

section
/-! What every command keeps of the state it starts from: the queue of waiting commands, and the canonical form of registers,
working copies and memory (log entry 3). `State.Kept s0 s` says it of a start `s0` and a later state `s`; every function of the
model that gives a state has one rule, named after it, that says it keeps what the state before kept. A rule's proof is the
function's own text with each call read as that call's rule: branches become `.ite` or `split`, a loop `.forAll`, a guarded step
`.doIf`, and an update of no register and no memory `.frame`. Only `setReg`, `setWrk`, `store` and the functions that drop
registers or bytes write the three files, and these rest on the laws of the sparse maps. -/

namespace Sys2Proof.Machine

/-- Registers written one after another keep the canonical form. -/
theorem RegFile.wf_foldl_set (l : List (Nat × Word)) (f : RegFile) (h : f.wf = true) :
    RegFile.wf (l.foldl (fun m r => RegFile.set m r.1 r.2) f) = true := by
  induction l generalizing f with
  | nil => exact h
  | cons r l ih => exact ih _ (RegFile.wf_set _ _ _ h)

/-- A later state `s` of a command that starts in `s0`: the same commands wait, and `s` is canonical if `s0` was. -/
structure State.Kept (s0 s : State) : Prop where
  pending : s.pending = s0.pending
  canonical : s0.canonical = true → s.canonical = true

namespace State.Kept

/-! ### What keeps a state -/

section
variable {s0 s t : State}

theorem refl (s : State) : s.Kept s := ⟨rfl, id⟩

/-- An update of other fields than the queue and the three files. -/
theorem frame {now free out tm fe fm chains hold lo rfPend f0Pend dfe pd pdFresh pdEcc pdAdapt slot enJobs prach bf hg casc hp sp pa
    cal fd memx fab pw th boot bound sig} (h : s0.Kept s) :
    s0.Kept { pending := s.pending, regs := s.regs, work := s.work, mem := s.mem, now, free, out, tm, fe, fm, chains, hold, lo, rfPend,
              f0Pend, dfe, pd, pdFresh, pdEcc, pdAdapt, slot, enJobs, prach, bf, hg, casc, hp, sp, pa, cal, fd, memx, fab, pw, th, boot,
              bound, sig } :=
  ⟨h.pending, fun c => State.canonical_congr rfl rfl rfl (h.canonical c)⟩

/-- An update of each file that keeps that file's own canonical form. -/
theorem of_files (h : s0.Kept s) (hp : t.pending = s.pending) (hr : s.regs.wf = true → t.regs.wf = true)
    (hw : s.work.wf = true → t.work.wf = true) (hm : s.mem.wf = true → t.mem.wf = true) : s0.Kept t := by
  refine ⟨hp.trans h.pending, fun c => ?_⟩
  obtain ⟨r, w, m⟩ := (State.canonical_iff s).1 (h.canonical c)
  exact (State.canonical_iff t).2 ⟨hr r, hw w, hm m⟩

theorem setReg {a v} (h : s0.Kept s) : s0.Kept (s.setReg a v) := ⟨h.pending, fun c => State.canonical_setReg _ _ (h.canonical c)⟩

theorem setWrk {a v} (h : s0.Kept s) : s0.Kept (s.setWrk a v) := ⟨h.pending, fun c => State.canonical_setWrk _ _ (h.canonical c)⟩

theorem store {a l} (h : s0.Kept s) : s0.Kept (s.store a l) := ⟨h.pending, fun c => State.canonical_store _ _ (h.canonical c)⟩

theorem doIf {f : State → State} {b : Bool} (h : s0.Kept s) (k : ∀ t, s0.Kept t → s0.Kept (f t)) : s0.Kept (Machine.doIf b f s) :=
  doIf_keeps s0.Kept b f k s h

theorem forAll {α : Type} {l : List α} {f : α → State → State} (h : s0.Kept s) (k : ∀ a t, s0.Kept t → s0.Kept (f a t)) :
    s0.Kept (Machine.forAll l f s) :=
  forAll_keeps s0.Kept l f (fun a _ => k a) s h

theorem ite {c : Prop} [Decidable c] (h : s0.Kept s) (k : s0.Kept t) : s0.Kept (if c then s else t) := by
  split
  · exact h
  · exact k

end

/-! ### States that come with a value, and the outcome of a register write -/

section
variable {α : Type} {s0 s : State}

theorem fst {a : α} (h : s0.Kept s) : s0.Kept (s, a).1 := h

theorem snd {a : α} (h : s0.Kept s) : s0.Kept (a, s).2 := h

theorem ok (h : s0.Kept s) : s0.Kept (Wr.state (.ok s)) := h

theorem error (h : s0.Kept s) : s0.Kept (Wr.state (.error s)) := h

theorem of_fst {p : State × α} {a : α} (h : s0.Kept p.1) (e : p = (s, a)) : s0.Kept s := by
  subst e
  exact h

theorem of_snd {p : α × State} {a : α} (h : s0.Kept p.2) (e : p = (a, s)) : s0.Kept s := by
  subst e
  exact h

theorem of_ok {w : Wr} (h : s0.Kept w.state) (e : w = .ok s) : s0.Kept s := by
  subst e
  exact h

theorem of_error {w : Wr} (h : s0.Kept w.state) (e : w = .error s) : s0.Kept s := by
  subst e
  exact h

theorem ite_fst {p q : State × α} {c : Prop} [Decidable c] (h : s0.Kept p.1) (k : s0.Kept q.1) : s0.Kept (if c then p else q).1 := by
  split
  · exact h
  · exact k

theorem ite_snd {p q : α × State} {c : Prop} [Decidable c] (h : s0.Kept p.2) (k : s0.Kept q.2) : s0.Kept (if c then p else q).2 := by
  split
  · exact h
  · exact k

theorem ite_state {v w : Wr} {c : Prop} [Decidable c] (h : s0.Kept v.state) (k : s0.Kept w.state) :
    s0.Kept (if c then v else w).state := by
  split
  · exact h
  · exact k

theorem foldl_fst {β : Type} {l : List β} {f : State × α → β → State × α} {p : State × α} (h : s0.Kept p.1)
    (k : ∀ q b, s0.Kept q.1 → s0.Kept (f q b).1) : s0.Kept (l.foldl f p).1 := by
  induction l generalizing p with
  | nil => exact h
  | cons b l ih => exact ih (k p b h)

end

section
variable {s0 s : State} (h : s0.Kept s)
include h

/-! ### Registers and working copies -/

theorem put {f v} : s0.Kept (s.put f v) := .setReg h

theorem wput {f v} : s0.Kept (s.wput f v) := .setWrk h

theorem apply {a} : s0.Kept (s.apply a) := .setWrk h

theorem freeNext : s0.Kept s.freeNext := .frame h

theorem emit {o} : s0.Kept (s.emit o) := .frame h

theorem advanceTo {c} : s0.Kept (s.advanceTo c) := .frame h

theorem tickTo {k next} : s0.Kept (s.tickTo k next) := .frame (.advanceTo h)

/-! ### Counters, sticky flags, plain writes -/

theorem countBy {f n} : s0.Kept (s.countBy f n) := .put h

theorem count {f} : s0.Kept (s.count f) := .countBy h

theorem raise {f} : s0.Kept (s.raise f) := .put h

theorem raiseBit {f i} : s0.Kept (s.raiseBit f i) := .put h

theorem clearBit {f i} : s0.Kept (s.clearBit f i) := .put h

theorem putBit {f i b} : s0.Kept (s.putBit f i b) := .put h

theorem plainWrite {r a v} : s0.Kept (s.plainWrite r a v) := .setReg h

/-! ### The precedence of R30 -/

theorem modChain {ch f} : s0.Kept (s.modChain ch f) := .frame h

theorem noteGate {c ch} : s0.Kept (State.noteGate c ch s) := .ite h (.modChain h)

theorem noteTrk {ch} : s0.Kept (State.noteTrk ch s) := .modChain h

theorem noteRx : s0.Kept s.noteRx := by
  unfold State.noteRx
  exact .forAll h fun _ _ h1 => .ite h1 (.frame h1)

theorem modAdac {n f} : s0.Kept (s.modAdac n f) := .frame h

theorem setTxon {ch b} : s0.Kept (s.setTxon ch b) := by
  unfold State.setTxon
  extract_lets +onlyGivenNames _ _ s1
  have hs1 : s0.Kept s1 := .doIf (.putBit (.put h)) fun _ h1 => .noteGate (.modChain h1)
  exact .ite (.modChain hs1) hs1

theorem setRxon {ch b} : s0.Kept (s.setRxon ch b) := by
  unfold State.setRxon
  extract_lets +onlyGivenNames _ _ s1
  have hs1 : s0.Kept s1 := .doIf (.putBit (.put h)) fun _ h1 => .noteTrk h1
  exact .ite (.modChain hs1) hs1

theorem driveAdac {n} : s0.Kept (State.driveAdac n s) := .ite (.modAdac (.put h)) (.ite h (.ite (.modAdac h) (.put h)))

theorem loadAdac {n code} : s0.Kept (s.loadAdac n code) := .driveAdac (.modAdac h)

theorem latchClear {n} : s0.Kept (State.latchClear n s) := .ite (.modAdac h) h

theorem settleChain {ch} : s0.Kept (State.settleChain ch s) := by
  unfold State.settleChain
  exact .noteGate (.doIf (.modChain (.doIf (.put h) fun _ h1 => .modChain (.setTxon h1))) fun _ h1 => .modChain h1)

theorem settle : s0.Kept s.settle := by
  unfold State.settle
  exact .forAll (.noteRx (.forAll h fun _ _ h1 => .settleChain h1)) fun _ _ h1 => .driveAdac (.latchClear h1)

theorem endZero {b ch} : s0.Kept (State.endZero b ch s) := by
  unfold State.endZero
  split
  · exact .doIf h fun _ h1 => .noteGate (.modChain h1)
  · exact h

/-! ### Replies, completions, events -/

theorem modSession {x f} : s0.Kept (s.modSession x f) := .frame h

theorem spiPut {p} : s0.Kept (s.spiPut p) := .frame h

theorem showEvq {x} : s0.Kept (s.showEvq x) := .put h

theorem putEvent {x p} : s0.Kept (s.putEvent x p) := by
  unfold State.putEvent
  extract_lets +onlyGivenNames _ _
  split
  · exact .emit (.modSession h)
  · exact .ite (.spiPut (.modSession h)) (.count (.modSession h))
  · exact .ite (.showEvq (.modSession h)) (.modSession h)

theorem sendEvent {x code tag status fields} : s0.Kept (s.sendEvent x code tag status fields) := .putEvent h

theorem event {e} : s0.Kept (s.event e) := by
  unfold State.event
  exact .forAll h fun _ _ h1 => .sendEvent h1

theorem showHeld {x} : s0.Kept (s.showHeld x) := .put h

theorem showHeldOf {c} : s0.Kept (s.showHeldOf c) := .ite (.showHeld h) h

theorem unrun {c} : s0.Kept (s.unrun c) := .showHeldOf (.frame h)

theorem putReply {c p} : s0.Kept (s.putReply c p) := by
  unfold State.putReply
  split
  · exact .ite (.spiPut h) (.ite (.modSession h) (.frame h))
  · exact .emit h

theorem sendReply {c st hint payload tagged} : s0.Kept (s.sendReply c st hint payload tagged) := .putReply h

theorem served {c} : s0.Kept (s.served c) := by
  unfold State.served
  split
  · exact .ite h (.frame h)
  · exact h

theorem reply {c st payload} : s0.Kept (s.reply c st payload) :=
  .ite (.served h) (.ite (.served h) (.sendReply (.served h)))

theorem complete {c st done} : s0.Kept (s.complete c st done) := .ite (.sendEvent (.unrun h)) (.unrun h)

theorem completeJob {j st done} : s0.Kept (s.completeJob j st done) := by
  unfold State.completeJob
  split
  · exact .complete h
  · exact h

theorem keepRunning {queue c} : s0.Kept (s.keepRunning queue c) := .showHeldOf (.frame h)

theorem accept {queue c} : s0.Kept (s.accept queue c) := .keepRunning (.reply h)

/-! ### The fault manager -/

theorem modFm {f} : s0.Kept (s.modFm f) := .frame h

theorem showFaults : s0.Kept s.showFaults := by
  unfold State.showFaults
  extract_lets +onlyGivenNames s1 _ _
  have hs1 : s0.Kept s1 := by
    unfold s1
    split
    · exact .put (.put (.put h))
    · exact .setReg h
  exact .put (.put (.put hs1))

theorem sendSafeState {c} : s0.Kept (s.sendSafeState c) := by
  unfold State.sendSafeState
  extract_lets +onlyGivenNames _ _ _ s1
  have hs1 : s0.Kept s1 := by
    unfold s1
    refine .ite (.forAll h fun _ _ h1 => ?_) (.forAll h fun _ _ h1 => .sendEvent h1)
    split
    · exact h1
    · exact .emit h1
  exact .ite hs1 (.ite (.spiPut hs1) (.count hs1))

theorem enterSafe {c} : s0.Kept (s.enterSafe c) := by
  unfold State.enterSafe
  exact .ite h (.sendSafeState (.forAll (.settle (.modFm (.put (.put h)))) fun _ _ h1 => .setRxon h1))

theorem fileRecord {r} : s0.Kept (s.fileRecord r) := by
  unfold State.fileRecord
  split
  · exact .showFaults (.modFm (.forAll h fun _ _ h1 => .setReg h1))
  · exact .count h

theorem report {r} : s0.Kept (s.report r) := by
  unfold State.report
  extract_lets +onlyGivenNames _ _
  refine .ite (.enterSafe (.fileRecord h)) (.ite ?_ (.fileRecord h))
  split
  · exact .enterSafe (.fileRecord h)
  · exact .fileRecord h

theorem clearUnit {u} : s0.Kept (s.clearUnit u) := by
  unfold State.clearUnit
  exact .showFaults (.modFm (.setReg (.forAll h fun _ _ h1 => .forAll h1 fun _ _ h2 => .setReg h2)))

/-! ### Transmit and receive chains -/

theorem refuse {f} : s0.Kept (Machine.refuse f s).state := .error (.raise h)

theorem txDown {ch} : s0.Kept (s.txDown ch) := .noteGate (.modChain (.put (.setTxon h)))

theorem rxDown {ch} : s0.Kept (s.rxDown ch) := .modChain (.put (.setRxon h))

theorem applyTxDis {ch} : s0.Kept (State.applyTxDis ch s) := .ite (.ite (.modChain h) (.txDown h)) h

theorem applyRxDis {ch} : s0.Kept (State.applyRxDis ch s) := .ite (.ite (.modChain h) (.rxDown h)) h

theorem txEnWrite {ch v} : s0.Kept (s.txEnWrite ch v) := by
  unfold State.txEnWrite
  exact .ite (.put h) (.ite (.ite (.put h) (.modChain (.put h)))
    (.ite (.doIf (.modChain (.put h)) fun _ h1 => .applyTxDis h1) (.put h)))

theorem rxEnWrite {ch v} : s0.Kept (s.rxEnWrite ch v) := by
  unfold State.rxEnWrite
  exact .ite (.put h) (.ite (.ite (.put h) (.modChain (.put h)))
    (.ite (.doIf (.modChain (.put h)) fun _ h1 => .applyRxDis h1) (.put h)))

theorem gateChain {ch} : s0.Kept (State.gateChain ch s) := .rxDown (.txDown h)

theorem ungateChain {ch} : s0.Kept (State.ungateChain ch s) := by
  unfold State.ungateChain
  exact .doIf (.doIf h fun _ h1 => .modChain h1) fun _ h1 => .modChain h1

theorem txMuteWrite {ch v} : s0.Kept (s.txMuteWrite ch v) := .settleChain (.put h)

theorem rxMuteWrite {ch v} : s0.Kept (s.rxMuteWrite ch v) := by
  unfold State.rxMuteWrite
  exact .doIf (.put h) fun _ h1 => .modChain h1

theorem rxProtWrite {ch v} : s0.Kept (s.rxProtWrite ch v) := by
  unfold State.rxProtWrite
  exact .doIf (.put h) fun _ h1 => .modChain (.put h1)

theorem chCtrlWrite {ch v} : s0.Kept (s.chCtrlWrite ch v) :=
  .txEnWrite (.rxEnWrite (.txMuteWrite (.rxMuteWrite (.rxProtWrite (.put h)))))

theorem txPowerUpDone {ch} : s0.Kept (s.txPowerUpDone ch) := by
  unfold State.txPowerUpDone
  split
  · exact .modChain (.put h)
  · exact h

theorem showEst {ch} : s0.Kept (State.showEst ch s) := .ite h (.put (.put h))

theorem showTrim {ch} : s0.Kept (State.showTrim ch s) := .ite h (.put (.put h))

theorem trimRefresh {ch} : s0.Kept (State.trimRefresh ch s) := .ite (.showTrim (.showEst (.modChain (.put (.put h))))) h

theorem loadDcoTable {runs ch} : s0.Kept (State.loadDcoTable runs ch s) := by
  unfold State.loadDcoTable
  split
  · exact h
  · exact .showTrim (.showEst (.modChain (.forAll h fun _ _ h1 => .setReg h1)))

theorem askDcoLoad {ch l} : s0.Kept (s.askDcoLoad ch l) := by
  unfold State.askDcoLoad
  exact .doIf (.modChain h) fun _ h1 => .loadDcoTable h1

theorem rxPowerUpDone {ch} : s0.Kept (s.rxPowerUpDone ch) := by
  unfold State.rxPowerUpDone
  split
  · exact .modChain (.put (.loadDcoTable h))
  · exact h

theorem slewField {f step} : s0.Kept (s.slewField f step) := .wput h

theorem showSlewing {ch} : s0.Kept (State.showSlewing ch s) := .put h

theorem applyTx {ch} : s0.Kept (State.applyTx ch s) :=
  .applyTxDis (.showSlewing (.slewField (.slewField (.slewField (.slewField (.apply h))))))

theorem applyRx {ch} : s0.Kept (State.applyRx ch s) := by
  unfold State.applyRx
  exact .modChain (.applyRxDis (.showSlewing (.slewField
    (.slewField (.doIf (.apply h) fun _ h1 => .showTrim (.modChain h1))))))

theorem countChain {ch rx tx ovl} : s0.Kept (s.countChain ch rx tx ovl) :=
  .ite (.modChain h) (.countBy (.countBy (.countBy h)))

theorem setStale {ch b} : s0.Kept (State.setStale ch b s) :=
  .ite (.put h) (.showTrim (.showEst (.modChain (.countChain (.put h)))))

theorem protect {ch ulSym ovl} : s0.Kept (s.protect ch ulSym ovl) :=
  .ite (.put h) (.ite (.modChain (.put h)) (.ite (.ite (.put (.modChain h)) (.modChain h)) h))

theorem countClips {ch n} : s0.Kept (s.countClips ch n) := .ite h (.modChain (.raise (.countChain h)))

theorem judgeSymbol {ch ulSym frame} : s0.Kept (s.judgeSymbol ch ulSym frame) := by
  unfold State.judgeSymbol
  extract_lets +onlyGivenNames _ s1 _
  have hs1 : s0.Kept s1 := .countChain (.modChain h)
  exact .protect (.ite (.event (.modChain hs1)) hs1)

theorem writeCHB {r ix a v} : s0.Kept (Machine.writeCHB r ix a v s).state := by
  unfold Machine.writeCHB
  extract_lets +onlyGivenNames _ _ _ _ _
  split
  · exact .ok (.chCtrlWrite h)
  · exact .ok (.doIf (.plainWrite h) fun _ h1 => .applyTx h1)
  · exact .ok (.doIf (.showSlewing (.plainWrite h)) fun _ h1 => .applyTx h1)
  · exact .ok (.doIf (.showSlewing (.plainWrite h)) fun _ h1 => .applyTx h1)
  · exact .ok (.doIf (.showSlewing (.plainWrite h)) fun _ h1 => .applyRx h1)
  · exact .ite_state (.refuse h) (.ok (.doIf (.plainWrite h) fun _ h1 => .applyRx h1))
  · exact .ite_state (.refuse h) (.ok (.noteTrk (.plainWrite h)))
  · exact .ite_state (.refuse h) (.ok (.showTrim (.plainWrite h)))
  · exact .ok (.doIf (.doIf (.doIf h fun _ h1 => .put h1) fun _ h1 => .put h1) fun _ h1 => .put h1)
  · exact .ok (.plainWrite h)

/-! ### Carrier placement -/

theorem setNco {d q cs} : s0.Kept (State.setNco d q cs s) := .put (.put (.frame h))

theorem setNcoQuad {q} : s0.Kept (State.setNcoQuad q s) := by
  unfold State.setNcoQuad
  exact .forAll h fun _ _ h1 => .doIf h1 fun _ h2 => .setNco h2

theorem applyRf {d cs} : s0.Kept (State.applyRf d cs s) := by
  unfold State.applyRf
  split
  · exact .forAll (.frame (.wput (.wput h))) fun _ _ h1 => .setNco h1
  · exact h

theorem applyF0 {d cs} : s0.Kept (State.applyF0 d cs s) := by
  unfold State.applyF0
  split
  · exact .frame (.wput (.wput h))
  · exact h

theorem rfCommit {d cs hi} : s0.Kept (s.rfCommit d cs hi).state := by
  unfold State.rfCommit
  exact .ite_state (.ok (.doIf (.frame (.put h)) fun _ h1 => .applyRf h1)) (.refuse h)

theorem f0Commit {d cs hi} : s0.Kept (s.f0Commit d cs hi).state := by
  unfold State.f0Commit
  exact .ok (.doIf (.frame (.put h)) fun _ h1 => .applyF0 h1)

theorem setBand {q b} : s0.Kept (s.setBand q b) := by
  unfold State.setBand
  exact .forAll h fun _ _ h1 => .put h1

theorem markCaptures {q} : s0.Kept (State.markCaptures q s) := by
  unfold State.markCaptures
  exact .forAll h fun _ _ h1 => .doIf h1 fun _ h2 => .raise h2

/-! ### Synthesisers, TUNE, the array epoch -/

theorem setSyn {i st} : s0.Kept (s.setSyn i st) := .put h

theorem modLo {f} : s0.Kept (s.modLo f) := .frame h

theorem modSyn {i f} : s0.Kept (s.modSyn i f) := .modLo h

theorem setNF {i n f} : s0.Kept (s.setNF i n f) := .ite (.put (.put h)) (.put (.put h))

theorem showDrift : s0.Kept s.showDrift := .put h

theorem refreshReady : s0.Kept s.refreshReady := by
  unfold State.refreshReady
  exact .settle (.forAll (.showDrift h) fun _ _ h1 => .doIf (.putBit h1) fun _ h2 => .modLo (.markCaptures h2))

theorem calibrate {i n f j} : s0.Kept (s.calibrate i n f j) := .ite (.modSyn (.setSyn (.setNF h))) h

theorem offSyn {i} : s0.Kept (State.offSyn i s) := by
  unfold State.offSyn
  exact .modSyn (.doIf h fun _ h1 => .setSyn h1)

theorem presetSyn {i} : s0.Kept (s.presetSyn i) := .modSyn h

theorem showTune : s0.Kept s.showTune := .put (.put h)

theorem endTune {t st} : s0.Kept (s.endTune t st) := .completeJob (.put h)

theorem finishTune {st} : s0.Kept (s.finishTune st) := by
  unfold State.finishTune
  split
  · exact .showTune (.endTune (.modLo h))
  · exact h

theorem startTune {t} : s0.Kept (s.startTune t) :=
  .ite (.showTune (.modLo h)) (.ite (.showTune (.modLo (.modLo h))) (.showTune (.modLo (.calibrate (.modLo h)))))

theorem takeTargets {t} : s0.Kept (s.takeTargets t) := by
  unfold State.takeTargets
  exact .forAll (.setNF h) fun _ _ h1 => .modLo (.put h1)

theorem afterRetune : s0.Kept s.afterRetune := by
  unfold State.afterRetune
  split
  · exact .ite (.takeTargets h) h
  · exact h

theorem tuneGo {t allowed} : s0.Kept (s.tuneGo t allowed).1 := by
  unfold State.tuneGo
  extract_lets _ s1 queue s2
  have h1 : s0.Kept s1 := .put h
  have hq : s0.Kept (queue s1) := by
    refine .showTune (.modLo ?_)
    split
    · exact .completeJob h1
    · exact h1
  have h2 : s0.Kept s2 := by
    unfold s2
    split
    · exact .ite hq (.startTune (.completeJob (.modLo h1)))
    · exact .ite hq (.startTune h1)
  exact .ite_fst (.fst (.put h)) (.ite_fst (.fst (.put h)) (.ite_fst (.fst (.put (.takeTargets h))) (.fst h2)))

theorem startWaiting : s0.Kept s.startWaiting := by
  unfold State.startWaiting
  split
  · exact .ite (.showTune h) (.ite (.showTune (.endTune (.modLo h)))
      (.ite (.showTune (.endTune (.modLo h))) (.startTune (.put (.modLo h)))))
  · exact .showTune h

theorem switchQuads {qs i divs} : s0.Kept (s.switchQuads qs i divs) := by
  unfold State.switchQuads
  exact .refreshReady (.setSyn (.doIf (.forAll h fun _ _ h1 => .markCaptures
    (.setNcoQuad (.doIf (.modLo (.doIf (.put (.put h1)) fun _ h2 => .modLo (.setBand h2))) fun _ h2 => .raiseBit h2)))
    fun _ h1 => .forAll h1 fun _ _ h2 => .put h2))

theorem switchOver : s0.Kept s.switchOver := by
  unfold State.switchOver
  split
  · refine .ite ?_ h
    extract_lets +onlyGivenNames _ _ _
    split
    · exact .ite (.showTune (.doIf (.switchQuads (.modLo (.modSyn (.advanceTo h)))) fun _ h1 => .event h1)) h
    · exact h
  · refine .ite ?_ h
    extract_lets +onlyGivenNames _ _ _
    split
    · exact .switchQuads (.modLo (.modSyn (.advanceTo h)))
    · exact h

theorem transientEnd : s0.Kept s.transientEnd := by
  unfold State.transientEnd
  extract_lets +onlyGivenNames _
  split
  · exact .ite (.startWaiting (.finishTune (.doIf (.advanceTo h) fun _ h1 => .setSyn h1))) h
  · split
    · exact .startWaiting (.doIf (.modLo (.advanceTo h)) fun _ h1 => .setSyn h1)
    · exact h

theorem mirrorRecal : s0.Kept s.mirrorRecal := .ite (.calibrate h) h

theorem windowRetune : s0.Kept s.windowRetune := by
  unfold State.windowRetune
  split
  · refine .ite ?_ h
    extract_lets +onlyGivenNames _
    split
    · exact .ite (.finishTune (.advanceTo h)) (.showTune (.refreshReady (.modLo (.calibrate (.advanceTo h)))))
    · exact h
  · exact h

theorem tuneTimeout : s0.Kept s.tuneTimeout := by
  unfold State.tuneTimeout
  split
  · exact .ite (.startWaiting (.finishTune (.doIf (.advanceTo h) fun _ h1 => .ite (.modSyn h1) (.modSyn h1)))) h
  · exact h

theorem endRetune : s0.Kept s.endRetune := by
  unfold State.endRetune
  split
  · exact .ite (.startWaiting (.finishTune (.refreshReady (.modLo h)))) h
  · exact h

theorem bandSettled {q} : s0.Kept (s.bandSettled q) := by
  unfold State.bandSettled
  split
  · exact .endRetune (.refreshReady (.modLo (.advanceTo h)))
  · exact h

theorem lockServed {i} : s0.Kept (s.lockServed i) := by
  unfold State.lockServed
  exact .refreshReady (.setSyn (.forAll h fun _ _ h1 => .doIf h1 fun _ h2 => .setBand (.raiseBit h2)))

theorem synCalDone {i} : s0.Kept (s.synCalDone i) := by
  unfold State.synCalDone
  refine .ite ?_ h
  extract_lets +onlyGivenNames d1 _
  clear_value d1
  split
  · extract_lets +onlyGivenNames s1
    have hs1 : s0.Kept s1 := .modSyn (.setSyn (.presetSyn (.modSyn h)))
    refine .showTune ?_
    split
    · exact .modLo hs1
    · exact hs1
  · split
    · exact .endRetune (.switchQuads (.presetSyn (.modSyn h)))
    · exact .lockServed (.presetSyn (.modSyn h))
  · exact .setSyn (.presetSyn (.modSyn h))
  · exact .startWaiting (.calibrate (.switchQuads (.presetSyn (.modSyn h))))
  · exact .startWaiting (.lockServed (.presetSyn (.modSyn h)))
  · exact .modLo (.setSyn (.presetSyn (.modSyn h)))
  · exact .setSyn (.presetSyn (.modSyn h))
  · exact .lockServed (.presetSyn (.modSyn h))

theorem synCalTimeout {i} : s0.Kept (s.synCalTimeout i) := by
  unfold State.synCalTimeout
  split
  · refine .ite ?_ h
    extract_lets -underBinder _ job _ _ s1 _ _ _ s2 s3
    have h1 : s0.Kept s1 := .modSyn (.setSyn (.advanceTo h))
    have h2 : s0.Kept s2 := .doIf (.event (.report h1)) fun _ h => .report h
    have h3 : s0.Kept s3 := by
      unfold s3
      clear_value s2 job
      split
      · exact .finishTune h2
      · exact .finishTune (.modLo h2)
      · exact .ite (.calibrate h2) (.calibrate h2)
      · exact h2
    exact .startWaiting (.refreshReady h3)
  · exact h

theorem synUnlock {i} : s0.Kept (s.synUnlock i) := by
  unfold State.synUnlock
  extract_lets +onlyGivenNames _
  split
  extract_lets +onlyGivenNames _
  refine .ite ?_ (.ite (.calibrate (.modSyn (.count h))) (.count h))
  extract_lets +onlyGivenNames _ _ _ s1
  have hs1 : s0.Kept s1 := .modLo (.forAll (.count h) fun _ _ h1 => .clearBit h1)
  exact .ite (.calibrate (.event (.count (.refreshReady (.modLo (.switchQuads (.refreshReady (.setSyn hs1))))))))
    (.ite (.refreshReady (.calibrate (.modSyn (.setSyn hs1)))) (.refreshReady (.calibrate hs1)))

theorem loUnlock {id} : s0.Kept (s.loUnlock id) :=
  .ite (.synUnlock (.event (.report h))) (.refreshReady (.modLo (.clearBit (.event (.report h)))))

theorem loDrift {i} : s0.Kept (s.loDrift i) := by
  unfold State.loDrift
  refine .ite ?_ h
  extract_lets +onlyGivenNames s1
  have hs1 : s0.Kept s1 := .event (.showDrift (.modSyn h))
  exact .ite (.calibrate hs1) hs1

theorem relight : s0.Kept s.relight := by
  unfold State.relight
  exact .forAll h fun _ _ h1 => .doIf h1 fun _ h2 => .calibrate h2

theorem loDown {keep} : s0.Kept (s.loDown keep) := by
  unfold State.loDown
  extract_lets st close t1 t2 s1 s2
  have hc : ∀ t o, s0.Kept t → s0.Kept (close t o) := fun t o h1 => by
    cases o with
    | none => exact h1
    | some t => exact .endTune (.doIf h1 fun _ h2 => .takeTargets h2)
  have h2 : s0.Kept s2 := by
    unfold s2
    clear_value t1
    split
    · exact .doIf (.modLo h) fun _ h1 => .setNF h1
    · exact .modLo h
  exact .showTune (.refreshReady (.put (.offSyn (.offSyn (hc _ _ (hc _ _ h2))))))

theorem quadRelock {q} : s0.Kept (s.quadRelock q) := by
  unfold State.quadRelock
  exact .ite (.refreshReady (.setNcoQuad (.doIf (.raiseBit (.modLo h)) fun _ h1 => .setBand (.raiseBit h1)))) h

theorem endFailHold {qs} : s0.Kept (s.endFailHold qs) := .ite (.refreshReady (.modLo h)) h

theorem txLate {q frame} : s0.Kept (s.txLate q frame) := .ite (.count h) (.event (.modLo (.count h)))

theorem rxInvalid {q frame} : s0.Kept (s.rxInvalid q frame) := .ite (.count h) (.event (.modLo (.count h)))

theorem applyTrim {q} : s0.Kept (State.applyTrim q s) := .put (.put h)

theorem arrArm : s0.Kept s.arrArm.state := .ite_state (.refuse h) (.ok (.raise h))

theorem fixEpoch : s0.Kept s.fixEpoch := .frame h

theorem realign : s0.Kept s.realign := by
  unfold State.realign
  exact .showTune (.refreshReady (.forAll h fun _ _ h1 => .ite (.calibrate h1)
    (.ite (.forAll (.calibrate h1) fun _ _ h2 => .clearBit h2) (.ite (.calibrate h1) h1))))

theorem loArrsync : s0.Kept s.loArrsync := by
  unfold State.loArrsync
  exact .ite (.doIf (.modLo (.completeJob (.raise (.put (.fixEpoch h))))) fun _ h1 => .relight (.realign h1)) (.count h)

theorem loMode {split} : s0.Kept (s.loMode split).state :=
  .ite_state (.ok h) (.ite_state (.refuse h) (.ite_state (.ok (.put h)) (.ite_state (.ok (.put h)) (.refuse h))))

theorem assignSrc {q i} : s0.Kept (s.assignSrc q i) := by
  unfold State.assignSrc
  exact .refreshReady (.setNcoQuad (.doIf (.forAll (.doIf (.doIf (.modLo (.setBand (.put h))) fun _ h1 => .modLo h1)
    fun _ h1 => .clearBit h1) fun _ _ h1 => .doIf h1 fun _ h2 => .setSyn h2) fun _ h1 => .raiseBit h1))

theorem qloCfgWrite {q v} : s0.Kept (s.qloCfgWrite q v).state := by
  unfold State.qloCfgWrite
  exact .ite_state (.refuse h) (.ite_state (.refuse h) (.ok
    (.doIf (.doIf (.put (.put (.put h))) fun _ h1 => .assignSrc h1) fun _ h1 => .applyTrim h1)))

theorem loCtrlWrite {v} : s0.Kept (s.loCtrlWrite v).state := by
  unfold State.loCtrlWrite
  split
  · rename_i e
    exact .error (.of_error (.loMode h) e)
  · rename_i e
    exact .ite_state (.refuse h) (.ok (.put (.put (.doIf (.of_ok (.loMode h) e) fun _ h1 => .raise h1))))

theorem writeLO {r ix a v} : s0.Kept (Machine.writeLO r ix a v s).state := by
  unfold Machine.writeLO
  extract_lets +onlyGivenNames _
  split
  · exact .loCtrlWrite h
  · exact .qloCfgWrite h
  · exact .ite_state (.ok (.tuneGo h)) (.ok h)
  · exact .ite_state (.ok (.forAll (.setReg h) fun _ _ h1 => .setReg h1)) (.ok h)
  · exact .ok (.plainWrite h)

/-! ### Memories, checks, patrol, retirement -/

theorem modMem {f} : s0.Kept (s.modMem f) := .frame h

theorem setWord {w p} : s0.Kept (s.setWord w p) := .modMem h

theorem cancelWb {w} : s0.Kept (s.cancelWb w) := by
  unfold State.cancelWb
  split
  · exact .ite (.modMem h) h
  · exact h

theorem markWord {full w} : s0.Kept (State.markWord full w s) := by
  unfold State.markWord
  exact .setWord (.doIf (.cancelWb h) fun _ h1 => .modMem h1)

theorem storeMem {a l} : s0.Kept (s.storeMem a l) := by
  unfold State.storeMem
  exact .ite h (.forAll (.store h) fun _ _ h1 => .markWord h1)

theorem poisonWord {w} : s0.Kept (s.poisonWord w) := .setWord (.cancelWb h)

theorem clearMem {a n} : s0.Kept (s.clearMem a n) :=
  .of_files h rfl id id fun m => Memory.wf_filter _ _ m

theorem retireGo {b cmd} : s0.Kept (s.retireGo b cmd).1 := by
  unfold State.retireGo
  split
  · exact .fst (.put h)
  · exact .fst (.put (.modMem (.put (.put h))))

theorem autoRetire {b} : s0.Kept (s.autoRetire b) := .ite h (.modMem (.ite (.retireGo h) h))

theorem retireRecorded : s0.Kept s.retireRecorded := by
  unfold State.retireRecorded
  split
  · exact .ite (.retireGo h) h
  · exact h

theorem retireDone : s0.Kept s.retireDone := by
  unfold State.retireDone
  split
  · exact .retireRecorded (.completeJob (.event (.put (.modMem
      (.put (.put (.forAll (.advanceTo h) fun _ _ h1 => .doIf h1 fun _ h2 => .put h2)))))))
  · exact h

theorem retireAbort : s0.Kept s.retireAbort := by
  unfold State.retireAbort
  split
  · exact .completeJob (.put (.modMem (.setReg h)))
  · exact h

theorem countCe {m b} : s0.Kept (s.countCe m b) := by
  unfold State.countCe
  split
  · exact .count h
  · exact .count h
  · exact h

theorem logCe {m b w} : s0.Kept (s.logCe m b w) := by
  unfold State.logCe
  exact .doIf (.modMem h) fun _ h1 => .autoRetire h1

theorem queueWb {m b w} : s0.Kept (s.queueWb m b w) := .ite (.ite h (.ite (.modMem h) (.count h))) h

theorem readCheck {w f finder mid} : s0.Kept (s.readCheck w f finder mid).1 := by
  unfold State.readCheck
  split
  · extract_lets +onlyGivenNames _
    refine .ite_fst (.fst h) ?_
    split
    · exact .fst h
    · exact .fst (.logCe (.report (.modMem (.queueWb (.countCe h)))))
    · exact .fst (.doIf (.modMem (.event (.report (.count (.setWord (.cancelWb h)))))) fun _ h1 => .autoRetire h1)
  · exact .fst h

theorem publishCe : s0.Kept s.publishCe := by
  unfold State.publishCe
  exact .ite h (.forAll (.modMem h) fun _ _ h1 => .doIf h1 fun _ h2 => .event h2)

theorem patrolWrap {m b} : s0.Kept (s.patrolWrap m b) := .ite (.modMem (.count (.modMem h))) (.modMem h)

theorem patrolRead {m b f} : s0.Kept (s.patrolRead m b f) := by
  unfold State.patrolRead
  refine .ite h ?_
  extract_lets +onlyGivenNames _ s1
  have h1 : s0.Kept s1 := .modMem h
  clear_value s1
  split
  rename_i s2 _ e
  have h2 : s0.Kept s2 := by
    refine .of_fst ?_ e
    split
    · exact .fst h1
    · exact .fst (.patrolWrap h1)
  split
  · exact .readCheck (.modMem h2)
  · exact h2

theorem copyWord : s0.Kept s.copyWord := .modMem h

theorem maintenance {m b fabric f} : s0.Kept (s.maintenance m b fabric f) :=
  .ite (.copyWord (.advanceTo h)) (.ite (.modMem (.advanceTo h))
    (.ite (.patrolRead (.advanceTo h)) (.ite (.advanceTo h) (.ite (.patrolRead (.advanceTo h)) (.advanceTo h)))))

theorem mergeCheck {mid a n ecc} : s0.Kept (s.mergeCheck mid a n ecc) := by
  unfold State.mergeCheck
  refine .forAll h fun _ _ h1 => ?_
  split
  · exact .readCheck h1
  · exact h1

theorem mergeStore {mid a l ecc} : s0.Kept (s.mergeStore mid a l ecc) := .storeMem (.mergeCheck h)

/-! ### The digital front end -/

theorem modDfe {f} : s0.Kept (s.modDfe f) := .frame h

theorem noteCfr {q} : s0.Kept (State.noteCfr q s) := .frame h

theorem applyCfr {q} : s0.Kept (State.applyCfr q s) := by
  unfold State.applyCfr
  exact .noteCfr (.forAll (.apply (.apply (.put h))) fun _ _ h1 => .apply h1)

theorem applyGains {d cs} : s0.Kept (State.applyGains d cs s) := by
  unfold State.applyGains
  split <;> exact .apply h

theorem convHold {q} : s0.Kept (s.convHold q) := .settle (.frame h)

theorem convUnlock {q} : s0.Kept (s.convUnlock q) := .convHold (.event (.report (.modDfe (.raiseBit (.clearBit h)))))

theorem convRelock {q} : s0.Kept (s.convRelock q) := .ite (.raiseBit h) h

theorem convFrame : s0.Kept s.convFrame := by
  unfold State.convFrame
  exact .settle (.forAll h fun _ _ h1 => .ite (.frame h1) (.ite h1 (.doIf (.modDfe h1) fun _ h2 => .report (.frame h2))))

theorem modCap {k f} : s0.Kept (s.modCap k f) := .modDfe h

theorem setOrxBusy {k b} : s0.Kept (s.setOrxBusy k b) := .ite (.put h) h

theorem endCap {k st n} : s0.Kept (State.endCap k st n s) := by
  unfold State.endCap
  exact .completeJob (.raise (.put (.put (.modCap (.doIf (.doIf h fun _ h1 => .setOrxBusy (.storeMem h1))
    fun _ h1 => .freeNext h1)))))

theorem abortCap {k} : s0.Kept (State.abortCap k s) := .ite (.endCap h) (.ite (.endCap h) h)

theorem abortQuadCaps {q} : s0.Kept (State.abortQuadCaps q s) := by
  unfold State.abortQuadCaps
  exact .forAll h fun _ _ h1 => .doIf h1 fun _ h2 => .abortCap h2

theorem capGo {k cmd} : s0.Kept (s.capGo k cmd).state := by
  unfold State.capGo
  extract_lets +onlyGivenNames _ _ _
  refine .ite_state (.refuse h) (.ite_state (.ok h) ?_)
  extract_lets +onlyGivenNames s1
  have hs1 : s0.Kept s1 := .forAll h fun _ _ h1 => .put (.put (.setReg (.modCap h1)))
  exact .ok (.ite hs1 (.forAll hs1 fun _ _ h1 => .endCap h1))

theorem orxDrive {k} : s0.Kept (s.orxDrive k) := by
  unfold State.orxDrive
  extract_lets +onlyGivenNames _
  refine .ite ?_ h
  extract_lets +onlyGivenNames _ _
  split
  · exact .ite (.forAll (.advanceTo h) fun _ _ h1 => .modCap h1) (.modCap (.put (.advanceTo h)))
  · exact h

theorem runCap {k b l} : s0.Kept (State.runCap k b l s) := .setOrxBusy (.put (.put (.put (.put (.modCap h)))))

theorem captureStart {k l l2} : s0.Kept (s.captureStart k l l2) := by
  unfold State.captureStart
  extract_lets +onlyGivenNames _ _ _
  refine .ite ?_ h
  extract_lets +onlyGivenNames d4
  clear_value d4
  split
  · exact .doIf (.runCap (.advanceTo h)) fun _ h1 => .runCap h1
  · exact h

theorem captureDone {k} : s0.Kept (s.captureDone k) := by
  unfold State.captureDone
  split
  · exact .ite (.endCap (.advanceTo h)) h
  · exact h

theorem captureTimeout {k} : s0.Kept (s.captureTimeout k) := .ite (.endCap (.advanceTo h)) h

theorem capSwap : s0.Kept s.capSwap := by
  unfold State.capSwap
  refine .forAll h fun _ _ h1 => ?_
  extract_lets +onlyGivenNames _
  refine .ite ?_ h1
  split
  · exact .ite h1 (.endCap h1)
  · exact h1

theorem pbStart : s0.Kept s.pbStart.state := .ite_state (.refuse h) (.ok (.modDfe h))

theorem pbStopWrite : s0.Kept s.pbStopWrite := .modDfe h

theorem pbBoundary {b quads cycles} : s0.Kept (s.pbBoundary b quads cycles) :=
  .ite (.modDfe (.put h)) (.ite (.modDfe (.countBy (.modDfe (.put h)))) (.modDfe h))

theorem writeDFE {r ix a v} : s0.Kept (Machine.writeDFE r ix a v s).state := by
  unfold Machine.writeDFE
  extract_lets +onlyGivenNames _ _ _
  split
  · exact .rfCommit h
  · exact .ok (.doIf (.plainWrite h) fun _ h1 => .applyGains h1)
  · exact .ok (.doIf (.plainWrite h) fun _ h1 => .applyGains h1)
  · exact .ite_state (.refuse h) (.ok (.doIf (.plainWrite h) fun _ h1 => .applyCfr h1))
  · exact .ok (.doIf (.plainWrite h) fun _ h1 => .applyCfr h1)
  · exact .ok (.doIf (.plainWrite h) fun _ h1 => .applyCfr h1)
  · exact .ite_state (.refuse h) (.ok (.plainWrite h))
  · exact .ite_state (.ok (.forAll h fun _ _ h1 => .setReg (.setReg (.setReg h1)))) (.ok h)
  · extract_lets +onlyGivenNames s1
    have hs1 : s0.Kept s1 := .doIf (.plainWrite h) fun _ h1 => .abortCap h1
    refine .ite_state ?_ (.ok hs1)
    split
    · rename_i e
      exact .ok (.of_ok (.capGo hs1) e)
    · exact .refuse h
  · refine .ite_state (.refuse h) ?_
    extract_lets +onlyGivenNames s2
    have hs2 : s0.Kept s2 := .doIf h fun _ h1 => .pbStopWrite h1
    exact .ite_state (.pbStart hs2) (.ok hs2)
  · exact .ok (.plainWrite h)

/-! ### Downlink samples -/

theorem modSig {f} : s0.Kept (s.modSig f) := .frame h

theorem applyCarrier {d cs} : s0.Kept (State.applyCarrier d cs s) := .apply (.applyGains (.applyF0 (.applyRf h)))

theorem addWave {cs k n b} : s0.Kept (s.addWave cs k n b) := by
  unfold State.addWave
  exact .modSig (.doIf h fun _ h1 => .raiseBit h1)

theorem modPd {ch f} : s0.Kept (s.modPd ch f) := .frame h

theorem satQuad {f q n g} : s0.Kept (s.satQuad f q n g) := .ite h (.frame (.raiseBit h))

theorem ahead {b} : s0.Kept (s.ahead b) := by
  unfold State.ahead
  refine .forAll h fun _ _ h1 => ?_
  split
  · exact .ite (.addWave (.applyCarrier (.frame h1))) h1
  · exact h1

theorem txAdvance {b} : s0.Kept (State.txAdvance b s) := by
  unfold State.txAdvance
  exact .ite h (.ite (.modSig h) (.forAll (.modSig h) fun _ _ h1 => .modChain
    (.satQuad (.doIf (.modPd (.countBy (.countBy (.countBy (.countBy (.countBy (.satQuad h1))))))) fun _ h2 => .raise
    (.countChain h2)))))

/-! ### Predistortion -/

theorem pdRefuse {ch code} : s0.Kept (s.pdRefuse ch code).state := .error (.raise (.put h))

theorem pdErrors {ecc} : s0.Kept (s.pdErrors ecc) := .frame h

theorem pdRewrite {ch w} : s0.Kept (s.pdRewrite ch w) := .modPd (.frame h)

theorem loadBank {ch b} : s0.Kept (s.loadBank ch b).1 := by
  unfold State.loadBank
  exact .ite_fst (.fst (.modPd (.report (.raise h)))) (.fst (.forAll h fun _ _ h1 => .report (.count (.raise h1))))

theorem pdComplete {ch st done} : s0.Kept (s.pdComplete ch st done) := .completeJob (.modPd h)

theorem pdToSteady {ch} : s0.Kept (s.pdToSteady ch) := .modPd (.put (.put h))

theorem pdLoadGood {ch} : s0.Kept (State.pdLoadGood ch s) :=
  .pdComplete (.event (.ite (.pdToSteady (.put (.loadBank h))) (.put (.put (.pdToSteady (.loadBank h))))))

theorem pdRoll {ch reason} : s0.Kept (s.pdRoll ch reason) := by
  unfold State.pdRoll
  exact .modPd (.put (.put (.doIf h fun _ h1 => .put h1)))

theorem pdStop {ch} : s0.Kept (s.pdStop ch) := .pdComplete (.modPd (.put (.put (.put (.put (.put h))))))

theorem pdStart {ch} : s0.Kept (s.pdStart ch) :=
  .ite (.pdToSteady (.put (.put (.put (.loadBank (.modPd h)))))) (.event (.put (.loadBank (.modPd h))))

theorem pdFade {ch tgt st} : s0.Kept (s.pdFade ch tgt st) := by
  unfold State.pdFade
  extract_lets +onlyGivenNames _ _ s1
  have hs1 : s0.Kept s1 := .modPd (.put (.put (.put h)))
  exact .ite (.loadBank (.loadBank hs1)) (.modPd (.pdRoll (.loadBank (.loadBank hs1))))

theorem pdBandStart {ch} : s0.Kept (s.pdBandStart ch) := .ite (.put (.put (.modPd h))) (.pdFade (.put (.modPd h)))

theorem pdRepair {ch sy} : s0.Kept (s.pdRepair ch sy) :=
  .ite (.event (.report (.modPd (.put (.put (.modPd h))))))
    (.ite (.event (.report (.modPd (.raiseBit (.modPd h))))) (.event (.report (.put (.put (.raiseBit (.modPd h)))))))

theorem pdBoundary {ch} : s0.Kept (State.pdBoundary ch s) := by
  unfold State.pdBoundary
  extract_lets +onlyGivenNames s1 _
  have hs1 : s0.Kept s1 := by
    unfold s1
    split
    · exact .ite (.pdRepair h) h
    · exact h
  split
  · exact .pdStop hs1
  · exact .pdStart hs1
  · exact .ite (.pdLoadGood hs1) (.ite (.pdFade (.modPd (.doIf hs1 fun _ h1 => .put h1))) (.ite (.pdBandStart hs1) hs1))

theorem pdKick {ch} : s0.Kept (s.pdKick ch) := .ite (.pdBoundary (.pdBoundary (.pdBoundary h))) h

theorem pdEnWith {ch v pre} (k : ∀ t, s0.Kept t → s0.Kept (pre t)) : s0.Kept (s.pdEnWith ch v pre).state := by
  unfold State.pdEnWith
  exact .ite_state (.ite_state (.ok (.pdKick (.modPd (.put (k _ h))))) (.pdRefuse h))
    (.ite_state (.ok (.pdKick (.modPd (.put (k _ h))))) (.ok (k _ h)))

theorem pdEnWrite {ch v ecc} : s0.Kept (s.pdEnWrite ch v ecc).state := by
  unfold State.pdEnWrite
  exact .pdEnWith (.pdErrors h) fun _ h1 => h1

theorem pdGo {ch tgt cmd ecc} : s0.Kept (s.pdGo ch tgt cmd ecc).state := by
  unfold State.pdGo
  extract_lets +onlyGivenNames _
  split
  · exact .ok (.pdKick (.modPd (.put (.put (.doIf (.pdErrors h) fun _ h1 => .pdComplete h1)))))
  · exact .pdRefuse (.pdErrors h)

theorem pdForce {ch} : s0.Kept (s.pdForce ch) := .ite (.pdKick (.pdRoll h)) h

theorem pdPost {ch post} : s0.Kept (s.pdPost ch post) :=
  .ite (.pdKick (.pdRoll (.put h))) (.pdKick (.pdComplete (.event (.pdToSteady (.put (.put h))))))

theorem pdPostWrite {ch post} : s0.Kept (s.pdPostWrite ch post).state := .ite_state (.ok (.pdPost h)) (.pdRefuse h)

theorem fadeStep {ch} : s0.Kept (s.fadeStep ch) := by
  unfold State.fadeStep
  split
  · exact .ite (.modPd (.advanceTo h)) h
  · exact h

theorem fadeComplete {ch} : s0.Kept (s.fadeComplete ch) := by
  unfold State.fadeComplete
  split
  · exact .ite (.modPd (.put (.put (.txAdvance (.advanceTo h)))))
      (.ite (.pdKick (.pdToSteady (.put (.put (.put (.txAdvance (.advanceTo h))))))) h)
  · exact h

theorem verifyTimeout {ch} : s0.Kept (s.verifyTimeout ch) := .ite (.pdKick (.pdRoll (.advanceTo h))) h

theorem pdDiverge {cs ch} : s0.Kept (s.pdDiverge cs ch) := .ite (.pdRoll (.modPd h)) (.modPd h)

theorem pdPower {ch} : s0.Kept (State.pdPower ch s) :=
  .ite (.pdLoadGood (.pdRoll h)) (.ite (.pdLoadGood h) (.ite (.pdComplete (.put (.modPd h))) h))

theorem pdMismatch {ch} : s0.Kept (s.pdMismatch ch) := .ite (.raise h) (.pdKick (.modPd (.raise h)))

theorem bandEval {q num den} : s0.Kept (s.bandEval q num den) := by
  unfold State.bandEval
  exact .ite (.ite (.frame h) (.forAll (.event (.put (.frame h))) fun _ _ h1 => .ite h1
    (.ite (.pdKick (.modPd h1)) (.put h1)))) h

theorem writePD {r ix a v} : s0.Kept (Machine.writePD r ix a v s).state := by
  unfold Machine.writePD
  extract_lets +onlyGivenNames _ _ _ _
  split
  · exact .ok (.doIf (.plainWrite h) fun _ h1 => .frame h1)
  · exact .ite_state (.error (.raise (.forAll h fun _ _ h1 => .put h1))) (.ok (.plainWrite h))
  · exact .ite_state (.ok (.forAll (.put h) fun _ _ h1 => .setReg h1)) (.ok h)
  · exact .pdEnWith h fun _ h1 => .put (.put h1)
  · exact .ite_state (.pdRefuse h) (.ite_state (.pdRefuse h) (.ok (.plainWrite h)))
  · exact .ite_state (.pdRefuse h) (.ok (.plainWrite h))
  · extract_lets +onlyGivenNames s1 _
    have hs1 : s0.Kept s1 := .doIf h fun _ h1 => .pdForce h1
    refine .ite_state (.ok (.put hs1)) ?_
    split
    · rename_i e
      exact .ok (.of_ok (.pdGo hs1) e)
    · exact .pdRefuse h
  · exact .ite_state (.ok (.pdPost (.put h))) (.ite_state (.pdRefuse h) (.ok (.plainWrite h)))
  · exact .ite_state (.pdRefuse h) (.ok (.pdRewrite (.plainWrite h)))
  · exact .ite_state (.pdRefuse h) (.ok (.pdRewrite (.plainWrite h)))
  · exact .writeDFE h

/-! ### Carrier slots, the slot table, PRACH -/

theorem lpRefuse {code} : s0.Kept (s.lpRefuse code).state := .error (.raise (.put h))

theorem supersede {d cs} : s0.Kept (s.supersede d cs) := by
  unfold State.supersede
  split
  · exact .completeJob (.frame h)
  · exact h

theorem enQueue {d cs v cmd} : s0.Kept (s.enQueue d cs v cmd) := .frame (.put (.supersede h))

theorem csEnWrite {d cs v} : s0.Kept (s.csEnWrite d cs v).state := by
  unfold State.csEnWrite
  extract_lets +onlyGivenNames _
  refine .ite_state (.ok h) ?_
  split
  · exact .ok (.enQueue h)
  · exact .lpRefuse h

theorem enApply {d} : s0.Kept (State.enApply d s) := by
  unfold State.enApply
  exact .forAll h fun _ _ h1 => .ite h1 (.doIf (.put h1) fun _ h2 => .forAll h2 fun _ _ h3 => .setNco h3)

theorem enDone {d} : s0.Kept (State.enDone d s) := by
  unfold State.enDone
  exact .forAll (.frame h) fun _ _ h1 => .completeJob h1

theorem modSlot {f} : s0.Kept (s.modSlot f) := .frame h

theorem commitAt {c} : s0.Kept (s.commitAt c) := by
  unfold State.commitAt
  exact .modSlot (.put h)

theorem slotCommit : s0.Kept s.slotCommit := .ite h (.ite (.modSlot h) (.commitAt h))

theorem slotComplete {st sfn} : s0.Kept (s.slotComplete st sfn) := .completeJob (.modSlot h)

theorem cancelSwap : s0.Kept s.cancelSwap := .slotComplete (.modSlot (.put h))

theorem slotCancel : s0.Kept s.slotCancel.state := by
  unfold State.slotCancel
  refine .ite_state (.ok (.modSlot h)) ?_
  split
  · exact .ite_state (.ok (.cancelSwap h)) (.refuse h)
  · exact .ok h

theorem slotCheckDone : s0.Kept s.slotCheckDone := by
  unfold State.slotCheckDone
  split
  · extract_lets +onlyGivenNames _ _ d2 s1
    have hs1 : s0.Kept s1 := .modSlot (.put (.advanceTo h))
    clear_value d2
    split
    · extract_lets +onlyGivenNames _
      split
      · extract_lets +onlyGivenNames s2
        have hs2 : s0.Kept s2 := .modSlot (.put (.raise hs1))
        exact .ite (.complete hs2) (.reply (.unrun hs2))
      · exact .put (.raise hs1)
    · extract_lets +onlyGivenNames _ s3
      have hs3 : s0.Kept s3 := by
        unfold s3
        split
        · exact .ite (.modSlot (.put hs1)) (.modSlot (.reply (.modSlot (.put hs1))))
        · exact .modSlot (.put hs1)
      exact .doIf hs3 fun _ h1 => .cancelSwap h1
  · exact h

theorem slotCopy : s0.Kept s.slotCopy.state := .ite_state (.refuse h) (.ite_state (.ok h) (.ok (.modSlot (.put (.put h)))))

theorem slotCopyDone : s0.Kept s.slotCopyDone := by
  unfold State.slotCopyDone
  split
  · exact .doIf (.modSlot (.put (.forAll (.advanceTo h) fun _ _ h1 => .setReg h1))) fun _ h1 => .commitAt h1
  · exact h

theorem slotSwap {sfn} : s0.Kept (s.slotSwap sfn) := by
  unfold State.slotSwap
  split
  · exact .ite (.capSwap (.slotComplete (.event (.modSlot (.put (.put (.modSlot h))))))) h
  · exact h

theorem applyPrach {o} : s0.Kept (State.applyPrach o s) := by
  unfold State.applyPrach
  exact .forAll (.apply (.apply (.apply (.apply (.apply h))))) fun _ _ h1 => .apply h1

theorem prachWritten {o} : s0.Kept (s.prachWritten o) := by
  unfold State.prachWritten
  extract_lets +onlyGivenNames _
  split
  · exact .ite (.count (.frame (.storeMem (.advanceTo h)))) h
  · exact h

theorem applyFft {d cs} : s0.Kept (State.applyFft d cs s) := .apply h

theorem writeLP {r ix a v} : s0.Kept (Machine.writeLP r ix a v s).state := by
  unfold Machine.writeLP
  extract_lets +onlyGivenNames _ _ _ _ _ _ _
  split
  · exact .ite_state (.refuse h) (.ok (.plainWrite h))
  · exact .ite_state (.refuse h) (.ok (.plainWrite h))
  · split
    · rename_i e
      exact .error (.of_error (.ite_state (.slotCopy h) (.ok h)) e)
    · rename_i e
      have k := State.Kept.of_ok (.ite_state (.slotCopy h) (.ok h)) e
      split
      · rename_i e1
        exact .error (.of_error (.ite_state (.slotCancel k) (.ok k)) e1)
      · rename_i e1
        exact .ok (.doIf (.of_ok (.ite_state (.slotCancel k) (.ok k)) e1) fun _ h1 => .slotCommit h1)
  · split
    · exact .refuse h
    · exact .ok (.plainWrite h)
  · split
    · exact .refuse h
    · exact .ok (.plainWrite h)
  · exact .ite_state (.ok (.forAll (.setReg h) fun _ _ h1 => .setReg h1)) (.ok h)
  · extract_lets +onlyGivenNames _ _
    refine .ite_state (.lpRefuse h) ?_
    extract_lets +onlyGivenNames _
    split
    · rename_i e
      exact .ok (.of_ok (.csEnWrite (.put (.plainWrite h))) e)
    · exact .lpRefuse h
  · exact .ite_state (.lpRefuse h) (.ite_state (.refuse h) (.ok (.doIf (.plainWrite h) fun _ h1 => .applyFft h1)))
  · exact .f0Commit h
  · exact .ite_state (.lpRefuse h) (.ok (.plainWrite h))
  · exact .ite_state (.lpRefuse h) (.ok (.plainWrite h))
  · exact .ite_state (.lpRefuse h) (.ok (.plainWrite h))
  · exact .ok (.plainWrite h)

/-! ### Beamforming and steering -/

theorem modBf {f} : s0.Kept (s.modBf f) := .frame h

theorem bfRefuse {code} : s0.Kept (s.bfRefuse code).state := .error (.raise (.put h))

theorem applyShift {d cs} : s0.Kept (State.applyShift d cs s) := by
  unfold State.applyShift
  exact .modBf h

theorem showSteer : s0.Kept s.showSteer := .put (.put (.put h))

theorem steerStatus {j st} : s0.Kept (s.steerStatus j st) := by
  unfold State.steerStatus
  split
  · exact h
  · extract_lets +onlyGivenNames _
    split
    · exact .ite (.complete (.modBf (.modBf h))) (.modBf h)
    · exact .modBf h

theorem flipEnd {f st} : s0.Kept (s.flipEnd f st) := by
  unfold State.flipEnd
  split
  · exact h
  · exact .put h
  · exact .complete h

theorem supersedeBeam {id} : s0.Kept (s.supersedeBeam id) := by
  unfold State.supersedeBeam
  exact .forAll (.forAll (.modBf h) fun _ _ h1 => .flipEnd (.count h1)) fun _ _ h1 => .steerStatus (.flipEnd (.count h1))

theorem writeBeam {l} : s0.Kept (s.writeBeam l) := by
  unfold State.writeBeam
  extract_lets +onlyGivenNames _ _ s1
  have hs1 : s0.Kept s1 := .modBf (.storeMem (.supersedeBeam h))
  split
  · exact .steerStatus (.count hs1)
  · exact hs1

theorem loadBeam {l} : s0.Kept (s.loadBeam l) := .ite (.showSteer (.modBf (.supersedeBeam h))) (.showSteer (.writeBeam h))

theorem holdExpiry {id} : s0.Kept (s.holdExpiry id) := by
  unfold State.holdExpiry
  split
  · extract_lets +onlyGivenNames _
    split
    · exact .showSteer (.writeBeam (.modBf (.modBf (.advanceTo h))))
    · exact .modBf (.advanceTo h)
  · exact h

theorem flipBeam {f late} : s0.Kept (State.flipBeam f late s) := by
  unfold State.flipBeam
  exact .flipEnd (.doIf (.modBf (.putBit h)) fun _ h1 => .event (.count h1))

theorem planFlips {d cs k n} : s0.Kept (s.planFlips d cs k n) := by
  unfold State.planFlips
  exact .forAll h fun _ _ h1 => .flipBeam h1

theorem steerStart {r} : s0.Kept (State.steerStart r s) := by
  unfold State.steerStart
  exact .modBf (.countBy h)

theorem steerKick : s0.Kept s.steerKick := by
  unfold State.steerKick
  split
  · exact .ite (.showSteer (.steerStart (.modBf h))) (.showSteer h)
  · exact .showSteer h

theorem steerFinish {b} : s0.Kept (s.steerFinish b) := .loadBeam (.modBf (.countBy h))

theorem steerDeliver {b} : s0.Kept (s.steerDeliver b) := .ite (.modBf h) (.steerKick (.steerFinish h))

theorem steerDone : s0.Kept s.steerDone := by
  unfold State.steerDone
  split
  · exact .steerDeliver (.advanceTo h)
  · exact .steerKick h

theorem steerSubmit {r own} : s0.Kept (s.steerSubmit r own) := .ite (.steerKick (.modBf h)) (.count h)

theorem wsWrite {w v} : s0.Kept (s.wsWrite w v).state := by
  unfold State.wsWrite
  split
  · exact .ok (.forAll h fun _ _ h1 => .put h1)
  · exact .bfRefuse h

theorem setWrite {w v vec} : s0.Kept (s.setWrite w v vec).1 :=
  .ite_fst (.fst (.count h)) (.ite_fst (.fst h) (.fst (.storeMem h)))

theorem blGo : s0.Kept s.blGo := by
  unfold State.blGo
  extract_lets +onlyGivenNames _
  split
  · exact .put (.setWrite h)
  · exact .ite (.put h) (.loadBeam (.put (.supersedeBeam h)))
  · exact .put h

theorem geomWrite {v} : s0.Kept (s.geomWrite v).state :=
  .ite_state (.ok (.storeMem (.put h))) (.ite_state (.refuse h) (.bfRefuse h))

theorem beamDrain : s0.Kept s.beamDrain := by
  unfold State.beamDrain
  extract_lets +onlyGivenNames _ s1 _ s2 _ s3
  have hs1 : s0.Kept s1 := .forAll (.modBf h) fun _ _ h1 => .writeBeam h1
  have hs2 : s0.Kept s2 := by
    unfold s2
    split
    · exact .forAll (.modBf (.steerFinish hs1)) fun _ _ h1 => .writeBeam h1
    · exact hs1
  have hs3 : s0.Kept s3 := by
    unfold s3
    refine .forAll (.modBf hs2) fun _ _ h1 => ?_
    extract_lets +onlyGivenNames _
    split
    · exact .forAll (.modBf (.steerFinish (.steerStart h1))) fun _ _ h2 => .writeBeam h2
    · exact .steerStart h1
  exact .showSteer (.forAll hs3 fun _ _ h1 => .flipBeam h1)

theorem silence {a cs k} : s0.Kept (State.silence a cs k s) := .modBf h

theorem columnFail {a d cs k} : s0.Kept (s.columnFail a d cs k) := by
  unfold State.columnFail
  exact .ite (.count h) (.ite (.event (.report (.modBf (.forAll (.put (.put (.count h))) fun _ _ h1 => .silence h1))))
    (.ite (.event (.report (.modBf (.forAll (.raiseBit (.count h)) fun _ _ h1 => .silence h1))))
    (.event (.report (.modBf (.forAll (.put (.put (.raiseBit (.count h)))) fun _ _ h1 => .silence h1))))))

theorem columnTakeover {d cs} : s0.Kept (State.columnTakeover d cs s) := .modBf h

theorem beamsWritten {o} : s0.Kept (s.beamsWritten o) := by
  unfold State.beamsWritten
  extract_lets +onlyGivenNames _
  split
  · exact .ite (.frame (.frame (.countBy (.storeMem (.countBy (.advanceTo h)))))) h
  · exact h

theorem writeBF {r ix a v} : s0.Kept (Machine.writeBF r ix a v s).state := by
  unfold Machine.writeBF
  extract_lets +onlyGivenNames _ _ _
  split
  · exact .ok (.forAll (.plainWrite h) fun _ _ h1 => .doIf h1 fun _ h2 => .applyShift h2)
  · exact .ite_state (.bfRefuse h) (.ite_state (.bfRefuse h) (.ok (.doIf (.plainWrite h) fun _ h1 => .apply h1)))
  · exact .wsWrite h
  · exact .ite_state (.ok (.forAll h fun _ _ h1 => .setReg h1)) (.ok h)
  · exact .ok (.steerKick (.plainWrite h))
  · exact .ite_state (.ok (.steerSubmit h)) (.ok h)
  · exact .ite_state (.bfRefuse h) (.ok (.plainWrite h))
  · exact .ite_state (.bfRefuse h) (.ok (.plainWrite h))
  · exact .ite_state (.ok (.blGo h)) (.ok h)
  · exact .geomWrite h
  · exact .ok (.plainWrite h)

theorem steerResume : s0.Kept s.steerResume := by
  unfold State.steerResume
  split
  · exact .ite (.steerDeliver h) (.steerKick h)
  · exact .steerKick h

/-! ### Hedgerow ports -/

theorem modHg {p f} : s0.Kept (s.modHg p f) := .frame h

theorem setHg {p st} : s0.Kept (s.setHg p st) := .ite (.put (.put h)) (.frame (.put (.put h)))

theorem hgUp {p st} : s0.Kept (s.hgUp p st) := by
  unfold State.hgUp
  exact .event (.doIf (.setHg h) fun _ h1 => .settle (.frame h1))

theorem setLanes {p rx tx} : s0.Kept (s.setLanes p rx tx) := .put (.put (.put (.put h)))

theorem hgQuiet {p} : s0.Kept (s.hgQuiet p) := .modHg (.put (.setLanes h))

theorem treeLost {p} : s0.Kept (s.treeLost p) := .ite (.event h) h

theorem hgGoDown {p cause} : s0.Kept (s.hgGoDown p cause) := by
  unfold State.hgGoDown
  exact .treeLost (.report (.event (.doIf (.count (.put (.setHg (.hgQuiet h)))) fun _ h1 => .emit h1)))

theorem showCap {p} : s0.Kept (s.showCap p) := by
  unfold State.showCap
  exact .emit (.forAll h fun _ _ h1 => .setReg h1)

theorem hgToDetect {p} : s0.Kept (s.hgToDetect p) := .setHg (.hgQuiet h)

theorem hgStart {p} : s0.Kept (s.hgStart p) := by
  unfold State.hgStart
  exact .forAll (.modHg (.setHg (.hgQuiet h))) fun _ _ h1 => .put h1

theorem hgClock {p} : s0.Kept (s.hgClock p) := .ite (.hgStart h) h

theorem hgToLatfix {p} : s0.Kept (s.hgToLatfix p) := .emit (.setHg (.put h))

theorem hgSettle {p} : s0.Kept (s.hgSettle p) := by
  unfold State.hgSettle
  extract_lets +onlyGivenNames _
  split
  · exact .hgGoDown h
  · refine .ite (.hgGoDown h) ?_
    extract_lets +onlyGivenNames _
    refine .ite (.hgGoDown h) ?_
    extract_lets +onlyGivenNames s1
    have hs1 : s0.Kept s1 := .count (.setLanes (.put h))
    exact .ite (.hgToLatfix (.hgUp hs1)) (.put (.hgUp hs1))

theorem hgStep {p t} : s0.Kept (s.hgStep p t) := by
  unfold State.hgStep
  extract_lets +onlyGivenNames _
  refine .ite h ?_
  split
  · exact .put (.modHg h)
  · exact .ite (.showCap (.forAll (.modHg h) fun _ _ h1 => .setReg h1)) (.hgSettle h)
  · refine .ite ?_ h
    extract_lets +onlyGivenNames _ _
    split
    · exact .modHg (.modHg h)
    · exact .hgSettle (.modHg h)
  · exact h

theorem hgTrainTimeout {p} : s0.Kept (s.hgTrainTimeout p) :=
  .ite (.hgGoDown (.advanceTo h)) (.ite (.hgGoDown (.advanceTo h)) h)

theorem hgCap {p rec} : s0.Kept (s.hgCap p rec) := by
  unfold State.hgCap
  refine .ite h (.ite (.ite (.hgGoDown (.modHg h)) (.modHg h)) (.ite (.hgGoDown h) ?_))
  extract_lets +onlyGivenNames _ s1
  have hs1 : s0.Kept s1 := .forAll (.modHg h) fun _ _ h1 => .setReg h1
  exact .ite (.hgToLatfix hs1) hs1

theorem hgAligned : s0.Kept s.hgAligned := by
  unfold State.hgAligned
  exact .forAll h fun _ _ h1 => .doIf (.doIf h1 fun _ h2 => .showCap h2) fun _ h2 => .hgToLatfix h2

theorem hgFix {p delays} : s0.Kept (s.hgFix p delays) := .ite (.ite (.hgGoDown h) (.hgUp (.put (.put h)))) h

theorem laneErrors {p lane n} : s0.Kept (s.laneErrors p lane n) := .modHg (.countBy h)

theorem hgLaneFail {p lane n lost} : s0.Kept (s.hgLaneFail p lane n lost) :=
  .ite h (.ite (.hgGoDown h) (.ite (.ite (.laneErrors h)
    (.ite (.hgGoDown (.laneErrors h)) (.emit (.modHg (.laneErrors h))))) (.laneErrors h)))

theorem hgLaneDrop {p lanes instant} : s0.Kept (s.hgLaneDrop p lanes instant) := .ite (.emit (.modHg h)) h

theorem hgLaneAck {p lanes instant} : s0.Kept (s.hgLaneAck p lanes instant) := .modHg h

theorem hgAckTimeout {p} : s0.Kept (s.hgAckTimeout p) := by
  unfold State.hgAckTimeout
  split
  · exact .ite h (.hgGoDown (.advanceTo h))
  · exact h

theorem hgTryIdle {p} : s0.Kept (s.hgTryIdle p) := .ite (.emit (.modHg h)) h

theorem hgRepair {p} : s0.Kept (s.hgRepair p) := by
  unfold State.hgRepair
  extract_lets +onlyGivenNames x inst
  clear_value x inst
  split
  · exact h
  · extract_lets -underBinder _ s1 s2
    have h1 : s0.Kept s1 := by
      unfold s1
      split
      · exact .ite (.forAll (.modHg (.setLanes (.advanceTo h))) fun _ _ h1 => .report (.event (.count (.put h1))))
          (.advanceTo h)
      · exact .advanceTo h
    have h2 : s0.Kept s2 := by
      unfold s2
      split
      · exact .ite (.modHg (.setLanes h1)) h1
      · exact h1
    exact .hgTryIdle h2

theorem hgExit {p} : s0.Kept (s.hgExit p) := by
  unfold State.hgExit
  exact .ite (.doIf (.emit (.modHg (.setHg h))) fun _ h1 => .emit h1) (.emit (.hgToDetect h))

theorem hgEnterIdle {p} : s0.Kept (s.hgEnterIdle p) := by
  unfold State.hgEnterIdle
  exact .ite (.doIf (.modHg (.setHg (.doIf h fun _ h1 => .emit h1))) fun _ h1 => .hgExit h1) h

theorem hgIdleReq {p v} : s0.Kept (s.hgIdleReq p v).state :=
  .ite_state (.ite_state (.ok h) (.ite_state (.refuse h) (.ok (.hgTryIdle (.put h)))))
    (.ite_state (.ok (.put h)) (.ite_state (.ok (.hgExit (.put h))) (.ite_state (.ok (.modHg (.put h))) (.ok (.put h)))))

theorem hgBurst {p} : s0.Kept (s.hgBurst p) := .ite (.ite (.modHg h) (.hgExit h)) (.ite (.modHg h) (.ite (.modHg h) h))

theorem hgExitDone {p locked delays} : s0.Kept (s.hgExitDone p locked delays) :=
  .ite (.ite (.hgStart h) (.hgUp (.put (.count h)))) h

theorem hgFallow {p} : s0.Kept (State.hgFallow p s) := by
  unfold State.hgFallow
  exact .ite (.modHg (.setHg (.doIf h fun _ h1 => .emit h1))) (.ite (.setHg (.hgQuiet h)) h)

theorem hgWake {p} : s0.Kept (State.hgWake p s) := .ite (.hgExit h) h

theorem hgEnWrite {p v} : s0.Kept (s.hgEnWrite p v) :=
  .ite (.hgToDetect (.put h)) (.ite (.setHg (.hgQuiet (.put h))) (.put h))

theorem hgRetrain {p} : s0.Kept (s.hgRetrain p) := .ite h (.hgToDetect (.emit h))

theorem hgNotice {p} : s0.Kept (s.hgNotice p) := .ite h (.hgGoDown h)

theorem hgClockLost {p} : s0.Kept (s.hgClockLost p) := .ite (.hgGoDown (.advanceTo h)) h

theorem writeHGP {r ix a v} : s0.Kept (Machine.writeHGP r ix a v s).state := by
  unfold Machine.writeHGP
  extract_lets +onlyGivenNames _
  split
  · extract_lets +onlyGivenNames _ _ _
    refine .ite_state (.refuse h) ?_
    split
    · rename_i e
      exact .error (.of_error (.hgIdleReq h) e)
    · rename_i e
      exact .ok (.doIf (.hgEnWrite (.forAll (.of_ok (.hgIdleReq h) e) fun _ _ h1 => .put h1)) fun _ h1 => .hgRetrain h1)
  · exact .ite_state (.ok (.forAll (.setReg (.setReg h)) fun _ _ h1 => .setReg h1)) (.ok h)
  · exact .ok (.plainWrite h)

/-! ### Amplifier sequencing, aux DACs, fault inputs -/

theorem overlap {q} : s0.Kept (s.overlap q) := .ite (.count h) (.event (.frame (.count h)))

theorem biasEdge {ch} : s0.Kept (State.biasEdge ch s) :=
  .ite (.driveAdac (.latchClear (.loadAdac (.modAdac (.modChain (.modChain h)))))) (.modChain h)

theorem txOnEdge {ch} : s0.Kept (State.txOnEdge ch s) :=
  .ite (.modChain h) (.ite (.count (.modChain h)) (.ite (.modChain h)
    (.ite (.setTxon (.modChain h)) (.overlap (.modChain (.modChain h))))))

theorem rxOnEdge {ch} : s0.Kept (State.rxOnEdge ch s) := .ite h (.ite (.setRxon h) (.overlap (.modChain h)))

theorem restEdge {ch} : s0.Kept (State.restEdge ch s) := .ite (.loadAdac (.modChain h)) h

theorem waitedEdge {q tx} : s0.Kept (State.waitedEdge q tx s) := by
  unfold State.waitedEdge
  exact .forAll (.advanceTo h) fun _ _ h1 => .ite (.ite (.setTxon (.modChain h1)) h1) (.ite (.setRxon (.modChain h1)) h1)

theorem leaveEdge {q e x} : s0.Kept (s.leaveEdge q e x) := by
  unfold State.leaveEdge
  split
  · exact .forAll (.advanceTo h) fun _ _ h1 => .modChain (.setTxon h1)
  · exact .forAll (.advanceTo h) fun _ _ h1 => .restEdge h1
  · exact .forAll (.advanceTo h) fun _ _ h1 => .modChain (.setRxon h1)
  · exact h

theorem seqEdge {q e k} : s0.Kept (s.seqEdge q e k) := by
  unfold State.seqEdge
  extract_lets +onlyGivenNames _
  refine .ite ?_ ?_
  · split
    · exact .leaveEdge h
    · exact h
  · split
    · exact .ite (.forAll (.advanceTo h) fun _ _ h1 => .biasEdge h1) h
    · exact .ite (.forAll (.advanceTo h) fun _ _ h1 => .txOnEdge h1) h
    · exact .ite (.forAll (.advanceTo h) fun _ _ h1 => .modChain (.setTxon h1)) h
    · exact .ite (.forAll (.advanceTo h) fun _ _ h1 => .restEdge h1) h
    · exact .ite (.forAll (.advanceTo h) fun _ _ h1 => .rxOnEdge h1) h
    · exact .ite (.forAll (.advanceTo h) fun _ _ h1 => .modChain (.setRxon h1)) h
    · exact .waitedEdge h
    · exact .waitedEdge h

theorem pinsOff : s0.Kept s.pinsOff := by
  unfold State.pinsOff
  exact .forAll h fun _ _ h1 => .modChain (.setRxon (.setTxon h1))

theorem seqEnWrite {v} : s0.Kept (s.seqEnWrite v) := .ite (.frame (.put h)) (.ite (.pinsOff (.put h)) (.put h))

theorem applyProfiles : s0.Kept s.applyProfiles := by
  unfold State.applyProfiles
  exact .forAll (.frame h) fun _ _ h1 => .apply h1

theorem strobe {n code} : s0.Kept (s.strobe n code) := .loadAdac (.modAdac h)

theorem strobeGroup {g} : s0.Kept (s.strobeGroup g) := by
  unfold State.strobeGroup
  exact .forAll h fun _ _ h1 => .strobe h1

theorem adacLd {m} : s0.Kept (s.adacLd m) := by
  unfold State.adacLd
  exact .forAll (.advanceTo h) fun _ _ h1 => .strobeGroup h1

theorem adacCode {n code} : s0.Kept (s.adacCode n code).state := by
  unfold State.adacCode
  exact .ite_state (.refuse h) (.ok (.doIf (.put h) fun _ h1 => .strobe (.advanceTo h1)))

theorem adacLock : s0.Kept s.adacLock := by
  unfold State.adacLock
  exact .ite h (.forAll (.put h) fun _ _ h1 => .driveAdac (.modAdac h1))

theorem clrN {v} : s0.Kept (s.clrN v) := .settle (.put h)

theorem holdDone {n} : s0.Kept (s.holdDone n) := by
  unfold State.holdDone
  split
  · exact .put (.modAdac (.advanceTo h))
  · exact h

theorem modInput {i f} : s0.Kept (s.modInput i f) := .frame h

theorem showInput {i} : s0.Kept (s.showInput i) := .ite (.putBit (.put h)) (.put h)

theorem trackActive {i} : s0.Kept (s.trackActive i) := .modInput h

theorem paLine {g v} : s0.Kept (s.paLine g v) := .frame h

theorem paFault {g} : s0.Kept (s.paFault g) := .report (.event (.settle (.raise (.paLine h))))

theorem maskInput {i} : s0.Kept (s.maskInput i) :=
  .ite (.ite (.raise (.showInput h)) (.paFault (.showInput h))) (.showInput h)

theorem chatter {i} : s0.Kept (s.chatter i) :=
  .ite h (.ite (.report (.event (.maskInput (.put (.modInput h))))) (.modInput h))

theorem followLine {g} : s0.Kept (s.followLine g) := .ite (.settle (.paLine h)) h

theorem inputEdge {i level} : s0.Kept (s.inputEdge i level) := by
  unfold State.inputEdge
  extract_lets +onlyGivenNames _
  refine .ite (.modInput h) ?_
  extract_lets +onlyGivenNames _ s1 _ _ _
  have hs1 : s0.Kept s1 := .showInput (.trackActive (.count (.modInput (.modInput h))))
  exact .chatter (.doIf (.ite (.ite (.paFault hs1) (.followLine hs1)) hs1) fun _ h1 => .event h1)

theorem chatterEnd {i} : s0.Kept (s.chatterEnd i) := by
  unfold State.chatterEnd
  split
  · exact .modInput (.advanceTo h)
  · exact h

theorem inputStuck {i} : s0.Kept (s.inputStuck i) := by
  unfold State.inputStuck
  extract_lets +onlyGivenNames _
  split
  · exact .ite h (.report (.event (.maskInput (.put (.advanceTo h)))))
  · exact h

theorem rearm {i} : s0.Kept (s.rearm i) := by
  unfold State.rearm
  extract_lets +onlyGivenNames _ _ s1
  have hs1 : s0.Kept s1 := .showInput (.trackActive (.modInput (.put (.put h))))
  exact .ite (.doIf (.followLine hs1) fun _ h1 => .settle (.paLine h1)) hs1

theorem faultClear {i} : s0.Kept (s.faultClear i).state := by
  unfold State.faultClear
  exact .ite_state (.ok h) (.ite_state (.refuse h) (.ok (.doIf (.put h) fun _ h1 => .settle (.paLine h1))))

theorem writePA {r ix a v} : s0.Kept (Machine.writePA r ix a v s).state := by
  unfold Machine.writePA
  extract_lets +onlyGivenNames _ _ _
  split
  · exact .ok (.seqEnWrite (.put h))
  · exact .ok (.doIf h fun _ h1 => .adacLock h1)
  · exact .ok (.doIf h fun _ h1 => .adacLd h1)
  · exact .ok (.doIf h fun _ h1 => .forAll (.setReg h1) fun _ _ h2 => .put h2)
  · exact .ite_state (.refuse h) (.ok (.plainWrite h))
  · extract_lets +onlyGivenNames _
    refine .ite_state (.refuse h) ?_
    extract_lets +onlyGivenNames _ _ s1
    have hs1 : s0.Kept s1 := .showInput (.trackActive (.ite (.put (.plainWrite h)) (.plainWrite h)))
    exact .ok (.ite (.followLine hs1) hs1)
  · split
    · rename_i e
      exact .error (.of_error (.ite_state (.faultClear h) (.ok h)) e)
    · rename_i e
      exact .ok (.doIf (.of_ok (.ite_state (.faultClear h) (.ok h)) e) fun _ h1 => .rearm h1)
  · extract_lets +onlyGivenNames _ _ _ _
    refine .ite_state (.refuse h) (.ite_state (.refuse h) ?_)
    extract_lets +onlyGivenNames _ s2
    have hs2 : s0.Kept s2 := .doIf (.put h) fun _ h1 => .put h1
    exact .ok (.ite hs2 (.put hs2))
  · exact .adacCode h
  · exact .ok (.ite h (.driveAdac (.plainWrite h)))
  · exact .ok (.plainWrite h)

/-! ### Device time -/

theorem modTm {f} : s0.Kept (s.modTm f) := .frame h

theorem modServo {x f} : s0.Kept (s.modServo x f) := .modTm h

theorem grade : s0.Kept s.grade := by
  unfold State.grade
  exact .doIf (.put h) fun _ h1 => .modTm h1

theorem setTime {t c} : s0.Kept (s.setTime t c) := .modTm h

theorem tuSnap : s0.Kept s.tuSnap := .setReg (.setReg (.setReg (.setReg h)))

theorem domainSwitch {x} : s0.Kept (s.domainSwitch x) := .ite h (.event (.grade (.put h)))

theorem showServo {x} : s0.Kept (s.showServo x) := .put (.put h)

theorem servoTake {x e} : s0.Kept (s.servoTake x e) := by
  unfold State.servoTake
  exact .ite h (.ite (.count h) (.doIf (.grade (.put (.showServo (.count (.modServo h))))) fun _ h1 => .event h1))

theorem servoWrite {x e} : s0.Kept (s.servoWrite x e) := .ite h (.servoTake h)

theorem srvCfg {x v} : s0.Kept (s.srvCfg x v).state := by
  unfold State.srvCfg
  exact .ite_state (.error h) (.ok (.grade (.showServo (.put (.modServo (.forAll h fun _ _ h1 => .put h1))))))

theorem holdover {x} : s0.Kept (s.holdover x) := by
  unfold State.holdover
  exact .ite (.doIf (.doIf (.doIf (.grade (.showServo (.put (.modServo (.advanceTo h))))) fun _ h1 => .event h1)
    fun _ h1 => .event h1) fun _ h1 => .domainSwitch h1) h

theorem tuStep : s0.Kept s.tuStep.1 :=
  .ite_fst (.fst (.raise h)) (.ite_fst (.fst (.servoTake (.raise h))) (.ite_fst (.fst h) (.fst (.modTm h))))

theorem stepApply : s0.Kept s.stepApply := by
  unfold State.stepApply
  split
  · exact .event (.grade (.doIf (.raise (.modTm (.setTime (.advanceTo h)))) fun _ h1 => .put h1))
  · exact h

theorem forceValid : s0.Kept s.forceValid := .modTm h

theorem freqSlew : s0.Kept s.freqSlew := by
  unfold State.freqSlew
  exact .modTm (.tickTo h)

theorem vcDrive : s0.Kept s.vcDrive := by
  unfold State.vcDrive
  exact .ite (.strobe (.modTm (.doIf (.put (.put (.put h))) fun _ h1 => .event h1))) h

theorem vcUpdate : s0.Kept s.vcUpdate := .vcDrive (.tickTo h)

theorem vcEnWrite {v} : s0.Kept (s.vcEnWrite v) := by
  unfold State.vcEnWrite
  exact .doIf (.put (.put h)) fun _ h1 => .vcDrive h1

theorem synceLost : s0.Kept s.synceLost := .ite h (.ite (.event (.modTm (.put h))) h)

theorem synceGate {ferr} : s0.Kept (s.synceGate ferr) :=
  .ite (.ite (.synceLost (.put (.tickTo h))) (.ite (.showServo (.modServo (.put (.put (.tickTo h)))))
    (.put (.put (.tickTo h))))) h

theorem ppsOutEdge : s0.Kept s.ppsOutEdge := .ite (.modTm (.emit (.tickTo h))) (.tickTo h)

theorem ppsInEdge {eighth} : s0.Kept (s.ppsInEdge eighth) := by
  unfold State.ppsInEdge
  extract_lets +onlyGivenNames _
  refine .ite (.count h) ?_
  extract_lets +onlyGivenNames _ _ s1
  have hs1 : s0.Kept s1 := .put (.put (.count (.modTm h)))
  exact .ite (.servoTake hs1) hs1

theorem tmFallow : s0.Kept s.tmFallow := .modTm h

theorem tmWake {err} : s0.Kept (s.tmWake err) := .driveAdac (.put (.put (.put (.modTm (.setTime h)))))

theorem writeTU {r ix a v} : s0.Kept (Machine.writeTU r ix a v s).state := by
  unfold Machine.writeTU
  extract_lets +onlyGivenNames _ _
  split
  · exact .ite_state (.error h) (.ite_state (.ok (.tuStep h))
      (.ok (.doIf (.doIf (.doIf (.domainSwitch (.doIf (.modTm (.forAll h fun _ _ h1 => .put h1)) fun _ h1 => .put h1))
      fun _ h1 => .tuSnap h1) fun _ h1 => .forceValid h1) fun _ h1 => .tuStep h1)))
  · exact .srvCfg h
  · exact .ok (.servoWrite h)
  · exact .ok (.vcEnWrite (.forAll h fun _ _ h1 => .put h1))
  · exact .ite_state (.error h) (.ok (.plainWrite h))
  · exact .ite_state (.error h) (.ok (.plainWrite h))
  · exact .ok (.doIf h fun _ h1 => .forAll h1 fun _ _ h2 => .setReg h2)
  · exact .ok (.plainWrite h)

/-! ### The host port -/

theorem setLink {e up} : s0.Kept (s.setLink e up) := .ite h (.event (.putBit h))

theorem linkChange {e pcs fec} : s0.Kept (s.linkChange e pcs fec) := .setLink (.putBit h)

theorem portsDown : s0.Kept s.portsDown := by
  unfold State.portsDown
  exact .forAll h fun _ _ h1 => .linkChange h1

theorem ethrefLoss : s0.Kept s.ethrefLoss := .portsDown (.put h)

theorem rxDrop {e} : s0.Kept (s.rxDrop e) := .count h

theorem forward {l res room to1} : s0.Kept (s.forward l res room to1) := by
  unfold State.forward
  refine .ite (.count h) (.ite h ?_)
  split
  extract_lets +onlyGivenNames s1
  have hs1 : s0.Kept s1 := by
    unfold s1
    split
    · exact .count h
    · exact h
  exact .ite (.emit (.count hs1)) (.emit (.count hs1))

theorem hp1Forward {l res room} : s0.Kept (s.hp1Forward l res room) :=
  .ite h (.ite (.rxDrop (.count h)) (.forward (.count h)))

theorem modLq {e f} : s0.Kept (s.modLq e f) := .frame h

theorem sendFrame {e t x} : s0.Kept (s.sendFrame e t x) := by
  unfold State.sendFrame
  exact .doIf (.emit (.count (.frame h))) fun _ h1 => .emit h1

theorem launchOne {e x} : s0.Kept (s.launchOne e x) := by
  unfold State.launchOne
  exact .ite (.count h) (.ite (.sendFrame (.doIf h fun _ h1 => .count h1)) (.sendFrame h))

theorem launch {e} : s0.Kept (s.launch e) := by
  unfold State.launch
  split
  · exact .launchOne (.modLq (.advanceTo h))
  · exact h

theorem lqDrop : s0.Kept s.lqDrop := by
  unfold State.lqDrop
  exact .forAll h fun _ _ h1 => .modLq (.countBy h1)

theorem lqResult {st} : s0.Kept (s.lqResult st) := .put h

theorem lqPost : s0.Kept s.lqPost := by
  unfold State.lqPost
  exact .ite (.lqResult h) (.ite (.lqResult h) (.ite (.modLq (.lqResult h))
    (.doIf (.count (.lqResult h)) fun _ h1 => .launchOne h1)))

theorem hpCtrl {v} : s0.Kept (s.hpCtrl v).state := by
  unfold State.hpCtrl
  exact .ite_state (.refuse h) (.ok (.doIf (.forAll h fun _ _ h1 => .put h1) fun _ h1 => .portsDown h1))

/-! ### The section plane on ingress -/

theorem modSp {f} : s0.Kept (s.modSp f) := .frame h

theorem tellSession {x} : s0.Kept (s.tellSession x) := by
  unfold State.tellSession
  exact .ite h (.forAll h fun _ _ h1 => .doIf h1 fun _ h2 => .emit h2)

theorem tellPort {p} : s0.Kept (s.tellPort p) := .ite h (.frame (.emit h))

theorem setSess {x st} : s0.Kept (s.setSess x st) := .tellSession (.putBit (.putBit (.put h)))

theorem sendSide {p kind dst src l} : s0.Kept (s.sendSide p kind dst src l) := by
  unfold State.sendSide
  exact .forAll (.doIf h fun _ h1 => .tellPort h1) fun _ _ h1 => .emit h1

theorem oncePerFrame {l i set f} (ks : ∀ l t, s0.Kept t → s0.Kept (set l t)) (k : ∀ t, s0.Kept t → s0.Kept (f t)) :
    s0.Kept (s.oncePerFrame l i set f) :=
  .ite h (k _ (ks _ _ h))

theorem putHeader {a tag kind port map} : s0.Kept (s.putHeader a tag kind port map) := by
  unfold State.putHeader
  exact .storeMem (.doIf h fun _ h1 => .storeMem h1)

theorem orHeader {a l} : s0.Kept (s.orHeader a l) := .storeMem h

theorem clearMap {a} : s0.Kept (s.clearMap a) := .storeMem h

theorem landRow {cs k n row k0 ps l} : s0.Kept (s.landRow cs k n row k0 ps l) := .putHeader (.storeMem h)

theorem dropNotOwner {d cs} : s0.Kept (s.dropNotOwner d cs) := by
  unfold State.dropNotOwner
  exact .oncePerFrame (.count h) (fun _ _ h1 => .modSp h1) fun _ h1 => .event h1

theorem sessGate {d cs src} : s0.Kept (s.sessGate d cs src).2 :=
  .ite_snd (.snd (.dropNotOwner h)) (.ite_snd (.snd (.count h)) (.ite_snd (.snd (.dropNotOwner h)) (.snd h)))

theorem windowGate {d cs w} : s0.Kept (s.windowGate d cs w).2 := by
  unfold State.windowGate
  exact .ite_snd (.snd (.oncePerFrame (.count h) (fun _ _ h1 => .modSp h1) fun _ h1 => .event h1))
    (.ite_snd (.snd (.oncePerFrame (.count h) (fun _ _ h1 => .modSp h1) fun _ h1 => .event h1)) (.snd h))

theorem seqCheck {ty id n} : s0.Kept (s.seqCheck ty id n) := by
  unfold State.seqCheck
  extract_lets +onlyGivenNames _ s1
  have hs1 : s0.Kept s1 := by
    unfold s1
    split
    · exact .doIf h fun _ h1 => .count h1
    · exact h
  exact .modSp hs1

theorem badHdr : s0.Kept s.badHdr := .count h

theorem iqMessage {src m} : s0.Kept (s.iqMessage src m) := by
  unfold State.iqMessage
  extract_lets +onlyGivenNames _ _ _ _ _ _
  refine .ite (.badHdr h) ?_
  extract_lets +onlyGivenNames _ _ _ _ _ _
  refine .ite (.badHdr (.seqCheck h)) (.ite (.count (.seqCheck h)) ?_)
  split
  · rename_i e
    exact (.of_snd (.sessGate (.seqCheck h)) e)
  · rename_i e
    have k := State.Kept.of_snd (.sessGate (.seqCheck h)) e
    extract_lets +onlyGivenNames _
    split
    · rename_i e1
      exact (.of_snd (.windowGate k) e1)
    · rename_i e1
      have k1 := State.Kept.of_snd (.windowGate k) e1
      exact .ite (.count k1) (.landRow (.countBy (.countBy k1)))

theorem showStore : s0.Kept s.showStore := .put h

theorem weightsExt {d cs k n own body} : s0.Kept (s.weightsExt d cs k n own body) := by
  unfold State.weightsExt
  extract_lets +onlyGivenNames _ _ d3 _ _ _ _
  refine .ite h (.ite (.count h) ?_)
  clear_value d3
  split
  · exact .setWrite h
  · exact .ite (.count h) (.loadBeam h)
  · exact h

theorem steerExt {d cs own body} : s0.Kept (s.steerExt d cs own body) := .ite (.count h) (.steerSubmit h)

theorem extensions {d cs k n own fuel l} : s0.Kept (State.extensions d cs k n own fuel l s).1 := by
  induction fuel generalizing l s with
  | zero => exact h
  | succ fuel ih =>
    unfold State.extensions
    refine .ite_fst (.fst h) ?_
    extract_lets +onlyGivenNames _ _ _ s1
    have h1 : s0.Kept s1 := by
      unfold s1
      split
      · exact .steerExt h
      · exact .weightsExt h
      · exact .count h
    exact .ite_fst (ih h1) (.fst h1)

theorem records {d cs k n num own left l} : s0.Kept (State.records d cs k n num own left l s) := by
  induction left generalizing l s with
  | zero => exact h
  | succ left ih =>
    unfold State.records
    refine .ite (.countBy h) ?_
    extract_lets +onlyGivenNames _ _ _ _ _ _ _ s1
    have h1 : s0.Kept s1 := .ite (.count h) (.ite (.count h) (.showStore (.modSp h)))
    clear_value s1
    exact ih (.ite_fst (.extensions h1) (.fst h1))

theorem sectMessage {src m} : s0.Kept (s.sectMessage src m) := by
  unfold State.sectMessage
  extract_lets +onlyGivenNames _
  split
  · exact .badHdr (.doIf h fun _ h1 => .seqCheck h1)
  · split
    · rename_i e
      exact (.of_snd (.sessGate (.seqCheck h)) e)
    · rename_i e
      have k := State.Kept.of_snd (.sessGate (.seqCheck h)) e
      extract_lets +onlyGivenNames _
      split
      · rename_i e1
        exact (.of_snd (.windowGate k) e1)
      · rename_i e1
        exact .forAll (.records (.of_snd (.windowGate k) e1)) fun _ _ h1 => .sendSide h1

theorem sectForwarded {m} : s0.Kept (s.sectForwarded m) := by
  unfold State.sectForwarded
  split
  · exact h
  · exact .ite (.oncePerFrame (.countBy h) (fun _ _ h1 => .frame h1) fun _ h1 => .event h1) (.records h)

theorem badRef {d cs} : s0.Kept (s.badRef d cs) := by
  unfold State.badRef
  exact .oncePerFrame (.count h) (fun _ _ h1 => .modBf h1) fun _ h1 => .event h1

omit h in
theorem planItem {d cs layer p0 p1 ref} {acc : State × List PlanItem} (h : s0.Kept acc.1) :
    s0.Kept (State.planItem d cs layer p0 p1 ref acc).1 := by
  unfold State.planItem
  split
  · exact h
  · exact .badRef h

theorem makePlan {d cs k n} : s0.Kept (s.makePlan d cs k n) := by
  unfold State.makePlan
  exact .modBf (.foldl_fst (.foldl_fst (.fst h) fun _ _ h1 => .ite_fst h1 (.planItem h1)) fun _ _ h1 => .planItem h1)

theorem retireRecords {d cs k n} : s0.Kept (s.retireRecords d cs k n) := .showStore (.modSp h)

theorem planInstant {d cs} : s0.Kept (s.planInstant d cs) := by
  unfold State.planInstant
  refine .ite h ?_
  split
  extract_lets +onlyGivenNames _ _ s1
  have hs1 : s0.Kept s1 := .forAll (.modBf (.advanceTo h)) fun _ _ h1 => .doIf h1 fun _ h2 => .planFlips h2
  exact .ite hs1 (.steerKick (.retireRecords (.makePlan (.planFlips hs1))))

theorem bfPoison {d cs n layer prb word} : s0.Kept (s.bfPoison d cs n layer prb word) := by
  unfold State.bfPoison
  exact .oncePerFrame h (fun _ _ h1 => .modBf h1) fun _ h1 => .report (.event h1)

theorem eccReads {l} : s0.Kept (s.eccReads l) := by
  unfold State.eccReads
  exact .forAll h fun _ _ h1 => .readCheck h1

theorem weightPoison {p d cs f} (k : ∀ layer prb w t, s0.Kept t → s0.Kept (f layer prb w t)) :
    s0.Kept (s.weightPoison p d cs f) := by
  unfold State.weightPoison
  refine .forAll h fun _ _ h1 => ?_
  extract_lets +onlyGivenNames _ bad _
  clear_value bad
  split
  · exact k _ _ _ _ (.countBy h1)
  · exact .countBy h1

theorem readout {cs ecc} : s0.Kept (s.readout cs ecc) := by
  unfold State.readout
  extract_lets +onlyGivenNames _ _
  split
  · exact h
  · extract_lets +onlyGivenNames _ _ _ _ _
    refine .ite (.forAll (.modSp (.advanceTo h)) fun _ _ h1 => .clearMap h1) ?_
    extract_lets +onlyGivenNames _ _ s1 _ _ _ _ _ _
    have hs1 : s0.Kept s1 := by
      unfold s1
      refine .forAll (.eccReads (.modSp (.advanceTo h))) fun _ _ h1 => ?_
      extract_lets +onlyGivenNames _ d9 _
      clear_value d9
      split
      · exact .bfPoison (.countBy h1)
      · exact .countBy h1
    exact .forAll (.modBf (.countBy (.weightPoison hs1 fun _ _ _ _ h1 => .bfPoison h1))) fun _ _ h1 => .clearMap h1

theorem clearRing {cs} : s0.Kept (s.clearRing cs) := by
  unfold State.clearRing
  exact .forAll h fun _ _ h1 => .forAll h1 fun _ _ h2 => .clearMap h2

/-! ### Uplink samples -/

theorem rxChain {b l} : s0.Kept (State.rxChain b l s) := by
  unfold State.rxChain
  exact .satQuad (.modSig (.showEst (.modChain (.countClips h))))

theorem rxTake {b l} : s0.Kept (State.rxTake b l s) := by
  unfold State.rxTake
  exact .forAll h fun _ _ h1 => .rxChain h1

theorem putUlSym {u} : s0.Kept (s.putUlSym u) := .modSig h

theorem transform {u} : s0.Kept (s.transform u).1 := by
  unfold State.transform
  split
  · exact .fst h
  · exact .fst (.putUlSym (.forAll h fun _ _ h1 => .doIf (.satQuad (.satQuad h1)) fun _ h2 => .raiseBit h2))

theorem pruneSig : s0.Kept s.pruneSig := by
  unfold State.pruneSig
  exact .modSig h

theorem prachOccasion {o l} : s0.Kept (s.prachOccasion o l) := .ite (.rxTake h) (.frame (.countBy (.rxTake (.advanceTo h))))

/-! ### The cascade -/

theorem modCasc {f} : s0.Kept (s.modCasc f) := .frame h

theorem linkShort {p} : s0.Kept (s.linkShort p) := by
  unfold State.linkShort
  exact .ite h (.doIf (.modCasc (.raiseBit h)) fun _ h1 => .event h1)

theorem linkFits {swapped} : s0.Kept (s.linkFits swapped) := by
  unfold State.linkFits
  exact .forAll h fun _ _ h1 => .doIf h1 fun _ h2 => .clearBit h2

theorem planCommit {f cmd} : s0.Kept (s.planCommit f cmd).1 := by
  unfold State.planCommit
  split
  · extract_lets +onlyGivenNames _ _ s1
    have hs1 : s0.Kept s1 := by
      unfold s1
      split
      · exact .completeJob (.put h)
      · exact .put h
    exact .fst (.modCasc (.put hs1))
  · exact .fst (.put h)

theorem planCancel : s0.Kept s.planCancel.state := by
  unfold State.planCancel
  split
  · exact .ite_state (.ok (.completeJob (.modCasc (.put h)))) (.refuse h)
  · exact .ok h

theorem planSwap : s0.Kept s.planSwap := by
  unfold State.planSwap
  split
  · exact .ite (.completeJob (.doIf (.doIf (.modCasc (.put (.put (.put (.modCasc h))))) fun _ h1 => .event h1)
      fun _ h1 => .settle (.frame h1))) h
  · exact h

theorem laneRepair {p} : s0.Kept (s.laneRepair p) := .linkShort (.hgRepair h)

theorem storeBins {y u} : s0.Kept (s.storeBins y u) := by
  unfold State.storeBins
  exact .forAll h fun _ _ h1 => .storeMem (.doIf h1 fun _ h2 => .putHeader h2)

theorem binPoison {y u} : s0.Kept (s.binPoison y u).1 := by
  unfold State.binPoison
  exact .foldl_fst (.fst h) fun _ _ h1 => .fst (.doIf (.countBy h1) fun _ h2 => .orHeader (.putHeader h2))

theorem flushChild {k} : s0.Kept (s.flushChild k) := by
  unfold State.flushChild
  exact .ite h (.modCasc (.forAll h fun _ _ h1 => .doIf h1 fun _ h2 => .report (.event h2)))

theorem unitMissing {p cs n a} : s0.Kept (s.unitMissing p cs n a) := by
  unfold State.unitMissing
  extract_lets +onlyGivenNames s1 _
  have hs1 : s0.Kept s1 := by
    unfold s1
    split
    · exact .count h
    · exact .modCasc (.count h)
    · exact h
  exact .doIf (.doIf hs1 fun _ h1 => .modCasc (.count h1)) fun _ h1 => .modCasc (.count h1)

theorem stageUnit {cs k n u p rows} : s0.Kept (s.stageUnit cs k n u p rows) := by
  unfold State.stageUnit
  exact .forAll h fun _ _ h1 => .putHeader (.storeMem h1)

theorem putSum {f} : s0.Kept (s.putSum f) := .modCasc h

theorem finishSum {f} : s0.Kept (s.finishSum f) := by
  unfold State.finishSum
  extract_lets +onlyGivenNames _ _ _ _
  refine .ite ?_ (.putSum h)
  extract_lets +onlyGivenNames _
  split
  · exact .doIf (.modCasc h) fun _ h1 => .emit h1
  · exact .modCasc h

theorem unitAdd {cs k n u l kids ecc} : s0.Kept (s.unitAdd cs k n u l kids ecc) := by
  unfold State.unitAdd
  extract_lets +onlyGivenNames _
  split
  · exact h
  · refine .ite h ?_
    extract_lets +onlyGivenNames _ _
    split
    rename_i e
    extract_lets +onlyGivenNames _ _ _ s1 _
    have hs1 : s0.Kept s1 := by
      unfold s1
      refine .forAll (.storeBins (.flushChild (.of_fst (.transform (.rxTake (.advanceTo h))) e))) fun _ _ h1 => ?_
      split
      split
      · exact .stageUnit h1
      · exact .unitMissing h1
    split
    rename_i e1
    have k1 := State.Kept.of_fst (.binPoison (.eccReads hs1)) e1
    extract_lets +onlyGivenNames d12 s5 _ _ _ _ _ _ s6 _ s7
    have hs5 : s0.Kept s5 := by
      unfold s5
      clear_value d12
      split
      · exact .doIf k1 fun _ h1 => .weightPoison h1 fun _ _ _ _ h2 => h2
      · exact k1
    have hs6 : s0.Kept s6 := by
      unfold s6
      split
      · exact .countBy (.countBy hs5)
      · exact .countBy hs5
    have hs7 : s0.Kept s7 := by
      unfold s7
      split
      · exact .doIf hs6 fun _ h1 => .emit h1
      · exact hs6
    exact .finishSum hs7

theorem sumCheck {p cs k n layer hdr ok flags} : s0.Kept (s.sumCheck p cs k n layer hdr ok flags) := by
  unfold State.sumCheck
  extract_lets +onlyGivenNames s1
  have hs1 : s0.Kept s1 := .doIf h fun _ h1 => .count h1
  split
  · extract_lets +onlyGivenNames _
    refine .ite ?_ hs1
    extract_lets +onlyGivenNames s2 _ _ s3 _
    have hs2 : s0.Kept s2 := .doIf hs1 fun _ h1 => .count h1
    have hs3 : s0.Kept s3 := by
      unfold s3
      split
      · exact .doIf hs2 fun _ h1 => .orHeader h1
      · exact hs2
    exact .finishSum hs3
  · exact hs1

theorem broadcast {cs k n} : s0.Kept (s.broadcast cs k n) := by
  unfold State.broadcast
  exact .ite h (.forAll (.doIf (.countBy (.advanceTo h)) fun _ h1 => .oncePerFrame h1 (fun _ _ h2 => .modSp h2)
    fun _ h2 => .event h2) fun _ _ h1 => .emit (.forAll h1 fun _ _ h2 => .emit h2))

theorem bcastLand {cs k n u b data} : s0.Kept (s.bcastLand cs k n u b data) := by
  unfold State.bcastLand
  exact .forAll (.forAll h fun _ _ h1 => .emit h1) fun _ _ h1 => .landRow h1

theorem bcastUnit {cs k n u header rows checks} : s0.Kept (s.bcastUnit cs k n u header rows checks) := by
  unfold State.bcastUnit
  split
  · exact h
  · refine .ite h ?_
    extract_lets +onlyGivenNames _ _ s1
    have hs1 : s0.Kept s1 := .doIf h fun _ h1 => .count h1
    refine .ite (.ite (.forAll hs1 fun _ _ h1 => .emit h1) hs1) ?_
    split
    · exact .bcastLand hs1
    · exact .bcastLand (.count hs1)

theorem prachSum {o kids bad hdr} : s0.Kept (s.prachSum o kids bad hdr) := by
  unfold State.prachSum
  split
  · extract_lets +onlyGivenNames _ _ _
    split
    extract_lets +onlyGivenNames _ _
    refine .forAll (.countBy (.forAll (.advanceTo h) fun _ _ h1 => .count h1)) fun _ _ h1 => ?_
    extract_lets +onlyGivenNames _ _ _ _ _ _ s1 _ s2
    have hs1 : s0.Kept s1 := by
      unfold s1
      split
      · exact .countBy h1
      · exact h1
    have hs2 : s0.Kept s2 := .modCasc (.storeMem hs1)
    split
    · exact .doIf hs2 fun _ h2 => .emit h2
    · exact hs2
  · exact h

theorem daReceive {uid da} : s0.Kept (s.daReceive uid da) := by
  unfold State.daReceive
  exact .ite h (.forAll (.put (.put h)) fun _ _ h1 => .showCap h1)

theorem timeFault {d} : s0.Kept (s.timeFault d) := .report (.event (.grade (.raise (.put h))))

theorem slewBy {d} : s0.Kept (s.slewBy d) := .modTm (.setTime h)

theorem timeFrame {value traceable} : s0.Kept (s.timeFrame value traceable) := by
  unfold State.timeFrame
  refine .ite h ?_
  extract_lets +onlyGivenNames _ _ s1 _
  have hs1 : s0.Kept s1 := .modTm (.modCasc (.put h))
  exact .ite (.grade (.put (.slewBy hs1))) (.ite (.grade (.put (.setTime hs1))) (.timeFault hs1))

theorem timeTimeout : s0.Kept s.timeTimeout := .ite (.timeFault h) h

theorem upTimeout : s0.Kept s.upTimeout := .ite (.settle (.frame h)) h

theorem cascFrame : s0.Kept s.cascFrame := by
  unfold State.cascFrame
  extract_lets +onlyGivenNames _ _ s1
  have hs1 : s0.Kept s1 := .forAll (.linkFits (.planSwap h)) fun _ _ h1 => .sendSide h1
  exact .ite (.modCasc hs1) hs1

theorem writeCasc {r ix a v} : s0.Kept (Machine.writeCasc r ix a v s).state := by
  unfold Machine.writeCasc
  extract_lets +onlyGivenNames _ _
  split
  · extract_lets +onlyGivenNames _ _
    split
    rename_i t _ e
    have h1 : s0.Kept t := .of_fst (.ite_fst (.planCommit h) (.fst h)) e
    refine .ite_state (.error h1) (.ite_state ?_ (.ok (.put (.put h1))))
    split
    · rename_i e1
      exact .ok (.put (.put (.of_ok (.planCancel h1) e1)))
    · exact .refuse h
  · exact .ite_state (.refuse h) (.ok (.plainWrite h))
  · exact .ite_state (.refuse h) (.ok (.plainWrite h))
  · exact .ite_state (.refuse h) (.ok (.plainWrite h))
  · exact .ok (.doIf h fun _ h1 => .forAll h1 fun _ _ h2 => .setReg h2)
  · exact .writeHGP h

/-! ### Uplink compression and launch -/

theorem nextSeq {id} : s0.Kept (s.nextSeq id).2 := .snd (.modSp h)

theorem postUplink {cs port at0 first l} : s0.Kept (s.postUplink cs port at0 first l) := .ite (.count h) (.modLq h)

theorem burstPost {cs k n} : s0.Kept (s.burstPost cs k n) := by
  unfold State.burstPost
  split
  · exact .ite h (.ite (.modCasc (.advanceTo h)) (.forAll (.modCasc (.advanceTo h)) fun _ _ h1 => .postUplink
      (.nextSeq (.countBy h1))))
  · exact h

theorem prachLaunch {o} : s0.Kept (s.prachLaunch o) := by
  unfold State.prachLaunch
  split
  · exact h
  · exact .ite (.advanceTo h) (.forAll (.advanceTo h) fun _ _ h1 => .postUplink (.nextSeq (.countBy h1)))

theorem writeHP {r ix a v} : s0.Kept (Machine.writeHP r ix a v s).state := by
  unfold Machine.writeHP
  extract_lets +onlyGivenNames _ _ _
  split
  · exact .hpCtrl h
  · exact .ok (.doIf h fun _ h1 => .forAll h1 fun _ _ h2 => .setReg h2)
  · exact .ite_state (.refuse h) (.ok (.plainWrite h))
  · exact .ok (.doIf h fun _ h1 => .lqPost h1)
  · exact .ite_state (.refuse h) (.ok (.plainWrite h))
  · exact .ok (.doIf h fun _ h1 => .forAll h1 fun _ _ h2 => .setReg h2)
  · exact .ite_state (.refuse h) (.ok (.doIf (.plainWrite h) fun _ h1 => .apply h1))
  · exact .ite_state (.refuse h) (.ok (.doIf (.plainWrite h) fun _ h1 => .apply h1))
  · exact .ok (.plainWrite h)

theorem applyUlFmt {cs} : s0.Kept (State.applyUlFmt cs s) := .apply (.apply h)

/-! ### Array calibration -/

theorem modCal {f} : s0.Kept (s.modCal f) := .frame h

theorem saveDrifts : s0.Kept s.saveDrifts := .storeMem h

theorem loadDrifts : s0.Kept s.loadDrifts := by
  unfold State.loadDrifts
  exact .put (.forAll h fun _ _ h1 => .setReg (.setReg h1))

theorem moveCorr {d ch} : s0.Kept (s.moveCorr d ch).1 := by
  unfold State.moveCorr
  extract_lets _ _ _ _ _ _ _ _ s1
  have h1 : s0.Kept s1 := .doIf h fun _ h1 => .freeNext h1
  exact .ite_fst (.fst h) (.ite_fst (.fst h1) (.fst (.storeMem h1)))

theorem writeTargets {q} : s0.Kept (State.writeTargets q s) := by
  unfold State.writeTargets
  exact .ite (.doIf (.put (.put (.forAll h fun _ _ h1 => .doIf
    (.doIf (.showSlewing (.put (.put (.put (.put (.put (.put h1))))))) fun _ h2 => .applyTx h2) fun _ h2 => .applyRx h2)))
    fun _ h1 => .applyTrim h1) h

theorem loadTables {q} : s0.Kept (State.loadTables q s) := by
  unfold State.loadTables
  exact .ite (.forAll h fun _ _ h1 => .askDcoLoad h1) h

theorem chooseFp {q} : s0.Kept (State.chooseFp q s) := by
  unfold State.chooseFp
  refine .ite ?_ h
  split
  · exact .loadTables (.writeTargets (.modCal (.clearBit (.put h))))
  · exact .event (.raiseBit h)

theorem moveSwitch : s0.Kept s.moveSwitch := .ite h (.put (.put h))

theorem releaseSwitch : s0.Kept s.releaseSwitch := .ite h (.put (.put h))

theorem calWatch : s0.Kept s.calWatch := by
  unfold State.calWatch
  split
  · exact .ite (.modCal (.doIf h fun _ h1 => .forAll h1 fun _ _ h2 => .setStale h2)) h
  · exact h

theorem calNext {j c} : s0.Kept (s.calNext j c) := by
  unfold State.calNext
  exact .modCal h

theorem endCalJob {st} : s0.Kept (s.endCalJob st) := by
  unfold State.endCalJob
  split
  · exact .completeJob (.saveDrifts (.put (.put (.releaseSwitch
      (.modCal (.doIf (.forAll h fun _ _ h1 => .setStale h1) fun _ h1 => .put h1))))))
  · exact h

theorem drifts {kind l} : s0.Kept (s.drifts kind l) := by
  unfold State.drifts
  extract_lets +onlyGivenNames _ _ _ _ _ s1 _ _ _
  have hs1 : s0.Kept s1 := by
    unfold s1
    refine .forAll h fun _ _ h1 => ?_
    split
    split
    · exact .ite h1 (.setReg h1)
    · exact h1
  exact .freeNext (.doIf (.countBy hs1) fun _ h1 => .event h1)

theorem refineBy {kind m} : s0.Kept (s.refineBy kind m) := .writeTargets (.ite (.modCal (.modCal h)) (.modCal h))

theorem calTake {j l mean} : s0.Kept (s.calTake j l mean) := by
  unfold State.calTake
  extract_lets -underBinder _ s1 _ _ s2 j' s3 s4
  have h3 : s0.Kept s3 := .modCal (.doIf (.forAll h fun _ _ h1 => .setStale h1) fun _ h1 => .forAll h1
    fun _ _ h2 => .refineBy h2)
  have h4 : s0.Kept s4 := by
    unfold s4
    clear_value s3 j'
    split
    · exact .drifts h3
    · exact .drifts h3
    · exact .doIf (.forAll (.put h3) fun _ _ h1 => .writeTargets h1) fun _ h1 => .freeNext h1
    · exact .put h3
    · exact h3
  exact .ite (.endCalJob h4) (.calNext h3)

theorem calPost {l mean} : s0.Kept (s.calPost l mean) := by
  unfold State.calPost
  split
  · extract_lets +onlyGivenNames _ s1
    have hs1 : s0.Kept s1 := .doIf h fun _ h1 => .moveSwitch h1
    refine .ite hs1 (.ite (.calNext hs1) ?_)
    split
    · exact .ite (.calNext (.count (.forAll (.advanceTo hs1) fun _ _ h1 => .setStale h1))) (.calTake (.advanceTo hs1))
    · exact hs1
  · exact h

theorem calTimeout : s0.Kept s.calTimeout := by
  unfold State.calTimeout
  split
  · exact .endCalJob (.ite (.drifts (.advanceTo h)) (.advanceTo h))
  · exact h

theorem calGo {j} : s0.Kept (s.calGo j).1 := by
  unfold State.calGo
  split
  · extract_lets +onlyGivenNames _ _ _ _ s1 _
    have hs1 : s0.Kept s1 := .calNext (.doIf (.doIf (.put (.put h)) fun _ h1 => .put h1) fun _ h1 => .moveSwitch h1)
    exact .fst (.ite (.endCalJob hs1) (.calWatch hs1))
  · exact .fst (.put (.doIf h fun _ h1 => .raise h1))

theorem calAbort : s0.Kept s.calAbort := .endCalJob h

theorem calSwitched {qs} : s0.Kept (s.calSwitched qs) := by
  unfold State.calSwitched
  extract_lets +onlyGivenNames s1
  have hs1 : s0.Kept s1 := .forAll h fun _ _ h1 => .chooseFp h1
  split
  · exact .ite (.endCalJob hs1) (.calWatch hs1)
  · exact hs1

theorem startCheck {cmd} : s0.Kept (s.startCheck cmd) := .modCal h

theorem calEnWrite {v cmd} : s0.Kept (s.calEnWrite v cmd) := by
  unfold State.calEnWrite
  exact .ite (.startCheck (.doIf (.put h) fun _ h1 => .put h1))
    (.completeJob (.forAll (.calAbort (.modCal (.put h))) fun _ _ h1 => .complete h1))

theorem checkDone : s0.Kept s.checkDone := by
  unfold State.checkDone
  split
  · exact .ite (.forAll (.forAll (.ite (.put (.modCal h)) (.modCal (.loadDrifts (.put (.modCal h)))))
      fun _ _ h1 => .chooseFp h1) fun _ _ h1 => .complete h1)
      (.forAll (.event (.report (.put (.put (.modCal h))))) fun _ _ h1 => .complete h1)
  · exact h

theorem calRecheck : s0.Kept s.calRecheck := .ite (.startCheck (.put (.put h))) (.put h)

theorem factoryCommit : s0.Kept s.factoryCommit := by
  unfold State.factoryCommit
  exact .saveDrifts (.setReg (.forAll (.modCal h) fun _ _ h1 => .setReg (.setReg h1)))

theorem calTemp {q} : s0.Kept (State.calTemp q s) := by
  unfold State.calTemp
  exact .doIf (.writeTargets (.put (.put (.modCal h)))) fun _ h1 => .loadTables h1

theorem calFrame : s0.Kept s.calFrame := by
  unfold State.calFrame
  refine .ite ?_ h
  extract_lets +onlyGivenNames s1
  have h1 : s0.Kept s1 := .forAll h fun _ _ h1 => .calTemp h1
  split
  rename_i e
  exact .calWatch (.doIf (.of_fst (.foldl_fst (.fst h1) fun _ _ h2 => .ite_fst (.fst (.moveCorr h2)) h2) e)
    fun _ h2 => .event h2)

theorem writeCAL {r _ix a v} : s0.Kept (Machine.writeCAL r _ix a v s).state := by
  unfold Machine.writeCAL
  extract_lets +onlyGivenNames _
  split
  · exact .ite_state (.refuse h) (.ite_state (.refuse h) (.ok (.plainWrite h)))
  · exact .ok (.calEnWrite h)
  · exact .ite_state (.refuse h) (.ok (.plainWrite h))
  · extract_lets +onlyGivenNames s1
    have hs1 : s0.Kept s1 := .doIf h fun _ h1 => .calAbort h1
    exact .ok (.ite (.calGo hs1) hs1)
  · exact .ok (.doIf h fun _ h1 => .setReg h1)
  · exact .ok (.plainWrite h)

/-! ### Arbitration and stiles -/

theorem modFab {f} : s0.Kept (s.modFab f) := .frame h

theorem arbitrate {t reqs} : s0.Kept (s.arbitrate t reqs).1 := by
  unfold State.arbitrate
  extract_lets +onlyGivenNames d1 _ _
  clear_value d1
  split <;> exact .fst (.modFab h)

theorem setStile {i st mid} : s0.Kept (s.setStile i st mid) := .put (.put h)

theorem stileRead {mid i} : s0.Kept (s.stileRead mid i).1 := by
  unfold State.stileRead
  split
  · exact .fst (.setStile h)
  · exact .fst (.setStile h)
  · exact .ite_fst (.fst h) (.fst h)

theorem stileRefuse : s0.Kept s.stileRefuse := .count h

theorem stileRelease {mid i} : s0.Kept (s.stileRelease mid i) := .ite (.setStile h) (.stileRefuse h)

theorem stileClean {mid i} : s0.Kept (s.stileClean mid i) := .ite (.setStile h) (.stileRefuse h)

theorem stileBreak {i} : s0.Kept (State.stileBreak i s) := .ite (.event (.report (.count (.setStile h)))) h

theorem breakStiles {mid} : s0.Kept (s.breakStiles mid) := by
  unfold State.breakStiles
  exact .forAll h fun _ _ h1 => .stileBreak h1

/-! ### States of a Flior core -/

theorem modFlior {n f} : s0.Kept (s.modFlior n f) := .frame h

theorem setFd {n st} : s0.Kept (s.setFd n st) := .put h

theorem fdRebase {n} : s0.Kept (State.fdRebase n s) := .modFlior h

theorem showCycle {n c} : s0.Kept (s.showCycle n c) := .put h

theorem fdStart {n resume} : s0.Kept (s.fdStart n resume) :=
  .ite (.setFd (.showCycle (.ite (.modFlior h) (.put (.modFlior h))))) (.raise h)

theorem fdHalt {n} : s0.Kept (s.fdHalt n) := .ite (.ite (.setFd (.modFlior h)) (.modFlior h)) h

theorem fdReset {n} : s0.Kept (s.fdReset n) :=
  .ite (.raise h) (.breakStiles (.showCycle (.setReg (.setReg (.put (.setFd (.setReg (.modFlior h))))))))

theorem fdFault {n cause addr} : s0.Kept (s.fdFault n cause addr) := by
  unfold State.fdFault
  extract_lets +onlyGivenNames _ s1 _ _
  have hs1 : s0.Kept s1 := by
    unfold s1
    split
    · exact .put (.setFd (.put h))
    · exact .setFd (.put h)
  exact .breakStiles (.event (.report (.modFlior hs1)))

theorem fdFreeze {n} : s0.Kept (s.fdFreeze n) := .setFd (.modFlior h)

theorem fdPoison {n a} : s0.Kept (s.fdPoison n a) := .report (.raise (.ite h (.put h)))

theorem fdDoorbell {n m} : s0.Kept (s.fdDoorbell n m) := .ite (.setFd (.modFlior (.put h))) (.put h)

theorem fdWatchdog {n} : s0.Kept (s.fdWatchdog n) := .ite (.fdFault (.showCycle (.advanceTo h))) h

theorem lockWindows {n b} : s0.Kept (s.lockWindows n b) := by
  unfold State.lockWindows
  exact .forAll h fun _ _ h1 => .put h1

theorem fdMode {n customer mailbox} : s0.Kept (s.fdMode n customer mailbox) :=
  .ite (.raise h) (.ite (.modFlior h) (.lockWindows (.modFlior (.put (.setReg (.clearMem h))))))

theorem fdSessionClosed {x} : s0.Kept (s.fdSessionClosed x) := by
  unfold State.fdSessionClosed
  exact .forAll h fun _ _ h1 => .modFlior (.put (.clearMem (.ite (.setFd (.modFlior h1)) h1)))

theorem fdFallow : s0.Kept s.fdFallow := by
  unfold State.fdFallow
  exact .forAll h fun _ _ h1 => .ite (.raise (.setFd (.modFlior h1))) h1

theorem writeFD {m r ix a v} : s0.Kept (Machine.writeFD m r ix a v s).state := by
  unfold Machine.writeFD
  extract_lets +onlyGivenNames _
  split
  · extract_lets +onlyGivenNames _ s1
    have hs1 : s0.Kept s1 := .ite (.fdHalt (.ite (.fdReset h) h)) (.ite (.fdReset h) h)
    exact .ok (.ite (.fdStart hs1) hs1)
  · exact .ok (.fdDoorbell h)
  · exact .ok (.put h)
  · exact .ite_state (.ok h) (.ite_state (.refuse h) (.ok (.fdMode h)))
  · exact .ok (.plainWrite h)

/-! ### Access windows and DMA channels -/

theorem modDma {c f} : s0.Kept (s.modDma c f) := .modFab h

theorem setDc {c st} : s0.Kept (s.setDc c st) := .putBit (.put h)

theorem dcGo {c} : s0.Kept (s.dcGo c) := .setDc h

theorem dcIrq {c} : s0.Kept (s.dcIrq c) := .raiseBit h

theorem dcEnd {c status} : s0.Kept (s.dcEnd c status) := by
  unfold State.dcEnd
  split
  · exact .doIf (.put (.count (.ite h (.ite (.storeMem h) (.storeMem h))))) fun _ h1 => .dcIrq h1
  · exact h

theorem dcStop {c status st} : s0.Kept (s.dcStop c status st) := .setDc (.modDma (.dcEnd h))

theorem dmaAbort {c} : s0.Kept (s.dmaAbort c) := .ite (.dcStop h) h

theorem dcAdvance {c dst p n} : s0.Kept (s.dcAdvance c dst p n).1 := by
  unfold State.dcAdvance
  split
  · refine .ite_fst (.fst h) (.ite_fst ?_ (.fst h))
    split
    exact .fst (.doIf (.doIf h fun _ h1 => .raise h1) fun _ h1 => .dcIrq h1)
  · exact .fst h

/-! ### Violations, freezes, DMA control -/

theorem freezeMaster {mid} : s0.Kept (s.freezeMaster mid) :=
  .ite (.fdFreeze h) (.ite (.ite (.dcStop h) (.modDma h)) (.ite (.ite (.setSess h) h) (.ite (.calAbort h) h)))

theorem freeze {mid cause addr} : s0.Kept (s.freeze mid cause addr) :=
  .ite (.report h) (.ite h (.breakStiles (.freezeMaster (.event (.raiseBit (.report h))))))

theorem unfreeze {mid} : s0.Kept (s.unfreeze mid) :=
  .ite (.ite (.setFd (.clearBit h)) (.clearBit h)) (.ite (.ite (.setDc (.clearBit h)) (.clearBit h))
    (.ite (.ite (.setSess (.clearBit h)) (.clearBit h)) (.clearBit h)))

theorem settled {mid} : s0.Kept (s.settled mid) := .modFm h

theorem crossingSlip {c} : s0.Kept (s.crossingSlip c) := by
  unfold State.crossingSlip
  extract_lets +onlyGivenNames _ _
  split
  · exact .convHold (.event (.report (.raiseBit h)))
  · exact .hgGoDown (.event (.report (.raiseBit h)))
  · exact .ite (.settled (.freeze (.event (.report (.raise h))))) (.modFm (.event (.report (.raise h))))
  · exact .ite h (.ite (.settled (.freeze (.event (.report (.raise h))))) (.modFm (.event (.report (.raise h)))))
  · exact .ite (.settled (.freeze (.event (.report (.raise h))))) (.modFm (.event (.report (.raise h))))

theorem dcLoad {c} : s0.Kept (s.dcLoad c) := by
  unfold State.dcLoad
  extract_lets +onlyGivenNames _
  split
  · extract_lets +onlyGivenNames _ _ _ _ s1
    have h1 : s0.Kept s1 := .modDma (.put (.put (.put h)))
    exact .ite (.dcStop h1) (.dcGo h1)
  · exact .freeze (.modDma h)

theorem dmaGo {c} : s0.Kept (s.dmaGo c).state := .ite_state (.refuse h) (.ok (.dcLoad h))

theorem dmaResume {c} : s0.Kept (s.dmaResume c).state := by
  unfold State.dmaResume
  split
  · exact .ite_state (.refuse h) (.ok (.dcGo (.modDma h)))
  · exact .refuse h

theorem dmaRequest {line v} : s0.Kept (s.dmaRequest line v) := by
  unfold State.dmaRequest
  exact .forAll (.modFab h) fun _ _ h1 => .ite (.ite (.ite (.setDc h1) h1) (.ite (.modFab (.setDc h1)) h1)) h1

theorem dcSave {c} : s0.Kept (s.dcSave c) := by
  unfold State.dcSave
  split
  · exact .doIf h fun _ h1 => .storeMem h1
  · exact h

theorem dcPause {c} : s0.Kept (s.dcPause c) := .setDc (.modDma (.dcSave h))

theorem drainRequest {i inBurst} : s0.Kept (s.drainRequest i inBurst) := by
  unfold State.drainRequest
  exact .forAll (.modFab h) fun _ _ h1 => .ite (.modDma h1) (.dcPause (.modDma h1))

theorem drainTimeout {i} : s0.Kept (s.drainTimeout i) := by
  unfold State.drainTimeout
  split
  · extract_lets +onlyGivenNames _ _ _ s1
    have hs1 : s0.Kept s1 := .modFab (.forAll (.advanceTo h) fun _ _ h1 => .dcStop h1)
    exact .ite hs1 (.event (.report hs1))
  · exact h

theorem islandUp {i} : s0.Kept (s.islandUp i) := by
  unfold State.islandUp
  exact .forAll (.modFab h) fun _ _ h1 => .doIf (.modDma h1) fun _ h2 => .dcGo h2

theorem writeDMA {r ix a v} : s0.Kept (Machine.writeDMA r ix a v s).state := by
  unfold Machine.writeDMA
  extract_lets +onlyGivenNames _ _
  split
  · exact .ite_state (.refuse h) (.ok (.plainWrite h))
  · exact .ite_state (.refuse h) (.ok (.plainWrite h))
  · exact .ok (.doIf h fun _ h1 => .forAll h1 fun _ _ h2 => .setReg h2)
  · exact .ite_state (.refuse h) (.ok (.plainWrite h))
  · exact .ite_state (.refuse h) (.ok (.plainWrite h))
  · exact .ite_state (.dmaGo (.ite (.dmaAbort h) h)) (.ite_state (.dmaResume (.ite (.dmaAbort h) h))
      (.ok (.ite (.dmaAbort h) h)))
  · exact .ok (.plainWrite h)

/-! ### Sessions -/

theorem modFe {f} : s0.Kept (s.modFe f) := .frame h

theorem eventAll {e} : s0.Kept (s.eventAll e) := by
  unfold State.eventAll
  exact .forAll h fun _ _ h1 => .sendEvent h1

theorem setBlock {b o} : s0.Kept (s.setBlock b o) := .setReg h

theorem releaseAll {x} : s0.Kept (s.releaseAll x) := by
  unfold State.releaseAll
  exact .fdSessionClosed (.forAll (.forAll (.forAll (.showStore (.modSp h)) fun _ _ h1 => .frame (.put (.supersede h1)))
    fun _ _ h1 => .setBlock h1) fun _ _ h1 => .setReg h1)

theorem closeSession {x cause} : s0.Kept (s.closeSession x cause) :=
  .ite h (.tellSession (.eventAll (.breakStiles (.releaseAll
    (.showHeld (.showEvq (.modSession (.modFe (.put (.setSess h))))))))))

theorem tagFail {x} : s0.Kept (s.tagFail x) := .ite (.closeSession (.modSession (.count h))) (.modSession (.count h))

theorem openingTimeout {x} : s0.Kept (s.openingTimeout x) := .ite (.showHeld (.modSession (.setSess (.advanceTo h)))) h

theorem idleTimeout {x} : s0.Kept (s.idleTimeout x) := .ite (.closeSession (.advanceTo h)) h

/-! ### Power, the Lark, thermal management -/

theorem modPw {f} : s0.Kept (s.modPw f) := .frame h

theorem modMove {f} : s0.Kept (s.modMove f) := .modPw h

theorem showTrans : s0.Kept s.showTrans := .put h

theorem dvfsRequest {x p} : s0.Kept (State.dvfsRequest x p s) := by
  unfold State.dvfsRequest
  exact .ite (.put (.put h)) (.put (.doIf (.put h) fun _ h1 => .modPw h1))

theorem dvfsPoints {d} : s0.Kept (s.dvfsPoints d) := .dvfsRequest (.dvfsRequest (.dvfsRequest h))

theorem setPoint {x f v} : s0.Kept (s.setPoint x f v) := by
  unfold State.setPoint
  exact .put (.put (.doIf h fun _ h1 => .forAll h1 fun _ _ h2 => .fdRebase h2))

theorem enterState {n} : s0.Kept (s.enterState n) := .ite h (.event (.put h))

theorem endMove {st} : s0.Kept (s.endMove st) := by
  unfold State.endMove
  split
  · exact .completeJob (.showTrans (.modPw h))
  · exact h

theorem moveCheck : s0.Kept s.moveCheck := by
  unfold State.moveCheck
  split
  · exact .ite (.ite (.endMove h) (.ite (.endMove h) h)) h
  · exact h

theorem showGating : s0.Kept s.showGating := .setReg (.setReg (.put h))

theorem setGating {qgate chgate throt} : s0.Kept (s.setGating qgate chgate throt) := by
  unfold State.setGating
  exact .refreshReady (.forAll (.forAll (.showGating (.put (.modPw h))) fun _ _ h1 => .ite
    (.clearBit (.clearBit (.abortQuadCaps h1))) (.ite (.modLo h1) h1)) fun _ _ h1 => .ite (.gateChain h1)
    (.ite (.ungateChain h1) h1))

theorem leaveActive : s0.Kept s.leaveActive := by
  unfold State.leaveActive
  exact .beamDrain (.forAll (.calAbort (.forAll (.txAdvance h) fun _ _ h1 => .abortCap h1)) fun _ _ h1 => .pdPower h1)

theorem gatingApply : s0.Kept s.gatingApply := by
  unfold State.gatingApply
  extract_lets +onlyGivenNames _ _ _
  split
  · exact .ite (.moveCheck (.modMove (.setGating (.enterState (.doIf (.modPw h) fun _ h1 => .leaveActive h1)))))
      (.ite (.modPw h) (.setGating (.modPw h)))
  · exact .ite (.modPw h) (.setGating (.modPw h))

theorem setLeave : s0.Kept s.setLeave := .frame h

theorem radioOff {keep} : s0.Kept (s.radioOff keep) := by
  unfold State.radioOff
  exact .loDown (.put (.forAll (.frame (.modMove (.forAll (.pinsOff h) fun _ _ h1 => .restEdge h1)))
    fun _ _ h1 => .gateChain h1))

theorem leaveHush {target qgate chgate rest cmd} : s0.Kept (s.leaveHush target qgate chgate rest cmd) := by
  unfold State.leaveHush
  exact .moveCheck (.refreshReady (.doIf (.forAll (.forAll
    (.frame (.enterState (.showGating (.modPw (.showTrans (.modPw h)))))) fun _ _ h1 => .doIf h1 fun _ h2 => .modLo h2)
    fun _ _ h1 => .doIf h1 fun _ h2 => .ungateChain h2) fun _ h1 => .relight h1))

theorem stateSet {target qgate dvfs chgate cmd} : s0.Kept (s.stateSet target qgate dvfs chgate cmd) := by
  unfold State.stateSet
  extract_lets +onlyGivenNames _ _ _ _ _ _
  refine .ite (.completeJob (.endMove h)) (.ite (.dvfsPoints (.showTrans (.modPw (.endMove h))))
    (.ite (.leaveHush (.dvfsPoints (.endMove h))) ?_))
  extract_lets +onlyGivenNames _ _ _ s1
  have hs1 : s0.Kept s1 := .showTrans (.modPw (.doIf (.doIf (.endMove h) fun _ h1 => .setLeave h1)
    fun _ h1 => .leaveActive h1))
  exact .ite (.dvfsPoints (.enterState hs1)) (.event (.put (.setReg (.setReg (.forAll hs1 fun _ _ h1 => .setReg h1)))))

theorem modBound {f} : s0.Kept (s.modBound f) := .frame h

theorem applySlot {d cs} : s0.Kept (State.applySlot d cs s) := .columnTakeover (.apply (.applyShift (.applyCarrier h)))

theorem trimOnce {b q} : s0.Kept (State.trimOnce b q s) := .ite h (.modBound (.applyTrim h))

theorem stopQuad {d q} : s0.Kept (State.stopQuad d q s) := by
  unfold State.stopQuad
  split
  · exact .forAll (.trimOnce (.applyCfr h)) fun _ _ h1 => .settleChain (.pdKick (.applyTx h1))
  · exact .forAll (.trimOnce h) fun _ _ h1 => .doIf (.applyRx h1) fun _ h2 => .modChain (.put h2)

theorem stopSlots : s0.Kept s.stopSlots := by
  unfold State.stopSlots
  exact .forAll (.forAll (.forAll h fun _ _ h1 => .put h1) fun _ _ h1 => .applySlot h1) fun _ _ h1 => .stopQuad h1

theorem fallowQuiet {inBurst} : s0.Kept (s.fallowQuiet inBurst) := by
  unfold State.fallowQuiet
  split
  · split
    · exact .stopSlots (.forAll (.retireAbort (.fdFallow
        (.lqDrop (.portsDown (.forAll (.modMove (.ite (.radioOff (.advanceTo h)) (.modMove (.advanceTo h))))
        fun _ _ h1 => .hgFallow h1))))) fun _ _ h1 => .drainRequest h1)
    · exact h
  · exact h

theorem startWake {src rule act} : s0.Kept (s.startWake src rule act) := .ite h (.showTrans (.modPw h))

theorem fireRule {i} : s0.Kept (s.fireRule i) := .startWake h

theorem fallowGate : s0.Kept s.fallowGate := by
  unfold State.fallowGate
  split
  · refine .ite ?_ h
    extract_lets +onlyGivenNames _ _ _ s1
    have hs1 : s0.Kept s1 := .settle (.showTrans (.put (.put (.put (.put (.modPw (.modFab (.tmFallow (.modMove h)))))))))
    split
    · exact .fireRule hs1
    · exact hs1
  · exact h

theorem sentinelClear {m b} : s0.Kept (s.sentinelClear m b) := .ite (.modPw h) h

theorem larkEval {tick sup edges levels} : s0.Kept (s.larkEval tick sup edges levels) := by
  unfold State.larkEval
  extract_lets +onlyGivenNames _ _ _ _ _ _ _ _ _ _ _ _ s1 d9
  have hs1 : s0.Kept s1 := .put (.forAll (.modPw (.doIf (.doIf h fun _ h1 => .tickTo h1) fun _ h1 => .modPw h1))
    fun _ _ h1 => .raiseBit h1)
  clear_value d9
  split
  · exact hs1
  · split
    · exact .ite (.modPw hs1) (.fireRule hs1)
    · exact hs1

theorem resetBlocks {l} : s0.Kept (s.resetBlocks l) :=
  .of_files h rfl (fun r => RegFile.wf_filter _ _ r) (fun w => RegFile.wf_filter _ _ w) id

theorem islandDefaults {i} : s0.Kept (State.islandDefaults i s) := by
  unfold State.islandDefaults
  extract_lets
  split
  · exact .of_files (.resetBlocks h) rfl (fun r => RegFile.wf_set _ _ _ (RegFile.wf_filter _ _ r)) id id
  · exact .frame (.resetBlocks h)
  · exact .frame (.resetBlocks h)
  · exact .of_files h rfl (fun r => RegFile.wf_filter _ _ r) id id
  · exact .ite (.of_files h rfl (fun r => RegFile.wf_filter _ _ r) id id) h

theorem clearLost : s0.Kept s.clearLost := by
  unfold State.clearLost
  refine .forAll (.forAll (.forAll h fun _ _ h1 => ?_) fun _ _ h1 => .forAll h1 fun _ _ h2 => .clearMem h2) fun _ _ h1 => ?_
  · exact .ite (.doIf h1 fun _ h2 => .clearMem h2) (.doIf h1 fun _ h2 => .clearMem h2)
  · exact .of_files (.clearMem h1) rfl (fun r => RegFile.wf_filter _ _ r) id id

theorem wakeUp {rings err} : s0.Kept (s.wakeUp rings err) := by
  unfold State.wakeUp
  split
  · refine .ite ?_ h
    extract_lets +onlyGivenNames _ _ _ _ _ _ s1 s2 _ _ _ _ _ _ _ s3 s4 s5 s6 s7
    have h1 : s0.Kept s1 := .forAll (.clearLost (.modPw (.advanceTo h))) fun _ _ h => .islandDefaults h
    have h2 : s0.Kept s2 := .forAll h1 fun _ _ h => .islandUp h
    have h3 : s0.Kept s3 := .modMove (.put (.put (.put (.put (.forAll (.put h2) fun _ _ h => .setReg h)))))
    have h4 : s0.Kept s4 := .ite (.eventAll (.report h3)) h3
    have h5 : s0.Kept s5 := .raise h4
    have h6 : s0.Kept s6 := .forAll h5 fun _ _ h => .closeSession h
    have h7 : s0.Kept s7 := .ite (.frame h6) h4
    exact .ite (.calRecheck (.modCasc h7)) h7
  · exact h

theorem pllLock : s0.Kept s.pllLock := by
  unfold State.pllLock
  split
  · exact .ite (.tmWake (.modPw (.put (.advanceTo h)))) h
  · exact .ite (.frame (.put h)) h

theorem hushReached : s0.Kept s.hushReached := by
  unfold State.hushReached
  split
  · refine .ite ?_ h
    extract_lets +onlyGivenNames s1
    split
    extract_lets +onlyGivenNames s2 s3 s4 s5
    have h2 : s0.Kept s2 := .modPw (.advanceTo h)
    have h3 : s0.Kept s3 := .frame h2
    have h4 : s0.Kept s4 := .settle (.enterState h3)
    have h5 : s0.Kept s5 := .retireRecorded (.showTrans (.forAll h4 fun _ _ h => .hgWake h))
    exact .ite (.leaveHush (.dvfsPoints h5)) (.completeJob h5)
  · split
    · split
      · exact .endMove (.radioOff (.advanceTo h))
      · exact h
    · exact h

theorem dvfsStep : s0.Kept s.dvfsStep := by
  unfold State.dvfsStep
  split
  · extract_lets +onlyGivenNames _ _ _ _ _ s1
    have hs1 : s0.Kept s1 := .modPw (.setPoint (.advanceTo h))
    exact .moveCheck (.ite (.put hs1) hs1)
  · exact h

theorem vsetTimeout : s0.Kept s.vsetTimeout := by
  unfold State.vsetTimeout
  refine .ite ?_ h
  extract_lets +onlyGivenNames _ s1
  have hs1 : s0.Kept s1 := .forAll (.advanceTo h) fun _ _ h1 => .put h1
  split
  · exact .moveCheck (.modMove (.completeJob hs1))
  · exact hs1

theorem dvfsWrite {x v} : s0.Kept (s.dvfsWrite x v).state := by
  unfold State.dvfsWrite
  exact .ite_state (.refuse h) (.ok (.doIf (.ite h (.setPoint h)) fun _ h1 => .dvfsRequest h1))

theorem miSrc {v} : s0.Kept (s.miSrc v).state := .ite_state (.refuse h) (.ok (.put (.put h)))

theorem writePWR {r ix a v} : s0.Kept (Machine.writePWR r ix a v s).state := by
  unfold Machine.writePWR
  split
  · exact .dvfsWrite h
  · exact .miSrc h
  · exact .ok (.plainWrite h)

theorem thermalShutdown {n} : s0.Kept (s.thermalShutdown n) := by
  unfold State.thermalShutdown
  refine .ite h ?_
  extract_lets +onlyGivenNames s1 _
  have hs1 : s0.Kept s1 := by
    unfold s1
    split
    · exact .unrun h
    · exact h
  exact .sendSafeState (.report (.settle (.showTrans (.modPw hs1))))

theorem convert {n raw} : s0.Kept (s.convert n raw) := by
  unfold State.convert
  extract_lets +onlyGivenNames _ _ _ _ _
  split
  extract_lets +onlyGivenNames _ _ _ _ s1 _ s2
  have hs1 : s0.Kept s1 := .put (.put (.put (.doIf (.modPw h) fun _ h1 => .put h1)))
  have hs2 : s0.Kept s2 := .modPw (.ite (.event (.modPw hs1)) (.ite (.modPw hs1) hs1))
  exact .ite (.thermalShutdown hs2) hs2

theorem throttleTo {l q on} : s0.Kept (s.throttleTo l q on) := by
  unfold State.throttleTo
  exact .event (.put (.modPw h))

theorem throttleStep : s0.Kept s.throttleStep := by
  unfold State.throttleStep
  extract_lets +onlyGivenNames _ _
  split
  · extract_lets +onlyGivenNames _
    split
    · exact .throttleTo (.advanceTo h)
    · exact h
  · split
    · exact .throttleTo (.advanceTo h)
    · exact h
  · exact h

theorem writeTHERM {r _ix a v} : s0.Kept (Machine.writeTHERM r _ix a v s).state := by
  unfold Machine.writeTHERM
  split
  · exact .ite_state (.ok (.plainWrite h)) (.error h)
  · exact .ite_state (.ok (.plainWrite h)) (.error h)
  · exact .ite_state (.error h) (.ok (.plainWrite h))
  · exact .ok (.plainWrite h)

theorem writeLK {r _ix a v} : s0.Kept (Machine.writeLK r _ix a v s).state := by
  unfold Machine.writeLK
  split
  · exact .ite_state (.error h) (.ok (.plainWrite h))
  · exact .ok (.plainWrite h)

theorem supplyFault {mon} : s0.Kept (s.supplyFault mon) := .ite (.report h) h

/-! ### Security, reset and boot -/

theorem modTh {f} : s0.Kept (s.modTh f) := .frame h

theorem showTh : s0.Kept s.showTh := .setReg (.setReg (.put (.put (.put (.put h)))))

theorem advanceTry : s0.Kept s.advanceTry := by
  unfold State.advanceTry
  split
  · exact .ite (.showTh (.put (.modTh h))) (.put h)
  · exact h

theorem keyop {b} : s0.Kept (s.keyop b).1 :=
  .ite_fst (.fst h) (.ite_fst (.ite_fst (.fst h) (.ite_fst (.fst h) (.fst (.showTh (.modTh h)))))
    (.ite_fst (.fst h) (.ite_fst (.ite_fst (.fst h) (.ite_fst (.fst h) (.ite_fst (.fst h) (.fst (.showTh (.modTh h))))))
    (.ite_fst (.fst h) (.ite_fst (.fst h) (.ite_fst (.fst h) (.fst (.showTh (.modTh h)))))))))

theorem fwActivate {len cmd} : s0.Kept (s.fwActivate len cmd).1 := by
  unfold State.fwActivate
  extract_lets +onlyGivenNames _ _
  refine .ite_fst (.fst h) (.ite_fst (.fst h) (.ite_fst (.keyop h) ?_))
  split
  · exact .fst (.forAll (.modFe (.modTh (.setReg h))) fun _ _ h1 => .doIf h1 fun _ h2 => .fdHalt h2)
  · exact .fst (.setReg h)

theorem fwReady : s0.Kept s.fwReady := by
  unfold State.fwReady
  split
  · exact .advanceTry (.completeJob (.event (.event (.modFe (.modTh (.setReg (.put (.setReg (.put h)))))))))
  · exact h

theorem fwTimeout : s0.Kept s.fwTimeout := by
  unfold State.fwTimeout
  split
  · exact .completeJob (.modFe (.modTh (.advanceTo h)))
  · exact h

theorem debugUnlock {token} : s0.Kept (s.debugUnlock token) := by
  unfold State.debugUnlock
  exact .ite h (.enterSafe (.put (.forAll (.forAll h fun _ _ h1 => .clearMem h1) fun _ _ h1 => .closeSession h1)))

theorem deviceReset : s0.Kept s.deviceReset :=
  .of_files h rfl (fun _ => rfl) (fun _ => rfl) (fun _ => rfl)

theorem resetLow {short} : s0.Kept (s.resetLow short) := .ite (.startWake h) (.deviceReset h)

theorem loadSpareRows : s0.Kept s.loadSpareRows := by
  unfold State.loadSpareRows
  exact .forAll (.forAll h fun _ _ h1 => .setReg h1) fun _ _ h1 => .setReg h1

theorem startRom : s0.Kept s.startRom := by
  unfold State.startRom
  extract_lets +onlyGivenNames _ _ _ _ _ s1 s2
  have hs1 : s0.Kept s1 := .forAll (.doIf (.put (.put (.loadSpareRows (.showTh (.modTh h))))) fun _ h1 => .put
    (.put (.put h1))) fun _ _ h1 => .put (.put (.put (.put (.forAll h1 fun _ _ h2 => .put h2))))
  have hs2 : s0.Kept s2 := .ite (.forAll hs1 fun _ _ h1 => .hgEnWrite (.put (.put h1))) (.ite (.put (.put hs1)) hs1)
  exact .ite (.frame hs2) (.ite (.frame hs2) (.frame hs2))

theorem resetRelease {mode rails} : s0.Kept (s.resetRelease mode rails) :=
  .ite (.ite (.startRom (.modTh h)) (.modTh (.modTh h))) h

theorem selfRelease : s0.Kept s.selfRelease := .ite (.startRom h) h

theorem becomeWorker : s0.Kept s.becomeWorker := .portsDown (.put (.put (.put (.put h))))

theorem bootImage {b src} : s0.Kept (s.bootImage b src) := by
  unfold State.bootImage
  exact .frame (.doIf (.modTh (.put (.setReg (.put (.put (.storeMem h)))))) fun _ h1 => .becomeWorker h1)

theorem rejectImage : s0.Kept s.rejectImage := .ite (.frame h) (.modTh h)

theorem imageLoaded {a b} : s0.Kept (s.imageLoaded a b) := by
  unfold State.imageLoaded
  refine .ite h (.ite ?_ (.ite (.ite h (.ite (.bootImage h) (.rejectImage h))) ?_))
  · extract_lets +onlyGivenNames _ _ _
    split
    · exact .bootImage h
    · exact .frame h
  · split
    · exact .ite (.bootImage (.sendReply (.modTh h))) (.rejectImage (.sendReply (.modTh h)))
    · exact h

theorem bootRequest : s0.Kept s.bootRequest := .ite (.emit (.modTh (.advanceTo h))) h

theorem bootLoad {c} : s0.Kept (s.bootLoad c) := .ite (.ite (.sendReply h) (.sendReply (.storeMem h))) (.reply h)

theorem bootGo {c} : s0.Kept (s.bootGo c) := .ite (.ite (.sendReply h) (.modTh h)) (.reply h)

theorem selfTest {evals cols} : s0.Kept (s.selfTest evals cols) := by
  unfold State.selfTest
  exact .forAll (.forAll (.forAll h fun _ _ h1 => .doIf (.doIf h1 fun _ h2 => .put h2) fun _ h2 => .put h2)
    fun _ _ h1 => .pdRepair h1) fun _ _ h1 => .columnFail h1

theorem bootReady {evals cols} : s0.Kept (s.bootReady evals cols) :=
  .ite (.advanceTry (.event (.modTh (.retireRecorded (.frame (.selfTest h)))))) h

theorem pllTimeout : s0.Kept s.pllTimeout := .ite (.frame (.advanceTo h)) h

theorem shutdownGate : s0.Kept s.shutdownGate := by
  unfold State.shutdownGate
  exact .ite (.of_files (.deviceReset (.advanceTo h)) rfl (RegFile.wf_foldl_set _ _) id id) h

theorem larkPor : s0.Kept s.larkPor := .modPw (.deviceReset h)

theorem safeForce {mid} : s0.Kept (s.safeForce mid).state := .ite_state (.ok (.enterSafe h)) (.refuse h)

theorem latchCause {r} : s0.Kept (s.latchCause r) :=
  .ite (.settle (.frame h)) (.ite (.refreshReady (.setSyn (.setSyn h))) h)

/-! ### Any register -/

theorem winWrite {mid r m k a v} : s0.Kept (s.winWrite mid r m k a v).state := .ite_state (.refuse h) (.ok (.plainWrite h))

theorem writeFAB {mid r ix a v} : s0.Kept (Machine.writeFAB mid r ix a v s).state := by
  unfold Machine.writeFAB
  extract_lets +onlyGivenNames _
  split
  · exact .ok (.setReg h)
  · split
    · exact .ite_state (.ok (.stileRelease h)) (.error (.stileRefuse h))
    · exact .ite_state (.ok (.stileClean h)) (.error (.stileRefuse h))
    · exact .error (.stileRefuse h)
  · exact .ite_state (.ok (.stileBreak h)) (.refuse h)
  · exact .ok (.doIf h fun _ h1 => .setReg h1)
  · exact .winWrite h
  · exact .winWrite h
  · exact .ite_state (.ok (.put h)) (.ite_state (.ok (.retireGo h)) (.ok (.retireGo (.put h))))
  · exact .ok (.doIf h fun _ h1 => .forAll h1 fun _ _ h2 => .setReg h2)
  · exact .ok (.plainWrite h)

theorem writeFront {r ix a v} : s0.Kept (Machine.writeFront r ix a v s).state := by
  unfold Machine.writeFront
  split
  · exact .ok (.doIf (.plainWrite h) fun _ h1 => .put h1)
  · exact .ite_state (.refuse h) (.ok (.plainWrite h))
  · exact .ok (.doIf h fun _ h1 => .forAll h1 fun _ _ h2 => .setReg h2)
  · exact .writeHP h

theorem writeFM {mid r ix a v} : s0.Kept (Machine.writeFM mid r ix a v s).state := by
  unfold Machine.writeFM
  split
  · exact .ite_state (.safeForce h) (.ok h)
  · exact .ok (.doIf h fun _ h1 => .clearUnit h1)
  · exact .ok (.plainWrite h)

theorem regWrite {mid a v} : s0.Kept (s.regWrite mid a v).state := by
  unfold State.regWrite
  split
  · exact .ok h
  · split
    · exact .writeLO h
    · exact .writePD h
    · exact .writeLP h
    · exact .writeBF h
    · exact .writeFront h
    · exact .writeCasc h
    · exact .writeTU h
    · exact .writePA h
    · exact .writeCAL h
    · exact .writeFD h
    · exact .writeDMA h
    · exact .writeFAB h
    · exact .writePWR h
    · exact .writeTHERM h
    · exact .writeFM h
    · exact .ok (.plainWrite h)
    · exact .writeLK h
    · exact .writeCHB h

theorem regRead {mid a} : s0.Kept (s.regRead mid a).1 := by
  unfold State.regRead
  split
  · split
    · exact .fst (.stileRead h)
    · exact .fst h
  · exact .fst h

/-! ### Bundles of a Flior core -/

theorem eccAt {ecc mid w} : s0.Kept (s.eccAt ecc mid w) := by
  unfold State.eccAt
  split
  · exact .readCheck h
  · exact h

theorem lsRun {n rb cyc pc w x ecc} : s0.Kept (s.lsRun n rb cyc pc w x ecc).1 := by
  unfold State.lsRun
  exact .ite_fst (.fst h) (.ite_fst (.ite_fst (.fst (.mergeStore h)) (.fst (.doIf (.eccAt h) fun _ h1 => .fdPoison h1)))
    (.ite_fst (.fst (.modFlior h)) (.fst (.modFlior h))))

theorem slotWrites {n cyc l} : s0.Kept (s.slotWrites n cyc l) := by
  unfold State.slotWrites
  exact .doIf (.doIf (.doIf (.modFlior h) fun _ h1 => .raise h1) fun _ h1 => .raise h1) fun _ h1 => .raise h1

theorem fdNext {n next last} : s0.Kept (s.fdNext n next last) := .put (.put (.modFlior h))

theorem fdControl {n pc w hi sa cyc} : s0.Kept (s.fdControl n pc w hi sa cyc) := by
  unfold State.fdControl
  extract_lets +onlyGivenNames _ _ _
  split
  · exact .fdNext (.modFlior (.setReg h))
  · exact .ite (.fdNext (.modFlior h)) (.put (.doIf (.modFlior (.modFlior h)) fun _ h1 => .put h1))
  · exact .ite (.put (.modFlior (.modFlior h))) (.fdNext (.modFlior h))
  · exact .ite (.setFd (.modFlior (.fdNext (.modFlior h)))) (.fdNext (.modFlior h))
  · exact .fdNext (.modFlior (.put h))
  · exact .fdNext (.modFlior (.event h))
  · exact .ite (.setFd (.fdNext (.modFlior h))) (.modFlior (.fdNext (.modFlior h)))
  · exact .fdNext (.modFlior h)

theorem fdRun {n pc t fetch fab hi ws ecc} : s0.Kept (s.fdRun n pc t fetch fab hi ws ecc) := by
  unfold State.fdRun
  extract_lets +onlyGivenNames _ _ _ _ _ _ _ _ _ _ _ s1 v0 v1
  have h1 : s0.Kept s1 := .countBy (.showCycle (.advanceTo h))
  clear_value v0 v1 s1
  split
  rename_i s2 _ e2
  have h2 : s0.Kept s2 := .of_fst (.ite_fst (.fst h1) (.lsRun h1)) e2
  split
  rename_i s3 _ e3
  have h3 : s0.Kept s3 := .of_fst (.ite_fst (.fst h2) (.lsRun h2)) e3
  extract_lets +onlyGivenNames _ _ _ s4
  have h4 : s0.Kept s4 := .slotWrites (.doIf h3 fun _ h => .freeNext h)
  clear_value s4
  split
  · exact .freeze (.put h4)
  · exact .fdControl h4

theorem bundle {n fab ecc} : s0.Kept (s.bundle n fab ecc) := by
  unfold State.bundle
  extract_lets +onlyGivenNames _
  refine .ite h ?_
  extract_lets +onlyGivenNames _ _ _ _ _ _ _
  refine .ite h ?_
  extract_lets +onlyGivenNames _ _ _ _ s1 _ _ _ _ _ _ _ _ d19
  have hs1 : s0.Kept s1 := .doIf (.doIf (.ite (.eccAt h) h) fun _ h1 => .fdPoison h1) fun _ h1 => .modFlior h1
  refine .ite (.fdWatchdog hs1) ?_
  clear_value d19
  split
  · extract_lets +onlyGivenNames s2
    have hs2 : s0.Kept s2 := .showCycle (.advanceTo hs1)
    split
    · exact .freeze (.put hs2)
    · exact .fdFault hs2
  · exact .ite (.fdWatchdog hs1) (.fdRun hs1)

theorem readRegs {mid k a} : s0.Kept (s.readRegs mid k a).1 := by
  induction k generalizing s a with
  | zero => exact h
  | succ k ih => exact ih (.regRead h)

theorem writeRegs {mid a l} : s0.Kept (State.writeRegs mid a l s) := by
  fun_induction State.writeRegs mid a l s with
  | case1 => exact h
  | case2 _ _ _ _ _ _ _ ih => exact ih (.regWrite h)
  | case3 => exact h

theorem haltNow {n} : s0.Kept (s.haltNow n) := .ite (.setFd (.modFlior h)) h

theorem farLoad {n ok ecc} : s0.Kept (s.farLoad n ok ecc) := by
  unfold State.farLoad
  split
  · exact h
  · extract_lets +onlyGivenNames _ s1
    have hs1 : s0.Kept s1 := .modFlior (.advanceTo h)
    exact .ite (.fdFault (.put hs1)) (.haltNow (.modFlior
      (.ite_fst (.fst (.doIf (.eccAt (.settled hs1)) fun _ h1 => .fdPoison h1)) (.readRegs (.settled hs1)))))

theorem farStore {n ok} : s0.Kept (s.farStore n ok) := by
  unfold State.farStore
  split
  · exact h
  · exact .ite (.ite (.fdFault (.put (.modFlior h))) (.modFlior h))
      (.ite (.storeMem (.settled (.modFlior h))) (.writeRegs (.settled (.modFlior h))))

/-! ### Bursts of the DMA engines -/

theorem readBeat {mid a n ecc} : s0.Kept (s.readBeat mid a n ecc).1 := by
  unfold State.readBeat
  exact .ite_fst (.fst (.forAll h fun _ _ h1 => .eccAt h1)) (.fst (.readRegs h))

theorem writeBeat {mid a l ecc} : s0.Kept (s.writeBeat mid a l ecc) := by
  unfold State.writeBeat
  exact .ite (.forAll (.mergeStore h) fun _ _ h1 => .poisonWord h1) (.writeRegs h)

theorem readBurst {mid a n fix ecc} : s0.Kept (s.readBurst mid a n fix ecc).1 := by
  unfold State.readBurst
  exact .foldl_fst (.fst h) fun _ _ h1 => .fst (.readBeat h1)

theorem writeBurst {mid a fix l ecc} : s0.Kept (s.writeBurst mid a fix l ecc) := by
  unfold State.writeBurst
  exact .forAll h fun _ _ h1 => .writeBeat h1

theorem dcNext {c} : s0.Kept (s.dcNext c) := by
  unfold State.dcNext
  split
  · exact .ite (.setDc (.modDma h)) (.doIf (.dcLoad (.put h)) fun _ h1 => .modDma h1)
  · exact h

theorem dcDone {c n bad} : s0.Kept (s.dcDone c n bad) := by
  unfold State.dcDone
  extract_lets +onlyGivenNames left
  clear_value left
  split
  rename_i s1 _ e1
  have h1 : s0.Kept s1 := .of_fst (.dcAdvance h) e1
  split
  rename_i s2 _ e2
  have h2 : s0.Kept s2 := .of_fst (.dcAdvance h1) e2
  extract_lets +onlyGivenNames _ s3
  have h3 : s0.Kept s3 := .doIf (.put (.put h2)) fun _ h => .raise (.modDma h)
  clear_value s3
  split
  · exact .ite (.ite (.dcNext (.dcEnd (.put h3))) (.freeze (.put h3))) (.put h3)
  · exact h3

theorem withdraw {c} : s0.Kept (s.withdraw c) := .ite h (.dmaRequest (.count h))

theorem burstEnd {c} : s0.Kept (s.burstEnd c) := .ite h (.ite (.dcStop h) (.ite (.dcPause h) h))

theorem generalBurst {c wdraw err ecc} : s0.Kept (s.generalBurst c wdraw err ecc) := by
  unfold State.generalBurst
  split
  · exact h
  · extract_lets +onlyGivenNames _ _ _ _ _ _
    split
    · exact .freeze h
    · exact .ite (.dcStop h) (.burstEnd (.doIf (.dcDone (.settled (.writeBurst (.readBurst h)))) fun _ h1 => .withdraw h1))

theorem expressRead {c err ecc} : s0.Kept (s.expressRead c err ecc) := by
  unfold State.expressRead
  extract_lets +onlyGivenNames _
  split
  · exact h
  · extract_lets +onlyGivenNames _ _ _ _ _
    refine .ite h ?_
    split
    · exact .freeze h
    · exact .ite (.dcStop h) (.modDma (.settled (.readBurst h)))

theorem expressWrite {c wdraw err ecc} : s0.Kept (s.expressWrite c wdraw err ecc) := by
  unfold State.expressWrite
  extract_lets +onlyGivenNames _
  split
  · extract_lets +onlyGivenNames _ _ _ _
    split
    · exact .ite (.dcStop h) (.burstEnd (.doIf (.dcDone (.modDma (.settled (.writeBurst h)))) fun _ h1 => .withdraw h1))
    · exact .freeze (.modDma h)
  · exact h

theorem dmaBurst {express rd wdraw err ecc} : s0.Kept (s.dmaBurst express rd wdraw err ecc) := by
  unfold State.dmaBurst
  split
  · exact .ite h (.ite (.expressRead h) (.expressWrite h))
  · extract_lets +onlyGivenNames _
    split
    · rename_i e
      exact .generalBurst (.of_fst (.arbitrate h) e)
    · rename_i e
      exact (.of_fst (.arbitrate h) e)

/-! ### Accesses of a master -/

theorem perform {mid a n write ecc} : s0.Kept (s.perform mid a n write ecc).1 := by
  unfold State.perform
  extract_lets +onlyGivenNames _
  split
  · exact .ite_fst (.fst (.mergeStore (.settled h))) (.fst (.writeRegs (.settled h)))
  · exact .ite_fst (.fst (.report (.readBeat (.settled h)))) (.fst (.readBeat (.settled h)))

theorem fabricAccess {mid a n write ecc} : s0.Kept (s.fabricAccess mid a n write ecc) := by
  unfold State.fabricAccess
  refine .ite h ?_
  extract_lets +onlyGivenNames _
  split
  · exact .ite (.perform h) (.emit (.perform h))
  · exact .freeze h

/-! ### Checks and register writes of a command -/

theorem checked {c l f} (k : ∀ t, s0.Kept t → s0.Kept (f t)) : s0.Kept (s.checked c l f) := by
  unfold State.checked
  split
  · exact .reply h
  · exact k _ h

theorem writes {l} : s0.Kept (s.writes l).1 := by
  induction l generalizing s with
  | nil => exact h
  | cons p t ih =>
    unfold State.writes
    split
    · rename_i e
      exact ih (.of_ok (.regWrite h) e)
    · rename_i e
      exact .of_error (.regWrite h) e

theorem writeReply {c st l} : s0.Kept (s.writeReply c st l) := by
  unfold State.writeReply
  split
  · rename_i e
    exact .reply (.of_fst (.writes h) e)
  · rename_i e
    exact .reply (.of_fst (.writes h) e)

omit h in
theorem wrReply {c st a w} (h : s0.Kept (Wr.state w)) : s0.Kept (State.wrReply c st a w) := by
  cases w with
  | ok t => exact .reply h
  | error t => exact .reply h

/-! ### Opcodes: urgent, system, carriers, RF -/

theorem writeReplyBy {c st l} : s0.Kept (s.writeReplyBy c st l) := by
  unfold State.writeReplyBy
  split
  · rename_i e
    exact .reply (.of_fst (.writes h) e)
  · rename_i e
    exact .reply (.of_fst (.writes h) e)

theorem urgent {c len bad f} (k : ∀ on t, s0.Kept t → s0.Kept (f on t)) : s0.Kept (s.urgent c len bad f) :=
  .checked h fun _ h1 => .reply (k _ _ (.advanceTo h1))

theorem umute {m on} : s0.Kept (Machine.umute m on s) := by
  unfold Machine.umute
  exact .settle (.forAll h fun _ _ h1 => .put h1)

theorem cmdMuteAll {c} : s0.Kept (s.cmdMuteAll c) := by
  unfold State.cmdMuteAll
  exact .urgent h fun _ _ h1 => .umute h1

theorem cmdPaOff {c} : s0.Kept (s.cmdPaOff c) := by
  unfold State.cmdPaOff
  exact .urgent h fun _ _ h1 => .settle (.frame h1)

theorem cmdChainMute {c} : s0.Kept (s.cmdChainMute c) := by
  unfold State.cmdChainMute
  exact .urgent h fun _ _ h1 => .umute h1

theorem cmdPing {c} : s0.Kept (s.cmdPing c) := by
  unfold State.cmdPing
  exact .checked h fun _ h1 => .reply h1

theorem cmdIdent {c} : s0.Kept (s.cmdIdent c) := by
  unfold State.cmdIdent
  exact .checked h fun _ h1 => .reply h1

theorem cmdReset {c} : s0.Kept (s.cmdReset c) := by
  unfold State.cmdReset
  extract_lets +onlyGivenNames _ d2
  refine .checked h fun _ h1 => ?_
  clear_value d2
  split
  · exact .modTh (.reply h1)
  · exact .reply (.fdReset h1)
  · exact .reply (.hgRetrain h1)

theorem cmdUnfreeze {c} : s0.Kept (s.cmdUnfreeze c) := by
  unfold State.cmdUnfreeze
  exact .checked h fun _ h1 => .reply (.unfreeze h1)

theorem cmdFreezeList {c} : s0.Kept (s.cmdFreezeList c) := by
  unfold State.cmdFreezeList
  exact .checked h fun _ h1 => .reply h1

theorem onSlot {c shape more f} (k : ∀ d cs t, s0.Kept t → s0.Kept (f d cs t)) : s0.Kept (s.onSlot c shape more f) :=
  .checked h fun _ h1 => k _ _ _ h1

theorem cmdCarrierClaim {c} : s0.Kept (s.cmdCarrierClaim c) := by
  unfold State.cmdCarrierClaim
  exact .onSlot h fun _ _ _ h1 => .ite (.reply h1) (.reply (.tellSession (.put h1)))

theorem cmdCarrierRelease {c} : s0.Kept (s.cmdCarrierRelease c) := by
  unfold State.cmdCarrierRelease
  exact .onSlot h fun _ _ _ h1 => .frame (.accept (.put (.supersede h1)))

theorem cmdCarrierConfig {c} : s0.Kept (s.cmdCarrierConfig c) := by
  unfold State.cmdCarrierConfig
  exact .onSlot h fun _ _ _ h1 => .writeReplyBy h1

theorem cmdCarrierEnable {c} : s0.Kept (s.cmdCarrierEnable c) := by
  unfold State.cmdCarrierEnable
  exact .onSlot h fun _ _ _ h1 => .ite (.complete (.accept h1)) (.ite (.wrReply (.lpRefuse h1)) (.enQueue (.accept h1)))

theorem cmdCarrierUlFormat {c} : s0.Kept (s.cmdCarrierUlFormat c) := by
  unfold State.cmdCarrierUlFormat
  exact .checked h fun _ h1 => .writeReply h1

theorem cmdCarrierGain {c} : s0.Kept (s.cmdCarrierGain c) := by
  unfold State.cmdCarrierGain
  exact .onSlot h fun _ _ _ h1 => .writeReply h1

theorem cmdPrachConfig {c} : s0.Kept (s.cmdPrachConfig c) := by
  unfold State.cmdPrachConfig
  exact .checked h fun _ h1 => .writeReply h1

theorem cmdCarrierStatus {c} : s0.Kept (s.cmdCarrierStatus c) := by
  unfold State.cmdCarrierStatus
  exact .onSlot h fun _ _ _ h1 => .reply h1

theorem cmdLoMode {c} : s0.Kept (s.cmdLoMode c) := by
  unfold State.cmdLoMode
  exact .checked h fun _ h1 => .writeReply h1

theorem cmdArrayArm {c} : s0.Kept (s.cmdArrayArm c) := by
  unfold State.cmdArrayArm
  refine .checked h fun _ h1 => ?_
  split
  · rename_i e
    exact .reply (.of_error (.arrArm h1) e)
  · rename_i e
    exact .modLo (.accept (.completeJob (.of_ok (.arrArm h1) e)))

theorem armTimeout : s0.Kept s.armTimeout := .ite (.modLo (.completeJob h)) h

theorem cmdQloTrim {c} : s0.Kept (s.cmdQloTrim c) := by
  unfold State.cmdQloTrim
  exact .checked h fun _ h1 => .writeReply h1

theorem cmdChainSet {c} : s0.Kept (s.cmdChainSet c) := by
  unfold State.cmdChainSet
  exact .checked h fun _ h1 => .writeReply h1

theorem cmdOrxConfig {c} : s0.Kept (s.cmdOrxConfig c) := by
  unfold State.cmdOrxConfig
  exact .checked h fun _ h1 => .writeReply h1

theorem cmdCfrConfig {c} : s0.Kept (s.cmdCfrConfig c) := by
  unfold State.cmdCfrConfig
  exact .checked h fun _ h1 => .writeReply h1

theorem cmdCfrPulse {c} : s0.Kept (s.cmdCfrPulse c) := by
  unfold State.cmdCfrPulse
  exact .checked h fun _ h1 => .writeReply h1

theorem cmdTune {c} : s0.Kept (s.cmdTune c) := by
  unfold State.cmdTune
  extract_lets +onlyGivenNames _ _ _
  refine .checked h fun _ h1 => ?_
  extract_lets +onlyGivenNames _ _ _ _ _ _
  split
  · exact .ite (.complete (.tuneGo (.accept (.writes h1)))) (.tuneGo (.accept (.writes h1)))
  · exact .reply (.put (.writes h1))

/-! ### Opcodes: beams, predistortion, calibration -/

theorem cmdBeamBlockClaim {c} : s0.Kept (s.cmdBeamBlockClaim c) := by
  unfold State.cmdBeamBlockClaim
  exact .checked h fun _ h1 => .ite (.reply h1) (.reply (.tellSession (.setBlock h1)))

theorem cmdBeamBlockRelease {c} : s0.Kept (s.cmdBeamBlockRelease c) := by
  unfold State.cmdBeamBlockRelease
  exact .checked h fun _ h1 => .reply (.tellSession (.setBlock h1))

theorem cmdWsetDeclare {c} : s0.Kept (s.cmdWsetDeclare c) := by
  unfold State.cmdWsetDeclare
  exact .checked h fun _ h1 => .wrReply (.wsWrite h1)

theorem setWrites {w v l} : s0.Kept (State.setWrites w v l s).1 := by
  induction l generalizing s v with
  | nil => exact h
  | cons x t ih =>
    unfold State.setWrites
    split
    · rename_i e
      exact ih (.of_fst (.setWrite h) e)
    · exact .setWrite h

theorem cmdWsetWrite {c} : s0.Kept (s.cmdWsetWrite c) := by
  unfold State.cmdWsetWrite
  extract_lets +onlyGivenNames _ _ _
  refine .checked h fun _ h1 => ?_
  split
  · rename_i e
    exact .reply (.of_fst (.setWrites h1) e)
  · rename_i e
    exact .reply (.of_fst (.setWrites h1) e)

theorem cmdBeamWrite {c} : s0.Kept (s.cmdBeamWrite c) := by
  unfold State.cmdBeamWrite
  exact .checked h fun _ h1 => .loadBeam (.accept h1)

theorem cmdSteer {c} : s0.Kept (s.cmdSteer c) := by
  unfold State.cmdSteer
  exact .checked h fun _ h1 => .steerKick (.modBf (.accept h1))

theorem cmdBfShift {c} : s0.Kept (s.cmdBfShift c) := by
  unfold State.cmdBfShift
  exact .checked h fun _ h1 => .writeReply h1

theorem cmdBeamDefault {c} : s0.Kept (s.cmdBeamDefault c) := by
  unfold State.cmdBeamDefault
  exact .onSlot h fun _ _ _ h1 => .writeReply h1

theorem geomWrites {w l} : s0.Kept (State.geomWrites w l s).1 := by
  induction l generalizing s w with
  | nil => exact h
  | cons v t ih => exact .ite_fst (ih (.storeMem h)) (.fst (.raise h))

theorem cmdGeomWrite {c} : s0.Kept (s.cmdGeomWrite c) := by
  unfold State.cmdGeomWrite
  extract_lets +onlyGivenNames _ _
  refine .checked h fun _ h1 => ?_
  split
  · rename_i e
    exact .reply (.of_fst (.geomWrites h1) e)
  · rename_i e
    exact .reply (.of_fst (.geomWrites h1) e)

theorem cmdPdConfig {c} : s0.Kept (s.cmdPdConfig c) := by
  unfold State.cmdPdConfig
  exact .checked h fun _ h1 => .ite (.reply h1) (.writeReply h1)

theorem cmdPdChain {c ecc} : s0.Kept (s.cmdPdChain c ecc) := by
  unfold State.cmdPdChain
  extract_lets +onlyGivenNames _ _
  refine .checked h fun _ h1 => ?_
  refine .ite (.reply h1) ?_
  split
  · rename_i e
    exact .reply (.of_fst (.writes h1) e)
  · rename_i e
    exact .wrReply (.pdEnWrite (.put (.put (.of_fst (.writes h1) e))))

theorem cmdPdBankWrite {c} : s0.Kept (s.cmdPdBankWrite c) := by
  unfold State.cmdPdBankWrite
  exact .checked h fun _ h1 => .writeReply h1

theorem cmdPdCommit {c ecc} : s0.Kept (s.cmdPdCommit c ecc) := by
  unfold State.cmdPdCommit
  exact .checked h fun _ h1 => .ite (.wrReply (.pdGo h1)) (.pdGo (.accept (.put h1)))

theorem cmdPdPost {c} : s0.Kept (s.cmdPdPost c) := by
  unfold State.cmdPdPost
  exact .checked h fun _ h1 => .wrReply (.pdPostWrite h1)

theorem cmdPdRollback {c} : s0.Kept (s.cmdPdRollback c) := by
  unfold State.cmdPdRollback
  exact .checked h fun _ h1 => .reply (.pdForce h1)

theorem cmdPdStatus {c} : s0.Kept (s.cmdPdStatus c) := by
  unfold State.cmdPdStatus
  exact .checked h fun _ h1 => .reply h1

theorem cmdPdAdapt {c} : s0.Kept (s.cmdPdAdapt c) := by
  unfold State.cmdPdAdapt
  exact .checked h fun _ h1 => .reply (.frame h1)

theorem cmdCalEnable {c} : s0.Kept (s.cmdCalEnable c) := by
  unfold State.cmdCalEnable
  exact .checked h fun _ h1 => .calEnWrite (.accept h1)

theorem cmdCalConfig {c} : s0.Kept (s.cmdCalConfig c) := by
  unfold State.cmdCalConfig
  exact .checked h fun _ h1 => .writeReply h1

theorem cmdCalJob {c} : s0.Kept (s.cmdCalJob c) := by
  unfold State.cmdCalJob
  extract_lets +onlyGivenNames _
  refine .checked h fun _ h1 => ?_
  extract_lets +onlyGivenNames _ _
  split
  · exact .calGo (.accept (.writes h1))
  · exact .reply (.calGo (.writes h1))

theorem cmdCalAbort {c} : s0.Kept (s.cmdCalAbort c) := by
  unfold State.cmdCalAbort
  exact .checked h fun _ h1 => .reply (.calAbort h1)

theorem cmdCalReadCorr {c} : s0.Kept (s.cmdCalReadCorr c) := by
  unfold State.cmdCalReadCorr
  exact .checked h fun _ h1 => .reply h1

theorem cmdCalFactoryCommit {c} : s0.Kept (s.cmdCalFactoryCommit c) := by
  unfold State.cmdCalFactoryCommit
  exact .checked h fun _ h1 => .complete (.factoryCommit (.accept h1))

/-! ### Opcodes: cascade, capture, kernels, events -/

theorem sendAssign {p uid da} : s0.Kept (s.sendAssign p uid da) := .frame (.sendSide h)

theorem sendDisc {da b} : s0.Kept (s.sendDisc da b) := by
  unfold State.sendDisc
  split
  · exact .frame (.sendSide h)
  · exact h

theorem foundLink {l r} : s0.Kept (State.foundLink l r s) := by
  unfold State.foundLink
  extract_lets +onlyGivenNames _ _ _ _
  refine .ite (.ite (.modCasc (.event h)) (.modCasc h)) ?_
  split
  · exact .modCasc h
  · split
    · exact .sendDisc (.modCasc (.doIf h fun _ h1 => .ite (.sendAssign h1) (.sendDisc h1)))
    · exact .modCasc h

theorem cmdCascadeDiscover {c reports} : s0.Kept (s.cmdCascadeDiscover c reports) := by
  unfold State.cmdCascadeDiscover
  exact .checked h fun _ h1 => .complete (.forAll (.modCasc (.accept h1)) fun _ _ h2 => .foundLink h2)

theorem cmdDaAssign {c} : s0.Kept (s.cmdDaAssign c) := by
  unfold State.cmdDaAssign
  exact .checked h fun _ h1 => .reply (.sendAssign h1)

theorem cmdCascadeMap {c} : s0.Kept (s.cmdCascadeMap c) := by
  unfold State.cmdCascadeMap
  exact .checked h fun _ h1 => .reply (.storeMem (.modCasc h1))

theorem cmdTreePlan {c} : s0.Kept (s.cmdTreePlan c) := by
  unfold State.cmdTreePlan
  exact .checked h fun _ h1 => .writeReply h1

theorem cmdTreeCommit {c} : s0.Kept (s.cmdTreeCommit c) := by
  unfold State.cmdTreeCommit
  refine .checked h fun _ h1 => ?_
  split
  · rename_i e
    exact .accept (.of_fst (.planCommit h1) e)
  · rename_i e
    exact .reply (.of_fst (.planCommit h1) e)

theorem cmdCascadeStatus {c} : s0.Kept (s.cmdCascadeStatus c) := by
  unfold State.cmdCascadeStatus
  exact .checked h fun _ h1 => .reply h1

theorem cmdHgControl {c} : s0.Kept (s.cmdHgControl c) := by
  unfold State.cmdHgControl
  exact .checked h fun _ h1 => .writeReply h1

theorem cmdCapture {c} : s0.Kept (s.cmdCapture c) := by
  unfold State.cmdCapture
  extract_lets +onlyGivenNames _ _
  refine .checked h fun _ h1 => ?_
  split
  · rename_i e
    exact .reply (.of_fst (.writes h1) e)
  · rename_i e
    extract_lets +onlyGivenNames s1
    have hs1 : s0.Kept s1 := .put (.of_fst (.writes h1) e)
    split
    · rename_i e1
      exact .reply (.of_error (.capGo hs1) e1)
    · extract_lets +onlyGivenNames _
      split
      · rename_i e2
        have k2 := State.Kept.of_ok (.capGo (.accept hs1)) e2
        exact .ite (.complete k2) k2
      · rename_i e2
        exact (.of_error (.capGo (.accept hs1)) e2)

theorem cmdCaptureAbort {c} : s0.Kept (s.cmdCaptureAbort c) := by
  unfold State.cmdCaptureAbort
  exact .checked h fun _ h1 => .reply (.abortCap h1)

theorem cmdPlayback {c} : s0.Kept (s.cmdPlayback c) := by
  unfold State.cmdPlayback
  refine .checked h fun _ h1 => ?_
  refine .ite (.reply (.pbStopWrite h1)) ?_
  split
  · rename_i e
    exact .reply (.of_fst (.writes h1) e)
  · rename_i e
    exact .wrReply (.pbStart (.of_fst (.writes h1) e))

theorem cmdSelftest {c evals cols} : s0.Kept (s.cmdSelftest c evals cols) := by
  unfold State.cmdSelftest
  exact .checked h fun _ h1 => .complete (.selfTest (.accept h1))

theorem cmdKernelMode {c} : s0.Kept (s.cmdKernelMode c) := by
  unfold State.cmdKernelMode
  exact .checked h fun _ h1 => .reply (.fdMode h1)

theorem loadKernel {o x n} : s0.Kept (State.loadKernel o x n s) := by
  unfold State.loadKernel
  exact .setFd (.modFlior (.put (.put (.put (.put (.forAll (.clearMem h) fun _ _ h1 => .storeMem h1))))))

theorem cmdKernelLoad {c} : s0.Kept (s.cmdKernelLoad c) := by
  unfold State.cmdKernelLoad
  exact .checked h fun _ h1 => .complete (.forAll (.accept h1) fun _ _ h2 => .loadKernel h2)

theorem startCores {resume l} : s0.Kept (State.startCores resume l s).1 := by
  induction l generalizing s with
  | nil => exact h
  | cons n t ih => exact .ite_fst (ih (.fdStart h)) (.fst (.fdStart h))

theorem cmdKernelStart {c} : s0.Kept (s.cmdKernelStart c) := by
  unfold State.cmdKernelStart
  extract_lets +onlyGivenNames _
  refine .checked h fun _ h1 => ?_
  split
  · rename_i e
    exact .reply (.of_fst (.startCores h1) e)
  · rename_i e
    exact .reply (.of_fst (.startCores h1) e)

theorem cmdKernelHalt {c} : s0.Kept (s.cmdKernelHalt c) := by
  unfold State.cmdKernelHalt
  exact .checked h fun _ h1 => .reply (.forAll h1 fun _ _ h2 => .fdHalt h2)

theorem cmdKernelDoorbell {c} : s0.Kept (s.cmdKernelDoorbell c) := by
  unfold State.cmdKernelDoorbell
  exact .checked h fun _ h1 => .reply (.fdDoorbell h1)

theorem cmdKernelStatus {c} : s0.Kept (s.cmdKernelStatus c) := by
  unfold State.cmdKernelStatus
  exact .checked h fun _ h1 => .reply h1

theorem cmdEventSubscribe {c} : s0.Kept (s.cmdEventSubscribe c) := by
  unfold State.cmdEventSubscribe
  exact .checked h fun _ h1 => .reply (.modSession h1)

theorem cmdLogRead {c} : s0.Kept (s.cmdLogRead c) := by
  unfold State.cmdLogRead
  exact .checked h fun _ h1 => .reply (.freeNext h1)

theorem cmdFaultRead {c} : s0.Kept (s.cmdFaultRead c) := by
  unfold State.cmdFaultRead
  exact .checked h fun _ h1 => .reply (.doIf h1 fun _ h2 => .clearUnit h2)

/-! ### Opcodes: time, power, memory, security -/

theorem cmdSlotWrite {c} : s0.Kept (s.cmdSlotWrite c) := by
  unfold State.cmdSlotWrite
  exact .checked h fun _ h1 => .writeReply h1

theorem cmdSlotMu {c} : s0.Kept (s.cmdSlotMu c) := by
  unfold State.cmdSlotMu
  exact .checked h fun _ h1 => .writeReply h1

theorem cmdSlotCopy {c} : s0.Kept (s.cmdSlotCopy c) := by
  unfold State.cmdSlotCopy
  exact .checked h fun _ h1 => .wrReply (.slotCopy h1)

theorem slotCommitIn {c} : s0.Kept (s.slotCommitIn c) := .ite (.complete h) (.ite (.slotCommit (.modSlot h)) (.modSlot h))

theorem cmdSlotCommit {c} : s0.Kept (s.cmdSlotCommit c) := by
  unfold State.cmdSlotCommit
  refine .checked h fun _ h1 => ?_
  refine .ite (.slotCommit (.modSlot (.keepRunning h1))) ?_
  split
  · exact .reply h1
  · exact .slotCommitIn (.accept h1)

theorem cmdSlotCancel {c} : s0.Kept (s.cmdSlotCancel c) := by
  unfold State.cmdSlotCancel
  exact .checked h fun _ h1 => .wrReply (.slotCancel h1)

theorem cmdFrameConfig {c} : s0.Kept (s.cmdFrameConfig c) := by
  unfold State.cmdFrameConfig
  exact .checked h fun _ h1 => .writeReply h1

theorem cmdTimeSet {c} : s0.Kept (s.cmdTimeSet c) := by
  unfold State.cmdTimeSet
  exact .checked h fun _ h1 => .reply (.tuStep (.writes h1))

theorem cmdTimeGet {c} : s0.Kept (s.cmdTimeGet c) := by
  unfold State.cmdTimeGet
  exact .checked h fun _ h1 => .reply h1

theorem cmdServoConfig {c} : s0.Kept (s.cmdServoConfig c) := by
  unfold State.cmdServoConfig
  exact .checked h fun _ h1 => .writeReply h1

theorem cmdTimeSelect {c} : s0.Kept (s.cmdTimeSelect c) := by
  unfold State.cmdTimeSelect
  exact .checked h fun _ h1 => .writeReply h1

theorem cmdPpsConfig {c} : s0.Kept (s.cmdPpsConfig c) := by
  unfold State.cmdPpsConfig
  exact .checked h fun _ h1 => .writeReply h1

theorem cmdStateSet {c} : s0.Kept (s.cmdStateSet c) := by
  unfold State.cmdStateSet
  exact .checked h fun _ h1 => .stateSet (.accept h1)

theorem cmdStateGet {c} : s0.Kept (s.cmdStateGet c) := by
  unfold State.cmdStateGet
  exact .checked h fun _ h1 => .reply (.freeNext h1)

theorem cmdThermConfig {c} : s0.Kept (s.cmdThermConfig c) := by
  unfold State.cmdThermConfig
  exact .checked h fun _ h1 => .writeReply h1

theorem cmdThermRead {c} : s0.Kept (s.cmdThermRead c) := by
  unfold State.cmdThermRead
  exact .checked h fun _ h1 => .reply h1

theorem cmdLarkRule {c} : s0.Kept (s.cmdLarkRule c) := by
  unfold State.cmdLarkRule
  exact .checked h fun _ h1 => .writeReply h1

theorem agentRead {mid a} : s0.Kept (s.agentRead mid a).1 := .ite_fst (.fst h) (.fst (.regRead h))

theorem agentWrite {mid a mask v} : s0.Kept (s.agentWrite mid a mask v).state :=
  .ite_state (.ok h) (.ite_state (.ok (.storeMem h)) (.regWrite h))

theorem readWords {mid k a} : s0.Kept (State.readWords mid k a s).1 := by
  induction k generalizing s a with
  | zero => exact h
  | succ k ih =>
    unfold State.readWords
    split
    · exact ih (.agentRead h)
    · exact .fst (.freeze h)

theorem cmdRegRead {c} : s0.Kept (s.cmdRegRead c) := by
  unfold State.cmdRegRead
  extract_lets +onlyGivenNames _ _
  refine .checked h fun _ h1 => ?_
  split
  · rename_i e
    exact .reply (.of_fst (.readWords h1) e)
  · rename_i e
    exact (.of_fst (.readWords h1) e)

theorem regTriples {mid l} : s0.Kept (State.regTriples mid l s).1 := by
  induction l generalizing s with
  | nil => exact h
  | cons p t ih =>
    unfold State.regTriples
    split
    · split
      · rename_i e
        exact .fst (.of_error (.agentWrite h) e)
      · rename_i s1 e
        have h1 : s0.Kept s1 := .of_ok (.agentWrite h) e
        split
        rename_i s2 w e2
        have h2 : s0.Kept s2 := .of_fst (.agentRead h1) e2
        split
        · rename_i e3
          exact .fst (.of_fst (ih h2) e3)
        · exact ih h2
    · exact .fst (.freeze h)
    · exact .fst (.freeze h)

theorem cmdRegWrite {c} : s0.Kept (s.cmdRegWrite c) := by
  unfold State.cmdRegWrite
  extract_lets +onlyGivenNames _ _
  refine .checked h fun _ h1 => ?_
  split
  · rename_i e
    exact .reply (.of_fst (.regTriples h1) e)
  · rename_i e
    exact (.of_fst (.regTriples h1) e)
  · rename_i e
    exact .reply (.of_fst (.regTriples h1) e)

theorem cmdMemRead {c ecc} : s0.Kept (s.cmdMemRead c ecc) := by
  unfold State.cmdMemRead
  refine .checked h fun _ h1 => ?_
  split
  · exact .freeze h1
  · split
    rename_i e
    exact .reply (.of_fst (.perform h1) e)

theorem memWords {mid a l} : s0.Kept (State.memWords mid a l s).1 := by
  fun_induction State.memWords mid a l s with
  | case1 => exact h
  | case2 _ _ _ _ _ _ _ _ e ih => exact ih (.of_ok (.regWrite h) e)
  | case3 _ _ _ _ _ _ _ _ e => exact .of_error (.regWrite h) e
  | case4 => exact h

theorem cmdMemWrite {c ecc} : s0.Kept (s.cmdMemWrite c ecc) := by
  unfold State.cmdMemWrite
  extract_lets +onlyGivenNames _ _ _
  refine .checked h fun _ h1 => ?_
  split
  · exact .freeze h1
  · refine .ite (.reply (.mergeStore h1)) ?_
    split
    · rename_i e
      exact .reply (.of_fst (.memWords h1) e)
    · rename_i e
      exact .reply (.of_fst (.memWords h1) e)

theorem cmdSmemPartition {c} : s0.Kept (s.cmdSmemPartition c) := by
  unfold State.cmdSmemPartition
  exact .checked h fun _ h1 => .writeReply h1

theorem cmdBankRetire {c} : s0.Kept (s.cmdBankRetire c) := by
  unfold State.cmdBankRetire
  refine .checked h fun _ h1 => ?_
  split
  · rename_i e
    exact .accept (.of_fst (.retireGo h1) e)
  · rename_i e
    exact .reply (.of_fst (.retireGo h1) e)

theorem cmdFwStage {c} : s0.Kept (s.cmdFwStage c) := by
  unfold State.cmdFwStage
  exact .checked h fun _ h1 => .reply (.setReg (.storeMem h1))

theorem cmdFwActivate {c} : s0.Kept (s.cmdFwActivate c) := by
  unfold State.cmdFwActivate
  extract_lets +onlyGivenNames _ _
  refine .checked h fun _ h1 => ?_
  split
  · exact .fwActivate (.accept h1)
  · rename_i e
    exact .complete (.accept (.of_fst (.fwActivate h1) e))
  · rename_i e
    exact .reply (.of_fst (.fwActivate h1) e)

theorem cmdFwStatus {c} : s0.Kept (s.cmdFwStatus c) := by
  unfold State.cmdFwStatus
  exact .checked h fun _ h1 => .reply h1

theorem cmdAttest {c} : s0.Kept (s.cmdAttest c) := by
  unfold State.cmdAttest
  exact .checked h fun _ h1 => .reply h1

theorem cmdSessionOpen {c} : s0.Kept (s.cmdSessionOpen c) := by
  unfold State.cmdSessionOpen
  extract_lets +onlyGivenNames _
  refine .checked h fun _ h1 => ?_
  extract_lets +onlyGivenNames _ _ _ _ _ _ s1
  have hs1 : s0.Kept s1 := .served (.setSess (.showEvq (.modSession (.put (.put (.put h1))))))
  exact .ite hs1 (.putReply hs1)

theorem agentWindow {x priv} : s0.Kept (s.agentWindow x priv) := .put (.put (.put (.put (.put h))))

theorem openSession {x priv c} : s0.Kept (s.openSession x priv c) := by
  unfold State.openSession
  exact .setSess (.forAll (.agentWindow (.modSession (.put h))) fun _ _ h1 => .setReg h1)

theorem cmdSessionFinish {c} : s0.Kept (s.cmdSessionFinish c) := by
  unfold State.cmdSessionFinish
  extract_lets +onlyGivenNames _
  refine .checked h fun _ h1 => ?_
  extract_lets +onlyGivenNames d2
  clear_value d2
  split
  · exact .reply (.openSession h1)
  · exact .showHeld (.modSession (.setSess (.reply h1)))

theorem cmdSessionClose {c} : s0.Kept (s.cmdSessionClose c) := by
  unfold State.cmdSessionClose
  exact .checked h fun _ h1 => .ite (.closeSession (.reply h1)) (.reply (.closeSession h1))

theorem cmdCredEnroll {c} : s0.Kept (s.cmdCredEnroll c) := by
  unfold State.cmdCredEnroll
  exact .checked h fun _ h1 => .reply (.modTh h1)

theorem cmdCredRevoke {c} : s0.Kept (s.cmdCredRevoke c) := by
  unfold State.cmdCredRevoke
  exact .checked h fun _ h1 => .reply (.forAll (.modTh h1) fun _ _ h2 => .closeSession h2)

/-! ### Dispatch of an opcode -/

theorem runOpcode {c x} : s0.Kept (s.runOpcode c x) := by
  unfold State.runOpcode
  split
  · exact .cmdMuteAll h
  · exact .cmdPaOff h
  · exact .cmdChainMute h
  · exact .cmdPing h
  · exact .cmdIdent h
  · exact .cmdReset h
  · exact .cmdUnfreeze h
  · exact .cmdFreezeList h
  · exact .cmdCarrierClaim h
  · exact .cmdCarrierRelease h
  · exact .cmdCarrierConfig h
  · exact .cmdCarrierEnable h
  · exact .cmdCarrierUlFormat h
  · exact .cmdCarrierGain h
  · exact .cmdPrachConfig h
  · exact .cmdCarrierStatus h
  · exact .cmdLoMode h
  · exact .cmdTune h
  · exact .cmdArrayArm h
  · exact .cmdQloTrim h
  · exact .cmdChainSet h
  · exact .cmdOrxConfig h
  · exact .cmdCfrConfig h
  · exact .cmdCfrPulse h
  · exact .cmdBeamBlockClaim h
  · exact .cmdBeamBlockRelease h
  · exact .cmdWsetDeclare h
  · exact .cmdWsetWrite h
  · exact .cmdBeamWrite h
  · exact .cmdSteer h
  · exact .cmdBfShift h
  · exact .cmdBeamDefault h
  · exact .cmdGeomWrite h
  · exact .cmdPdConfig h
  · exact .cmdPdChain h
  · exact .cmdPdBankWrite h
  · exact .cmdPdCommit h
  · exact .cmdPdPost h
  · exact .cmdPdRollback h
  · exact .cmdPdStatus h
  · exact .cmdPdAdapt h
  · exact .cmdCalEnable h
  · exact .cmdCalConfig h
  · exact .cmdCalJob h
  · exact .cmdCalAbort h
  · exact .cmdCalReadCorr h
  · exact .cmdCalFactoryCommit h
  · exact .cmdSlotWrite h
  · exact .cmdSlotMu h
  · exact .cmdSlotCopy h
  · exact .cmdSlotCommit h
  · exact .cmdSlotCancel h
  · exact .cmdFrameConfig h
  · exact .cmdTimeSet h
  · exact .cmdTimeGet h
  · exact .cmdServoConfig h
  · exact .cmdTimeSelect h
  · exact .cmdPpsConfig h
  · exact .cmdStateSet h
  · exact .cmdStateGet h
  · exact .cmdThermConfig h
  · exact .cmdThermRead h
  · exact .cmdLarkRule h
  · exact .cmdRegRead h
  · exact .cmdRegWrite h
  · exact .cmdMemRead h
  · exact .cmdMemWrite h
  · exact .cmdSmemPartition h
  · exact .cmdBankRetire h
  · exact .cmdFwStage h
  · exact .cmdFwActivate h
  · exact .cmdFwStatus h
  · exact .cmdAttest h
  · exact .cmdSessionOpen h
  · exact .cmdSessionFinish h
  · exact .cmdSessionClose h
  · exact .cmdCredEnroll h
  · exact .cmdCredRevoke h
  · exact .cmdCascadeDiscover h
  · exact .cmdDaAssign h
  · exact .cmdCascadeMap h
  · exact .cmdTreePlan h
  · exact .cmdTreeCommit h
  · exact .cmdCascadeStatus h
  · exact .cmdHgControl h
  · exact .cmdCapture h
  · exact .cmdCaptureAbort h
  · exact .cmdPlayback h
  · exact .cmdSelftest h
  · exact .cmdKernelMode h
  · exact .cmdKernelLoad h
  · exact .cmdKernelStart h
  · exact .cmdKernelHalt h
  · exact .cmdKernelDoorbell h
  · exact .cmdKernelStatus h
  · exact .cmdEventSubscribe h
  · exact .cmdLogRead h
  · exact .cmdFaultRead h
  · exact .reply h

/-! ### The command front end -/

theorem seqEnd {c} : s0.Kept (s.seqEnd c) := .ite (.closeSession h) h

theorem authentic {c h' b} : s0.Kept (s.authentic c h' b).1 := by
  unfold State.authentic
  extract_lets +onlyGivenNames _
  refine .ite_fst (.ite_fst (.fst (.sendReply (.count h))) (.fst h))
    (.ite_fst (.fst (.sendReply h)) (.ite_fst (.ite_fst (.fst (.count h)) (.fst h))
    (.ite_fst (.fst (.tagFail (.sendReply h))) ?_)))
  extract_lets +onlyGivenNames _
  refine .ite_fst (.fst (.sendReply (.count (.modSession h)))) ?_
  extract_lets +onlyGivenNames s1
  have hs1 : s0.Kept s1 := .modSession (.modSession h)
  exact .ite_fst (.fst (.count hs1)) (.fst hs1)

theorem enqueue {c q} : s0.Kept (s.enqueue c q) := .showHeldOf (.modFe (.frame h))

theorem touch {c} : s0.Kept (s.touch c) := .ite (.modSession h) h

theorem admitCmd {c q} : s0.Kept (s.admitCmd c q) :=
  .ite (.seqEnd (.runOpcode (.touch h))) (.ite (.seqEnd (.sendReply (.count h)))
    (.ite (.seqEnd (.sendReply (.count h))) (.enqueue (.touch h))))

theorem passDown {c q ports b} : s0.Kept (s.passDown c q ports b) := by
  unfold State.passDown
  exact .forAll (.doIf h fun _ h1 => .modFe h1) fun _ _ h1 => .sendSide h1

theorem commandAt {c b} : s0.Kept (s.commandAt c b) := by
  unfold State.commandAt
  extract_lets +onlyGivenNames _ _ _ _
  split
  · exact .seqEnd (.sendReply h)
  · exact .ite (.seqEnd (.sendReply h)) (.ite (.seqEnd (.sendReply h))
      (.ite (.seqEnd (.sendReply h)) (.ite (.ite (.seqEnd (.sendReply h)) (.passDown (.touch h)))
      (.admitCmd (.doIf h fun _ h1 => .passDown h1)))))

theorem commandIn {via src ty b} : s0.Kept (s.commandIn via src ty b) := by
  unfold State.commandIn
  extract_lets +onlyGivenNames _ _
  refine .ite h (.ite (.count h) (.ite (.ite (.ite (.bootLoad h) (.bootGo h)) (.count h))
    (.ite (.count h) (.ite (.sendReply h) ?_))))
  split
  · rename_i e
    exact .commandAt (.of_fst (.authentic h) e)
  · rename_i e
    exact (.of_fst (.authentic h) e)

theorem relayReply {b} : s0.Kept (s.relayReply b) := by
  unfold State.relayReply
  extract_lets +onlyGivenNames _ _ _
  refine .ite h (.ite ?_ (.ite h (.seqEnd (.putReply h))))
  split
  · exact .putReply (.modFe h)
  · exact h

theorem relayEvent {b} : s0.Kept (s.relayEvent b) := by
  unfold State.relayEvent
  exact .ite h (.ite (.forAll h fun _ _ h1 => .emit h1) (.ite (.putEvent h) h))

theorem dropHead {q} : s0.Kept (s.dropHead q) := .modFe h

theorem takeNext {x} : s0.Kept (s.takeNext x) := by
  unfold State.takeNext
  refine .ite h ?_
  split
  · exact h
  · split
    · exact h
    · extract_lets +onlyGivenNames s1
      have hs1 : s0.Kept s1 := .showHeldOf (.modFe (.dropHead h))
      exact .seqEnd (.ite (.reply hs1) (.runOpcode hs1))

theorem ageOut {q} : s0.Kept (s.ageOut q) := by
  unfold State.ageOut
  split
  · exact h
  · exact .seqEnd (.reply (.showHeldOf (.dropHead (.advanceTo h))))

theorem publishLoad : s0.Kept s.publishLoad := by
  unfold State.publishLoad
  exact .doIf (.modFe (.forAll (.forAll (.tickTo h) fun _ _ h1 => .put (.put (.put (.put h1)))) fun _ _ h1 => .put
    (.put h1))) fun _ h1 => .event h1

theorem spiRead : s0.Kept s.spiRead := by
  unfold State.spiRead
  split
  · exact .emit (.modFe h)
  · exact h

theorem spiFill {x} : s0.Kept (s.spiFill x) := by
  unfold State.spiFill
  split
  · exact .ite h (.ite (.spiPut (.modSession h)) (.spiPut (.modFe h)))
  · exact h

theorem eventRoom {x n} : s0.Kept (s.eventRoom x n) := by
  unfold State.eventRoom
  extract_lets +onlyGivenNames _ _ s1 _
  have hs1 : s0.Kept s1 := .showEvq (.modSession (.forAll h fun _ _ h1 => .emit h1))
  exact .ite hs1 (.sendEvent (.modSession hs1))

/-! ### Frames of the ports -/

theorem takeCopy {y} : s0.Kept (State.takeCopy y s) := by
  unfold State.takeCopy
  exact .ite (.ite (.setSess (.put h)) (.breakStiles (.releaseAll (.showHeld (.modSession (.modFe (.setSess (.put h))))))))
    (.forAll (.forAll (.forAll (.forAll (.doIf (.setSess (.put h)) fun _ h1 => .agentWindow (.modSession h1))
    fun _ _ h1 => .put h1) fun _ _ h1 => .setBlock h1) fun _ _ h1 => .put h1) fun _ _ h1 => .setBlock h1)

theorem takeTable {l} : s0.Kept (s.takeTable l) := by
  unfold State.takeTable
  exact .forAll (.forAll h fun _ _ h1 => .emit h1) fun _ _ h1 => .takeCopy h1

theorem fwdDrop : s0.Kept s.fwdDrop := .count h

theorem passOn {ports kind dst src frag l} : s0.Kept (s.passOn ports kind dst src frag l) := by
  unfold State.passOn
  exact .forAll h fun _ _ h1 => .emit h1

theorem assemble {key frag l} : s0.Kept (s.assemble key frag l).1 := by
  unfold State.assemble
  extract_lets +onlyGivenNames _
  refine .ite_fst (.fst (.modCasc h)) (.ite_fst (.fst (.modCasc h)) (.ite_fst (.fst h) ?_))
  split
  · exact .ite_fst (.fst (.modCasc h)) (.fst (.modCasc h))
  · exact .fst h

theorem discFrame {p dst src b} : s0.Kept (s.discFrame p dst src b) := by
  unfold State.discFrame
  exact .ite (.ite (.daReceive h) h) (.ite h (.ite (.sendAssign h) (.forAll h fun _ _ h1 => .sendSide h1)))

theorem deliver {p kind dst src b} : s0.Kept (s.deliver p kind dst src b) := by
  unfold State.deliver
  split
  · exact .commandIn h
  · exact .sectForwarded h
  · exact .timeFrame h
  · exact .commandIn h
  · exact .relayReply h
  · exact .relayEvent h
  · exact .discFrame h
  · exact h

theorem sideFrame {p kind dst src frag l hdrOk crcOk table} : s0.Kept
  (s.sideFrame p kind dst src frag l hdrOk crcOk table) := by
  unfold State.sideFrame
  extract_lets +onlyGivenNames _
  refine .ite h (.ite (.count h) (.ite h (.ite (.modCasc (.count h)) (.ite (.fwdDrop h) ?_))))
  split
  · exact .ite (.takeTable h) (.fwdDrop h)
  · refine .ite (.ite (.passOn h) ?_) ?_
    · split
      · rename_i e
        exact .deliver (.of_fst (.assemble h) e)
      · rename_i e
        exact (.of_fst (.assemble h) e)
    · extract_lets +onlyGivenNames _ _ _
      refine .ite (.ite (.fwdDrop (.passOn h)) (.passOn h)) ?_
      split
      · rename_i e
        exact .deliver (.of_fst (.assemble (.passOn h)) e)
      · rename_i e
        exact (.of_fst (.assemble (.passOn h)) e)

theorem message {iq cmd m} : s0.Kept (State.message iq cmd m s) := by
  unfold State.message
  split
  · exact .badHdr h
  · exact .ite (.iqMessage h) (.ite (.sectMessage h) (.ite (.commandIn h) (.badHdr h)))

theorem hpFrame {e l corr uncorr bad res room} : s0.Kept (s.hpFrame e l corr uncorr bad res room) := by
  unfold State.hpFrame
  refine .ite h ?_
  extract_lets +onlyGivenNames _
  refine .ite (.ite (.rxDrop (.count (.countBy (.countBy h)))) (.hp1Forward (.countBy (.countBy h)))) ?_
  extract_lets +onlyGivenNames s1
  have hs1 : s0.Kept s1 := .count (.countBy (.countBy h))
  refine .ite (.rxDrop hs1) ?_
  split
  · exact .rxDrop hs1
  · exact .count hs1
  · exact .forward hs1
  · exact .emit hs1
  · exact .doIf (.emit hs1) fun _ h1 => .forward h1
  · exact .ite hs1 (.forAll hs1 fun _ _ h1 => .message h1)

/-! ### Symbol and frame boundaries -/

theorem endDl {cs o} : s0.Kept (s.endDl cs o) := by
  unfold State.endDl
  exact .forAll h fun _ _ h1 => .pdDiverge h1

theorem endUl {cs o} : s0.Kept (s.endUl cs o) := by
  unfold State.endUl
  exact .forAll (.forAll h fun _ _ h1 => .doIf h1 fun _ h2 => .rxInvalid h2) fun _ _ h1 => .judgeSymbol h1

theorem instantTx {b q} : s0.Kept (State.instantTx b q s) := by
  unfold State.instantTx
  exact .ite (.forAll (.modBound (.trimOnce (.applyCfr h))) fun _ _ h1 => .pdBoundary (.applyTx h1)) h

theorem instantRx {b q} : s0.Kept (State.instantRx b q s) := by
  unfold State.instantRx
  exact .ite (.forAll (.modBound (.trimOnce h)) fun _ _ h1 => .applyRx h1) h

theorem quietStart {dir q} : s0.Kept (State.quietStart dir q s) := by
  unfold State.quietStart
  exact .ite (.forAll h fun _ _ h1 => .trimRefresh (.loadDcoTable h1)) h

theorem beginDl {cs k n b} : s0.Kept (s.beginDl cs k n b) := by
  unfold State.beginDl
  extract_lets +onlyGivenNames _ _ _ _ _ _ _ s1 _ _ _
  have hs1 : s0.Kept s1 := .forAll (.forAll (.forAll (.forAll (.addWave (.applySlot (.endFailHold h)))
    fun _ _ h1 => .instantTx h1) fun _ _ h1 => .endZero h1) fun _ _ h1 => .doIf h1 fun _ h2 => .quietStart h2)
    fun _ _ h1 => .doIf h1 fun _ h2 => .txLate h2
  exact .modBound (.ite hs1 (.pbBoundary hs1))

theorem beginUl {cs k n b} : s0.Kept (s.beginUl cs k n b) := by
  unfold State.beginUl
  exact .modBound (.putUlSym (.modLo (.forAll (.forAll (.forAll
    (.forAll (.applySlot (.endFailHold h)) fun _ _ h1 => .instantRx h1) fun _ _ h1 => .modChain h1)
    fun _ _ h1 => .quietStart h1) fun _ _ h1 => .modChain h1)))

theorem endSymbol {d cs b} : s0.Kept (s.endSymbol d cs b) := by
  unfold State.endSymbol
  split
  · extract_lets +onlyGivenNames _
    refine .ite ?_ (.modBound h)
    split
    · exact .endDl (.modBound h)
    · exact .endUl (.modBound h)
  · exact h

theorem streamsTo {b l} : s0.Kept (s.streamsTo b l) := .txAdvance (.rxTake (.advanceTo h))

theorem symbolBoundary {d cs l ecc} : s0.Kept (s.symbolBoundary d cs l ecc) := by
  unfold State.symbolBoundary
  refine .ite ?_ ?_
  · split
    extract_lets +onlyGivenNames s1
    have hs1 : s0.Kept s1 := .pdErrors (.endSymbol (.streamsTo h))
    split
    · exact .calWatch (.beginDl hs1)
    · exact .calWatch (.beginUl hs1)
  · split
    · exact .ite (.calWatch (.endSymbol (.streamsTo h))) (.endSymbol h)
    · exact h

theorem releaseDue {d} : s0.Kept (State.releaseDue d s) := by
  unfold State.releaseDue
  exact .forAll (.frame h) fun _ _ h1 => .completeJob (.ite (.tellSession (.put h1)) (.put h1))

theorem enableFrame {d} : s0.Kept (State.enableFrame d s) := by
  unfold State.enableFrame
  extract_lets +onlyGivenNames _ _ _ _ _ s1
  have hs1 : s0.Kept s1 := .forAll (.forAll (.releaseDue (.enDone (.enApply h))) fun _ _ h1 => .applySlot h1)
    fun _ _ h1 => .refreshReady (.stopQuad h1)
  split
  · exact .forAll hs1 fun _ _ h1 => .clearRing h1
  · exact hs1

theorem commitIn {k} : s0.Kept (s.commitIn k) := by
  unfold State.commitIn
  split
  · exact .ite (.ite (.complete (.modSlot h)) (.slotCommit (.modSlot h))) h
  · exact h

theorem tempFrame : s0.Kept s.tempFrame := by
  unfold State.tempFrame
  exact .modPw (.calFrame (.forAll h fun _ _ h1 => .bandEval h1))

theorem dlFrame {k} : s0.Kept (s.dlFrame k) :=
  .armTimeout (.advanceTry (.tempFrame (.commitIn (.enableFrame
    (.cascFrame (.applyProfiles (.gatingApply (.convFrame (.slotSwap (.publishCe (.txAdvance h)))))))))))

theorem idleQuiet {q} : s0.Kept (State.idleQuiet q s) := .ite (.quietStart h) h

theorem ulFrame : s0.Kept s.ulFrame := by
  unfold State.ulFrame
  exact .forAll (.forAll (.forAll (.enableFrame (.pruneSig h)) fun _ _ h1 => .applyUlFmt h1) fun _ _ h1 => .applyPrach h1)
    fun _ _ h1 => .idleQuiet h1

theorem frameBoundary {d} : s0.Kept (s.frameBoundary d) := by
  unfold State.frameBoundary
  extract_lets +onlyGivenNames _
  split
  extract_lets +onlyGivenNames s1
  have hs1 : s0.Kept s1 := .modBound (.advanceTo h)
  split
  · exact .dlFrame hs1
  · exact .ulFrame hs1

theorem resetTimeout : s0.Kept s.resetTimeout := by
  unfold State.resetTimeout
  split
  · exact .ite (.startRom (.deviceReset h)) h
  · exact h

theorem idle : s0.Kept s.idle := .resetTimeout (.armTimeout (.frame h))

end

end State.Kept

/-! ### Every command, and a step -/

/-- The next state of an outcome, if it has one, is kept. -/
def State.KeptBy (s0 : State) (o : Host.Outcome State Fault Refusal) : Prop := ∀ t, o = .next t → s0.Kept t

namespace State.KeptBy
variable {s0 s : State} (h : s0.Kept s)
include h

theorem next : s0.KeptBy (.next s) := by
  intro t e
  cases e
  exact h

theorem execQuadrantRelock {q bad} : s0.KeptBy (Machine.execQuadrantRelock q bad s) := by
  unfold Machine.execQuadrantRelock
  exact .next (.moveCheck (.quadRelock (.doIf h fun _ h1 => .eventAll (.report (.put h1)))))

theorem execSlotCheckDone : s0.KeptBy (Machine.execSlotCheckDone s) := by
  unfold Machine.execSlotCheckDone
  refine .next ?_
  split
  · exact .ite (.slotCheckDone h) (.seqEnd (.slotCheckDone h))
  · exact .slotCheckDone h

theorem execMemRetireGo {bank} : s0.KeptBy (Machine.execMemRetireGo bank s) := by
  unfold Machine.execMemRetireGo
  exact .next (.retireGo (.doIf h fun _ h1 => .put h1))

/-- Every command keeps what the state before kept. -/
theorem exec : ∀ i : Instr, s0.KeptBy (Machine.exec i s)
  | .hostCommandPacket .. => .next (.commandIn h)
  | .spiRead => .next (.spiRead h)
  | .commandDispatch .. => .next (.takeNext h)
  | .queueAgeTimeout .. => .next (.ageOut h)
  | .loadMonitorPublish => .next (.publishLoad h)
  | .eventQueueRoom .. => .next (.eventRoom h)
  | .spiBufferRoom .. => .next (.spiFill h)
  | .sessionOpeningTimeout .. => .next (.openingTimeout h)
  | .sessionIdleTimeout .. => .next (.idleTimeout h)
  | .muteAll .. => .next (.cmdMuteAll h)
  | .paOff .. => .next (.cmdPaOff h)
  | .chainMute .. => .next (.cmdChainMute h)
  | .tune .. => .next (.cmdTune h)
  | .stateSet .. => .next (.cmdStateSet h)
  | .ping .. => .next (.cmdPing h)
  | .ident .. => .next (.cmdIdent h)
  | .reset .. => .next (.cmdReset h)
  | .unfreeze .. => .next (.cmdUnfreeze h)
  | .freezeList .. => .next (.cmdFreezeList h)
  | .carrierClaim .. => .next (.cmdCarrierClaim h)
  | .carrierRelease .. => .next (.cmdCarrierRelease h)
  | .carrierConfig .. => .next (.cmdCarrierConfig h)
  | .carrierEnable .. => .next (.cmdCarrierEnable h)
  | .carrierUlFormat .. => .next (.cmdCarrierUlFormat h)
  | .carrierGain .. => .next (.cmdCarrierGain h)
  | .prachConfig .. => .next (.cmdPrachConfig h)
  | .carrierStatus .. => .next (.cmdCarrierStatus h)
  | .loMode .. => .next (.cmdLoMode h)
  | .arrayArm .. => .next (.cmdArrayArm h)
  | .qloTrim .. => .next (.cmdQloTrim h)
  | .chainSet .. => .next (.cmdChainSet h)
  | .orxConfig .. => .next (.cmdOrxConfig h)
  | .cfrConfig .. => .next (.cmdCfrConfig h)
  | .cfrPulse .. => .next (.cmdCfrPulse h)
  | .beamBlockClaim .. => .next (.cmdBeamBlockClaim h)
  | .beamBlockRelease .. => .next (.cmdBeamBlockRelease h)
  | .wsetDeclare .. => .next (.cmdWsetDeclare h)
  | .wsetWrite .. => .next (.cmdWsetWrite h)
  | .beamWrite .. => .next (.cmdBeamWrite h)
  | .steer .. => .next (.cmdSteer h)
  | .bfShift .. => .next (.cmdBfShift h)
  | .beamDefault .. => .next (.cmdBeamDefault h)
  | .geomWrite .. => .next (.cmdGeomWrite h)
  | .pdConfig .. => .next (.cmdPdConfig h)
  | .pdChain .. => .next (.cmdPdChain h)
  | .pdBankWrite .. => .next (.cmdPdBankWrite h)
  | .pdCommit .. => .next (.cmdPdCommit h)
  | .pdPost .. => .next (.cmdPdPost h)
  | .pdRollback .. => .next (.cmdPdRollback h)
  | .pdStatus .. => .next (.cmdPdStatus h)
  | .pdAdapt .. => .next (.cmdPdAdapt h)
  | .calEnable .. => .next (.cmdCalEnable h)
  | .calConfig .. => .next (.cmdCalConfig h)
  | .calJob .. => .next (.cmdCalJob h)
  | .calAbort .. => .next (.cmdCalAbort h)
  | .calReadCorr .. => .next (.cmdCalReadCorr h)
  | .calFactoryCommit .. => .next (.cmdCalFactoryCommit h)
  | .slotWrite .. => .next (.cmdSlotWrite h)
  | .slotMu .. => .next (.cmdSlotMu h)
  | .slotCopy .. => .next (.cmdSlotCopy h)
  | .slotCommit .. => .next (.cmdSlotCommit h)
  | .slotCancel .. => .next (.cmdSlotCancel h)
  | .frameConfig .. => .next (.cmdFrameConfig h)
  | .timeSet .. => .next (.cmdTimeSet h)
  | .timeGet .. => .next (.cmdTimeGet h)
  | .servoConfig .. => .next (.cmdServoConfig h)
  | .timeSelect .. => .next (.cmdTimeSelect h)
  | .ppsConfig .. => .next (.cmdPpsConfig h)
  | .stateGet .. => .next (.cmdStateGet h)
  | .thermConfig .. => .next (.cmdThermConfig h)
  | .thermRead .. => .next (.cmdThermRead h)
  | .larkRule .. => .next (.cmdLarkRule h)
  | .regRead .. => .next (.cmdRegRead h)
  | .regWrite .. => .next (.cmdRegWrite h)
  | .memRead .. => .next (.cmdMemRead h)
  | .memWrite .. => .next (.cmdMemWrite h)
  | .smemPartition .. => .next (.cmdSmemPartition h)
  | .bankRetire .. => .next (.cmdBankRetire h)
  | .fwStage .. => .next (.cmdFwStage h)
  | .fwActivate .. => .next (.cmdFwActivate h)
  | .fwStatus .. => .next (.cmdFwStatus h)
  | .attest .. => .next (.cmdAttest h)
  | .sessionOpen .. => .next (.cmdSessionOpen h)
  | .sessionFinish .. => .next (.cmdSessionFinish h)
  | .sessionClose .. => .next (.cmdSessionClose h)
  | .credEnroll .. => .next (.cmdCredEnroll h)
  | .credRevoke .. => .next (.cmdCredRevoke h)
  | .cascadeDiscover .. => .next (.cmdCascadeDiscover h)
  | .daAssign .. => .next (.cmdDaAssign h)
  | .cascadeMap .. => .next (.cmdCascadeMap h)
  | .treePlan .. => .next (.cmdTreePlan h)
  | .treeCommit .. => .next (.cmdTreeCommit h)
  | .cascadeStatus .. => .next (.cmdCascadeStatus h)
  | .hgControl .. => .next (.cmdHgControl h)
  | .capture .. => .next (.cmdCapture h)
  | .captureAbort .. => .next (.cmdCaptureAbort h)
  | .playback .. => .next (.cmdPlayback h)
  | .selftest .. => .next (.cmdSelftest h)
  | .kernelMode .. => .next (.cmdKernelMode h)
  | .kernelLoad .. => .next (.cmdKernelLoad h)
  | .kernelStart .. => .next (.cmdKernelStart h)
  | .kernelHalt .. => .next (.cmdKernelHalt h)
  | .kernelDoorbell .. => .next (.cmdKernelDoorbell h)
  | .kernelStatus .. => .next (.cmdKernelStatus h)
  | .eventSubscribe .. => .next (.cmdEventSubscribe h)
  | .logRead .. => .next (.cmdLogRead h)
  | .faultRead .. => .next (.cmdFaultRead h)
  | .bootLoad .. => .next (.bootLoad h)
  | .bootGo .. => .next (.bootGo h)
  | .bootRequest => .next (.bootRequest h)
  | .registerWrite .. => .next (.regWrite h)
  | .txEnWrite .. => .next (.txEnWrite h)
  | .rxEnWrite .. => .next (.rxEnWrite h)
  | .txMuteWrite .. => .next (.txMuteWrite h)
  | .rxMuteWrite .. => .next (.rxMuteWrite h)
  | .rxProtWrite .. => .next (.rxProtWrite h)
  | .txPowerUpDone .. => .next (.moveCheck (.txPowerUpDone h))
  | .rxPowerUpDone .. => .next (.moveCheck (.rxPowerUpDone h))
  | .symbolBoundary .. => .next (.symbolBoundary h)
  | .frameBoundary .. => .next (.frameBoundary h)
  | .convRelockTimeout .. => .next (.ite (.settle (.report (.frame (.modDfe h)))) h)
  | .arrArmWrite => .next (.arrArm h)
  | .arrsyncEdge => .next (.ite (.moveCheck (.hgAligned (.loArrsync h))) (.loArrsync h))
  | .loModeWrite .. => .next (.loMode h)
  | .tuneGo => .next (.tuneGo h)
  | .synCalDone .. => .next (.moveCheck (.synCalDone h))
  | .synCalTimeout .. => .next (.moveCheck (.synCalTimeout h))
  | .switchOver => .next (.calSwitched (.switchOver h))
  | .switchOverTransientEnd => .next (.transientEnd h)
  | .quietWindowRetune => .next (.windowRetune h)
  | .bandSettleDone .. => .next (.bandSettled h)
  | .tuneWaitTimeout => .next (.tuneTimeout h)
  | .loUnlock .. => .next (.loUnlock h)
  | .loDrift .. => .next (.loDrift h)
  | .mirrorRecalibration => .next (.mirrorRecal h)
  | .quadrantRelock .. => .execQuadrantRelock h
  | .convUnlock .. => .next (.convUnlock h)
  | .csRfCommit .. => .next (.rfCommit h)
  | .captureGo .. => .next (.capGo h)
  | .orxselDrive .. => .next (.orxDrive h)
  | .captureStart .. => .next (.captureStart h)
  | .captureDone .. => .next (.captureDone h)
  | .captureTimeout .. => .next (.captureTimeout h)
  | .capAbortWrite .. => .next (.abortCap h)
  | .playbackStart => .next (.pbStart h)
  | .playbackStop => .next (.pbStopWrite h)
  | .pdEnableWrite .. => .next (.pdEnWrite h)
  | .pdCmdGo .. => .next (.pdGo h)
  | .pdCmdRollback .. => .next (.pdForce h)
  | .pdAclPost .. => .next (.pdPostWrite h)
  | .fadeStep .. => .next (.fadeStep h)
  | .fadeComplete .. => .next (.fadeComplete h)
  | .verifyTimeout .. => .next (.verifyTimeout h)
  | .evaluatorResidueMismatch .. => .next (.pdMismatch h)
  | .csEnWrite .. => .next (.csEnWrite h)
  | .slotCtrlCommit => .next (.slotCommit h)
  | .slotCheckDone => .execSlotCheckDone h
  | .slotCtrlCancel => .next (.slotCancel h)
  | .slotCtrlCopy => .next (.slotCopy h)
  | .slotCopyDone => .next (.slotCopyDone h)
  | .prachOccasion .. => .next (.prachOccasion h)
  | .prachRowsWritten .. => .next (.prachWritten h)
  | .prachBeamsWritten .. => .next (.beamsWritten h)
  | .readoutStart .. => .next (.readout h)
  | .planInstant .. => .next (.planInstant h)
  | .pageHoldExpiry .. => .next (.steerResume (.holdExpiry h))
  | .wsCfgWrite .. => .next (.wsWrite h)
  | .blGo => .next (.blGo h)
  | .steerGo => .next (.steerSubmit h)
  | .steerComputeDone => .next (.steerDone h)
  | .geomDataWrite .. => .next (.geomWrite h)
  | .columnResidueMismatch .. => .next (.columnFail h)
  | .hgEnWrite .. => .next (.hgEnWrite h)
  | .hgPartnerClockDetect .. => .next (.hgClock h)
  | .hgTrainStepDone .. => .next (.hgStep h)
  | .hgTrainTimeout .. => .next (.hgTrainTimeout h)
  | .hgCapRecord .. => .next (.hgCap h)
  | .latfix .. => .next (.hgFix h)
  | .hgLaneFail .. => .next (.hgLaneFail h)
  | .laneDrop .. => .next (.hgLaneDrop h)
  | .laneAck .. => .next (.hgLaneAck h)
  | .laneAckTimeout .. => .next (.hgAckTimeout h)
  | .laneRepairInstant .. => .next (.laneRepair h)
  | .idleReqWrite .. => .next (.hgIdleReq h)
  | .eidle .. => .next (.hgEnterIdle h)
  | .exitBurstDetect .. => .next (.hgBurst h)
  | .fastExitDone .. => .next (.hgExitDone h)
  | .retrain .. => .next (.hgRetrain h)
  | .downNotice .. => .next (.hgNotice h)
  | .forwardedClockLost .. => .next (.hgClockLost h)
  | .crossingSlip .. => .next (.crossingSlip h)
  | .ulUnitAdd .. => .next (.unitAdd h)
  | .sumCheckBlock .. => .next (.sumCheck h)
  | .broadcastPass .. => .next (.broadcast h)
  | .broadcastUnitReceive .. => .next (.bcastUnit h)
  | .prachSumSend .. => .next (.prachSum h)
  | .sideFrameReceive .. => .next (.sideFrame h)
  | .daAssignReceive .. => .next (.daReceive h)
  | .timeFrameReceive .. => .next (.timeFrame h)
  | .timeFrameTimeout => .next (.timeTimeout h)
  | .upPortLossTimeout => .next (.upTimeout h)
  | .cascCommit => .next (.planCommit h)
  | .cascCancel => .next (.planCancel h)
  | .hpLinkChange .. => .next (.linkChange h)
  | .hpFrameReceive .. => .next (.hpFrame h)
  | .hp1FrameForward .. => .next (.hp1Forward h)
  | .iqDataMessage .. => .next (.iqMessage h)
  | .sectionMessage .. => .next (.sectMessage h)
  | .ulBurstPost .. => .next (.burstPost h)
  | .prachRowLaunch .. => .next (.prachLaunch h)
  | .lqPost => .next (.lqPost h)
  | .launchInstant .. => .next (.launch h)
  | .ethrefLoss => .next (.ethrefLoss h)
  | .refclkLoss => .next (.report h)
  | .tuSnap => .next (.tuSnap h)
  | .tuStep => .next (.tuStep h)
  | .timeStepApply => .next (.stepApply h)
  | .forceValid => .next (.forceValid h)
  | .servoSample .. => .next (.servoWrite h)
  | .srvCfgWrite .. => .next (.srvCfg h)
  | .servoHoldoverTimeout .. => .next (.holdover h)
  | .freqSlewPeriod => .next (.freqSlew h)
  | .vcxoUpdate => .next (.vcUpdate h)
  | .vcEnWrite .. => .next (.vcEnWrite h)
  | .synceGate .. => .next (.synceGate h)
  | .synceLost => .next (.synceLost h)
  | .ppsOutEdge => .next (.ppsOutEdge h)
  | .ppsInEdge .. => .next (.ppsInEdge h)
  | .seqEdge .. => .next (.seqEdge h)
  | .seqEnWrite .. => .next (.seqEnWrite h)
  | .adacLock => .next (.adacLock h)
  | .adacLd .. => .next (.adacLd h)
  | .adacCodeWrite .. => .next (.adacCode h)
  | .adacldEdge => .next (.strobeGroup (.advanceTo h))
  | .adacclrNChange .. => .next (.clrN h)
  | .deglitchHoldEnd .. => .next (.holdDone h)
  | .inputQualifiedEdge .. => .next (.inputEdge h)
  | .chatterWindowEnd .. => .next (.chatterEnd h)
  | .inputStuck .. => .next (.inputStuck h)
  | .rearm .. => .next (.rearm (.modInput h))
  | .faultClear .. => .next (.faultClear h)
  | .calEnWrite .. => .next (.calEnWrite h)
  | .calRecordCheckDone => .next (.checkDone h)
  | .calGo => .next (.calGo h)
  | .calGoAbort => .next (.calAbort h)
  | .calMeasurementPost .. => .next (.calPost h)
  | .calJobTimeout => .next (.calTimeout h)
  | .fdStart .. => .next (.fdStart h)
  | .fdHalt .. => .next (.fdHalt h)
  | .fdReset .. => .next (.fdReset h)
  | .fdDbWrite .. => .next (.fdDoorbell h)
  | .fdOwnerWrite .. => .next (.ite (.fdMode h) (.raise h))
  | .bundle .. => .next (.bundle h)
  | .farLoadComplete .. => .next (.farLoad h)
  | .fdWatchdog .. => .next (.fdWatchdog h)
  | .fabricAccess .. => .next (.fabricAccess h)
  | .arbiterDecision .. => .next (.arbitrate h)
  | .maintenanceCycle .. => .next (.maintenance h)
  | .patrolRead .. => .next (.patrolRead h)
  | .memRetireGo .. => .execMemRetireGo h
  | .retireCopyDone => .next (.retireDone h)
  | .dmaGo .. => .next (.dmaGo h)
  | .dmaAbort .. => .next (.dmaAbort h)
  | .dmaResume .. => .next (.dmaResume h)
  | .dmaBurst .. => .next (.dmaBurst h)
  | .dmaRequest .. => .next (.dmaRequest h)
  | .drainRequest .. => .next (.drainRequest h)
  | .drainTimeout .. => .next (.drainTimeout h)
  | .stileRead .. => .next (.emit (.stileRead h))
  | .stileRelease .. => .next (.stileRelease h)
  | .stileClean .. => .next (.stileClean h)
  | .stileForce .. => .next (.ite (.stileBreak h) (.raise h))
  | .dvfsStep => .next (.dvfsStep h)
  | .vsetTimeout => .next (.vsetTimeout h)
  | .dvfsWrite .. => .next (.dvfsWrite h)
  | .miSrcWrite .. => .next (.miSrc h)
  | .fallowQuietInstant .. => .next (.fallowQuiet h)
  | .fallowGate => .next (.fallowGate h)
  | .larkEvaluation .. => .next (.larkEval h)
  | .wake .. => .next (.wakeUp h)
  | .pllLock => .next (.pllLock h)
  | .hushReached => .next (.hushReached h)
  | .sensorConversion .. => .next (.convert h)
  | .shutdownGate => .next (.shutdownGate h)
  | .throttleStep => .next (.throttleStep h)
  | .faultReport .. => .next (.ite (.latchCause (.report h)) h)
  | .faultUnitClr .. => .next (.ite (.clearUnit h) h)
  | .fmSafeForce .. => .next (.safeForce h)
  | .supplyFault .. => .next (.supplyFault h)
  | .debugUnlock .. => .next (.debugUnlock h)
  | .fwReady => .next (.fwReady h)
  | .fwActivateTimeout => .next (.fwTimeout h)
  | .resetNLow .. => .next (.resetLow h)
  | .resetRelease .. => .next (.resetRelease h)
  | .imageLoaded .. => .next (.imageLoaded h)
  | .bootPllTimeout => .next (.pllTimeout h)
  | .bootReady .. => .next (.bootReady h)
  | .convPllRelock .. => .next (.moveCheck (.convRelock h))
  | .farStoreComplete .. => .next (.farStore h)
  | .sentinelClear .. => .next (.sentinelClear h)
  | .larkPowerOnReset => .next (.larkPor h)
  | .resetSelfRelease => .next (.selfRelease h)
  | .ethrefRestore => .next (.put h)

end State.KeptBy

/-- A step is one idle cycle on an empty queue, and else a command run on the state with the rest of the queue. -/
theorem step_keeps_canonical {s t : State} (hs : s.canonical = true) (e : step s = .next t) : t.canonical = true := by
  unfold step at e
  split at e
  · cases e
    exact (State.Kept.idle (.refl s)).canonical hs
  · next c rest _ =>
    have hr : ({ s with pending := rest } : State).canonical = true := State.canonical_congr rfl rfl rfl hs
    exact (State.KeptBy.exec (.refl _) c t e).canonical hr

end Sys2Proof.Machine

/-- Settles O4: every command keeps the canonical form, and so does the idle cycle. -/
theorem everyStepKeepsCanonicalForm : Obligations.EveryStepKeepsCanonicalForm := by
  unfold Obligations.EveryStepKeepsCanonicalForm
  intro s t hs e
  exact Sys2Proof.Machine.step_keeps_canonical hs e
end

section
/-! What an operation may change, said once per shared operation: the register fields it writes (`State.Writes`), and the parts of
the state it leaves. An event, the outputs of the precedence of R30, and the alarms (reports, safe state) each have their own set
of fields. -/

namespace Sys2Proof.Machine

/-! ### Fields that share no bit -/

/-- Two fields share no bit. -/
def Field.Apart (f g : Field) : Prop := g.addr ≠ f.addr ∨ g.lo + g.width ≤ f.lo ∨ f.lo + f.width ≤ g.lo

theorem Field.Apart.below {f g : Field} (h : decide (g.lo + g.width ≤ f.lo) = true := by rfl) : f.Apart g :=
  .inr (.inl (of_decide_eq_true h))

theorem Field.Apart.above {f g : Field} (h : decide (f.lo + f.width ≤ g.lo) = true := by rfl) : f.Apart g :=
  .inr (.inr (of_decide_eq_true h))

/-- A field lies within a register word. -/
def Field.fits (f : Field) : Bool := decide (f.lo + f.width ≤ 32)

theorem Field.fits_le {f : Field} (h : f.fits = true) : f.lo + f.width ≤ 32 := by simpa [Field.fits] using h

theorem Field.of_lt (f : Field) (w : Word) : f.of w < 2 ^ f.width := Nat.mod_lt _ (Nat.two_pow_pos _)

theorem State.get_lt (s : State) (f : Field) : s.get f < 2 ^ f.width := f.of_lt _

theorem State.get_congr {s t : State} (h : t.regs = s.regs) (f : Field) : t.get f = s.get f := by
  unfold State.get State.reg
  rw [h]

theorem State.reg_congr {s t : State} (h : t.regs = s.regs) (a : Nat) : t.reg a = s.reg a := by
  unfold State.reg
  rw [h]

theorem State.flag_congr {s t : State} {f : Field} (h : t.get f = s.get f) : t.flag f = s.flag f := by
  unfold State.flag
  rw [h]

theorem State.fbit_congr {s t : State} {f : Field} (h : t.get f = s.get f) (i : Nat) : t.fbit f i = s.fbit f i := by
  unfold State.fbit
  rw [h]

theorem State.flag_eq_false {s : State} {f : Field} : s.flag f = false ↔ s.get f = 0 := by simp [State.flag]

/-- The whole register as a field. -/
theorem State.get_word (s : State) (a : Nat) : s.get ⟨a, 0, 32⟩ = (s.reg a).toNat := by
  simpa [State.get, Field.of] using (s.reg a).isLt

theorem State.reg_eq_of_get {s t : State} {a : Nat} (h : t.get ⟨a, 0, 32⟩ = s.get ⟨a, 0, 32⟩) : t.reg a = s.reg a := by
  rw [State.get_word, State.get_word] at h
  exact BitVec.eq_of_toNat_eq h

section
variable (s : State) {f g : Field} (v : Nat)

theorem State.get_put (h : f.fits = true := by rfl) : (s.put f v).get f = v % 2 ^ f.width :=
  State.get_put_same s f v (Field.fits_le h)

theorem State.get_put_apart (d : f.Apart g) (h : f.fits = true := by rfl) : (s.put f v).get g = s.get g :=
  d.elim (State.get_put_other s f g v) (State.get_put_disjoint s f g v (Field.fits_le h))

/-- A register of 32 bits shares bits with every field of its address but the empty ones. -/
theorem State.get_setReg_apart (a : Nat) (w : Word) (d : Field.Apart ⟨a, 0, 32⟩ g) : (s.setReg a w).get g = s.get g := by
  by_cases e : g.addr = a
  · rcases d with d | d | d
    · exact absurd e d
    · obtain ⟨-, hw⟩ : g.lo = 0 ∧ g.width = 0 := by simpa using d
      simp [State.get, Field.of, hw, Nat.mod_one]
    · have z : ∀ u : Word, u.toNat >>> g.lo = 0 := fun u => by
        rw [Nat.shiftRight_eq_div_pow]
        exact Nat.div_eq_of_lt (u.isLt.trans_le (Nat.pow_le_pow_right (by decide) (by simpa using d)))
      simp [State.get, Field.of, z]
  · unfold State.get
    rw [State.reg_setReg_other _ _ _ _ e]

theorem b2n_le (b : Bool) : b2n b ≤ 1 := by cases b <;> simp [b2n]

/-- A flag of one bit or more reads the Boolean put into it. -/
theorem State.flag_put (b : Bool) (h : f.fits = true := by rfl) (w : decide (0 < f.width) = true := by rfl) :
    (s.put f (b2n b)).flag f = b := by
  have hb : b2n b % 2 ^ f.width = b2n b := Nat.mod_eq_of_lt
    (Nat.lt_of_le_of_lt (b2n_le b) (Nat.one_lt_two_pow (Nat.pos_iff_ne_zero.mp (of_decide_eq_true w))))
  unfold State.flag
  rw [State.get_put s (b2n b) h, hb]
  cases b <;> rfl

theorem State.flag_put_apart (d : f.Apart g) (h : f.fits = true := by rfl) : (s.put f v).flag g = s.flag g :=
  State.flag_congr (State.get_put_apart s v d h)

end

theorem setBit_testBit (n i k : Nat) (b : Bool) : (setBit n i b).testBit k = if k = i then b else n.testBit k := by
  unfold setBit
  rw [insBits_testBit]
  by_cases h : k = i
  · subst h
    cases b <;> simp [b2n]
  · rw [if_neg (by omega), if_neg h]

/-- Bit `i` of a field reads what was put there, and its other bits what they read before. -/
theorem State.fbit_putBit (s : State) (f : Field) (i k : Nat) (b : Bool) (hk : k < f.width) (h : f.fits = true := by rfl) :
    (s.putBit f i b).fbit f k = if k = i then b else s.fbit f k := by
  unfold State.putBit State.fbit
  rw [State.get_put s _ h, Nat.testBit_mod_two_pow, setBit_testBit]
  simp [hk]

/-! ### Registers an operation may write -/

/-- The state `s`, reached from `s0`, differs from it in no field that shares no bit with the fields `F`. -/
structure State.Writes (F : Field → Prop) (s0 s : State) : Prop where
  get : ∀ g : Field, (∀ f, F f → f.Apart g) → s.get g = s0.get g

namespace State.Writes

section
variable {F G : Field → Prop} {s0 s t : State}

theorem refl (s : State) : s.Writes F s := ⟨fun _ _ => rfl⟩

theorem trans (h : s0.Writes F s) (k : s.Writes F t) : s0.Writes F t := ⟨fun g hg => (k.get g hg).trans (h.get g hg)⟩

theorem mono (h : s0.Writes F s) (k : ∀ f, F f → G f) : s0.Writes G s := ⟨fun g hg => h.get g fun f hf => hg f (k f hf)⟩

/-- An update of no register. -/
theorem same (h : s0.Writes F s) (e : t.regs = s.regs) : s0.Writes F t := ⟨fun g hg => (State.get_congr e g).trans (h.get g hg)⟩

theorem put {f : Field} {v : Nat} (h : s0.Writes F s) (hf : F f) (w : f.fits = true := by rfl) : s0.Writes F (s.put f v) :=
  ⟨fun g hg => (State.get_put_apart s v (hg f hf) w).trans (h.get g hg)⟩

theorem setReg {a : Nat} {v : Word} (h : s0.Writes F s) (hf : F ⟨a, 0, 32⟩) : s0.Writes F (s.setReg a v) :=
  ⟨fun g hg => (State.get_setReg_apart s a v (hg _ hf)).trans (h.get g hg)⟩

theorem doIf {b : Bool} {f : State → State} (h : s0.Writes F s) (k : ∀ u, s0.Writes F u → s0.Writes F (f u)) :
    s0.Writes F (Machine.doIf b f s) := doIf_keeps _ b f k s h

theorem forAll {α : Type} {l : List α} {f : α → State → State} (h : s0.Writes F s)
    (k : ∀ a ∈ l, ∀ u, s0.Writes F u → s0.Writes F (f a u)) : s0.Writes F (Machine.forAll l f s) := forAll_keeps _ l f k s h

theorem ite {c : Prop} [Decidable c] (h : s0.Writes F s) (k : s0.Writes F t) : s0.Writes F (if c then s else t) := by
  split
  · exact h
  · exact k

theorem flag (h : s0.Writes F s) {g : Field} (hg : ∀ f, F f → f.Apart g) : s.flag g = s0.flag g := State.flag_congr (h.get g hg)

theorem fbit (h : s0.Writes F s) {g : Field} (hg : ∀ f, F f → f.Apart g) (i : Nat) : s.fbit g i = s0.fbit g i :=
  State.fbit_congr (h.get g hg) i

/-- A register that holds none of the fields is left. -/
theorem reg (h : s0.Writes F s) {a : Nat} (ha : ∀ f, F f → a ≠ f.addr) : s.reg a = s0.reg a :=
  State.reg_eq_of_get (h.get _ fun f hf => .inl (ha f hf))

end
end State.Writes
end Sys2Proof.Machine
end

section
namespace Sys2Proof.Machine

/-! ### Events -/

/-- The fields that sending an event writes (R440, R451). -/
inductive SentField : Field → Prop
  | queue (x : Nat) (h : x < 16) : SentField (R.SESS_STAT_EVQ x)
  | overflow : SentField R.CMD_CNT3_SPI_OVF

/-- From `s0` on only packets were sent or queued: registers of `SentField`, the front end and the outputs changed. -/
structure State.Sent (s0 s : State) : Prop where
  writes : s0.Writes SentField s
  shape : ∃ regs fe out, s = { s0 with regs := regs, fe := fe, out := out }

namespace State.Sent

section
variable {s0 s t : State}

theorem refl (s : State) : s.Sent s := ⟨.refl s, _, _, _, rfl⟩

theorem trans (h : s0.Sent s) (k : s.Sent t) : s0.Sent t := by
  obtain ⟨hw, r, f, o, rfl⟩ := h
  obtain ⟨kw, r', f', o', rfl⟩ := k
  exact ⟨hw.trans kw, r', f', o', rfl⟩

theorem frame {fe : FrontX} {out : List Output} (h : s0.Sent s) : s0.Sent { s with fe := fe, out := out } :=
  h.trans ⟨.same (.refl s) rfl, _, _, _, rfl⟩

theorem modSession {x : Nat} {f : Session → Session} (h : s0.Sent s) : s0.Sent (s.modSession x f) := .frame h

theorem put {f : Field} {v : Nat} (h : s0.Sent s) (hf : SentField f) (w : f.fits = true := by rfl) : s0.Sent (s.put f v) :=
  h.trans ⟨.put (.refl s) hf w, _, _, _, rfl⟩

theorem ite {c : Prop} [Decidable c] (h : s0.Sent s) (k : s0.Sent t) : s0.Sent (if c then s else t) := by
  split
  · exact h
  · exact k

theorem forAll {α : Type} {l : List α} {f : α → State → State} (h : s0.Sent s) (k : ∀ a ∈ l, ∀ u, s0.Sent u → s0.Sent (f a u)) :
    s0.Sent (Machine.forAll l f s) := forAll_keeps _ l f k s h

theorem doIf {b : Bool} {f : State → State} (h : s0.Sent s) (k : ∀ u, s0.Sent u → s0.Sent (f u)) : s0.Sent (Machine.doIf b f s) :=
  doIf_keeps _ b f k s h

/-- What reads neither the registers, the front end nor the outputs is kept. -/
theorem keeps {β : Sort _} (h : s0.Sent s) (π : State → β)
    (hπ : ∀ (u : State) regs fe out, π { u with regs := regs, fe := fe, out := out } = π u := by intros; rfl) : π s = π s0 := by
  obtain ⟨-, r, f, o, rfl⟩ := h
  exact hπ s0 r f o

theorem eq_with (h : s0.Sent s) : s = { s0 with regs := s.regs, fe := s.fe, out := s.out } := by
  obtain ⟨-, r, f, o, rfl⟩ := h
  rfl

theorem putEvent {x : Nat} {p : Packet} (h : s0.Sent s) (hx : x < 16) : s0.Sent (s.putEvent x p) := by
  unfold State.putEvent
  extract_lets +onlyGivenNames _ _
  split
  · exact .frame (.modSession h)
  · exact .ite (.frame (.modSession h)) (.put (.modSession h) .overflow)
  · exact .ite (.put (.modSession h) (.queue x hx)) (.modSession h)

theorem event {e : Event} (h : s0.Sent s) : s0.Sent (s.event e) :=
  .forAll h fun _ hx _ k => .putEvent k (List.mem_range.1 (List.mem_filter.1 hx).1)

end
end State.Sent

/-! ### The outputs of the precedence of R30 -/

/-- The fields in which the precedence of R30 shows. -/
inductive OutputField : Field → Prop
  | held (ch : Nat) (h : ch < 64) : OutputField (R.CH_STATUS_TX_HELD ch)
  | live (ch : Nat) (h : ch < 64) : OutputField (R.CH_STATUS_TX_LIVE ch)
  | txon (i : Nat) (h : i < 2) : OutputField (R.TXON_LIVE_TXON i)
  | code (n : Nat) (h : n < 80) : OutputField (R.ADAC_CODE_NOW n)

/-- From `s0` on only the transmit outputs, the aux DAC channels and the noted gates followed the sources of R30. -/
structure State.Driven (s0 s : State) : Prop where
  writes : s0.Writes OutputField s
  shape : ∃ regs chains adacs gates, s = { s0 with
    regs := regs, chains := chains, pa := { s0.pa with adacs := adacs }, sig := { s0.sig with rxGates := gates } }

namespace State.Driven

section
variable {s0 s t : State}

theorem refl (s : State) : s.Driven s := ⟨.refl s, _, _, _, _, rfl⟩

theorem trans (h : s0.Driven s) (k : s.Driven t) : s0.Driven t := by
  obtain ⟨hw, r, c, a, g, rfl⟩ := h
  obtain ⟨kw, r', c', a', g', rfl⟩ := k
  exact ⟨hw.trans kw, r', c', a', g', rfl⟩

theorem modChain {ch : Nat} {f : ChainX → ChainX} (h : s0.Driven s) : s0.Driven (s.modChain ch f) :=
  h.trans ⟨.same (.refl s) rfl, _, _, _, _, rfl⟩

theorem modAdac {n : Nat} {f : AdacX → AdacX} (h : s0.Driven s) : s0.Driven (s.modAdac n f) :=
  h.trans ⟨.same (.refl s) rfl, _, _, _, _, rfl⟩

theorem gate {l : List RxGate} (h : s0.Driven s) : s0.Driven { s with sig := { s.sig with rxGates := l } } :=
  h.trans ⟨.same (.refl s) rfl, _, _, _, _, rfl⟩

theorem put {f : Field} {v : Nat} (h : s0.Driven s) (hf : OutputField f) (w : f.fits = true := by rfl) : s0.Driven (s.put f v) :=
  h.trans ⟨.put (.refl s) hf w, _, _, _, _, rfl⟩

theorem ite {c : Prop} [Decidable c] (h : s0.Driven s) (k : s0.Driven t) : s0.Driven (if c then s else t) := by
  split
  · exact h
  · exact k

theorem forAll {α : Type} {l : List α} {f : α → State → State} (h : s0.Driven s)
    (k : ∀ a ∈ l, ∀ u, s0.Driven u → s0.Driven (f a u)) : s0.Driven (Machine.forAll l f s) := forAll_keeps _ l f k s h

theorem doIf {b : Bool} {f : State → State} (h : s0.Driven s) (k : ∀ u, s0.Driven u → s0.Driven (f u)) :
    s0.Driven (Machine.doIf b f s) := doIf_keeps _ b f k s h

/-- What reads neither the registers, the chains, the aux DAC channels nor the noted gates is kept. -/
theorem keeps {β : Sort _} (h : s0.Driven s) (π : State → β)
    (hπ : ∀ (u : State) regs chains adacs gates, π { u with
      regs := regs, chains := chains, pa := { u.pa with adacs := adacs }, sig := { u.sig with rxGates := gates } } = π u := by
      intros; rfl) : π s = π s0 := by
  obtain ⟨-, r, c, a, g, rfl⟩ := h
  exact hπ s0 r c a g

theorem noteGate {c ch : Nat} (h : s0.Driven s) : s0.Driven (State.noteGate c ch s) := .ite h (.modChain h)

theorem setTxon {ch : Nat} {b : Bool} (h : s0.Driven s) (hc : ch < 64) : s0.Driven (s.setTxon ch b) := by
  unfold State.setTxon
  extract_lets +onlyGivenNames _ _ s1
  have hs1 : s0.Driven s1 :=
    .doIf (.put (.put h (.live ch hc)) (.txon (ch / 32) (by omega))) fun _ h1 => .noteGate (.modChain h1)
  exact .ite (.modChain hs1) hs1

theorem settleChain {ch : Nat} (h : s0.Driven s) (hc : ch < 64) : s0.Driven (State.settleChain ch s) := by
  unfold State.settleChain
  exact .noteGate (.doIf (.modChain (.doIf (.put h (.held ch hc)) fun _ h1 => .modChain (.setTxon h1 hc))) fun _ h1 => .modChain h1)

theorem noteRx (h : s0.Driven s) : s0.Driven s.noteRx := by
  unfold State.noteRx
  exact .forAll h fun _ _ _ h1 => .ite h1 (.gate h1)

theorem driveAdac {n : Nat} (h : s0.Driven s) (hn : n < 80) : s0.Driven (State.driveAdac n s) :=
  .ite (.modAdac (.put h (.code n hn))) (.ite h (.ite (.modAdac h) (.put h (.code n hn))))

theorem latchClear {n : Nat} (h : s0.Driven s) : s0.Driven (State.latchClear n s) := .ite (.modAdac h) h

theorem settle (h : s0.Driven s) : s0.Driven s.settle := by
  unfold State.settle
  exact .forAll (.noteRx (.forAll h fun _ hc _ h1 => .settleChain h1 (List.mem_range.1 hc)))
    fun _ hn _ h1 => .driveAdac (.latchClear h1) (List.mem_range.1 hn)

end
end State.Driven
end Sys2Proof.Machine
end

section
namespace Sys2Proof.Machine

/-! ### Records and the safe state -/

/-- The fields of the fault manager (R537, R539, R542). -/
inductive RecordField : Field → Prop
  | safe : RecordField R.FM_STATUS_SAFE
  | cause : RecordField R.FM_STATUS_CAUSE
  | pending : RecordField R.FM_STATUS_F_PEND
  | top : RecordField ⟨R.FM_TOP, 0, 32⟩
  | topValid : RecordField R.FM_TOP_VALID
  | topClass : RecordField R.FM_TOP_CLASS
  | topUnit : RecordField R.FM_TOP_UNIT
  | units (w : Nat) (h : w < 2) : RecordField (R.FM_PEND_PEND w)
  | record (u r k : Nat) (hu : u < 0x40) (hr : r < 4) (hk : k < 8) : RecordField ⟨R.FM_REC u r k, 0, 32⟩
  | overflow (u : Nat) (h : u < 0x40) : RecordField (R.FM_OVF_OVF u)

/-- The fields that an alarm writes: a report, with the safe state it may enter. -/
inductive AlarmField : Field → Prop
  | sent {f : Field} (h : SentField f) : AlarmField f
  | output {f : Field} (h : OutputField f) : AlarmField f
  | record {f : Field} (h : RecordField f) : AlarmField f
  | rxLive (ch : Nat) (h : ch < 64) : AlarmField (R.CH_STATUS_RX_LIVE ch)
  | rxon (i : Nat) (h : i < 2) : AlarmField (R.RXON_LIVE_RXON i)

/-- From `s0` on only the fault manager changed, which keeps the masters it let try again. -/
structure State.Filed (s0 s : State) : Prop where
  writes : s0.Writes RecordField s
  shape : ∃ (regs : RegFile) (fm : FaultX), s = { s0 with regs := regs, fm := { fm with retried := s0.fm.retried } }

/-- From `s0` on only packets were sent, outputs followed the sources of R30, and the fault manager changed. -/
structure State.Alarmed (s0 s : State) : Prop where
  writes : s0.Writes AlarmField s
  shape : ∃ (regs : RegFile) (fe : FrontX) (fm : FaultX) (out : List Output) (chains : List ChainX) (adacs : List AdacX) (sig : SigX),
    s = { s0 with regs := regs, fe := fe, fm := { fm with retried := s0.fm.retried }, out := out, chains := chains,
                  pa := { s0.pa with adacs := adacs }, sig := sig }

section
variable {s0 s : State}

theorem State.Sent.alarmed (h : s0.Sent s) : s0.Alarmed s := by
  obtain ⟨w, r, f, o, rfl⟩ := h
  exact ⟨w.mono fun _ => .sent, r, f, s0.fm, o, _, _, _, rfl⟩

theorem State.Driven.alarmed (h : s0.Driven s) : s0.Alarmed s := by
  obtain ⟨w, r, c, a, g, rfl⟩ := h
  exact ⟨w.mono fun _ => .output, r, _, s0.fm, _, c, a, _, rfl⟩

theorem State.Filed.alarmed (h : s0.Filed s) : s0.Alarmed s := by
  obtain ⟨w, r, m, rfl⟩ := h
  exact ⟨w.mono fun _ => .record, r, _, m, _, _, _, _, rfl⟩

end

theorem State.Sent.sendSafeState {s0 s : State} {c : SafeCause} (h : s0.Sent s) : s0.Sent (s.sendSafeState c) := by
  unfold State.sendSafeState
  extract_lets +onlyGivenNames l _ _ s1
  have hs1 : s0.Sent s1 := by
    have hl : ∀ x ∈ l, x < 16 := fun x hx => List.mem_range.1 (List.mem_filter.1 hx).1
    refine .ite (.forAll h fun x _ u h1 => ?_) (.forAll h fun x hx u h1 => .putEvent h1 (hl x hx))
    split
    · exact h1
    · exact .frame h1
  exact .ite hs1 (.ite (.frame hs1) (.put hs1 .overflow))

namespace State.Filed

section
variable {s0 s t : State}

theorem refl (s : State) : s.Filed s := ⟨.refl s, _, s.fm, rfl⟩

theorem trans (h : s0.Filed s) (k : s.Filed t) : s0.Filed t := by
  obtain ⟨hw, r, m, rfl⟩ := h
  obtain ⟨kw, r', m', rfl⟩ := k
  exact ⟨hw.trans kw, r', m', rfl⟩

theorem modFm {f : FaultX → FaultX} (h : s0.Filed s) (hf : ∀ x, (f x).retried = x.retried := by intros; rfl) :
    s0.Filed (s.modFm f) := by
  refine h.trans ⟨.same (.refl s) rfl, s.regs, f s.fm, ?_⟩
  rw [← hf s.fm]
  rfl

theorem put {f : Field} {v : Nat} (h : s0.Filed s) (hf : RecordField f) (w : f.fits = true := by rfl) : s0.Filed (s.put f v) :=
  h.trans ⟨.put (.refl s) hf w, _, s.fm, rfl⟩

theorem setReg {a : Nat} {v : Word} (h : s0.Filed s) (hf : RecordField ⟨a, 0, 32⟩) : s0.Filed (s.setReg a v) :=
  h.trans ⟨.setReg (.refl s) hf, _, s.fm, rfl⟩

theorem keeps {β : Sort _} (h : s0.Filed s) (π : State → β)
    (hπ : ∀ (u : State) (regs : RegFile) (fm : FaultX), π { u with regs := regs, fm := { fm with retried := u.fm.retried } } = π u := by
      intros; rfl) : π s = π s0 := by
  obtain ⟨-, r, m, rfl⟩ := h
  exact hπ s0 r m

theorem showFaults (h : s0.Filed s) : s0.Filed s.showFaults := by
  unfold State.showFaults
  extract_lets +onlyGivenNames s1 _ _
  have hs1 : s0.Filed s1 := by
    unfold s1
    split
    · exact .put (.put (.put h .topValid) .topClass) .topUnit
    · exact .setReg h .top
  exact .put (.put (.put hs1 (.units 0 (by decide))) (.units 1 (by decide))) .pending

theorem fileRecord {r : Report} (h : s0.Filed s) (hu : r.unit < 0x40) : s0.Filed (s.fileRecord r) := by
  unfold State.fileRecord
  split
  · next k hk =>
    have hk : k < 4 := List.mem_range.1 (List.mem_of_find?_eq_some hk)
    exact .showFaults (.modFm (forAll_keeps _ _ _ (fun i hi _ h1 => .setReg h1 (.record r.unit k i hu hk (List.mem_range.1 hi))) s h))
  · exact .put h (.overflow r.unit hu)

end
end State.Filed

namespace State.Alarmed

section
variable {s0 s t : State}

theorem refl (s : State) : s.Alarmed s := (Sent.refl s).alarmed

theorem trans (h : s0.Alarmed s) (k : s.Alarmed t) : s0.Alarmed t := by
  obtain ⟨hw, r, f, m, o, c, a, g, rfl⟩ := h
  obtain ⟨kw, r', f', m', o', c', a', g', rfl⟩ := k
  exact ⟨hw.trans kw, r', f', m', o', c', a', g', rfl⟩

/-- What reads neither the registers, the front end, the fault manager, the outputs, the chains, the aux DAC channels nor the
samples on their way is kept. -/
theorem keeps {β : Sort _} (h : s0.Alarmed s) (π : State → β)
    (hπ : ∀ (u : State) (regs : RegFile) (fe : FrontX) (fm : FaultX) (out : List Output) (chains : List ChainX) (adacs : List AdacX)
        (sig : SigX),
      π { u with regs := regs, fe := fe, fm := { fm with retried := u.fm.retried }, out := out, chains := chains,
                 pa := { u.pa with adacs := adacs }, sig := sig } = π u := by intros; rfl) : π s = π s0 := by
  obtain ⟨-, r, f, m, o, c, a, g, rfl⟩ := h
  exact hπ s0 r f m o c a g

theorem modChain {ch : Nat} {f : ChainX → ChainX} (h : s0.Alarmed s) : s0.Alarmed (s.modChain ch f) :=
  h.trans (Driven.modChain (.refl s)).alarmed

theorem put {f : Field} {v : Nat} (h : s0.Alarmed s) (hf : AlarmField f) (w : f.fits = true := by rfl) : s0.Alarmed (s.put f v) :=
  h.trans ⟨.put (.refl s) hf w, _, _, s.fm, _, _, _, _, rfl⟩

theorem event {e : Event} (h : s0.Alarmed s) : s0.Alarmed (s.event e) := h.trans (Sent.event (.refl s)).alarmed

theorem settle (h : s0.Alarmed s) : s0.Alarmed s.settle := h.trans (Driven.settle (.refl s)).alarmed

theorem setRxon {ch : Nat} {b : Bool} (h : s0.Alarmed s) (hc : ch < 64) : s0.Alarmed (s.setRxon ch b) := by
  unfold State.setRxon
  extract_lets +onlyGivenNames _ _ s1
  have hs1 : s0.Alarmed s1 :=
    doIf_keeps _ _ _ (fun _ h1 => .modChain h1) _ (.put (.put h (.rxLive ch hc)) (.rxon (ch / 32) (by omega)))
  split
  · exact .modChain hs1
  · exact hs1

theorem enterSafe {c : SafeCause} (h : s0.Alarmed s) : s0.Alarmed (s.enterSafe c) := by
  unfold State.enterSafe
  split
  · exact h
  · extract_lets s1 s2 s3 s4
    have h2 : s.Filed s2 := .modFm (.put (.put (.refl s) .safe) .cause)
    have h4 : s0.Alarmed s4 :=
      forAll_keeps _ _ _ (fun _ hc _ h1 => .setRxon h1 (List.mem_range.1 hc)) s3 (.settle (h.trans h2.alarmed))
    exact h4.trans (Sent.sendSafeState (.refl s4)).alarmed

theorem report {r : Report} (h : s0.Alarmed s) (hu : r.unit < 0x40 := by exact of_decide_eq_true rfl) : s0.Alarmed (s.report r) := by
  unfold State.report
  extract_lets +onlyGivenNames _ s1
  have hs1 : s0.Alarmed s1 := h.trans (Filed.fileRecord (.refl s) hu).alarmed
  split
  · exact .enterSafe hs1
  · split
    · split
      · exact .enterSafe hs1
      · exact hs1
    · exact hs1

end
end State.Alarmed
end Sys2Proof.Machine
end

section
namespace Sys2Proof.Machine

/-! ### Lists and chains -/

@[simp] theorem length_updAt {α : Type} (l : List α) (i : Nat) (f : α → α) : (updAt l i f).length = l.length := by
  induction l generalizing i with
  | nil => rfl
  | cons x t ih => cases i <;> simp [updAt, ih]

theorem getD_updAt {α : Type} (l : List α) (i k : Nat) (f : α → α) (d : α) :
    (updAt l i f).getD k d = if k = i ∧ k < l.length then f (l.getD k d) else l.getD k d := by
  induction l generalizing i k with
  | nil => simp [updAt]
  | cons x t ih =>
    cases i with
    | zero => cases k <;> simp [updAt]
    | succ i =>
      cases k with
      | zero => simp [updAt]
      | succ k => simpa [updAt] using ih i k

theorem getD_updAt_same {α : Type} {l : List α} {i : Nat} (f : α → α) (d : α) (h : i < l.length) :
    (updAt l i f).getD i d = f (l.getD i d) := by rw [getD_updAt, if_pos ⟨rfl, h⟩]

theorem getD_updAt_other {α : Type} (l : List α) {i k : Nat} (f : α → α) (d : α) (h : k ≠ i) :
    (updAt l i f).getD k d = l.getD k d := by rw [getD_updAt, if_neg fun e => h e.1]

section
variable (s : State) {ch k : Nat} (f : ChainX → ChainX)

theorem State.modChain_chain (h : ch < s.chains.length) : (s.modChain ch f).chain ch = f (s.chain ch) := getD_updAt_same f _ h

theorem State.modChain_chain_other (h : k ≠ ch) : (s.modChain ch f).chain k = s.chain k := getD_updAt_other _ f _ h

@[simp] theorem State.modChain_chains_length : (s.modChain ch f).chains.length = s.chains.length := length_updAt _ _ _

@[simp] theorem State.modChain_get (g : Field) : (s.modChain ch f).get g = s.get g := rfl

@[simp] theorem State.put_chain (g : Field) (v : Nat) : (s.put g v).chain k = s.chain k := rfl

@[simp] theorem State.putBit_chain (g : Field) (i : Nat) (b : Bool) : (s.putBit g i b).chain k = s.chain k := rfl

@[simp] theorem State.putBit_chains (g : Field) (i : Nat) (b : Bool) : (s.putBit g i b).chains = s.chains := rfl

end

/-- Noting a gate writes the log of the chain and nothing else. -/
theorem State.noteGate_chain (c ch k : Nat) (s : State) :
    ∃ log, (State.noteGate c ch s).chain k = { s.chain k with gateLog := log } := by
  unfold State.noteGate
  extract_lets x g
  split
  · exact ⟨_, rfl⟩
  · unfold State.modChain
    simp only [State.chain, getD_updAt]
    split
    · exact ⟨_, rfl⟩
    · exact ⟨_, rfl⟩

theorem State.noteGate_chain_other (c : Nat) {ch k : Nat} (s : State) (h : k ≠ ch) : (State.noteGate c ch s).chain k = s.chain k := by
  unfold State.noteGate
  extract_lets x g
  split
  · rfl
  · exact State.modChain_chain_other s _ h

theorem State.noteGate_chains_length (c ch : Nat) (s : State) : (State.noteGate c ch s).chains.length = s.chains.length := by
  unfold State.noteGate
  extract_lets x g
  split
  · rfl
  · exact State.modChain_chains_length s _

theorem State.noteGate_regs (c ch : Nat) (s : State) : (State.noteGate c ch s).regs = s.regs := by
  unfold State.noteGate
  extract_lets x g
  split
  · rfl
  · rfl

/-! ### Fields that alarms leave -/

/-- Blocks of the register map in which no alarm writes: neither the chains, the host port, the outputs nor the fault manager. -/
def quietBlock (b : Nat) : Bool := decide (0x104 ≤ b ∧ b ≠ 0x114 ∧ b ≠ 0x117 ∧ b ≠ 0x11E)

theorem quietBlock_iff {b : Nat} : quietBlock b = true ↔ 0x104 ≤ b ∧ b ≠ 0x114 ∧ b ≠ 0x117 ∧ b ≠ 0x11E := by simp [quietBlock]

theorem RecordField.block {f : Field} (h : RecordField f) : f.addr / 2 ^ 20 = 0x11E := by
  cases h with
  | units w hw => simp only [R.FM_PEND_PEND, R.FM_PEND]; omega
  | record u r k hu hr hk => simp only [R.FM_REC]; omega
  | overflow u hu => simp only [R.FM_OVF_OVF, R.FM_OVF]; omega
  | safe | cause | pending => rfl
  | top | topValid | topClass | topUnit => rfl

theorem AlarmField.apart_of_block {f g : Field} (h : AlarmField f) (hg : quietBlock (g.addr / 2 ^ 20) = true := by rfl) : f.Apart g := by
  rw [quietBlock_iff] at hg
  refine .inl fun e => ?_
  rw [e] at hg
  cases h with
  | sent h => cases h <;> simp only [R.SESS_STAT_EVQ, R.SESS_STAT, R.CMD_CNT3_SPI_OVF, R.CMD_CNT3] at hg <;> omega
  | output h =>
    cases h <;> simp only [R.CH_STATUS_TX_HELD, R.CH_STATUS_TX_LIVE, R.CH_STATUS, R.TXON_LIVE_TXON, R.TXON_LIVE, R.ADAC_CODE_NOW,
      R.ADAC_CODE] at hg <;> omega
  | rxLive ch hc => simp only [R.CH_STATUS_RX_LIVE, R.CH_STATUS] at hg; omega
  | rxon i hi => simp only [R.RXON_LIVE_RXON, R.RXON_LIVE] at hg; omega
  | record h => have := h.block; omega

theorem State.Alarmed.get_of_block {s0 s : State} {g : Field} (h : s0.Alarmed s) (hg : quietBlock (g.addr / 2 ^ 20) = true := by rfl) :
    s.get g = s0.get g := h.writes.get g fun _ hf => AlarmField.apart_of_block hf hg

theorem State.Alarmed.reg_of_block {s0 s : State} {a : Nat} (h : s0.Alarmed s) (ha : quietBlock (a / 2 ^ 20) = true := by rfl) : s.reg a = s0.reg a :=
  State.reg_eq_of_get (h.get_of_block (g := ⟨a, 0, 32⟩) ha)

end Sys2Proof.Machine
end

section
namespace Sys2Proof.Machine

/-! ### The sources of R30 while the outputs follow them -/

theorem OutputField.apart_safe {f : Field} (h : OutputField f) : f.Apart R.FM_STATUS_SAFE := by
  cases h <;> simp only [Field.Apart, R.CH_STATUS_TX_HELD, R.CH_STATUS_TX_LIVE, R.CH_STATUS, R.TXON_LIVE_TXON, R.TXON_LIVE,
    R.ADAC_CODE_NOW, R.ADAC_CODE, R.FM_STATUS_SAFE, R.FM_STATUS] <;> omega

theorem OutputField.apart_umute {f : Field} (h : OutputField f) (ch : Nat) : f.Apart (R.CH_STATUS_UMUTE ch) := by
  cases h <;> simp only [Field.Apart, R.CH_STATUS_TX_HELD, R.CH_STATUS_TX_LIVE, R.CH_STATUS, R.TXON_LIVE_TXON, R.TXON_LIVE,
    R.ADAC_CODE_NOW, R.ADAC_CODE, R.CH_STATUS_UMUTE] <;> omega

theorem OutputField.ne_ctrl {f : Field} (h : OutputField f) (ch : Nat) : R.CH_CTRL ch ≠ f.addr := by
  cases h <;> simp only [R.CH_STATUS_TX_HELD, R.CH_STATUS_TX_LIVE, R.CH_STATUS, R.TXON_LIVE_TXON, R.TXON_LIVE,
    R.ADAC_CODE_NOW, R.ADAC_CODE, R.CH_CTRL] <;> omega

theorem OutputField.apart_of_block {f g : Field} (h : OutputField f) (hg : quietBlock (g.addr / 2 ^ 20) = true := by rfl) : f.Apart g :=
  AlarmField.apart_of_block (.output h) hg

namespace State.Driven

section
variable {s0 s : State} (h : s0.Driven s)
include h

theorem get_of_block {g : Field} (hg : quietBlock (g.addr / 2 ^ 20) = true := by rfl) : s.get g = s0.get g := h.alarmed.get_of_block hg

theorem rank1_eq : s.rank1 = s0.rank1 := by
  unfold State.rank1
  rw [h.writes.flag fun _ hf => hf.apart_safe, h.keeps State.pw]

theorem biasCleared_eq (ch : Nat) : s.biasCleared ch = s0.biasCleared ch := by
  unfold State.biasCleared State.rank2 State.rank3
  rw [h.rank1_eq, h.keeps State.hold]

theorem txHeld_eq (ch : Nat) : s.txHeld ch = s0.txHeld ch := by
  unfold State.txHeld State.rank5
  rw [h.biasCleared_eq, State.fbit_congr h.get_of_block]

theorem dacSource_eq (ch : Nat) : s.dacSource ch = s0.dacSource ch := by
  unfold State.dacSource State.rank4
  rw [h.txHeld_eq, h.writes.flag fun _ hf => hf.apart_umute ch,
    h.writes.flag fun f hf => (.inl (hf.ne_ctrl ch) : f.Apart (R.CH_CTRL_TX_MUTE ch)), h.keeps State.hold]

end
end State.Driven

/-! ### One chain -/

theorem State.setTxon_chains_length (s : State) (ch : Nat) (b : Bool) : (s.setTxon ch b).chains.length = s.chains.length := by
  unfold State.setTxon
  extract_lets was s1 s2
  have h2 : s2.chains.length = s.chains.length :=
    doIf_keeps (fun t => t.chains.length = s.chains.length) _ _
      (fun t ht => by rw [State.noteGate_chains_length, State.modChain_chains_length, ht]) s1 (by unfold s1; rw [State.putBit_chains, State.put_chains])
  split
  · rw [State.modChain_chains_length, h2]
  · exact h2

theorem State.setTxon_chain_other (s : State) {ch k : Nat} (b : Bool) (h : k ≠ ch) : (s.setTxon ch b).chain k = s.chain k := by
  unfold State.setTxon
  extract_lets was s1 s2
  have h2 : s2.chain k = s.chain k :=
    doIf_keeps (fun t => t.chain k = s.chain k) _ _
      (fun t ht => by rw [State.noteGate_chain_other _ _ h, State.modChain_chain_other _ _ h, ht]) s1 (by unfold s1; rw [State.putBit_chain, State.put_chain])
  split
  · rw [State.modChain_chain_other _ _ h, h2]
  · exact h2

/-- The registers after TXON is set are TX_LIVE and TXON put, and no more (R30). -/
theorem State.setTxon_regs (s : State) (ch : Nat) (b : Bool) :
    (s.setTxon ch b).regs = ((s.put (R.CH_STATUS_TX_LIVE ch) (b2n b)).putBit (R.TXON_LIVE_TXON (ch / 32)) (ch % 32) b).regs := by
  unfold State.setTxon
  extract_lets was s1 s2
  have h2 : s2.regs = s1.regs :=
    doIf_keeps (fun t => t.regs = s1.regs) _ _ (fun t ht => by rw [State.noteGate_regs, State.modChain_regs, ht]) s1 (by rfl)
  split
  · rw [State.modChain_regs, h2]
  · exact h2

end Sys2Proof.Machine
end

section
namespace Sys2Proof.Machine

theorem doIf_regs_congr {f g : State → State} (b : Bool) (s : State) (h : ∀ t, (f t).regs = (g t).regs) :
    (doIf b f s).regs = (doIf b g s).regs := by
  cases b
  · rfl
  · exact h s

theorem doIf_cases (P : State → Prop) {b : Bool} {f : State → State} {s : State} (h : b = true → P (f s)) (k : b = false → P s) :
    P (doIf b f s) := by
  cases b
  · exact k rfl
  · exact h rfl

theorem doIf_true (f : State → State) (s : State) : doIf true f s = f s := rfl

theorem doIf_false (f : State → State) (s : State) : doIf false f s = s := rfl

/-! ### A chain that follows its sources (R30, R31) -/

section
variable (s : State) {ch k : Nat}

theorem State.settleChain_chain_other (h : k ≠ ch) : (State.settleChain ch s).chain k = s.chain k := by
  unfold State.settleChain
  extract_lets held zeroing s1 s2 s3 s4
  have h1 : s1.chain k = s.chain k := State.put_chain ..
  have h2 : s2.chain k = s.chain k := doIf_keeps (fun t => t.chain k = s.chain k) _ _
    (fun t ht => by rw [State.modChain_chain_other _ _ h, State.setTxon_chain_other _ _ h, ht]) s1 h1
  have h3 : s3.chain k = s.chain k := by unfold s3; rw [State.modChain_chain_other _ _ h, h2]
  have h4 : s4.chain k = s.chain k := doIf_keeps (fun t => t.chain k = s.chain k) _ _
    (fun t ht => by rw [State.modChain_chain_other _ _ h, ht]) s3 h3
  rw [State.noteGate_chain_other _ _ h, h4]

theorem State.settleChain_chains_length : (State.settleChain ch s).chains.length = s.chains.length := by
  unfold State.settleChain
  extract_lets held zeroing s1 s2 s3 s4
  have h1 : s1.chains.length = s.chains.length := congrArg List.length (State.put_chains ..)
  have h2 : s2.chains.length = s.chains.length := doIf_keeps (fun t => t.chains.length = s.chains.length) _ _
    (fun t ht => by rw [State.modChain_chains_length, State.setTxon_chains_length, ht]) s1 h1
  have h3 : s3.chains.length = s.chains.length := by unfold s3; rw [State.modChain_chains_length, h2]
  have h4 : s4.chains.length = s.chains.length := doIf_keeps (fun t => t.chains.length = s.chains.length) _ _
    (fun t ht => by rw [State.modChain_chains_length, ht]) s3 h3
  rw [State.noteGate_chains_length, h4]

/-- HELD shows whether TXON is held off, and TXON goes off if it is: nothing else is written. -/
theorem State.settleChain_regs : (State.settleChain ch s).regs =
    (doIf (s.txHeld ch) (fun t => t.setTxon ch false) (s.put (R.CH_STATUS_TX_HELD ch) (b2n (s.txHeld ch)))).regs := by
  unfold State.settleChain
  extract_lets held zeroing s1 s2 s3 s4
  have h2 : s2.regs = (doIf held (fun t => t.setTxon ch false) s1).regs := doIf_regs_congr _ _ fun _ => State.modChain_regs ..
  have h4 : s4.regs = s3.regs := doIf_keeps (fun t => t.regs = s3.regs) _ _ (fun t ht => by rw [State.modChain_regs, ht]) s3 (Eq.refl _)
  rw [State.noteGate_regs, h4]
  unfold s3
  rw [State.modChain_regs, h2]

/-- What the chain itself then is: held, cleared and zeroed as its sources say. -/
theorem State.settleChain_chain (hc : ch < 64) (h : ch < s.chains.length) :
    ((State.settleChain ch s).chain ch).held = s.txHeld ch ∧ ((State.settleChain ch s).chain ch).cleared = s.biasCleared ch ∧
      (s.dacSource ch = true → ((State.settleChain ch s).chain ch).zero = true) := by
  unfold State.settleChain
  extract_lets held zeroing s1 s2 s3 s4
  have h1 : s1.chains.length = s.chains.length := congrArg List.length (State.put_chains ..)
  have h2 : s2.chains.length = s.chains.length := doIf_keeps (fun t => t.chains.length = s.chains.length) _ _
    (fun t ht => by rw [State.modChain_chains_length, State.setTxon_chains_length, ht]) s1 h1
  have hd : s.Driven s2 := .doIf (.put (.refl s) (.held ch hc)) fun _ h1 => .modChain (.setTxon h1 hc)
  have h3 : (s3.chain ch).held = held ∧ (s3.chain ch).cleared = s.biasCleared ch ∧
      (s3.chain ch).zero = ((s2.chain ch).zero || zeroing) := by
    unfold s3
    rw [State.modChain_chain s2 _ (h2 ▸ h)]
    exact ⟨rfl, hd.biasCleared_eq ch, rfl⟩
  have h4 : (s4.chain ch).held = held ∧ (s4.chain ch).cleared = s.biasCleared ch ∧ (zeroing = true → (s4.chain ch).zero = true) := by
    obtain ⟨hh, hk, hz⟩ := h3
    refine doIf_cases (fun t => (t.chain ch).held = held ∧ (t.chain ch).cleared = s.biasCleared ch ∧
      (zeroing = true → (t.chain ch).zero = true)) (fun hb => ?_) fun _ => ⟨hh, hk, fun z => by simp [hz, z]⟩
    rw [State.modChain_chain s3 _ (by unfold s3; rw [State.modChain_chains_length, h2]; exact h)]
    exact ⟨hh, hk, fun z => by simp [z] at hb⟩
  obtain ⟨log, hl⟩ := State.noteGate_chain s4.now ch ch s4
  rw [hl]
  exact h4

/-- A chain that is held off is off, and one that is not keeps TX_LIVE (R31). -/
theorem State.settleChain_live :
    (State.settleChain ch s).get (R.CH_STATUS_TX_LIVE ch) = if s.txHeld ch then 0 else s.get (R.CH_STATUS_TX_LIVE ch) := by
  rw [State.get_congr (State.settleChain_regs s)]
  cases s.txHeld ch
  · exact State.get_put_apart s _ .below
  · have ha : Field.Apart (R.TXON_LIVE_TXON (ch / 32)) (R.CH_STATUS_TX_LIVE ch) := .inl (by
      simp only [R.TXON_LIVE_TXON, R.TXON_LIVE, R.CH_STATUS_TX_LIVE, R.CH_STATUS]; omega)
    rw [doIf_true, State.get_congr (State.setTxon_regs _ ch false), State.putBit, State.get_put_apart _ _ ha, State.get_put, if_pos rfl]
    exact Nat.zero_mod _

theorem State.settleChain_live_other (hc : ch < 64) (h : k ≠ ch) :
    (State.settleChain ch s).get (R.CH_STATUS_TX_LIVE k) = s.get (R.CH_STATUS_TX_LIVE k) := by
  have hs : ∀ f : Field, f.addr = R.CH_STATUS ch ∨ f.addr = R.TXON_LIVE (ch / 32) → f.Apart (R.CH_STATUS_TX_LIVE k) := fun f e => .inl (by
    rcases e with e | e <;> rw [e] <;> simp only [R.TXON_LIVE, R.CH_STATUS_TX_LIVE, R.CH_STATUS] <;> omega)
  rw [State.get_congr (State.settleChain_regs s)]
  refine doIf_keeps (fun t => t.get (R.CH_STATUS_TX_LIVE k) = s.get (R.CH_STATUS_TX_LIVE k)) _ _ (fun t ht => ?_) _
    (State.get_put_apart s _ (hs _ (.inl rfl)))
  rw [State.get_congr (State.setTxon_regs t ch false), State.putBit, State.get_put_apart _ _ (hs _ (.inr rfl)),
    State.get_put_apart _ _ (hs _ (.inl rfl)), ht]

end
end Sys2Proof.Machine
end

section
namespace Sys2Proof.Machine

/-- A loop over a list brings about for one of its elements what that element's turn does, if the other turns keep it. -/
theorem forAll_reaches {α : Type} [DecidableEq α] (I P : State → Prop) (l : List α) (f : α → State → State) {a : α} (ha : a ∈ l)
    (hI : ∀ b ∈ l, ∀ s, I s → I (f b s)) (hP : ∀ s, I s → P (f a s)) (hk : ∀ b ∈ l, b ≠ a → ∀ s, I s → P s → P (f b s))
    (s : State) (h : I s) : P (forAll l f s) := by
  induction l generalizing s with
  | nil => simp at ha
  | cons b t ih =>
    have hIb := hI b (by simp) s h
    by_cases hat : a ∈ t
    · exact ih hat (fun c hc => hI c (by simp [hc])) (fun c hc => hk c (by simp [hc])) _ hIb
    · obtain rfl : a = b := by simpa [hat] using ha
      have := forAll_keeps (fun u => I u ∧ P u) t f (fun c hc u hu => ⟨hI c (by simp [hc]) u hu.1,
        hk c (by simp [hc]) (fun e => hat (e ▸ hc)) u hu.1 hu.2⟩) (f a s) ⟨hIb, hP s h⟩
      exact this.2

/-! ### Every chain follows its sources -/

theorem State.noteRx_chains_regs (s : State) : s.noteRx.chains = s.chains ∧ s.noteRx.regs = s.regs := by
  unfold State.noteRx
  refine forAll_keeps (fun t => t.chains = s.chains ∧ t.regs = s.regs) _ _ (fun q _ t ht => ?_) s ⟨Eq.refl _, Eq.refl _⟩
  extract_lets slip pass last
  split
  · exact ht
  · exact ht

theorem State.modAdac_chains (s : State) (n : Nat) (f : AdacX → AdacX) : (s.modAdac n f).chains = s.chains := rfl

theorem State.driveAdac_chains (n : Nat) (s : State) : (State.driveAdac n s).chains = s.chains := by
  unfold State.driveAdac
  extract_lets now
  split
  · rw [State.modAdac_chains, State.put_chains]
  · split
    · exact Eq.refl _
    · split
      · rw [State.modAdac_chains]
      · rw [State.put_chains]

theorem State.latchClear_chains (n : Nat) (s : State) : (State.latchClear n s).chains = s.chains := by
  unfold State.latchClear
  split
  · rw [State.modAdac_chains]
  · exact Eq.refl _

theorem State.latchClear_regs (n : Nat) (s : State) : (State.latchClear n s).regs = s.regs := by
  unfold State.latchClear
  split
  · exact State.modAdac_regs ..
  · exact Eq.refl _

theorem State.driveAdac_get (n : Nat) (s : State) {g : Field} (h : (R.ADAC_CODE_NOW n).Apart g) :
    (State.driveAdac n s).get g = s.get g := by
  unfold State.driveAdac
  extract_lets now
  split
  · exact (State.get_congr (State.modAdac_regs ..) g).trans (State.get_put_apart _ _ h)
  · split
    · exact Eq.refl _
    · split
      · exact State.get_congr (State.modAdac_regs ..) g
      · exact State.get_put_apart _ _ h

/-- The aux DAC channels that follow leave the chains. -/
theorem State.settle_chains (s : State) : s.settle.chains = (forAll (List.range 64) State.settleChain s).chains := by
  unfold State.settle
  extract_lets s1
  have h1 : s1.chains = (forAll (List.range 64) State.settleChain s).chains := (State.noteRx_chains_regs _).1
  exact forAll_keeps (fun t => t.chains = (forAll (List.range 64) State.settleChain s).chains) _ _
    (fun n _ t ht => by rw [State.driveAdac_chains, State.latchClear_chains, ht]) s1 h1

/-- An aux DAC channel shows in its own register only. -/
theorem State.settle_get_live (s : State) (ch : Nat) :
    s.settle.get (R.CH_STATUS_TX_LIVE ch) = (forAll (List.range 64) State.settleChain s).get (R.CH_STATUS_TX_LIVE ch) := by
  unfold State.settle
  extract_lets s1
  have h1 : s1.get (R.CH_STATUS_TX_LIVE ch) = (forAll (List.range 64) State.settleChain s).get (R.CH_STATUS_TX_LIVE ch) :=
    State.get_congr (State.noteRx_chains_regs _).2 _
  refine forAll_keeps (fun t => t.get (R.CH_STATUS_TX_LIVE ch) = s1.get (R.CH_STATUS_TX_LIVE ch)) _ _
    (fun n hn t ht => ?_) s1 (Eq.refl _) |>.trans h1
  have ha : (R.ADAC_CODE_NOW n).Apart (R.CH_STATUS_TX_LIVE ch) := .inl (by
    have := List.mem_range.1 hn
    simp only [R.ADAC_CODE_NOW, R.ADAC_CODE, R.CH_STATUS_TX_LIVE, R.CH_STATUS]; omega)
  rw [State.driveAdac_get n _ ha, State.get_congr (State.latchClear_regs n t), ht]

section
variable (s : State) {ch : Nat} (hc : ch < 64)
include hc

/-- Once settled, a chain is held, cleared and zeroed as its sources say (R30, R31). -/
theorem State.settle_chain (h : ch < s.chains.length) :
    (s.settle.chain ch).held = s.txHeld ch ∧ (s.settle.chain ch).cleared = s.biasCleared ch ∧
      (s.dacSource ch = true → (s.settle.chain ch).zero = true) := by
  unfold State.chain
  rw [s.settle_chains]
  refine forAll_reaches (fun t => s.Driven t ∧ t.chains.length = s.chains.length)
    (fun t => (t.chain ch).held = s.txHeld ch ∧ (t.chain ch).cleared = s.biasCleared ch ∧
      (s.dacSource ch = true → (t.chain ch).zero = true)) _ _ (List.mem_range.2 hc) ?_ ?_ ?_ s ⟨.refl s, Eq.refl _⟩
  · exact fun k hk t ht => ⟨.settleChain ht.1 (List.mem_range.1 hk), (State.settleChain_chains_length t).trans ht.2⟩
  · rintro t ⟨hd, hl⟩
    rw [← hd.txHeld_eq, ← hd.biasCleared_eq, ← hd.dacSource_eq]
    exact State.settleChain_chain t hc (hl ▸ h)
  · intro k _ hk t _ ht
    rw [State.settleChain_chain_other t (Ne.symm hk)]
    exact ht

/-- A chain that a source holds off is off (R31). -/
theorem State.settle_live (h : s.txHeld ch = true) : s.settle.get (R.CH_STATUS_TX_LIVE ch) = 0 := by
  rw [s.settle_get_live]
  refine forAll_reaches (fun t => s.Driven t) (fun t => t.get (R.CH_STATUS_TX_LIVE ch) = 0) _ _ (List.mem_range.2 hc)
    (fun k hk t ht => .settleChain ht (List.mem_range.1 hk)) (fun t ht => ?_) (fun k hm hk t _ ht => ?_) s (.refl s)
  · rw [State.settleChain_live, ht.txHeld_eq, h, if_pos rfl]
  · rw [State.settleChain_live_other t (List.mem_range.1 hm) (Ne.symm hk), ht]

end
end Sys2Proof.Machine
end

section
namespace Sys2Proof.Machine

/-! ### Chains through alarms -/

/-- A chain's transmit path is shut: held off, its bias cleared and its samples zero (R30, R31). -/
structure ChainX.Shut (x : ChainX) : Prop where
  held : x.held = true
  cleared : x.cleared = true
  zero : x.zero = true

/-- The transmit path of a chain is shut, and TXON is off. -/
structure State.TxShut (s : State) (ch : Nat) : Prop where
  chain : (s.chain ch).Shut
  live : s.get (R.CH_STATUS_TX_LIVE ch) = 0

theorem State.txHeld_of_cleared {s : State} {ch : Nat} (h : s.biasCleared ch = true) : s.txHeld ch = true := by
  simp [State.txHeld, h]

theorem State.dacSource_of_held {s : State} {ch : Nat} (h : s.txHeld ch = true) : s.dacSource ch = true := by
  simp [State.dacSource, h]

theorem SentField.apart_status {f : Field} (h : SentField f) {g : Field} {ch : Nat} (hc : ch < 64) (hg : g.addr = R.CH_STATUS ch) :
    f.Apart g := by
  refine .inl ?_
  rw [hg]
  cases h <;> simp only [R.SESS_STAT_EVQ, R.SESS_STAT, R.CMD_CNT3_SPI_OVF, R.CMD_CNT3, R.CH_STATUS] <;> omega

theorem RecordField.apart_status {f : Field} (h : RecordField f) {g : Field} {ch : Nat} (hc : ch < 64) (hg : g.addr = R.CH_STATUS ch) :
    f.Apart g := by
  refine .inl fun e => ?_
  have := h.block
  rw [← e, hg] at this
  simp only [R.CH_STATUS] at this
  omega

section
variable {s t : State} {ch : Nat} (hc : ch < 64)
include hc

/-- A settled chain whose bias a source clears is shut. -/
theorem State.settle_txShut (hl : ch < s.chains.length) (h : s.biasCleared ch = true) : s.settle.TxShut ch := by
  have hh := State.txHeld_of_cleared h
  obtain ⟨a, b, c⟩ := State.settle_chain s hc hl
  exact ⟨⟨a.trans hh, b.trans h, c (State.dacSource_of_held hh)⟩, State.settle_live s hc hh⟩

theorem State.Sent.txShut (h : s.Sent t) (k : s.TxShut ch) : t.TxShut ch := by
  have e : t.chain ch = s.chain ch := h.keeps (State.chain · ch)
  exact ⟨e ▸ k.chain, (h.writes.get _ fun _ hf => hf.apart_status hc rfl).trans k.live⟩

theorem State.Filed.txShut (h : s.Filed t) (k : s.TxShut ch) : t.TxShut ch := by
  have e : t.chain ch = s.chain ch := h.keeps (State.chain · ch)
  exact ⟨e ▸ k.chain, (h.writes.get _ fun _ hf => hf.apart_status hc rfl).trans k.live⟩

end

/-! ### Receive enables -/

section
variable (s : State) {ch k : Nat}

/-- The registers after RXON is set are RX_LIVE and RXON put, and no more. -/
theorem State.setRxon_regs (b : Bool) :
    (s.setRxon ch b).regs = ((s.put (R.CH_STATUS_RX_LIVE ch) (b2n b)).putBit (R.RXON_LIVE_RXON (ch / 32)) (ch % 32) b).regs := by
  unfold State.setRxon
  extract_lets was s1 s2
  have h2 : s2.regs = s1.regs :=
    doIf_keeps (fun t => t.regs = s1.regs) _ _ (fun t ht => by unfold State.noteTrk; rw [State.modChain_regs, ht]) s1 (Eq.refl _)
  split
  · rw [State.modChain_regs, h2]
  · exact h2

theorem State.setRxon_get_apart (b : Bool) {g : Field} (h1 : (R.CH_STATUS_RX_LIVE ch).Apart g)
    (h2 : (R.RXON_LIVE_RXON (ch / 32)).Apart g) : (s.setRxon ch b).get g = s.get g := by
  rw [State.get_congr (State.setRxon_regs s b), State.putBit, State.get_put_apart _ _ h2, State.get_put_apart _ _ h1]

theorem R.RXON_LIVE_apart_status {ch k : Nat} (hc : ch < 64) (_ : k < 64) {g : Field} (hg : g.addr = R.CH_STATUS k) :
    (R.RXON_LIVE_RXON (ch / 32)).Apart g := .inl (by rw [hg]; simp only [R.RXON_LIVE_RXON, R.RXON_LIVE, R.CH_STATUS]; omega)

theorem State.setRxon_live (hc : ch < 64) : (s.setRxon ch false).get (R.CH_STATUS_RX_LIVE ch) = 0 := by
  rw [State.get_congr (State.setRxon_regs s false), State.putBit, State.get_put_apart _ _ (R.RXON_LIVE_apart_status hc hc rfl),
    State.get_put]
  exact Nat.zero_mod _

theorem State.modChain_shut {f : ChainX → ChainX} (hf : ∀ x : ChainX, x.Shut → (f x).Shut) (h : (s.chain k).Shut) :
    ((s.modChain ch f).chain k).Shut := by
  unfold State.modChain State.chain
  rw [getD_updAt]
  split
  · exact hf _ h
  · exact h

theorem State.setRxon_chain_shut (b : Bool) (h : (s.chain k).Shut) : ((s.setRxon ch b).chain k).Shut := by
  unfold State.setRxon
  extract_lets was s1 s2
  have h1 : (s1.chain k).Shut := by unfold s1; rw [State.putBit_chain, State.put_chain]; exact h
  have h2 : (s2.chain k).Shut := doIf_keeps (fun t => (t.chain k).Shut) _ _
    (fun t ht => by unfold State.noteTrk; exact State.modChain_shut t (fun x ⟨a, b, c⟩ => ⟨a, b, c⟩) ht) s1 h1
  split
  · exact State.modChain_shut s2 (fun x ⟨a, b, c⟩ => ⟨a, b, c⟩) h2
  · exact h2

theorem R.CH_STATUS_RX_LIVE_apart_TX_LIVE (ch k : Nat) : (R.CH_STATUS_RX_LIVE ch).Apart (R.CH_STATUS_TX_LIVE k) := by
  by_cases e : k = ch
  · subst e; exact .below
  · exact .inl (by simp only [R.CH_STATUS_TX_LIVE, R.CH_STATUS_RX_LIVE, R.CH_STATUS]; omega)

theorem State.setRxon_txShut (hc : ch < 64) (hk : k < 64) (h : s.TxShut k) : (s.setRxon ch false).TxShut k := by
  exact ⟨State.setRxon_chain_shut s false h.chain, (State.setRxon_get_apart s false (R.CH_STATUS_RX_LIVE_apart_TX_LIVE ch k)
    (R.RXON_LIVE_apart_status hc hk rfl)).trans h.live⟩

end

theorem SentField.apart_safe {f : Field} (h : SentField f) : f.Apart R.FM_STATUS_SAFE := by
  refine .inl ?_
  cases h <;> simp only [R.SESS_STAT_EVQ, R.SESS_STAT, R.CMD_CNT3_SPI_OVF, R.CMD_CNT3, R.FM_STATUS_SAFE, R.FM_STATUS] <;> omega

/-! ### The latched safe state (R542) -/

section
variable (s : State) (c : SafeCause) {ch : Nat}

/-- A device that enters the safe state, before SAFE_STATE goes out. -/
def State.safeOutputs (s : State) (c : SafeCause) : State :=
  let s := (s.put R.FM_STATUS_SAFE 1).put R.FM_STATUS_CAUSE (safeCauseCode c)
  let s := s.modFm fun x => { x with safeAt := some s.now }
  forAll (List.range 64) (fun ch s => s.setRxon ch false) s.settle

theorem State.enterSafe_eq (h : s.flag R.FM_STATUS_SAFE = false) : s.enterSafe c = (s.safeOutputs c).sendSafeState c := by
  unfold State.enterSafe
  rw [if_neg (by simp [h])]
  rfl

theorem State.enterSafe_of_safe (h : s.flag R.FM_STATUS_SAFE = true) : s.enterSafe c = s := by
  unfold State.enterSafe
  rw [if_pos h]

/-- SAFE is set and every receive enable is off; every transmit path is shut where the chains are all there. -/
theorem State.safeOutputs_spec : (s.safeOutputs c).flag R.FM_STATUS_SAFE = true ∧
    ∀ ch, ch < 64 → (s.safeOutputs c).get (R.CH_STATUS_RX_LIVE ch) = 0 ∧ (s.safeOutputs c).get (R.CH_STATUS_TX_LIVE ch) = 0 ∧
      (ch < s.chains.length → (s.safeOutputs c).TxShut ch) := by
  unfold State.safeOutputs
  extract_lets s1 s2
  have hs : s2.flag R.FM_STATUS_SAFE = true := by
    have h1 : s1.flag R.FM_STATUS_SAFE = true := (State.flag_put_apart _ _ .above).trans (State.flag_put s true)
    exact (State.flag_congr (State.get_congr (State.modFm_regs ..) _)).trans h1
  have hb : ∀ ch, s2.biasCleared ch = true := fun ch => by simp [State.biasCleared, State.rank1, hs]
  have hl : s2.chains = s.chains := (show s.Filed s2 from .modFm (.put (.put (.refl s) .safe) .cause)).keeps State.chains
  have hset : s2.settle.flag R.FM_STATUS_SAFE = true :=
    ((State.Driven.settle (.refl s2)).writes.flag fun _ hf => hf.apart_safe).trans hs
  refine ⟨?_, fun ch hc => ⟨?_, ?_, fun h => ?_⟩⟩
  · refine forAll_keeps (fun t => t.flag R.FM_STATUS_SAFE = true) _ _ (fun k hk t ht => ?_) _ hset
    have := List.mem_range.1 hk
    rw [State.flag_congr (State.setRxon_get_apart t false (.inl ?_) (.inl ?_)), ht]
    · simp only [R.CH_STATUS_RX_LIVE, R.CH_STATUS, R.FM_STATUS_SAFE, R.FM_STATUS]; omega
    · simp only [R.RXON_LIVE_RXON, R.RXON_LIVE, R.FM_STATUS_SAFE, R.FM_STATUS]; omega
  · refine forAll_reaches (fun _ => True) (fun t => t.get (R.CH_STATUS_RX_LIVE ch) = 0) _ (fun k t => t.setRxon k false) (List.mem_range.2 hc)
      (fun _ _ _ _ => trivial) (fun t _ => State.setRxon_live t hc) (fun k hk e t _ ht => ?_) _ trivial
    have := List.mem_range.1 hk
    rw [State.setRxon_get_apart t false (.inl ?_) (R.RXON_LIVE_apart_status this hc rfl), ht]
    simp only [R.CH_STATUS_RX_LIVE, R.CH_STATUS]; omega
  · refine forAll_keeps (fun t => t.get (R.CH_STATUS_TX_LIVE ch) = 0) _ _ (fun k hk t ht => ?_) _
      (State.settle_live s2 hc (State.txHeld_of_cleared (hb ch)))
    have := List.mem_range.1 hk
    rw [State.setRxon_get_apart t false (R.CH_STATUS_RX_LIVE_apart_TX_LIVE k ch) (R.RXON_LIVE_apart_status this hc rfl), ht]
  · exact forAll_keeps (fun t => t.TxShut ch) _ _ (fun k hk t ht => State.setRxon_txShut t (List.mem_range.1 hk) hc ht) _
      (State.settle_txShut hc (by rw [hl]; exact h) (hb ch))

/-- A device in the safe state shows it; if it was not in it before, every transmit and receive enable is off. -/
theorem State.enterSafe_spec : (s.enterSafe c).flag R.FM_STATUS_SAFE = true ∧ (s.flag R.FM_STATUS_SAFE = false →
    ∀ ch, ch < 64 → (s.enterSafe c).get (R.CH_STATUS_TX_LIVE ch) = 0 ∧ (s.enterSafe c).get (R.CH_STATUS_RX_LIVE ch) = 0) := by
  by_cases h : s.flag R.FM_STATUS_SAFE = true
  · rw [State.enterSafe_of_safe s c h]
    exact ⟨h, fun k => by simp [h] at k⟩
  · rw [State.enterSafe_eq s c (by simpa using h)]
    obtain ⟨hs, hx⟩ := State.safeOutputs_spec s c
    have hw := (State.Sent.sendSafeState (c := c) (.refl (s.safeOutputs c))).writes
    refine ⟨(hw.flag fun _ hf => SentField.apart_safe hf).trans hs, fun _ ch hc => ?_⟩
    obtain ⟨hr, ht, -⟩ := hx ch hc
    exact ⟨(hw.get _ fun _ hf => hf.apart_status hc rfl).trans ht, (hw.get _ fun _ hf => hf.apart_status hc rfl).trans hr⟩

theorem State.enterSafe_txShut (hc : ch < 64) (hl : ch < s.chains.length) (h : s.TxShut ch) : (s.enterSafe c).TxShut ch := by
  by_cases hs : s.flag R.FM_STATUS_SAFE = true
  · rw [State.enterSafe_of_safe s c hs]
    exact h
  · rw [State.enterSafe_eq s c (by simpa using hs)]
    exact (State.Sent.sendSafeState (.refl _)).txShut hc (((State.safeOutputs_spec s c).2 ch hc).2.2 hl)

/-- A report leaves a shut transmit path shut. -/
theorem State.report_txShut {r : Report} (hu : r.unit < 0x40) (hc : ch < 64) (hl : ch < s.chains.length) (h : s.TxShut ch) :
    (s.report r).TxShut ch := by
  have hf : s.Filed (s.fileRecord r) := .fileRecord (.refl s) hu
  have hl' : ch < (s.fileRecord r).chains.length := (hf.keeps State.chains).symm ▸ hl
  have h1 : (s.fileRecord r).TxShut ch := hf.txShut hc h
  unfold State.report
  extract_lets +onlyGivenNames _ s1
  split
  · exact State.enterSafe_txShut _ _ hc hl' h1
  · split
    · split
      · exact State.enterSafe_txShut _ _ hc hl' h1
      · exact h1
    · exact h1

end
end Sys2Proof.Machine
end

section
namespace Sys2Proof.Machine

/-! ### Carrier slots in force -/

/-- The slots in force read CS_CFG only. -/
theorem State.activeOn_congr {s t : State} (h : ∀ d cs, cs < 8 → t.reg (R.CS_CFG (dirIx d) cs) = s.reg (R.CS_CFG (dirIx d) cs))
    (d : Dir) (q : Nat) : t.activeOn d q = s.activeOn d q := by
  unfold State.activeOn
  refine List.filter_congr fun cs hcs => ?_
  have e := h d cs (List.mem_range.1 hcs)
  have e1 : t.get (R.CS_CFG_EN_NOW (dirIx d) cs) = s.get (R.CS_CFG_EN_NOW (dirIx d) cs) := congrArg _ e
  have e2 : t.get (R.CS_CFG_QMASK (dirIx d) cs) = s.get (R.CS_CFG_QMASK (dirIx d) cs) := congrArg _ e
  unfold State.active State.flag State.fbit
  rw [e1, e2]

theorem dirIx_lt (d : Dir) : dirIx d < 2 := by cases d <;> decide

theorem R.CS_CFG_ne_ctrl (d : Dir) {cs : Nat} (_ : cs < 8) {ch : Nat} (_ : ch < 64) : R.CS_CFG (dirIx d) cs ≠ R.CH_CTRL ch := by
  have := dirIx_lt d
  simp only [R.CS_CFG, R.CH_CTRL]
  omega

theorem State.activeOn_put_ctrl (s : State) {ch : Nat} (hc : ch < 64) {f : Field} (hf : f.addr = R.CH_CTRL ch) (v : Nat) (d : Dir) (q : Nat) :
    (s.put f v).activeOn d q = s.activeOn d q :=
  State.activeOn_congr (fun d _ hcs => State.reg_put_other s f _ v (by rw [hf]; exact R.CS_CFG_ne_ctrl d hcs hc)) d q

/-! ### A settled chain by its parts -/

/-- From `s0` on only registers and chains changed. -/
def State.OnChains (s0 s : State) : Prop := ∃ regs chains, s = { s0 with regs := regs, chains := chains }

namespace State.OnChains

section
variable {s0 s t : State}

theorem refl (s : State) : s.OnChains s := ⟨_, _, rfl⟩

theorem put {f : Field} {v : Nat} (h : s0.OnChains s) : s0.OnChains (s.put f v) := by
  obtain ⟨r, c, rfl⟩ := h
  exact ⟨_, _, rfl⟩

theorem modChain {ch : Nat} {f : ChainX → ChainX} (h : s0.OnChains s) : s0.OnChains (s.modChain ch f) := by
  obtain ⟨r, c, rfl⟩ := h
  exact ⟨_, _, rfl⟩

theorem doIf {b : Bool} {f : State → State} (h : s0.OnChains s) (k : ∀ u, s0.OnChains u → s0.OnChains (f u)) :
    s0.OnChains (Machine.doIf b f s) := doIf_keeps _ b f k s h

theorem noteGate {c ch : Nat} (h : s0.OnChains s) : s0.OnChains (State.noteGate c ch s) := by
  unfold State.noteGate
  extract_lets
  split
  · exact h
  · exact .modChain h

theorem setTxon {ch : Nat} {b : Bool} (h : s0.OnChains s) : s0.OnChains (s.setTxon ch b) := by
  unfold State.setTxon
  extract_lets +onlyGivenNames _ _ s1
  have hs1 : s0.OnChains s1 := .doIf (.put (.put h)) fun _ h1 => .noteGate (.modChain h1)
  split
  · exact .modChain hs1
  · exact hs1

theorem settleChain {ch : Nat} (h : s0.OnChains s) : s0.OnChains (State.settleChain ch s) := by
  unfold State.settleChain
  exact .noteGate (.doIf (.modChain (.doIf (.put h) fun _ h1 => .modChain (.setTxon h1))) fun _ h1 => .modChain h1)

theorem eq_with (h : s0.OnChains s) : s = { s0 with regs := s.regs, chains := s.chains } := by
  obtain ⟨r, c, rfl⟩ := h
  rfl

end
end State.OnChains

theorem State.settleChain_reg (s : State) {ch a : Nat} (h1 : a ≠ R.CH_STATUS ch) (h2 : a ≠ R.TXON_LIVE (ch / 32)) :
    (State.settleChain ch s).reg a = s.reg a := by
  rw [State.reg_congr (State.settleChain_regs s)]
  refine doIf_keeps (fun t => t.reg a = s.reg a) _ _ (fun t ht => ?_) _ (State.reg_put_other _ _ _ _ h1)
  rw [State.reg_congr (State.setTxon_regs t ch false), State.putBit, State.reg_put_other _ _ _ _ h2, State.reg_put_other _ _ _ _ h1, ht]

/-- A put that shares no bit with the safe state and with LO_READY leaves what holds TXON off. -/
theorem State.txHeld_put (s : State) {f : Field} (n : Nat) (h1 : f.addr ≠ R.FM_STATUS) (h2 : f.addr ≠ R.LO_STATUS) (ch : Nat) :
    (s.put f n).txHeld ch = s.txHeld ch := by
  have e1 : (s.put f n).flag R.FM_STATUS_SAFE = s.flag R.FM_STATUS_SAFE :=
    State.flag_congr (State.get_put_other _ _ _ _ (Ne.symm h1))
  have e2 : (s.put f n).fbit R.LO_STATUS_LO_READY (quadOf ch) = s.fbit R.LO_STATUS_LO_READY (quadOf ch) :=
    State.fbit_congr (State.get_put_other _ _ _ _ (Ne.symm h2)) _
  unfold State.txHeld State.biasCleared State.rank1 State.rank2 State.rank3 State.rank5
  rw [e1, e2, State.put_hold, State.put_pw]

/-! ### The management mutes and the protection enable -/

section
variable (s : State) {ch : Nat} (v : Bool) (hc : ch < 64)
include hc

theorem R.CH_CTRL_ne_fm : R.CH_CTRL ch ≠ R.FM_STATUS := by simp only [R.CH_CTRL, R.FM_STATUS]; omega

theorem R.CH_CTRL_ne_lo : R.CH_CTRL ch ≠ R.LO_STATUS := by simp only [R.CH_CTRL, R.LO_STATUS]; omega

/-- TX_MUTE is a source of rank 4: the chain's samples are zero while it is set, and what holds TXON off is asked anew (R78). -/
theorem State.txMuteWrite_spec (hl : s.chains.length = 64) : (s.txMuteWrite ch v).flag (R.CH_CTRL_TX_MUTE ch) = v ∧
    (v = true → ((s.txMuteWrite ch v).chain ch).zero = true) ∧
    (s.txHeld ch = false → (s.txMuteWrite ch v).get (R.CH_STATUS_TX_LIVE ch) = s.get (R.CH_STATUS_TX_LIVE ch) ∧
      ((s.txMuteWrite ch v).chain ch).held = false) := by
  unfold State.txMuteWrite
  set u := s.put (R.CH_CTRL_TX_MUTE ch) (b2n v) with hu
  have hd : u.Driven (State.settleChain ch u) := .settleChain (.refl u) hc
  have hm : u.flag (R.CH_CTRL_TX_MUTE ch) = v := State.flag_put s v
  have hh : u.txHeld ch = s.txHeld ch := State.txHeld_put s _ (R.CH_CTRL_ne_fm hc) (R.CH_CTRL_ne_lo hc) ch
  obtain ⟨h1, -, h3⟩ := State.settleChain_chain u hc (by rw [hu, State.put_chains, hl]; exact hc)
  refine ⟨(hd.writes.flag fun f hf => .inl (hf.ne_ctrl ch)).trans hm, fun hv => h3 ?_, fun hs => ⟨?_, ?_⟩⟩
  · simp [State.dacSource, State.rank4, hm, hv]
  · rw [State.settleChain_live, hh, hs, if_neg (by simp)]
    exact State.get_put_other s _ _ _ (by simp only [R.CH_STATUS_TX_LIVE, R.CH_STATUS, R.CH_CTRL_TX_MUTE, R.CH_CTRL]; omega)
  · rw [h1, hh, hs]

omit hc in
theorem State.txMuteWrite_frame : s.OnChains (s.txMuteWrite ch v) ∧ (∀ k, k ≠ ch → (s.txMuteWrite ch v).chain k = s.chain k) ∧
    ∀ a, a ≠ R.CH_CTRL ch → a ≠ R.CH_STATUS ch → a ≠ R.TXON_LIVE (ch / 32) → (s.txMuteWrite ch v).reg a = s.reg a := by
  unfold State.txMuteWrite
  refine ⟨.settleChain (.put (.refl s)), fun k hk => ?_, fun a h1 h2 h3 => ?_⟩
  · rw [State.settleChain_chain_other _ hk, State.put_chain]
  · rw [State.settleChain_reg _ h2 h3]
    exact State.reg_put_other s _ a _ h1

/-- RX_MUTE is in force at once while no uplink slot is active on the quadrant, and else waits (R80). -/
theorem State.rxMuteWrite_eq : s.rxMuteWrite ch v =
    doIf (s.activeOn .ul (quadOf ch)).isEmpty (fun s => s.modChain ch fun x => { x with rxMuted := v })
      (s.put (R.CH_CTRL_RX_MUTE ch) (b2n v)) := by
  unfold State.rxMuteWrite
  rw [← State.activeOn_put_ctrl s hc (f := R.CH_CTRL_RX_MUTE ch) rfl (b2n v)]

/-- RX_PROT written 0 ends protection at once while no uplink slot is active on the quadrant (R83). -/
theorem State.rxProtWrite_eq : s.rxProtWrite ch v =
    doIf (!v && (s.activeOn .ul (quadOf ch)).isEmpty)
      (fun s => (s.put (R.CH_STATUS_RX_PROTECTED ch) 0).modChain ch fun x => { x with protSlots := 0 })
      (s.put (R.CH_CTRL_RX_PROT ch) (b2n v)) := by
  unfold State.rxProtWrite
  rw [← State.activeOn_put_ctrl s hc (f := R.CH_CTRL_RX_PROT ch) rfl (b2n v)]

/-- The management mute of a receive chain, and what it leaves. -/
theorem State.rxMuteWrite_spec (hl : s.chains.length = 64) : (s.rxMuteWrite ch v).flag (R.CH_CTRL_RX_MUTE ch) = v ∧
    (s.activeOn .ul (quadOf ch) = [] → (s.rxMuteWrite ch v).chain ch = { s.chain ch with rxMuted := v }) ∧
    (s.activeOn .ul (quadOf ch) ≠ [] → (s.rxMuteWrite ch v).chains = s.chains) ∧ s.OnChains (s.rxMuteWrite ch v) ∧
    (∀ k, k ≠ ch → (s.rxMuteWrite ch v).chain k = s.chain k) ∧ ∀ a, a ≠ R.CH_CTRL ch → (s.rxMuteWrite ch v).reg a = s.reg a := by
  rw [State.rxMuteWrite_eq s v hc]
  have hm : (s.put (R.CH_CTRL_RX_MUTE ch) (b2n v)).flag (R.CH_CTRL_RX_MUTE ch) = v := State.flag_put s v
  have hr : ∀ a, a ≠ R.CH_CTRL ch → (s.put (R.CH_CTRL_RX_MUTE ch) (b2n v)).reg a = s.reg a :=
    fun a => State.reg_put_other s (R.CH_CTRL_RX_MUTE ch) a _
  have hs : s.OnChains (s.put (R.CH_CTRL_RX_MUTE ch) (b2n v)) := .put (.refl s)
  have hch : (s.put (R.CH_CTRL_RX_MUTE ch) (b2n v)).chains = s.chains := State.put_chains ..
  generalize s.put (R.CH_CTRL_RX_MUTE ch) (b2n v) = u at *
  have hx : ∀ k, u.chain k = s.chain k := fun k => by rw [State.chain, hch, State.chain]
  cases he : s.activeOn .ul (quadOf ch) with
  | nil =>
    rw [List.isEmpty_nil, doIf_true]
    exact ⟨(State.flag_congr (State.modChain_get u _ _)).trans hm, fun _ => by rw [State.modChain_chain u _ (by rw [hch, hl]; exact hc), hx], fun h => absurd rfl h, .modChain hs,
      fun k hk => by rw [State.modChain_chain_other u _ hk, hx], fun a h => (State.reg_congr (State.modChain_regs ..) a).trans (hr a h)⟩
  | cons x l =>
    rw [List.isEmpty_cons, doIf_false]
    exact ⟨hm, fun h => by simp at h, fun _ => hch, hs, fun k _ => hx k, hr⟩

/-- The enable of the receive protection, and what it leaves. -/
theorem State.rxProtWrite_spec (hl : s.chains.length = 64) : (s.rxProtWrite ch v).flag (R.CH_CTRL_RX_PROT ch) = v ∧
    (v = false → s.activeOn .ul (quadOf ch) = [] → (s.rxProtWrite ch v).flag (R.CH_STATUS_RX_PROTECTED ch) = false ∧
      (s.rxProtWrite ch v).chain ch = { s.chain ch with protSlots := 0 }) ∧
    (v = true ∨ s.activeOn .ul (quadOf ch) ≠ [] → s.rxProtWrite ch v = s.put (R.CH_CTRL_RX_PROT ch) (b2n v)) ∧
    s.OnChains (s.rxProtWrite ch v) ∧ ∀ a, a ≠ R.CH_CTRL ch → a ≠ R.CH_STATUS ch → (s.rxProtWrite ch v).reg a = s.reg a := by
  rw [State.rxProtWrite_eq s v hc]
  have hm : (s.put (R.CH_CTRL_RX_PROT ch) (b2n v)).flag (R.CH_CTRL_RX_PROT ch) = v := State.flag_put s v
  have hr : ∀ a, a ≠ R.CH_CTRL ch → (s.put (R.CH_CTRL_RX_PROT ch) (b2n v)).reg a = s.reg a :=
    fun a => State.reg_put_other s (R.CH_CTRL_RX_PROT ch) a _
  have hs : s.OnChains (s.put (R.CH_CTRL_RX_PROT ch) (b2n v)) := .put (.refl s)
  have hch : (s.put (R.CH_CTRL_RX_PROT ch) (b2n v)).chains = s.chains := State.put_chains ..
  generalize s.put (R.CH_CTRL_RX_PROT ch) (b2n v) = u at *
  by_cases h : v = false ∧ s.activeOn .ul (quadOf ch) = []
  · obtain ⟨hv, ha⟩ := h
    rw [hv, ha, Bool.not_false, List.isEmpty_nil, Bool.and_true, doIf_true]
    have hf : (u.put (R.CH_STATUS_RX_PROTECTED ch) 0).get (R.CH_STATUS_RX_PROTECTED ch) = 0 := State.get_put u 0
    have hk : (u.put (R.CH_STATUS_RX_PROTECTED ch) 0).flag (R.CH_CTRL_RX_PROT ch) = v := (State.flag_put_apart u 0 (.inl (by
      simp only [R.CH_CTRL_RX_PROT, R.CH_CTRL, R.CH_STATUS_RX_PROTECTED, R.CH_STATUS]; omega))).trans hm
    have hrw : ∀ a, a ≠ R.CH_STATUS ch → (u.put (R.CH_STATUS_RX_PROTECTED ch) 0).reg a = u.reg a :=
      fun a => State.reg_put_other u (R.CH_STATUS_RX_PROTECTED ch) a 0
    have hsw : s.OnChains (u.put (R.CH_STATUS_RX_PROTECTED ch) 0) := .put hs
    have hcw : (u.put (R.CH_STATUS_RX_PROTECTED ch) 0).chains = s.chains := (State.put_chains ..).trans hch
    generalize u.put (R.CH_STATUS_RX_PROTECTED ch) 0 = w at *
    exact ⟨(State.flag_congr (State.modChain_get w _ _)).trans (hk.trans hv), fun _ _ => ⟨State.flag_eq_false.2 ((State.modChain_get w _ _).trans hf), by
      rw [State.modChain_chain w _ (by rw [hcw, hl]; exact hc), State.chain, hcw, State.chain]⟩, fun k => by simp at k,
      .modChain hsw,
      fun a h1 h2 => (State.reg_congr (State.modChain_regs ..) a).trans ((hrw a h2).trans (hr a h1))⟩
  · have hd : (!v && (s.activeOn .ul (quadOf ch)).isEmpty) = false := by
      cases v
      · simpa using h
      · rfl
    rw [hd, doIf_false]
    exact ⟨hm, fun h1 h2 => absurd ⟨h1, h2⟩ h, fun _ => Eq.refl _, hs, fun a h1 _ => hr a h1⟩

end
end Sys2Proof.Machine

open Sys2Proof Sys2Proof.Machine

/-- Settles O17: each write by what it does to its own flag, its own chain and the rest. -/
theorem chainMutesAndProtection : Obligations.ChainMutesAndProtection := by
  unfold Obligations.ChainMutesAndProtection
  intro ch v s hc hl
  refine ⟨⟨s.txMuteWrite ch v, rfl, ?_⟩, ⟨s.rxMuteWrite ch v, rfl, ?_⟩, ⟨s.rxProtWrite ch v, rfl, ?_⟩⟩
  · obtain ⟨h1, h2, h3⟩ := State.txMuteWrite_spec s v hc hl
    obtain ⟨f1, f2, f3⟩ := State.txMuteWrite_frame s v
    exact ⟨h1, h2, h3, f1.eq_with, f2, f3⟩
  · obtain ⟨h1, h2, h3, h4, h5, h6⟩ := State.rxMuteWrite_spec s v hc hl
    exact ⟨h1, h2, h3, h4.eq_with, h5, h6⟩
  · obtain ⟨h1, h2, h3, h4, h5⟩ := State.rxProtWrite_spec s v hc hl
    exact ⟨h1, h2, h3, h4.eq_with, h5⟩
end

section
/-! The urgent opcodes (R449, R458, R583): a command of Q0 that passes its checks acts six cycles after it was accepted. -/

namespace Sys2Proof.Machine

/-! ### Replies -/

namespace State.Sent

section
variable {s0 s : State}

theorem served {c : Cmd} (h : s0.Sent s) : s0.Sent (s.served c) := by
  unfold State.served
  split
  · split
    · exact h
    · exact .frame h
  · exact h

theorem putReply {c : Cmd} {p : Packet} (h : s0.Sent s) : s0.Sent (s.putReply c p) := by
  unfold State.putReply
  split
  · split
    · exact .frame h
    · split
      · exact .modSession h
      · exact .frame h
  · exact .frame h

theorem reply {c : Cmd} {st : Status} {b : List Byte} (h : s0.Sent s) : s0.Sent (s.reply c st b) := by
  unfold State.reply
  exact .ite (.served h) (.ite (.served h) (.putReply (.served h)))

end
end State.Sent

/-! ### The checks of an urgent opcode -/

section
variable (s : State) (c : Cmd) (len : Nat) (f : Bool → State → State) (hl : c.size = len) (hr : c.num 1 3 = 0) (ha : c.byte 0 ≤ 1)
include hl hr ha

omit ha in
/-- A release by an operator is not permitted. -/
theorem State.urgent_notPermitted (h0 : c.byte 0 = 0) (hp : s.priv c = false) : s.urgent c len false f = s.reply c .notPermitted [] := by
  simp [State.urgent, State.checked, Cmd.shape, firstBad, badIf, hl, hr, h0, hp]

/-- A command that passes its checks acts at its instant and answers OK. -/
theorem State.urgent_ok (hp : c.byte 0 = 0 → s.priv c = true) :
    s.urgent c len false f = (f (decide (c.byte 0 = 1)) (s.advanceTo (c.acceptedAt + 6))).reply c .ok [] := by
  have h1 : ¬ 1 < c.byte 0 := by omega
  by_cases h0 : c.byte 0 = 0 <;> simp [State.urgent, State.checked, Cmd.shape, firstBad, badIf, hl, hr, h1, h0, hp]

end

/-! ### UMUTE -/

theorem mem_bitList {n m i : Nat} : i ∈ bitList n m ↔ i < n ∧ m.testBit i = true := by simp [bitList]

theorem R.CH_STATUS_UMUTE_apart {ch k : Nat} (h : k ≠ ch) : (R.CH_STATUS_UMUTE ch).Apart (R.CH_STATUS_UMUTE k) :=
  .inl (by simp only [R.CH_STATUS_UMUTE, R.CH_STATUS]; omega)

section
variable (s : State) (m : Nat) (on : Bool)

/-- UMUTE of the chains of a mask takes the value, and that of the others stays. -/
theorem State.umute_flag {ch : Nat} (hc : ch < 64) :
    (umute m on s).flag (R.CH_STATUS_UMUTE ch) = if m.testBit ch then on else s.flag (R.CH_STATUS_UMUTE ch) := by
  unfold umute
  rw [(State.Driven.settle (.refl _)).writes.flag fun _ hf => hf.apart_umute ch]
  split
  · next h =>
    exact forAll_reaches (fun _ => True) (fun t => t.flag (R.CH_STATUS_UMUTE ch) = on) _
      (fun k t => t.put (R.CH_STATUS_UMUTE k) (b2n on)) (mem_bitList.2 ⟨hc, h⟩) (fun _ _ _ _ => trivial)
      (fun t _ => State.flag_put t on)
      (fun k _ hk t _ ht => (State.flag_put_apart t _ (R.CH_STATUS_UMUTE_apart (Ne.symm hk))).trans ht) s trivial
  · next h =>
    refine forAll_keeps (fun t => t.flag (R.CH_STATUS_UMUTE ch) = s.flag (R.CH_STATUS_UMUTE ch)) _ _ (fun k hk t ht => ?_) s (Eq.refl _)
    have hne : ch ≠ k := fun e => h (e ▸ (mem_bitList.1 hk).2)
    exact (State.flag_put_apart t _ (R.CH_STATUS_UMUTE_apart hne)).trans ht

theorem State.umute_keeps {β : Sort _} (π : State → β)
    (hπ : ∀ (t : State) regs chains adacs gates, π { t with
      regs := regs, chains := chains, pa := { t.pa with adacs := adacs }, sig := { t.sig with rxGates := gates } } = π t := by
      intros; rfl) : π (umute m on s) = π s := by
  unfold umute
  refine ((State.Driven.settle (.refl _)).keeps π hπ).trans ?_
  exact forAll_keeps (fun t => π t = π s) _ _ (fun k _ t ht => (hπ t (t.put (R.CH_STATUS_UMUTE k) (b2n on)).regs t.chains t.pa.adacs
    t.sig.rxGates).trans ht) s rfl

/-- The samples of a muted chain are zero. -/
theorem State.umute_zero {ch : Nat} (hc : ch < 64) (hl : s.chains.length = 64) (h : (umute m on s).flag (R.CH_STATUS_UMUTE ch) = true) :
    ((umute m on s).chain ch).zero = true := by
  revert h
  unfold umute
  generalize hu : forAll (bitList 64 m) (fun ch s => s.put (R.CH_STATUS_UMUTE ch) (b2n on)) s = u
  intro h
  have hd := State.Driven.settle (.refl u)
  have hlu : u.chains = s.chains :=
    hu ▸ forAll_keeps (fun t => t.chains = s.chains) _ _ (fun k _ t ht => (State.put_chains ..).trans ht) s (Eq.refl _)
  rw [hd.writes.flag fun _ hf => hf.apart_umute ch] at h
  refine (State.settle_chain u hc (by rw [hlu, hl]; exact hc)).2.2 ?_
  simp [State.dacSource, State.rank4, h]

end
/-- What is true of the state an urgent opcode leaves, and its reply keeps: time, memory, holds and chains. -/
theorem State.reply_keeps {β : Sort _} (s : State) (c : Cmd) (st : Status) (b : List Byte) (π : State → β)
    (hπ : ∀ (u : State) regs fe out, π { u with regs := regs, fe := fe, out := out } = π u := by intros; rfl) : π (s.reply c st b) = π s :=
  (State.Sent.reply (.refl s)).keeps π hπ

theorem State.reply_get_status (s : State) (c : Cmd) (st : Status) (b : List Byte) {ch : Nat} (hc : ch < 64) {g : Field}
    (hg : g.addr = R.CH_STATUS ch) : (s.reply c st b).get g = s.get g :=
  (State.Sent.reply (.refl s)).writes.get g fun _ hf => hf.apart_status hc hg

section
variable (s : State) (c : Cmd)

/-- MUTE_ALL and CHAIN_MUTE: the chains of the mask are muted or released, and the others stay as they are. -/
theorem State.umute_reply_spec (m n : Nat) (on : Bool) (hl : s.chains.length = 64) :
    let t := (umute m on (s.advanceTo n)).reply c .ok []
    t.now = max s.now n ∧ t.mem = s.mem ∧ t.hold = s.hold ∧ ∀ ch, ch < 64 →
      (m.testBit ch = true → t.flag (R.CH_STATUS_UMUTE ch) = on ∧ (on = true → (t.chain ch).zero = true)) ∧
      (m.testBit ch = false → t.flag (R.CH_STATUS_UMUTE ch) = s.flag (R.CH_STATUS_UMUTE ch)) := by
  intro t
  have hk : ∀ ch, ch < 64 → t.flag (R.CH_STATUS_UMUTE ch) = (umute m on (s.advanceTo n)).flag (R.CH_STATUS_UMUTE ch) :=
    fun ch hc => State.flag_congr (State.reply_get_status _ _ _ _ hc rfl)
  refine ⟨(State.reply_keeps _ c _ _ State.now).trans (State.umute_keeps _ m on State.now),
    (State.reply_keeps _ c _ _ State.mem).trans (State.umute_keeps _ m on State.mem),
    (State.reply_keeps _ c _ _ State.hold).trans (State.umute_keeps _ m on State.hold), fun ch hc => ⟨fun h => ?_, fun h => ?_⟩⟩
  · have hf : (umute m on (s.advanceTo n)).flag (R.CH_STATUS_UMUTE ch) = on := by rw [State.umute_flag _ m on hc, h, if_pos rfl]
    refine ⟨(hk ch hc).trans hf, fun ho => ?_⟩
    rw [show t.chain ch = (umute m on (s.advanceTo n)).chain ch from State.reply_keeps _ c _ _ (State.chain · ch)]
    exact State.umute_zero _ m on hc hl (hf.trans ho)
  · rw [hk ch hc, State.umute_flag _ m on hc, h, if_neg (by simp)]
    exact State.flag_congr (State.get_congr (State.advanceTo_regs ..) _)

/-- PA_OFF is the source of rank 3: while it is set, every transmit path is shut (R30). -/
theorem State.paOff_reply_spec (n : Nat) (on : Bool) (hl : s.chains.length = 64) :
    let t := ({ s.advanceTo n with hold := { s.hold with paOff := on } } : State).settle.reply c .ok []
    t.now = max s.now n ∧ t.mem = s.mem ∧ t.hold = { s.hold with paOff := on } ∧ ∀ ch, ch < 64 →
      t.flag (R.CH_STATUS_UMUTE ch) = s.flag (R.CH_STATUS_UMUTE ch) ∧ (on = true → t.TxShut ch) := by
  intro t
  let u : State := { s.advanceTo n with hold := { s.hold with paOff := on } }
  have hd : u.Driven u.settle := .settle (.refl u)
  refine ⟨(State.reply_keeps _ c _ _ State.now).trans (hd.keeps State.now), (State.reply_keeps _ c _ _ State.mem).trans (hd.keeps State.mem),
    (State.reply_keeps _ c _ _ State.hold).trans (hd.keeps State.hold), fun ch hc => ⟨?_, fun ho => ?_⟩⟩
  · have h1 : t.flag (R.CH_STATUS_UMUTE ch) = u.flag (R.CH_STATUS_UMUTE ch) :=
      (State.flag_congr (State.reply_get_status _ _ _ _ hc rfl)).trans (hd.writes.flag fun _ hf => hf.apart_umute ch)
    exact h1.trans (State.flag_congr (State.get_congr (State.advanceTo_regs s n) _))
  · refine (State.Sent.reply (.refl _)).txShut hc (State.settle_txShut hc (hl.symm ▸ hc : ch < s.chains.length) ?_)
    simp [State.biasCleared, State.rank3, ho]

end
end Sys2Proof.Machine

open Sys2Proof Sys2Proof.Machine

/-- Settles O15: the checks pass or refuse the command; what it then sets follows R30. -/
theorem urgentOpcodesMuteTheArray : Obligations.UrgentOpcodesMuteTheArray := by
  unfold Obligations.UrgentOpcodesMuteTheArray
  intro c s hr ha hl
  refine ⟨fun hs hp => ?_, fun hs hp => ?_, fun hs hm hp => ?_, fun h0 hp => ⟨fun hs => ⟨?_, ?_⟩, fun hs hm => ?_⟩⟩
  · obtain ⟨h1, h2, h3, h4⟩ := State.umute_reply_spec s c (2 ^ 64 - 1) (c.acceptedAt + 6) (decide (c.byte 0 = 1)) hl
    refine ⟨_, congrArg Host.Outcome.next (State.urgent_ok s c 4 _ hs hr ha hp), h1, h2, h3, fun ch hc => ?_⟩
    obtain ⟨h5, h6⟩ := (h4 ch hc).1 (by rw [Nat.testBit_two_pow_sub_one]; simpa using hc)
    exact ⟨h5, fun h => h6 (by simpa using h)⟩
  · obtain ⟨h1, h2, h3, h4⟩ := State.paOff_reply_spec s c (c.acceptedAt + 6) (decide (c.byte 0 = 1)) hl
    refine ⟨_, congrArg Host.Outcome.next (State.urgent_ok s c 4 _ hs hr ha hp), h1, h2, h3, fun ch hc => ?_⟩
    obtain ⟨h5, h6⟩ := h4 ch hc
    refine ⟨h5, fun h => ?_⟩
    obtain ⟨⟨a, b, d⟩, e⟩ := h6 (by simpa using h)
    exact ⟨b, a, d, e⟩
  · have hb : decide (c.num 4 8 = 0) = false := by simpa using hm
    obtain ⟨h1, h2, h3, h4⟩ := State.umute_reply_spec s c (c.num 4 8) (c.acceptedAt + 6) (decide (c.byte 0 = 1)) hl
    refine ⟨_, congrArg Host.Outcome.next ((congrArg (s.urgent c 12 · _) hb).trans (State.urgent_ok s c 12 _ hs hr ha hp)), h1, h2, h3,
      fun ch hc => ⟨fun ht => ?_, (h4 ch hc).2⟩⟩
    obtain ⟨h5, h6⟩ := (h4 ch hc).1 ht
    exact ⟨h5, fun h => h6 (by simpa using h)⟩
  · exact congrArg Host.Outcome.next (State.urgent_notPermitted s c 4 _ hs hr h0 hp)
  · exact congrArg Host.Outcome.next (State.urgent_notPermitted s c 4 _ hs hr h0 hp)
  · have hb : decide (c.num 4 8 = 0) = false := by simpa using hm
    exact congrArg Host.Outcome.next ((congrArg (s.urgent c 12 · _) hb).trans (State.urgent_notPermitted s c 12 _ hs hr h0 hp))
end

section
/-! Converter locks and carrier frequencies (R39, R125, R128, R129, R541). -/

namespace Sys2Proof.Machine

section
variable (s : State) {q : Nat}

/-- Loss of a converter PLL: its flags, before the report, the event and the hold. -/
def State.convLost (s : State) (q : Nat) : State :=
  ((s.clearBit R.DFE_STATUS_CONV_LOCK q).raiseBit R.DFE_STATUS_CONV_UNLOCK q).modDfe fun x => { x with convLost := updAt x.convLost q fun _ => 0 }

/-- The quadrant is held (R39). -/
def State.convHeld (s : State) (q : Nat) : State := { s with hold := { s.hold with convHold := setBit s.hold.convHold q true } }

theorem State.convUnlock_eq : s.convUnlock q =
    ((((s.convLost q).report (mkReport 0x09 .clsU 0x0010 q)).event (.convUnlock q)).convHeld q).settle := rfl

theorem State.convLost_spec (hq : q < 4) (hl : s.dfe.convLost.length = 4) :
    s.convLost q = { s with regs := (s.convLost q).regs, dfe := (s.convLost q).dfe } ∧
    (s.convLost q).fbit R.DFE_STATUS_CONV_LOCK q = false ∧ (s.convLost q).fbit R.DFE_STATUS_CONV_UNLOCK q = true ∧
    (∀ a, a ≠ R.DFE_STATUS → (s.convLost q).reg a = s.reg a) ∧ (s.convLost q).dfe.convLost.getD q 9 = 0 ∧
    (s.convLost q).dfe.caps = s.dfe.caps := by
  have hr : (s.convLost q).regs = ((s.putBit R.DFE_STATUS_CONV_LOCK q false).putBit R.DFE_STATUS_CONV_UNLOCK q true).regs := State.modDfe_regs ..
  refine ⟨rfl, ?_, ?_, fun a h => ?_, getD_updAt_same _ 9 (hl.symm ▸ hq : q < s.dfe.convLost.length), rfl⟩
  · rw [State.fbit_congr (State.get_congr hr _), State.putBit, State.fbit_congr (State.get_put_apart _ _ .below),
      State.fbit_putBit _ _ _ _ _ hq, if_pos rfl]
  · rw [State.fbit_congr (State.get_congr hr _), State.fbit_putBit _ _ _ _ _ hq, if_pos rfl]
  · rw [State.reg_congr hr]
    exact (State.reg_put_other _ R.DFE_STATUS_CONV_UNLOCK a _ h).trans (State.reg_put_other _ R.DFE_STATUS_CONV_LOCK a _ h)

theorem State.convHeld_hold : (s.convHeld q).hold.convHold.testBit q = true := by
  simp [State.convHeld, setBit_testBit]

theorem State.convRelock_on (hq : q < 4) (h1 : s.radioPowered = true) (h2 : s.quadGated q = false) :
    ∃ u : State, s.convRelock q = u ∧ u = { s with regs := u.regs } ∧ u.fbit R.DFE_STATUS_CONV_LOCK q = true ∧
      ∀ a, a ≠ R.DFE_STATUS → u.reg a = s.reg a := by
  refine ⟨s.putBit R.DFE_STATUS_CONV_LOCK q true, by simp only [State.convRelock, h1, h2]; rfl, Eq.refl _, ?_, fun a h => ?_⟩
  · rw [State.fbit_putBit _ _ _ _ _ hq, if_pos rfl]
  · exact State.reg_put_other s R.DFE_STATUS_CONV_LOCK a _ h

theorem State.convRelock_off (h : s.radioPowered = false ∨ s.quadGated q = true) : s.convRelock q = s := by
  rcases h with h | h <;> simp [State.convRelock, h]

/-- The third frame boundary without lock: the quadrant's hold lasts until reset (R541). -/
def State.convDeadAt (s : State) (q : Nat) : State :=
  { s with hold := { s.hold with convDead := setBit s.hold.convDead q true },
           dfe := { s.dfe with convLost := updAt s.dfe.convLost q fun _ => 3 } }

theorem exec_convRelockTimeout_dead (h1 : s.hold.convHold.testBit q = true) (h2 : s.fbit R.DFE_STATUS_CONV_LOCK q = false)
    (h3 : s.hold.convDead.testBit q = false) (h4 : 2 ≤ s.dfe.convLost.getD q 0) :
    exec (.convRelockTimeout q) s = .next ((s.convDeadAt q).report (mkReport 0x09 .clsF 1 q)).settle := by
  show execConvRelockTimeout q s = _
  unfold execConvRelockTimeout
  rw [if_pos (by rw [h1, h2, h3]; simpa using h4)]
  rfl

theorem exec_convRelockTimeout_none
    (h : s.hold.convHold.testBit q = false ∨ s.fbit R.DFE_STATUS_CONV_LOCK q = true ∨ s.hold.convDead.testBit q = true) :
    exec (.convRelockTimeout q) s = .next s := by
  show execConvRelockTimeout q s = _
  unfold execConvRelockTimeout
  rw [if_neg (by rcases h with h | h | h <;> simp [h])]

end
/-! ### Carrier frequencies -/

/-- The frequency words of a slot on the four quadrants. -/
inductive NcoField (d cs : Nat) : Field → Prop
  | lo (q : Nat) (h : q < 4) : NcoField d cs (R.NCO_NOW_LO_FTW_LO d q cs)
  | hi (q : Nat) (h : q < 4) : NcoField d cs (R.NCO_NOW_HI_FTW_HI d q cs)

theorem NcoField.addr_range {d cs : Nat} {f : Field} (h : NcoField d cs f) (hd : d < 2) (hcs : cs < 8) :
    0x11100200 ≤ f.addr ∧ f.addr < 0x11100400 := by
  cases h <;> simp only [R.NCO_NOW_LO_FTW_LO, R.NCO_NOW_LO, R.NCO_NOW_HI_FTW_HI, R.NCO_NOW_HI] <;> omega

/-- The frequency of a quadrant's LO reads the registers of the synthesisers only. -/
theorem State.loCode_congr {s t : State} (h : ∀ a, a < 0x11100000 → t.reg a = s.reg a) {q : Nat} (hq : q < 4) : t.loCode q = s.loCode q := by
  have e : ∀ f : Field, f.addr < 0x11100000 → t.get f = s.get f := fun f hf => congrArg f.of (h _ hf)
  have hc : R.QLO_CFG q < 0x11100000 := by simp only [R.QLO_CFG]; omega
  unfold State.loCode State.synNF
  rw [e (R.QLO_CFG_SRC q) hc, e (R.QLO_CFG_DIV q) hc, e R.SYN_N_SYNA_N (by decide), e R.SYN_N_SYNB_N (by decide),
    e R.SYNA_F_F (by decide), e R.SYNB_F_F (by decide)]

section
variable {s : State} {d cs q : Nat}

/-- From `s` on only the frequency words of a slot and their record changed. -/
structure State.NcoSet (d cs : Nat) (s t : State) : Prop where
  writes : s.Writes (NcoField d cs) t
  shape : ∃ regs sig, t = { s with regs := regs, sig := sig }

theorem State.NcoSet.put {t : State} {f : Field} {v : Nat} (h : s.NcoSet d cs t) (hf : NcoField d cs f) (w : f.fits = true := by rfl) :
    s.NcoSet d cs (t.put f v) := by
  obtain ⟨hw, r, g, rfl⟩ := h
  exact ⟨.put hw hf w, _, _, rfl⟩

theorem State.NcoSet.noted {t : State} {l : List NcoWord} (h : s.NcoSet d cs t) : s.NcoSet d cs { t with sig := { t.sig with nco := l } } := by
  obtain ⟨hw, r, g, rfl⟩ := h
  exact ⟨.same hw rfl, _, _, rfl⟩

theorem State.NcoSet.setNco {t : State} (h : s.NcoSet d cs t) (hq : q < 4) : s.NcoSet d cs (State.setNco d q cs t) :=
  .put (.put (.noted h) (.lo q hq)) (.hi q hq)

theorem State.carrierCode_congr {s t : State} (h : t.work = s.work) : t.carrierCode d cs = s.carrierCode d cs := by
  unfold State.carrierCode State.wget State.wrk
  rw [h]

theorem State.NcoSet.carrierCode {t : State} (h : s.NcoSet d cs t) : t.carrierCode d cs = s.carrierCode d cs := by
  obtain ⟨-, r, g, rfl⟩ := h
  exact State.carrierCode_congr rfl

theorem State.NcoSet.reg {t : State} (h : s.NcoSet d cs t) (hd : d < 2) (hcs : cs < 8) {a : Nat} (ha : a < 0x11100200) : t.reg a = s.reg a :=
  h.writes.reg fun f hf e => by have := (hf.addr_range hd hcs).1; omega

theorem State.NcoSet.ftw {t : State} (h : s.NcoSet d cs t) (hd : d < 2) (hcs : cs < 8) (hq : q < 4) : t.ftw d q cs = s.ftw d q cs := by
  unfold State.ftw
  rw [h.carrierCode, State.loCode_congr (fun a ha => h.reg hd hcs (by omega)) hq]

theorem State.setNco_lo (t : State) : (State.setNco d q cs t).get (R.NCO_NOW_LO_FTW_LO d q cs) = ofInt 64 (t.ftw d q cs) % 2 ^ 32 := by
  unfold State.setNco
  extract_lets f w word u
  rw [State.get_put_apart _ _ (.inl ?_), State.get_put]
  · exact Nat.mod_mod _ _
  · simp only [R.NCO_NOW_LO_FTW_LO, R.NCO_NOW_LO, R.NCO_NOW_HI_FTW_HI, R.NCO_NOW_HI]; omega

theorem State.setNco_lo_other (t : State) {k : Nat} (h : k ≠ q) :
    (State.setNco d k cs t).get (R.NCO_NOW_LO_FTW_LO d q cs) = t.get (R.NCO_NOW_LO_FTW_LO d q cs) := by
  unfold State.setNco
  extract_lets f w word u
  rw [State.get_put_apart _ _ (.inl ?_), State.get_put_apart _ _ (.inl ?_)]
  · exact State.get_congr rfl _
  · simp only [R.NCO_NOW_LO_FTW_LO, R.NCO_NOW_LO]; omega
  · simp only [R.NCO_NOW_LO_FTW_LO, R.NCO_NOW_LO, R.NCO_NOW_HI_FTW_HI, R.NCO_NOW_HI]; omega

/-- The frequency words of a slot on all quadrants (R125). -/
theorem State.setNcos_spec (s : State) (hd : d < 2) (hcs : cs < 8) :
    s.NcoSet d cs (forAll (List.range 4) (fun q t => State.setNco d q cs t) s) ∧ ∀ q, q < 4 →
      (forAll (List.range 4) (fun q t => State.setNco d q cs t) s).get (R.NCO_NOW_LO_FTW_LO d q cs) = ofInt 64 (s.ftw d q cs) % 2 ^ 32 := by
  have h0 : s.NcoSet d cs s := ⟨.refl s, _, _, rfl⟩
  refine ⟨forAll_keeps _ _ _ (fun q hq t ht => ht.setNco (List.mem_range.1 hq)) s h0, fun q hq => ?_⟩
  exact forAll_reaches (s.NcoSet d cs) (fun t => t.get (R.NCO_NOW_LO_FTW_LO d q cs) = ofInt 64 (s.ftw d q cs) % 2 ^ 32) _
    (fun q t => State.setNco d q cs t) (List.mem_range.2 hq) (fun k hk t ht => ht.setNco (List.mem_range.1 hk))
    (fun t ht => by rw [State.setNco_lo, ht.ftw hd hcs hq])
    (fun k _ hk t _ ht => (State.setNco_lo_other t hk).trans ht) s h0

end

/-- A pending frequency of a slot replaces an earlier one. -/
def State.rfPended (s : State) (d cs code : Nat) : State :=
  { s with rfPend := (s.rfPend.filter fun p => !(p.d == d && p.cs == cs)) ++ [{ d := d, cs := cs, code := code }] }

theorem find?_filter_not_append {α : Type} (l : List α) (p : α → Bool) (x : α) (h : p x = true) :
    ((l.filter fun y => !p y) ++ [x]).find? p = some x := by
  have : (l.filter fun y => !p y).find? p = none := by simp [List.find?_eq_none]
  simp [List.find?_append, this, h]

section
variable (s : State) {d cs code : Nat}

/-- The working copy holds a frequency, and nothing of the slot is pending. -/
def State.rfTaken (s : State) (d cs code : Nat) : State :=
  let s := (s.wput (R.CS_RF_HI_CODE_HI d cs) (code / 2 ^ 32)).wput (R.CS_RF_LO_CODE_LO d cs) (code % 2 ^ 32)
  { s with rfPend := s.rfPend.filter fun p => !(p.d == d && p.cs == cs) }

theorem State.applyRf_rfPended : State.applyRf d cs (s.rfPended d cs code) =
    forAll (List.range 4) (fun q s => s.setNco d q cs) ((s.rfPended d cs code).rfTaken d cs code) := by
  unfold State.applyRf
  rw [show (s.rfPended d cs code).rfPend.find? (fun p => p.d == d && p.cs == cs) = some { d := d, cs := cs, code := code } from
    find?_filter_not_append _ _ _ (by simp)]
  rfl

theorem State.rfTaken_carrierCode (h : code < 2 ^ 42) : (s.rfTaken d cs code).carrierCode d cs = code := by
  have hlo : R.CS_RF_LO d cs ≠ R.CS_RF_HI d cs := by simp only [R.CS_RF_LO, R.CS_RF_HI]; omega
  unfold State.rfTaken
  extract_lets u
  have h1 : u.wget (R.CS_RF_LO_CODE_LO d cs) = code % 2 ^ 32 % 2 ^ 32 := State.wget_wput_same _ _ _ (Field.fits_le rfl)
  have h2 : u.wget (R.CS_RF_HI_CODE_HI d cs) = code / 2 ^ 32 % 2 ^ 10 :=
    (congrArg (Field.of _) (State.wrk_setWrk_other _ _ _ _ hlo.symm)).trans (State.wget_wput_same s _ _ (Field.fits_le rfl))
  refine (State.carrierCode_congr (s := u) rfl).trans ?_
  rw [State.carrierCode, h1, h2]
  omega

/-- A slot that is not in force takes its frequency at once: its words on every quadrant follow (R125). -/
theorem State.applyRf_spec (hd : d < 2) (hcs : cs < 8) (h : code < 2 ^ 42) :
    let t := State.applyRf d cs (s.rfPended d cs code)
    t = { s with regs := t.regs, work := t.work, rfPend := t.rfPend, sig := t.sig } ∧
    t.get (R.CS_RF_HI_CODE_HI d cs) = s.get (R.CS_RF_HI_CODE_HI d cs) ∧ t.carrierCode d cs = code ∧
    ∀ q, q < 4 → t.get (R.NCO_NOW_LO_FTW_LO d q cs) = ofInt 64 ((code : Int) - s.loCode q) % 2 ^ 32 := by
  rw [State.applyRf_rfPended]
  have hc : ((s.rfPended d cs code).rfTaken d cs code).carrierCode d cs = code := State.rfTaken_carrierCode _ h
  have hr : ((s.rfPended d cs code).rfTaken d cs code).regs = s.regs := Eq.refl _
  have he : ∃ work rfPend, (s.rfPended d cs code).rfTaken d cs code = { s with work := work, rfPend := rfPend } := ⟨_, _, Eq.refl _⟩
  generalize (s.rfPended d cs code).rfTaken d cs code = u at *
  obtain ⟨hk, hn⟩ := State.setNcos_spec u hd hcs
  generalize forAll (List.range 4) (fun q s => State.setNco d q cs s) u = t at *
  refine ⟨?_, ?_, hk.carrierCode.trans hc, fun q hq => ?_⟩
  · obtain ⟨-, r, g, rfl⟩ := hk
    obtain ⟨w, p, rfl⟩ := he
    rfl
  · refine (congrArg (Field.of _) (hk.reg hd hcs ?_)).trans (State.get_congr hr _)
    simp only [R.CS_RF_HI_CODE_HI, R.CS_RF_HI]; omega
  · rw [hn q hq, State.ftw, hc, State.loCode_congr (fun a _ => State.reg_congr hr a) hq]

end

section
variable (s : State) {d cs hi : Nat}

/-- The frequency that a write of CS_RF_HI completes. -/
def State.rfCode (s : State) (d cs hi : Nat) : Nat := hi % 2 ^ 10 * 2 ^ 32 + s.get (R.CS_RF_LO_CODE_LO d cs)

theorem State.rfCode_lt : s.rfCode d cs hi < 2 ^ 42 := by
  have h1 : s.get (R.CS_RF_LO_CODE_LO d cs) < 2 ^ 32 := State.get_lt ..
  have h2 : hi % 2 ^ 10 < 2 ^ 10 := Nat.mod_lt _ (by decide)
  unfold State.rfCode
  omega

theorem State.rfCommit_refused (h : s.rfOk d cs (s.rfCode d cs hi) = false) :
    (s.rfCommit d cs hi).state = s.raise R.DFE_STATUS_WR_REFUSED := by
  unfold State.rfCommit
  extract_lets code
  rw [if_neg (by rw [show code = s.rfCode d cs hi from rfl, h]; decide)]
  rfl

theorem State.rfCommit_taken (h : s.rfOk d cs (s.rfCode d cs hi) = true) :
    (s.rfCommit d cs hi).state = doIf (!s.flag (R.CS_CFG_EN_NOW d cs)) (State.applyRf d cs)
      ((s.put (R.CS_RF_HI_CODE_HI d cs) hi).rfPended d cs (s.rfCode d cs hi)) := by
  have he : (s.put (R.CS_RF_HI_CODE_HI d cs) hi).flag (R.CS_CFG_EN_NOW d cs) = s.flag (R.CS_CFG_EN_NOW d cs) :=
    State.flag_put_apart s hi (.inl (by
      simp only [R.CS_CFG_EN_NOW, R.CS_CFG, R.CS_RF_HI_CODE_HI, R.CS_RF_HI]; omega))
  unfold State.rfCommit
  extract_lets code u v
  rw [show code = s.rfCode d cs hi from rfl, if_pos h, ← he]
  rfl

/-- A committed frequency is pending while the slot is in force, and is taken at once where it is not. -/
theorem State.rfCommit_spec (hd : d < 2) (hcs : cs < 8) (h : s.rfOk d cs (s.rfCode d cs hi) = true) :
    let t := (s.rfCommit d cs hi).state
    t = { s with regs := t.regs, work := t.work, rfPend := t.rfPend, sig := t.sig } ∧ t.get (R.CS_RF_HI_CODE_HI d cs) = hi % 2 ^ 10 ∧
      (s.flag (R.CS_CFG_EN_NOW d cs) = true → { d := d, cs := cs, code := s.rfCode d cs hi } ∈ t.rfPend ∧ t.work = s.work ∧
        ∀ a, a ≠ R.CS_RF_HI d cs → t.reg a = s.reg a) ∧
      (s.flag (R.CS_CFG_EN_NOW d cs) = false → t.carrierCode d cs = s.rfCode d cs hi ∧
        ∀ q, q < 4 → t.get (R.NCO_NOW_LO_FTW_LO d q cs) = ofInt 64 ((s.rfCode d cs hi : Int) - s.loCode q) % 2 ^ 32) := by
  rw [State.rfCommit_taken s h]
  have hg : (s.put (R.CS_RF_HI_CODE_HI d cs) hi).get (R.CS_RF_HI_CODE_HI d cs) = hi % 2 ^ 10 := State.get_put s hi
  have hr : ∀ a, a ≠ R.CS_RF_HI d cs → (s.put (R.CS_RF_HI_CODE_HI d cs) hi).reg a = s.reg a :=
    fun a => State.reg_put_other s (R.CS_RF_HI_CODE_HI d cs) a hi
  have hs : ∃ regs, s.put (R.CS_RF_HI_CODE_HI d cs) hi = { s with regs := regs } := ⟨_, Eq.refl _⟩
  generalize s.put (R.CS_RF_HI_CODE_HI d cs) hi = u at *
  have hlt : s.rfCode d cs hi < 2 ^ 42 := s.rfCode_lt
  generalize s.rfCode d cs hi = code at *
  cases s.flag (R.CS_CFG_EN_NOW d cs) with
  | true =>
    rw [Bool.not_true, doIf_false]
    obtain ⟨r, rfl⟩ := hs
    exact ⟨Eq.refl _, hg, fun _ => ⟨by simp [State.rfPended], Eq.refl _, hr⟩, fun e => by simp at e⟩
  | false =>
    rw [Bool.not_false, doIf_true]
    obtain ⟨h1, h2, h3, h4⟩ := State.applyRf_spec u hd hcs hlt
    have hlo : ∀ q, q < 4 → u.loCode q = s.loCode q := fun q hq =>
      State.loCode_congr (fun a ha => hr a (by simp only [R.CS_RF_HI]; omega)) hq
    refine ⟨?_, h2.trans hg, fun e => by simp at e, fun _ => ⟨h3, fun q hq => (h4 q hq).trans (by rw [hlo q hq])⟩⟩
    generalize State.applyRf d cs (u.rfPended d cs code) = t at *
    obtain ⟨r, rfl⟩ := hs
    exact h1

end
end Sys2Proof.Machine

open Sys2Proof Sys2Proof.Machine

/-- Settles O27: the flags, the hold and the report of each converter event; a committed frequency by the slot's EN_NOW. -/
theorem converterLossAndCarrierFrequency : Obligations.ConverterLossAndCarrierFrequency := by
  unfold Obligations.ConverterLossAndCarrierFrequency
  refine ⟨fun q s hq hl => ?_, fun q s hq => ⟨fun h1 h2 => ?_, fun h => ?_⟩, fun q s hq => ⟨fun h1 h2 h3 h4 => ?_, ?_⟩,
    fun d cs hi s hcs => ⟨fun h => ?_, fun h => ?_⟩⟩
  · obtain ⟨h1, h2, h3, h4, h5, h6⟩ := State.convLost_spec s hq hl
    exact ⟨s.convLost q, _, congrArg Host.Outcome.next (State.convUnlock_eq s), h1, h2, h3, h4, h5, h6, State.convHeld_hold _, Eq.refl _⟩
  · obtain ⟨u, h3, h4⟩ := State.convRelock_on s hq h1 h2
    exact ⟨u, congrArg (fun t : State => Host.Outcome.next t.moveCheck) h3, h4⟩
  · exact congrArg (fun t : State => Host.Outcome.next t.moveCheck) (State.convRelock_off s h)
  · refine ⟨_, exec_convRelockTimeout_dead s h1 h2 h3 h4, ?_, getD_updAt_same _ 0 ?_, Eq.refl _⟩
    · simp [State.convDeadAt, setBit_testBit]
    · by_contra hq'
      rw [List.getD_eq_default _ _ (by omega)] at h4
      omega
  · exact exec_convRelockTimeout_none s
  · exact congrArg Host.Outcome.next (State.rfCommit_refused s h)
  · exact ⟨_, Eq.refl _, State.rfCommit_spec s (dirIx_lt d) hcs h⟩
end

section
/-! Voltage and frequency moves of the islands (R514, R515), the clock source of MI (R35) and the PLL lock (R521, R573). -/

namespace Sys2Proof.Machine

/-- Registers of two islands share no bit. -/
theorem R.DVFS_apart {x y : Nat} (h : x ≠ y) {f g : Field} (hf : f.addr = R.DVFS x) (hg : g.addr = R.DVFS y) : f.Apart g :=
  .inl (by rw [hf, hg]; simp only [R.DVFS]; omega)

/-- From `s0` on only time, registers and the power controller changed. -/
def State.OnPower (s0 s : State) : Prop := ∃ now regs pw, s = { s0 with now := now, regs := regs, pw := pw }

namespace State.OnPower

section
variable {s0 s : State}

theorem refl (s : State) : s.OnPower s := ⟨_, _, _, rfl⟩

theorem put {f : Field} {v : Nat} (h : s0.OnPower s) : s0.OnPower (s.put f v) := by
  obtain ⟨n, r, w, rfl⟩ := h
  exact ⟨_, _, _, rfl⟩

theorem setPw {w : PowerX} (h : s0.OnPower s) : s0.OnPower { s with pw := w } := by
  obtain ⟨n, r, w, rfl⟩ := h
  exact ⟨_, _, _, rfl⟩

theorem advanceTo {n : Nat} (h : s0.OnPower s) : s0.OnPower (s.advanceTo n) := by
  obtain ⟨n, r, w, rfl⟩ := h
  exact ⟨_, _, _, rfl⟩

theorem eq_with (h : s0.OnPower s) : s = { s0 with now := s.now, regs := s.regs, pw := s.pw } := by
  obtain ⟨n, r, w, rfl⟩ := h
  rfl

theorem eq_of_now (h : s0.OnPower s) (hn : s.now = s0.now) : s = { s0 with regs := s.regs, pw := s.pw } := by
  obtain ⟨n, r, w, rfl⟩ := h
  subst hn
  rfl

end
end State.OnPower

/-! ### Setting a point -/

section
variable (s : State) {x f v p : Nat}

theorem State.setPoint_eq (hx : x ≠ 2) : s.setPoint x f v = (s.put (R.DVFS_FSEL x) f).put (R.DVFS_VSEL x) v := by
  unfold State.setPoint
  rw [show (x == 2) = false by simpa using hx, doIf_false]

/-- A set point changes the two fields of the island and nothing else. -/
theorem State.setPoint_spec (hx : x ≠ 2) (hf : f < 4) (hv : v < 4) :
    s.setPoint x f v = { s with regs := (s.setPoint x f v).regs } ∧ (s.setPoint x f v).get (R.DVFS_FSEL x) = f ∧
    (s.setPoint x f v).get (R.DVFS_VSEL x) = v ∧ (s.setPoint x f v).flag (R.DVFS_BUSY x) = s.flag (R.DVFS_BUSY x) ∧
    (s.setPoint x f v).get (R.DVFS_TGT x) = s.get (R.DVFS_TGT x) ∧ ∀ a, a ≠ R.DVFS x → (s.setPoint x f v).reg a = s.reg a := by
  rw [State.setPoint_eq s hx]
  refine ⟨Eq.refl _, ?_, ?_, ?_, ?_, fun a ha => ?_⟩
  · rw [State.get_put_apart _ _ .below, State.get_put]
    exact Nat.mod_eq_of_lt hf
  · rw [State.get_put]
    exact Nat.mod_eq_of_lt hv
  · rw [State.flag_put_apart _ _ .above, State.flag_put_apart _ _ .above]
  · rw [State.get_put_apart _ _ .below, State.get_put_apart _ _ .below]
  · rw [State.reg_put_other _ _ _ _ ha]
    exact State.reg_put_other s (R.DVFS_FSEL x) a _ ha

theorem State.doIf_modPw {f : State → PowerX → PowerX} (b : Bool) : ∃ g, doIf b (fun s => s.modPw (f s)) s = s.modPw g := by
  cases b
  · exact ⟨id, Eq.refl _⟩
  · exact ⟨_, Eq.refl _⟩

/-- A move asked for to a point the island is not at is under way. -/
theorem State.dvfsRequest_eq (h : p ≠ s.get (R.DVFS_FSEL x)) :
    ∃ g, State.dvfsRequest x p s = ((s.put (R.DVFS_TGT x) p).modPw g).put (R.DVFS_BUSY x) 1 := by
  have hf : (s.put (R.DVFS_TGT x) p).get (R.DVFS_FSEL x) = s.get (R.DVFS_FSEL x) := State.get_put_apart s p .above
  unfold State.dvfsRequest
  extract_lets idle u
  rw [if_neg fun e => h (e.1.symm.trans hf)]
  obtain ⟨g, hw⟩ := u.doIf_modPw (f := fun s y => { y with vsetFrom := s.now }) idle
  exact ⟨g, by rw [hw]⟩

theorem State.dvfsRequest_spec (hp : p < 4) (h : p ≠ s.get (R.DVFS_FSEL x)) :
    ∃ t, State.dvfsRequest x p s = t ∧ t = { s with regs := t.regs, pw := t.pw } ∧ t.get (R.DVFS_TGT x) = p ∧
      t.flag (R.DVFS_BUSY x) = true ∧ t.get (R.DVFS_FSEL x) = s.get (R.DVFS_FSEL x) ∧ t.get (R.DVFS_VSEL x) = s.get (R.DVFS_VSEL x) := by
  obtain ⟨f, hw⟩ := State.dvfsRequest_eq s h
  have hr := (s.put (R.DVFS_TGT x) p).modPw_regs f
  have ht : (((s.put (R.DVFS_TGT x) p).modPw f).put (R.DVFS_BUSY x) 1).get (R.DVFS_TGT x) = p := by
    rw [State.get_put_apart _ _ .below, State.get_congr hr, State.get_put]
    exact Nat.mod_eq_of_lt hp
  have hf : ∀ g : Field, 2 ≤ g.lo → g.lo + g.width ≤ 31 →
      (((s.put (R.DVFS_TGT x) p).modPw f).put (R.DVFS_BUSY x) 1).get g = s.get g := fun g h1 h2 => by
    rw [State.get_put_apart _ _ (.inr (.inl h2)), State.get_congr hr]
    exact State.get_put_apart s p (.inr (.inr h1))
  have hn : (((s.put (R.DVFS_TGT x) p).modPw f).put (R.DVFS_BUSY x) 1).now = s.now := by
    rw [State.put_now, State.modPw_now, State.put_now]
  have ho : s.OnPower (((s.put (R.DVFS_TGT x) p).modPw f).put (R.DVFS_BUSY x) 1) := .put (.setPw (.put (.refl s)))
  exact ⟨_, hw, ho.eq_of_now hn, ht, State.flag_put _ true, hf _ (Nat.le_of_ble_eq_true rfl) (Nat.le_of_ble_eq_true rfl),
    hf _ (Nat.le_of_ble_eq_true rfl) (Nat.le_of_ble_eq_true rfl)⟩

end

/-! ### Writes of DVFS (R515) -/

section
variable (s : State) (x : Nat) (v : Word)

/-- What a write of DVFS is refused for. -/
abbrev State.DvfsBad (s : State) (x : Nat) (v : Word) : Prop :=
  s.flag (R.DVFS_BUSY x) = true ∨ lastPoint x < (R.DVFS_TGT x).of v ∨ lastPoint x < (R.DVFS_FSEL x).of v ∨
    lastPoint x < (R.DVFS_VSEL x).of v ∨
    ((R.DVFS_FSEL x).of v ≠ s.get (R.DVFS_FSEL x) ∧ (R.DVFS_VSEL x).of v ≠ s.get (R.DVFS_VSEL x)) ∨
    (R.DVFS_FSEL x).of v < (R.DVFS_VSEL x).of v

theorem State.dvfsWrite_refused (h : s.DvfsBad x v) : (s.dvfsWrite x v).state = s.raise R.PWR_STATUS_WR_REFUSED := by
  unfold State.dvfsWrite
  rw [if_pos h]
  rfl

/-- A write that names another target and the present point asks for a move. -/
theorem State.dvfsWrite_move (h : ¬ s.DvfsBad x v) (hf : (R.DVFS_FSEL x).of v = s.get (R.DVFS_FSEL x))
    (hu : (R.DVFS_VSEL x).of v = s.get (R.DVFS_VSEL x)) (hp : (R.DVFS_TGT x).of v ≠ s.get (R.DVFS_TGT x)) :
    (s.dvfsWrite x v).state = State.dvfsRequest x ((R.DVFS_TGT x).of v) s := by
  unfold State.dvfsWrite
  rw [if_neg h]
  extract_lets ask s1
  have ha : ask = true := by simp [ask, hp]
  rw [ha]
  unfold s1
  rw [if_pos ⟨hf, hu⟩]
  rfl

/-- A write that names the present target and changes a field sets the point directly. -/
theorem State.dvfsWrite_point (h : ¬ s.DvfsBad x v) (hp : (R.DVFS_TGT x).of v = s.get (R.DVFS_TGT x))
    (hd : ¬ ((R.DVFS_FSEL x).of v = s.get (R.DVFS_FSEL x) ∧ (R.DVFS_VSEL x).of v = s.get (R.DVFS_VSEL x))) :
    (s.dvfsWrite x v).state = s.setPoint x ((R.DVFS_FSEL x).of v) ((R.DVFS_VSEL x).of v) := by
  unfold State.dvfsWrite
  rw [if_neg h]
  extract_lets ask s1
  have hb : ((R.DVFS_FSEL x).of v == s.get (R.DVFS_FSEL x) && (R.DVFS_VSEL x).of v == s.get (R.DVFS_VSEL x)) = false := by simpa using hd
  have ha : ask = false := by simp [ask, hp, hb]
  rw [ha]
  unfold s1
  rw [if_neg hd]
  rfl

end

/-! ### Steps and time-outs of a move (R514) -/

section
variable (s : State) {x : Nat}

theorem State.le_alignEdge : s.now ≤ s.alignEdge := Nat.le_add_right _ _

theorem State.dvfsStep_idle (h : ∀ x, x < 3 → s.flag (R.DVFS_BUSY x) = false) : s.dvfsStep = s := by
  unfold State.dvfsStep
  rw [show dvfsOrder.find? (fun x => s.flag (R.DVFS_BUSY x)) = none by simp [dvfsOrder, h]]

theorem State.vsetTimeout_idle (h : ∀ x, x < 3 → s.flag (R.DVFS_BUSY x) = false) : s.vsetTimeout = s := by
  unfold State.vsetTimeout
  rw [if_neg (by simp [State.dvfsBusy, dvfsOrder, h])]

theorem find?_dvfsOrder (hx : x < 2) (h : s.flag (R.DVFS_BUSY x) = true)
    (h1 : x = 1 → s.flag (R.DVFS_BUSY 0) = false ∧ s.flag (R.DVFS_BUSY 2) = false) :
    dvfsOrder.find? (fun x => s.flag (R.DVFS_BUSY x)) = some x := by
  obtain rfl | rfl : x = 0 ∨ x = 1 := by omega
  · simp [dvfsOrder, h]
  · obtain ⟨h0, h2⟩ := h1 rfl
    simp [dvfsOrder, h, h0, h2]

/-- The point after the next step from `f` toward `t`. -/
def nextPoint (f t : Nat) : Nat := if f < t then f + 1 else if f = t then t else f - 1

theorem nextPoint_eq (f t : Nat) : (if f = t then t else if f < t then f + 1 else f - 1) = nextPoint f t := by
  unfold nextPoint
  split_ifs <;> omega

theorem nextPoint_lt {f t n : Nat} (hf : f < n) (ht : t < n) : nextPoint f t < n := by
  unfold nextPoint
  split_ifs <;> omega

/-- The island at a point, taken at the alignment edge. -/
def State.pointTaken (s : State) (x p : Nat) : State :=
  ({ s with now := s.alignEdge } : State).setPoint x p p |>.modPw fun y => { y with vsetFrom := s.alignEdge }

theorem State.advanceTo_alignEdge : s.advanceTo s.alignEdge = { s with now := s.alignEdge } := by
  unfold State.advanceTo
  rw [Nat.max_eq_right s.le_alignEdge]

theorem State.pointTaken_spec {p : Nat} (hx : x < 2) (hp : p < 4) :
    s.pointTaken x p = { s with
      now := s.alignEdge, regs := (s.pointTaken x p).regs, pw := { s.pw with vsetFrom := s.alignEdge } } ∧
    (s.pointTaken x p).get (R.DVFS_FSEL x) = p ∧ (s.pointTaken x p).get (R.DVFS_VSEL x) = p ∧
    (s.pointTaken x p).flag (R.DVFS_BUSY x) = s.flag (R.DVFS_BUSY x) ∧ ∀ a, a ≠ R.DVFS x → (s.pointTaken x p).reg a = s.reg a := by
  obtain ⟨h1, h2, h3, h4, -, h5⟩ := State.setPoint_spec { s with now := s.alignEdge } (show x ≠ 2 by omega) hp hp
  have hr : (s.pointTaken x p).regs = (State.setPoint { s with now := s.alignEdge } x p p).regs := State.modPw_regs ..
  refine ⟨?_, (State.get_congr hr _).trans h2, (State.get_congr hr _).trans h3, (State.flag_congr (State.get_congr hr _)).trans h4,
    fun a ha => (State.reg_congr hr a).trans (h5 a ha)⟩
  rw [hr]
  exact (congrArg (State.modPw · _) h1).trans (Eq.refl _)

/-- The island at a point: the move ends there if it is the target. -/
def State.pointReached (s : State) (x p : Nat) : State :=
  if p = s.get (R.DVFS_TGT x) then (s.pointTaken x p).put (R.DVFS_BUSY x) 0 else s.pointTaken x p

/-- The island is one point on, before the check whether a change of state may go on. -/
def State.dvfsStepped (s : State) (x : Nat) : State :=
  s.pointReached x (nextPoint (s.get (R.DVFS_FSEL x)) (s.get (R.DVFS_TGT x)))

theorem State.dvfsStep_eq (hx : x < 2) (h : s.flag (R.DVFS_BUSY x) = true)
    (h1 : x = 1 → s.flag (R.DVFS_BUSY 0) = false ∧ s.flag (R.DVFS_BUSY 2) = false) : s.dvfsStep = (s.dvfsStepped x).moveCheck := by
  have hg : ∀ g, State.get { s with now := s.alignEdge } g = s.get g := State.get_congr (Eq.refl _)
  unfold State.dvfsStep State.dvfsStepped State.pointReached
  rw [find?_dvfsOrder s hx h h1]
  simp only [State.advanceTo_alignEdge, nextPoint_eq, hg]
  rfl

theorem State.dvfsStepped_spec (hx : x < 2) (h : s.flag (R.DVFS_BUSY x) = true) {p : Nat}
    (hp : p = nextPoint (s.get (R.DVFS_FSEL x)) (s.get (R.DVFS_TGT x))) :
    ∃ u, s.dvfsStepped x = u ∧ u = { s with now := u.now, regs := u.regs, pw := u.pw } ∧ u.now = s.alignEdge ∧ u.get (R.DVFS_FSEL x) = p ∧
      u.get (R.DVFS_VSEL x) = p ∧ u.flag (R.DVFS_BUSY x) = decide (p ≠ s.get (R.DVFS_TGT x)) ∧ u.pw = { s.pw with vsetFrom := s.alignEdge } ∧
      ∀ a, a ≠ R.DVFS x → u.reg a = s.reg a := by
  obtain ⟨h1, h2, h3, h4, h5⟩ := State.pointTaken_spec s hx (hp ▸ nextPoint_lt (State.get_lt ..) (State.get_lt ..) : p < 4)
  unfold State.dvfsStepped State.pointReached
  rw [← hp]
  generalize s.pointTaken x p = u at *
  by_cases hpt : p = s.get (R.DVFS_TGT x)
  · refine ⟨u.put (R.DVFS_BUSY x) 0, if_pos hpt, ?_, ?_, ?_, ?_, ?_, ?_, fun a ha => ?_⟩
    · exact (State.OnPower.put ⟨_, _, _, h1⟩).eq_with
    · rw [State.put_now, h1]
    · rw [State.get_put_apart _ _ .below, h2]
    · rw [State.get_put_apart _ _ .below, h3]
    · rw [decide_eq_false (not_not_intro hpt)]
      exact State.flag_put u false
    · rw [State.put_pw, h1]
    · exact (State.reg_put_other u (R.DVFS_BUSY x) a 0 ha).trans (h5 a ha)
  · refine ⟨u, if_neg hpt, ?_, by rw [h1], h2, h3, ?_, by rw [h1], h5⟩
    · rw [h1]
    · rw [decide_eq_true hpt, h4, h]

/-- A voltage time-out ends every move where it is. -/
theorem State.vsetTimeout_eq (hx : x < 3) (h : s.flag (R.DVFS_BUSY x) = true) (hm : s.pw.move = none) :
    s.vsetTimeout = forAll dvfsOrder (fun x s => s.put (R.DVFS_BUSY x) 0)
      (s.advanceTo (s.pw.vsetFrom + ceilDiv (s.get R.PWR_TMO_VSET_TO * 49152) 100)) := by
  have hb : s.dvfsBusy = true := List.any_eq_true.2 ⟨x, by unfold dvfsOrder; simp; omega, h⟩
  unfold State.vsetTimeout
  rw [if_pos hb]
  extract_lets u v
  have hv : v.pw.move = none :=
    (congrArg PowerX.move (forAll_keeps (fun t => t.pw = s.pw) _ _ (fun k _ t ht => (State.put_pw ..).trans ht) u (Eq.refl _))).trans hm
  rw [hv]

/-- Clearing every BUSY leaves the points and the targets. -/
theorem State.clearBusy_spec :
    (∃ regs, forAll dvfsOrder (fun x s => s.put (R.DVFS_BUSY x) 0) s = { s with regs := regs }) ∧
    ∀ y, y < 3 → (forAll dvfsOrder (fun x s => s.put (R.DVFS_BUSY x) 0) s).flag (R.DVFS_BUSY y) = false ∧
      ∀ g : Field, g.addr = R.DVFS y → g.lo + g.width ≤ 31 →
        (forAll dvfsOrder (fun x s => s.put (R.DVFS_BUSY x) 0) s).get g = s.get g := by
  refine ⟨?_, fun y hy => ⟨?_, fun g hg hw => ?_⟩⟩
  · refine forAll_keeps (fun t => ∃ regs, t = { s with regs := regs }) _ _ (fun k _ t ht => ?_) s ⟨s.regs, Eq.refl _⟩
    obtain ⟨r, rfl⟩ := ht
    exact ⟨_, Eq.refl _⟩
  · refine forAll_reaches (fun _ => True) (fun t => t.flag (R.DVFS_BUSY y) = false) _ (fun x s => s.put (R.DVFS_BUSY x) 0) (a := y)
      (by unfold dvfsOrder; simp; omega) (fun _ _ _ _ => trivial) (fun t _ => State.flag_put t false) (fun k _ hk t _ ht => ?_) s trivial
    exact (State.flag_put_apart t 0 (R.DVFS_apart hk rfl rfl)).trans ht
  · refine forAll_keeps (fun t => t.get g = s.get g) _ _ (fun k _ t ht => ?_) s (Eq.refl _)
    exact (State.get_put_apart t 0 (.inr (.inl hw))).trans ht

end

/-! ### The clock source of MI and the PLL lock -/

section
variable (s : State)

theorem State.miSrc_refused (h : s.flag R.PWR_STATUS_PLL_LOCK = false) : (s.miSrc true).state = s.raise R.PWR_STATUS_WR_REFUSED := by
  unfold State.miSrc
  rw [h, if_pos (by decide)]
  rfl

theorem State.miSrc_eq {v : Bool} (h : v = false ∨ s.flag R.PWR_STATUS_PLL_LOCK = true) :
    (s.miSrc v).state = (s.put R.CLK_CTRL_MI_SRC (b2n v)).put R.PWR_STATUS_MI_WAKEOSC (b2n !v) := by
  unfold State.miSrc
  rw [if_neg (by rcases h with h | h <;> simp [h])]
  rfl

theorem State.pllLock_asleep (h : s.pw.wake = none) :
    s.pllLock = if s.boot = .rom then { s.put R.PWR_STATUS_PLL_LOCK 1 with boot := .image } else s := by
  unfold State.pllLock
  rw [h]

/-- The PLL has lock, and the wake goes on. -/
def State.pllLocked (s : State) (w : WakeX) : State :=
  ((s.advanceTo (w.at_ + 245760)).put R.PWR_STATUS_PLL_LOCK 1).modPw fun x => { x with wake := some { w with stage := 2 } }

theorem State.pllLocked_spec (w : WakeX) : s.pllLocked w = { s with
      now := (s.pllLocked w).now, regs := (s.pllLocked w).regs, pw := (s.pllLocked w).pw } ∧
    (s.pllLocked w).now = max s.now (w.at_ + 245760) ∧ (s.pllLocked w).flag R.PWR_STATUS_PLL_LOCK = true ∧
    (s.pllLocked w).pw = { s.pw with wake := some { w with stage := 2 } } := by
  have ho : s.OnPower ((s.advanceTo (w.at_ + 245760)).put R.PWR_STATUS_PLL_LOCK 1) := .put (.advanceTo (.refl s))
  have hf : ((s.advanceTo (w.at_ + 245760)).put R.PWR_STATUS_PLL_LOCK 1).flag R.PWR_STATUS_PLL_LOCK = true := State.flag_put _ true
  have hn := State.put_now (s.advanceTo (w.at_ + 245760)) R.PWR_STATUS_PLL_LOCK 1
  have hp := State.put_pw (s.advanceTo (w.at_ + 245760)) R.PWR_STATUS_PLL_LOCK 1
  unfold State.pllLocked
  generalize (s.advanceTo (w.at_ + 245760)).put R.PWR_STATUS_PLL_LOCK 1 = u at *
  refine ⟨(State.OnPower.setPw ho).eq_with, hn, (State.flag_congr (State.get_congr (State.modPw_regs ..) _)).trans hf, ?_⟩
  unfold State.modPw
  rw [hp]
  rfl

theorem State.pllLock_waking {w : WakeX} (h : s.pw.wake = some w) :
    s.pllLock = if w.stage = 1 then (s.pllLocked w).tmWake w.err else s := by
  unfold State.pllLock
  rw [h]
  rfl

end
end Sys2Proof.Machine

open Sys2Proof Sys2Proof.Machine

/-- Settles O30: each write or event by the one island, field or flag it changes. -/
theorem voltageAndFrequencyMoves : Obligations.VoltageAndFrequencyMoves := by
  unfold Obligations.VoltageAndFrequencyMoves
  refine ⟨fun x v s hx => ⟨fun h => ?_, fun hb hp hf hu huf => ⟨fun h1 h2 h3 h4 => ?_, fun h2 h3 h4 => ?_⟩⟩, fun s h => ?_,
    fun x s hx h h1 => ?_, fun x s hx h hm => ?_, fun v s => ⟨fun hv h => ?_, fun h => ?_⟩,
    fun s => ⟨fun h hb => ?_, fun h hb => ?_, fun w h hw => ?_, fun w h hw => ?_⟩⟩
  · exact congrArg Host.Outcome.next (State.dvfsWrite_refused s x v h)
  · have hn : ¬ s.DvfsBad x v := fun e => by
      rcases e with e | e | e | e | e | e
      · simp [hb] at e
      · omega
      · omega
      · omega
      · exact e.1 h1
      · omega
    obtain ⟨t, ht, hs⟩ := State.dvfsRequest_spec s (Field.of_lt (R.DVFS_TGT x) v) h4
    exact ⟨t, congrArg Host.Outcome.next ((State.dvfsWrite_move s x v hn h1 h2 h3).trans ht), hs⟩
  · have hn : ¬ s.DvfsBad x v := fun e => by
      rcases e with e | e | e | e | e | e
      · simp [hb] at e
      · omega
      · omega
      · omega
      · rcases h4 with h4 | h4
        · exact e.1 h4.1
        · exact e.2 h4.2
      · omega
    have hd : ¬ ((R.DVFS_FSEL x).of v = s.get (R.DVFS_FSEL x) ∧ (R.DVFS_VSEL x).of v = s.get (R.DVFS_VSEL x)) := by omega
    obtain ⟨k1, k2, k3, -, -, k6⟩ := State.setPoint_spec s h2 (Field.of_lt (R.DVFS_FSEL x) v) (Field.of_lt (R.DVFS_VSEL x) v)
    exact ⟨_, congrArg Host.Outcome.next (State.dvfsWrite_point s x v hn h3 hd), k1, k2, k3, k6⟩
  · exact ⟨congrArg Host.Outcome.next (State.dvfsStep_idle s h), congrArg Host.Outcome.next (State.vsetTimeout_idle s h)⟩
  · obtain ⟨u, hu, hs⟩ := State.dvfsStepped_spec s hx h (p := nextPoint (s.get (R.DVFS_FSEL x)) (s.get (R.DVFS_TGT x))) (Eq.refl _)
    exact ⟨u, congrArg Host.Outcome.next ((State.dvfsStep_eq s hx h h1).trans (congrArg State.moveCheck hu)), hs⟩
  · obtain ⟨⟨r, hr⟩, hk⟩ := State.clearBusy_spec (s.advanceTo (s.pw.vsetFrom + ceilDiv (s.get R.PWR_TMO_VSET_TO * 49152) 100))
    refine ⟨_, congrArg Host.Outcome.next (State.vsetTimeout_eq s hx h hm), ?_, ?_, fun y hy => ?_⟩
    · rw [hr]; rfl
    · rw [hr]; rfl
    · obtain ⟨k1, k2⟩ := hk y hy
      exact ⟨k1, k2 _ rfl (Nat.le_of_ble_eq_true rfl), k2 _ rfl (Nat.le_of_ble_eq_true rfl), k2 _ rfl (Nat.le_of_ble_eq_true rfl)⟩
  · subst hv
    exact congrArg Host.Outcome.next (State.miSrc_refused s h)
  · refine ⟨_, congrArg Host.Outcome.next (State.miSrc_eq s h), Eq.refl _, ?_, State.flag_put _ _, ?_⟩
    · rw [State.flag_put_apart _ _ (.inl (by decide)), State.flag_put]
    · rw [State.get_put_apart _ _ .below, State.get_put_apart _ _ (.inl (by decide))]
  · exact congrArg Host.Outcome.next ((State.pllLock_asleep s h).trans (if_neg hb))
  · exact congrArg Host.Outcome.next ((State.pllLock_asleep s h).trans (if_pos hb))
  · exact congrArg Host.Outcome.next ((State.pllLock_waking s h).trans (if_neg hw))
  · exact ⟨_, congrArg Host.Outcome.next ((State.pllLock_waking s h).trans (if_pos hw)), State.pllLocked_spec s w⟩
end

section
/-! Temperature sensors and throttling (R527 to R530), loss of the reference and of a supply (R36, R541, R542). -/

namespace Sys2Proof.Machine

/-! ### Reports that enter the safe state -/

section
variable (s : State) {r : Report} {c : SafeCause}

theorem State.showFaults_safe : s.showFaults.flag R.FM_STATUS_SAFE = s.flag R.FM_STATUS_SAFE := by
  unfold State.showFaults
  extract_lets s1 pend s2
  have h1 : s1.flag R.FM_STATUS_SAFE = s.flag R.FM_STATUS_SAFE := by
    unfold s1
    split
    · rw [State.flag_put_apart _ _ (.inl (by decide)), State.flag_put_apart _ _ (.inl (by decide)),
        State.flag_put_apart _ _ (.inl (by decide))]
    · exact State.flag_congr (State.get_setReg_apart _ _ _ (.inl (by decide)))
  rw [State.flag_put_apart _ _ .above, State.flag_put_apart _ _ (.inl (by decide)), State.flag_put_apart _ _ (.inl (by decide)), h1]

/-- Filing a record leaves SAFE. -/
theorem State.fileRecord_safe (hu : r.unit < 0x40) : (s.fileRecord r).flag R.FM_STATUS_SAFE = s.flag R.FM_STATUS_SAFE := by
  unfold State.fileRecord
  split
  · next k hk =>
    rw [State.showFaults_safe, State.flag_congr (State.get_congr (State.modFm_regs ..) _)]
    refine forAll_keeps (fun t => t.flag R.FM_STATUS_SAFE = s.flag R.FM_STATUS_SAFE) _ _ (fun i _ t ht => ?_) s (Eq.refl _)
    exact (State.flag_congr (State.get_setReg_apart _ _ _ (.inl (by simp only [R.FM_STATUS_SAFE, R.FM_STATUS, R.FM_REC]; omega)))).trans ht
  · exact State.flag_put_apart s _ (.inl (by simp only [R.FM_STATUS_SAFE, R.FM_STATUS, R.FM_OVF_OVF, R.FM_OVF]; omega))

/-- A class F report with an immediate cause enters the safe state, at once or by escalation. -/
theorem State.report_immediate (hf : r.cls = .clsF) (hc : immediateCause r.unit r.code = some c) :
    ∃ c', s.report r = (s.fileRecord r).enterSafe c' := by
  unfold State.report
  extract_lets f u
  rw [if_pos hf, hc]
  cases f
  · exact ⟨c, if_neg (by decide)⟩
  · exact ⟨.escalation, if_pos (Eq.refl _)⟩

theorem State.report_safe (hu : r.unit < 0x40) (hf : r.cls = .clsF) (hc : immediateCause r.unit r.code = some c) :
    (s.report r).mem = s.mem ∧ (s.report r).flag R.FM_STATUS_SAFE = true ∧ (s.flag R.FM_STATUS_SAFE = false → ∀ ch, ch < 64 →
      (s.report r).flag (R.CH_STATUS_TX_LIVE ch) = false ∧ (s.report r).flag (R.CH_STATUS_RX_LIVE ch) = false) := by
  have hm := (State.Alarmed.report (.refl s) hu).keeps State.mem
  obtain ⟨c', h⟩ := State.report_immediate s hf hc
  obtain ⟨h1, h2⟩ := State.enterSafe_spec (s.fileRecord r) c'
  rw [h] at hm ⊢
  refine ⟨hm, h1, fun hs ch hch => ?_⟩
  obtain ⟨h3, h4⟩ := h2 ((State.fileRecord_safe s hu).trans hs) ch hch
  exact ⟨State.flag_eq_false.2 h3, State.flag_eq_false.2 h4⟩

end

/-! ### Conversions -/

/-- What the end of a conversion keeps: time, memory, the readings and the registers of the thermal block. -/
structure State.ThermKept (s t : State) : Prop where
  now : t.now = s.now
  mem : t.mem = s.mem
  live : t.pw.live = s.pw.live
  hot : t.pw.hot = s.pw.hot
  reg : ∀ a, a / 2 ^ 20 = 0x11D → t.reg a = s.reg a

namespace State.ThermKept

section
variable {s t u : State}

theorem refl (s : State) : s.ThermKept s := ⟨rfl, rfl, rfl, rfl, fun _ _ => rfl⟩

theorem trans (h : s.ThermKept t) (k : t.ThermKept u) : s.ThermKept u :=
  ⟨k.now.trans h.now, k.mem.trans h.mem, k.live.trans h.live, k.hot.trans h.hot, fun a ha => (k.reg a ha).trans (h.reg a ha)⟩

theorem alarmed (h : s.Alarmed t) : s.ThermKept t :=
  ⟨h.keeps State.now, h.keeps State.mem, h.keeps (fun u => u.pw.live), h.keeps (fun u => u.pw.hot),
    fun a ha => h.reg_of_block (by rw [ha]; rfl)⟩

theorem put {f : Field} {v : Nat} (h : s.ThermKept t) (hf : f.addr / 2 ^ 20 ≠ 0x11D) : s.ThermKept (t.put f v) := by
  obtain ⟨hn, hm, hl, hh, hr⟩ := h
  exact ⟨hn, hm, hl, hh, fun a ha => (State.reg_put_other t f a v fun e => hf (e ▸ ha)).trans (hr a ha)⟩

theorem modPw {f : PowerX → PowerX} (h : s.ThermKept t) (hl : (f t.pw).live = t.pw.live := by rfl)
    (hh : (f t.pw).hot = t.pw.hot := by rfl) : s.ThermKept (t.modPw f) :=
  ⟨h.now, h.mem, hl.trans h.live, hh.trans h.hot, fun a ha => (State.reg_congr (State.modPw_regs ..) a).trans (h.reg a ha)⟩

theorem unrun {c : Cmd} (h : s.ThermKept t) : s.ThermKept (t.unrun c) := by
  unfold State.unrun State.showHeldOf
  have h1 : s.ThermKept { t with fe := { t.fe with running := t.fe.running.filter fun r => r.cmd ≠ c } } :=
    ⟨h.now, h.mem, h.live, h.hot, h.reg⟩
  split
  · exact .put h1 (by simp only [R.SESS_STAT_HELD, R.SESS_STAT]; omega)
  · exact h1

theorem get (h : s.ThermKept t) {f : Field} (hf : f.addr / 2 ^ 20 = 0x11D := by rfl) : t.get f = s.get f := congrArg f.of (h.reg _ hf)

theorem thermalShutdown {n : Nat} (h : s.ThermKept t) : s.ThermKept (t.thermalShutdown n) := by
  unfold State.thermalShutdown
  split
  · exact h
  · extract_lets s1 s2
    have h1 : s.ThermKept s1 := by
      unfold s1
      split
      · exact .unrun h
      · exact h
    have h2 : s.ThermKept s2 := .put (.modPw h1) (by decide)
    have h3 : s2.Alarmed (s2.settle.report (mkReport 0x03 .clsF 1 n)) := .report (.settle (.refl s2))
    exact h2.trans (.alarmed (h3.trans (Sent.sendSafeState (.refl _)).alarmed))

end
end State.ThermKept

section
variable (s : State) (n : Nat)

theorem State.showTrans_pw : s.showTrans.pw = s.pw := State.put_pw ..

theorem State.reported_pw (c : SafeCause) : ((s.settle.report (mkReport 0x03 .clsF 1 n)).sendSafeState c).pw = s.pw := by
  have h : s.Alarmed (s.settle.report (mkReport 0x03 .clsF 1 n)) := .report (.settle (.refl s))
  exact (h.trans (Sent.sendSafeState (.refl _)).alarmed).keeps State.pw

/-- The device in thermal shutdown, before its outputs follow. -/
def State.thermalShut (s : State) : State :=
  let s := match s.pw.move.bind PwrMove.cmd with
    | some c => s.unrun c
    | none => s
  (s.modPw fun x => { x with shut := true, shutAt := s.now, move := none, wake := none }).showTrans

theorem State.thermalShut_shut : s.thermalShut.pw.shut = true := by
  unfold State.thermalShut
  extract_lets u
  rw [State.showTrans_pw]
  generalize u = u
  rfl

theorem State.thermalShutdown_eq (h : s.pw.shut = false) :
    s.thermalShutdown n = (s.thermalShut.settle.report (mkReport 0x03 .clsF 1 n)).sendSafeState .thermal := by
  unfold State.thermalShutdown
  rw [if_neg (by simp [h])]
  rfl

theorem State.thermalShutdown_of_shut (h : s.pw.shut = true) : s.thermalShutdown n = s := by
  unfold State.thermalShutdown
  rw [if_pos h]

theorem State.thermalShutdown_shut : (s.thermalShutdown n).pw.shut = true := by
  cases h : s.pw.shut with
  | true => rw [State.thermalShutdown_of_shut s n h, h]
  | false => rw [State.thermalShutdown_eq s n h, State.reported_pw, State.thermalShut_shut]

theorem State.tmax_congr {s t : State} (h : t.pw.live = s.pw.live) : t.tmax = s.tmax := by
  unfold State.tmax
  rw [h]

/-- The reading of a sensor, its comparison with SHUT_C, and its sum for the average. -/
def State.sensed (s : State) (n : Nat) (x : Int) (hot : Bool) : State :=
  s.modPw fun y => { y with
    live := updAt y.live n fun _ => x
    hot := updAt y.hot n fun _ => hot
    acc := updAt y.acc n fun (a, k) => (a + x, k + 1) }

/-- TEMP takes the reading unless it is stale. -/
def State.tempShown (s : State) (n : Nat) (x : Int) : State :=
  doIf (!s.flag (R.TEMP_STALE n)) (fun s => s.put (R.TEMP_TEMP n) (ofInt 12 x)) s

/-- TMAX, HOT and WARN. -/
def State.tmaxShown (s : State) (t : Int) (i : Nat) (warn : Bool) : State :=
  ((s.put R.THERM_STATUS_TMAX (ofInt 12 t)).put R.THERM_STATUS_HOT i).put R.THERM_STATUS_WARN (b2n warn)

/-- What a conversion then leaves to do: WARN is reported once, and the times from which throttling is due are noted. -/
theorem State.convert_eq (raw : Int) {x : Int} {hot : Bool} {u : State} (hx : x = satS 12 (raw + s.getS (R.SENS_OFS_OFS n)))
    (hh : hot = decide (((s.get R.THERM_CFG_SHUT_C * 8 : Nat) : Int) ≤ x)) (hu : u = (s.sensed n x hot).tempShown n x) :
    ∃ v w, v = u.tmaxShown u.tmax.1 u.tmax.2 (decide ((u.get R.THERM_CFG_WARN_C : Int) * 8 ≤ u.tmax.1)) ∧ v.ThermKept w ∧
      w.pw.shut = v.pw.shut ∧ s.convert n raw = if hot ∧ s.pw.hot.getD n false then w.thermalShutdown n else w := by
  unfold State.convert
  extract_lets x' hot' was s1 s2
  obtain rfl : x = x' := hx
  obtain rfl : hot = hot' := hh
  obtain rfl : u = s2 := hu
  clear_value s2
  generalize s2.tmax = m
  obtain ⟨t, i⟩ := m
  dsimp -zeta only
  extract_lets a lim hyst warn v b w
  have ha : a.get R.THERM_CFG_WARN_C = s2.get R.THERM_CFG_WARN_C := by
    unfold a
    rw [State.get_put_apart _ _ (.inl (by decide)), State.get_put_apart _ _ (.inl (by decide))]
  have hw : warn = decide ((s2.get R.THERM_CFG_WARN_C : Int) * 8 ≤ t) := by
    simp only [warn, lim, ha, Int.natCast_zero, Int.sub_zero]
  have hb : v.ThermKept b ∧ b.pw.shut = v.pw.shut := by
    unfold b
    split
    · exact ⟨(State.ThermKept.modPw (.refl v)).trans (.alarmed (.event (.refl _))), (State.Sent.event (.refl _)).keeps (fun u => u.pw.shut)⟩
    · split
      · exact ⟨.modPw (.refl v), Eq.refl _⟩
      · exact ⟨.refl v, Eq.refl _⟩
  exact ⟨v, w, by rw [← hw]; exact Eq.refl _, .modPw hb.1, hb.2, Eq.refl _⟩

theorem ofInt_lt (w : Nat) (i : Int) : ofInt w i < 2 ^ w := by
  unfold ofInt
  have h0 := Int.emod_nonneg i (b := ((2 ^ w : Nat) : Int)) (by positivity)
  have h1 := Int.emod_lt_of_pos i (b := ((2 ^ w : Nat) : Int)) (by positivity)
  omega

section
variable {s} {x : Int}

theorem R.TEMP_ne {a : Nat} (ha : a < 0x11d00100) : a ≠ R.TEMP n := by simp only [R.TEMP]; omega

/-- TEMP of a sensor, and what its register leaves. -/
theorem State.tempShown_spec : (s.tempShown n x).pw = s.pw ∧ (s.tempShown n x).now = s.now ∧ (s.tempShown n x).mem = s.mem ∧
    (s.tempShown n x).get (R.TEMP_TEMP n) = (if s.flag (R.TEMP_STALE n) then s.get (R.TEMP_TEMP n) else ofInt 12 x) ∧
    ∀ a, a < 0x11d00100 → (s.tempShown n x).reg a = s.reg a := by
  unfold State.tempShown
  cases s.flag (R.TEMP_STALE n) with
  | true => exact ⟨rfl, rfl, rfl, rfl, fun _ _ => rfl⟩
  | false =>
    rw [Bool.not_false, doIf_true]
    exact ⟨State.put_pw .., State.put_now .., State.put_mem .., (State.get_put s _).trans (Nat.mod_eq_of_lt (ofInt_lt 12 x)),
      fun a ha => State.reg_put_other s (R.TEMP_TEMP n) a _ (R.TEMP_ne n ha)⟩

/-- TMAX and WARN, and what they leave. -/
theorem State.tmaxShown_spec (t : Int) (i : Nat) (w : Bool) :
    (s.tmaxShown t i w).pw = s.pw ∧ (s.tmaxShown t i w).now = s.now ∧ (s.tmaxShown t i w).mem = s.mem ∧
    (s.tmaxShown t i w).get R.THERM_STATUS_TMAX = ofInt 12 t ∧ (s.tmaxShown t i w).flag R.THERM_STATUS_WARN = w ∧
    ∀ a, a ≠ R.THERM_STATUS → (s.tmaxShown t i w).reg a = s.reg a := by
  unfold State.tmaxShown
  refine ⟨?_, ?_, ?_, ?_, State.flag_put _ w, fun a ha => ?_⟩
  · rw [State.put_pw, State.put_pw, State.put_pw]
  · rw [State.put_now, State.put_now, State.put_now]
  · rw [State.put_mem, State.put_mem, State.put_mem]
  · rw [State.get_put_apart _ _ .above, State.get_put_apart _ _ .above, State.get_put]
    exact Nat.mod_eq_of_lt (ofInt_lt 12 t)
  · rw [State.reg_put_other _ _ _ _ ha, State.reg_put_other _ _ _ _ ha]
    exact State.reg_put_other s R.THERM_STATUS_TMAX a _ ha

/-- A conversion updates its sensor's reading and the hottest one; thermal shutdown needs two readings in a row (R530). -/
theorem State.convert_spec (hn : n < 24) (hl : n < s.pw.live.length) (hh : n < s.pw.hot.length) (raw : Int) {hot : Bool}
    (hx : x = satS 12 (raw + s.getS (R.SENS_OFS_OFS n))) (ho : hot = decide (((s.get R.THERM_CFG_SHUT_C * 8 : Nat) : Int) ≤ x)) :
    (s.convert n raw).now = s.now ∧ (s.convert n raw).mem = s.mem ∧ (s.convert n raw).pw.live.getD n 0 = x ∧
      (∀ k, k ≠ n → (s.convert n raw).pw.live.getD k 0 = s.pw.live.getD k 0) ∧ (s.convert n raw).pw.hot.getD n false = hot ∧
      (s.convert n raw).get (R.TEMP_TEMP n) = (if s.flag (R.TEMP_STALE n) then s.get (R.TEMP_TEMP n) else ofInt 12 x) ∧
      (s.convert n raw).get R.THERM_STATUS_TMAX = ofInt 12 (s.convert n raw).tmax.1 ∧
      (s.convert n raw).flag R.THERM_STATUS_WARN = decide ((s.get R.THERM_CFG_WARN_C : Int) * 8 ≤ (s.convert n raw).tmax.1) ∧
      (s.convert n raw).pw.shut = (s.pw.shut || (hot && s.pw.hot.getD n false)) := by
  obtain ⟨v, w, hv, hw, hs, hc⟩ := State.convert_eq s n raw hx ho (Eq.refl _)
  have hsr : ∀ g, (s.sensed n x hot).get g = s.get g := State.get_congr (State.modPw_regs ..)
  obtain ⟨u1, u2, u3, u4, u5⟩ := State.tempShown_spec n (s := s.sensed n x hot) (x := x)
  rw [State.flag_congr (hsr _), hsr] at u4
  generalize (s.sensed n x hot).tempShown n x = u at *
  obtain ⟨v1, v2, v3, v4, v5, v6⟩ := State.tmaxShown_spec (s := u) u.tmax.1 u.tmax.2
    (decide ((u.get R.THERM_CFG_WARN_C : Int) * 8 ≤ u.tmax.1))
  rw [← hv] at v1 v2 v3 v4 v5 v6
  have hk : v.ThermKept (s.convert n raw) ∧ (s.convert n raw).pw.shut = (v.pw.shut || (hot && s.pw.hot.getD n false)) := by
    rw [hc]
    by_cases h : hot ∧ s.pw.hot.getD n false
    · rw [if_pos h]
      exact ⟨.thermalShutdown hw, by rw [State.thermalShutdown_shut, h.1, h.2]; simp⟩
    · rw [if_neg h, hs]
      exact ⟨hw, by rw [Bool.and_eq_false_iff.2 (by simpa [Decidable.imp_iff_not_or] using h), Bool.or_false]⟩
  obtain ⟨⟨k1, k2, k3, k4, k5⟩, k6⟩ := hk
  have hvp : v.pw = (s.sensed n x hot).pw := v1.trans u1
  have hm : (s.convert n raw).tmax = u.tmax := State.tmax_congr (k3.trans (by rw [hvp, u1]))
  have hwc : u.get R.THERM_CFG_WARN_C = s.get R.THERM_CFG_WARN_C := (congrArg (Field.of _) (u5 _ (by decide))).trans (hsr _)
  refine ⟨k1.trans (v2.trans u2), k2.trans (v3.trans u3), ?_, fun k hk => ?_, ?_, ?_, ?_, ?_, ?_⟩
  · rw [k3, hvp]
    exact getD_updAt_same _ 0 hl
  · rw [k3, hvp]
    exact getD_updAt_other _ _ 0 hk
  · rw [k4, hvp]
    exact getD_updAt_same _ false hh
  · refine ((congrArg (Field.of (R.TEMP_TEMP n)) ((k5 _ ?_).trans (v6 _ ?_)))).trans u4
    · simp only [R.TEMP_TEMP, R.TEMP]; omega
    · exact (R.TEMP_ne n (by decide)).symm
  · rw [hm, ← v4]
    exact congrArg (Field.of _) (k5 _ (by decide))
  · rw [hm, ← hwc, ← v5]
    exact State.flag_congr (congrArg (Field.of _) (k5 _ (by decide)))
  · rw [k6, hvp]
    rfl

end

/-! ### Throttling (R529) -/

/-- A throttle step changes the throttled quadrants, and nothing of the quadrants' gates. -/
theorem State.throttleTo_spec (l : List Nat) (q : Nat) (on : Bool) :
    (s.throttleTo l q on).now = s.now ∧ (s.throttleTo l q on).mem = s.mem ∧ (s.throttleTo l q on).pw.throttled = l ∧
    (s.throttleTo l q on).pw.steps = s.pw.steps ++ [(s.now + 24576, q, on)] ∧
    (s.throttleTo l q on).get R.PWR_STATUS_QGATE = s.get R.PWR_STATUS_QGATE := by
  unfold State.throttleTo
  extract_lets m u
  have hk : (u.put R.THERM_STATUS_THROT m).Sent ((u.put R.THERM_STATUS_THROT m).event (.thermThrottle m)) := .event (.refl _)
  refine ⟨(hk.keeps State.now).trans (State.put_now ..), (hk.keeps State.mem).trans (State.put_mem ..), ?_, ?_, ?_⟩
  · rw [hk.keeps State.pw, State.put_pw]
    rfl
  · rw [hk.keeps State.pw, State.put_pw]
    rfl
  · rw [hk.alarmed.get_of_block, State.get_put_apart _ _ (.inl (by decide))]
    exact State.get_congr (State.modPw_regs ..) _

theorem State.throttleStep_idle (h1 : s.pw.hotSince = none) (h2 : s.pw.coolSince = none) : s.throttleStep = s := by
  unfold State.throttleStep
  rw [h1, h2]

theorem State.throttleStep_hot {h q : Nat} (h1 : s.pw.hotSince = some h)
    (h2 : (throttleOrder (s.get R.THERM_THR_ORDER)).find? (fun q => q < 4 ∧ !s.pw.throttled.contains q) = some q) :
    s.throttleStep = (s.advanceTo (if s.pw.throttled = [] then h + 10 * 491520
      else max (h + 10 * 491520) (max h s.pw.stepAt + s.get R.THERM_THR_DWELL * 4915200))).throttleTo (s.pw.throttled ++ [q]) q true := by
  unfold State.throttleStep
  simp only [h1, h2]
  rfl

theorem State.throttleStep_cool {c q : Nat} (h1 : s.pw.hotSince = none) (h2 : s.pw.coolSince = some c)
    (h3 : s.pw.throttled.getLast? = some q) :
    s.throttleStep = (s.advanceTo (c + s.get R.THERM_THR_DWELL * 4915200)).throttleTo s.pw.throttled.dropLast q false := by
  unfold State.throttleStep
  simp only [h1, h2, h3]
  rfl

theorem State.supplyFault_faulty {mon : Nat} (h : mon = 0 ∨ mon = 4 ∨ mon = 5) (hp : s.pwrState ≠ 3) :
    s.supplyFault mon = s.report (mkReport 0x02 .clsF 1 mon) := if_pos ⟨h, hp⟩

theorem State.supplyFault_none {mon : Nat} (h : mon ≠ 0 ∧ mon ≠ 4 ∧ mon ≠ 5 ∨ s.pwrState = 3) : s.supplyFault mon = s :=
  if_neg (by omega)

end
end Sys2Proof.Machine

open Sys2Proof Sys2Proof.Machine

/-- Settles O32: a conversion and a throttle step by what they show, a lost supply or reference by the safe state it enters. -/
theorem temperatureAndSupply : Obligations.TemperatureAndSupply := by
  unfold Obligations.TemperatureAndSupply
  refine ⟨fun n raw s hn hl hh => ?_, fun s h1 h2 => ?_, fun h q s h1 h2 => ?_, fun c q s h1 h2 h3 => ?_, fun s => ?_,
    fun mon s h hp => ?_, fun mon s h => ?_, fun s => Eq.refl _⟩
  · exact ⟨_, Eq.refl _, State.convert_spec n hn (by rw [hl]; exact hn) (by rw [hh]; exact hn) raw (Eq.refl _) (Eq.refl _)⟩
  · exact congrArg Host.Outcome.next (State.throttleStep_idle s h1 h2)
  · obtain ⟨k1, k2, k3, k4, k5⟩ := State.throttleTo_spec (s.advanceTo (if s.pw.throttled = [] then h + 10 * 491520
      else max (h + 10 * 491520) (max h s.pw.stepAt + s.get R.THERM_THR_DWELL * 4915200))) (s.pw.throttled ++ [q]) q true
    exact ⟨_, congrArg Host.Outcome.next (State.throttleStep_hot s h1 h2), k1, k2, k3, by rw [k4, k1]; rfl, k5⟩
  · obtain ⟨k1, k2, k3, k4, -⟩ := State.throttleTo_spec (s.advanceTo (c + s.get R.THERM_THR_DWELL * 4915200)) s.pw.throttled.dropLast q false
    exact ⟨_, congrArg Host.Outcome.next (State.throttleStep_cool s h1 h2 h3), k1, k2, k3, by rw [k4, k1]; rfl⟩
  · exact ⟨_, Eq.refl _, State.report_safe s (c := .refclk) (show 1 < 0x40 by decide) rfl rfl⟩
  · exact ⟨_, congrArg Host.Outcome.next (State.supplyFault_faulty s h hp),
      State.report_safe s (c := .supply) (show 2 < 0x40 by decide) rfl rfl⟩
  · exact congrArg Host.Outcome.next (State.supplyFault_none s h)
end

section
/-! Fault inputs (R380 to R384): what each operation on an input leaves, and the transmit paths of a faulty group. -/

namespace Sys2Proof.Machine

/-! ### Registers of the inputs -/

/-- The addresses of an input's registers. -/
def InputReg (i a : Nat) : Prop := a / 16 = 0x1170020 + i

theorem R.IN_CFG_input (i : Nat) : InputReg i (R.IN_CFG i) := by simp only [InputReg, R.IN_CFG]; omega

theorem R.IN_MON_input (i : Nat) : InputReg i (R.IN_MON i) := by simp only [InputReg, R.IN_MON]; omega

theorem R.IN_STAT_input (i : Nat) : InputReg i (R.IN_STAT i) := by simp only [InputReg, R.IN_STAT]; omega

/-- An alarm writes no register of an input. -/
theorem AlarmField.apart_of_input {f g : Field} {i : Nat} (h : AlarmField f) (hi : i < 33) (hg : InputReg i g.addr) : f.Apart g := by
  refine .inl fun e => ?_
  rw [e, InputReg] at hg
  cases h with
  | sent h => cases h <;> simp only [R.SESS_STAT_EVQ, R.SESS_STAT, R.CMD_CNT3_SPI_OVF, R.CMD_CNT3] at hg <;> omega
  | output h =>
    cases h <;> simp only [R.CH_STATUS_TX_HELD, R.CH_STATUS_TX_LIVE, R.CH_STATUS, R.TXON_LIVE_TXON, R.TXON_LIVE, R.ADAC_CODE_NOW,
      R.ADAC_CODE] at hg <;> omega
  | rxLive ch hc => simp only [R.CH_STATUS_RX_LIVE, R.CH_STATUS] at hg; omega
  | rxon i hi => simp only [R.RXON_LIVE_RXON, R.RXON_LIVE] at hg; omega
  | record h => have := h.block; omega

section
variable {s t u : State} {i k : Nat}

/-- The registers of the inputs, the inputs, memory and time are kept. -/
structure State.PaKept (s t : State) : Prop where
  mem : t.mem = s.mem
  now : t.now = s.now
  inputs : t.pa.inputs = s.pa.inputs
  get : ∀ (i : Nat) (g : Field), i < 33 → InputReg i g.addr → t.get g = s.get g

theorem State.PaKept.refl (s : State) : s.PaKept s := ⟨rfl, rfl, rfl, fun _ _ _ _ => rfl⟩

theorem State.PaKept.trans (h : s.PaKept t) (k : t.PaKept u) : s.PaKept u :=
  ⟨k.mem.trans h.mem, k.now.trans h.now, k.inputs.trans h.inputs, fun i g hi hg => (k.get i g hi hg).trans (h.get i g hi hg)⟩

theorem State.PaKept.alarmed (h : s.Alarmed t) : s.PaKept t :=
  ⟨h.keeps State.mem, h.keeps State.now, h.keeps (fun u => u.pa.inputs),
    fun _ _ hi hg => h.writes.get _ fun _ hf => AlarmField.apart_of_input hf hi hg⟩

theorem State.PaKept.paLine (g : Nat) (v : Bool) : s.PaKept (s.paLine g v) := ⟨rfl, rfl, rfl, fun _ _ _ _ => State.get_congr rfl _⟩

theorem State.PaKept.input (h : s.PaKept t) (k : Nat) : t.input k = s.input k := by
  unfold State.input
  rw [h.inputs]

theorem State.isActive_congr (h : t.reg (R.IN_CFG i) = s.reg (R.IN_CFG i)) (v : Bool) : t.isActive i v = s.isActive i v := by
  unfold State.isActive State.flag
  rw [show t.get (R.IN_CFG_POL i) = s.get (R.IN_CFG_POL i) from congrArg (Field.of _) h]

/-- The fields that the operations on an input write, besides its count of edges and its latch STUCK. -/
inductive InputField (i : Nat) : Field → Prop
  | alarm {f : Field} (h : AlarmField f) : InputField i f
  | level : InputField i (R.IN_STAT_LEVEL i)
  | gpio : InputField i R.GPIO_IN_IN
  | fault : InputField i (R.IN_STAT_FAULT i)
  | chatter : InputField i (R.IN_STAT_CHATTER i)

/-- A field of an input's registers that shares no bit with LEVEL, FAULT and CHATTER is left. -/
theorem InputField.apart {f g : Field} {i k : Nat} (h : InputField i f) (hk : k < 33) (hg : InputReg k g.addr)
    (hs : g.addr = R.IN_STAT i → (R.IN_STAT_LEVEL i).Apart g ∧ (R.IN_STAT_FAULT i).Apart g ∧ (R.IN_STAT_CHATTER i).Apart g) : f.Apart g := by
  have hl : ∀ f : Field, f.addr = R.IN_STAT i → (g.addr = R.IN_STAT i → f.Apart g) → f.Apart g := fun f hf hx => by
    by_cases e : g.addr = R.IN_STAT i
    · exact hx e
    · exact .inl (by rw [hf]; exact e)
  cases h with
  | alarm h => exact h.apart_of_input hk hg
  | level => exact hl _ rfl fun e => (hs e).1
  | fault => exact hl _ rfl fun e => (hs e).2.1
  | chatter => exact hl _ rfl fun e => (hs e).2.2
  | gpio => exact .inl fun e => by rw [InputReg, e] at hg; simp only [R.GPIO_IN_IN, R.GPIO_IN] at hg; omega

/-- What an operation on an input leaves: the other inputs, the levels of its own, the settings, memory and time; and the lines, if
the input is of no PA group. -/
structure State.InputOp (i : Nat) (s t : State) : Prop where
  writes : s.Writes (InputField i) t
  mem : t.mem = s.mem
  now : t.now = s.now
  others : ∀ k, k ≠ i → t.input k = s.input k
  qual : (t.input i).qual = (s.input i).qual
  pin : (t.input i).pin = (s.input i).pin
  hold : 16 ≤ i → t.hold = s.hold

namespace State.InputOp

theorem refl (s : State) : s.InputOp i s := ⟨.refl s, rfl, rfl, fun _ _ => rfl, rfl, rfl, fun _ => rfl⟩

theorem trans (h : s.InputOp i t) (k : t.InputOp i u) : s.InputOp i u :=
  ⟨h.writes.trans k.writes, k.mem.trans h.mem, k.now.trans h.now, fun j hj => (k.others j hj).trans (h.others j hj),
    k.qual.trans h.qual, k.pin.trans h.pin, fun hi => (k.hold hi).trans (h.hold hi)⟩

theorem alarmed (h : t.Alarmed u) (k : s.InputOp i t) : s.InputOp i u :=
  k.trans ⟨h.writes.mono fun _ => .alarm, h.keeps State.mem, h.keeps State.now, fun k _ => h.keeps (State.input · k),
    h.keeps (fun u => (u.input i).qual), h.keeps (fun u => (u.input i).pin), fun _ => h.keeps State.hold⟩

theorem put {f : Field} {v : Nat} (h : s.InputOp i t) (hf : InputField i f) (w : f.fits = true := by rfl) : s.InputOp i (t.put f v) := by
  have e : ∀ k, (t.put f v).input k = t.input k := fun k => congrArg (fun p : PaX => p.inputs.getD k _) (State.put_pa ..)
  exact h.trans ⟨.put (.refl t) hf w, State.put_mem .., State.put_now .., fun k _ => e k, by rw [e], by rw [e], fun _ => State.put_hold ..⟩

theorem paLine {v : Bool} (h : s.InputOp i t) (hi : i < 16) : s.InputOp i (t.paLine i v) :=
  h.trans ⟨.same (.refl t) rfl, rfl, rfl, fun _ _ => rfl, rfl, rfl, fun hn => absurd hi (by omega)⟩

theorem modInput {f : InputX → InputX} (h : s.InputOp i t) (hq : ∀ x, (f x).qual = x.qual := by intros; rfl)
    (hp : ∀ x, (f x).pin = x.pin := by intros; rfl) : s.InputOp i (t.modInput i f) := by
  have e : ∀ {β : Type} (π : InputX → β), (∀ x, π (f x) = π x) → π ((t.modInput i f).input i) = π (t.input i) := fun π hπ => by
    unfold State.modInput State.input
    rw [getD_updAt]
    split
    · exact hπ _
    · rfl
  exact h.trans ⟨.same (.refl t) rfl, rfl, rfl, fun _ hk => getD_updAt_other _ _ _ hk, e InputX.qual hq, e InputX.pin hp, fun _ => rfl⟩

theorem reg (h : s.InputOp i t) {k a : Nat} (hk : k < 33) (ha : InputReg k a) (hn : a ≠ R.IN_STAT i) : t.reg a = s.reg a :=
  State.reg_eq_of_get (h.writes.get ⟨a, 0, 32⟩ fun _ hf => hf.apart hk ha fun e => absurd e hn)

theorem cfg (h : s.InputOp i t) (hi : i < 33) : t.reg (R.IN_CFG i) = s.reg (R.IN_CFG i) :=
  h.reg hi (R.IN_CFG_input i) (by simp only [R.IN_CFG, R.IN_STAT]; omega)

theorem mon (h : s.InputOp i t) (hi : i < 33) : t.reg (R.IN_MON i) = s.reg (R.IN_MON i) :=
  h.reg hi (R.IN_MON_input i) (by simp only [R.IN_MON, R.IN_STAT]; omega)

theorem isActive (h : s.InputOp i t) (hi : i < 33) (v : Bool) : t.isActive i v = s.isActive i v := State.isActive_congr (h.cfg hi) v

theorem edges (h : s.InputOp i t) (hi : i < 33) : t.get (R.IN_STAT_EDGES i) = s.get (R.IN_STAT_EDGES i) :=
  h.writes.get _ fun _ hf => hf.apart hi (R.IN_STAT_input i) fun _ => ⟨.above, .above, .above⟩

theorem stuck (h : s.InputOp i t) (hi : i < 33) : t.flag (R.IN_STAT_STUCK i) = s.flag (R.IN_STAT_STUCK i) :=
  h.writes.flag fun _ hf => hf.apart hi (R.IN_STAT_input i) fun _ => ⟨.above, .below, .above⟩

theorem showInput (h : s.InputOp i t) : s.InputOp i (t.showInput i) := by
  unfold State.showInput
  split
  · exact .put (.put h .level) .gpio
  · exact .put h .level

theorem paFault (h : s.InputOp i t) (hi : i < 16) : s.InputOp i (t.paFault i) :=
  .alarmed (.report (.event (.settle (.refl _)))) (.put (.paLine h hi) .fault)

theorem followLine (h : s.InputOp i t) (hi : i < 16) : s.InputOp i (t.followLine i) := by
  unfold State.followLine
  split
  · exact .alarmed (.settle (.refl _)) (.paLine h hi)
  · exact h

theorem maskInput (h : s.InputOp i t) : s.InputOp i (t.maskInput i) := by
  unfold State.maskInput
  extract_lets u
  have hu : s.InputOp i u := .showInput h
  split
  · next hi =>
    split
    · exact .put hu .fault
    · exact .paFault hu hi
  · exact hu

theorem trackActive (h : s.InputOp i t) : s.InputOp i (t.trackActive i) := .modInput h

theorem chatter (h : s.InputOp i t) : s.InputOp i (t.chatter i) := by
  unfold State.chatter
  split
  · exact h
  · extract_lets +onlyGivenNames _ _ t1
    have h1 : s.InputOp i t1 := by
      unfold t1
      split
      · exact .modInput h
      · exact .modInput h
    split
    · exact .alarmed (.report (.event (.refl _))) (.maskInput (.put h1 .chatter))
    · exact h1

end State.InputOp
end

/-! ### Shut paths -/

section
variable {s : State} {ch : Nat}

theorem State.TxShut.lt (h : s.TxShut ch) : ch < s.chains.length := by
  by_contra hn
  have hc := h.chain.cleared
  rw [State.chain, List.getD_eq_default _ _ (by omega)] at hc
  exact absurd hc (by decide)

theorem State.TxShut.put {f : Field} {v : Nat} (h : s.TxShut ch) (hf : f.Apart (R.CH_STATUS_TX_LIVE ch)) (w : f.fits = true := by rfl) :
    (s.put f v).TxShut ch := by
  refine ⟨?_, (State.get_put_apart s v hf w).trans h.live⟩
  rw [State.put_chain]
  exact h.chain

theorem State.TxShut.modInput {i : Nat} {f : InputX → InputX} (h : s.TxShut ch) : (s.modInput i f).TxShut ch :=
  ⟨h.chain, (State.get_congr (State.modInput_regs ..) _).trans h.live⟩

theorem State.TxShut.event {e : Event} (h : s.TxShut ch) (hc : ch < 64) : (s.event e).TxShut ch :=
  (State.Sent.event (.refl s)).txShut hc h

theorem State.TxShut.report {r : Report} (h : s.TxShut ch) (hc : ch < 64) (hu : r.unit < 0x40) : (s.report r).TxShut ch :=
  State.report_txShut s hu hc h.lt h

theorem R.IN_STAT_apart_live {i : Nat} {f : Field} (hf : f.addr = R.IN_STAT i) : f.Apart (R.CH_STATUS_TX_LIVE ch) :=
  .inl (by rw [hf]; simp only [R.CH_STATUS_TX_LIVE, R.CH_STATUS, R.IN_STAT]; omega)

end
end Sys2Proof.Machine
end

section
namespace Sys2Proof.Machine

/-- A PA group off (R30, R380): FAULT and its line are set, and the transmit paths of its four chains are shut. -/
structure State.GroupOff (s : State) (g : Nat) : Prop where
  fault : s.flag (R.IN_STAT_FAULT g) = true
  line : s.hold.paLine.testBit g = true
  shut : ∀ ch, ch < 64 → ch / 4 = g → s.TxShut ch

section
variable {s t : State} {i : Nat}

theorem R.IN_STAT_apart_gpio {f g : Field} (hi : i < 33) (hf : f.addr = R.GPIO_IN) (hg : g.addr = R.IN_STAT i) : f.Apart g :=
  .inl (by rw [hf, hg]; simp only [R.IN_STAT, R.GPIO_IN]; omega)

/-! ### LEVEL -/

theorem State.showInput_hold (s : State) : (s.showInput i).hold = s.hold := by
  unfold State.showInput
  split
  · exact (State.put_hold ..).trans (State.put_hold ..)
  · exact State.put_hold ..

theorem State.showInput_get (hi : i < 33) {g : Field} (hg : g.addr = R.IN_STAT i) (ha : (R.IN_STAT_LEVEL i).Apart g) :
    (s.showInput i).get g = s.get g := by
  unfold State.showInput
  extract_lets a u
  have hu : u.get g = s.get g := State.get_put_apart s _ ha
  split
  · exact (State.get_put_apart u _ (R.IN_STAT_apart_gpio hi rfl hg)).trans hu
  · exact hu

theorem State.showInput_level (hi : i < 33) :
    (s.showInput i).flag (R.IN_STAT_LEVEL i) = (s.isActive i (s.input i).qual && !(decide (16 ≤ i) && s.masked i)) := by
  unfold State.showInput
  extract_lets a u
  have hu : u.flag (R.IN_STAT_LEVEL i) = a := State.flag_put s a
  split
  · exact (State.flag_put_apart u _ (R.IN_STAT_apart_gpio hi rfl rfl)).trans hu
  · exact hu

theorem State.TxShut.showInput {ch : Nat} (h : s.TxShut ch) : (s.showInput i).TxShut ch := by
  unfold State.showInput
  extract_lets a u
  have hu : u.TxShut ch := h.put (.inl (by simp only [R.CH_STATUS_TX_LIVE, R.CH_STATUS, R.IN_STAT_LEVEL, R.IN_STAT]; omega))
  split
  · exact hu.put (.inl (by simp only [R.CH_STATUS_TX_LIVE, R.CH_STATUS, R.GPIO_IN_IN, R.GPIO_IN]; omega))
  · exact hu

/-! ### Groups -/

namespace State.GroupOff

section
variable (h : s.GroupOff i) (hi : i < 33)
include h

theorem put {f : Field} {v : Nat} (hf : f.addr = R.IN_STAT i) (ha : f.Apart (R.IN_STAT_FAULT i)) (w : f.fits = true := by rfl) :
    (s.put f v).GroupOff i :=
  ⟨(State.flag_put_apart s v ha w).trans h.fault, by rw [State.put_hold]; exact h.line,
    fun ch hc hg => (h.shut ch hc hg).put (R.IN_STAT_apart_live hf) w⟩

theorem modInput {f : InputX → InputX} : (s.modInput i f).GroupOff i :=
  ⟨(State.flag_congr (State.get_congr (State.modInput_regs ..) _)).trans h.fault, h.line, fun ch hc hg => (h.shut ch hc hg).modInput⟩

include hi

theorem alarmed (k : s.Alarmed t) (hs : ∀ ch, ch < 64 → ch / 4 = i → t.TxShut ch) : t.GroupOff i :=
  ⟨(k.writes.flag fun _ hf => hf.apart_of_input hi (R.IN_STAT_input i)).trans h.fault, by rw [k.keeps State.hold]; exact h.line, hs⟩

theorem event {e : Event} : (s.event e).GroupOff i :=
  h.alarmed hi (.event (.refl s)) fun ch hc hg => (h.shut ch hc hg).event hc

theorem report {r : Report} (hu : r.unit < 0x40 := by exact of_decide_eq_true rfl) : (s.report r).GroupOff i :=
  h.alarmed hi (.report (.refl s) hu) fun ch hc hg => (h.shut ch hc hg).report hc hu

theorem maskInput : (s.maskInput i).GroupOff i := by
  unfold State.maskInput
  extract_lets u
  have hu : u.GroupOff i := ⟨(State.flag_congr (State.showInput_get hi rfl .above)).trans h.fault,
    by rw [State.showInput_hold]; exact h.line, fun ch hc hg => (h.shut ch hc hg).showInput⟩
  split
  · rw [if_pos hu.line]
    exact ⟨State.flag_put u true, by rw [State.raise, State.put_hold]; exact hu.line,
      fun ch hc hg => (hu.shut ch hc hg).put (R.IN_STAT_apart_live rfl)⟩
  · exact hu

theorem chatter : (s.chatter i).GroupOff i := by
  unfold State.chatter
  split
  · exact h
  · extract_lets x isOpen t1
    have h1 : t1.GroupOff i := h.modInput
    split
    · exact (((h1.put rfl .above).maskInput hi).event hi).report hi
    · exact h1

end
end State.GroupOff

/-! ### A fault of a PA group -/

theorem State.paLine_testBit (s : State) (g k : Nat) (v : Bool) :
    (s.paLine g v).hold.paLine.testBit k = if k = g then v else s.hold.paLine.testBit k := setBit_testBit ..

/-- A faulty group has FAULT and its line, and its chains are shut. -/
theorem State.paFault_line (hi : i < 33) : (s.paFault i).flag (R.IN_STAT_FAULT i) = true ∧ (s.paFault i).hold.paLine.testBit i = true ∧
    (s.chains.length = 64 → (s.paFault i).GroupOff i) := by
  unfold State.paFault
  extract_lets u
  have h0 : State.Alarmed ((s.paLine i true).raise (R.IN_STAT_FAULT i)) u := .settle (.refl _)
  have hf : u.flag (R.IN_STAT_FAULT i) = true :=
    (h0.writes.flag fun _ hf => hf.apart_of_input hi (R.IN_STAT_input i)).trans (State.flag_put _ true)
  have hl : u.hold.paLine.testBit i = true := by
    rw [h0.keeps State.hold, State.raise, State.put_hold, State.paLine_testBit, if_pos rfl]
  have h1 : u.Alarmed ((u.event (.paFault i)).report (mkReport 0x0D .clsU 0x0010 i)) := .report (.event (.refl u))
  refine ⟨(h1.writes.flag fun _ hf => hf.apart_of_input hi (R.IN_STAT_input i)).trans hf, by rw [h1.keeps State.hold]; exact hl, fun hn => ?_⟩
  have hs : ∀ ch, ch < 64 → ch / 4 = i → u.TxShut ch := fun ch hc hg => by
    refine State.settle_txShut hc (by rw [State.raise, State.put_chains]; exact hn.symm ▸ hc) ?_
    simp only [State.biasCleared, State.rank2, State.raise, State.put_hold, hg, State.paLine_testBit, if_pos, Bool.true_or, Bool.or_true]
  exact ((GroupOff.mk hf hl hs).event hi).report hi

/-! ### Masks and latches -/

/-- A masked input: a PA group is off then, and any other input reads as inactive. -/
theorem State.maskInput_spec (hi : i < 33) :
    (i < 16 → (s.maskInput i).flag (R.IN_STAT_FAULT i) = true ∧ (s.maskInput i).hold.paLine.testBit i = true) ∧
    (16 ≤ i → s.masked i = true → (s.maskInput i).flag (R.IN_STAT_LEVEL i) = false) := by
  unfold State.maskInput
  extract_lets u
  refine ⟨fun h => ?_, fun h hm => ?_⟩
  · rw [if_pos h]
    split
    · next hl => exact ⟨State.flag_put u true, by rw [State.raise, State.put_hold]; exact hl⟩
    · obtain ⟨h1, h2, -⟩ := State.paFault_line (s := u) hi
      exact ⟨h1, h2⟩
  · rw [if_neg (by omega), State.showInput_level hi, hm]
    simp [h]

theorem State.paFault_get (hi : i < 33) {g : Field} (hg : g.addr = R.IN_STAT i) (ha : (R.IN_STAT_FAULT i).Apart g) :
    (s.paFault i).get g = s.get g := by
  have h : State.Alarmed ((s.paLine i true).raise (R.IN_STAT_FAULT i)) (s.paFault i) := .report (.event (.settle (.refl _)))
  rw [h.writes.get g fun _ hf => hf.apart_of_input hi (by rw [hg]; exact R.IN_STAT_input i)]
  exact (State.get_put_apart (s.paLine i true) 1 ha).trans (State.get_congr (Eq.refl _) g)

theorem State.maskInput_get (hi : i < 33) {g : Field} (hg : g.addr = R.IN_STAT i) (ha : (R.IN_STAT_FAULT i).Apart g)
    (hl : (R.IN_STAT_LEVEL i).Apart g) : (s.maskInput i).get g = s.get g := by
  unfold State.maskInput
  extract_lets u
  have hu : u.get g = s.get g := State.showInput_get hi hg hl
  split
  · split
    · exact (State.get_put_apart u 1 ha).trans hu
    · exact (State.paFault_get hi hg ha).trans hu
  · exact hu

theorem State.showInput_inputs (s : State) (i : Nat) : (s.showInput i).pa = s.pa := by
  unfold State.showInput
  split
  · exact (State.put_pa ..).trans (State.put_pa ..)
  · exact State.put_pa ..

theorem State.showInput_chains (s : State) (i : Nat) : (s.showInput i).chains = s.chains := by
  unfold State.showInput
  split
  · exact (State.put_chains ..).trans (State.put_chains ..)
  · exact State.put_chains ..

theorem State.input_congr (h : t.pa.inputs = s.pa.inputs) (k : Nat) : t.input k = s.input k := by
  unfold State.input
  rw [h]

theorem State.modInput_input (s : State) {i : Nat} (f : InputX → InputX) (h : i < s.pa.inputs.length) : (s.modInput i f).input i = f (s.input i) :=
  getD_updAt_same f _ h

theorem State.trackActive_input (s : State) {i : Nat} (h : i < s.pa.inputs.length) :
    ∃ a, (s.trackActive i).input i = { s.input i with activeAt := a } := ⟨_, State.modInput_input s _ h⟩

/-- More edges than CHAT_N in an open window latch CHATTER (R381). -/
theorem State.chatter_latched (hi : i < 33) (hl : i < s.pa.inputs.length) {w : Nat} (hn : s.get (R.IN_MON_CHAT_N i) ≠ 0)
    (hw : (s.input i).winEnd = some w) (ho : s.now < w) (he : s.get (R.IN_MON_CHAT_N i) ≤ (s.input i).winEdges) :
    (s.chatter i).flag (R.IN_STAT_CHATTER i) = true := by
  unfold State.chatter
  rw [if_neg hn]
  extract_lets x isOpen u
  have h1 : isOpen = true := by simp only [isOpen, x, hw, ho, decide_true]
  have h2 : u.input i = { s.input i with winEdges := (s.input i).winEdges + 1 } := by
    unfold u
    rw [State.modInput_input s _ hl, if_pos h1]
  have h3 : u.get (R.IN_MON_CHAT_N i) = s.get (R.IN_MON_CHAT_N i) := State.get_congr (State.modInput_regs ..) _
  by_cases hc : u.flag (R.IN_STAT_CHATTER i) = true
  · rw [if_neg (by simp [hc])]
    exact hc
  · rw [if_pos ⟨by rw [h2, h3]; exact Nat.lt_succ_of_le he, by simpa using hc⟩]
    have ha : State.Alarmed ((u.put (R.IN_STAT_CHATTER i) 1).maskInput i) _ :=
      .report (r := mkReport 0x0D (latchClass i) 0x0011 i) (.event (e := .inputChatter i) (.refl _))
    rw [ha.writes.flag fun _ hf => hf.apart_of_input hi (R.IN_STAT_input i), State.flag_congr (State.maskInput_get hi rfl .below .above)]
    exact State.flag_put u true

theorem State.chatter_off (hn : s.get (R.IN_MON_CHAT_N i) = 0) : s.chatter i = s := by
  unfold State.chatter
  rw [if_pos hn]

/-- The line of a group follows its input unless LATCH or a latch holds it. -/
theorem State.followLine_kept (s : State) (i : Nat) : s.PaKept (s.followLine i) := by
  unfold State.followLine
  split
  · exact .trans (.paLine i _) (.alarmed (.settle (.refl _)))
  · exact .refl s

/-! ### Edges (R380) -/

/-- A qualified edge, counted. -/
def State.edgeCounted (s : State) (i : Nat) (level : Bool) : State :=
  ((s.modInput i fun x => { x with pin := level }).modInput i fun x => { x with qual := level }).count (R.IN_STAT_EDGES i)

/-- The level of an input after a qualified edge, counted and shown. -/
def State.edgeTaken (s : State) (i : Nat) (level : Bool) : State := ((s.edgeCounted i level).trackActive i).showInput i

/-- What follows for a PA group. -/
def State.edgeOnLine (s : State) (i : Nat) (act : Bool) : State := if i < 16 then (if act then s.paFault i else s.followLine i) else s

section
variable (s) (level : Bool) (hi : i < 33) (hl : i < s.pa.inputs.length)

theorem State.edgeCounted_regs : (s.edgeCounted i level).regs = (s.count (R.IN_STAT_EDGES i)).regs := by
  unfold State.edgeCounted State.count State.countBy
  generalize hu : (s.modInput i fun x => { x with pin := level }).modInput i (fun x => { x with qual := level }) = u
  have h : u.regs = s.regs := hu ▸ (State.modInput_regs ..).trans (State.modInput_regs ..)
  rw [State.get_congr h]
  unfold State.put
  rw [State.reg_congr h]
  unfold State.setReg
  rw [h]

theorem State.edgeCounted_reg {a : Nat} (ha : a ≠ R.IN_STAT i) : (s.edgeCounted i level).reg a = s.reg a := by
  rw [State.reg_congr (State.edgeCounted_regs s level)]
  exact State.reg_put_other s (R.IN_STAT_EDGES i) a _ ha

theorem State.edgeCounted_pa : (s.edgeCounted i level).pa =
    ((s.modInput i fun x => { x with pin := level }).modInput i fun x => { x with qual := level }).pa := State.put_pa ..

include hl in
theorem State.edgeCounted_input : (s.edgeCounted i level).input i = { s.input i with pin := level, qual := level } := by
  rw [State.input_congr (congrArg PaX.inputs (State.edgeCounted_pa s level)), State.modInput_input, State.modInput_input s _ hl]
  exact (length_updAt ..).symm ▸ hl

theorem State.edgeTaken_op : (s.edgeCounted i level).InputOp i (s.edgeTaken i level) := .showInput (.trackActive (.refl _))

include hi in
theorem State.edgeTaken_isActive (v : Bool) : (s.edgeTaken i level).isActive i v = s.isActive i v := by
  rw [(State.edgeTaken_op s level).isActive hi]
  exact State.isActive_congr (State.edgeCounted_reg s level (by simp only [R.IN_CFG, R.IN_STAT]; omega)) v

include hl in
/-- An input after an edge: its levels are new, and its window is as before. -/
theorem State.edgeTaken_input : ∃ a, (s.edgeTaken i level).input i = { s.input i with pin := level, qual := level, activeAt := a } := by
  have hl' : i < (s.edgeCounted i level).pa.inputs.length := by
    rw [State.edgeCounted_pa]
    exact ((length_updAt ..).trans (length_updAt ..)).symm ▸ hl
  unfold State.edgeTaken State.trackActive
  rw [State.input_congr (congrArg PaX.inputs (State.showInput_inputs ..)), State.modInput_input _ _ hl', State.edgeCounted_input s level hl]
  exact ⟨_, Eq.refl _⟩

theorem State.edgeTaken_length : (s.edgeTaken i level).pa.inputs.length = s.pa.inputs.length := by
  unfold State.edgeTaken State.trackActive
  rw [State.showInput_inputs]
  refine (length_updAt ..).trans ?_
  rw [State.edgeCounted_pa]
  exact (length_updAt ..).trans (length_updAt ..)

theorem State.edgeTaken_others {k : Nat} (hk : k ≠ i) : (s.edgeTaken i level).input k = s.input k := by
  rw [(State.edgeTaken_op s level).others k hk, State.input_congr (congrArg PaX.inputs (State.edgeCounted_pa s level))]
  exact (getD_updAt_other _ _ _ hk).trans (getD_updAt_other _ _ _ hk)

include hi in
/-- The edge is counted up to the counter's end. -/
theorem State.edgeTaken_edges : (s.edgeTaken i level).get (R.IN_STAT_EDGES i) = min (s.get (R.IN_STAT_EDGES i) + 1) 65535 := by
  rw [(State.edgeTaken_op s level).edges hi, State.get_congr (State.edgeCounted_regs s level), State.count, State.countBy, State.get_put]
  exact Nat.mod_eq_of_lt (Nat.lt_of_le_of_lt (Nat.min_le_right _ _) (by exact of_decide_eq_true rfl))

include hi in
theorem State.edgeTaken_chatN : (s.edgeTaken i level).get (R.IN_MON_CHAT_N i) = s.get (R.IN_MON_CHAT_N i) :=
  congrArg (Field.of _) (((State.edgeTaken_op s level).mon hi).trans (State.edgeCounted_reg s level (by simp only [R.IN_MON, R.IN_STAT]; omega)))

include hi in
theorem State.edgeTaken_chatter : (s.edgeTaken i level).flag (R.IN_STAT_CHATTER i) = s.flag (R.IN_STAT_CHATTER i) := by
  unfold State.edgeTaken State.trackActive
  rw [State.flag_congr (State.showInput_get hi rfl .above), State.flag_congr (State.get_congr (State.modInput_regs ..) _),
    State.flag_congr (State.get_congr (State.edgeCounted_regs s level) _)]
  exact State.flag_put_apart s _ .below

/-- What reads neither the registers nor the inputs is kept. -/
theorem State.edgeTaken_keeps : (s.edgeTaken i level).mem = s.mem ∧ (s.edgeTaken i level).now = s.now ∧
    (s.edgeTaken i level).hold = s.hold ∧ (s.edgeTaken i level).chains = s.chains := by
  have ho := State.edgeTaken_op s level (i := i)
  have hc : (s.edgeCounted i level).chains = s.chains := State.put_chains ..
  have hh : (s.edgeCounted i level).hold = s.hold := State.put_hold ..
  refine ⟨ho.mem.trans (State.put_mem ..), ho.now.trans (State.put_now ..), ?_, ?_⟩
  · rw [State.edgeTaken, State.showInput_hold]
    exact hh
  · rw [State.edgeTaken, State.showInput_chains]
    exact hc

end

/-! ### The line of a group after an edge -/

section
variable (s) (act : Bool) (hi : i < 33)

theorem State.edgeOnLine_op : s.InputOp i (s.edgeOnLine i act) := by
  unfold State.edgeOnLine
  split
  · next h =>
    split
    · exact .paFault (.refl s) h
    · exact .followLine (.refl s) h
  · exact .refl s

theorem State.paFault_inputs : (s.paFault i).pa.inputs = s.pa.inputs := by
  have h : State.Alarmed ((s.paLine i true).raise (R.IN_STAT_FAULT i)) (s.paFault i) := .report (.event (.settle (.refl _)))
  rw [h.keeps (fun u => u.pa.inputs), State.raise, State.put_pa]
  rfl

theorem State.edgeOnLine_inputs : (s.edgeOnLine i act).pa.inputs = s.pa.inputs := by
  unfold State.edgeOnLine
  split
  · split
    · exact State.paFault_inputs s
    · exact (State.followLine_kept s i).inputs
  · exact Eq.refl _

include hi in
theorem State.edgeOnLine_chatter : (s.edgeOnLine i act).flag (R.IN_STAT_CHATTER i) = s.flag (R.IN_STAT_CHATTER i) := by
  unfold State.edgeOnLine
  split
  · split
    · exact State.flag_congr (State.paFault_get hi rfl .below)
    · exact State.flag_congr ((State.followLine_kept s i).get i _ hi (R.IN_STAT_input i))
  · exact Eq.refl _

end

theorem State.inputEdge_none (level : Bool) (hl : i < s.pa.inputs.length) (h : (s.input i).qual = level) :
    s.inputEdge i level = s.modInput i fun y => { y with pin := level } := by
  unfold State.inputEdge
  extract_lets u
  rw [if_pos (by rw [State.modInput_input s _ hl]; simpa using h)]

theorem State.inputEdge_eq (level : Bool) (hi : i < 33) (hl : i < s.pa.inputs.length) (h : (s.input i).qual ≠ level) :
    ∃ b, s.inputEdge i level = (doIf b (fun t => t.event (.inputEdge i (b2n (s.isActive i level))))
      ((s.edgeTaken i level).edgeOnLine i (s.isActive i level))).chatter i := by
  unfold State.inputEdge
  extract_lets u v w act x y
  rw [if_neg (by rw [State.modInput_input s _ hl]; simpa using h)]
  rw [← State.edgeTaken_isActive s level hi]
  exact ⟨_, Eq.refl _⟩

/-- The state after an edge, up to the count of the chatter window. -/
theorem State.inputEdge_spec (level : Bool) (hi : i < 33) (hl : i < s.pa.inputs.length) (hc : s.chains.length = 64)
    (h : (s.input i).qual ≠ level) : ∃ u : State, s.inputEdge i level = u.chatter i ∧ u.mem = s.mem ∧ u.now = s.now ∧
      (u.input i).qual = level ∧ (u.input i).pin = level ∧ (u.input i).winEnd = (s.input i).winEnd ∧ (u.input i).winEdges = (s.input i).winEdges ∧
      u.get (R.IN_STAT_EDGES i) = min (s.get (R.IN_STAT_EDGES i) + 1) 65535 ∧ u.get (R.IN_MON_CHAT_N i) = s.get (R.IN_MON_CHAT_N i) ∧
      u.flag (R.IN_STAT_CHATTER i) = s.flag (R.IN_STAT_CHATTER i) ∧ (∀ k, k ≠ i → u.input k = s.input k) ∧
      u.pa.inputs.length = s.pa.inputs.length ∧ (16 ≤ i → u.hold = s.hold) ∧ (i < 16 → s.isActive i level = true → u.GroupOff i) := by
  obtain ⟨b, hb⟩ := State.inputEdge_eq level hi hl h
  obtain ⟨a, ha⟩ := State.edgeTaken_input s level hl
  obtain ⟨k1, k2, k3, k4⟩ := State.edgeTaken_keeps s level (i := i)
  have kl := State.edgeTaken_length s level (i := i)
  have ke := State.edgeTaken_edges s level hi
  have kn := State.edgeTaken_chatN s level hi
  have kc := State.edgeTaken_chatter s level hi
  have ko := fun k (hk : k ≠ i) => State.edgeTaken_others s level hk
  generalize s.edgeTaken i level = v at *
  have lo := State.edgeOnLine_op v (s.isActive i level) (i := i)
  have li := State.edgeOnLine_inputs v (s.isActive i level) (i := i)
  have lc := State.edgeOnLine_chatter v (s.isActive i level) hi
  have lg : i < 16 → s.isActive i level = true → (v.edgeOnLine i (s.isActive i level)).GroupOff i := fun h16 hact => by
    rw [State.edgeOnLine, if_pos h16, if_pos hact]
    exact (State.paFault_line hi).2.2 (by rw [k4]; exact hc)
  generalize v.edgeOnLine i (s.isActive i level) = w at *
  have hd : w.Alarmed (doIf b (fun t => t.event (.inputEdge i (b2n (s.isActive i level)))) w) :=
    doIf_keeps _ _ _ (fun _ k => .event k) w (.refl w)
  have hg : i < 16 → s.isActive i level = true →
      (doIf b (fun t => t.event (.inputEdge i (b2n (s.isActive i level)))) w).GroupOff i := fun h16 hact =>
    doIf_keeps (fun t => t.GroupOff i) _ _ (fun _ k => k.event hi) w (lg h16 hact)
  refine ⟨_, hb, ?_⟩
  generalize doIf b (fun t => t.event (.inputEdge i (b2n (s.isActive i level)))) w = u at *
  have ho := State.InputOp.alarmed hd lo
  have hin : u.pa.inputs = v.pa.inputs := (hd.keeps (fun u => u.pa.inputs)).trans li
  have hii := State.input_congr hin i
  refine ⟨ho.mem.trans k1, ho.now.trans k2, ?_, ?_, ?_, ?_, (ho.edges hi).trans ke, ?_, ?_, fun k hk => (ho.others k hk).trans (ko k hk),
    (congrArg List.length hin).trans kl, fun h16 => (ho.hold h16).trans k3, hg⟩
  · rw [hii, ha]
  · rw [hii, ha]
  · rw [hii, ha]
  · rw [hii, ha]
  · exact (congrArg (Field.of _) (ho.mon hi)).trans kn
  · exact (hd.writes.flag fun _ hf => hf.apart_of_input hi (R.IN_STAT_input i)).trans (lc.trans kc)

/-! ### Windows and stuck inputs (R381, R382) -/

theorem State.chatterEnd_none (h : (s.input i).winEnd = none) : s.chatterEnd i = s := by
  unfold State.chatterEnd
  rw [h]

theorem State.chatterEnd_some {w : Nat} (h : (s.input i).winEnd = some w) :
    s.chatterEnd i = (s.advanceTo w).modInput i fun x => { x with winEnd := none, winEdges := 0 } := by
  unfold State.chatterEnd
  rw [h]

theorem State.inputStuck_none (h : (s.input i).activeAt = none ∨ s.get (R.IN_STUCK_STUCK_TO i) = 0 ∨ s.flag (R.IN_STAT_STUCK i) = true) :
    s.inputStuck i = s := by
  unfold State.inputStuck
  cases ha : (s.input i).activeAt with
  | none => rfl
  | some a => exact if_pos (h.resolve_left (by simp [ha]))

theorem State.inputStuck_eq {a : Nat} (ha : (s.input i).activeAt = some a) (hn : s.get (R.IN_STUCK_STUCK_TO i) ≠ 0)
    (hs : s.flag (R.IN_STAT_STUCK i) = false) : s.inputStuck i =
      (((((s.advanceTo (a + s.get (R.IN_STUCK_STUCK_TO i) * 491520)).put (R.IN_STAT_STUCK i) 1).maskInput i).event (.inputStuck i)).report
        (mkReport 0x0D (latchClass i) 0x0012 i)) := by
  unfold State.inputStuck
  rw [ha]
  exact if_neg (by simp [hn, hs])

/-- STUCK masks the input: a PA group is off, and any other input reads as inactive. -/
theorem State.inputStuck_spec (hi : i < 33) {a : Nat} (ha : (s.input i).activeAt = some a) (hn : s.get (R.IN_STUCK_STUCK_TO i) ≠ 0)
    (hs : s.flag (R.IN_STAT_STUCK i) = false) :
    (s.inputStuck i).now = max s.now (a + s.get (R.IN_STUCK_STUCK_TO i) * 491520) ∧ (s.inputStuck i).mem = s.mem ∧
      (s.inputStuck i).flag (R.IN_STAT_STUCK i) = true ∧
      (i < 16 → (s.inputStuck i).flag (R.IN_STAT_FAULT i) = true ∧ (s.inputStuck i).hold.paLine.testBit i = true) ∧
      (16 ≤ i → (s.inputStuck i).hold = s.hold ∧ (s.inputStuck i).flag (R.IN_STAT_LEVEL i) = false) := by
  rw [State.inputStuck_eq ha hn hs]
  set v := s.advanceTo (a + s.get (R.IN_STUCK_STUCK_TO i) * 491520)
  have hu : (v.put (R.IN_STAT_STUCK i) 1).flag (R.IN_STAT_STUCK i) = true := State.flag_put v true
  have hm : (v.put (R.IN_STAT_STUCK i) 1).masked i = true := by rw [State.masked, hu, Bool.or_true]
  have k1 : (v.put (R.IN_STAT_STUCK i) 1).now = v.now := State.put_now ..
  have k2 : (v.put (R.IN_STAT_STUCK i) 1).mem = v.mem := State.put_mem ..
  have k3 : (v.put (R.IN_STAT_STUCK i) 1).hold = v.hold := State.put_hold ..
  generalize v.put (R.IN_STAT_STUCK i) 1 = u at *
  have hal : (u.maskInput i).Alarmed (((u.maskInput i).event (.inputStuck i)).report (mkReport 0x0D (latchClass i) 0x0012 i)) :=
    .report (.event (.refl _))
  have ho := State.InputOp.alarmed hal (.maskInput (.refl u))
  obtain ⟨h1, h2⟩ := State.maskInput_spec (s := u) hi
  refine ⟨ho.now.trans k1, ho.mem.trans k2, (ho.stuck hi).trans hu, fun h => ?_, fun h => ⟨(ho.hold h).trans k3, ?_⟩⟩
  · obtain ⟨hf, hl⟩ := h1 h
    exact ⟨(hal.writes.flag fun _ hf => hf.apart_of_input hi (R.IN_STAT_input i)).trans hf, by rw [hal.keeps State.hold]; exact hl⟩
  · exact (hal.writes.flag fun _ hf => hf.apart_of_input hi (R.IN_STAT_input i)).trans (h2 h hm)

/-! ### REARM (R383) -/

/-- An input after REARM, before its line follows: no latch is left and the pin's level is the qualified one. -/
def State.rearmed (s : State) (i : Nat) (pin : Bool) : State :=
  ((((((s.modInput i fun x => { x with pin := pin }).put (R.IN_STAT_CHATTER i) 0).put (R.IN_STAT_STUCK i) 0).modInput i fun x =>
    { x with qual := x.pin, winEnd := none, winEdges := 0, activeAt := none }).trackActive i).showInput i)

/-- The line of a PA group after REARM. -/
def State.rearmLine (s : State) (i : Nat) : State :=
  let s := s.followLine i
  doIf (s.flag (R.IN_CFG_LATCH i) && !s.flag (R.IN_STAT_FAULT i) && !s.isActive i (s.input i).qual) (fun s => (s.paLine i false).settle) s

theorem State.rearm_eq (pin : Bool) : (s.modInput i fun x => { x with pin := pin }).rearm i =
    if i < 16 then (s.rearmed i pin).rearmLine i else s.rearmed i pin := rfl

theorem State.settle_hold (s : State) : s.settle.hold = s.hold := (State.Driven.settle (.refl s)).keeps State.hold

/-- The line follows the input; a latched group without a fault is released as well. -/
theorem State.rearmLine_hold (hi : i < 33) (hm : s.masked i = false) :
    (s.rearmLine i).hold = (if s.flag (R.IN_CFG_LATCH i) && (s.flag (R.IN_STAT_FAULT i) || s.isActive i (s.input i).qual) then s.hold
      else (s.paLine i (s.isActive i (s.input i).qual)).hold) := by
  have hk := State.followLine_kept s i
  unfold State.rearmLine
  extract_lets u
  have ha : u.isActive i (u.input i).qual = s.isActive i (s.input i).qual := by
    rw [hk.input i, State.isActive_congr (State.reg_eq_of_get (hk.get i ⟨R.IN_CFG i, 0, 32⟩ hi (R.IN_CFG_input i)))]
  have hl : u.flag (R.IN_CFG_LATCH i) = s.flag (R.IN_CFG_LATCH i) := State.flag_congr (hk.get i _ hi (R.IN_CFG_input i))
  have hf : u.flag (R.IN_STAT_FAULT i) = s.flag (R.IN_STAT_FAULT i) := State.flag_congr (hk.get i _ hi (R.IN_STAT_input i))
  rw [ha, hl, hf]
  have hu : u.hold = if s.flag (R.IN_CFG_LATCH i) then s.hold else (s.paLine i (s.isActive i (s.input i).qual)).hold := by
    unfold u State.followLine
    rw [hm]
    cases s.flag (R.IN_CFG_LATCH i)
    · exact State.settle_hold _
    · exact Eq.refl _
  clear_value u
  generalize s.isActive i (s.input i).qual = act at *
  generalize s.flag (R.IN_STAT_FAULT i) = fault at *
  generalize s.flag (R.IN_CFG_LATCH i) = latch at *
  by_cases h : latch && (fault || act)
  · obtain ⟨rfl, hfa⟩ : latch = true ∧ (fault || act) = true := by simpa using h
    rw [if_pos h, show (true && !fault && !act) = false by revert hfa; cases fault <;> cases act <;> decide, doIf_false, hu, if_pos rfl]
  · rw [if_neg h]
    cases latch with
    | false => rw [Bool.false_and, Bool.false_and, doIf_false, hu, if_neg (by decide)]
    | true =>
      obtain ⟨rfl, rfl⟩ : fault = false ∧ act = false := by simpa using h
      rw [show (true && !false && !false) = true from rfl, doIf_true, State.settle_hold, State.paLine, hu]
      rfl

theorem State.rearmLine_kept (s : State) (i : Nat) : s.PaKept (s.rearmLine i) := by
  unfold State.rearmLine
  extract_lets u
  exact (State.followLine_kept s i).trans
    (doIf_keeps u.PaKept _ _ (fun t k => k.trans (.trans (.paLine i _) (.alarmed (.settle (.refl _))))) u (.refl u))

section
variable (s) (pin : Bool) (hi : i < 33) (hl : i < s.pa.inputs.length)

/-- The latches of an input cleared, and its window closed. -/
def State.unlatched (s : State) (i : Nat) (pin : Bool) : State :=
  ((((s.modInput i fun x => { x with pin := pin }).put (R.IN_STAT_CHATTER i) 0).put (R.IN_STAT_STUCK i) 0).modInput i fun x =>
    { x with qual := x.pin, winEnd := none, winEdges := 0, activeAt := none })

theorem State.unlatched_get (g : Field) : (s.unlatched i pin).get g =
    ((((s.modInput i fun x => { x with pin := pin }).put (R.IN_STAT_CHATTER i) 0).put (R.IN_STAT_STUCK i) 0)).get g :=
  State.get_congr (State.modInput_regs ..) g

theorem State.unlatched_pa : (s.unlatched i pin).pa = ((s.modInput i fun x => { x with pin := pin }).modInput i fun x =>
    { x with qual := x.pin, winEnd := none, winEdges := 0, activeAt := none }).pa := by
  unfold State.unlatched State.modInput
  rw [State.put_pa, State.put_pa]

theorem State.unlatched_keeps : (s.unlatched i pin).mem = s.mem ∧ (s.unlatched i pin).now = s.now ∧ (s.unlatched i pin).hold = s.hold := by
  unfold State.unlatched
  have h1 : (s.modInput i fun x => { x with pin := pin }).hold = s.hold := rfl
  refine ⟨?_, ?_, ?_⟩
  · rw [State.modInput_mem, State.put_mem, State.put_mem, State.modInput_mem]
  · rw [State.modInput_now, State.put_now, State.put_now, State.modInput_now]
  · refine Eq.trans (b := (((s.modInput i fun x => { x with pin := pin }).put (R.IN_STAT_CHATTER i) 0).put (R.IN_STAT_STUCK i) 0).hold) rfl ?_
    rw [State.put_hold, State.put_hold, h1]

theorem State.unlatched_reg {a : Nat} (ha : a ≠ R.IN_STAT i) : (s.unlatched i pin).reg a = s.reg a := by
  refine (State.reg_congr (State.modInput_regs ..) a).trans ?_
  rw [State.reg_put_other _ (R.IN_STAT_STUCK i) a _ ha, State.reg_put_other _ (R.IN_STAT_CHATTER i) a _ ha]
  exact State.reg_congr (State.modInput_regs ..) a

include hl in
theorem State.unlatched_input : (s.unlatched i pin).input i =
    { pin := pin, qual := pin, winEnd := none, winEdges := 0, activeAt := none } := by
  rw [State.input_congr (congrArg PaX.inputs (State.unlatched_pa s pin)), State.modInput_input, State.modInput_input s _ hl]
  exact (length_updAt ..).symm ▸ hl

include hi hl in
/-- An input after REARM, before its line follows. -/
theorem State.rearmed_spec : (s.rearmed i pin).mem = s.mem ∧ (s.rearmed i pin).now = s.now ∧ (s.rearmed i pin).hold = s.hold ∧
    (s.rearmed i pin).flag (R.IN_STAT_CHATTER i) = false ∧ (s.rearmed i pin).flag (R.IN_STAT_STUCK i) = false ∧
    ((s.rearmed i pin).input i).qual = pin ∧ ((s.rearmed i pin).input i).winEnd = none ∧
    (s.rearmed i pin).flag (R.IN_STAT_LEVEL i) = s.isActive i pin ∧
    (s.rearmed i pin).flag (R.IN_STAT_FAULT i) = s.flag (R.IN_STAT_FAULT i) ∧
    (s.rearmed i pin).reg (R.IN_CFG i) = s.reg (R.IN_CFG i) := by
  obtain ⟨k1, k2, k3⟩ := State.unlatched_keeps s pin (i := i)
  have hin := State.unlatched_input s pin hl
  have hcfg := State.unlatched_reg s pin (i := i) (a := R.IN_CFG i) (by simp only [R.IN_CFG, R.IN_STAT]; omega)
  have hf : (s.unlatched i pin).flag (R.IN_STAT_FAULT i) = s.flag (R.IN_STAT_FAULT i) := by
    refine State.flag_congr ?_
    rw [State.unlatched_get, State.get_put_apart _ _ .above, State.get_put_apart _ _ .above]
    exact State.get_congr (State.modInput_regs ..) _
  have hc : (s.unlatched i pin).flag (R.IN_STAT_CHATTER i) = false := by
    rw [State.flag_congr (State.unlatched_get s pin _), State.flag_put_apart _ _ .below]
    exact State.flag_put _ false
  have hs : (s.unlatched i pin).flag (R.IN_STAT_STUCK i) = false := by
    rw [State.flag_congr (State.unlatched_get s pin _)]
    exact State.flag_put _ false
  have hd : s.rearmed i pin = ((s.unlatched i pin).trackActive i).showInput i := rfl
  have hp : i < (s.unlatched i pin).pa.inputs.length := by
    rw [State.unlatched_pa]
    exact ((length_updAt ..).trans (length_updAt ..)).symm ▸ hl
  rw [hd]
  generalize s.unlatched i pin = u at *
  have ht : (u.trackActive i).regs = u.regs := State.modInput_regs ..
  obtain ⟨a, hq⟩ := u.trackActive_input hp
  have ho : u.InputOp i ((u.trackActive i).showInput i) := .showInput (.trackActive (.refl u))
  have hg : ∀ g : Field, g.addr = R.IN_STAT i → (R.IN_STAT_LEVEL i).Apart g →
      ((u.trackActive i).showInput i).flag g = u.flag g := fun g hg ha =>
    State.flag_congr ((State.showInput_get hi hg ha).trans (State.get_congr ht g))
  have hact : (u.trackActive i).isActive i pin = s.isActive i pin := State.isActive_congr ((State.reg_congr ht _).trans hcfg) pin
  refine ⟨ho.mem.trans k1, ho.now.trans k2, ?_, (hg _ rfl .above).trans hc, (hg _ rfl .above).trans hs, ?_, ?_, ?_, (hg _ rfl .above).trans hf,
    (ho.cfg hi).trans hcfg⟩
  · rw [State.showInput_hold]
    exact k3
  · rw [ho.qual, hin]
  · rw [State.input_congr (congrArg PaX.inputs (State.showInput_inputs ..)), hq, hin]
  · rw [State.showInput_level hi, hq, hin, hact, State.masked, State.flag_congr (State.get_congr ht _), hc,
      State.flag_congr (State.get_congr ht _), hs]
    simp

end

/-! ### FAULT_CLEAR (R384) -/

/-- FAULT cleared, and the line released unless the input is masked. -/
theorem State.faultClear_spec (hi : i < 16) (ha : s.isActive i (s.input i).qual = false) : (s.faultClear i).state.mem = s.mem ∧
    (s.faultClear i).state.now = s.now ∧ (s.faultClear i).state.flag (R.IN_STAT_FAULT i) = false ∧
    (s.masked i = false → (s.faultClear i).state.hold.paLine.testBit i = false) ∧
    (s.masked i = true → (s.faultClear i).state.hold = s.hold) := by
  have he : (s.faultClear i).state = doIf (!(s.put (R.IN_STAT_FAULT i) 0).masked i) (fun s => (s.paLine i false).settle) (s.put (R.IN_STAT_FAULT i) 0) := by
    unfold State.faultClear
    rw [if_neg (by omega), if_neg (by simp [ha])]
    rfl
  have hm : (s.put (R.IN_STAT_FAULT i) 0).masked i = s.masked i := by
    unfold State.masked
    rw [State.flag_put_apart _ _ .below, State.flag_put_apart _ _ .below]
  have hf : (s.put (R.IN_STAT_FAULT i) 0).flag (R.IN_STAT_FAULT i) = false := State.flag_put s false
  have k1 : (s.put (R.IN_STAT_FAULT i) 0).mem = s.mem := State.put_mem ..
  have k2 : (s.put (R.IN_STAT_FAULT i) 0).now = s.now := State.put_now ..
  have k3 : (s.put (R.IN_STAT_FAULT i) 0).hold = s.hold := State.put_hold ..
  rw [he, hm]
  generalize s.put (R.IN_STAT_FAULT i) 0 = u at *
  cases s.masked i with
  | true => exact ⟨k1, k2, hf, fun h => by simp at h, fun _ => k3⟩
  | false =>
    have hk : u.PaKept (u.paLine i false).settle := .trans (.paLine i false) (.alarmed (.settle (.refl _)))
    refine ⟨hk.mem.trans k1, hk.now.trans k2, (State.flag_congr (hk.get i _ (by omega) (R.IN_STAT_input i))).trans hf, fun _ => ?_, fun h => by simp at h⟩
    rw [Bool.not_false, doIf_true, State.settle_hold, State.paLine_testBit, if_pos rfl]

theorem State.faultClear_refused (hi : i < 16) (ha : s.isActive i (s.input i).qual = true) :
    (s.faultClear i).state = s.raise R.SEQ_STATUS_WR_REFUSED := by
  unfold State.faultClear
  rw [if_neg (by omega), if_pos ha]
  rfl

theorem State.faultClear_none (hi : 16 ≤ i) : (s.faultClear i).state = s := by
  unfold State.faultClear
  rw [if_pos hi]
  rfl

end
end Sys2Proof.Machine

open Sys2Proof Sys2Proof.Machine

/-- Settles O48: each event by what it does to the input's registers, to its line and to the group's transmit paths. -/
theorem faultInputs : Obligations.FaultInputs := by
  unfold Obligations.FaultInputs
  intro i s hi hn hch
  have hl : i < s.pa.inputs.length := hn.symm ▸ hi
  refine ⟨fun level h => ?_, fun level h => ?_, fun h => ?_, fun w h => ?_, fun h => ?_, fun a ha hs hf => ?_, fun pin => ?_, fun h => ?_,
    fun h => ⟨fun ha => ?_, fun ha => ?_⟩⟩
  · exact congrArg Host.Outcome.next (State.inputEdge_none level hl h)
  · obtain ⟨u, hu, k1, k2, k3, k4, k5, k6, k7, k8, k9, k10, k11, k12, k13⟩ := State.inputEdge_spec level hi hl hch h
    have ho : u.InputOp i (u.chatter i) := .chatter (.refl u)
    refine ⟨_, congrArg Host.Outcome.next hu, ho.mem.trans k1, ho.now.trans k2, ho.qual.trans k3, ho.pin.trans k4, (ho.edges hi).trans k7,
      fun k hk => (ho.others k hk).trans (k10 k hk), fun h16 hact => ?_, fun h16 => (ho.hold h16).trans (k12 h16), fun h0 => ?_,
      fun w h0 hw hlt he => ?_⟩
    · obtain ⟨g1, g2, g3⟩ := (k13 h16 hact).chatter hi
      refine ⟨g1, g2, fun ch hc hg => ?_⟩
      obtain ⟨⟨-, e1, e2⟩, e3⟩ := g3 ch hc hg
      exact ⟨e1, e2, State.flag_eq_false.2 e3⟩
    · rw [State.chatter_off (k8.trans h0)]
      exact k9
    · exact State.chatter_latched hi (k11.symm ▸ hl) (by rw [k8]; exact h0) (k5.trans hw) (by rw [k2]; exact hlt) (by rw [k8, k6]; exact he)
  · exact congrArg Host.Outcome.next (State.chatterEnd_none h)
  · refine ⟨_, congrArg Host.Outcome.next (State.chatterEnd_some h), Eq.refl _, Eq.refl _, State.modInput_input (s.advanceTo w) _ hl, fun k hk => ?_⟩
    exact getD_updAt_other _ _ _ hk
  · exact congrArg Host.Outcome.next (State.inputStuck_none h)
  · exact ⟨_, Eq.refl _, State.inputStuck_spec hi ha hs hf⟩
  · obtain ⟨k1, k2, k3, k4, k5, k6, k7, k8, k9, k10⟩ := State.rearmed_spec s pin hi hl
    have hl' : (s.rearmed i pin).flag (R.IN_CFG_LATCH i) = s.flag (R.IN_CFG_LATCH i) := State.flag_congr (congrArg (Field.of _) k10)
    have hm : (s.rearmed i pin).masked i = false := by rw [State.masked, k4, k5]; rfl
    have ha : (s.rearmed i pin).isActive i ((s.rearmed i pin).input i).qual = s.isActive i pin := by
      rw [k6]
      exact State.isActive_congr k10 pin
    refine ⟨_, congrArg Host.Outcome.next (State.rearm_eq pin), ?_⟩
    generalize s.rearmed i pin = u at *
    by_cases h16 : i < 16
    · rw [if_pos h16]
      have hk := u.rearmLine_kept i
      have hh := State.rearmLine_hold hi hm
      rw [ha, hl', k9, k3] at hh
      have hst : ∀ g : Field, g.addr = R.IN_STAT i → (u.rearmLine i).flag g = u.flag g := fun g hg =>
        State.flag_congr (hk.get i g hi (by rw [hg]; exact R.IN_STAT_input i))
      refine ⟨hk.mem.trans k1, hk.now.trans k2, (hst _ rfl).trans k4, (hst _ rfl).trans k5, by rw [hk.input]; exact k6,
        by rw [hk.input]; exact k7, (hst _ rfl).trans k8, (hst _ rfl).trans k9, fun _ h1 h2 => ?_, fun _ h1 h2 h3 => ?_, fun h1 => ?_⟩
      · rw [hh, h1, h2, if_neg (by simp), State.paLine_testBit, if_pos rfl]
      · rw [hh, h1, h2, h3, if_neg (by simp), State.paLine_testBit, if_pos rfl]
      · rw [hh]
        rcases h1 with h1 | ⟨h1, h2⟩
        · omega
        · rw [if_pos]
          rcases h2 with h2 | h2 <;> simp [h1, h2]
    · rw [if_neg h16]
      exact ⟨k1, k2, k4, k5, k6, k7, k8, k9, fun h => absurd h h16, fun h => absurd h h16, fun _ => k3⟩
  · exact congrArg Host.Outcome.next (State.faultClear_none h)
  · exact congrArg Host.Outcome.next (State.faultClear_refused h ha)
  · exact ⟨_, Eq.refl _, State.faultClear_spec h ha⟩
end

section
/-! Addresses and time in the tree of the cascade (R272, R299, R305, R306, R317, R320). -/

namespace Sys2Proof.Machine

/-! ### Device addresses -/

section
variable (s : State) (uid da : Nat)

theorem State.daReceive_none (h : s.worker = false ∨ uid ≠ Config.uid % 2 ^ 64 ∨ s.upPort ≠ none) : s.daReceive uid da = s := by
  unfold State.daReceive
  rw [if_pos]
  rcases h with h | h | h
  · simp [h]
  · simp [show uid ≠ Config.uid % 18446744073709551616 from h]
  · simp [Option.isSome_iff_ne_none.2 h]

/-- The address of a DA_ASSIGN taken, before the capability records show it. -/
def State.daTaken (s : State) (da : Nat) : State := (s.put R.CASC_STATUS_DA da).put R.CASC_STATUS_DA_VALID 1

theorem State.daReceive_eq (h1 : s.worker = true) (h2 : uid = Config.uid % 2 ^ 64) (h3 : s.upPort = none) :
    s.daReceive uid da = forAll (List.range 4) (fun p s => s.showCap p) (s.daTaken da) := by
  unfold State.daReceive
  rw [if_neg (by simp [h1, h2, h3])]
  rfl

/-- Registers and outputs changed, and of the registers only capability records. -/
structure State.CapShown (s t : State) : Prop where
  shape : ∃ regs out, t = { s with regs := regs, out := out }
  reg : ∀ a, (∀ p i, p < 4 → i < 8 → a ≠ R.HG_CAP_LOCAL p i) → t.reg a = s.reg a

theorem State.CapShown.showCap {s t : State} (h : s.CapShown t) {p : Nat} (hp : p < 4) : s.CapShown (t.showCap p) := by
  unfold State.showCap
  extract_lets r
  have hk := forAll_keeps s.CapShown (List.range 8)
    (fun i s => s.setReg (R.HG_CAP_LOCAL p i) (BitVec.ofNat 32 (r / 2 ^ (32 * i)))) (fun i hi u hu => by
      obtain ⟨⟨g, o, rfl⟩, hr⟩ := hu
      exact ⟨⟨_, _, rfl⟩, fun a ha => (State.reg_setReg_other _ _ a _ (ha p i hp (List.mem_range.1 hi))).trans (hr a ha)⟩) t h
  obtain ⟨⟨g, o, he⟩, hr⟩ := hk
  rw [he] at hr ⊢
  exact ⟨⟨_, _, rfl⟩, hr⟩

/-- A worker with an address shows it; nothing else of its registers changes but the capability records. -/
theorem State.daTaken_spec : (∃ regs, s.daTaken da = { s with regs := regs }) ∧ (s.daTaken da).ownDa = da % 64 ∧
    (s.daTaken da).flag R.CASC_STATUS_DA_VALID = true ∧ (s.daTaken da).worker = s.worker ∧
    ∀ a, a ≠ R.CASC_STATUS → (s.daTaken da).reg a = s.reg a := by
  unfold State.daTaken
  refine ⟨⟨_, Eq.refl _⟩, ?_, State.flag_put _ true, ?_, fun a ha => ?_⟩
  · unfold State.ownDa
    rw [State.get_put_apart _ _ .below, State.get_put]
    rfl
  · unfold State.worker
    rw [State.flag_put_apart _ _ .above, State.flag_put_apart _ _ .above]
  · rw [State.reg_put_other _ _ _ _ ha]
    exact State.reg_put_other s R.CASC_STATUS_DA a _ ha

theorem R.HG_CAP_LOCAL_ne {p i : Nat} (_ : p < 4) (_ : i < 8) : R.CASC_STATUS ≠ R.HG_CAP_LOCAL p i := by
  simp only [R.CASC_STATUS, R.HG_CAP_LOCAL]; omega

theorem State.daReceive_spec (h1 : s.worker = true) (h2 : uid = Config.uid % 2 ^ 64) (h3 : s.upPort = none) :
    s.daReceive uid da = { s with regs := (s.daReceive uid da).regs, out := (s.daReceive uid da).out } ∧
    (s.daReceive uid da).ownDa = da % 64 ∧ (s.daReceive uid da).flag R.CASC_STATUS_DA_VALID = true ∧ (s.daReceive uid da).worker = true ∧
    ∀ a, a ≠ R.CASC_STATUS → (∀ p i, p < 4 → i < 8 → a ≠ R.HG_CAP_LOCAL p i) → (s.daReceive uid da).reg a = s.reg a := by
  obtain ⟨⟨g, hg⟩, k2, k3, k4, k5⟩ := State.daTaken_spec s da
  rw [State.daReceive_eq s uid da h1 h2 h3]
  obtain ⟨hs, hr⟩ := forAll_keeps (s.daTaken da).CapShown (List.range 4) (fun p s => s.showCap p)
    (fun p hp t ht => ht.showCap (List.mem_range.1 hp)) (s.daTaken da) ⟨⟨_, _, rfl⟩, fun _ _ => rfl⟩
  generalize forAll (List.range 4) (fun p s => s.showCap p) (s.daTaken da) = t at *
  generalize s.daTaken da = u at *
  have hc : t.reg R.CASC_STATUS = u.reg R.CASC_STATUS := hr _ fun p i hp hi => R.HG_CAP_LOCAL_ne hp hi
  have hf : ∀ f : Field, f.addr = R.CASC_STATUS → t.get f = u.get f := fun f hf => congrArg f.of (by rw [hf]; exact hc)
  refine ⟨?_, (hf _ rfl).trans k2, (State.flag_congr (hf _ rfl)).trans k3, (State.flag_congr (hf _ rfl)).trans (k4.trans h1),
    fun a h1 h2 => (hr a h2).trans (k5 a h1)⟩
  obtain ⟨r, o, rfl⟩ := hs
  rw [hg]

end

/-! ### Device time -/

section
variable {s t : State}

theorem State.timeAt_congr (h : t.tm = s.tm) (c : Nat) : t.timeAt c = s.timeAt c := by
  unfold State.timeAt
  rw [h]

/-- Time that was set now is what it was set to. -/
theorem State.time_of_base (hb : t.tm.baseAt = t.now) (hs : t.tm.slew = none ∨ ∃ d, t.tm.slew = some { start := t.now, total := d }) :
    t.time = t.tm.base := by
  unfold State.time State.timeAt
  rw [hb, Int.sub_self, Int.add_zero]
  rcases hs with hs | ⟨d, hs⟩
  · rw [hs]
    simp
  · rw [hs]
    simp [Slew.part]

end

/-! ### The grade of time (R320) -/

/-- The grade of a worker's time. -/
def State.workerGrade (s : State) : Nat :=
  if s.flag R.CASC_STATUS_TIME_LOCK && s.tm.parentGood then 2 else if s.get R.TU_STATUS_VALID = 0 && !s.flag R.CASC_STATUS_TIME_LOCK then 0 else 1

/-- VALID takes the grade of a worker, and carriers are held no more once it is 2. -/
theorem State.grade_worker (s : State) (h : s.worker = true) : ∃ c, s.grade = (s.put R.TU_STATUS_VALID s.workerGrade).modTm fun x => { x with carriersHeld := c } := by
  unfold State.grade
  extract_lets st v u
  have hv : v = s.workerGrade := by
    unfold v
    rw [if_pos h]
    rfl
  unfold u
  rw [hv]
  generalize s.put R.TU_STATUS_VALID s.workerGrade = w
  cases (s.workerGrade == 2)
  · exact ⟨w.tm.carriersHeld, rfl⟩
  · exact ⟨false, rfl⟩

/-- From `s0` on only registers, the cascade's record and the time unit changed. -/
def State.OnTime (s0 s : State) : Prop := ∃ regs casc tm, s = { s0 with regs := regs, casc := casc, tm := tm }

namespace State.OnTime

section
variable {s0 s : State}

theorem refl (s : State) : s.OnTime s := ⟨_, _, _, rfl⟩

theorem put {f : Field} {v : Nat} (h : s0.OnTime s) : s0.OnTime (s.put f v) := by
  obtain ⟨r, c, m, rfl⟩ := h
  exact ⟨_, _, _, rfl⟩

theorem modTm {f : TimeX → TimeX} (h : s0.OnTime s) : s0.OnTime (s.modTm f) := by
  obtain ⟨r, c, m, rfl⟩ := h
  exact ⟨_, _, _, rfl⟩

theorem modCasc {f : CascX → CascX} (h : s0.OnTime s) : s0.OnTime (s.modCasc f) := by
  obtain ⟨r, c, m, rfl⟩ := h
  exact ⟨_, _, _, rfl⟩

theorem eq_with (h : s0.OnTime s) : s = { s0 with regs := s.regs, casc := s.casc, tm := s.tm } := by
  obtain ⟨r, c, m, rfl⟩ := h
  rfl

end
end State.OnTime

section
variable (s : State)

/-- Time locked and graded. -/
def State.timeLocked (s : State) : State := (s.put R.CASC_STATUS_TIME_LOCK 1).grade

theorem State.worker_put {f : Field} (v : Nat) (h : f.Apart R.CASC_STATUS_ROLE) (w : f.fits = true := by rfl) : (s.put f v).worker = s.worker :=
  State.flag_put_apart s v h w

theorem State.timeLocked_spec (h : s.worker = true) : s.OnTime s.timeLocked ∧ (∃ c, s.timeLocked.tm = { s.tm with carriersHeld := c }) ∧
    s.timeLocked.casc = s.casc ∧ s.timeLocked.flag R.CASC_STATUS_TIME_LOCK = true ∧
    s.timeLocked.get R.TU_STATUS_VALID = (if s.tm.parentGood then 2 else 1) ∧
    ∀ a, a ≠ R.CASC_STATUS → a ≠ R.TU_STATUS → s.timeLocked.reg a = s.reg a := by
  have hl : (s.put R.CASC_STATUS_TIME_LOCK 1).flag R.CASC_STATUS_TIME_LOCK = true := State.flag_put s true
  have hr : ∀ a, a ≠ R.CASC_STATUS → (s.put R.CASC_STATUS_TIME_LOCK 1).reg a = s.reg a := fun a => State.reg_put_other s R.CASC_STATUS_TIME_LOCK a 1
  have ht : (s.put R.CASC_STATUS_TIME_LOCK 1).tm = s.tm := State.put_tm ..
  have hc : (s.put R.CASC_STATUS_TIME_LOCK 1).casc = s.casc := State.put_casc ..
  have ho : s.OnTime (s.put R.CASC_STATUS_TIME_LOCK 1) := .put (.refl s)
  unfold State.timeLocked
  obtain ⟨c, hg⟩ := State.grade_worker (s.put R.CASC_STATUS_TIME_LOCK 1) ((s.worker_put 1 .below).trans h)
  rw [hg]
  generalize s.put R.CASC_STATUS_TIME_LOCK 1 = u at *
  have hw : u.workerGrade = if s.tm.parentGood then 2 else 1 := by
    unfold State.workerGrade
    rw [hl, ht]
    cases s.tm.parentGood <;> simp
  have k1 : (u.put R.TU_STATUS_VALID u.workerGrade).tm = s.tm := (State.put_tm ..).trans ht
  have k2 : (u.put R.TU_STATUS_VALID u.workerGrade).casc = s.casc := (State.put_casc ..).trans hc
  have k3 : (u.put R.TU_STATUS_VALID u.workerGrade).flag R.CASC_STATUS_TIME_LOCK = true :=
    (State.flag_put_apart u _ (.inl (by decide))).trans hl
  have k4 : (u.put R.TU_STATUS_VALID u.workerGrade).get R.TU_STATUS_VALID = if s.tm.parentGood then 2 else 1 := by
    rw [State.get_put, hw]
    cases s.tm.parentGood <;> rfl
  have k5 : ∀ a, a ≠ R.CASC_STATUS → a ≠ R.TU_STATUS → (u.put R.TU_STATUS_VALID u.workerGrade).reg a = s.reg a := fun a h1 h2 =>
    (State.reg_put_other u R.TU_STATUS_VALID a _ h2).trans (hr a h1)
  have k6 : s.OnTime (u.put R.TU_STATUS_VALID u.workerGrade) := .put ho
  generalize u.put R.TU_STATUS_VALID u.workerGrade = w at *
  exact ⟨.modTm k6, ⟨c, by rw [← k1]; rfl⟩, k2, k3, k4, k5⟩

/-! ### TIME frames -/

/-- A TIME frame noted: its difference is shown, the count of missing frames starts anew. -/
def State.frameTaken (s : State) (d : Int) (good : Bool) : State :=
  ((s.put R.TIME_DELTA_DELTA (ofInt 32 (satS 32 d))).modCasc fun x => { x with timeLostN := 0 }).modTm fun x => { x with parentGood := good }

theorem State.frameTaken_spec (d : Int) (good : Bool) : s.OnTime (s.frameTaken d good) ∧
    (s.frameTaken d good).tm = { s.tm with parentGood := good } ∧ (s.frameTaken d good).casc.timeLostN = 0 ∧
    (s.frameTaken d good).get R.TIME_DELTA_DELTA = ofInt 32 (satS 32 d) ∧ ∀ a, a ≠ R.TIME_DELTA → (s.frameTaken d good).reg a = s.reg a := by
  have hg : (s.put R.TIME_DELTA_DELTA (ofInt 32 (satS 32 d))).get R.TIME_DELTA_DELTA = ofInt 32 (satS 32 d) :=
    (State.get_put s _).trans (Nat.mod_eq_of_lt (ofInt_lt 32 _))
  have hr : ∀ a, a ≠ R.TIME_DELTA → (s.put R.TIME_DELTA_DELTA (ofInt 32 (satS 32 d))).reg a = s.reg a :=
    fun a => State.reg_put_other s R.TIME_DELTA_DELTA a _
  have ht : (s.put R.TIME_DELTA_DELTA (ofInt 32 (satS 32 d))).tm = s.tm := State.put_tm ..
  have ho : s.OnTime (s.put R.TIME_DELTA_DELTA (ofInt 32 (satS 32 d))) := .put (.refl s)
  unfold State.frameTaken
  generalize s.put R.TIME_DELTA_DELTA (ofInt 32 (satS 32 d)) = u at *
  have hu : ((u.modCasc fun x => { x with timeLostN := 0 }).modTm fun x => { x with parentGood := good }).regs = u.regs := rfl
  refine ⟨.modTm (.modCasc ho), ?_, rfl, (State.get_congr hu _).trans hg, fun a ha => (State.reg_congr hu a).trans (hr a ha)⟩
  unfold State.modTm State.modCasc
  rw [ht]

theorem State.timeFrame_manager (value : Nat) (good : Bool) (h : s.worker = false) : s.timeFrame value good = s := by
  unfold State.timeFrame
  rw [if_pos (by simp [h])]

/-- The difference of a TIME frame from the device's own time. -/
def State.timeDiff (s : State) (value : Nat) : Int := (value : Int) + 8000000 - s.time

theorem State.timeFrame_worker (value : Nat) (good : Bool) (h : s.worker = true) : s.timeFrame value good =
    let u := s.frameTaken (s.timeDiff value) good
    if (s.timeDiff value).natAbs ≤ 16 * 65536 then (u.slewBy (s.timeDiff value)).timeLocked
    else if !u.carriersActive then (u.setTime (u.time + s.timeDiff value) u.now).timeLocked
    else u.timeFault (s.timeDiff value) := by
  unfold State.timeFrame
  rw [if_neg (by simp [h])]
  rfl

/-- A worker whose time was set now, and locked. -/
theorem State.timeLocked_set {t u : State} (d : Int) (good : Bool) (hw : s.worker = true) (ht : t = s.frameTaken d good)
    (h : ∃ tm, u = { t with tm := tm } ∧ tm.baseAt = t.now ∧ tm.parentGood = good ∧
      (tm.slew = none ∨ ∃ e, tm.slew = some { start := t.now, total := e })) :
    u.timeLocked = { s with regs := u.timeLocked.regs, casc := u.timeLocked.casc, tm := u.timeLocked.tm } ∧
    u.timeLocked.time = u.tm.base ∧ u.timeLocked.tm.slew = u.tm.slew ∧ u.timeLocked.casc.timeLostN = 0 ∧
    u.timeLocked.flag R.CASC_STATUS_TIME_LOCK = true ∧ u.timeLocked.get R.TU_STATUS_VALID = (if good then 2 else 1) ∧
    u.timeLocked.get R.TIME_DELTA_DELTA = ofInt 32 (satS 32 d) ∧
    ∀ a, a ≠ R.TIME_DELTA → a ≠ R.CASC_STATUS → a ≠ R.TU_STATUS → u.timeLocked.reg a = s.reg a := by
  obtain ⟨f1, -, f3, f4, f5⟩ := State.frameTaken_spec s d good
  rw [← ht] at f1 f3 f4 f5
  obtain ⟨tm, he, hb, hg, hs⟩ := h
  have hur : u.regs = t.regs := by rw [he]
  have huw : u.worker = true := by
    refine (State.flag_congr ?_).trans hw
    exact congrArg (Field.of _) ((State.reg_congr hur _).trans (f5 _ (by decide)))
  obtain ⟨k1, ⟨c, k2⟩, k3, k4, k5, k6⟩ := State.timeLocked_spec u huw
  have hn : u.timeLocked.now = u.now := by rw [k1.eq_with]
  have hut : u.tm = tm := by rw [he]
  have hun : u.now = t.now := by rw [he]
  refine ⟨?_, ?_, by rw [k2], ?_, k4, ?_, ?_, fun a h1 h2 h3 => (k6 a h2 h3).trans ((State.reg_congr hur a).trans (f5 a h1))⟩
  · refine State.OnTime.eq_with ?_
    obtain ⟨r, x, m, rfl⟩ := f1
    obtain ⟨r', x', m', h'⟩ := k1
    rw [h', he]
    exact ⟨_, _, _, rfl⟩
  · refine (State.time_of_base ?_ ?_).trans (by rw [k2])
    · rw [k2, hn, hut, hun]
      exact hb
    · rw [k2, hn, hut, hun]
      exact hs
  · rw [k3, he]
    exact f3
  · rw [k5, hut, hg]
  · exact (congrArg (Field.of _) (k6 _ (by decide) (by decide))).trans ((State.get_congr hur _).trans f4)

theorem State.frameTaken_time (d : Int) (good : Bool) : (s.frameTaken d good).time = s.time ∧ (s.frameTaken d good).now = s.now := by
  obtain ⟨f1, f2, -⟩ := State.frameTaken_spec s d good
  have hn : (s.frameTaken d good).now = s.now := by rw [f1.eq_with]
  refine ⟨?_, hn⟩
  unfold State.time State.timeAt
  rw [f2, hn]

theorem satS_of_small {d : Int} (h : d.natAbs ≤ 16 * 65536) : satS 32 d = d := by
  unfold satS
  norm_num
  omega

theorem State.carriersActive_congr {s t : State} (h : ∀ d cs, cs < 8 → t.reg (R.CS_CFG (dirIx d) cs) = s.reg (R.CS_CFG (dirIx d) cs)) :
    t.carriersActive = s.carriersActive := by
  have e : ∀ d, t.anyActive d = s.anyActive d := fun d => by
    have hc : ∀ cs ∈ slots, t.active d cs = s.active d cs := fun cs hcs => by
      unfold State.active
      exact State.flag_congr (congrArg (Field.of _) (h d cs (List.mem_range.1 hcs)))
    unfold State.anyActive
    rw [Bool.eq_iff_iff, List.any_eq_true, List.any_eq_true]
    exact exists_congr fun cs => and_congr_right fun hcs => by rw [hc cs hcs]
  unfold State.carriersActive
  rw [e, e]

theorem State.frameTaken_carriersActive (d : Int) (good : Bool) : (s.frameTaken d good).carriersActive = s.carriersActive := by
  obtain ⟨-, -, -, -, f5⟩ := State.frameTaken_spec s d good
  exact State.carriersActive_congr fun d cs hcs => f5 _ (by have := dirIx_lt d; simp only [R.CS_CFG, R.TIME_DELTA]; omega)

/-- A frame within 16 ns slews, and leaves the time now as it is (R306). -/
theorem State.timeFrame_slew (value : Nat) (good : Bool) (hw : s.worker = true) (hd : (s.timeDiff value).natAbs ≤ 16 * 65536) :
    ∃ t : State, s.timeFrame value good = t ∧ t = { s with regs := t.regs, casc := t.casc, tm := t.tm } ∧ t.time = s.time ∧
      t.tm.slew = (if s.timeDiff value = 0 then none else some { start := s.now, total := s.timeDiff value }) ∧ t.casc.timeLostN = 0 ∧
      t.flag R.CASC_STATUS_TIME_LOCK = true ∧ t.get R.TU_STATUS_VALID = (if good then 2 else 1) ∧
      t.get R.TIME_DELTA_DELTA = ofInt 32 (s.timeDiff value) ∧
      ∀ a, a ≠ R.TIME_DELTA → a ≠ R.CASC_STATUS → a ≠ R.TU_STATUS → t.reg a = s.reg a := by
  rw [State.timeFrame_worker s value good hw]
  generalize s.timeDiff value = d at *
  obtain ⟨hft, hfn⟩ := State.frameTaken_time s d good
  obtain ⟨-, f2, -⟩ := State.frameTaken_spec s d good
  have hpg : (s.frameTaken d good).tm.parentGood = good := by rw [f2]
  obtain ⟨k1, k2, k3, k4, k5, k6, k7, k8⟩ := State.timeLocked_set s (u := (s.frameTaken d good).slewBy d) d good hw rfl
    ⟨_, rfl, rfl, hpg, (ite_eq_or_eq ..).imp_right fun h => ⟨d, h⟩⟩
  refine ⟨_, if_pos hd, k1, k2.trans ?_, k3.trans ?_, k4, k5, k6, by rw [k7, satS_of_small hd], k8⟩
  · exact (Int.toNat_natCast _).trans hft
  · exact congrArg (fun n => if d = 0 then none else some (Slew.mk n d)) hfn

/-- A frame beyond 16 ns steps the time while no carrier is active (R306). -/
theorem State.timeFrame_step (value : Nat) (good : Bool) (hw : s.worker = true) (hd : 16 * 65536 < (s.timeDiff value).natAbs)
    (hc : s.carriersActive = false) :
    ∃ t : State, s.timeFrame value good = t ∧ t = { s with regs := t.regs, casc := t.casc, tm := t.tm } ∧ t.time = value + 8000000 ∧
      t.tm.slew = none ∧ t.flag R.CASC_STATUS_TIME_LOCK = true ∧ t.get R.TU_STATUS_VALID = (if good then 2 else 1) ∧
      t.get R.TIME_DELTA_DELTA = ofInt 32 (satS 32 (s.timeDiff value)) ∧
      ∀ a, a ≠ R.TIME_DELTA → a ≠ R.CASC_STATUS → a ≠ R.TU_STATUS → t.reg a = s.reg a := by
  have hv : (s.time : Int) + s.timeDiff value = (value + 8000000 : Nat) := by unfold State.timeDiff; omega
  rw [State.timeFrame_worker s value good hw]
  generalize s.timeDiff value = d at *
  obtain ⟨hft, -⟩ := State.frameTaken_time s d good
  obtain ⟨-, f2, -⟩ := State.frameTaken_spec s d good
  have hpg : (s.frameTaken d good).tm.parentGood = good := by rw [f2]
  obtain ⟨k1, k2, k3, -, k5, k6, k7, k8⟩ := State.timeLocked_set s
    (u := (s.frameTaken d good).setTime ((s.frameTaken d good).time + d) (s.frameTaken d good).now) d good hw rfl ⟨_, rfl, rfl, hpg, .inl rfl⟩
  refine ⟨_, (if_neg (by omega)).trans (if_pos (by simpa [State.frameTaken_carriersActive] using hc)), k1, k2.trans ?_, k3, k5, k6, k7, k8⟩
  exact (congrArg Int.toNat (by rw [hft, hv])).trans (Int.toNat_natCast _)

/-! ### Faults of time -/

/-- A fault of time leaves the time; its grade stays 0, or is 1. -/
theorem State.timeFault_spec (d : Int) (hw : s.worker = true) : (s.timeFault d).time = s.time ∧
    (s.timeFault d).flag R.CASC_STATUS_TIME_LOCK = false ∧ (s.timeFault d).flag R.CASC_STATUS_TIME_FAULT = true ∧ (s.timeFault d).mem = s.mem ∧
    (s.timeFault d).get R.TU_STATUS_VALID = (if s.get R.TU_STATUS_VALID = 0 then 0 else 1) := by
  have hl : ((s.put R.CASC_STATUS_TIME_LOCK 0).put R.CASC_STATUS_TIME_FAULT 1).flag R.CASC_STATUS_TIME_LOCK = false := by
    rw [State.flag_put_apart _ _ .below]
    exact State.flag_put s false
  have hf : ((s.put R.CASC_STATUS_TIME_LOCK 0).put R.CASC_STATUS_TIME_FAULT 1).flag R.CASC_STATUS_TIME_FAULT = true := State.flag_put _ true
  have hv : ((s.put R.CASC_STATUS_TIME_LOCK 0).put R.CASC_STATUS_TIME_FAULT 1).get R.TU_STATUS_VALID = s.get R.TU_STATUS_VALID := by
    rw [State.get_put_apart _ _ (.inl (by decide)), State.get_put_apart _ _ (.inl (by decide))]
  have hr : ((s.put R.CASC_STATUS_TIME_LOCK 0).put R.CASC_STATUS_TIME_FAULT 1).worker = true := by
    rw [State.worker_put _ _ .below, State.worker_put _ _ .below, hw]
  have ho : s.OnTime ((s.put R.CASC_STATUS_TIME_LOCK 0).put R.CASC_STATUS_TIME_FAULT 1) := .put (.put (.refl s))
  have ht : ((s.put R.CASC_STATUS_TIME_LOCK 0).put R.CASC_STATUS_TIME_FAULT 1).tm = s.tm := (State.put_tm ..).trans (State.put_tm ..)
  unfold State.timeFault State.raise
  generalize (s.put R.CASC_STATUS_TIME_LOCK 0).put R.CASC_STATUS_TIME_FAULT 1 = u at *
  obtain ⟨c, hg⟩ := State.grade_worker u hr
  have hwg : u.workerGrade = if s.get R.TU_STATUS_VALID = 0 then 0 else 1 := by
    unfold State.workerGrade
    rw [hl, hv]
    simp
  rw [hg]
  have k1 : (u.put R.TU_STATUS_VALID u.workerGrade).tm = s.tm := (State.put_tm ..).trans ht
  have k2 : (u.put R.TU_STATUS_VALID u.workerGrade).flag R.CASC_STATUS_TIME_LOCK = false :=
    (State.flag_put_apart u _ (.inl (by decide))).trans hl
  have k3 : (u.put R.TU_STATUS_VALID u.workerGrade).flag R.CASC_STATUS_TIME_FAULT = true :=
    (State.flag_put_apart u _ (.inl (by decide))).trans hf
  have k4 : (u.put R.TU_STATUS_VALID u.workerGrade).get R.TU_STATUS_VALID = if s.get R.TU_STATUS_VALID = 0 then 0 else 1 := by
    rw [State.get_put, hwg]
    split <;> rfl
  have k5 : s.OnTime (u.put R.TU_STATUS_VALID u.workerGrade) := .put ho
  generalize u.put R.TU_STATUS_VALID u.workerGrade = w at *
  extract_lets v
  have ha : v.Alarmed ((v.event (.timeFault (satS 32 d))).report (mkReport 0x18 .clsU 0x0011 (ofInt 32 (satS 32 d)))) := .report (.event (.refl v))
  have hvr : v.regs = w.regs := State.modTm_regs ..
  refine ⟨?_, ?_, ?_, ?_, ?_⟩
  · rw [ha.keeps State.time]
    have hn : w.now = s.now := by rw [k5.eq_with]
    unfold State.time State.timeAt
    rw [← k1, ← hn]
    rfl
  · exact (State.flag_congr (ha.get_of_block.trans (State.get_congr hvr _))).trans k2
  · exact (State.flag_congr (ha.get_of_block.trans (State.get_congr hvr _))).trans k3
  · rw [ha.keeps State.mem]
    have : w.mem = s.mem := by rw [k5.eq_with]
    exact this
  · exact (ha.get_of_block.trans (State.get_congr hvr _)).trans k4

/-- A frame beyond 16 ns is a fault of time while a carrier is active (R306). -/
theorem State.timeFrame_fault (value : Nat) (good : Bool) (hw : s.worker = true) (hd : 16 * 65536 < (s.timeDiff value).natAbs)
    (hc : s.carriersActive = true) : (s.timeFrame value good).time = s.time ∧
      (s.timeFrame value good).flag R.CASC_STATUS_TIME_LOCK = false ∧ (s.timeFrame value good).flag R.CASC_STATUS_TIME_FAULT = true ∧
      (s.timeFrame value good).mem = s.mem ∧
      (s.timeFrame value good).get R.TU_STATUS_VALID = (if s.get R.TU_STATUS_VALID = 0 then 0 else 1) := by
  have he : s.timeFrame value good = (s.frameTaken (s.timeDiff value) good).timeFault (s.timeDiff value) :=
    (State.timeFrame_worker s value good hw).trans
      ((if_neg (by omega)).trans (if_neg (by simp [State.frameTaken_carriersActive, hc])))
  obtain ⟨f1, -, -, -, f5⟩ := State.frameTaken_spec s (s.timeDiff value) good
  have hm : (s.frameTaken (s.timeDiff value) good).mem = s.mem := by rw [f1.eq_with]
  have hr : (s.frameTaken (s.timeDiff value) good).worker = true := (State.flag_congr (congrArg (Field.of _) (f5 _ (by decide)))).trans hw
  obtain ⟨k1, k2, k3, k4, k5⟩ := State.timeFault_spec (s.frameTaken (s.timeDiff value) good) (s.timeDiff value) hr
  rw [he]
  refine ⟨k1.trans (State.frameTaken_time s _ good).1, k2, k3, k4.trans hm, ?_⟩
  rw [k5, show (s.frameTaken (s.timeDiff value) good).get R.TU_STATUS_VALID = s.get R.TU_STATUS_VALID from congrArg (Field.of _) (f5 _ (by decide))]

/-! ### Time-outs of a worker -/

theorem State.timeTimeout_none (h : s.worker = false ∨ s.casc.timeLostN < 100 ∨ s.flag R.CASC_STATUS_TIME_LOCK = false) : s.timeTimeout = s := by
  unfold State.timeTimeout
  rw [if_neg]
  rcases h with h | h | h
  · simp [h]
  · simp [show ¬ 100 ≤ s.casc.timeLostN by omega]
  · simp [h]

theorem State.timeTimeout_eq (h1 : s.worker = true) (h2 : 100 ≤ s.casc.timeLostN) (h3 : s.flag R.CASC_STATUS_TIME_LOCK = true) :
    s.timeTimeout = s.timeFault 0 := by
  unfold State.timeTimeout
  rw [if_pos (by simp [h1, h2, h3])]

theorem State.upTimeout_none (h : s.worker = false ∨ s.casc.upLostN < 100 ∨ s.hold.upLost = true) : s.upTimeout = s := by
  unfold State.upTimeout
  rw [if_neg]
  rcases h with h | h | h
  · simp [h]
  · simp [show ¬ 100 ≤ s.casc.upLostN by omega]
  · simp [h]

theorem State.upTimeout_eq (h1 : s.worker = true) (h2 : 100 ≤ s.casc.upLostN) (h3 : s.hold.upLost = false) :
    s.upTimeout = State.settle { s with hold := { s.hold with upLost := true } } := by
  unfold State.upTimeout
  rw [if_pos (by simp [h1, h2, h3])]

/-- Without an UP port every chain's samples are zero (R299). -/
theorem State.upTimeout_spec (h1 : s.worker = true) (h2 : 100 ≤ s.casc.upLostN) (h3 : s.hold.upLost = false) (hl : s.chains.length = 64) :
    s.upTimeout.hold = { s.hold with upLost := true } ∧ s.upTimeout.mem = s.mem ∧ s.upTimeout.now = s.now ∧
      ∀ ch, ch < 64 → (s.upTimeout.chain ch).zero = true := by
  rw [State.upTimeout_eq s h1 h2 h3]
  generalize hu : ({ s with hold := { s.hold with upLost := true } } : State) = u
  have hh : u.hold = { s.hold with upLost := true } := by rw [← hu]
  have hm : u.mem = s.mem := by rw [← hu]
  have hn : u.now = s.now := by rw [← hu]
  have hc : u.chains.length = 64 := by rw [← hu]; exact hl
  have hd : u.Driven u.settle := .settle (.refl u)
  refine ⟨(hd.keeps State.hold).trans hh, (hd.keeps State.mem).trans hm, (hd.keeps State.now).trans hn, fun ch hch => ?_⟩
  refine (State.settle_chain u hch (by rw [hc]; exact hch)).2.2 ?_
  simp [State.dacSource, State.rank4, hh]

end
end Sys2Proof.Machine

open Sys2Proof Sys2Proof.Machine

/-- Settles O40: an address, a TIME frame or a time-out by the case of R272, R306 and R299 it falls in. -/
theorem addressesAndTimeInTheTree : Obligations.AddressesAndTimeInTheTree := by
  unfold Obligations.AddressesAndTimeInTheTree
  refine ⟨fun uid da s => ⟨fun h => ?_, fun h1 h2 h3 => ?_⟩, fun value good s => ⟨fun h => ?_, fun h1 h2 => ?_, fun h1 h2 h3 => ?_, fun h1 h2 h3 => ?_⟩,
    fun s => ⟨fun h => ?_, fun h1 h2 h3 => ?_, fun h => ?_, fun h1 h2 h3 h4 => ?_⟩⟩
  · exact congrArg Host.Outcome.next (State.daReceive_none s uid da h)
  · exact ⟨_, Eq.refl _, State.daReceive_spec s uid da h1 h2 h3⟩
  · exact congrArg Host.Outcome.next (State.timeFrame_manager s value good h)
  · obtain ⟨t, ht, hs⟩ := State.timeFrame_slew s value good h1 h2
    exact ⟨t, congrArg Host.Outcome.next ht, hs⟩
  · obtain ⟨t, ht, hs⟩ := State.timeFrame_step s value good h1 h2 h3
    exact ⟨t, congrArg Host.Outcome.next ht, hs⟩
  · exact ⟨_, Eq.refl _, State.timeFrame_fault s value good h1 h2 h3⟩
  · exact congrArg Host.Outcome.next (State.timeTimeout_none s h)
  · obtain ⟨k1, k2, k3, k4, -⟩ := State.timeFault_spec s 0 h1
    exact ⟨_, congrArg Host.Outcome.next (State.timeTimeout_eq s h1 h2 h3), k2, k3, k4, k1⟩
  · exact congrArg Host.Outcome.next (State.upTimeout_none s h)
  · exact ⟨_, congrArg Host.Outcome.next (State.upTimeout_eq s h1 h2 h3), State.upTimeout_eq s h1 h2 h3 ▸ State.upTimeout_spec s h1 h2 h3 h4⟩
end

section
/-! The servos and SyncE (R323 to R330, R338). -/

namespace Sys2Proof.Machine

/-! ### What an operation of the time unit leaves -/

/-- From `s0` on only time, ticks, registers, the time unit, packets and outputs changed. -/
def State.OnServo (s0 s : State) : Prop :=
  ∃ now bound regs tm fe out, s = { s0 with now := now, bound := bound, regs := regs, tm := tm, fe := fe, out := out }

namespace State.OnServo

section
variable {s0 s t : State}

theorem refl (s : State) : s.OnServo s := ⟨_, _, _, _, _, _, rfl⟩

theorem put {f : Field} {v : Nat} (h : s0.OnServo s) : s0.OnServo (s.put f v) := by
  obtain ⟨n, b, r, m, f, o, rfl⟩ := h
  exact ⟨_, _, _, _, _, _, rfl⟩

theorem modTm {f : TimeX → TimeX} (h : s0.OnServo s) : s0.OnServo (s.modTm f) := by
  obtain ⟨n, b, r, m, f, o, rfl⟩ := h
  exact ⟨_, _, _, _, _, _, rfl⟩

theorem advanceTo {n : Nat} (h : s0.OnServo s) : s0.OnServo (s.advanceTo n) := by
  obtain ⟨n, b, r, m, f, o, rfl⟩ := h
  exact ⟨_, _, _, _, _, _, rfl⟩

theorem sent (h : s0.OnServo s) (k : s.Sent t) : s0.OnServo t := by
  obtain ⟨n, b, r, m, f, o, rfl⟩ := h
  obtain ⟨-, r', f', o', rfl⟩ := k
  exact ⟨_, _, _, _, _, _, rfl⟩

/-- What reads none of these is kept. -/
theorem keeps {β : Sort _} (h : s0.OnServo s) (π : State → β)
    (hπ : ∀ (u : State) now bound regs tm fe out,
      π { u with now := now, bound := bound, regs := regs, tm := tm, fe := fe, out := out } = π u := by intros; rfl) : π s = π s0 := by
  obtain ⟨n, b, r, m, f, o, rfl⟩ := h
  exact hπ ..

theorem eq_with (h : s0.OnServo s) :
    s = { s0 with now := s.now, bound := s.bound, regs := s.regs, tm := s.tm, fe := s.fe, out := s.out } := by
  obtain ⟨n, b, r, m, f, o, rfl⟩ := h
  rfl

end
end State.OnServo

/-! ### Fields of the time unit -/

theorem servoField_addr (x : Nat) : (servoField x).addr = R.TU_STATUS := by unfold servoField; split <;> rfl

theorem servoField_fits (x : Nat) : (servoField x).fits = true := by unfold servoField; split <;> rfl

theorem servoField_width (x : Nat) : (servoField x).width = 3 := by unfold servoField; split <;> rfl

theorem servoField_range (x : Nat) : 4 ≤ (servoField x).lo ∧ (servoField x).lo + (servoField x).width ≤ 11 := by
  unfold servoField; split <;> decide

theorem servoField_apart {x : Nat} (hx : x < 2) : (servoField x).Apart (servoField (1 - x)) := by
  obtain rfl | rfl : x = 0 ∨ x = 1 := by omega
  · exact .above
  · exact .below

/-- Servo states fit their field. -/
theorem State.get_put_servo (s : State) (x : Nat) {v : Nat} (h : v < 8) : (s.put (servoField x) v).get (servoField x) = v := by
  rw [State.get_put s v (servoField_fits x), servoField_width]
  exact Nat.mod_eq_of_lt h

theorem State.Sent.get_of_tu {s t : State} (h : s.Sent t) {g : Field} (hg : g.addr / 2 ^ 20 = 0x116) : t.get g = s.get g :=
  h.alarmed.get_of_block (by rw [hg]; rfl)

section
variable (s : State) {x : Nat}

/-- A counter stops at its end (R11). -/
theorem State.get_countBy (f : Field) (n : Nat) (h : f.fits = true := by rfl) : (s.countBy f n).get f = min (s.get f + n) (2 ^ f.width - 1) := by
  have := Nat.two_pow_pos f.width
  unfold State.countBy
  rw [State.get_put s _ h]
  exact Nat.mod_eq_of_lt (by omega)

theorem State.get_count (f : Field) (h : f.fits = true := by rfl) : (s.count f).get f = min (s.get f + 1) (2 ^ f.width - 1) :=
  State.get_countBy s f 1 h

/-! ### The grade -/

/-- VALID is graded, and carriers may be held no more. -/
theorem State.grade_eq : ∃ v c, s.grade = (s.put R.TU_STATUS_VALID v).modTm fun x => { x with carriersHeld := c } := by
  unfold State.grade
  extract_lets st v u
  refine ⟨v, ?_⟩
  unfold u
  generalize s.put R.TU_STATUS_VALID v = w
  cases (v == 2)
  · exact ⟨w.tm.carriersHeld, rfl⟩
  · exact ⟨false, rfl⟩

theorem State.grade_get {g : Field} (h : R.TU_STATUS_VALID.Apart g) : s.grade.get g = s.get g := by
  obtain ⟨v, c, hg⟩ := s.grade_eq
  rw [hg, State.get_congr (State.modTm_regs ..), State.get_put_apart s v h]

theorem State.grade_get_servo (x : Nat) : s.grade.get (servoField x) = s.get (servoField x) :=
  s.grade_get (.inr (.inr (by have := (servoField_range x).1; simp only [R.TU_STATUS_VALID]; omega)))

theorem State.grade_reg {a : Nat} (h : a ≠ R.TU_STATUS) : s.grade.reg a = s.reg a := by
  obtain ⟨v, c, hg⟩ := s.grade_eq
  rw [hg, State.reg_congr (State.modTm_regs ..)]
  exact State.reg_put_other s R.TU_STATUS_VALID a v h

theorem State.grade_tm : ∃ c, s.grade.tm = { s.tm with carriersHeld := c } := by
  obtain ⟨v, c, hg⟩ := s.grade_eq
  have ht : (s.put R.TU_STATUS_VALID v).tm = s.tm := State.put_tm ..
  rw [hg]
  generalize s.put R.TU_STATUS_VALID v = w at *
  exact ⟨c, by rw [← ht]; rfl⟩

theorem State.OnServo.grade {s0 : State} (h : s0.OnServo s) : s0.OnServo s.grade := by
  obtain ⟨v, c, hg⟩ := s.grade_eq
  rw [hg]
  exact .modTm (.put h)

theorem State.grade_keeps : s.grade.now = s.now ∧ s.grade.bound = s.bound ∧ s.grade.fe = s.fe ∧ s.grade.out = s.out := by
  obtain ⟨v, c, hg⟩ := s.grade_eq
  rw [hg]
  exact ⟨(State.modTm_now ..).trans (State.put_now ..), (Eq.refl (s.put R.TU_STATUS_VALID v).bound).trans (State.put_bound ..),
    (Eq.refl (s.put R.TU_STATUS_VALID v).fe).trans (State.put_fe ..), (State.modTm_out ..).trans (State.put_out ..)⟩

/-! ### Servos -/

theorem State.servo_congr {s t : State} (h : t.tm.servos = s.tm.servos) (x : Nat) : t.servo x = s.servo x := by
  unfold State.servo
  rw [h]

theorem State.modServo_servo (f : Servo → Servo) (h : x < s.tm.servos.length) : (s.modServo x f).servo x = f (s.servo x) := getD_updAt_same f _ h

theorem State.time_of_tm {s t : State} (h1 : t.tm.base = s.tm.base) (h2 : t.tm.baseAt = s.tm.baseAt) (h3 : t.tm.epoch = s.tm.epoch)
    (h4 : t.tm.slew = s.tm.slew) (hn : t.now = s.now) : t.time = s.time := by
  unfold State.time State.timeAt
  rw [h1, h2, h3, h4, hn]

/-- SRV_FREQ and SRV_ERR of a servo, and what they leave. -/
theorem State.showServo_spec : (s.showServo x).tm = s.tm ∧ s.OnServo (s.showServo x) ∧ (s.showServo x).now = s.now ∧
    (s.showServo x).bound = s.bound ∧ (s.showServo x).fe = s.fe ∧ (s.showServo x).out = s.out ∧
    (s.showServo x).get (R.SRV_FREQ_F_INT x) = ofInt 32 (s.servo x).fInt ∧
    (s.showServo x).get (R.SRV_ERR_E x) = ofInt 32 (s.servo x).lastE ∧
    ∀ a, a ≠ R.SRV_FREQ x → a ≠ R.SRV_ERR x → (s.showServo x).reg a = s.reg a := by
  unfold State.showServo
  have hne : R.SRV_FREQ x ≠ R.SRV_ERR x := by simp only [R.SRV_FREQ, R.SRV_ERR]; omega
  refine ⟨?_, .put (.put (.refl s)), ?_, ?_, ?_, ?_, ?_, ?_, fun a h1 h2 => ?_⟩
  · rw [State.put_tm, State.put_tm]
  · rw [State.put_now, State.put_now]
  · rw [State.put_bound, State.put_bound]
  · rw [State.put_fe, State.put_fe]
  · rw [State.put_out, State.put_out]
  · rw [State.get_put_apart _ _ (.inl hne), State.get_put]
    exact Nat.mod_eq_of_lt (ofInt_lt 32 _)
  · rw [State.get_put]
    exact Nat.mod_eq_of_lt (ofInt_lt 32 _)
  · exact (State.reg_put_other _ (R.SRV_ERR_E x) a _ h2).trans (State.reg_put_other s (R.SRV_FREQ_F_INT x) a _ h1)

/-- A servo in a new state, shown and graded. -/
structure State.ServoIn (x st : Nat) (s t : State) : Prop where
  onServo : s.OnServo t
  now : t.now = s.now
  bound : t.bound = s.bound
  fe : t.fe = s.fe
  out : t.out = s.out
  tm : ∃ c, t.tm = { s.tm with carriersHeld := c }
  state : t.get (servoField x) = st
  status : ∀ g : Field, g.addr = R.TU_STATUS → (servoField x).Apart g → R.TU_STATUS_VALID.Apart g → t.get g = s.get g
  freq : t.get (R.SRV_FREQ_F_INT x) = ofInt 32 (s.servo x).fInt
  err : t.get (R.SRV_ERR_E x) = ofInt 32 (s.servo x).lastE
  reg : ∀ a, a ≠ R.SRV_FREQ x → a ≠ R.SRV_ERR x → a ≠ R.TU_STATUS → t.reg a = s.reg a

theorem R.SRV_FREQ_ne (x : Nat) : R.SRV_FREQ x ≠ R.TU_STATUS := by simp only [R.SRV_FREQ, R.TU_STATUS]; omega

theorem R.SRV_ERR_ne (x : Nat) : R.SRV_ERR x ≠ R.TU_STATUS := by simp only [R.SRV_ERR, R.TU_STATUS]; omega

section
variable {st : Nat} (h : st < 8)
include h

/-- The state is put, then shown. -/
theorem State.servoIn_put_show : s.ServoIn x st ((s.put (servoField x) st).showServo x).grade := by
  have hg := State.get_put_servo s x h
  have ho : ∀ g : Field, (servoField x).Apart g → (s.put (servoField x) st).get g = s.get g := fun g hg =>
    State.get_put_apart s st hg (servoField_fits x)
  have hr : ∀ a, a ≠ R.TU_STATUS → (s.put (servoField x) st).reg a = s.reg a := fun a ha =>
    State.reg_put_other s (servoField x) a st (by rw [servoField_addr]; exact ha)
  have ht : (s.put (servoField x) st).tm = s.tm := State.put_tm ..
  have hk : s.OnServo (s.put (servoField x) st) := .put (.refl s)
  have hn : (s.put (servoField x) st).now = s.now := State.put_now ..
  have hb : (s.put (servoField x) st).bound = s.bound := State.put_bound ..
  have hf : (s.put (servoField x) st).fe = s.fe := State.put_fe ..
  have hp : (s.put (servoField x) st).out = s.out := State.put_out ..
  generalize s.put (servoField x) st = u at *
  obtain ⟨k1, k2, k3, k4, k5, k6, k7, k8, k9⟩ := State.showServo_spec u (x := x)
  have hst : (u.showServo x).reg R.TU_STATUS = u.reg R.TU_STATUS := k9 _ (R.SRV_FREQ_ne x).symm (R.SRV_ERR_ne x).symm
  have hsv : u.servo x = s.servo x := State.servo_congr (by rw [ht]) x
  have hon : s.OnServo (u.showServo x) := by
    obtain ⟨n, b, r, m, f, o, rfl⟩ := hk
    obtain ⟨n', b', r', m', f', o', e⟩ := k2
    exact ⟨n', b', r', m', f', o', e⟩
  obtain ⟨e1, e2, e3, e4⟩ := (u.showServo x).grade_keeps
  obtain ⟨c, hc⟩ := (u.showServo x).grade_tm
  refine ⟨.grade _ hon, e1.trans (k3.trans hn), e2.trans (k4.trans hb), e3.trans (k5.trans hf), e4.trans (k6.trans hp), ⟨c, ?_⟩, ?_, ?_, ?_, ?_, ?_⟩
  · rw [hc, k1, ht]
  · rw [State.grade_get_servo, ← hg]
    exact congrArg (Field.of _) (by rw [servoField_addr]; exact hst)
  · intro g hga h1 h2
    rw [State.grade_get _ h2, ← ho g h1]
    exact congrArg g.of (by rw [hga]; exact hst)
  · rw [← hsv, ← k7]
    exact congrArg (Field.of _) (State.grade_reg _ (R.SRV_FREQ_ne x))
  · rw [← hsv, ← k8]
    exact congrArg (Field.of _) (State.grade_reg _ (R.SRV_ERR_ne x))
  · intro a h1 h2 h3
    exact (State.grade_reg _ h3).trans ((k9 a h1 h2).trans (hr a h3))

/-- The state is put after it was shown. -/
theorem State.servoIn_show_put : s.ServoIn x st ((s.showServo x).put (servoField x) st).grade := by
  obtain ⟨k1, k2, k3, k4, k5, k6, k7, k8, k9⟩ := State.showServo_spec s (x := x)
  generalize s.showServo x = u at *
  have hst : u.reg R.TU_STATUS = s.reg R.TU_STATUS := k9 _ (R.SRV_FREQ_ne x).symm (R.SRV_ERR_ne x).symm
  have hg := State.get_put_servo u x h
  have ho : ∀ g : Field, (servoField x).Apart g → (u.put (servoField x) st).get g = u.get g := fun g hg =>
    State.get_put_apart u st hg (servoField_fits x)
  have hr : ∀ a, a ≠ R.TU_STATUS → (u.put (servoField x) st).reg a = u.reg a := fun a ha =>
    State.reg_put_other u (servoField x) a st (by rw [servoField_addr]; exact ha)
  have ht : (u.put (servoField x) st).tm = s.tm := (State.put_tm ..).trans k1
  have hk : s.OnServo (u.put (servoField x) st) := .put k2
  have hn : (u.put (servoField x) st).now = s.now := (State.put_now ..).trans k3
  have hb : (u.put (servoField x) st).bound = s.bound := (State.put_bound ..).trans k4
  have hf : (u.put (servoField x) st).fe = s.fe := (State.put_fe ..).trans k5
  have hp : (u.put (servoField x) st).out = s.out := (State.put_out ..).trans k6
  generalize u.put (servoField x) st = v at *
  obtain ⟨e1, e2, e3, e4⟩ := v.grade_keeps
  obtain ⟨c, hc⟩ := v.grade_tm
  refine ⟨.grade _ hk, e1.trans hn, e2.trans hb, e3.trans hf, e4.trans hp, ⟨c, ?_⟩, ?_, ?_, ?_, ?_, ?_⟩
  · rw [hc, ht]
  · rw [State.grade_get_servo, hg]
  · intro g hga h1 h2
    rw [State.grade_get _ h2, ho g h1]
    exact congrArg g.of (by rw [hga]; exact hst)
  · rw [← k7]
    exact congrArg (Field.of _) ((State.grade_reg _ (R.SRV_FREQ_ne x)).trans (hr _ (R.SRV_FREQ_ne x)))
  · rw [← k8]
    exact congrArg (Field.of _) ((State.grade_reg _ (R.SRV_ERR_ne x)).trans (hr _ (R.SRV_ERR_ne x)))
  · intro a h1 h2 h3
    exact (State.grade_reg _ h3).trans ((hr a h3).trans (k9 a h1 h2))

end
/-! ### Samples (R323, R324) -/

/-- A servo that takes a sample. -/
def Servo.sampled (y : Servo) (lim pull f e : Int) (run now : Nat) : Servo :=
  { y with pull := clampI (-lim) lim pull, fInt := f, lastE := e, run := run, hist := (f :: y.hist).take 64, lastAt := now }

/-- The pull limit of a servo. -/
def State.pullLim (s : State) (x : Nat) : Int := roundDiv ((s.get (R.SRV_CFG_PULL_MAX x) : Nat) * 65536 : Nat) 10

/-- The f_int of a servo after a sample. -/
def State.nextFInt (s : State) (x : Nat) (e : Int) : Int :=
  if s.takesKi x then (s.servo x).fInt + roundShift (e * 256) (s.get (R.SRV_CFG_KI x)) else (s.servo x).fInt

/-- The samples in a row within LOCK_THR, after a sample. -/
def State.nearRun (s : State) (x : Nat) (e : Int) : Nat :=
  if e.natAbs ≤ s.get (R.SRV_HOLD_LOCK_THR x) * 256 then (s.servo x).run + 1 else 0

/-- The state of a servo after a sample: 16 near ones in a row lock it. -/
def servoNext (st run : Nat) : Nat :=
  if st = svLocked then st else if 16 ≤ run ∧ (st = svAcquiring ∨ st = svFreerun) then svLocked else svAcquiring

/-- A sample taken and counted. -/
def State.sampleCounted (s : State) (x : Nat) (e : Int) : State :=
  (s.modServo x fun y => y.sampled (s.pullLim x) (roundShift (e * 256) (s.get (R.SRV_CFG_KP x))) (s.nextFInt x e) e (s.nearRun x e) s.now).count
    (R.SRV_CNT_ACCEPTED x)

theorem State.servoWrite_worker (w : Nat) (hw : s.worker = true) : s.servoWrite x w = s := by
  unfold State.servoWrite State.servoTake
  rw [if_pos hw, ite_self]

theorem State.servoTake_rejected {e : Int} (hw : s.worker = false) (he : 256000000 < e.natAbs) : s.servoTake x e = s.count (R.SRV_CNT_REJECTED x) := by
  unfold State.servoTake
  rw [if_neg (by simp [hw]), if_pos he]

section
variable (x) (e : Int)

theorem State.sampleCounted_reg {a : Nat} (ha : a ≠ R.SRV_CNT x) : (s.sampleCounted x e).reg a = s.reg a := by
  unfold State.sampleCounted State.count State.countBy
  exact (State.reg_put_other _ (R.SRV_CNT_ACCEPTED x) a _ ha).trans (State.reg_congr (State.modTm_regs ..) a)

theorem State.sampleCounted_accepted :
    (s.sampleCounted x e).get (R.SRV_CNT_ACCEPTED x) = min (s.get (R.SRV_CNT_ACCEPTED x) + 1) 65535 := by
  unfold State.sampleCounted
  rw [State.get_count _ (R.SRV_CNT_ACCEPTED x), State.get_congr (State.modServo_regs ..)]
  rfl

theorem State.sampleCounted_tm : (s.sampleCounted x e).tm = { s.tm with servos := updAt s.tm.servos x (fun y =>
    y.sampled (s.pullLim x) (roundShift (e * 256) (s.get (R.SRV_CFG_KP x))) (s.nextFInt x e) e (s.nearRun x e) s.now) } := State.put_tm ..

theorem State.sampleCounted_keeps : s.OnServo (s.sampleCounted x e) ∧ (s.sampleCounted x e).now = s.now ∧ (s.sampleCounted x e).bound = s.bound :=
  ⟨.put (.modTm (.refl s)), State.put_now .., State.put_bound ..⟩

end

theorem State.servoTake_taken {e : Int} (hw : s.worker = false) (he : e.natAbs ≤ 256000000) :
    ∃ b, s.servoTake x e = doIf b (fun t => t.event (.timeLocked x))
      (((s.sampleCounted x e).showServo x).put (servoField x) (servoNext (s.get (servoField x)) (s.nearRun x e))).grade := by
  have hst : ((s.sampleCounted x e).showServo x).get (servoField x) = s.get (servoField x) := by
    refine congrArg (Field.of _) ?_
    rw [servoField_addr]
    exact ((State.showServo_spec _).2.2.2.2.2.2.2.2 _ (R.SRV_FREQ_ne x).symm (R.SRV_ERR_ne x).symm).trans
      (State.sampleCounted_reg s x e (by simp only [R.SRV_CNT, R.TU_STATUS]; omega))
  unfold State.servoTake
  rw [if_neg (by simp [hw]), if_neg (by omega)]
  extract_lets lim old f near run u v st st' w
  refine ⟨st' == svLocked && st != svLocked && x == w.selNow, ?_⟩
  rw [← hst]
  rfl

theorem servoNext_lt (st run : Nat) : servoNext st run < 8 := by
  unfold servoNext
  split_ifs with h
  · rw [h]; decide
  · decide
  · decide

/-- From FREERUN and ACQUIRING the sixteenth near sample in a row locks. -/
theorem servoNext_of_run {st n : Nat} {near : Prop} [Decidable near] (h : st = svAcquiring ∨ st = svFreerun) :
    servoNext st (if near then n + 1 else 0) = if near ∧ 15 ≤ n then svLocked else svAcquiring := by
  have hl : st ≠ svLocked := by rcases h with h | h <;> rw [h] <;> decide
  unfold servoNext
  rw [if_neg hl]
  by_cases hn : near
  · simp only [hn, if_true, true_and, h, and_true]
    by_cases h15 : 15 ≤ n
    · rw [if_pos (by omega), if_pos h15]
    · rw [if_neg (by omega), if_neg h15]
  · simp [hn]

theorem clampI_natAbs (l v : Int) : (clampI (-l) l v).natAbs ≤ l.natAbs := by
  unfold clampI
  omega

/-- A sample that is taken moves its servo only; 16 near ones in a row lock it (R324). -/
theorem State.servoTake_spec {e : Int} (hx : x < 2) (hl : s.tm.servos.length = 2) (hw : s.worker = false) (he : e.natAbs ≤ 256000000) :
    ∃ t, s.servoTake x e = t ∧ t = { s with regs := t.regs, tm := t.tm, fe := t.fe, out := t.out } ∧ t.time = s.time ∧
      t.servo (1 - x) = s.servo (1 - x) ∧ t.servo x = (s.servo x).sampled (s.pullLim x) (roundShift (e * 256) (s.get (R.SRV_CFG_KP x)))
        (s.nextFInt x e) e (s.nearRun x e) s.now ∧
      t.get (R.SRV_CNT_ACCEPTED x) = min (s.get (R.SRV_CNT_ACCEPTED x) + 1) 65535 ∧ t.get (R.SRV_ERR_E x) = ofInt 32 e ∧
      t.get (R.SRV_FREQ_F_INT x) = ofInt 32 (s.nextFInt x e) ∧
      t.get (servoField x) = servoNext (s.get (servoField x)) (s.nearRun x e) := by
  obtain ⟨b, hb⟩ := State.servoTake_taken s hw he (x := x)
  have k := State.servoIn_show_put (s.sampleCounted x e) (servoNext_lt (s.get (servoField x)) (s.nearRun x e)) (x := x)
  obtain ⟨h1, h2, h3⟩ := State.sampleCounted_keeps s x e
  have h4 := State.sampleCounted_tm s x e
  have h5 := State.sampleCounted_accepted s x e
  generalize (((s.sampleCounted x e).showServo x).put (servoField x) (servoNext (s.get (servoField x)) (s.nearRun x e))).grade = v at *
  generalize s.sampleCounted x e = u at *
  have hs : v.Sent (doIf b (fun t => t.event (.timeLocked x)) v) := .doIf (.refl v) fun _ h => .event h
  refine ⟨_, hb, ?_⟩
  generalize doIf b (fun t => t.event (.timeLocked x)) v = t at *
  have htm : t.tm = v.tm := hs.keeps State.tm
  obtain ⟨c, hc⟩ := k.tm
  have hu : ∀ y, t.servo y = u.servo y := State.servo_congr (by rw [htm, hc])
  have hux : u.servo x = (s.servo x).sampled (s.pullLim x) (roundShift (e * 256) (s.get (R.SRV_CFG_KP x))) (s.nextFInt x e) e (s.nearRun x e) s.now := by
    rw [State.servo, h4]
    exact getD_updAt_same _ _ (by omega)
  have hg : ∀ g : Field, g.addr / 2 ^ 20 = 0x116 → t.get g = v.get g := fun g hg => hs.get_of_tu hg
  have hn : t.now = s.now := (hs.keeps State.now).trans (k.now.trans h2)
  have hbd : t.bound = s.bound := (hs.keeps State.bound).trans (k.bound.trans h3)
  refine ⟨?_, ?_, ?_, (hu x).trans hux, ?_, ?_, ?_, ?_⟩
  · have hon : u.OnServo t := .sent k.onServo hs
    obtain ⟨n, b, r, m, f, o, rfl⟩ := h1
    obtain ⟨n', b', r', m', f', o', rfl⟩ := hon
    subst hn hbd
    rfl
  · exact State.time_of_tm (by rw [htm, hc, h4]) (by rw [htm, hc, h4]) (by rw [htm, hc, h4]) (by rw [htm, hc, h4]) hn
  · rw [hu, State.servo, h4]
    exact getD_updAt_other _ _ _ (by omega)
  · rw [hg _ (by simp only [R.SRV_CNT_ACCEPTED, R.SRV_CNT]; omega), ← h5]
    exact congrArg (Field.of _) (k.reg _ (by simp only [R.SRV_CNT_ACCEPTED, R.SRV_CNT, R.SRV_FREQ]; omega)
      (by simp only [R.SRV_CNT_ACCEPTED, R.SRV_CNT, R.SRV_ERR]; omega) (by simp only [R.SRV_CNT_ACCEPTED, R.SRV_CNT, R.TU_STATUS]; omega))
  · rw [hg _ (by simp only [R.SRV_ERR_E, R.SRV_ERR]; omega), k.err, hux]
    rfl
  · rw [hg _ (by simp only [R.SRV_FREQ_F_INT, R.SRV_FREQ]; omega), k.freq, hux]
    rfl
  · rw [hg _ (by rw [servoField_addr]; rfl), k.state]

/-! ### Settings (R323) -/

/-- From `s0` on only registers changed. -/
def State.OnRegs (s0 s : State) : Prop := ∃ regs, s = { s0 with regs := regs }

theorem State.OnRegs.refl (s : State) : s.OnRegs s := ⟨_, rfl⟩

theorem State.OnRegs.put {s0 s : State} {f : Field} {v : Nat} (h : s0.OnRegs s) : s0.OnRegs (s.put f v) := by
  obtain ⟨r, rfl⟩ := h
  exact ⟨_, rfl⟩

theorem State.OnRegs.eq_with {s0 s : State} (h : s0.OnRegs s) : s = { s0 with regs := s.regs } := by
  obtain ⟨r, rfl⟩ := h
  rfl

/-- SRV_CFG takes its fields. -/
def State.cfgTaken (s : State) (x : Nat) (v : Word) : State :=
  let s := ((s.put (R.SRV_CFG_PULL_MAX x) ((R.SRV_CFG_PULL_MAX x).of v)).put (R.SRV_CFG_KI x) ((R.SRV_CFG_KI x).of v)).put (R.SRV_CFG_KP x)
    ((R.SRV_CFG_KP x).of v)
  if x = 1 then s.put (R.SRV_CFG_SRC 1) ((R.SRV_CFG_SRC 1).of v) else s

/-- A servo at rest, and its history cleared. -/
def Servo.cleared (y : Servo) : Servo := { y with pull := 0, fInt := 0, run := 0, hist := [] }

theorem State.srvCfg_refused {v : Word} (h : 100 < (R.SRV_CFG_PULL_MAX x).of v) : (s.srvCfg x v).state = s := by
  unfold State.srvCfg
  rw [if_pos h]
  rfl

theorem State.srvCfg_taken {v : Word} (h : (R.SRV_CFG_PULL_MAX x).of v ≤ 100) :
    (s.srvCfg x v).state = ((((s.cfgTaken x v).modServo x Servo.cleared).put (servoField x) svFreerun).showServo x).grade := by
  unfold State.srvCfg State.cfgTaken
  rw [if_neg (by omega)]
  extract_lets fs u w r
  have hu : u = if x = 1 then r.put (R.SRV_CFG_SRC 1) ((R.SRV_CFG_SRC 1).of v) else r := by
    by_cases hx : x = 1
    · simp only [u, fs, r, hx, if_pos, forAll, List.cons_append, List.nil_append, List.foldl_cons, List.foldl_nil]
    · simp only [u, fs, r, hx, if_neg, forAll, List.append_nil, List.foldl_cons, List.foldl_nil, not_false_eq_true]
  rw [← hu]
  rfl

theorem State.cfgTaken_spec (v : Word) : s.OnRegs (s.cfgTaken x v) ∧
    (s.cfgTaken x v).get (R.SRV_CFG_PULL_MAX x) = (R.SRV_CFG_PULL_MAX x).of v ∧ (s.cfgTaken x v).get (R.SRV_CFG_KI x) = (R.SRV_CFG_KI x).of v ∧
    (s.cfgTaken x v).get (R.SRV_CFG_KP x) = (R.SRV_CFG_KP x).of v ∧ ∀ a, a ≠ R.SRV_CFG x → (s.cfgTaken x v).reg a = s.reg a := by
  unfold State.cfgTaken
  extract_lets u
  have k1 : s.OnRegs u := .put (.put (.put (.refl s)))
  have k2 : u.get (R.SRV_CFG_PULL_MAX x) = (R.SRV_CFG_PULL_MAX x).of v := by
    unfold u
    rw [State.get_put_apart _ _ .above, State.get_put_apart _ _ .above, State.get_put]
    exact Nat.mod_mod _ _
  have k3 : u.get (R.SRV_CFG_KI x) = (R.SRV_CFG_KI x).of v := by
    unfold u
    rw [State.get_put_apart _ _ .above, State.get_put]
    exact Nat.mod_mod _ _
  have k4 : u.get (R.SRV_CFG_KP x) = (R.SRV_CFG_KP x).of v := (State.get_put _ _).trans (Nat.mod_mod _ _)
  have k5 : ∀ a, a ≠ R.SRV_CFG x → u.reg a = s.reg a := fun a ha => by
    unfold u
    rw [State.reg_put_other _ (R.SRV_CFG_KP x) a _ ha, State.reg_put_other _ (R.SRV_CFG_KI x) a _ ha]
    exact State.reg_put_other s (R.SRV_CFG_PULL_MAX x) a _ ha
  clear_value u
  split
  · next hx =>
    subst hx
    refine ⟨.put k1, ?_, ?_, ?_, fun a ha => (State.reg_put_other u (R.SRV_CFG_SRC 1) a _ ha).trans (k5 a ha)⟩
    · exact (State.get_put_apart u _ .below).trans k2
    · exact (State.get_put_apart u _ .below).trans k3
    · exact (State.get_put_apart u _ .below).trans k4
  · exact ⟨k1, k2, k3, k4, k5⟩

/-- A write of SRV_CFG returns the servo to FREERUN. -/
theorem State.srvCfg_spec (hx : x < 2) (hl : s.tm.servos.length = 2) (v : Word) (h : (R.SRV_CFG_PULL_MAX x).of v ≤ 100) :
    ∃ t, (s.srvCfg x v).state = t ∧ t = { s with regs := t.regs, tm := t.tm } ∧
      t.get (servoField x) = svFreerun ∧ t.servo x = (s.servo x).cleared ∧ t.servo (1 - x) = s.servo (1 - x) ∧
      t.get (R.SRV_CFG_PULL_MAX x) = (R.SRV_CFG_PULL_MAX x).of v ∧ t.get (R.SRV_CFG_KI x) = (R.SRV_CFG_KI x).of v ∧
      t.get (R.SRV_CFG_KP x) = (R.SRV_CFG_KP x).of v ∧ t.get (R.SRV_FREQ_F_INT x) = 0 ∧
      ∀ a, a ≠ R.SRV_CFG x → a ≠ R.SRV_FREQ x → a ≠ R.SRV_ERR x → a ≠ R.TU_STATUS → t.reg a = s.reg a := by
  obtain ⟨k1, k2, k3, k4, k5⟩ := State.cfgTaken_spec s v (x := x)
  have k := State.servoIn_put_show ((s.cfgTaken x v).modServo x Servo.cleared) (show svFreerun < 8 by decide) (x := x)
  refine ⟨_, State.srvCfg_taken s h, ?_⟩
  generalize s.cfgTaken x v = u at *
  have hur : (u.modServo x Servo.cleared).regs = u.regs := State.modServo_regs ..
  have hw : ∃ regs, u.modServo x Servo.cleared = { s with regs := regs, tm := { s.tm with servos := updAt s.tm.servos x Servo.cleared } } := by
    obtain ⟨r, rfl⟩ := k1
    exact ⟨r, rfl⟩
  generalize u.modServo x Servo.cleared = w at *
  generalize ((w.put (servoField x) svFreerun).showServo x).grade = t at *
  obtain ⟨c, hc⟩ := k.tm
  obtain ⟨r, hr⟩ := hw
  have hwt : w.tm = { s.tm with servos := updAt s.tm.servos x Servo.cleared } := by rw [hr]
  have hs : ∀ y, t.servo y = w.servo y := State.servo_congr (by rw [hc])
  have hwx : w.servo x = (s.servo x).cleared := by
    rw [State.servo, hwt]
    exact getD_updAt_same _ _ (by omega)
  have hg : t.reg (R.SRV_CFG x) = u.reg (R.SRV_CFG x) := (k.reg _ (by simp only [R.SRV_CFG, R.SRV_FREQ]; omega)
    (by simp only [R.SRV_CFG, R.SRV_ERR]; omega) (by simp only [R.SRV_CFG, R.TU_STATUS]; omega)).trans (State.reg_congr hur _)
  refine ⟨?_, k.state, (hs x).trans hwx, ?_, (congrArg (Field.of _) hg).trans k2, (congrArg (Field.of _) hg).trans k3,
    (congrArg (Field.of _) hg).trans k4, ?_, fun a h1 h2 h3 h4 => (k.reg a h2 h3 h4).trans ((State.reg_congr hur a).trans (k5 a h1))⟩
  · have e1 := k.now
    have e2 := k.bound
    have e3 := k.fe
    have e4 := k.out
    rw [k.onServo.eq_with, e1, e2, e3, e4, hr]
  · rw [hs, State.servo, hwt]
    exact getD_updAt_other _ _ _ (by omega)
  · rw [k.freq, hwx]
    rfl

/-! ### Holdover (R324, R325) -/

/-- A servo without samples: no pull, and the mean of its f_int. -/
def Servo.held (y : Servo) : Servo := { y with pull := 0, run := 0, fInt := roundDiv y.hist.sum (max 1 y.hist.length) }

/-- A servo in holdover, shown and graded. -/
def State.inHoldover (s : State) (x : Nat) : State :=
  (((((s.advanceTo ((s.servo x).lastAt + s.get (R.SRV_HOLD_HOLD_TO x) * msCycles)).modServo x Servo.held).put (servoField x) svHoldover).showServo
    x).grade)

/-- The selection moves to a locked servo. -/
def State.reselect (s : State) (x : Nat) : State :=
  doIf (x == s.selNow && s.flag R.TU_CTRL_AUTO_SEL && s.get (servoField (1 - x)) == svLocked) (fun s => s.domainSwitch (1 - x)) s

theorem State.holdover_none (h : s.worker = true ∨ (s.get (servoField x) ≠ svAcquiring ∧ s.get (servoField x) ≠ svLocked)) : s.holdover x = s := by
  unfold State.holdover
  rw [if_neg]
  rcases h with h | ⟨h1, h2⟩
  · simp [h]
  · simp [h1, h2]

theorem State.holdover_eq (hw : s.worker = false) (h : s.get (servoField x) = svAcquiring ∨ s.get (servoField x) = svLocked) :
    ∃ t, (s.inHoldover x).Sent t ∧ s.holdover x = t.reselect x := by
  unfold State.holdover
  rw [if_pos ⟨by simp [hw], h⟩]
  extract_lets y u v w r t
  have hr : w.Sent r := .doIf (.refl w) fun _ h => .event h
  have ht : w.Sent t := .doIf hr fun _ h => .event h
  exact ⟨t, ht, rfl⟩

theorem State.domainSwitch_spec {y : Nat} (hy : y < 2) (h : s.selNow ≠ y) : (s.domainSwitch y).selNow = y ∧ s.OnServo (s.domainSwitch y) ∧
    (s.domainSwitch y).now = s.now ∧ (s.domainSwitch y).bound = s.bound ∧ (s.domainSwitch y).tm.servos = s.tm.servos ∧
    ∀ x, (s.domainSwitch y).get (servoField x) = s.get (servoField x) := by
  unfold State.domainSwitch
  rw [if_neg h]
  have hs : (s.put R.TU_STATUS_SEL_NOW y).get R.TU_STATUS_SEL_NOW = y := (State.get_put s y).trans (Nat.mod_eq_of_lt (show y < 2 ^ 1 by omega))
  have hf : ∀ x, (s.put R.TU_STATUS_SEL_NOW y).get (servoField x) = s.get (servoField x) := fun x =>
    State.get_put_apart s y (.inr (.inl (by have := (servoField_range x).2; simp only [R.TU_STATUS_SEL_NOW]; omega)))
  have ho : s.OnServo (s.put R.TU_STATUS_SEL_NOW y) := .put (.refl s)
  have hn : (s.put R.TU_STATUS_SEL_NOW y).now = s.now := State.put_now ..
  have hb : (s.put R.TU_STATUS_SEL_NOW y).bound = s.bound := State.put_bound ..
  have ht : (s.put R.TU_STATUS_SEL_NOW y).tm = s.tm := State.put_tm ..
  generalize s.put R.TU_STATUS_SEL_NOW y = u at *
  have he : u.grade.Sent (u.grade.event (.timeDomainSwitch y (s.servo y).lastE)) := .event (.refl _)
  obtain ⟨e1, e2, -, -⟩ := u.grade_keeps
  obtain ⟨c, hc⟩ := u.grade_tm
  refine ⟨?_, .sent (.grade _ ho) he, (he.keeps State.now).trans (e1.trans hn), (he.keeps State.bound).trans (e2.trans hb), ?_, fun x => ?_⟩
  · exact (he.get_of_tu rfl).trans ((State.grade_get u .above).trans hs)
  · rw [he.keeps State.tm, hc, ht]
  · rw [he.get_of_tu (by rw [servoField_addr]; rfl), State.grade_get_servo, hf]

/-- The selection after a holdover, and what it leaves. -/
theorem State.reselect_spec (hx : x < 2) : s.OnServo (s.reselect x) ∧
    (s.reselect x).now = s.now ∧ (s.reselect x).bound = s.bound ∧ (s.reselect x).tm.servos = s.tm.servos ∧
    (s.reselect x).get (servoField x) = s.get (servoField x) ∧
    (s.selNow = x → s.flag R.TU_CTRL_AUTO_SEL = true → s.get (servoField (1 - x)) = svLocked → (s.reselect x).selNow = 1 - x) ∧
    (s.selNow ≠ x ∨ s.flag R.TU_CTRL_AUTO_SEL = false ∨ s.get (servoField (1 - x)) ≠ svLocked → (s.reselect x).selNow = s.selNow) := by
  unfold State.reselect
  by_cases h : s.selNow = x ∧ s.flag R.TU_CTRL_AUTO_SEL = true ∧ s.get (servoField (1 - x)) = svLocked
  · obtain ⟨h1, h2, h3⟩ := h
    rw [show (x == s.selNow && s.flag R.TU_CTRL_AUTO_SEL && s.get (servoField (1 - x)) == svLocked) = true by simp [h1, h2, h3], doIf_true]
    obtain ⟨k1, k2, k3, k4, k5, k6⟩ := State.domainSwitch_spec s (y := 1 - x) (by omega) (by omega)
    exact ⟨k2, k3, k4, k5, k6 x, fun _ _ _ => k1, fun h => by simp [h1, h2, h3] at h⟩
  · rw [show (x == s.selNow && s.flag R.TU_CTRL_AUTO_SEL && s.get (servoField (1 - x)) == svLocked) = false from
      Bool.eq_false_iff.2 fun e => h (by
        simp only [Bool.and_eq_true, beq_iff_eq] at e
        exact ⟨e.1.1.symm, e.1.2, e.2⟩), doIf_false]
    exact ⟨.refl s, rfl, rfl, rfl, rfl, fun h1 h2 h3 => absurd ⟨h1, h2, h3⟩ h, fun _ => rfl⟩

theorem State.holdover_spec (hx : x < 2) (hl : s.tm.servos.length = 2) (hw : s.worker = false)
    (h : s.get (servoField x) = svAcquiring ∨ s.get (servoField x) = svLocked) : ∃ t, s.holdover x = t ∧
      t.now = max s.now ((s.servo x).lastAt + s.get (R.SRV_HOLD_HOLD_TO x) * msCycles) ∧
      t = { s with now := t.now, regs := t.regs, tm := t.tm, fe := t.fe, out := t.out } ∧ t.get (servoField x) = svHoldover ∧
      t.servo x = (s.servo x).held ∧ t.servo (1 - x) = s.servo (1 - x) ∧
      (s.selNow = x → s.flag R.TU_CTRL_AUTO_SEL = true → s.get (servoField (1 - x)) = svLocked → t.selNow = 1 - x) ∧
      (s.selNow ≠ x ∨ s.flag R.TU_CTRL_AUTO_SEL = false ∨ s.get (servoField (1 - x)) ≠ svLocked → t.selNow = s.selNow) := by
  obtain ⟨r, hr, he⟩ := State.holdover_eq s hw h
  obtain ⟨k1, k2, k3, k4, k5, k6, k7⟩ := State.reselect_spec r hx
  generalize hc : max s.now ((s.servo x).lastAt + s.get (R.SRV_HOLD_HOLD_TO x) * msCycles) = c
  have hb : ∃ b : State, b = { s with now := c, tm := { s.tm with servos := updAt s.tm.servos x Servo.held } } ∧
      b.ServoIn x svHoldover (s.inHoldover x) := by
    refine ⟨_, rfl, ?_⟩
    rw [← hc]
    exact State.servoIn_put_show _ (show svHoldover < 8 by decide)
  obtain ⟨b, hbs, k⟩ := hb
  have hbt : b.tm.servos = updAt s.tm.servos x Servo.held := by rw [hbs]
  have hg : ∀ g : Field, g.addr = R.TU_STATUS → (servoField x).Apart g → R.TU_STATUS_VALID.Apart g → r.get g = s.get g := fun g hga h1 h2 =>
    ((hr.get_of_tu (by rw [hga]; rfl)).trans (k.status g hga h1 h2)).trans (State.get_congr (by rw [hbs]) g)
  have hsel : r.selNow = s.selNow := hg _ rfl (.inr (.inr (by have := (servoField_range x).2; simp only [R.TU_STATUS_SEL_NOW]; omega))) .above
  have hoth : r.get (servoField (1 - x)) = s.get (servoField (1 - x)) := hg _ (servoField_addr _) (servoField_apart hx)
    (.inr (.inr (by have := (servoField_range (1 - x)).1; simp only [R.TU_STATUS_VALID]; omega)))
  have hauto : r.flag R.TU_CTRL_AUTO_SEL = s.flag R.TU_CTRL_AUTO_SEL := by
    refine State.flag_congr ((hr.get_of_tu rfl).trans ((congrArg (Field.of _) (k.reg _ ?_ ?_ (by decide))).trans (State.get_congr (by rw [hbs]) _)))
    · simp only [R.TU_CTRL_AUTO_SEL, R.TU_CTRL, R.SRV_FREQ]; omega
    · simp only [R.TU_CTRL_AUTO_SEL, R.TU_CTRL, R.SRV_ERR]; omega
  rw [hsel, hauto, hoth] at k6 k7
  have hsv : ∀ y, (r.reselect x).servo y = b.servo y := State.servo_congr (k4.trans (by
    obtain ⟨d, hd⟩ := k.tm
    rw [hr.keeps State.tm, hd]))
  refine ⟨_, he, ?_, ?_, k5.trans ((hr.get_of_tu (by rw [servoField_addr]; rfl)).trans k.state), ?_, ?_, k6, k7⟩
  · rw [k2, hr.keeps State.now, k.now, hbs]
  · have hbd : (r.reselect x).bound = s.bound := by rw [k3, hr.keeps State.bound, k.bound, hbs]
    generalize r.reselect x = t at *
    have e1 := k1.eq_with
    rw [hbd] at e1
    have e2 := State.OnServo.sent k.onServo hr
    obtain ⟨n, b', r', m', f', o', rfl⟩ := e2
    rw [e1, hbs]
  · rw [hsv, State.servo, hbt]
    exact getD_updAt_same _ _ (by omega)
  · rw [hsv, State.servo, hbt]
    exact getD_updAt_other _ _ _ (by omega)

/-! ### SyncE (R329, R330, R338) -/

/-- SyncE is lost: SYNCE_OK is clear and mode 2 has ended; f_int stays. -/
def State.SynceIsLost (s t : State) : Prop :=
  t.flag R.TU_STATUS_SYNCE_OK = false ∧
    t.tm = { s.tm with synceEnded := s.tm.synceEnded || s.get R.TU_CTRL_SYNCE_MODE == 2 } ∧ t.mem = s.mem

theorem State.synceLost_off (h : s.get R.TU_CTRL_SYNCE_MODE = 0) : s.synceLost = s := by
  unfold State.synceLost
  exact if_pos h

theorem State.synceLost_spec (h : s.get R.TU_CTRL_SYNCE_MODE ≠ 0) : s.SynceIsLost s.synceLost ∧ s.synceLost.now = s.now ∧
    s.synceLost.get R.SE_FERR_FERR = s.get R.SE_FERR_FERR := by
  unfold State.synceLost
  extract_lets m u
  rw [if_neg h]
  have hm : m = s.get R.TU_CTRL_SYNCE_MODE := rfl
  clear_value m
  split
  · have k1 : (s.put R.TU_STATUS_SYNCE_OK 0).flag R.TU_STATUS_SYNCE_OK = false := State.flag_put s false
    have k2 : (s.put R.TU_STATUS_SYNCE_OK 0).tm = s.tm := State.put_tm ..
    have k3 : (s.put R.TU_STATUS_SYNCE_OK 0).mem = s.mem := State.put_mem ..
    have k4 : (s.put R.TU_STATUS_SYNCE_OK 0).now = s.now := State.put_now ..
    have k5 : (s.put R.TU_STATUS_SYNCE_OK 0).get R.SE_FERR_FERR = s.get R.SE_FERR_FERR := State.get_put_apart s 0 (.inl (by decide))
    unfold u
    generalize s.put R.TU_STATUS_SYNCE_OK 0 = v at *
    generalize hw : (v.modTm fun x => { x with synceEnded := x.synceEnded || m == 2 }) = w
    have hwr : w.regs = v.regs := by rw [← hw]; exact State.modTm_regs ..
    have he : w.Sent (w.event (.synceLost (w.get R.SE_CFG_LANE))) := .event (.refl w)
    refine ⟨⟨(State.flag_congr ((he.get_of_tu rfl).trans (State.get_congr hwr _))).trans k1, ?_, ?_⟩, ?_,
      (he.get_of_tu rfl).trans ((State.get_congr hwr _).trans k5)⟩
    · rw [he.keeps State.tm, ← hw, ← hm, ← k2]
      rfl
    · rw [he.keeps State.mem, ← hw, ← k3]
      rfl
    · rw [he.keeps State.now, ← hw, ← k4]
      rfl
  · next hn =>
    obtain ⟨h1, h2⟩ : s.flag R.TU_STATUS_SYNCE_OK = false ∧ (m = 2 → s.tm.synceEnded = true) := by simpa using hn
    refine ⟨⟨h1, ?_, rfl⟩, rfl, rfl⟩
    rw [← hm]
    have : (s.tm.synceEnded || m == 2) = s.tm.synceEnded := by
      by_cases h : m = 2
      · rw [h2 h, Bool.true_or]
      · rw [show (m == 2) = false by simpa using h, Bool.or_false]
    rw [this]

/-- A gate's error, shown at the end of its second. -/
def State.gateShown (s : State) (ferr : Int) : State := (s.tickTo 3 s.secondAfter).put R.SE_FERR_FERR (ofInt 32 ferr)

theorem State.gateShown_spec (ferr : Int) : (∃ now bound regs, s.gateShown ferr = { s with now := now, bound := bound, regs := regs }) ∧
    (s.gateShown ferr).get R.SE_FERR_FERR = ofInt 32 ferr ∧ ∀ g : Field, g.addr ≠ R.SE_FERR → (s.gateShown ferr).get g = s.get g := by
  have ht : ∃ now bound, s.tickTo 3 s.secondAfter = { s with now := now, bound := bound } := ⟨_, _, rfl⟩
  have hr : (s.tickTo 3 s.secondAfter).regs = s.regs := rfl
  unfold State.gateShown
  generalize s.tickTo 3 s.secondAfter = u at *
  refine ⟨?_, (State.get_put u _).trans (Nat.mod_eq_of_lt (ofInt_lt 32 _)), fun g hg => (State.get_put_other u _ g _ hg).trans (State.get_congr hr g)⟩
  obtain ⟨n, b, rfl⟩ := ht
  exact ⟨n, b, _, rfl⟩

theorem State.synceGate_none (ferr : Int)
    (h : s.worker = true ∨ (s.get R.TU_CTRL_SYNCE_MODE ≠ 1 ∧ s.get R.TU_CTRL_SYNCE_MODE ≠ 2)) : s.synceGate ferr = s := by
  unfold State.synceGate
  refine if_neg ?_
  rcases h with h | ⟨h1, h2⟩
  · simp [h]
  · simp [h1, h2]

theorem State.synceGate_eq (ferr : Int) (hw : s.worker = false) (h : s.get R.TU_CTRL_SYNCE_MODE = 1 ∨ s.get R.TU_CTRL_SYNCE_MODE = 2) :
    s.synceGate ferr = if 4600 * 65536 < ferr.natAbs then (s.gateShown ferr).synceLost
      else
        let t := (s.gateShown ferr).put R.TU_STATUS_SYNCE_OK 1
        if s.get R.TU_CTRL_SYNCE_MODE = 2 ∧ !t.tm.synceEnded then
          (t.modServo t.selNow fun y => { y with fInt := y.fInt - roundShift ferr (t.get R.TU_CTRL_KSE) }).showServo t.selNow
        else t := by
  unfold State.synceGate
  exact if_pos ⟨by simp [hw], h⟩

/-- A gate beyond 4.6 ppm loses SyncE. -/
theorem State.synceGate_lost {ferr : Int} (hw : s.worker = false) (h : s.get R.TU_CTRL_SYNCE_MODE = 1 ∨ s.get R.TU_CTRL_SYNCE_MODE = 2)
    (hf : 4600 * 65536 < ferr.natAbs) : s.SynceIsLost (s.synceGate ferr) ∧ (s.synceGate ferr).get R.SE_FERR_FERR = ofInt 32 ferr := by
  rw [State.synceGate_eq s ferr hw h, if_pos hf]
  obtain ⟨⟨n, b, r, he⟩, k2, k3⟩ := State.gateShown_spec s ferr
  have hm : (s.gateShown ferr).get R.TU_CTRL_SYNCE_MODE = s.get R.TU_CTRL_SYNCE_MODE := k3 _ (by decide)
  have ht : (s.gateShown ferr).tm = s.tm := by rw [he]
  have hme : (s.gateShown ferr).mem = s.mem := by rw [he]
  obtain ⟨⟨e1, e2, e3⟩, -, e5⟩ := State.synceLost_spec (s.gateShown ferr) (by rw [hm]; omega)
  rw [ht, hm] at e2
  exact ⟨⟨e1, e2, e3.trans hme⟩, e5.trans k2⟩

/-- A gate within 4.6 ppm sets SYNCE_OK, and in mode 2 moves the selected servo's f_int. -/
theorem State.synceGate_ok {ferr : Int} (hl : s.tm.servos.length = 2) (hw : s.worker = false)
    (h : s.get R.TU_CTRL_SYNCE_MODE = 1 ∨ s.get R.TU_CTRL_SYNCE_MODE = 2) (hf : ferr.natAbs ≤ 4600 * 65536) : ∃ t, s.synceGate ferr = t ∧
      t = { s with now := t.now, bound := t.bound, regs := t.regs, tm := t.tm } ∧ t.flag R.TU_STATUS_SYNCE_OK = true ∧
      t.get R.SE_FERR_FERR = ofInt 32 ferr ∧ (s.get R.TU_CTRL_SYNCE_MODE = 1 ∨ s.tm.synceEnded = true → t.tm = s.tm) ∧
      (s.get R.TU_CTRL_SYNCE_MODE = 2 → s.tm.synceEnded = false → (t.servo s.selNow).pull = (s.servo s.selNow).pull ∧
        (t.servo s.selNow).fInt = (s.servo s.selNow).fInt - roundShift ferr (s.get R.TU_CTRL_KSE)) := by
  obtain ⟨⟨n, b, r, he⟩, k2, k3⟩ := State.gateShown_spec s ferr
  have hs : s.selNow < 2 := State.get_lt s R.TU_STATUS_SEL_NOW
  have hu : ∃ regs, (s.gateShown ferr).put R.TU_STATUS_SYNCE_OK 1 = { s with now := n, bound := b, regs := regs } := by
    obtain ⟨r', hr'⟩ := State.OnRegs.put (f := R.TU_STATUS_SYNCE_OK) (v := 1) (.refl (s.gateShown ferr))
    exact ⟨r', by rw [hr', he]⟩
  have hok : ((s.gateShown ferr).put R.TU_STATUS_SYNCE_OK 1).flag R.TU_STATUS_SYNCE_OK = true := State.flag_put _ true
  have hfe : ((s.gateShown ferr).put R.TU_STATUS_SYNCE_OK 1).get R.SE_FERR_FERR = ofInt 32 ferr :=
    (State.get_put_apart _ 1 (.inl (by decide))).trans k2
  have hsel : ((s.gateShown ferr).put R.TU_STATUS_SYNCE_OK 1).selNow = s.selNow :=
    (State.get_put_apart _ 1 .below).trans (k3 _ (by decide))
  have hk : ((s.gateShown ferr).put R.TU_STATUS_SYNCE_OK 1).get R.TU_CTRL_KSE = s.get R.TU_CTRL_KSE :=
    (State.get_put_apart _ 1 (.inl (by decide))).trans (k3 _ (by decide))
  refine ⟨_, (State.synceGate_eq s ferr hw h).trans (if_neg (by omega)), ?_⟩
  generalize (s.gateShown ferr).put R.TU_STATUS_SYNCE_OK 1 = u at *
  obtain ⟨r', hu⟩ := hu
  have hut : u.tm = s.tm := by rw [hu]
  dsimp only
  rw [hut, hsel, hk]
  by_cases hc : s.get R.TU_CTRL_SYNCE_MODE = 2 ∧ (!s.tm.synceEnded) = true
  · obtain ⟨hm, hn⟩ := hc
    rw [if_pos ⟨hm, hn⟩]
    set f : Servo → Servo := fun y => { y with fInt := y.fInt - roundShift ferr (s.get R.TU_CTRL_KSE) }
    obtain ⟨e1, -, e3, e4, e5, e6, -, -, e9⟩ := State.showServo_spec (u.modServo s.selNow f) (x := s.selNow)
    have e2 := (State.showServo_spec (u.modServo s.selNow f) (x := s.selNow)).2.1.eq_with
    rw [e5, e6] at e2
    have hg : ∀ g : Field, g.addr = R.TU_STATUS ∨ g.addr = R.SE_FERR → ((u.modServo s.selNow f).showServo s.selNow).get g = u.get g := fun g hg =>
      (congrArg g.of (e9 _ (by rcases hg with hg | hg <;> rw [hg] <;> simp only [R.TU_STATUS, R.SE_FERR, R.SRV_FREQ] <;> omega)
        (by rcases hg with hg | hg <;> rw [hg] <;> simp only [R.TU_STATUS, R.SE_FERR, R.SRV_ERR] <;> omega))).trans
        (State.get_congr (State.modServo_regs ..) g)
    have hv : ((u.modServo s.selNow f).showServo s.selNow).servo s.selNow = f (s.servo s.selNow) := by
      rw [State.servo_congr (congrArg TimeX.servos e1), State.modServo_servo _ _ (by rw [hut]; omega), State.servo_congr (congrArg TimeX.servos hut)]
    refine ⟨?_, (State.flag_congr (hg _ (.inl rfl))).trans hok, (hg _ (.inr rfl)).trans hfe, fun h => ?_, fun _ _ => ?_⟩
    · generalize (u.modServo s.selNow f).showServo s.selNow = t at *
      rw [e2, hu]
      rfl
    · rcases h with h | h
      · omega
      · simp [h] at hn
    · rw [hv]
      exact ⟨rfl, rfl⟩
  · rw [if_neg hc]
    refine ⟨by rw [hu], hok, hfe, fun _ => hut, fun h1 h2 => absurd ⟨h1, by simp [h2]⟩ hc⟩

end
end Sys2Proof.Machine

open Sys2Proof Sys2Proof.Machine

/-- Settles O46: samples, settings and holdover by what they leave of a servo, SyncE by whether its error is within 4.6 ppm. -/
theorem servosAndSyncE : Obligations.ServosAndSyncE := by
  unfold Obligations.ServosAndSyncE
  intro s hl
  refine ⟨fun e h => ?_, fun x w hx hw hsrc => ⟨fun he => ?_, fun he => ?_⟩, fun hw => ⟨fun x w => ?_, fun x => ?_, fun ferr => ?_⟩,
    fun x v hx => ⟨fun h => ?_, fun h => ?_⟩, fun x hx hw => ⟨fun h1 h2 => ?_, fun h => ?_⟩,
    fun ferr h1 h2 => ?_, fun ferr hw h => ⟨fun hf => ?_, fun hf => ?_⟩, fun h => ?_, fun h => ?_⟩
  · exact congrArg Host.Outcome.next (if_pos ⟨rfl, h⟩)
  · have hn : ¬ (x = 1 ∧ s.flag (R.SRV_CFG_SRC 1) = true) := fun e => by simp [hsrc e.1] at e
    refine ⟨_, congrArg Host.Outcome.next ((if_neg hn).trans (State.servoTake_rejected s hw he)), ?_, ?_, fun a ha => ?_⟩
    · exact State.OnRegs.eq_with (.put (.refl s))
    · exact State.get_count s (R.SRV_CNT_REJECTED x)
    · exact State.reg_put_other s (R.SRV_CNT_REJECTED x) a _ ha
  · have hn : ¬ (x = 1 ∧ s.flag (R.SRV_CFG_SRC 1) = true) := fun e => by simp [hsrc e.1] at e
    obtain ⟨t, ht, k1, k2, k3, k4, k5, k6, k7, k8⟩ := State.servoTake_spec s hx hl hw he
    refine ⟨t, congrArg Host.Outcome.next ((if_neg hn).trans ht), k1, k2, k3, by rw [k4]; rfl, by rw [k4]; rfl, by rw [k4]; rfl, ?_, fun h => ?_,
      fun h => ?_, k5, k6, ?_, fun h => ?_, fun h => ?_, fun h => ?_⟩
    · rw [k4]
      exact clampI_natAbs ..
    · rw [k4]
      exact if_pos h
    · rw [k4]
      exact if_neg (by simp [h])
    · rw [k7, k4]
      rfl
    · rw [k8, servoNext, h, if_pos rfl]
    · rw [k8, State.nearRun, servoNext_of_run h]
    · rw [k8, servoNext, h, if_neg (by decide), if_neg (fun e => absurd e.2 (by decide))]
  · exact congrArg Host.Outcome.next (State.servoWrite_worker s w hw)
  · exact congrArg Host.Outcome.next (State.holdover_none s (.inl hw))
  · exact congrArg Host.Outcome.next (State.synceGate_none s ferr (.inl hw))
  · exact congrArg Host.Outcome.next (State.srvCfg_refused s h)
  · obtain ⟨t, ht, k1, k2, k3, k4, k5⟩ := State.srvCfg_spec s hx hl v h
    exact ⟨t, congrArg Host.Outcome.next ht, k1, k2, by rw [k3]; rfl, by rw [k3]; rfl, k4, k5⟩
  · exact congrArg Host.Outcome.next (State.holdover_none s (.inr ⟨h1, h2⟩))
  · obtain ⟨t, ht, k1, k2, k3, k4, k5⟩ := State.holdover_spec s hx hl hw h
    exact ⟨t, congrArg Host.Outcome.next ht, k1, k2, k3, by rw [k4]; rfl, by rw [k4]; rfl, k5⟩
  · exact congrArg Host.Outcome.next (State.synceGate_none s ferr (.inr ⟨h1, h2⟩))
  · exact ⟨_, Eq.refl _, State.synceGate_lost s hw h hf⟩
  · obtain ⟨t, ht, k⟩ := State.synceGate_ok s hl hw h hf
    exact ⟨t, congrArg Host.Outcome.next ht, k⟩
  · exact congrArg Host.Outcome.next (State.synceLost_off s h)
  · obtain ⟨k1, k2, -⟩ := State.synceLost_spec s h
    exact ⟨_, Eq.refl _, k1, k2⟩
end

section
/-! Host-port links and frames (R302, R303, R311 to R315), side frames of the cascade (R280). -/

namespace Sys2Proof.Machine

/-! ### Links -/

theorem SentField.ne_addr {f : Field} (h : SentField f) {a : Nat} (h1 : ∀ x, x < 16 → a ≠ R.SESS_STAT x) (h2 : a ≠ R.CMD_CNT3) : a ≠ f.addr := by
  cases h with
  | queue x hx => exact h1 x hx
  | overflow => exact h2

theorem R.HP_STATUS_ne_sess : (∀ x, x < 16 → R.HP_STATUS ≠ R.SESS_STAT x) ∧ R.HP_STATUS ≠ R.CMD_CNT3 :=
  ⟨fun x _ => by simp only [R.HP_STATUS, R.SESS_STAT]; omega, by decide⟩

theorem State.Sent.hpStatus {s t : State} (h : s.Sent t) {f : Field} (hf : f.addr = R.HP_STATUS) : t.get f = s.get f :=
  congrArg f.of (by rw [hf]; exact h.writes.reg fun _ hf => hf.ne_addr R.HP_STATUS_ne_sess.1 R.HP_STATUS_ne_sess.2)

section
variable (s : State) {e : Nat} (up : Bool)

/-- A link's bit, and what a change of it leaves. -/
theorem State.setLink_spec (he : e < 8) : (s.setLink e up).portUp e = up ∧ (∀ k, k < 8 → k ≠ e → (s.setLink e up).portUp k = s.portUp k) ∧
    (s.portUp e = up → s.setLink e up = s) ∧ (∃ regs fe out, s.setLink e up = { s with regs := regs, fe := fe, out := out }) ∧
    (∀ f : Field, f.addr = R.HP_STATUS → R.HP_STATUS_LINK.Apart f → (s.setLink e up).get f = s.get f) ∧
    ∀ a, a ≠ R.HP_STATUS → (∀ x, x < 16 → a ≠ R.SESS_STAT x) → a ≠ R.CMD_CNT3 → (s.setLink e up).reg a = s.reg a := by
  unfold State.setLink
  by_cases h : s.portUp e = up
  · rw [if_pos (by simpa using h)]
    exact ⟨h, fun _ _ _ => rfl, fun _ => rfl, ⟨_, _, _, rfl⟩, fun _ _ _ => rfl, fun _ _ _ _ => rfl⟩
  · rw [if_neg (by simpa using h)]
    have hb : ∀ k, k < 8 → (s.putBit R.HP_STATUS_LINK e up).portUp k = if k = e then up else s.portUp k := fun k hk =>
      State.fbit_putBit s R.HP_STATUS_LINK e k up hk
    have hr : ∀ a, a ≠ R.HP_STATUS → (s.putBit R.HP_STATUS_LINK e up).reg a = s.reg a := fun a ha =>
      State.reg_put_other s R.HP_STATUS_LINK a _ ha
    have hg : ∀ f : Field, R.HP_STATUS_LINK.Apart f → (s.putBit R.HP_STATUS_LINK e up).get f = s.get f := fun f hf =>
      State.get_put_apart s _ hf
    have hs : s.OnRegs (s.putBit R.HP_STATUS_LINK e up) := .put (.refl s)
    generalize s.putBit R.HP_STATUS_LINK e up = u at *
    have he : u.Sent (u.event (if up then .hpLinkUp e else .hpLinkDown e)) := .event (.refl u)
    generalize u.event (if up then .hpLinkUp e else .hpLinkDown e) = t at *
    have hp : ∀ k, t.portUp k = u.portUp k := fun k => State.fbit_congr (he.hpStatus rfl) k
    refine ⟨?_, fun k hk hne => ?_, fun h' => absurd h' h, ?_, fun f hf ha => (he.hpStatus hf).trans (hg f ha), fun a h1 h2 h3 => ?_⟩
    · rw [hp, hb _ (by assumption), if_pos rfl]
    · rw [hp, hb k hk, if_neg hne]
    · obtain ⟨r, rfl⟩ := hs
      obtain ⟨-, r', f', o', rfl⟩ := he
      exact ⟨_, _, _, rfl⟩
    · exact (he.writes.reg fun _ hf => hf.ne_addr h2 h3).trans (hr a h1)

theorem State.linkChange_eq (e : Nat) (pcs fec : Bool) {can : Bool} (hc : can = (s.portOn e && s.flag R.HP_STATUS_ETHREF_OK)) :
    s.linkChange e pcs fec = (s.putBit R.HP_STATUS_FEC_LOCK e (fec && can)).setLink e (pcs && fec && can) := by
  subst hc
  rfl

/-- A link follows PCS and FEC while the port is on and the reference is there (R311, R315). -/
theorem State.linkChange_spec (he : e < 8) (pcs fec : Bool) {can : Bool} (hc : can = (s.portOn e && s.flag R.HP_STATUS_ETHREF_OK)) :
    (∃ regs fe out, s.linkChange e pcs fec = { s with regs := regs, fe := fe, out := out }) ∧
      (s.linkChange e pcs fec).portUp e = (pcs && fec && can) ∧ (s.linkChange e pcs fec).fbit R.HP_STATUS_FEC_LOCK e = (fec && can) ∧
      (∀ k, k < 8 → k ≠ e → (s.linkChange e pcs fec).portUp k = s.portUp k) ∧
      (s.portUp e = (pcs && fec && can) → (s.linkChange e pcs fec).fe = s.fe ∧ (s.linkChange e pcs fec).out = s.out ∧
        ∀ a, a ≠ R.HP_STATUS → (s.linkChange e pcs fec).reg a = s.reg a) ∧
      (s.linkChange e pcs fec).get R.HP_STATUS_ETHREF_OK = s.get R.HP_STATUS_ETHREF_OK ∧
      ∀ a, a ≠ R.HP_STATUS → (∀ x, x < 16 → a ≠ R.SESS_STAT x) → a ≠ R.CMD_CNT3 → (s.linkChange e pcs fec).reg a = s.reg a := by
  rw [State.linkChange_eq s e pcs fec hc]
  clear hc
  have hf : (s.putBit R.HP_STATUS_FEC_LOCK e (fec && can)).fbit R.HP_STATUS_FEC_LOCK e = (fec && can) :=
    (State.fbit_putBit s R.HP_STATUS_FEC_LOCK e e _ he).trans (if_pos rfl)
  have hp : ∀ k, (s.putBit R.HP_STATUS_FEC_LOCK e (fec && can)).portUp k = s.portUp k := fun k =>
    State.fbit_congr (State.get_put_apart s _ .below) k
  have ho : (s.putBit R.HP_STATUS_FEC_LOCK e (fec && can)).get R.HP_STATUS_ETHREF_OK = s.get R.HP_STATUS_ETHREF_OK :=
    State.get_put_apart s _ .above
  have hr : ∀ a, a ≠ R.HP_STATUS → (s.putBit R.HP_STATUS_FEC_LOCK e (fec && can)).reg a = s.reg a := fun a ha =>
    State.reg_put_other s R.HP_STATUS_FEC_LOCK a _ ha
  have hs : s.OnRegs (s.putBit R.HP_STATUS_FEC_LOCK e (fec && can)) := .put (.refl s)
  generalize s.putBit R.HP_STATUS_FEC_LOCK e (fec && can) = u at *
  obtain ⟨k1, k2, k3, k4, k5, k6⟩ := State.setLink_spec u (pcs && fec && can) he
  refine ⟨?_, k1, (State.fbit_congr (k5 _ rfl .above) e).trans hf, fun k hk hne => (k2 k hk hne).trans (hp k), fun h => ?_,
    (k5 _ rfl .above).trans ho, fun a h1 h2 h3 => (k6 a h1 h2 h3).trans (hr a h1)⟩
  · obtain ⟨r, rfl⟩ := hs
    exact k4
  · rw [k3 ((hp e).trans h)]
    obtain ⟨r, rfl⟩ := hs
    exact ⟨rfl, rfl, hr⟩

/-- Without the reference no port is up (R36). -/
theorem State.portsDown_spec : (∃ regs fe out, s.portsDown = { s with regs := regs, fe := fe, out := out }) ∧
    s.portsDown.get R.HP_STATUS_ETHREF_OK = s.get R.HP_STATUS_ETHREF_OK ∧ (∀ e, e < 8 → s.portsDown.portUp e = false) ∧
    ∀ a, a ≠ R.HP_STATUS → (∀ x, x < 16 → a ≠ R.SESS_STAT x) → a ≠ R.CMD_CNT3 → s.portsDown.reg a = s.reg a := by
  unfold State.portsDown
  refine ⟨?_, ?_, fun e he => ?_, fun a h1 h2 h3 => ?_⟩
  · refine forAll_keeps (fun t => ∃ regs fe out, t = { s with regs := regs, fe := fe, out := out }) _ _ (fun e hm t ht => ?_) s ⟨_, _, _, rfl⟩
    obtain ⟨r, f, o, rfl⟩ := ht
    exact (State.linkChange_spec _ (List.mem_range.1 hm) false false rfl).1
  · exact forAll_keeps (fun t => t.get R.HP_STATUS_ETHREF_OK = s.get R.HP_STATUS_ETHREF_OK) _ _
      (fun e hm t ht => (State.linkChange_spec t (List.mem_range.1 hm) false false rfl).2.2.2.2.2.1.trans ht) s rfl
  · exact forAll_reaches (fun _ => True) (fun t => t.portUp e = false) _ (fun e s => s.linkChange e false false) (List.mem_range.2 he)
      (fun _ _ _ _ => trivial) (fun t _ => (State.linkChange_spec t he false false rfl).2.1)
      (fun k hm hk t _ ht => ((State.linkChange_spec t (List.mem_range.1 hm) false false rfl).2.2.2.1 e he (Ne.symm hk)).trans ht) s trivial
  · exact forAll_keeps (fun t => t.reg a = s.reg a) _ _
      (fun e hm t ht => ((State.linkChange_spec t (List.mem_range.1 hm) false false rfl).2.2.2.2.2.2 a h1 h2 h3).trans ht) s rfl

theorem State.ethrefLoss_spec : (∃ regs fe out, s.ethrefLoss = { s with regs := regs, fe := fe, out := out }) ∧
    s.ethrefLoss.flag R.HP_STATUS_ETHREF_OK = false ∧ ∀ e, e < 8 → s.ethrefLoss.portUp e = false := by
  unfold State.ethrefLoss
  have hf : (s.put R.HP_STATUS_ETHREF_OK 0).flag R.HP_STATUS_ETHREF_OK = false := State.flag_put s false
  have hs : s.OnRegs (s.put R.HP_STATUS_ETHREF_OK 0) := .put (.refl s)
  generalize s.put R.HP_STATUS_ETHREF_OK 0 = u at *
  obtain ⟨k1, k2, k3, -⟩ := u.portsDown_spec
  refine ⟨?_, (State.flag_congr k2).trans hf, k3⟩
  obtain ⟨r, rfl⟩ := hs
  exact k1

end
/-! ### Frames counted -/

theorem State.OnRegs.trans {s t u : State} (h : s.OnRegs t) (k : t.OnRegs u) : s.OnRegs u := by
  obtain ⟨r, rfl⟩ := h
  obtain ⟨r', rfl⟩ := k
  exact ⟨_, rfl⟩

theorem State.OnRegs.countBy {s t : State} {f : Field} {n : Nat} (h : s.OnRegs t) : s.OnRegs (t.countBy f n) := .put h

theorem State.OnRegs.count {s t : State} {f : Field} (h : s.OnRegs t) : s.OnRegs (t.count f) := .put h

/-- What reads no register is kept. -/
theorem State.OnRegs.keeps {β : Sort _} {s t : State} (h : s.OnRegs t) (π : State → β)
    (hπ : ∀ (u : State) regs, π { u with regs := regs } = π u := by intros; rfl) : π t = π s := by
  obtain ⟨r, rfl⟩ := h
  exact hπ ..

theorem State.reg_count (s : State) (f : Field) {a : Nat} (h : a ≠ f.addr) : (s.count f).reg a = s.reg a := State.reg_put_other s f a _ h

theorem State.reg_countBy (s : State) (f : Field) (n : Nat) {a : Nat} (h : a ≠ f.addr) : (s.countBy f n).reg a = s.reg a :=
  State.reg_put_other s f a _ h

section
variable (s : State) {e : Nat}

/-- The corrections of a frame's FEC counted. -/
def State.fecCounted (s : State) (e corr uncorr : Nat) : State :=
  (s.countBy (R.FEC_CORR_FEC_CORR e) corr).countBy (R.FEC_UNCORR_FEC_UNCORR e) uncorr

theorem State.fecCounted_onRegs (corr uncorr : Nat) : s.OnRegs (s.fecCounted e corr uncorr) := .countBy (.countBy (.refl s))

theorem State.fecCounted_reg (corr uncorr : Nat) {a : Nat} (h1 : a ≠ R.FEC_CORR e) (h2 : a ≠ R.FEC_UNCORR e) :
    (s.fecCounted e corr uncorr).reg a = s.reg a :=
  (State.reg_countBy _ (R.FEC_UNCORR_FEC_UNCORR e) _ h2).trans (State.reg_countBy s (R.FEC_CORR_FEC_CORR e) _ h1)

/-- The registers of the host port that say how a frame is treated are none of the ports' counters. -/
abbrev HostCfg (a : Nat) : Prop := a < 0x11400100

theorem State.fecCounted_cfg (corr uncorr : Nat) {a : Nat} (h : HostCfg a) : (s.fecCounted e corr uncorr).reg a = s.reg a := by
  unfold HostCfg at h
  exact State.fecCounted_reg s corr uncorr (by simp only [R.FEC_CORR]; omega) (by simp only [R.FEC_UNCORR]; omega)

theorem State.rxCounted_cfg {a : Nat} (h : HostCfg a) : (s.count (R.RX_FRAMES_RX_FRAMES e)).reg a = s.reg a := by
  unfold HostCfg at h
  exact State.reg_count s (R.RX_FRAMES_RX_FRAMES e) (by simp only [R.RX_FRAMES_RX_FRAMES, R.RX_FRAMES]; omega)

/-- A frame received: its counters, and the frame itself. -/
def State.frameCounted (s : State) (e corr uncorr : Nat) : State := (s.fecCounted e corr uncorr).count (R.RX_FRAMES_RX_FRAMES e)

theorem State.frameCounted_spec (corr uncorr : Nat) : s.OnRegs (s.frameCounted e corr uncorr) ∧
    (s.frameCounted e corr uncorr).get (R.RX_FRAMES_RX_FRAMES e) = min (s.get (R.RX_FRAMES_RX_FRAMES e) + 1) 4294967295 ∧
    (∀ a, a ≠ R.RX_FRAMES e → (s.frameCounted e corr uncorr).reg a = (s.fecCounted e corr uncorr).reg a) ∧
    ∀ a, HostCfg a → (s.frameCounted e corr uncorr).reg a = s.reg a := by
  refine ⟨.count (State.fecCounted_onRegs ..), ?_, fun a ha => State.reg_count _ (R.RX_FRAMES_RX_FRAMES e) ha,
    fun a ha => (State.rxCounted_cfg _ ha).trans (State.fecCounted_cfg s corr uncorr ha)⟩
  unfold State.frameCounted
  rw [State.get_count _ (R.RX_FRAMES_RX_FRAMES e), show (s.fecCounted e corr uncorr).get (R.RX_FRAMES_RX_FRAMES e) = s.get (R.RX_FRAMES_RX_FRAMES e) from
    congrArg (Field.of _) (State.fecCounted_reg s corr uncorr (by simp only [R.RX_FRAMES_RX_FRAMES, R.RX_FRAMES, R.FEC_CORR]; omega)
      (by simp only [R.RX_FRAMES_RX_FRAMES, R.RX_FRAMES, R.FEC_UNCORR]; omega))]
  rfl

end

/-! ### How a frame is treated -/

section
variable {s t : State} (h : ∀ a, HostCfg a → t.reg a = s.reg a)
include h

theorem State.get_of_cfg {f : Field} (hf : HostCfg f.addr := by exact of_decide_eq_true rfl) : t.get f = s.get f := congrArg f.of (h _ hf)

theorem State.stationIp6_congr : t.stationIp6 = s.stationIp6 := by
  unfold State.stationIp6
  refine List.foldl_ext _ _ _ fun n i hi => ?_
  have := List.mem_range.1 hi
  rw [State.get_of_cfg h (by simp only [HostCfg, R.HP_IP6_ADDR, R.HP_IP6]; omega)]

theorem State.ecpriOf_congr (l : List Byte) : t.ecpriOf l = s.ecpriOf l := by
  unfold State.ecpriOf
  rw [State.get_of_cfg h (f := R.HP_CTRL_XPORT), State.stationIp6_congr h, State.get_of_cfg h (f := R.HP_UDP_PORT)]

/-- A frame's handling depends on the station's settings only. -/
theorem State.classify_congr (l : List Byte) : t.classify l = s.classify l := by
  unfold State.classify State.stationMac State.flag
  rw [State.ecpriOf_congr h, State.get_of_cfg h (f := R.HP_VLAN_VID), State.get_of_cfg h (f := R.HP_CTRL_VLAN_EN),
    State.get_of_cfg h (f := R.HP_MAC_HI_MAC_HI), State.get_of_cfg h (f := R.HP_MAC_LO_MAC_LO), State.get_of_cfg h (f := R.HP_CTRL_HP1_EN)]

theorem State.hp1Port_congr : t.hp1Port = s.hp1Port := by
  unfold State.hp1Port State.fbit
  rw [State.get_of_cfg h (f := R.HP_CTRL_PMAP)]

theorem State.portUp_congr (e : Nat) : t.portUp e = s.portUp e := State.fbit_congr (State.get_of_cfg h) e

end

/-! ### Forwarding to and from HP1 (R313, R314) -/

theorem tcCorrect_field {l : List Byte} {res : Int} {f : Field} (h : (tcCorrect l res).2 = some f) :
    f.addr = R.HP_TC_CNT := by
  have hd : f = R.HP_TC_CNT_TC_DONE ∨ f = R.HP_TC_CNT_TC_UNSUP := by
    revert h
    unfold tcCorrect
    split
    extract_lets c
    split_ifs <;> simp (contextual := true) [eq_comm]
  rcases hd with rfl | rfl <;> rfl

section
variable (s : State) (l : List Byte) (res : Int)

theorem State.forward_full (to1 : Bool) : s.forward l res false to1 = s.count R.HP_FWD_CNT_FWD_OVF := rfl

theorem State.forward_toHp1 (htc : s.flag R.HP_CTRL_TC_EN = false) (hp : s.portUp s.hp1Port = true) :
    s.forward l res true true = (s.count (R.TX_FRAMES_TX_FRAMES s.hp1Port)).emit (.toHp1 l) := by
  unfold State.forward
  rw [if_neg (by decide), if_neg (by simp [hp]), if_neg (by simp [htc])]
  rfl

/-- A frame forwarded to E0: the transparent clock's correction, if it is on, and the counters. -/
theorem State.forward_toE0 (hp : s.portUp 0 = true) : ∃ u, s.OnRegs u ∧ (∀ g : Field, g.addr ≠ R.HP_TC_CNT → u.get g = s.get g) ∧
    s.forward l res true false = (u.count (R.TX_FRAMES_TX_FRAMES 0)).emit (.frame 0 (if s.flag R.HP_CTRL_TC_EN then (tcCorrect l res).1 else l)) := by
  unfold State.forward
  rw [if_neg (by decide), if_neg (by simp [hp])]
  by_cases htc : s.flag R.HP_CTRL_TC_EN = true
  · rw [if_pos htc, if_pos htc]
    have hf := @tcCorrect_field l res
    generalize tcCorrect l res = r at *
    obtain ⟨m, c⟩ := r
    cases c with
    | none => exact ⟨s, .refl s, fun _ _ => rfl, rfl⟩
    | some f => exact ⟨s.count f, .count (.refl s), fun g hg => State.get_put_other s f g _ (by rw [hf rfl]; exact hg), rfl⟩
  · rw [if_neg htc, if_neg htc]
    exact ⟨s, .refl s, fun _ _ => rfl, rfl⟩

/-! ### Frames on an Ethernet port (R312 to R314) -/

section
variable {e : Nat} (corr uncorr : Nat) (bad room : Bool)

theorem State.hpFrame_none (h : s.portUp e = false ∨ s.pwrState = 3) : s.hpFrame e l corr uncorr bad res room = s := by
  unfold State.hpFrame
  exact if_pos (h.imp_left fun h => by simp [h])

/-- What becomes of a frame that is not bad, on a port that HP1 does not use. -/
def State.frameHandled (s : State) (e : Nat) (l : List Byte) (res : Int) (room : Bool) : State :=
  match s.classify l with
  | .rxDrop => s.rxDrop e
  | .notLocal => s.count R.HP_FWD_CNT_NOT_LOCAL
  | .toHp1 => s.forward l res room true
  | .esmc => s.emit (.firmware e (s.rxStamp e) l)
  | .ptp =>
    let s := s.emit (.firmware e (s.rxStamp e) l)
    doIf (s.flag R.HP_CTRL_HP1_EN && s.flag R.HP_CTRL_TC_EN) (fun s => s.forward l res room true) s
  | .ecpri src b =>
    let mac := beNat ((l.drop 6).take 6)
    let cmd := mac * 2 ^ 128 + (if s.get R.HP_CTRL_XPORT = 0 then 0 else src)
    if s.worker then s else forAll (messages false l.length b) (State.message src cmd) s

variable (h1 : s.portUp e = true) (h2 : s.pwrState ≠ 3)
include h1 h2

theorem State.hpFrame_bad : s.hpFrame e l corr uncorr true res room = (s.frameCounted e corr uncorr).rxDrop e := by
  unfold State.hpFrame
  rw [if_neg (by simp [h1, h2])]
  exact ite_self _

theorem State.hpFrame_good (h : s.flag R.HP_CTRL_HP1_EN = false ∨ s.fbit R.HP_CTRL_PMAP e = false) :
    s.hpFrame e l corr uncorr false res room = (s.frameCounted e corr uncorr).frameHandled e l res room := by
  have hc : ∀ a, HostCfg a → (s.fecCounted e corr uncorr).reg a = s.reg a := fun a => State.fecCounted_cfg s corr uncorr
  have hn : ¬ ((s.fecCounted e corr uncorr).flag R.HP_CTRL_HP1_EN = true ∧ (s.fecCounted e corr uncorr).fbit R.HP_CTRL_PMAP e = true) := by
    rw [State.flag_congr (State.get_of_cfg hc), State.fbit_congr (State.get_of_cfg hc)]
    rcases h with h | h <;> simp [h]
  unfold State.hpFrame
  rw [if_neg (by simp [h1, h2])]
  exact if_neg hn

end

/-! ### Frames of the HP1 port -/

theorem State.hp1Forward_none (room : Bool) (h : s.flag R.HP_CTRL_HP1_EN = false ∨ s.portUp s.hp1Port = false) :
    s.hp1Forward l res room = s := by
  unfold State.hp1Forward
  exact if_pos (by rcases h with h | h <;> simp [h])

theorem State.hp1Forward_eq (room : Bool) (h1 : s.flag R.HP_CTRL_HP1_EN = true) (h2 : s.portUp s.hp1Port = true) :
    s.hp1Forward l res room = if 9216 < l.length + 4 then (s.count (R.RX_FRAMES_RX_FRAMES s.hp1Port)).rxDrop s.hp1Port
      else (s.count (R.RX_FRAMES_RX_FRAMES s.hp1Port)).forward l res room false := by
  unfold State.hp1Forward
  exact if_neg (by simp [h1, h2])

theorem State.hp1Port_of_pmap {e : Nat} (he : e < 8) (h : s.get R.HP_CTRL_PMAP = 2 ^ e) : s.hp1Port = e := by
  have hd : ∀ e, e < 8 → ((List.range 8).find? fun k => (2 ^ e).testBit k).getD 0 = e := by decide
  unfold State.hp1Port State.fbit
  rw [h]
  exact hd e he

/-! ### What a frame leaves in the counters -/

section
variable {e : Nat} (corr uncorr : Nat)

/-- A frame counted as received and once more. -/
theorem State.frameCounted_count {f : Field} (h1 : f.addr ≠ R.RX_FRAMES e) (h2 : f.addr ≠ R.FEC_CORR e) (h3 : f.addr ≠ R.FEC_UNCORR e)
    (w : f.fits = true := by rfl) : s.OnRegs ((s.frameCounted e corr uncorr).count f) ∧
    ((s.frameCounted e corr uncorr).count f).get (R.RX_FRAMES_RX_FRAMES e) = min (s.get (R.RX_FRAMES_RX_FRAMES e) + 1) 4294967295 ∧
    ((s.frameCounted e corr uncorr).count f).get f = min (s.get f + 1) (2 ^ f.width - 1) ∧
    ∀ a, a ≠ R.RX_FRAMES e → a ≠ f.addr → ((s.frameCounted e corr uncorr).count f).reg a = (s.fecCounted e corr uncorr).reg a := by
  obtain ⟨k1, k2, k3, -⟩ := State.frameCounted_spec s corr uncorr (e := e)
  have hf : (s.frameCounted e corr uncorr).get f = s.get f := congrArg f.of ((k3 _ h1).trans (State.fecCounted_reg s corr uncorr h2 h3))
  refine ⟨.count k1, (State.get_put_other _ f _ _ (Ne.symm h1)).trans k2, ?_, fun a g1 g2 => (State.reg_count _ f g2).trans (k3 a g1)⟩
  rw [State.get_count _ f w, hf]

theorem State.frameCounted_reg (corr uncorr : Nat) {a : Nat} (h1 : a ≠ R.RX_FRAMES e) (h2 : a ≠ R.FEC_CORR e) (h3 : a ≠ R.FEC_UNCORR e) :
    (s.frameCounted e corr uncorr).reg a = s.reg a :=
  ((State.frameCounted_spec s corr uncorr (e := e)).2.2.1 a h1).trans (State.fecCounted_reg s corr uncorr h2 h3)

theorem State.frameCounted_rxStamp : (s.frameCounted e corr uncorr).rxStamp e = s.rxStamp e := by
  have hr : (s.frameCounted e corr uncorr).reg (R.TS_ADJ e) = s.reg (R.TS_ADJ e) := State.frameCounted_reg s corr uncorr
    (by simp only [R.TS_ADJ, R.RX_FRAMES]; omega) (by simp only [R.TS_ADJ, R.FEC_CORR]; omega) (by simp only [R.TS_ADJ, R.FEC_UNCORR]; omega)
  have ht : (s.frameCounted e corr uncorr).time = s.time := (State.frameCounted_spec s corr uncorr (e := e)).1.keeps State.time
  unfold State.rxStamp State.getS
  rw [ht, show (s.frameCounted e corr uncorr).get (R.TS_ADJ_RX e) = s.get (R.TS_ADJ_RX e) from congrArg (Field.of _) hr]

theorem State.OnRegs.emit_eq {s t : State} (h : s.OnRegs t) (o : Output) :
    t.emit o = { s with regs := (t.emit o).regs, out := (t.emit o).out } ∧ (t.emit o).out = s.out ++ [o] ∧ (t.emit o).regs = t.regs := by
  obtain ⟨r, rfl⟩ := h
  exact ⟨rfl, rfl, rfl⟩

end
end

/-! ### Side frames (R280) -/

section
variable (s : State) {p kind dst src frag : Nat} {l : List Byte}

theorem State.sideFrame_none (h : s.hgCarries p = false) (k c : Bool) (x : Option (List SessCopy)) : s.sideFrame p kind dst src frag l k c x = s := by
  unfold State.sideFrame
  exact if_pos (by simp [h])

variable (h : s.hgCarries p = true)
include h

theorem State.sideFrame_badHeader (c : Bool) (x : Option (List SessCopy)) :
    s.sideFrame p kind dst src frag l false c x = s.count R.CASC_CNT1_HDR_BAD := by
  unfold State.sideFrame
  exact (if_neg (by simp [h])).trans (if_pos rfl)

theorem State.sideFrame_unknown (c : Bool) (x : Option (List SessCopy)) (hk : 7 < kind) : s.sideFrame p kind dst src frag l true c x = s := by
  unfold State.sideFrame
  exact (if_neg (by simp [h])).trans ((if_neg (by decide)).trans (if_pos hk))

theorem State.sideFrame_badCrc (x : Option (List SessCopy)) (hk : kind ≤ 7) : s.sideFrame p kind dst src frag l true false x =
    (s.count R.CASC_CNT1_SIDE_BAD).modCasc fun x => { x with
      parts := eraseKey x.parts (16 * p + kind), dropping := (16 * p + kind) :: x.dropping.filter (· ≠ 16 * p + kind) } := by
  unfold State.sideFrame
  exact (if_neg (by simp [h])).trans ((if_neg (by decide)).trans ((if_neg (by omega)).trans (if_pos rfl)))

theorem State.sideFrame_wrongWay (x : Option (List SessCopy)) (hk : kind ≤ 7) (hw : s.frozen (0x50 + p) = true ∨ s.sideWay p kind = false) :
    s.sideFrame p kind dst src frag l true true x = s.fwdDrop := by
  unfold State.sideFrame
  refine (if_neg (by simp [h])).trans ((if_neg (by decide)).trans ((if_neg (by omega)).trans ((if_neg (by decide)).trans (if_pos ?_))))
  exact hw.imp_right fun e => by simp [e]

omit h in
theorem State.passOn_one {q : Nat} (hq : s.frozen (0x50 + q) = false) : s.passOn [q] kind dst src frag l = s.emit (.side q kind dst src frag l) := by
  unfold State.passOn
  rw [show [q].filter (fun p => !s.frozen (0x50 + p)) = [q] by simp [hq]]
  rfl

variable (hf : s.frozen (0x50 + p) = false) (hw : s.sideWay p kind = true)
include hf hw

/-- A side frame in the right way, for another device: it goes on by ROUTE's port, or is dropped. -/
theorem State.sideFrame_far (hk : kind = 0 ∨ kind = 1 ∨ kind = 3) (h1 : dst ≠ 0xFF) (h2 : dst ≠ s.ownDa) :
    s.sideFrame p kind dst src frag l true true none =
      if s.onward dst = [] then (s.passOn (s.onward dst) kind dst src frag l).fwdDrop else s.passOn (s.onward dst) kind dst src frag l := by
  unfold State.sideFrame
  refine (if_neg (by simp [h])).trans ((if_neg (by decide)).trans ((if_neg (by omega)).trans ((if_neg (by decide)).trans
    ((if_neg (by simp [hf, hw])).trans ((if_neg (by omega)).trans ?_)))))
  rw [show (if kind = 0 ∨ kind = 1 ∨ kind = 3 ∨ (kind = 7 ∧ dst < 64) then s.onward dst else []) = s.onward dst from if_pos (by omega)]
  exact if_pos (by simp [h1, h2]; omega)

/-- A worker passes time and credit frames on to its UP port. -/
theorem State.sideFrame_up (hk : kind = 4 ∨ kind = 5) (hr : s.worker = true) {q : Nat} (hq : s.upPort = some q) :
    s.sideFrame p kind dst src frag l true true none = s.passOn [q] kind dst src frag l := by
  unfold State.sideFrame
  refine (if_neg (by simp [h])).trans ((if_neg (by decide)).trans ((if_neg (by omega)).trans ((if_neg (by decide)).trans
    ((if_neg (by simp [hf, hw])).trans ((if_pos hk).trans ((if_pos hr).trans ?_))))))
  rw [hq]
  rfl

end

theorem State.onward_route (s : State) {dst q : Nat} (h1 : dst ≠ 0xFF) (h2 : dst ≠ s.ownDa) (hr : s.routeOf dst = some q) (hq : q ∈ s.cmdPorts) :
    s.onward dst = [q] := by
  unfold State.onward
  rw [if_neg h1, if_neg h2, hr]
  exact if_pos (by simpa using hq)

theorem State.onward_none (s : State) {dst : Nat} (h1 : dst ≠ 0xFF) (h2 : dst ≠ s.ownDa) (hr : s.routeOf dst = none) : s.onward dst = [] := by
  unfold State.onward
  rw [if_neg h1, if_neg h2, hr]

theorem State.rxCounted_spec (s : State) (e : Nat) : s.OnRegs (s.count (R.RX_FRAMES_RX_FRAMES e)) ∧
    (s.count (R.RX_FRAMES_RX_FRAMES e)).get (R.RX_FRAMES_RX_FRAMES e) = min (s.get (R.RX_FRAMES_RX_FRAMES e) + 1) 4294967295 ∧
    ∀ f : Field, f.addr ≠ R.RX_FRAMES e → (s.count (R.RX_FRAMES_RX_FRAMES e)).get f = s.get f :=
  ⟨.count (.refl s), State.get_count s (R.RX_FRAMES_RX_FRAMES e), fun f hf => State.get_put_other s (R.RX_FRAMES_RX_FRAMES e) f _ hf⟩

/-! ### The statement's families -/

section
variable (s : State) {e : Nat} (l : List Byte) (corr uncorr : Nat) (res : Int) (room : Bool)

/-- A bad or unclassified frame of a port that is not HP1's is counted as received and as dropped. -/
theorem State.hpFrame_dropped (h1 : s.portUp e = true) (h2 : s.pwrState ≠ 3) {bad : Bool}
    (h : bad = true ∨ (s.classify l = .rxDrop ∧ (s.flag R.HP_CTRL_HP1_EN = false ∨ s.fbit R.HP_CTRL_PMAP e = false))) :
    s.hpFrame e l corr uncorr bad res room = (s.frameCounted e corr uncorr).rxDrop e := by
  by_cases hb : bad = true
  · subst hb
    exact State.hpFrame_bad s l res corr uncorr room h1 h2
  · obtain ⟨hc, hh⟩ := h.resolve_left hb
    rw [Bool.eq_false_iff.2 hb, State.hpFrame_good s l res corr uncorr room h1 h2 hh, State.frameHandled,
      State.classify_congr (State.frameCounted_spec s corr uncorr).2.2.2, hc]

/-- A frame that is not bad, of a port that is not HP1's, by its class. -/
theorem State.hpFrame_class (he : e < 8) (h1 : s.portUp e = true) (h2 : s.pwrState ≠ 3)
    (hh : s.flag R.HP_CTRL_HP1_EN = false ∨ s.fbit R.HP_CTRL_PMAP e = false) :
    let t := s.frameCounted e corr uncorr
    (s.classify l = .notLocal → s.hpFrame e l corr uncorr false res room = t.count R.HP_FWD_CNT_NOT_LOCAL) ∧
    (s.classify l = .esmc → s.hpFrame e l corr uncorr false res room = t.emit (.firmware e (s.rxStamp e) l)) ∧
    (s.classify l = .toHp1 → s.hpFrame e l corr uncorr false res room = t.forward l res room true) ∧
    ∀ src b, s.classify l = .ecpri src b → s.worker = true → s.hpFrame e l corr uncorr false res room = t := by
  intro t
  obtain ⟨-, -, -, hcfg⟩ : s.OnRegs t ∧ _ := State.frameCounted_spec s corr uncorr
  have hst : t.rxStamp e = s.rxStamp e := State.frameCounted_rxStamp ..
  have hwk : t.worker = s.worker := State.flag_congr (congrArg R.CASC_STATUS_ROLE.of (State.frameCounted_reg s corr uncorr
    (by simp only [R.CASC_STATUS_ROLE, R.CASC_STATUS, R.RX_FRAMES]; omega) (by simp only [R.CASC_STATUS_ROLE, R.CASC_STATUS, R.FEC_CORR]; omega)
    (by simp only [R.CASC_STATUS_ROLE, R.CASC_STATUS, R.FEC_UNCORR]; omega)))
  rw [State.hpFrame_good s l res corr uncorr room h1 h2 hh, show s.frameCounted e corr uncorr = t from rfl]
  rw [State.frameHandled, State.classify_congr hcfg]
  clear_value t
  refine ⟨fun h => by rw [h], fun h => by rw [h, ← hst], fun h => by rw [h], fun src b h hw => ?_⟩
  rw [h]
  exact if_pos (hwk.trans hw)

end
end Sys2Proof.Machine

open Sys2Proof Sys2Proof.Machine

/-- Settles O42: a frame by what is counted before its handling and by its class, a side frame branch by branch of R280. -/
theorem framesArrive : Obligations.FramesArrive := by
  unfold Obligations.FramesArrive
  intro up
  refine ⟨fun e pcs fec s he => ?_, fun s => ?_, fun e l corr uncorr bad res room s he => ?_, fun l res room s => ?_,
    fun p kind dst src frag l s => ?_⟩
  · intro can
    obtain ⟨⟨r, f, o, hs⟩, k1, k2, k3, k4, -, k5⟩ := State.linkChange_spec s he pcs fec (can := can) rfl
    exact ⟨_, Eq.refl _, by rw [hs], k1, k2, k3, k4, k5⟩
  · obtain ⟨⟨r, f, o, hs⟩, k1, k2⟩ := s.ethrefLoss_spec
    exact ⟨_, Eq.refl _, by rw [hs], k1, k2⟩
  · intro c u h rx
    have hh1 : s.hp1Port = h := rfl
    clear_value h
    refine ⟨fun h0 => congrArg Host.Outcome.next (State.hpFrame_none s l res corr uncorr bad room h0), fun h1 h2 => ⟨fun h0 => ?_, fun hb hh => ?_⟩⟩
    · refine ⟨_, congrArg Host.Outcome.next (State.hpFrame_dropped s l corr uncorr res room h1 h2 h0), ?_⟩
      obtain ⟨k1, k2, k3, k4⟩ := State.frameCounted_count s corr uncorr (e := e) (f := R.RX_DROP_RX_DROP e)
        (by simp only [R.RX_DROP_RX_DROP, R.RX_DROP, R.RX_FRAMES]; omega) (by simp only [R.RX_DROP_RX_DROP, R.RX_DROP, R.FEC_CORR]; omega)
        (by simp only [R.RX_DROP_RX_DROP, R.RX_DROP, R.FEC_UNCORR]; omega)
      exact ⟨k1.eq_with, k2, k3, k4⟩
    · subst hb
      obtain ⟨g1, g2, g3, g4⟩ := State.hpFrame_class s l corr uncorr res room he h1 h2 hh
      obtain ⟨f1, f2, f3, f4⟩ := State.frameCounted_spec s corr uncorr (e := e)
      have hcnt : ∀ f : Field, HostCfg f.addr → f.fits = true → _ := fun f ha w => State.frameCounted_count s corr uncorr (e := e) (f := f)
        (by simp only [HostCfg, R.RX_FRAMES] at *; omega) (by simp only [HostCfg, R.FEC_CORR] at *; omega)
        (by simp only [HostCfg, R.FEC_UNCORR] at *; omega) w
      refine ⟨fun hc => ?_, fun hc => ?_, fun hc hr => ?_, fun hc hr ht hp => ?_, fun src b hc hw => ?_⟩
      · obtain ⟨k1, k2, k3, k4⟩ := hcnt R.HP_FWD_CNT_NOT_LOCAL (of_decide_eq_true rfl) rfl
        exact ⟨_, congrArg Host.Outcome.next (g1 hc), k1.eq_with, k2, k3, k4⟩
      · obtain ⟨k1, k2, k3⟩ := f1.emit_eq (.firmware e (s.rxStamp e) l)
        exact ⟨_, congrArg Host.Outcome.next (g2 hc), k1, f2, k2, f3⟩
      · obtain ⟨k1, k2, k3, -⟩ := hcnt R.HP_FWD_CNT_FWD_OVF (of_decide_eq_true rfl) rfl
        refine ⟨_, congrArg Host.Outcome.next (g3 hc), ?_⟩
        rw [hr]
        exact ⟨k1.eq_with, k2, k3⟩
      · have hw : (s.frameCounted e corr uncorr).forward l res room true =
            ((s.frameCounted e corr uncorr).count (R.TX_FRAMES_TX_FRAMES h)).emit (.toHp1 l) := by
          rw [hr, ← hh1, ← State.hp1Port_congr f4]
          refine State.forward_toHp1 _ l res ((State.flag_congr (State.get_of_cfg f4)).trans ht) ?_
          rw [State.hp1Port_congr f4, State.portUp_congr f4, hh1]
          exact hp
        obtain ⟨k1, k2, k3, k4⟩ := State.frameCounted_count s corr uncorr (e := e) (f := R.TX_FRAMES_TX_FRAMES h)
          (by simp only [R.TX_FRAMES_TX_FRAMES, R.TX_FRAMES, R.RX_FRAMES]; omega) (by simp only [R.TX_FRAMES_TX_FRAMES, R.TX_FRAMES, R.FEC_CORR]; omega)
          (by simp only [R.TX_FRAMES_TX_FRAMES, R.TX_FRAMES, R.FEC_UNCORR]; omega)
        generalize (s.frameCounted e corr uncorr).count (R.TX_FRAMES_TX_FRAMES h) = v at hw k1 k2 k3 k4
        obtain ⟨j1, j2, -⟩ := k1.emit_eq (.toHp1 l)
        exact ⟨_, congrArg Host.Outcome.next ((g3 hc).trans hw), j1, k2, j2, k3, k4⟩
      · exact ⟨_, congrArg Host.Outcome.next (g4 src b hc hw), f1.eq_with, f2, f3⟩
  · intro c
    refine ⟨fun h => congrArg Host.Outcome.next (State.hp1Forward_none s l res room h), fun e he h1 h2 h3 => ?_⟩
    intro rx
    have hp := s.hp1Port_of_pmap he h2
    have heq := s.hp1Forward_eq l res room h1 (hp ▸ h3)
    rw [hp] at heq
    obtain ⟨f1, f2, f3⟩ := s.rxCounted_spec e
    refine ⟨fun hl => ?_, fun hl hr => ?_, fun hl hr h0 => ?_⟩
    · refine ⟨_, congrArg Host.Outcome.next (heq.trans (if_pos (by omega))), f1.count.eq_with, ?_, ?_⟩
      · exact (State.get_put_other _ (R.RX_DROP_RX_DROP e) _ _ (by simp only [R.RX_DROP_RX_DROP, R.RX_DROP, R.RX_FRAMES_RX_FRAMES, R.RX_FRAMES]; omega)).trans f2
      · exact (State.get_count _ (R.RX_DROP_RX_DROP e)).trans (by rw [f3 _ (by simp only [R.RX_DROP_RX_DROP, R.RX_DROP, R.RX_FRAMES]; omega)]; rfl)
    · have hw := heq.trans (if_neg (by omega))
      rw [show (s.count (R.RX_FRAMES_RX_FRAMES e)).forward l res room false = (s.count (R.RX_FRAMES_RX_FRAMES e)).count R.HP_FWD_CNT_FWD_OVF by
        rw [hr, State.forward_full]] at hw
      refine ⟨_, congrArg Host.Outcome.next hw, f1.count.eq_with, ?_, ?_⟩
      · exact (State.get_put_other _ R.HP_FWD_CNT_FWD_OVF _ _ (by simp only [R.HP_FWD_CNT_FWD_OVF, R.HP_FWD_CNT, R.RX_FRAMES_RX_FRAMES, R.RX_FRAMES]; omega)).trans f2
      · exact (State.get_count _ R.HP_FWD_CNT_FWD_OVF).trans (by rw [f3 _ (by simp only [R.HP_FWD_CNT_FWD_OVF, R.HP_FWD_CNT, R.RX_FRAMES]; omega)]; rfl)
    · have hw := heq.trans (if_neg (by omega))
      have hcfg : ∀ a, HostCfg a → (s.count (R.RX_FRAMES_RX_FRAMES e)).reg a = s.reg a := fun a => s.rxCounted_cfg
      obtain ⟨u, u1, u2, u3⟩ := (s.count (R.RX_FRAMES_RX_FRAMES e)).forward_toE0 l res ((State.portUp_congr hcfg 0).trans h0)
      rw [show (s.count (R.RX_FRAMES_RX_FRAMES e)).forward l res room false = (s.count (R.RX_FRAMES_RX_FRAMES e)).forward l res true false by rw [hr],
        u3, State.flag_congr (State.get_of_cfg hcfg)] at hw
      have hrx : (u.count (R.TX_FRAMES_TX_FRAMES 0)).get (R.RX_FRAMES_RX_FRAMES e) = u.get (R.RX_FRAMES_RX_FRAMES e) :=
        State.get_put_other u (R.TX_FRAMES_TX_FRAMES 0) _ _
          (by simp only [R.RX_FRAMES_RX_FRAMES, R.RX_FRAMES, R.TX_FRAMES_TX_FRAMES, R.TX_FRAMES]; omega)
      have htx := State.get_count u (R.TX_FRAMES_TX_FRAMES 0)
      rw [u2 _ (by simp only [R.TX_FRAMES_TX_FRAMES, R.TX_FRAMES, R.HP_TC_CNT]; omega),
        f3 _ (by simp only [R.TX_FRAMES_TX_FRAMES, R.TX_FRAMES, R.RX_FRAMES]; omega)] at htx
      have hall := (f1.trans u1).count (f := R.TX_FRAMES_TX_FRAMES 0)
      rw [u2 _ (by simp only [R.RX_FRAMES_RX_FRAMES, R.RX_FRAMES, R.HP_TC_CNT]; omega), f2] at hrx
      generalize u.count (R.TX_FRAMES_TX_FRAMES 0) = v at hw hrx htx hall
      obtain ⟨j1, j2, -⟩ := hall.emit_eq (.frame 0 (if s.flag R.HP_CTRL_TC_EN then (tcCorrect l res).1 else l))
      exact ⟨_, congrArg Host.Outcome.next hw, j1, hrx, htx, j2⟩
  · intro c
    refine ⟨fun h k q x => congrArg Host.Outcome.next (State.sideFrame_none s h k q x), fun h => ⟨fun k x => ?_, fun k x hk => ?_, fun x hk => ?_,
      fun x hk hw => ?_, fun hf hw hk h1 h2 => ⟨fun q hr hq hq' => ?_, fun hr => ?_⟩, fun hf hw hk hr q hq hq' => ?_⟩⟩
    · exact ⟨_, congrArg Host.Outcome.next (State.sideFrame_badHeader s h k x), (State.OnRegs.refl s).count.eq_with,
        State.get_count s R.CASC_CNT1_HDR_BAD, fun a ha => State.reg_count s R.CASC_CNT1_HDR_BAD ha⟩
    · exact congrArg Host.Outcome.next (State.sideFrame_unknown s h k x hk)
    · have hg := State.get_count s R.CASC_CNT1_SIDE_BAD
      have hr : ∀ a, a ≠ R.CASC_CNT1 → _ := fun a => State.reg_count s R.CASC_CNT1_SIDE_BAD
      have ho : s.OnRegs (s.count R.CASC_CNT1_SIDE_BAD) := .count (.refl s)
      have he := State.sideFrame_badCrc s (dst := dst) (src := src) (frag := frag) (l := l) h x hk
      generalize s.count R.CASC_CNT1_SIDE_BAD = u at he hg hr ho
      obtain ⟨r, rfl⟩ := ho
      exact ⟨_, congrArg Host.Outcome.next he, rfl, hg, look_eraseKey_same _ _, hr⟩
    · exact ⟨_, congrArg Host.Outcome.next (State.sideFrame_wrongWay s h x hk hw), (State.OnRegs.refl s).count.eq_with,
        State.get_count s R.CASC_CNT1_FWD_DROP, fun a ha => State.reg_count s R.CASC_CNT1_FWD_DROP ha⟩
    · refine congrArg Host.Outcome.next ((State.sideFrame_far s h hf hw hk h1 h2).trans ?_)
      rw [State.onward_route s h1 h2 hr hq]
      exact (if_neg (by simp)).trans (State.passOn_one s hq')
    · have he := State.sideFrame_far s (src := src) (frag := frag) (l := l) h hf hw hk h1 h2
      rw [State.onward_none s h1 h2 hr] at he
      exact ⟨_, congrArg Host.Outcome.next (he.trans (if_pos rfl)), (State.OnRegs.refl s).count.eq_with,
        State.get_count s R.CASC_CNT1_FWD_DROP⟩
    · exact congrArg Host.Outcome.next ((State.sideFrame_up s h hf hw hk hr hq).trans (State.passOn_one s hq'))
end

section
/-! Hedgerow ports: what their operations leave of a port's own registers (R263 to R268). -/

namespace Sys2Proof.Machine

/-- The registers of a port before its counters (control, status, lanes, latency, settings, capabilities), and the flags of the
crossings. -/
def PortReg (p a : Nat) : Prop := (0x11500000 + p * 0x10000 ≤ a ∧ a < 0x11500060 + p * 0x10000) ∨ a = R.XMON_STATUS

/-- From `s` on port `p` kept its registers and every port its exchange; neither time nor memory moved. -/
structure State.PortKept (p : Nat) (s t : State) : Prop where
  get : ∀ g : Field, PortReg p g.addr → t.get g = s.get g
  hg : t.hg = s.hg
  now : t.now = s.now
  mem : t.mem = s.mem

theorem PortReg.quiet {p a : Nat} (hp : p < 4) (h : PortReg p a) : quietBlock (a / 2 ^ 20) = true := by
  rcases h with h | rfl
  · rw [show a / 2 ^ 20 = 0x115 by omega]
    rfl
  · rfl

namespace State.PortKept
variable {p : Nat} {s t u : State}

theorem refl (p : Nat) (s : State) : s.PortKept p s := ⟨fun _ _ => rfl, rfl, rfl, rfl⟩

theorem trans (h : s.PortKept p t) (k : t.PortKept p u) : s.PortKept p u :=
  ⟨fun g hg => (k.get g hg).trans (h.get g hg), k.hg.trans h.hg, k.now.trans h.now, k.mem.trans h.mem⟩

theorem alarmed (hp : p < 4) (h : s.PortKept p t) (k : t.Alarmed u) : s.PortKept p u :=
  h.trans ⟨fun _ hg => k.get_of_block (hg.quiet hp), k.keeps State.hg, k.keeps State.now, k.keeps State.mem⟩

theorem put {f : Field} {v : Nat} (h : s.PortKept p t) (hf : ¬PortReg p f.addr) : s.PortKept p (t.put f v) :=
  h.trans ⟨fun g hg => State.get_put_other t f g v fun e => hf (e ▸ hg), State.put_hg .., State.put_now .., State.put_mem ..⟩

theorem count {f : Field} (h : s.PortKept p t) (hf : ¬PortReg p f.addr) : s.PortKept p (t.count f) := h.put hf

theorem emit {o : Output} (h : s.PortKept p t) : s.PortKept p (t.emit o) := h.trans ⟨fun _ _ => rfl, rfl, rfl, rfl⟩

theorem modCasc {f : CascX → CascX} (h : s.PortKept p t) : s.PortKept p (t.modCasc f) := h.trans ⟨fun _ _ => rfl, rfl, rfl, rfl⟩

theorem event {e : Event} (hp : p < 4) (h : s.PortKept p t) : s.PortKept p (t.event e) := h.alarmed hp (.event (.refl t))

theorem report {r : Report} (hp : p < 4) (h : s.PortKept p t) (hu : r.unit < 0x40) : s.PortKept p (t.report r) :=
  h.alarmed hp (.report (.refl t) hu)

theorem settle (hp : p < 4) (h : s.PortKept p t) : s.PortKept p t.settle := h.alarmed hp (.settle (.refl t))

theorem doIf {b : Bool} {f : State → State} (h : s.PortKept p t) (k : ∀ u, s.PortKept p u → s.PortKept p (f u)) :
    s.PortKept p (Machine.doIf b f t) := doIf_keeps _ b f k t h

theorem forAll {α : Type} {l : List α} {f : α → State → State} (h : s.PortKept p t)
    (k : ∀ a ∈ l, ∀ u, s.PortKept p u → s.PortKept p (f a u)) : s.PortKept p (Machine.forAll l f t) := forAll_keeps _ l f k t h

theorem hgState (h : s.PortKept p t) : t.hgState p = s.hgState p := h.get _ (.inl (by simp only [R.HG_STATUS_STATE, R.HG_STATUS]; omega))

theorem hgx (h : s.PortKept p t) (q : Nat) : t.hgx q = s.hgx q := by
  unfold State.hgx
  rw [h.hg]

theorem treeLost (hp : p < 4) (h : s.PortKept p t) : s.PortKept p (t.treeLost p) := by
  unfold State.treeLost
  split
  · exact h.event hp
  · exact h

theorem linkShort (hp : p < 4) (h : s.PortKept p t) : s.PortKept p (t.linkShort p) := by
  have hr : s.PortKept p (t.raiseBit R.CASC_STATUS_SHORT p) := by
    refine h.put ?_
    simp only [PortReg, R.CASC_STATUS_SHORT, R.CASC_STATUS, R.XMON_STATUS]
    omega
  unfold State.linkShort
  extract_lets role
  generalize t.portFits p role = x
  dsimp only
  split
  · exact h
  · exact doIf hr.modCasc fun _ k => k.event hp

end State.PortKept

/-! ### Lanes, state and exchange of a port -/

section
variable (s : State) {p : Nat}

theorem lanesIn_le (m : Nat) : lanesIn m ≤ 24 := by
  unfold lanesIn bitList
  exact (List.length_filter_le ..).trans (by simp)

/-- Both widths follow the lanes in use. -/
theorem State.setLanes_spec (p rx tx : Nat) : s.OnRegs (s.setLanes p rx tx) ∧
    (s.setLanes p rx tx).get (R.HG_RX_LANES_LANES p) = rx % 2 ^ 24 ∧ (s.setLanes p rx tx).get (R.HG_TX_LANES_LANES p) = tx % 2 ^ 24 ∧
    (s.setLanes p rx tx).get (R.HG_STATUS_RX_W p) = lanesIn rx ∧ (s.setLanes p rx tx).get (R.HG_STATUS_TX_W p) = lanesIn tx ∧
    ∀ g : Field, g.addr ≠ R.HG_RX_LANES p → g.addr ≠ R.HG_TX_LANES p → (R.HG_STATUS_RX_W p).Apart g → (R.HG_STATUS_TX_W p).Apart g →
      (s.setLanes p rx tx).get g = s.get g := by
  have ha : R.HG_RX_LANES p ≠ R.HG_TX_LANES p := by simp only [R.HG_RX_LANES, R.HG_TX_LANES]; omega
  have h1 : R.HG_RX_LANES p ≠ R.HG_STATUS p := by simp only [R.HG_RX_LANES, R.HG_STATUS]; omega
  have h2 : R.HG_TX_LANES p ≠ R.HG_STATUS p := by simp only [R.HG_TX_LANES, R.HG_STATUS]; omega
  unfold State.setLanes
  refine ⟨.put (.put (.put (.put (.refl s)))), ?_, ?_, ?_, ?_, fun g g1 g2 g3 g4 => ?_⟩
  · rw [State.get_put_other _ (R.HG_STATUS_TX_W p) _ _ h1, State.get_put_other _ (R.HG_STATUS_RX_W p) _ _ h1,
      State.get_put_other _ (R.HG_TX_LANES_LANES p) _ _ ha, State.get_put _ _]
    rfl
  · rw [State.get_put_other _ (R.HG_STATUS_TX_W p) _ _ h2, State.get_put_other _ (R.HG_STATUS_RX_W p) _ _ h2, State.get_put _ _]
    rfl
  · rw [State.get_put_apart _ _ .below, State.get_put _ _]
    exact Nat.mod_eq_of_lt (Nat.lt_of_le_of_lt (lanesIn_le rx) (Nat.le_of_ble_eq_true rfl))
  · rw [State.get_put _ _]
    exact Nat.mod_eq_of_lt (Nat.lt_of_le_of_lt (lanesIn_le tx) (Nat.le_of_ble_eq_true rfl))
  · rw [State.get_put_apart _ _ g4, State.get_put_apart _ _ g3, State.get_put_other _ (R.HG_TX_LANES_LANES p) _ _ g2,
      State.get_put_other _ (R.HG_RX_LANES_LANES p) _ _ g1]

/-- A port's state and its TIMED bit; a port that carries nothing any more has told nothing. -/
theorem State.setHg_spec {st : Nat} (h : st < 16) : (∃ regs fe, s.setHg p st = { s with regs := regs, fe := fe }) ∧
    (s.setHg p st).hgState p = st ∧
    ∀ g : Field, (R.HG_STATUS_STATE p).Apart g → (R.HG_STATUS_TIMED p).Apart g → (s.setHg p st).get g = s.get g := by
  unfold State.setHg
  extract_lets u
  have hu : s.OnRegs u := .put (.put (.refl s))
  have k1 : u.hgState p = st := by
    refine (State.get_put_apart _ _ .above).trans ((State.get_put s _).trans (Nat.mod_eq_of_lt h))
  have k2 : ∀ g : Field, (R.HG_STATUS_STATE p).Apart g → (R.HG_STATUS_TIMED p).Apart g → u.get g = s.get g := fun g g1 g2 =>
    (State.get_put_apart _ _ g2).trans (State.get_put_apart _ _ g1)
  clear_value u
  obtain ⟨r, rfl⟩ := hu
  split
  · exact ⟨⟨_, _, rfl⟩, k1, k2⟩
  · exact ⟨⟨_, _, rfl⟩, k1, k2⟩

theorem State.modHg_get (s : State) (p : Nat) (f : HgX → HgX) (g : Field) : (s.modHg p f).get g = s.get g := rfl

theorem State.modHg_hgx {f : HgX → HgX} (h : p < s.hg.length) : (s.modHg p f).hgx p = f (s.hgx p) := getD_updAt_same f _ h

/-- A port at rest has no lane and no exchange under way. -/
theorem State.hgQuiet_spec (p : Nat) : (∃ regs hg, s.hgQuiet p = { s with regs := regs, hg := hg }) ∧ (s.hgQuiet p).hg.length = s.hg.length ∧
    (s.hgQuiet p).get (R.HG_STATUS_RX_W p) = 0 ∧ (s.hgQuiet p).get (R.HG_STATUS_TX_W p) = 0 := by
  obtain ⟨k1, -, -, k2, k3, -⟩ := s.setLanes_spec p 0 0
  unfold State.hgQuiet
  have g1 := (State.get_put_apart (s.setLanes p 0 0) (f := R.HG_STATUS_NO_ALIGN p) 0 .below).trans k2
  have g2 := (State.get_put_apart (s.setLanes p 0 0) (f := R.HG_STATUS_NO_ALIGN p) 0 .below).trans k3
  have hs : s.OnRegs ((s.setLanes p 0 0).put (R.HG_STATUS_NO_ALIGN p) 0) := .put k1
  generalize (s.setLanes p 0 0).put (R.HG_STATUS_NO_ALIGN p) 0 = u at *
  obtain ⟨r, rfl⟩ := hs
  exact ⟨⟨_, _, rfl⟩, length_updAt _ _ _, g1, g2⟩

/-- A port that goes down: quiet, its cause shown, its end told (R35). -/
def State.hgEnded (s : State) (p cause : Nat) : State := ((s.hgQuiet p).setHg p hgDown).put (R.HG_STATUS_CAUSE p) cause

theorem State.hgEnded_spec {c : Nat} (hc : c < 16) : (∃ regs fe hg, s.hgEnded p c = { s with regs := regs, fe := fe, hg := hg }) ∧
    (s.hgEnded p c).hgState p = hgDown ∧ (s.hgEnded p c).get (R.HG_STATUS_CAUSE p) = c ∧ (s.hgEnded p c).get (R.HG_STATUS_RX_W p) = 0 ∧
    (s.hgEnded p c).get (R.HG_STATUS_TX_W p) = 0 := by
  obtain ⟨⟨r, hg, k1⟩, -, k2, k3⟩ := s.hgQuiet_spec p
  obtain ⟨⟨r', fe, j1⟩, j2, j3⟩ := (s.hgQuiet p).setHg_spec (p := p) (st := hgDown) (by decide)
  unfold State.hgEnded
  rw [← j3 _ .below .below] at k2 k3
  have hs : s.hgQuiet p = _ := k1
  generalize (s.hgQuiet p).setHg p hgDown = u at *
  have ho : u.OnRegs (u.put (R.HG_STATUS_CAUSE p) c) := .put (.refl u)
  have g1 := State.get_put_apart u (f := R.HG_STATUS_CAUSE p) c (g := R.HG_STATUS_STATE p) .above
  have g2 := (State.get_put u (f := R.HG_STATUS_CAUSE p) c).trans (Nat.mod_eq_of_lt hc)
  have g3 := State.get_put_apart u (f := R.HG_STATUS_CAUSE p) c (g := R.HG_STATUS_RX_W p) .below
  have g4 := State.get_put_apart u (f := R.HG_STATUS_CAUSE p) c (g := R.HG_STATUS_TX_W p) .below
  generalize u.put (R.HG_STATUS_CAUSE p) c = v at *
  refine ⟨?_, g1.trans j2, g2, g3.trans k2, g4.trans k3⟩
  obtain ⟨r'', rfl⟩ := ho
  rw [j1, k1]
  exact ⟨_, _, _, rfl⟩

theorem R.XMON_STATUS_ne (p : Nat) (hp : p < 4) : R.XMON_STATUS ≠ R.HG_STATUS p ∧ R.XMON_STATUS ≠ R.HG_RX_LANES p ∧ R.XMON_STATUS ≠ R.HG_TX_LANES p := by
  simp only [R.XMON_STATUS, R.HG_STATUS, R.HG_RX_LANES, R.HG_TX_LANES]
  omega

theorem State.hgEnded_xmon (hp : p < 4) (c : Nat) {g : Field} (hg : g.addr = R.XMON_STATUS) : (s.hgEnded p c).get g = s.get g := by
  obtain ⟨h1, h2, h3⟩ := R.XMON_STATUS_ne p hp
  rw [← hg] at h1 h2 h3
  unfold State.hgEnded State.hgQuiet
  rw [State.get_put_other _ (R.HG_STATUS_CAUSE p) _ _ h1, (State.setHg_spec _ (Nat.le_of_ble_eq_true rfl)).2.2 g (.inl h1) (.inl h1),
    State.modHg_get, State.get_put_other _ (R.HG_STATUS_NO_ALIGN p) _ _ h1, (State.setLanes_spec s p 0 0).2.2.2.2.2 g h2 h3 (.inl h1) (.inl h1)]

theorem State.hgGoDown_kept (hp : p < 4) (c : Nat) : (s.hgEnded p c).PortKept p (s.hgGoDown p c) := by
  unfold State.hgGoDown
  have hc : (s.hgEnded p c).PortKept p ((s.hgEnded p c).count (R.HG_CNT0_DOWNS p)) :=
    .count (.refl ..) (by simp only [PortReg, R.HG_CNT0_DOWNS, R.HG_CNT0, R.XMON_STATUS]; omega)
  have he := hc.doIf (b := c ≠ hcRemote) (f := fun s => s.emit (.link p (.downNotice c))) fun _ k => k.emit
  exact .treeLost hp (.report hp (.event hp he) (by simp only [mkReport]; omega))

/-- The end of a port (R35, R263). -/
theorem State.hgGoDown_spec (hp : p < 4) {c : Nat} (hc : c < 16) : (s.hgGoDown p c).hgState p = hgDown ∧
    (s.hgGoDown p c).get (R.HG_STATUS_CAUSE p) = c ∧ (s.hgGoDown p c).mem = s.mem ∧ (s.hgGoDown p c).get (R.HG_STATUS_RX_W p) = 0 ∧
    (s.hgGoDown p c).get (R.HG_STATUS_TX_W p) = 0 ∧ (s.hgGoDown p c).now = s.now := by
  have hk := s.hgGoDown_kept hp c
  obtain ⟨⟨r, fe, hg, k0⟩, k1, k2, k3, k4⟩ := s.hgEnded_spec (p := p) hc
  have hr : ∀ f : Field, f.addr = R.HG_STATUS p → (s.hgGoDown p c).get f = (s.hgEnded p c).get f := fun f hf =>
    hk.get f (.inl (by rw [hf]; simp only [R.HG_STATUS]; omega))
  exact ⟨(hr _ rfl).trans k1, (hr _ rfl).trans k2, hk.mem.trans (by rw [k0]), (hr _ rfl).trans k3, (hr _ rfl).trans k4,
    hk.now.trans (by rw [k0])⟩

end
end Sys2Proof.Machine
end

section
/-! Lane repair and electrical idle of a Hedgerow port (R263 to R268). -/

namespace Sys2Proof.Machine

/-! ### Lanes that fail -/

theorem lanesIn_two_pow {lane : Nat} (h : lane < 24) : lanesIn (2 ^ lane) = 1 := by
  have hd : ∀ n, n < 24 → lanesIn (2 ^ n) = 1 := by decide
  exact hd lane h

theorem setBit_zero {lane : Nat} (h : lane < 24) : setBit 0 lane true = 2 ^ lane := by
  have hd : ∀ n, n < 24 → setBit 0 n true = 2 ^ n := by decide
  exact hd lane h

section
variable (s : State) {p : Nat}

/-- Errors of a lane are counted in its register and in the window of the port. -/
theorem State.laneErrors_spec (hl : p < s.hg.length) (lane n : Nat) (h : lane < 24) :
    (∃ regs hg, s.laneErrors p lane n = { s with regs := regs, hg := hg }) ∧ (s.laneErrors p lane n).hg.length = s.hg.length ∧
    (s.laneErrors p lane n).get (R.HG_LANE_ERR_COUNT p lane) = min (s.get (R.HG_LANE_ERR_COUNT p lane) + n) 4294967295 ∧
    (∀ g : Field, g.addr < 0x11500100 + p * 0x10000 → (s.laneErrors p lane n).get g = s.get g) ∧
    ∃ errs w, (s.laneErrors p lane n).hgx p = { s.hgx p with errs := errs, errWin := w } := by
  unfold State.laneErrors
  extract_lets w
  have hg := State.get_countBy s (R.HG_LANE_ERR_COUNT p lane) n
  have hr : ∀ g : Field, g.addr < 0x11500100 + p * 0x10000 → (s.countBy (R.HG_LANE_ERR_COUNT p lane) n).get g = s.get g := fun g hg =>
    State.get_put_other s (R.HG_LANE_ERR_COUNT p lane) g _ (by simp only [R.HG_LANE_ERR_COUNT, R.HG_LANE_ERR]; omega)
  have ho : s.OnRegs (s.countBy (R.HG_LANE_ERR_COUNT p lane) n) := .countBy (.refl s)
  generalize s.countBy (R.HG_LANE_ERR_COUNT p lane) n = u at *
  obtain ⟨r, rfl⟩ := ho
  exact ⟨⟨_, _, rfl⟩, length_updAt _ _ _, hg, hr, _, _, State.modHg_hgx _ hl⟩

theorem State.hgLaneFail_none (h : s.hgCarries p = false) (lane n : Nat) (lost : Bool) : s.hgLaneFail p lane n lost = s := by
  unfold State.hgLaneFail
  exact if_pos (by simp [h])

variable (h : s.hgCarries p = true)
include h

theorem State.hgLaneFail_clock (n : Nat) (lost : Bool) : s.hgLaneFail p 24 n lost = s.hgGoDown p hcClock := by
  unfold State.hgLaneFail
  exact (if_neg (by simp [h])).trans (if_pos rfl)

/-- Errors up to the threshold are counted, no more. -/
theorem State.hgLaneFail_counted {lane n : Nat} (hn : lane < 24) {e : State} (he : e = s.laneErrors p lane n)
    (ht : (e.hgx p).errs.getD lane 0 ≤ e.get (R.HG_ERR_CFG_LANE_ERR_THR p)) : s.hgLaneFail p lane n false = e := by
  subst he
  unfold State.hgLaneFail
  exact (if_neg (by simp [h])).trans ((if_neg (by omega)).trans (if_neg (by simpa using ht)))

/-- The repair that a lost lane starts when none is under way. -/
def State.firstRepair (s : State) (lane : Nat) : Repair := { lanes := 2 ^ lane, at0 := s.now, acked := false, instant := s.repairInstant }

/-- A lane lost while no repair is under way: too few would be left, or a repair starts (R263). -/
theorem State.hgLaneFail_lost {lane n : Nat} (hn : lane < 24) {e : State} (he : e = s.laneErrors p lane n) (hf : (e.hgx p).rxFix = none) :
    s.hgLaneFail p lane n true =
      if e.get (R.HG_STATUS_RX_W p) - 1 < (e.hgx p).minLanes then e.hgGoDown p hcWidth
      else (e.modHg p fun x => { x with rxFix := some (e.firstRepair lane) }).emit (.link p (.laneDrop (2 ^ lane) e.repairInstant)) := by
  unfold State.hgLaneFail
  rw [← he, if_neg (by simp [h]), if_neg (by omega)]
  refine (if_pos (by simp)).trans ?_
  rw [hf]
  refine (if_neg (by simp)).trans ?_
  dsimp only
  rw [setBit_zero hn, lanesIn_two_pow hn]
  rfl

end

/-! ### A repair under way -/

section
variable (s : State) {p : Nat}

theorem State.hgLaneDrop_none (lanes instant : Nat) (h : s.hgCarries p = false) : s.hgLaneDrop p lanes instant = s := by
  unfold State.hgLaneDrop
  exact if_neg (by simp [h])

theorem State.hgLaneDrop_eq (lanes instant : Nat) (h : s.hgCarries p = true) : s.hgLaneDrop p lanes instant =
    (s.modHg p fun x => { x with txFix := some { lanes := lanes, at0 := s.now, acked := true, instant := instant } }).emit
      (.link p (.laneAck lanes instant)) := by
  unfold State.hgLaneDrop
  exact if_pos h

theorem State.hgAckTimeout_none (h : ∀ f, (s.hgx p).rxFix = some f → f.acked = true) : s.hgAckTimeout p = s := by
  unfold State.hgAckTimeout
  cases hf : (s.hgx p).rxFix with
  | none => rfl
  | some f => exact if_pos (h f hf)

theorem State.hgAckTimeout_eq {f : Repair} (h : (s.hgx p).rxFix = some f) (ha : f.acked = false) :
    s.hgAckTimeout p = (s.advanceTo (f.at0 + 1024)).hgGoDown p hcRemote := by
  unfold State.hgAckTimeout
  rw [h]
  exact if_neg (by simp [ha])

theorem State.hgTryIdle_none (h : s.flag (R.HG_CTRL_IDLE_REQ p) = false) : s.hgTryIdle p = s := by
  unfold State.hgTryIdle
  exact if_neg (by simp [h])

theorem State.hgRepair_none (h1 : (s.hgx p).txFix = none) (h2 : ∀ f, (s.hgx p).rxFix = some f → f.acked = false) : s.hgRepair p = s := by
  unfold State.hgRepair
  cases hf : (s.hgx p).rxFix with
  | none => simp only [hf, h1]
  | some a => simp only [hf, h1, h2 a hf, Bool.false_eq_true, if_false]

/-- A lane given up is counted, told and reported. -/
def State.laneRepaired (p w n : Nat) (s : State) : State :=
  (((s.put (R.HG_EQ_BAD p n) 1).count (R.HG_CNT1_REPAIRS p)).event (.hgLaneRepair p n w)).report (mkReport (0x14 + p) .clsC 0x0011 (n + 256 * w))

/-- The lanes that stay when some leave. -/
def State.lanesLeft (s : State) (f : Field) (lanes : Nat) : Nat := s.get f - (s.get f &&& lanes)

def State.rxLanesSet (s : State) (p rx : Nat) : State :=
  (s.setLanes p rx (s.get (R.HG_TX_LANES_LANES p))).modHg p fun x => { x with rxFix := none }

/-- The lanes leave the receive direction. -/
def State.rxRepaired (s : State) (p lanes : Nat) : State :=
  forAll (bitList 24 lanes) (State.laneRepaired p (lanesIn (s.lanesLeft (R.HG_RX_LANES_LANES p) lanes)))
    (s.rxLanesSet p (s.lanesLeft (R.HG_RX_LANES_LANES p) lanes))

/-- The lanes leave the transmit direction. -/
def State.txRepaired (s : State) (p lanes : Nat) : State :=
  (s.setLanes p (s.get (R.HG_RX_LANES_LANES p)) (s.lanesLeft (R.HG_TX_LANES_LANES p) lanes)).modHg p fun x => { x with txFix := none }

theorem State.hgRepair_rx {a : Repair} (h1 : (s.hgx p).rxFix = some a) (ha : a.acked = true) (h2 : (s.hgx p).txFix = none) :
    s.hgRepair p = ((s.advanceTo a.instant).rxRepaired p a.lanes).hgTryIdle p := by
  unfold State.hgRepair
  simp only [h1, h2, ha, if_true, Nat.le_refl, and_self]
  rfl

theorem State.hgRepair_tx {b : Repair} (h1 : (s.hgx p).txFix = some b) (h2 : (s.hgx p).rxFix = none) :
    s.hgRepair p = ((s.advanceTo b.instant).txRepaired p b.lanes).hgTryIdle p := by
  unfold State.hgRepair
  simp only [h1, h2, if_true, Nat.le_refl]
  rfl

theorem State.lanesLeft_lt (f : Field) (lanes : Nat) : s.lanesLeft f lanes < 2 ^ f.width :=
  Nat.lt_of_le_of_lt (Nat.sub_le ..) (s.get_lt f)

theorem State.laneRepaired_kept (hp : p < 4) (w m : Nat) : s.PortKept p (forAll (bitList 24 m) (State.laneRepaired p w) s) := by
  refine .forAll (.refl p s) fun n hn u hu => .report hp (.event hp (.count (.put hu ?_) ?_)) (by simp only [mkReport]; omega)
  · have hn : n < 24 := List.mem_range.1 (List.mem_filter.1 hn).1
    simp only [PortReg, R.HG_EQ_BAD, R.HG_EQ, R.XMON_STATUS]
    omega
  · simp only [PortReg, R.HG_CNT1_REPAIRS, R.HG_CNT1, R.XMON_STATUS]
    omega

/-- The lanes of both directions set leave the port's other registers, its control among them. -/
theorem State.setLanes_ctrl (p rx tx : Nat) {g : Field} (hg : g.addr = R.HG_CTRL p) : (s.setLanes p rx tx).get g = s.get g := by
  refine (s.setLanes_spec p rx tx).2.2.2.2.2 g ?_ ?_ (.inl ?_) (.inl ?_) <;> rw [hg]
  · simp only [R.HG_CTRL, R.HG_RX_LANES]; omega
  · simp only [R.HG_CTRL, R.HG_TX_LANES]; omega
  · simp only [R.HG_CTRL, R.HG_STATUS_RX_W, R.HG_STATUS]; omega
  · simp only [R.HG_CTRL, R.HG_STATUS_TX_W, R.HG_STATUS]; omega

theorem State.rxLanesSet_spec (hl : p < s.hg.length) {rx : Nat} (h : rx < 2 ^ 24) :
    (∃ regs hg, s.rxLanesSet p rx = { s with regs := regs, hg := hg }) ∧ ((s.rxLanesSet p rx).hgx p).rxFix = none ∧
    (s.rxLanesSet p rx).get (R.HG_RX_LANES_LANES p) = rx ∧ (s.rxLanesSet p rx).get (R.HG_STATUS_RX_W p) = lanesIn rx ∧
    (s.rxLanesSet p rx).get (R.HG_TX_LANES_LANES p) = s.get (R.HG_TX_LANES_LANES p) ∧
    (s.rxLanesSet p rx).get (R.HG_CTRL_IDLE_REQ p) = s.get (R.HG_CTRL_IDLE_REQ p) := by
  obtain ⟨k0, k1, k2, k3, -, -⟩ := s.setLanes_spec p rx (s.get (R.HG_TX_LANES_LANES p))
  have kc := s.setLanes_ctrl p rx (s.get (R.HG_TX_LANES_LANES p)) (g := R.HG_CTRL_IDLE_REQ p) rfl
  rw [Nat.mod_eq_of_lt h] at k1
  rw [Nat.mod_eq_of_lt (show _ < 2 ^ 24 from s.get_lt (R.HG_TX_LANES_LANES p))] at k2
  unfold State.rxLanesSet
  generalize s.setLanes p rx (s.get (R.HG_TX_LANES_LANES p)) = u at *
  obtain ⟨r, rfl⟩ := k0
  exact ⟨⟨_, _, rfl⟩, congrArg HgX.rxFix (State.modHg_hgx _ hl), k1, k3, k2, kc⟩

theorem State.rxRepaired_spec (hp : p < 4) (hl : p < s.hg.length) (lanes : Nat) {rx : Nat} (hrx : rx = s.lanesLeft (R.HG_RX_LANES_LANES p) lanes) :
    (s.rxRepaired p lanes).now = s.now ∧ (s.rxRepaired p lanes).mem = s.mem ∧ ((s.rxRepaired p lanes).hgx p).rxFix = none ∧
    (s.rxRepaired p lanes).get (R.HG_RX_LANES_LANES p) = rx ∧ (s.rxRepaired p lanes).get (R.HG_STATUS_RX_W p) = lanesIn rx ∧
    (s.rxRepaired p lanes).get (R.HG_TX_LANES_LANES p) = s.get (R.HG_TX_LANES_LANES p) ∧
    (s.rxRepaired p lanes).get (R.HG_CTRL_IDLE_REQ p) = s.get (R.HG_CTRL_IDLE_REQ p) := by
  have hlt : rx < 2 ^ 24 := hrx ▸ s.lanesLeft_lt ..
  unfold State.rxRepaired
  rw [← hrx]
  obtain ⟨⟨r, hg, k0⟩, k1, k2, k3, k4, k5⟩ := s.rxLanesSet_spec hl hlt
  have hk := (s.rxLanesSet p rx).laneRepaired_kept hp (lanesIn rx) lanes
  refine ⟨hk.now.trans (by rw [k0]), hk.mem.trans (by rw [k0]), by rw [hk.hgx, k1], (hk.get _ (.inl ?_)).trans k2,
    (hk.get _ (.inl ?_)).trans k3, (hk.get _ (.inl ?_)).trans k4, (hk.get _ (.inl ?_)).trans k5⟩
  · simp only [R.HG_RX_LANES_LANES, R.HG_RX_LANES]; omega
  · simp only [R.HG_STATUS_RX_W, R.HG_STATUS]; omega
  · simp only [R.HG_TX_LANES_LANES, R.HG_TX_LANES]; omega
  · simp only [R.HG_CTRL_IDLE_REQ, R.HG_CTRL]; omega

theorem State.txRepaired_spec (hl : p < s.hg.length) (lanes : Nat) {tx : Nat} (htx : tx = s.lanesLeft (R.HG_TX_LANES_LANES p) lanes) :
    (∃ regs hg, s.txRepaired p lanes = { s with regs := regs, hg := hg }) ∧ ((s.txRepaired p lanes).hgx p).txFix = none ∧
    (s.txRepaired p lanes).get (R.HG_TX_LANES_LANES p) = tx ∧ (s.txRepaired p lanes).get (R.HG_STATUS_TX_W p) = lanesIn tx ∧
    (s.txRepaired p lanes).get (R.HG_CTRL_IDLE_REQ p) = s.get (R.HG_CTRL_IDLE_REQ p) ∧ (s.txRepaired p lanes).hgState p = s.hgState p := by
  have hlt : tx < 2 ^ 24 := htx ▸ s.lanesLeft_lt ..
  unfold State.txRepaired
  rw [← htx]
  obtain ⟨k0, -, k1, -, k2, k3⟩ := s.setLanes_spec p (s.get (R.HG_RX_LANES_LANES p)) tx
  have kc := s.setLanes_ctrl p (s.get (R.HG_RX_LANES_LANES p)) tx (g := R.HG_CTRL_IDLE_REQ p) rfl
  have ks := k3 (R.HG_STATUS_STATE p) (by simp only [R.HG_STATUS_STATE, R.HG_STATUS, R.HG_RX_LANES]; omega)
    (by simp only [R.HG_STATUS_STATE, R.HG_STATUS, R.HG_TX_LANES]; omega) .above .above
  rw [Nat.mod_eq_of_lt hlt] at k1
  clear k3
  generalize s.setLanes p (s.get (R.HG_RX_LANES_LANES p)) tx = u at *
  obtain ⟨r, rfl⟩ := k0
  exact ⟨⟨_, _, rfl⟩, congrArg HgX.txFix (State.modHg_hgx _ hl), k1, k2, kc, ks⟩

theorem State.linkShort_untimed (h : s.hgTimedNow p = false) : s.linkShort p = s := by
  unfold State.linkShort
  extract_lets role
  generalize s.portFits p role = x
  exact if_pos (by simp [h])

end
end Sys2Proof.Machine
end

section
/-! Electrical idle of a Hedgerow port, and slips of the crossings (R39, R264 to R268). -/

namespace Sys2Proof.Machine

section
variable (s : State) {p : Nat}

/-! ### The request for idle -/

theorem State.hgIdleReq_again (h : s.flag (R.HG_CTRL_IDLE_REQ p) = true) : (s.hgIdleReq p true).state = s := by
  unfold State.hgIdleReq
  rw [if_pos rfl, if_pos h]
  rfl

theorem State.hgIdleReq_off (h : s.flag (R.HG_CTRL_IDLE_REQ p) = false) : (s.hgIdleReq p false).state = s.put (R.HG_CTRL_IDLE_REQ p) 0 := by
  unfold State.hgIdleReq
  rw [if_neg (by decide), h]
  rfl

section
variable (h : s.flag (R.HG_CTRL_IDLE_REQ p) = false)
include h

theorem State.hgIdleReq_refused (hs : s.hgState p = hgUntimed ∨ s.hgState p = hgTimed) (hm : s.hgMapped p = true) :
    (s.hgIdleReq p true).state = s.raise (R.HG_STATUS_WR_REFUSED p) := by
  unfold State.hgIdleReq
  rw [if_pos rfl, if_neg (by simp [h]), if_pos ⟨hs.symm, hm⟩]
  rfl

theorem State.hgIdleReq_taken (hs : ¬((s.hgState p = hgUntimed ∨ s.hgState p = hgTimed) ∧ s.hgMapped p = true)) :
    (s.hgIdleReq p true).state = (s.put (R.HG_CTRL_IDLE_REQ p) 1).hgTryIdle p := by
  unfold State.hgIdleReq
  rw [if_pos rfl, if_neg (by simp [h]), if_neg (fun e => hs ⟨e.1.symm, e.2⟩)]
  rfl

end

theorem State.idleReq_put (v : Nat) : s.OnRegs (s.put (R.HG_CTRL_IDLE_REQ p) v) ∧
    (s.put (R.HG_CTRL_IDLE_REQ p) v).hgState p = s.hgState p ∧ (s.put (R.HG_CTRL_IDLE_REQ p) v).hgx p = s.hgx p :=
  ⟨.put (.refl s), State.get_put_other s (R.HG_CTRL_IDLE_REQ p) (R.HG_STATUS_STATE p) v
    (by simp only [R.HG_STATUS_STATE, R.HG_STATUS, R.HG_CTRL_IDLE_REQ, R.HG_CTRL]; omega), congrArg (fun l : List HgX => l.getD p HgX.reset) (State.put_hg s (R.HG_CTRL_IDLE_REQ p) v)⟩

theorem State.hgTryIdle_dead (h : ¬(s.hgState p = hgUntimed ∨ s.hgState p = hgTimed)) : s.hgTryIdle p = s := by
  obtain ⟨h1, h2⟩ := not_or.1 h
  unfold State.hgTryIdle
  exact if_neg (by simp [h1, h2])

theorem State.hgTryIdle_starts (h : s.hgState p = hgUntimed ∨ s.hgState p = hgTimed) (hf : s.flag (R.HG_CTRL_IDLE_REQ p) = true)
    (h1 : (s.hgx p).rxFix = none) (h2 : (s.hgx p).txFix = none) (h3 : (s.hgx p).idling = false) :
    s.hgTryIdle p = (s.modHg p fun x => { x with idling := true }).emit (.link p .eidle) := by
  unfold State.hgTryIdle
  exact if_pos (by rcases h with h | h <;> simp [h, hf, h1, h2, h3])

/-! ### The exit -/

/-- A kept exchange leaves idle by a burst, and by the mark of time where both ends are aligned (R267). -/
theorem State.hgExit_spec (hl : p < s.hg.length) (hk : (s.hgx p).kept = true) : (s.hgExit p).hgState p = hgExiting ∧
    ((s.hgExit p).hgx p).anchor = s.now ∧ (∃ l, (s.hgExit p).out = s.out ++ .link p .burst :: l) ∧
    ∀ g : Field, g.addr = R.HG_CTRL p → (s.hgExit p).get g = s.get g := by
  unfold State.hgExit
  rw [if_pos hk]
  obtain ⟨⟨r, fe, k0⟩, k1, k2⟩ := s.setHg_spec (p := p) (st := hgExiting) (Nat.le_of_ble_eq_true rfl)
  have kc : ∀ g : Field, g.addr = R.HG_CTRL p → (s.setHg p hgExiting).get g = s.get g := fun g hg => by
    have hne : g.addr ≠ R.HG_STATUS p := by rw [hg]; simp only [R.HG_CTRL, R.HG_STATUS]; omega
    exact k2 g (.inl hne) (.inl hne)
  generalize s.setHg p hgExiting = u at *
  subst k0
  extract_lets v
  have hv : v.hgState p = hgExiting := k1
  have ha : (v.hgx p).anchor = s.now := congrArg HgX.anchor (State.modHg_hgx _ hl)
  have ho : v.out = s.out ++ [.link p .burst] := rfl
  have hc : ∀ g, v.get g = State.get { s with regs := r, fe := fe } g := fun _ => rfl
  clear_value v
  refine doIf_cases (fun t => t.hgState p = hgExiting ∧ (t.hgx p).anchor = s.now ∧ (∃ l, t.out = s.out ++ .link p .burst :: l) ∧
    ∀ g : Field, g.addr = R.HG_CTRL p → t.get g = s.get g) (fun _ => ?_) fun _ => ?_
  · exact ⟨hv, ha, ⟨[.link p (.tmark ((v.alignEdge - v.tm.epoch) / 2))], by rw [State.emit, ho]; simp⟩, fun g hg => (hc g).trans (kc g hg)⟩
  · exact ⟨hv, ha, ⟨[], ho⟩, fun g hg => (hc g).trans (kc g hg)⟩

theorem State.hgIdleReq_exit (hf : s.flag (R.HG_CTRL_IDLE_REQ p) = true) (hs : s.hgState p = hgIdle) :
    (s.hgIdleReq p false).state = (s.put (R.HG_CTRL_IDLE_REQ p) 0).hgExit p := by
  unfold State.hgIdleReq
  rw [if_neg (by decide), hf]
  exact congrArg Wr.state (if_pos hs)

theorem State.hgEnterIdle_none (h : ¬(s.hgState p = hgUntimed ∨ s.hgState p = hgTimed) ∨ (s.hgx p).rxFix ≠ none ∨ (s.hgx p).txFix ≠ none) :
    s.hgEnterIdle p = s := by
  unfold State.hgEnterIdle
  refine if_neg fun ⟨h1, h2, h3⟩ => ?_
  rcases h with h | h | h
  · exact h h1.symm
  · exact h h2
  · exact h h3

theorem State.hgEnterIdle_eq (h : s.hgState p = hgUntimed ∨ s.hgState p = hgTimed) (h1 : (s.hgx p).rxFix = none)
    (h2 : (s.hgx p).txFix = none) (h3 : (s.hgx p).exitDue = false) : s.hgEnterIdle p =
      ((doIf (!(s.hgx p).idling) (fun s => s.emit (.link p .eidle)) s).setHg p hgIdle).modHg p fun x => { x with idling := false, kept := true } := by
  unfold State.hgEnterIdle
  refine (if_pos ⟨h.symm, h1, h2⟩).trans ?_
  rw [h3]
  rfl

/-- EIDLE ends the exchange in IDLE (R265). -/
theorem State.hgEnterIdle_spec (hl : p < s.hg.length) (h : s.hgState p = hgUntimed ∨ s.hgState p = hgTimed) (h1 : (s.hgx p).rxFix = none)
    (h2 : (s.hgx p).txFix = none) (h3 : (s.hgx p).exitDue = false) : (s.hgEnterIdle p).hgState p = hgIdle ∧
    ((s.hgEnterIdle p).hgx p).kept = true ∧ ((s.hgEnterIdle p).hgx p).idling = false ∧
    (∃ regs fe hg, s.hgEnterIdle p = { s with regs := regs, fe := fe, hg := hg, out := (s.hgEnterIdle p).out }) ∧
    (s.hgEnterIdle p).out = s.out ++ (if (s.hgx p).idling then [] else [.link p .eidle]) := by
  rw [s.hgEnterIdle_eq h h1 h2 h3]
  have hd : doIf (!(s.hgx p).idling) (fun s => s.emit (.link p .eidle)) s =
      { s with out := s.out ++ (if (s.hgx p).idling then [] else [.link p .eidle]) } := by
    cases (s.hgx p).idling
    · rfl
    · exact congrArg (fun o => { s with out := o }) (List.append_nil s.out).symm
  rw [hd]
  generalize s.out ++ (if (s.hgx p).idling then [] else [.link p .eidle]) = o
  obtain ⟨⟨r, fe, k0⟩, k1, -⟩ := ({ s with out := o } : State).setHg_spec (p := p) (st := hgIdle) (Nat.le_of_ble_eq_true rfl)
  generalize State.setHg { s with out := o } p hgIdle = u at *
  subst k0
  have hx := State.modHg_hgx (f := fun x => { x with idling := false, kept := true }) { s with regs := r, fe := fe, out := o } (p := p) hl
  exact ⟨k1, congrArg HgX.kept hx, congrArg HgX.idling hx, ⟨_, _, _, rfl⟩, rfl⟩

theorem State.hgBurst_exit (hs : s.hgState p = hgIdle) (h : s.get R.PWR_STATUS_STATE_NOW ≠ 3) : s.hgBurst p = s.hgExit p := by
  unfold State.hgBurst
  exact (if_pos hs).trans (if_neg h)

theorem State.hgBurst_due (hs : s.hgState p = hgIdle) (h : s.get R.PWR_STATUS_STATE_NOW = 3) :
    s.hgBurst p = s.modHg p fun x => { x with exitDue := true } := by
  unfold State.hgBurst
  exact (if_pos hs).trans (if_pos h)

theorem State.hgBurst_none (h1 : s.hgState p ≠ hgIdle) (h2 : s.hgState p ≠ hgExiting) (h3 : (s.hgx p).idling = false) : s.hgBurst p = s := by
  unfold State.hgBurst
  exact (if_neg h1).trans ((if_neg (by simp [h3])).trans (if_neg h2))

/-! ### The end of the exit -/

theorem State.hgExitDone_none (locked : Bool) (delays : List Nat) (h : s.hgState p ≠ hgExiting) : s.hgExitDone p locked delays = s := by
  unfold State.hgExitDone
  exact if_neg h

theorem State.hgExitDone_fails (locked : Bool) (delays : List Nat) (h : s.hgState p = hgExiting)
    (hf : locked = false ∨ (s.hgx p).anchor + 9830 < s.now ∨ (s.bothAligned p = true ∧ flightOf delays ≠ s.get (R.HG_LAT_FLIGHT p))) :
    s.hgExitDone p locked delays = s.hgStart p := by
  unfold State.hgExitDone
  rw [if_pos h]
  refine if_pos ?_
  rcases hf with h | h | ⟨h1, h2⟩
  · simp [h]
  · simp [h]
  · simp [h1, h2]

/-- The port's NO_ALIGN, and the exit counted. -/
def State.exitCounted (s : State) (p : Nat) : State := (s.count (R.HG_CNT1_FAST_EXITS p)).put (R.HG_STATUS_NO_ALIGN p) (b2n (!s.bothAligned p))

theorem State.hgExitDone_up (delays : List Nat) (h : s.hgState p = hgExiting) (h1 : s.now ≤ (s.hgx p).anchor + 9830)
    (h2 : s.bothAligned p = true → flightOf delays = s.get (R.HG_LAT_FLIGHT p)) :
    s.hgExitDone p true delays = (s.exitCounted p).hgUp p (if s.bothAligned p then hgTimed else hgUntimed) := by
  unfold State.hgExitDone
  rw [if_pos h]
  exact if_neg (by simpa [h1] using h2)

theorem State.exitCounted_spec : s.OnRegs (s.exitCounted p) ∧ (s.exitCounted p).flag (R.HG_STATUS_NO_ALIGN p) = !s.bothAligned p ∧
    (s.exitCounted p).get (R.HG_CNT1_FAST_EXITS p) = min (s.get (R.HG_CNT1_FAST_EXITS p) + 1) 65535 :=
  ⟨.put (.count (.refl s)), State.flag_put _ (!s.bothAligned p),
    (State.get_put_other _ (R.HG_STATUS_NO_ALIGN p) (R.HG_CNT1_FAST_EXITS p) _
      (by simp only [R.HG_CNT1_FAST_EXITS, R.HG_CNT1, R.HG_STATUS_NO_ALIGN, R.HG_STATUS]; omega)).trans (State.get_count s (R.HG_CNT1_FAST_EXITS p))⟩

/-- The UP port is found again. -/
def State.upFound (s : State) : State := ({ s with hold := { s.hold with upLost := false } } : State).settle

/-- A port that comes up: its state, and what waits for the UP port (R267). -/
theorem State.hgUp_spec (hp : p < 4) {st : Nat} (h : st < 16) : (s.hgUp p st).hgState p = st ∧ (s.hgUp p st).mem = s.mem ∧
    ∀ g : Field, quietBlock (g.addr / 2 ^ 20) = true → (R.HG_STATUS_STATE p).Apart g → (R.HG_STATUS_TIMED p).Apart g → (s.hgUp p st).get g = s.get g := by
  unfold State.hgUp
  obtain ⟨⟨r, fe, k0⟩, k1, k2⟩ := s.setHg_spec (p := p) h
  have km : (s.setHg p st).mem = s.mem := by rw [k0]
  generalize s.setHg p st = u at *
  have hset : ∀ w : State, w.get = u.get → w.mem = u.mem → (∀ g : Field, quietBlock (g.addr / 2 ^ 20) = true → w.settle.get g = u.get g) ∧
      w.settle.mem = u.mem := fun w hg hm => ⟨fun g hq => ((State.Alarmed.settle (.refl w)).get_of_block hq).trans (congrFun hg g),
    ((State.Alarmed.settle (.refl w)).keeps State.mem).trans hm⟩
  have hdo : ∀ b : Bool, (∀ g : Field, quietBlock (g.addr / 2 ^ 20) = true → (doIf b State.upFound u).get g = u.get g) ∧
      (doIf b State.upFound u).mem = u.mem := fun b =>
    doIf_cases (fun t => (∀ g : Field, quietBlock (g.addr / 2 ^ 20) = true → t.get g = u.get g) ∧ t.mem = u.mem)
      (fun _ => hset _ rfl rfl) fun _ => ⟨fun _ _ => rfl, rfl⟩
  extract_lets w v
  obtain ⟨b, hb⟩ : ∃ b, v = doIf b State.upFound u := ⟨_, rfl⟩
  obtain ⟨v1, v2⟩ := hdo b
  rw [← hb] at v1 v2
  clear hb
  clear_value v
  have he : v.Alarmed (v.event (.hgUp p (v.get (R.HG_STATUS_RATE_NOW p)) (v.get (R.HG_STATUS_TX_W p)) (v.get (R.HG_STATUS_RX_W p)))) :=
    .event (.refl v)
  generalize v.event _ = t at he ⊢
  have hq : quietBlock ((R.HG_STATUS_STATE p).addr / 2 ^ 20) = true :=
    PortReg.quiet hp (.inl (by simp only [R.HG_STATUS_STATE, R.HG_STATUS]; omega))
  exact ⟨(he.get_of_block hq).trans ((v1 _ hq).trans k1), (he.keeps State.mem).trans (v2.trans km),
    fun g hg g1 g2 => (he.get_of_block hg).trans ((v1 g hg).trans (k2 g g1 g2))⟩

/-- The exchange of a training that starts now, and no lane bad. -/
def State.trainFrom (s : State) (p : Nat) : State :=
  let ctrl := (s.reg (R.HG_CTRL p)).toNat
  let s := s.modHg p fun x => { x with
    ctrl := ctrl, retire := s.get (R.HG_RETIRE_RETIRE p), settled := none, anchor := s.now, rateAt := s.now, phase := 0, locked := 0, inv := 0,
    peer := false, crcBad := 0, lanes := 0, rate := if ctrl.testBit 1 then 0 else bits ctrl 13 12 }
  forAll (List.range 24) (fun n s => s.put (R.HG_EQ_BAD p n) 0) s

theorem State.trainFrom_spec (hl : p < s.hg.length) : (s.trainFrom p).hgState p = s.hgState p ∧ ((s.trainFrom p).hgx p).anchor = s.now := by
  unfold State.trainFrom
  extract_lets ctrl v
  have hv : v.hgState p = s.hgState p := State.modHg_get s p _ _
  have hx : v.hgx p = _ := State.modHg_hgx s hl
  have ha : (v.hgx p).anchor = s.now := congrArg HgX.anchor hx
  clear hx
  clear_value v
  have hk : v.PortKept p (forAll (List.range 24) (fun n s => s.put (R.HG_EQ_BAD p n) 0) v) :=
    .forAll (.refl p v) fun n hn w hw => .put hw (by
      have := List.mem_range.1 hn
      simp only [PortReg, R.HG_EQ_BAD, R.HG_EQ, R.XMON_STATUS]
      omega)
  exact ⟨hk.hgState.trans hv, by rw [hk.hgx, ha]⟩

theorem State.hgStart_eq : s.hgStart p = ((s.hgQuiet p).setHg p hgTrain).trainFrom p := rfl

/-- A training in full starts now (R253). -/
theorem State.hgStart_spec (hl : p < s.hg.length) : (s.hgStart p).hgState p = hgTrain ∧ ((s.hgStart p).hgx p).anchor = s.now := by
  obtain ⟨⟨r, hg, k0⟩, kl, -, -⟩ := s.hgQuiet_spec p
  obtain ⟨⟨r', fe, j0⟩, j1, -⟩ := (s.hgQuiet p).setHg_spec (p := p) (st := hgTrain) (Nat.le_of_ble_eq_true rfl)
  have hn : (s.hgQuiet p).now = s.now := by rw [k0]
  replace hn : ((s.hgQuiet p).setHg p hgTrain).now = s.now := by rw [← hn, j0]
  have hll : p < ((s.hgQuiet p).setHg p hgTrain).hg.length := by
    rw [j0]
    exact kl.symm ▸ hl
  obtain ⟨t1, t2⟩ := ((s.hgQuiet p).setHg p hgTrain).trainFrom_spec hll
  rw [State.hgStart_eq]
  exact ⟨t1.trans j1, t2.trans hn⟩

end
end Sys2Proof.Machine
end

section
/-! Slips of the crossings (R39), and the statement. -/

namespace Sys2Proof.Machine

section
variable (s : State)

/-- A slip is reported and told with the flags as they stand. -/
def State.slipTold (s : State) : State :=
  let x := (s.reg R.XMON_STATUS).toNat
  (s.report (mkReport 0x01 .clsU 0x0010 x)).event (.crossingSlip x)

theorem State.slipTold_alarmed : s.Alarmed s.slipTold := by
  unfold State.slipTold
  exact .event (.report (.refl s) (Nat.le_of_ble_eq_true rfl))

theorem State.crossingSlip_gi (p : Nat) : s.crossingSlip (.gi p) = (s.raiseBit R.XMON_STATUS_GI_SLIP p).slipTold.hgGoDown p hcSlip := rfl

theorem State.crossingSlip_ci (q : Nat) : s.crossingSlip (.ci q) = ((s.raiseBit R.XMON_STATUS_CI_SLIP q).slipTold.convHeld q).settle := rfl

section
variable {mid : Nat} (a : Nat) (h : s.fm.retried.contains mid = false)

/-- A flag of a management crossing, its alarm, and the master's one retry. -/
def State.slipRetried (s : State) (f : Field) (mid : Nat) : State :=
  (s.raise f).slipTold.modFm fun x => { x with retried := x.retried ++ [mid] }

include h in
theorem State.crossingSlip_again {f : Field} :
    (if ((s.raise f).slipTold).fm.retried.contains mid then (((s.raise f).slipTold).freeze mid 3 a).settled mid
      else (s.raise f).slipTold.modFm fun x => { x with retried := x.retried ++ [mid] }) = s.slipRetried f mid := by
  refine if_neg ?_
  rw [(s.raise f).slipTold_alarmed.keeps (fun s => s.fm.retried), show (s.raise f).fm = s.fm from State.put_fm ..]
  simpa using h

include h in
theorem State.crossingSlip_fi : s.crossingSlip (.fi mid a) = s.slipRetried R.XMON_STATUS_FI_SLIP mid := s.crossingSlip_again a h

include h in
theorem State.crossingSlip_di : s.crossingSlip (.di mid a) = s.slipRetried R.XMON_STATUS_DI_SLIP mid := s.crossingSlip_again a h

theorem State.crossingSlip_mi_none (hw : s.flag R.PWR_STATUS_MI_WAKEOSC = true) : s.crossingSlip (.mi mid a) = s := if_pos hw

include h in
theorem State.crossingSlip_mi (hw : s.flag R.PWR_STATUS_MI_WAKEOSC = false) :
    s.crossingSlip (.mi mid a) = s.slipRetried R.XMON_STATUS_MI_SLIP mid := (if_neg (by simp [hw])).trans (s.crossingSlip_again a h)

theorem State.modFm_flag (f : FaultX → FaultX) (g : Field) : (s.modFm f).flag g = s.flag g := rfl

theorem State.slipRetried_spec {f : Field} (hf : f.addr = R.XMON_STATUS) (w : f.fits = true := by rfl) (w1 : f.width = 1 := by rfl) :
    (s.slipRetried f mid).mem = s.mem ∧ (s.slipRetried f mid).flag f = true ∧ mid ∈ (s.slipRetried f mid).fm.retried := by
  have hk := (s.raise f).slipTold_alarmed
  unfold State.slipRetried
  rw [State.modFm_mem, State.modFm_flag, State.modFm_fm]
  refine ⟨(hk.keeps State.mem).trans (State.put_mem ..), ?_, by simp⟩
  rw [State.flag_congr (hk.get_of_block (by rw [hf]; rfl))]
  exact State.flag_put s true w (by rw [w1]; rfl)

end

theorem State.raiseBit_fbit (f : Field) {p : Nat} (h : p < f.width) (w : f.fits = true := by rfl) : (s.raiseBit f p).fbit f p = true :=
  (State.fbit_putBit s f p p true h w).trans (if_pos rfl)

theorem State.crossingSlip_gi_spec {p : Nat} (hp : p < 4) : (s.crossingSlip (.gi p)).hgState p = hgDown ∧
    (s.crossingSlip (.gi p)).get (R.HG_STATUS_CAUSE p) = hcSlip ∧ (s.crossingSlip (.gi p)).mem = s.mem ∧
    (s.crossingSlip (.gi p)).get (R.HG_STATUS_RX_W p) = 0 ∧ (s.crossingSlip (.gi p)).get (R.HG_STATUS_TX_W p) = 0 ∧
    (s.crossingSlip (.gi p)).fbit R.XMON_STATUS_GI_SLIP p = true := by
  have hb := s.raiseBit_fbit R.XMON_STATUS_GI_SLIP hp
  have hm : (s.raiseBit R.XMON_STATUS_GI_SLIP p).mem = s.mem := State.put_mem ..
  have hk := (s.raiseBit R.XMON_STATUS_GI_SLIP p).slipTold_alarmed
  rw [State.crossingSlip_gi]
  obtain ⟨k1, k2, k3, k4, k5, -⟩ := (s.raiseBit R.XMON_STATUS_GI_SLIP p).slipTold.hgGoDown_spec hp (c := hcSlip) (Nat.le_of_ble_eq_true rfl)
  have kx := ((s.raiseBit R.XMON_STATUS_GI_SLIP p).slipTold.hgGoDown_kept hp hcSlip).get R.XMON_STATUS_GI_SLIP (.inr rfl)
  have kx' := (s.raiseBit R.XMON_STATUS_GI_SLIP p).slipTold.hgEnded_xmon hp hcSlip (g := R.XMON_STATUS_GI_SLIP) rfl
  exact ⟨k1, k2, k3.trans ((hk.keeps State.mem).trans hm), k4, k5,
    (State.fbit_congr (kx.trans (kx'.trans hk.get_of_block)) p).trans hb⟩

theorem State.convHeld_keeps (q : Nat) : (s.convHeld q).mem = s.mem ∧ ∀ g, (s.convHeld q).get g = s.get g := ⟨rfl, fun _ => rfl⟩

theorem State.crossingSlip_ci_spec {p : Nat} (hp : p < 4) : (s.crossingSlip (.ci p)).mem = s.mem ∧
    (s.crossingSlip (.ci p)).fbit R.XMON_STATUS_CI_SLIP p = true ∧ (s.crossingSlip (.ci p)).hold.convHold.testBit p = true := by
  have hb := s.raiseBit_fbit R.XMON_STATUS_CI_SLIP hp
  have hm : (s.raiseBit R.XMON_STATUS_CI_SLIP p).mem = s.mem := State.put_mem ..
  have hk := (s.raiseBit R.XMON_STATUS_CI_SLIP p).slipTold_alarmed
  rw [State.crossingSlip_ci]
  generalize s.raiseBit R.XMON_STATUS_CI_SLIP p = u at *
  obtain ⟨h1, h2⟩ := u.slipTold.convHeld_keeps p
  have h3 := u.slipTold.convHeld_hold (q := p)
  have hs : (u.slipTold.convHeld p).Alarmed (u.slipTold.convHeld p).settle := .settle (.refl _)
  exact ⟨(hs.keeps State.mem).trans (h1.trans ((hk.keeps State.mem).trans hm)),
    (State.fbit_congr (hs.get_of_block.trans ((h2 _).trans hk.get_of_block)) p).trans hb, by rw [hs.keeps State.hold]; exact h3⟩

/-! ### The statement's families -/

variable {p : Nat} (hl : p < s.hg.length)
include hl

/-- A lane that is lost while no repair is under way, when enough lanes are left. -/
theorem State.hgLaneFail_drop (h : s.hgCarries p = true) {lane : Nat} (n : Nat) (hn : lane < 24) (h1 : (s.hgx p).rxFix = none)
    (h2 : (s.hgx p).minLanes ≤ s.get (R.HG_STATUS_RX_W p) - 1) : (s.hgLaneFail p lane n true).hgState p = s.hgState p ∧
    (s.hgLaneFail p lane n true).mem = s.mem ∧
    ((s.hgLaneFail p lane n true).hgx p).rxFix = some { lanes := 2 ^ lane, at0 := s.now, acked := false, instant := s.repairInstant } ∧
    (s.hgLaneFail p lane n true).out = s.out ++ [.link p (.laneDrop (2 ^ lane) s.repairInstant)] := by
  obtain ⟨⟨r, g, k0⟩, kl, -, kg, errs, w, kx⟩ := s.laneErrors_spec hl lane n hn
  have hw := kg (R.HG_STATUS_RX_W p) (by simp only [R.HG_STATUS_RX_W, R.HG_STATUS]; omega)
  have hst : (s.laneErrors p lane n).hgState p = s.hgState p := kg (R.HG_STATUS_STATE p) (by simp only [R.HG_STATUS_STATE, R.HG_STATUS]; omega)
  have heq := s.hgLaneFail_lost h (n := n) hn rfl (by rw [kx]; exact h1)
  rw [hw, show ((s.laneErrors p lane n).hgx p).minLanes = (s.hgx p).minLanes by rw [kx]; rfl, if_neg (by omega)] at heq
  rw [heq]
  rw [← kl] at hl
  clear heq kg kx
  generalize s.laneErrors p lane n = e at *
  have hx := State.modHg_hgx (f := fun x => { x with rxFix := some (e.firstRepair lane) }) e hl
  subst k0
  exact ⟨hst, rfl, congrArg HgX.rxFix hx, rfl⟩

/-- A lane that is lost while no repair is under way, when too few are left, ends the port (R263). -/
theorem State.hgLaneFail_ends (h : s.hgCarries p = true) {lane : Nat} (n : Nat) (hn : lane < 24) (h1 : (s.hgx p).rxFix = none)
    (h2 : s.get (R.HG_STATUS_RX_W p) - 1 < (s.hgx p).minLanes) :
    s.hgLaneFail p lane n true = (s.laneErrors p lane n).hgGoDown p hcWidth ∧ (s.laneErrors p lane n).mem = s.mem := by
  obtain ⟨⟨r, g, k0⟩, -, -, kg, errs, w, kx⟩ := s.laneErrors_spec hl lane n hn
  have hw := kg (R.HG_STATUS_RX_W p) (by simp only [R.HG_STATUS_RX_W, R.HG_STATUS]; omega)
  have heq := s.hgLaneFail_lost h (n := n) hn rfl (by rw [kx]; exact h1)
  rw [hw, show ((s.laneErrors p lane n).hgx p).minLanes = (s.hgx p).minLanes by rw [kx]; rfl, if_pos h2] at heq
  exact ⟨heq, by rw [k0]⟩

/-- The instant of a receive repair: the lanes leave, the time stands at it (R263). -/
theorem State.laneRepair_rx (hp : p < 4) {a : Repair} (h1 : (s.hgx p).rxFix = some a) (ha : a.acked = true) (h2 : (s.hgx p).txFix = none)
    (hi : s.flag (R.HG_CTRL_IDLE_REQ p) = false) {rx : Nat} (hrx : rx = s.lanesLeft (R.HG_RX_LANES_LANES p) a.lanes) :
    (s.laneRepair p).now = max s.now a.instant ∧ (s.laneRepair p).mem = s.mem ∧ ((s.laneRepair p).hgx p).rxFix = none ∧
    (s.laneRepair p).get (R.HG_RX_LANES_LANES p) = rx ∧ (s.laneRepair p).get (R.HG_STATUS_RX_W p) = lanesIn rx ∧
    (s.laneRepair p).get (R.HG_TX_LANES_LANES p) = s.get (R.HG_TX_LANES_LANES p) := by
  obtain ⟨k1, k2, k3, k4, k5, k6, k7⟩ := (s.advanceTo a.instant).rxRepaired_spec hp hl a.lanes hrx
  unfold State.laneRepair
  rw [s.hgRepair_rx h1 ha h2, State.hgTryIdle_none _ ((State.flag_congr k7).trans hi)]
  have hk := State.PortKept.linkShort hp (.refl p ((s.advanceTo a.instant).rxRepaired p a.lanes))
  refine ⟨hk.now.trans k1, hk.mem.trans k2, by rw [hk.hgx, k3], (hk.get _ (.inl ?_)).trans k4, (hk.get _ (.inl ?_)).trans k5, (hk.get _ (.inl ?_)).trans k6⟩
  · simp only [R.HG_RX_LANES_LANES, R.HG_RX_LANES]; omega
  · simp only [R.HG_STATUS_RX_W, R.HG_STATUS]; omega
  · simp only [R.HG_TX_LANES_LANES, R.HG_TX_LANES]; omega

theorem State.laneRepair_tx {b : Repair} (h1 : (s.hgx p).txFix = some b) (h2 : (s.hgx p).rxFix = none)
    (hi : s.flag (R.HG_CTRL_IDLE_REQ p) = false) (ht : s.hgTimedNow p = false) {tx : Nat} (htx : tx = s.lanesLeft (R.HG_TX_LANES_LANES p) b.lanes) :
    (∃ regs hg, s.laneRepair p = { s with now := max s.now b.instant, regs := regs, hg := hg }) ∧ ((s.laneRepair p).hgx p).txFix = none ∧
    (s.laneRepair p).get (R.HG_TX_LANES_LANES p) = tx ∧ (s.laneRepair p).get (R.HG_STATUS_TX_W p) = lanesIn tx := by
  obtain ⟨k1, k2, k3, k4, k5, k6⟩ := (s.advanceTo b.instant).txRepaired_spec hl b.lanes htx
  unfold State.laneRepair
  rw [s.hgRepair_tx h1 h2, State.hgTryIdle_none _ ((State.flag_congr k5).trans hi),
    State.linkShort_untimed _ ((congrArg (· == hgTimed) k6).trans ht)]
  exact ⟨k1, k2, k3, k4⟩

/-- The request for idle of a port with no exchange under way starts one (R264). -/
theorem State.hgIdleReq_starts (hf : s.flag (R.HG_CTRL_IDLE_REQ p) = false) (hs : s.hgState p = hgUntimed ∨ s.hgState p = hgTimed)
    (hm : s.hgMapped p = false) (h1 : (s.hgx p).rxFix = none) (h2 : (s.hgx p).txFix = none) (h3 : (s.hgx p).idling = false) :
    ∃ t : State, (s.hgIdleReq p true).state = t ∧ t = { s with regs := t.regs, hg := t.hg, out := t.out } ∧ (t.hgx p).idling = true ∧
      t.flag (R.HG_CTRL_IDLE_REQ p) = true ∧ t.out = s.out ++ [.link p .eidle] := by
  obtain ⟨k0, k1, k2⟩ := s.idleReq_put (p := p) 1
  have kf : (s.put (R.HG_CTRL_IDLE_REQ p) 1).flag (R.HG_CTRL_IDLE_REQ p) = true := State.flag_put s true
  rw [s.hgIdleReq_taken hf (by simp [hm])]
  generalize s.put (R.HG_CTRL_IDLE_REQ p) 1 = u at *
  rw [u.hgTryIdle_starts (by rwa [k1]) kf (by rwa [k2]) (by rwa [k2]) (by rwa [k2])]
  obtain ⟨r, rfl⟩ := k0
  exact ⟨_, rfl, rfl, congrArg HgX.idling (State.modHg_hgx _ hl), kf, rfl⟩

end
end Sys2Proof.Machine

open Sys2Proof Sys2Proof.Machine

/-- Settles O37: lane repair, idle and its exits by what they leave of the port, slips by the port or hold they end in. -/
theorem laneRepairIdleAndSlips : Obligations.LaneRepairIdleAndSlips := by
  unfold Obligations.LaneRepairIdleAndSlips
  intro p s hp hl4
  have hl : p < s.hg.length := by omega
  intro st x live down
  refine ⟨fun lane n lost => ⟨fun h => ?_, fun h => ⟨?_, ?_, ?_, ?_⟩⟩, fun lanes instant => ⟨fun h => ?_, fun h => ?_, ?_⟩, fun h => ?_, fun f hf ha => ?_,
    fun h1 h2 => ?_, fun a h1 ha h2 hi => ?_, fun b h1 h2 hi ht => ?_, fun h => ?_, fun h => ⟨fun hs hm => ?_, fun hs hm h1 h2 h3 => ?_, fun hs => ?_, ?_⟩,
    fun h hs hk => ?_, fun hs h1 h2 h3 => ?_, fun h => ?_, fun hs hk hw => ?_, fun hs hw => ?_, fun h1 h2 h3 => ?_,
    fun locked delays => ⟨fun h => ?_, fun h hf => ?_, fun h h1 h2 h3 => ?_⟩, ?_, ?_, fun mid a hr => ⟨?_, ?_, fun hw => ?_, fun hw => ?_⟩⟩
  · exact congrArg Host.Outcome.next (s.hgLaneFail_none h lane n lost)
  · intro hc
    obtain ⟨k1, k2, k3, k4, k5, -⟩ := s.hgGoDown_spec hp (c := hcClock) (Nat.le_of_ble_eq_true rfl)
    subst hc
    exact ⟨_, congrArg Host.Outcome.next (s.hgLaneFail_clock h n lost), k1, k2, k3, k4, k5⟩
  · intro hn
    obtain ⟨⟨r, g, k0⟩, -, k1, k2, -⟩ := s.laneErrors_spec hl lane n hn
    refine ⟨k1, by rw [k0], fun hlost he => ?_⟩
    subst hlost
    refine congrArg Host.Outcome.next (s.hgLaneFail_counted h hn rfl ?_)
    rw [k2 (R.HG_ERR_CFG_LANE_ERR_THR p) (by simp only [R.HG_ERR_CFG_LANE_ERR_THR, R.HG_ERR_CFG]; omega)]
    exact he
  · intro hn hlost h1 h2
    subst hlost
    obtain ⟨h3, h4⟩ := s.hgLaneFail_ends hl h n hn h1 h2
    obtain ⟨k1, k2, k3, k4, k5, -⟩ := (s.laneErrors p lane n).hgGoDown_spec hp (c := hcWidth) (Nat.le_of_ble_eq_true rfl)
    exact ⟨_, congrArg Host.Outcome.next h3, k1, k2, k3.trans h4, k4, k5⟩
  · intro hn hlost h1 h2
    subst hlost
    exact ⟨_, Eq.refl _, s.hgLaneFail_drop hl h n hn h1 h2⟩
  · exact congrArg Host.Outcome.next (s.hgLaneDrop_none lanes instant h)
  · exact ⟨_, congrArg Host.Outcome.next (s.hgLaneDrop_eq lanes instant h), rfl, rfl, State.modHg_hgx s hl⟩
  · exact ⟨_, Eq.refl _, rfl, State.modHg_hgx s hl⟩
  · exact congrArg Host.Outcome.next (s.hgAckTimeout_none h)
  · obtain ⟨k1, k2, k3, k4, k5, k6⟩ := (s.advanceTo (f.at0 + 1024)).hgGoDown_spec hp (c := hcRemote) (Nat.le_of_ble_eq_true rfl)
    exact ⟨_, congrArg Host.Outcome.next (s.hgAckTimeout_eq hf ha), ⟨k1, k2, k3, k4, k5⟩, k6⟩
  · exact congrArg (fun t : State => Host.Outcome.next (t.linkShort p)) (s.hgRepair_none h1 h2)
  · exact ⟨_, Eq.refl _, s.laneRepair_rx hl hp h1 ha h2 hi rfl⟩
  · obtain ⟨⟨r, g, k0⟩, k1⟩ := s.laneRepair_tx hl h1 h2 hi ht rfl
    exact ⟨_, Eq.refl _, by rw [k0], by rw [k0], k1⟩
  · exact congrArg Host.Outcome.next (s.hgIdleReq_again h)
  · exact congrArg Host.Outcome.next (s.hgIdleReq_refused h hs hm)
  · obtain ⟨t, ht, k⟩ := s.hgIdleReq_starts hl h hs hm h1 h2 h3
    exact ⟨t, congrArg Host.Outcome.next ht, k⟩
  · refine congrArg Host.Outcome.next ((s.hgIdleReq_taken h fun e => hs e.1).trans (State.hgTryIdle_dead _ ?_))
    rw [(s.idleReq_put 1).2.1]
    exact hs
  · exact congrArg Host.Outcome.next (s.hgIdleReq_off h)
  · obtain ⟨k0, k1, k2⟩ := s.idleReq_put (p := p) 0
    have kf : (s.put (R.HG_CTRL_IDLE_REQ p) 0).flag (R.HG_CTRL_IDLE_REQ p) = false := State.flag_put s false
    have heq := s.hgIdleReq_exit h hs
    generalize s.put (R.HG_CTRL_IDLE_REQ p) 0 = u at *
    obtain ⟨r, rfl⟩ := k0
    obtain ⟨j1, j2, j3, j4⟩ := State.hgExit_spec { s with regs := r } (p := p) hl hk
    exact ⟨_, congrArg Host.Outcome.next heq, j1, (State.flag_congr (j4 _ rfl)).trans kf, j2, j3⟩
  · obtain ⟨k1, k2, k3, ⟨r, fe, g, k4⟩, k5⟩ := s.hgEnterIdle_spec hl hs h1 h2 h3
    exact ⟨_, Eq.refl _, k1, k2, k3, by rw [k4], k5⟩
  · exact congrArg Host.Outcome.next (s.hgEnterIdle_none h)
  · obtain ⟨j1, j2, j3, -⟩ := s.hgExit_spec hl hk
    exact ⟨_, congrArg Host.Outcome.next (s.hgBurst_exit hs hw), j1, j2, j3⟩
  · exact ⟨_, congrArg Host.Outcome.next (s.hgBurst_due hs hw), rfl, State.modHg_hgx s hl⟩
  · exact congrArg Host.Outcome.next (s.hgBurst_none h1 h2 h3)
  · exact congrArg Host.Outcome.next (s.hgExitDone_none locked delays h)
  · obtain ⟨k1, k2⟩ := s.hgStart_spec hl
    exact ⟨_, congrArg Host.Outcome.next (s.hgExitDone_fails locked delays h hf), k1, k2⟩
  · subst h1
    have hlt : (if s.bothAligned p then hgTimed else hgUntimed) < 16 := by
      cases s.bothAligned p <;> exact Nat.le_of_ble_eq_true rfl
    obtain ⟨k0, k1, k2⟩ := s.exitCounted_spec (p := p)
    have heq := s.hgExitDone_up delays h h2 h3
    generalize s.exitCounted p = u at *
    obtain ⟨j1, j2, j3⟩ := u.hgUp_spec hp hlt
    have hq : quietBlock (R.HG_STATUS p / 2 ^ 20) = true := PortReg.quiet hp (.inl (by simp only [R.HG_STATUS]; omega))
    have hq' : quietBlock (R.HG_CNT1 p / 2 ^ 20) = true := by
      rw [show R.HG_CNT1 p / 2 ^ 20 = 0x115 by simp only [R.HG_CNT1]; omega]
      rfl
    have hne : R.HG_CNT1 p ≠ R.HG_STATUS p := by simp only [R.HG_CNT1, R.HG_STATUS]; omega
    refine ⟨_, congrArg Host.Outcome.next heq, j2.trans (k0.keeps State.mem), j1, ?_, ?_⟩
    · exact (State.flag_congr (j3 (R.HG_STATUS_NO_ALIGN p) hq .below .above)).trans k1
    · exact (j3 (R.HG_CNT1_FAST_EXITS p) hq' (.inl hne) (.inl hne)).trans k2
  · obtain ⟨k1, k2, k3, k4, k5, k6⟩ := s.crossingSlip_gi_spec hp
    exact ⟨_, Eq.refl _, ⟨k1, k2, k3, k4, k5⟩, k6⟩
  · exact ⟨_, Eq.refl _, s.crossingSlip_ci_spec hp⟩
  · exact ⟨_, congrArg Host.Outcome.next (s.crossingSlip_fi a hr), s.slipRetried_spec rfl⟩
  · exact ⟨_, congrArg Host.Outcome.next (s.crossingSlip_di a hr), s.slipRetried_spec rfl⟩
  · exact ⟨_, congrArg Host.Outcome.next (s.crossingSlip_mi a hr hw), s.slipRetried_spec rfl⟩
  · exact congrArg Host.Outcome.next (s.crossingSlip_mi_none a hw)
end

section
/-! Reset, the end of power and the ROM (R45, R530, R549, R569 to R571). -/

namespace Sys2Proof.Machine

/-! ### A register file put together -/

theorem look_of_keysAbove {α : Type} {a : Nat} {l : List (Nat × α)} (h : keysAbove a l) : look l a = none := by
  induction l with
  | nil => rfl
  | cons r l ih =>
    have hr : a ≠ r.1 := Nat.ne_of_lt (h r (by simp))
    exact (if_neg hr).trans (ih fun p hp => h p (by simp [hp]))

theorem look_filter_key {α : Type} (q : Nat → Bool) (l : List (Nat × α)) (a : Nat) :
    look (l.filter fun r => q r.1) a = if q a = true then look l a else none := by
  induction l with
  | nil => simp [look]
  | cons r l ih =>
    by_cases hq : q r.1 = true
    · rw [List.filter_cons, if_pos hq]
      by_cases ha : a = r.1
      · subst ha
        simp [look, hq]
      · simp [look, ha, ih]
    · rw [List.filter_cons, if_neg hq, ih]
      by_cases ha : a = r.1
      · subst ha
        simp [hq]
      · simp [look, ha]

/-- Registers written one after the other, each once. -/
theorem RegFile.get_foldl_set {l : List (Nat × Word)} (h : keysRise l = true) (f : RegFile) (a : Nat) :
    RegFile.get (l.foldl (fun m r => RegFile.set m r.1 r.2) f) a = (look l a).getD (f.get a) := by
  induction l generalizing f with
  | nil => rfl
  | cons r l ih =>
    obtain ⟨h1, h2⟩ := (keysRise_cons _ _).1 h
    refine (ih h2 _).trans ?_
    by_cases ha : a = r.1
    · subst ha
      rw [look_of_keysAbove h1, RegFile.get_set_same]
      simp [look]
    · rw [RegFile.get_set_other _ _ _ _ ha]
      simp [look, ha]

/-- A file kept for the addresses that `q` names, over the reset values. -/
theorem RegFile.get_kept {f : RegFile} (h : f.wf = true) (q : Nat → Bool) (a : Nat) :
    RegFile.get ((f.filter fun r => q r.1).foldl (fun m r => RegFile.set m r.1 r.2) []) a = if q a = true then f.get a else RegFile.get [] a := by
  have hk : keysRise f = true := by
    unfold RegFile.wf at h
    exact (Bool.and_eq_true_iff.1 h).1
  rw [RegFile.get_foldl_set (keysRise_filter _ _ hk), look_filter_key]
  split
  · rfl
  · rfl

/-! ### Reset (R45, R569) -/

section
variable (s : State)

theorem State.deviceReset_time : s.deviceReset.time = 0 := by
  have h : s.deviceReset.timeAt s.deviceReset.now = 0 + ((timeUnits (s.now - s.now) : Nat) - (timeUnits (s.now - s.now) : Nat) : Int) + 0 := rfl
  unfold State.time
  rw [h]
  simp

theorem State.resetLow_eq {short : Bool} (h : s.pwrState ≠ 3 ∨ short = false) : s.resetLow short = s.deviceReset := by
  unfold State.resetLow
  exact if_neg (by rcases h with h | h <;> simp [h])

/-- A short low in FALLOW wakes the device (R45). -/
theorem State.resetLow_wakes (h : s.pwrState = 3) (hw : s.pw.wake = none) :
    ∃ t : State, s.resetLow true = t ∧ t = { s with regs := t.regs, pw := t.pw } ∧
      ∃ w, t.pw.wake = some w ∧ w.stage = 0 ∧ w.at_ = s.now ∧ w.active = false := by
  have hp : ∀ u : State, u.OnRegs u.showTrans := fun u => .put (.refl u)
  unfold State.resetLow State.startWake
  rw [if_pos ⟨h, rfl⟩, hw]
  extract_lets ms
  generalize hv : (s.modPw _) = v
  obtain ⟨r, hr⟩ := hp v
  subst hv
  refine ⟨_, if_neg (by decide), ?_⟩
  rw [hr]
  exact ⟨rfl, _, rfl, rfl, rfl, rfl⟩

/-- The end of power: the Lark's registers stay (R530). -/
theorem State.shutdownGate_spec (h1 : s.pw.shut = true) (h2 : s.pw.dead = false) (hw : s.regs.wf = true) :
    ∃ t : State, s.shutdownGate = t ∧ t.now = max s.now (s.pw.shutAt + 491520) ∧ t.pw.dead = true ∧ t.pw.shut = true ∧ t.mem = [] ∧
      t.boot = .held ∧ ∀ a, t.reg a = if a / 2 ^ 20 = 0x120 then s.reg a else State.reset.reg a := by
  refine ⟨_, if_pos ⟨h1, by simp [h2]⟩, rfl, rfl, h1, rfl, rfl, fun a => ?_⟩
  refine (RegFile.get_kept hw (fun a => a >>> 20 == 0x120) a).trans ?_
  simp only [Nat.shiftRight_eq_div_pow, beq_iff_eq]
  rfl

theorem State.shutdownGate_none (h : s.pw.shut = false ∨ s.pw.dead = true) : s.shutdownGate = s := by
  unfold State.shutdownGate
  exact if_neg (by rcases h with h | h <;> simp [h])

end
end Sys2Proof.Machine
end

section
/-! The ROM's settings (R570, R571). -/

namespace Sys2Proof.Machine

/-- The registers that the ROM has set before it starts the links: role and address, the thermal limit, the windows. -/
def RomReg (a : Nat) : Prop := a = R.CASC_STATUS ∨ a = R.THERM_CFG ∨ (0x11b04000 ≤ a ∧ a < 0x11b08000)

/-- From `s` on links were started. -/
structure State.LinksSet (s t : State) : Prop where
  get : ∀ g : Field, RomReg g.addr → t.get g = s.get g
  shape : ∃ regs fe hg, t = { s with regs := regs, fe := fe, hg := hg }

namespace State.LinksSet
variable {s t u : State}

theorem refl (s : State) : s.LinksSet s := ⟨fun _ _ => rfl, _, _, _, rfl⟩

theorem trans (h : s.LinksSet t) (k : t.LinksSet u) : s.LinksSet u := by
  obtain ⟨hg, r, f, g, rfl⟩ := h
  obtain ⟨kg, r', f', g', rfl⟩ := k
  exact ⟨fun g h => (kg g h).trans (hg g h), _, _, _, rfl⟩

theorem put {f : Field} {v : Nat} (h : s.LinksSet t) (hf : ¬RomReg f.addr) : s.LinksSet (t.put f v) := by
  refine h.trans ⟨fun g hg => State.get_put_other t f g v fun e => hf (e ▸ hg), ?_⟩
  obtain ⟨r, hr⟩ := State.OnRegs.put (f := f) (v := v) (.refl t)
  exact ⟨_, _, _, hr⟩

theorem frame {fe : FrontX} {hg : List HgX} (h : s.LinksSet t) : s.LinksSet { t with fe := fe, hg := hg } :=
  h.trans ⟨fun _ _ => rfl, _, _, _, rfl⟩

theorem modHg {p : Nat} {f : HgX → HgX} (h : s.LinksSet t) : s.LinksSet (t.modHg p f) := h.frame

theorem ite {c : Prop} [Decidable c] (h : s.LinksSet t) (k : s.LinksSet u) : s.LinksSet (if c then t else u) := by
  split
  · exact h
  · exact k

theorem forAll {α : Type} {l : List α} {f : α → State → State} (h : s.LinksSet t) (k : ∀ a ∈ l, ∀ u, s.LinksSet u → s.LinksSet (f a u)) :
    s.LinksSet (Machine.forAll l f t) := forAll_keeps _ l f k t h

end State.LinksSet

/-! ### The links -/

theorem RomReg.hgPort {p a : Nat} (hp : p < 4) (h1 : 0x11500000 + p * 0x10000 ≤ a) (h2 : a < 0x11500100 + p * 0x10000) : ¬RomReg a := by
  simp only [RomReg, R.CASC_STATUS, R.THERM_CFG]
  omega

section
variable {s t : State} {p : Nat} (hp : p < 4)
include hp

theorem State.LinksSet.status {f : Field} {v : Nat} (h : s.LinksSet t) (hf : f.addr = R.HG_STATUS p) : s.LinksSet (t.put f v) :=
  h.put (RomReg.hgPort hp (by rw [hf]; simp only [R.HG_STATUS]; omega) (by rw [hf]; simp only [R.HG_STATUS]; omega))

theorem State.LinksSet.ctrl {f : Field} {v : Nat} (h : s.LinksSet t) (hf : f.addr = R.HG_CTRL p) : s.LinksSet (t.put f v) :=
  h.put (RomReg.hgPort hp (by rw [hf]; simp only [R.HG_CTRL]; omega) (by rw [hf]; simp only [R.HG_CTRL]; omega))

theorem State.LinksSet.setLanes {rx tx : Nat} (h : s.LinksSet t) : s.LinksSet (t.setLanes p rx tx) := by
  unfold State.setLanes
  refine .status hp (.status hp (.put (.put h ?_) ?_) rfl) rfl
  · exact RomReg.hgPort hp (by simp only [R.HG_RX_LANES_LANES, R.HG_RX_LANES]; omega) (by simp only [R.HG_RX_LANES_LANES, R.HG_RX_LANES]; omega)
  · exact RomReg.hgPort hp (by simp only [R.HG_TX_LANES_LANES, R.HG_TX_LANES]; omega) (by simp only [R.HG_TX_LANES_LANES, R.HG_TX_LANES]; omega)

theorem State.LinksSet.hgToDetect (h : s.LinksSet t) : s.LinksSet (t.hgToDetect p) := by
  have hq : s.LinksSet (t.hgQuiet p) := .modHg (.status hp (.setLanes hp h) rfl)
  unfold State.hgToDetect State.setHg
  generalize t.hgQuiet p = u at *
  have hu : s.LinksSet ((u.put (R.HG_STATUS_STATE p) hgDetect).put (R.HG_STATUS_TIMED p) (b2n (hgDetect == hgTimed))) :=
    .status hp (.status hp hq rfl) rfl
  exact .ite hu hu.frame

theorem State.LinksSet.enable (h : s.LinksSet t) : s.LinksSet (t.hgEnWrite p true) := by
  unfold State.hgEnWrite
  extract_lets old u
  have hu : s.LinksSet u := .ctrl hp h rfl
  refine .ite (.hgToDetect hp hu) ?_
  rw [if_neg (by decide)]
  exact hu

end

/-- How the ROM starts the links of its mode. -/
def State.romLinks (s : State) (mode : Nat) : State :=
  if mode = 3 then forAll (List.range 4) (fun p s => ((s.put (R.HG_CTRL_MODE p) 0).put (R.HG_CTRL_RATE_MAX p) 0).hgEnWrite p true) s
  else if mode = 1 ∨ mode = 2 then (s.put R.HP_CTRL_CFG (if mode = 1 then 3 else 5)).put R.HP_CTRL_EN 1
  else s

theorem State.romLinks_set (s : State) (mode : Nat) : s.LinksSet (s.romLinks mode) := by
  have hc : ¬RomReg R.HP_CTRL := by
    simp only [RomReg, R.CASC_STATUS, R.THERM_CFG, R.HP_CTRL]
    omega
  unfold State.romLinks
  refine .ite (.forAll (.refl s) fun p hp u hu => ?_) (.ite (.put (.put (.refl s) hc) hc) (.refl s))
  have hp := List.mem_range.1 hp
  exact .enable hp (.ctrl hp (.ctrl hp hu rfl) rfl)

/-! ### The windows -/

/-- The ROM locks a master's windows and gives it the first. -/
def State.romWindow (m : Nat) (s : State) : State :=
  let s := forAll (List.range 8) (fun k s => s.put (R.WIN1_LOCK m k) 1) s
  (((s.put (R.WIN1_SIZE m 0) 32).put (R.WIN1_R m 0) 1).put (R.WIN1_W m 0) 1).put (R.WIN1_EN m 0) 1

def State.Windowed (m : Nat) (s : State) : Prop := s.flag (R.WIN1_EN m 0) = true ∧ ∀ k, k < 8 → s.flag (R.WIN1_LOCK m k) = true

theorem State.OnRegs.forAll {α : Type} {s t : State} {l : List α} {f : α → State → State} (h : s.OnRegs t)
    (k : ∀ a ∈ l, ∀ u, s.OnRegs u → s.OnRegs (f a u)) : s.OnRegs (Machine.forAll l f t) := forAll_keeps _ l f k t h

theorem State.OnRegs.setReg {s t : State} {a : Nat} {v : Word} (h : s.OnRegs t) : s.OnRegs (t.setReg a v) := by
  obtain ⟨r, rfl⟩ := h
  exact ⟨_, rfl⟩

theorem State.romWindow_onRegs (m : Nat) (s : State) : s.OnRegs (State.romWindow m s) :=
  .put (.put (.put (.put (.forAll (.refl s) fun _ _ _ h => .put h))))

/-- The window's own registers only are written. -/
theorem State.romWindow_other (m : Nat) (s : State) {g : Field} (h : ∀ k, k < 8 → g.addr ≠ R.WIN1 m k) : (State.romWindow m s).get g = s.get g := by
  have h0 := h 0 (by decide)
  unfold State.romWindow
  extract_lets u
  have hu : u.get g = s.get g := forAll_keeps (fun u => u.get g = s.get g) _ _
    (fun k hk u hu => (State.get_put_other u (R.WIN1_LOCK m k) g _ (h k (List.mem_range.1 hk))).trans hu) s rfl
  clear_value u
  rw [State.get_put_other _ (R.WIN1_EN m 0) g _ h0, State.get_put_other _ (R.WIN1_W m 0) g _ h0, State.get_put_other _ (R.WIN1_R m 0) g _ h0,
    State.get_put_other _ (R.WIN1_SIZE m 0) g _ h0, hu]

theorem State.romWindow_windowed (m : Nat) (s : State) : (State.romWindow m s).Windowed m := by
  unfold State.romWindow
  extract_lets u
  have hu : ∀ k, k < 8 → u.flag (R.WIN1_LOCK m k) = true := fun k hk =>
    forAll_reaches (fun _ => True) (fun t => t.flag (R.WIN1_LOCK m k) = true) _ (fun k t => t.put (R.WIN1_LOCK m k) 1) (List.mem_range.2 hk)
      (fun _ _ _ _ => trivial) (fun t _ => State.flag_put t true) (fun j _ hj t _ ht => (State.flag_congr (State.get_put_other t (R.WIN1_LOCK m j) (R.WIN1_LOCK m k) _
        (by simp only [R.WIN1_LOCK, R.WIN1]; omega))).trans ht) s trivial
  clear_value u
  refine ⟨State.flag_put _ true, fun k hk => ?_⟩
  have hg : ((((u.put (R.WIN1_SIZE m 0) 32).put (R.WIN1_R m 0) 1).put (R.WIN1_W m 0) 1).put (R.WIN1_EN m 0) 1).get (R.WIN1_LOCK m k) =
      u.get (R.WIN1_LOCK m k) := by
    rw [State.get_put_apart _ _ .below, State.get_put_apart _ _ .above, State.get_put_apart _ _ .above, State.get_put_apart _ _ .above]
  exact (State.flag_congr hg).trans (hu k hk)

theorem State.Windowed.congr {m : Nat} {s t : State} (h : s.Windowed m) (k : ∀ g : Field, (∃ k, k < 8 ∧ g.addr = R.WIN1 m k) → t.get g = s.get g) :
    t.Windowed m :=
  ⟨(State.flag_congr (k _ ⟨0, by decide, rfl⟩)).trans h.1, fun j hj => (State.flag_congr (k _ ⟨j, hj, rfl⟩)).trans (h.2 j hj)⟩

/-- The masters whose windows the ROM locks. -/
def romMasters : List Nat := [0, 1, 2, 3, 0x58, 0x59]

theorem State.romWindows_spec (s : State) : s.OnRegs (forAll romMasters State.romWindow s) ∧
    (∀ m ∈ romMasters, (forAll romMasters State.romWindow s).Windowed m) ∧
    ∀ g : Field, g.addr < 0x11b04000 ∨ 0x11b08000 ≤ g.addr → (forAll romMasters State.romWindow s).get g = s.get g := by
  have hm : ∀ m ∈ romMasters, m ≤ 0x59 := by decide
  refine ⟨.forAll (.refl s) fun m _ u hu => hu.trans (u.romWindow_onRegs m), fun m hmem => ?_, fun g hg => ?_⟩
  · refine forAll_reaches (fun _ => True) (State.Windowed m) _ _ hmem (fun _ _ _ _ => trivial) (fun t _ => t.romWindow_windowed m)
      (fun j _ hj t _ ht => ht.congr fun g ⟨k, hk, hg⟩ => t.romWindow_other j fun i hi => ?_) s trivial
    rw [hg]
    simp only [R.WIN1]
    omega
  · refine forAll_keeps (fun t => t.get g = s.get g) _ _ (fun m hmem t ht => (t.romWindow_other m fun k hk => ?_).trans ht) s rfl
    have := hm m hmem
    simp only [R.WIN1]
    omega

/-! ### The ROM starts -/

theorem State.showTh_onRegs (s : State) : s.OnRegs s.showTh := .setReg (.setReg (.put (.put (.put (.put (.refl s))))))

theorem State.loadSpareRows_onRegs (s : State) : s.OnRegs s.loadSpareRows :=
  .forAll (.forAll (.refl s) fun _ _ _ h => .setReg h) fun _ _ _ h => .setReg h

/-- Role and limit, and the address of a manager. -/
def State.romRole (s : State) (mode : Nat) : State :=
  doIf (mode ≠ 3) (fun s => ((s.put R.CASC_STATUS_DA 0).put R.CASC_STATUS_DA_VALID 1).put R.CASC_STATUS_TIME_LOCK 1)
    ((s.put R.THERM_CFG_SHUT_C (min 125 s.th.shutFuse)).put R.CASC_STATUS_ROLE (b2n (mode == 3)))

theorem State.romRole_spec (s : State) (mode : Nat) : s.OnRegs (s.romRole mode) ∧ (s.romRole mode).flag R.CASC_STATUS_ROLE = decide (mode = 3) ∧
    (mode ≠ 3 → (s.romRole mode).get R.CASC_STATUS_DA = 0 ∧ (s.romRole mode).flag R.CASC_STATUS_DA_VALID = true) ∧
    (s.romRole mode).get R.THERM_CFG_SHUT_C = min 125 s.th.shutFuse := by
  have k0 : s.OnRegs ((s.put R.THERM_CFG_SHUT_C (min 125 s.th.shutFuse)).put R.CASC_STATUS_ROLE (b2n (mode == 3))) := .put (.put (.refl s))
  have k1 : ((s.put R.THERM_CFG_SHUT_C (min 125 s.th.shutFuse)).put R.CASC_STATUS_ROLE (b2n (mode == 3))).flag R.CASC_STATUS_ROLE = (mode == 3) :=
    State.flag_put _ _
  have k2 : ((s.put R.THERM_CFG_SHUT_C (min 125 s.th.shutFuse)).put R.CASC_STATUS_ROLE (b2n (mode == 3))).get R.THERM_CFG_SHUT_C = min 125 s.th.shutFuse :=
    (State.get_put_apart _ _ (.inl (by decide))).trans ((State.get_put s _).trans (Nat.mod_eq_of_lt (Nat.lt_of_le_of_lt (Nat.min_le_left ..) (by decide))))
  have hb : (mode == 3) = decide (mode = 3) := rfl
  unfold State.romRole
  generalize (s.put R.THERM_CFG_SHUT_C (min 125 s.th.shutFuse)).put R.CASC_STATUS_ROLE (b2n (mode == 3)) = u at *
  by_cases hm : mode = 3
  · rw [show (decide (mode ≠ 3)) = false by simp [hm], doIf_false]
    exact ⟨k0, k1.trans hb, fun h => absurd hm h, k2⟩
  · rw [show (decide (mode ≠ 3)) = true by simp [hm], doIf_true]
    have g1 : (((u.put R.CASC_STATUS_DA 0).put R.CASC_STATUS_DA_VALID 1).put R.CASC_STATUS_TIME_LOCK 1).get R.CASC_STATUS_ROLE = u.get R.CASC_STATUS_ROLE :=
      (State.get_put_apart _ _ .below).trans ((State.get_put_apart _ _ .above).trans (State.get_put_apart _ _ .above))
    have g2 : (((u.put R.CASC_STATUS_DA 0).put R.CASC_STATUS_DA_VALID 1).put R.CASC_STATUS_TIME_LOCK 1).get R.CASC_STATUS_DA = 0 :=
      (State.get_put_apart _ _ .below).trans ((State.get_put_apart _ _ .below).trans (State.get_put u _))
    have g3 : (((u.put R.CASC_STATUS_DA 0).put R.CASC_STATUS_DA_VALID 1).put R.CASC_STATUS_TIME_LOCK 1).flag R.CASC_STATUS_DA_VALID = true :=
      (State.flag_congr (State.get_put_apart _ _ .below)).trans (State.flag_put _ true)
    have g4 : (((u.put R.CASC_STATUS_DA 0).put R.CASC_STATUS_DA_VALID 1).put R.CASC_STATUS_TIME_LOCK 1).get R.THERM_CFG_SHUT_C = u.get R.THERM_CFG_SHUT_C :=
      (State.get_put_apart _ _ (.inl (by decide))).trans ((State.get_put_apart _ _ (.inl (by decide))).trans (State.get_put_apart _ _ (.inl (by decide))))
    exact ⟨.put (.put (.put k0)), (State.flag_congr g1).trans (k1.trans hb), fun _ => ⟨g2, g3⟩, g4.trans k2⟩

/-- What the ROM has set when it lets the firmware's image come. -/
def State.romSet (s : State) : State :=
  (forAll romMasters State.romWindow (((s.modTh fun t => { t with from0 := s.now, railWait := false, tries := 0, reqAt := s.now }).showTh.loadSpareRows).romRole
    s.th.mode)).romLinks s.th.mode

theorem State.startRom_eq (s : State) : s.startRom =
    if s.romSet.pw.shut then { s.romSet with boot := .held, pw := { s.romSet.pw with dead := true } }
    else if 3 < s.th.mode then { s.romSet with boot := .failed } else { s.romSet with boot := .rom } := rfl

theorem State.romSet_spec (s : State) :
    (∃ regs fe hg, s.romSet = { s with regs := regs, fe := fe, hg := hg, th := { s.th with from0 := s.now, railWait := false, tries := 0, reqAt := s.now } }) ∧
    s.romSet.flag R.CASC_STATUS_ROLE = decide (s.th.mode = 3) ∧
    (s.th.mode ≠ 3 → s.romSet.get R.CASC_STATUS_DA = 0 ∧ s.romSet.flag R.CASC_STATUS_DA_VALID = true) ∧
    s.romSet.get R.THERM_CFG_SHUT_C = min 125 s.th.shutFuse ∧ ∀ m ∈ romMasters, s.romSet.Windowed m := by
  unfold State.romSet
  have h0 := State.OnRegs.trans (State.showTh_onRegs (s.modTh fun t => { t with from0 := s.now, railWait := false, tries := 0, reqAt := s.now }))
    (State.loadSpareRows_onRegs _)
  generalize (s.modTh fun t => { t with from0 := s.now, railWait := false, tries := 0, reqAt := s.now }).showTh.loadSpareRows = u at *
  obtain ⟨k0, k1, k2, k3⟩ := u.romRole_spec s.th.mode
  generalize u.romRole s.th.mode = v at *
  obtain ⟨w0, w1, w2⟩ := v.romWindows_spec
  generalize forAll romMasters State.romWindow v = w at *
  obtain ⟨lg, r, fe, hg, hl⟩ := w.romLinks_set s.th.mode
  have hreg : ∀ g : Field, g.addr = R.CASC_STATUS ∨ g.addr = R.THERM_CFG → (w.romLinks s.th.mode).get g = v.get g := fun g hg =>
    (lg g (hg.imp_right .inl)).trans (w2 g (hg.imp (fun h => by rw [h]; decide) fun h => by rw [h]; decide))
  have hsh : v.get R.THERM_CFG_SHUT_C = min 125 s.th.shutFuse := k3.trans (by rw [h0.keeps State.th]; rfl)
  refine ⟨?_, (State.flag_congr (hreg _ (.inl rfl))).trans k1, fun h => ⟨(hreg _ (.inl rfl)).trans (k2 h).1,
    (State.flag_congr (hreg _ (.inl rfl))).trans (k2 h).2⟩, (hreg _ (.inr rfl)).trans hsh, fun m hm => (w1 m hm).congr fun g ⟨k, hk, hg⟩ => lg g (.inr (.inr ?_))⟩
  · obtain ⟨r', hu⟩ := (h0.trans k0).trans w0
    rw [hl, hu]
    exact ⟨_, _, _, rfl⟩
  · have hle : ∀ m ∈ romMasters, m ≤ 0x59 := by decide
    have := hle m hm
    rw [hg]
    simp only [R.WIN1]
    omega

end Sys2Proof.Machine
end

section
/-! The firmware's image and the host's part of boot (R554, R572, R573). -/

namespace Sys2Proof.Machine

section
variable (s : State)

/-! ### Bytes stored -/

theorem State.storeMem_spec (a : Nat) (l : List Byte) : ∃ memx, s.storeMem a l = { s with mem := s.mem.setList a l, memx := memx } := by
  have hm : ∀ (t : State) full w, (∃ x, t = { s with mem := s.mem.setList a l, memx := x }) →
      ∃ x, State.markWord full w t = { s with mem := s.mem.setList a l, memx := x } := by
    rintro t full w ⟨x, rfl⟩
    have hc : ∀ t : State, ∃ x, t.cancelWb w = { t with memx := x } := fun t => by
      unfold State.cancelWb
      split
      · extract_lets k
        split
        · exact ⟨_, rfl⟩
        · exact ⟨_, rfl⟩
      · exact ⟨_, rfl⟩
    unfold State.markWord
    extract_lets u was v
    obtain ⟨x1, hu⟩ : ∃ x, u = _ := hc _
    have hv : ∃ x, v = { u with memx := x } := doIf_cases (fun t => ∃ x, t = { u with memx := x }) (fun _ => ⟨_, rfl⟩) fun _ => ⟨_, rfl⟩
    obtain ⟨x2, hv⟩ := hv
    rw [hv, hu]
    exact ⟨_, rfl⟩
  unfold State.storeMem
  split
  · next h =>
    subst h
    exact ⟨_, rfl⟩
  · exact forAll_keeps (fun t => ∃ x, t = { s with mem := s.mem.setList a l, memx := x }) _ _ (fun w _ t ht => hm t _ w ht) _ ⟨_, rfl⟩

/-! ### An image that passes -/

theorem State.becomeWorker_spec : (∃ regs fe out, s.becomeWorker = { s with regs := regs, fe := fe, out := out }) ∧ s.becomeWorker.worker = true ∧
    ∀ a, a / 2 ^ 20 = 0x11F → s.becomeWorker.reg a = s.reg a := by
  have k0 : s.OnRegs ((((s.put R.CASC_STATUS_ROLE 1).put R.CASC_STATUS_DA 0).put R.CASC_STATUS_DA_VALID 0).put R.CASC_STATUS_TIME_LOCK 0) :=
    .put (.put (.put (.put (.refl s))))
  have k1 : ((((s.put R.CASC_STATUS_ROLE 1).put R.CASC_STATUS_DA 0).put R.CASC_STATUS_DA_VALID 0).put R.CASC_STATUS_TIME_LOCK 0).flag R.CASC_STATUS_ROLE = true :=
    (State.flag_congr ((State.get_put_apart _ _ .below).trans ((State.get_put_apart _ _ .above).trans (State.get_put_apart _ _ .above)))).trans
      (State.flag_put s true)
  have k2 : ∀ a, a ≠ R.CASC_STATUS →
      ((((s.put R.CASC_STATUS_ROLE 1).put R.CASC_STATUS_DA 0).put R.CASC_STATUS_DA_VALID 0).put R.CASC_STATUS_TIME_LOCK 0).reg a = s.reg a := fun a ha => by
    rw [State.reg_put_other _ R.CASC_STATUS_TIME_LOCK a _ ha, State.reg_put_other _ R.CASC_STATUS_DA_VALID a _ ha,
      State.reg_put_other _ R.CASC_STATUS_DA a _ ha, State.reg_put_other _ R.CASC_STATUS_ROLE a _ ha]
  unfold State.becomeWorker
  generalize (((s.put R.CASC_STATUS_ROLE 1).put R.CASC_STATUS_DA 0).put R.CASC_STATUS_DA_VALID 0).put R.CASC_STATUS_TIME_LOCK 0 = u at *
  obtain ⟨⟨r, f, o, j0⟩, -, -, j1⟩ := u.portsDown_spec
  obtain ⟨r', rfl⟩ := k0
  refine ⟨⟨r, f, o, j0⟩, ?_, fun a ha => ?_⟩
  · have hr := j1 R.CASC_STATUS (by decide) (fun x _ => by simp only [R.CASC_STATUS, R.SESS_STAT]; omega) (by decide)
    exact (State.flag_congr (congrArg R.CASC_STATUS_ROLE.of hr)).trans k1
  · refine (j1 a ?_ (fun x hx => ?_) ?_).trans (k2 a ?_) <;> intro e <;> subst e
    · exact absurd ha (by decide)
    · simp only [R.SESS_STAT] at ha
      omega
    · exact absurd ha (by decide)
    · exact absurd ha (by decide)

/-- What the ROM shows of the image that it starts. -/
def State.imageShown (s : State) (b : List Byte) (src : Nat) : State :=
  ((((s.put R.TH_STATUS_BOOT_SRC src).put R.TH_STATUS_FW_REGION 0).setReg R.TH_FWVER (BitVec.ofNat 32 (Config.signed b).version)).put
    R.TH_SVN_SVN (Config.signed b).svn)

theorem State.imageShown_spec (b : List Byte) {src : Nat} (h : src < 4) : s.OnRegs (s.imageShown b src) ∧
    (s.imageShown b src).reg R.TH_FWVER = BitVec.ofNat 32 (Config.signed b).version ∧ (s.imageShown b src).get R.TH_STATUS_BOOT_SRC = src ∧
    (s.imageShown b src).get R.TH_STATUS_FW_REGION = 0 := by
  unfold State.imageShown
  have k1 : ((s.put R.TH_STATUS_BOOT_SRC src).put R.TH_STATUS_FW_REGION 0).get R.TH_STATUS_BOOT_SRC = src :=
    (State.get_put_apart _ _ .above).trans ((State.get_put s _).trans (Nat.mod_eq_of_lt h))
  have k2 : ((s.put R.TH_STATUS_BOOT_SRC src).put R.TH_STATUS_FW_REGION 0).get R.TH_STATUS_FW_REGION = 0 := State.get_put _ _
  have k0 : s.OnRegs ((s.put R.TH_STATUS_BOOT_SRC src).put R.TH_STATUS_FW_REGION 0) := .put (.put (.refl s))
  generalize (s.put R.TH_STATUS_BOOT_SRC src).put R.TH_STATUS_FW_REGION 0 = u at *
  have j0 := State.reg_setReg_same u R.TH_FWVER (BitVec.ofNat 32 (Config.signed b).version)
  have j1 : ∀ f : Field, f.addr = R.TH_STATUS → (u.setReg R.TH_FWVER (BitVec.ofNat 32 (Config.signed b).version)).get f = u.get f := fun f hf =>
    congrArg f.of (State.reg_setReg_other u R.TH_FWVER f.addr _ (by rw [hf]; decide))
  have j2 : s.OnRegs (u.setReg R.TH_FWVER (BitVec.ofNat 32 (Config.signed b).version)) := k0.setReg
  generalize u.setReg R.TH_FWVER (BitVec.ofNat 32 (Config.signed b).version) = v at *
  have hs : ∀ f : Field, f.addr = R.TH_STATUS → (v.put R.TH_SVN_SVN (Config.signed b).svn).get f = v.get f := fun f hf =>
    State.get_put_other v R.TH_SVN_SVN f _ (by rw [hf]; decide)
  exact ⟨.put j2, (State.reg_put_other v R.TH_SVN_SVN _ _ (by decide)).trans j0, (hs _ rfl).trans ((j1 _ rfl).trans k1),
    (hs _ rfl).trans ((j1 _ rfl).trans k2)⟩

theorem State.bootImage_eq (b : List Byte) (src : Nat) {u : State}
    (hu : u = ((s.storeMem (fwBase 0) b).imageShown b src).modTh fun t =>
      { t with runHash := (Config.signed b).hash, bootHash := (Config.signed b).hash, bootAdv := (Config.signed b).advance }) :
    s.bootImage b src = { doIf (Config.bootWorker b && !u.worker) State.becomeWorker u with boot := .firmware } := by
  subst hu
  rfl

/-- An image that passes stands in FW0 and starts (R572). -/
theorem State.bootImage_spec (b : List Byte) {src : Nat} (h : src < 4) : (s.bootImage b src).boot = .firmware ∧
    (s.bootImage b src).mem = s.mem.setList 0x3200000 b ∧ (s.bootImage b src).reg R.TH_FWVER = BitVec.ofNat 32 (Config.signed b).version ∧
    (s.bootImage b src).get R.TH_STATUS_BOOT_SRC = src ∧ (s.bootImage b src).get R.TH_STATUS_FW_REGION = 0 ∧
    (s.bootImage b src).th.runHash = (Config.signed b).hash ∧ (Config.bootWorker b = true → (s.bootImage b src).worker = true) ∧
    (s.bootImage b src).th.bootGo = s.th.bootGo := by
  obtain ⟨x, hx⟩ := s.storeMem_spec (fwBase 0) b
  obtain ⟨k0, k1, k2, k3⟩ := (s.storeMem (fwBase 0) b).imageShown_spec b h
  obtain ⟨u, hu⟩ : ∃ u, u = ((s.storeMem (fwBase 0) b).imageShown b src).modTh fun t =>
      { t with runHash := (Config.signed b).hash, bootHash := (Config.signed b).hash, bootAdv := (Config.signed b).advance } := ⟨_, rfl⟩
  rw [s.bootImage_eq b src hu]
  generalize s.storeMem (fwBase 0) b = w at *
  subst hx
  generalize State.imageShown _ b src = v at *
  obtain ⟨r, rfl⟩ := k0
  have hm : u.mem = s.mem.setList 0x3200000 b := by rw [hu]; rfl
  have hg : u.th.bootGo = s.th.bootGo := by rw [hu]; rfl
  have hh : u.th.runHash = (Config.signed b).hash := by rw [hu]; rfl
  have h1 : u.reg R.TH_FWVER = BitVec.ofNat 32 (Config.signed b).version := by rw [hu]; exact k1
  have h2 : u.get R.TH_STATUS_BOOT_SRC = src := by rw [hu]; exact k2
  have h3 : u.get R.TH_STATUS_FW_REGION = 0 := by rw [hu]; exact k3
  clear hu k1 k2 k3
  have hP : ∀ t : State, (∃ regs fe out, t = { u with regs := regs, fe := fe, out := out }) → (Config.bootWorker b = true → t.worker = true) →
      (∀ a, a / 2 ^ 20 = 0x11F → t.reg a = u.reg a) → ({ t with boot := .firmware } : State).boot = .firmware ∧ t.mem = s.mem.setList 0x3200000 b ∧
      t.reg R.TH_FWVER = BitVec.ofNat 32 (Config.signed b).version ∧ t.get R.TH_STATUS_BOOT_SRC = src ∧ t.get R.TH_STATUS_FW_REGION = 0 ∧
      t.th.runHash = (Config.signed b).hash ∧ (Config.bootWorker b = true → t.worker = true) ∧ t.th.bootGo = s.th.bootGo := by
    rintro t ⟨r, f, o, ht⟩ hw hr
    exact ⟨rfl, by rw [ht]; exact hm, (hr _ (by decide)).trans h1, (congrArg R.TH_STATUS_BOOT_SRC.of (hr _ (by decide))).trans h2,
      (congrArg R.TH_STATUS_FW_REGION.of (hr _ (by decide))).trans h3, by rw [ht]; exact hh, hw, by rw [ht]; exact hg⟩
  by_cases hc : (Config.bootWorker b && !u.worker) = true
  · obtain ⟨j0, j1, j2⟩ := u.becomeWorker_spec
    rw [hc, doIf_true]
    exact hP _ j0 (fun _ => j1) j2
  · rw [Bool.eq_false_iff.2 hc, doIf_false]
    exact hP u ⟨_, _, _, rfl⟩ (fun hw => by simpa [hw] using hc) fun _ _ => rfl

end
end Sys2Proof.Machine
end

section
/-! The choice of the image, the host's requests, and the end of boot (R554, R572 to R574). -/

namespace Sys2Proof.Machine

section
variable (s : State) {a b : List Byte}

/-! ### The choice of the image -/

theorem State.manifest_of_image {l : List Byte} (h : s.imageCheck l = .ok) : s.manifestCheck l = .ok := by
  unfold State.imageCheck at h
  split at h
  · next hm => exact hm
  · exact h

theorem State.imageLoaded_none (h : s.boot ≠ .image) : s.imageLoaded a b = s := by
  unfold State.imageLoaded
  exact if_pos h

variable (h : s.boot = .image)
include h

section
variable (hm : s.th.mode = 0)
include hm

/-- On OSPI the image with the higher SVN comes first, the other one if it fails (R572). -/
theorem State.imageLoaded_ospi {first : Bool} (hf : first = (s.manifestCheck a == .ok && (!(s.manifestCheck b == .ok) ||
    decide ((Config.signed b).svn ≤ (Config.signed a).svn)))) : s.imageLoaded a b =
      match (if first then [(a, 0), (b, 1)] else [(b, 1), (a, 0)]).find? fun p => s.imageCheck p.1 == .ok with
      | some (x, k) => s.bootImage x k
      | none => { s with boot := .failed } := by
  subst hf
  unfold State.imageLoaded
  exact (if_neg (by simp [h])).trans (if_pos hm)

theorem State.imageLoaded_a (hi : s.imageCheck a = .ok) (hf : s.manifestCheck b ≠ .ok ∨ (Config.signed b).svn ≤ (Config.signed a).svn) :
    s.imageLoaded a b = s.bootImage a 0 := by
  rw [s.imageLoaded_ospi h hm (first := true) (by simpa [s.manifest_of_image hi] using hf)]
  simp [hi]

theorem State.imageLoaded_b (hi : s.imageCheck b = .ok) (hf : s.manifestCheck a ≠ .ok ∨ (Config.signed a).svn < (Config.signed b).svn) :
    s.imageLoaded a b = s.bootImage b 1 := by
  rw [s.imageLoaded_ospi h hm (first := false) (by simpa [s.manifest_of_image hi, or_iff_not_imp_left] using hf)]
  simp [hi]

theorem State.imageLoaded_fails (h1 : s.imageCheck a ≠ .ok) (h2 : s.imageCheck b ≠ .ok) : s.imageLoaded a b = { s with boot := .failed } := by
  rw [s.imageLoaded_ospi h hm rfl]
  generalize (s.manifestCheck a == .ok && _) = first
  cases first
  · simp [h1, h2]
  · simp [h1, h2]

end

theorem State.imageLoaded_link (hm : s.th.mode = 3) (hp : s.bootPort ≠ none) :
    s.imageLoaded a b = if s.imageCheck a = .ok then s.bootImage a 3 else s.rejectImage := by
  unfold State.imageLoaded
  exact (if_neg (by simp [h])).trans ((if_neg (by omega)).trans ((if_pos hm).trans (if_neg (by simpa using hp))))

theorem State.imageLoaded_host (hm : s.th.mode = 1 ∨ s.th.mode = 2) : s.imageLoaded a b =
    match s.th.bootGo with
    | some (c, len) =>
      if (s.modTh fun t => { t with bootGo := none }).imageCheck (s.readClean (fwBase 0) len).1 = .ok then
        ((s.modTh fun t => { t with bootGo := none }).sendReply c .ok 0 [] false).bootImage (s.readClean (fwBase 0) len).1 2
      else ((s.modTh fun t => { t with bootGo := none }).sendReply c .authFail 0 [] false).rejectImage
    | none => s := by
  unfold State.imageLoaded
  exact (if_neg (by simp [h])).trans ((if_neg (by omega)).trans (if_neg (by omega)))

end

section
variable (s : State)

theorem State.rejectImage_again (h : s.th.tries < 3) : s.rejectImage = { s with th := { s.th with tries := s.th.tries + 1 } } :=
  if_neg (by omega)

theorem State.rejectImage_last (h : 3 ≤ s.th.tries) : s.rejectImage = { s with boot := .failed } := if_pos h

/-- A reply changes nothing but what is under way to the host. -/
theorem State.putReply_shape (c : Cmd) (p : Packet) : ∃ fe out, s.putReply c p = { s with fe := fe, out := out } := by
  unfold State.putReply
  split
  · split
    · exact ⟨_, _, rfl⟩
    · split
      · exact ⟨_, _, rfl⟩
      · exact ⟨_, _, rfl⟩
  · exact ⟨_, _, rfl⟩

theorem State.sendReply_shape (c : Cmd) (st : Status) (hint : Nat) (l : List Byte) (tagged : Bool) :
    ∃ fe out, s.sendReply c st hint l tagged = { s with fe := fe, out := out } := s.putReply_shape c _

/-! ### The host's part -/

section
variable (c : Cmd)

theorem State.bootLoad_none (h : ¬(s.boot = .image ∧ (s.th.mode = 1 ∨ s.th.mode = 2))) : s.bootLoad c = s.reply c .badOpcode [] := by
  unfold State.bootLoad
  exact if_neg h

theorem State.bootGo_none (h : ¬(s.boot = .image ∧ (s.th.mode = 1 ∨ s.th.mode = 2))) : s.bootGo c = s.reply c .badOpcode [] := by
  unfold State.bootGo
  exact if_neg h

variable (h : s.boot = .image ∧ (s.th.mode = 1 ∨ s.th.mode = 2))
include h

theorem State.bootLoad_eq (h1 : 4 ≤ (c.payload.drop 4).length) (h2 : (c.payload.drop 4).length ≤ 8188)
    (h3 : c.num 0 4 + (c.payload.drop 4).length ≤ 0x100000) :
    s.bootLoad c = (s.storeMem (fwBase 0 + c.num 0 4) (c.payload.drop 4)).sendReply c .ok 0 [] false := by
  unfold State.bootLoad
  refine (if_pos h).trans (if_neg ?_)
  change ¬(_ ∨ _ ∨ 0x100000 < c.num 0 4 + (c.payload.drop 4).length)
  omega

theorem State.bootGo_eq (h1 : c.size = 4) (h2 : c.num 0 4 ≠ 0) (h3 : c.num 0 4 ≤ 0x100000) :
    s.bootGo c = { s with th := { s.th with bootGo := some (c, c.num 0 4) } } := by
  unfold State.bootGo
  refine (if_pos h).trans (if_neg ?_)
  change ¬(c.size ≠ 4 ∨ c.num 0 4 = 0 ∨ 0x100000 < c.num 0 4)
  omega

end
end

/-! ### The end of boot -/

/-- From `s` on nothing moved time, memory or the phase of boot, and a spare that had failed has still failed. -/
structure State.Checked (q : Nat) (s t : State) : Prop where
  now : t.now = s.now
  mem : t.mem = s.mem
  boot : t.boot = s.boot
  spare : s.flag (R.PD_REPAIR_SPARE_FAILED q) = true → t.flag (R.PD_REPAIR_SPARE_FAILED q) = true

namespace State.Checked
variable {q : Nat} {s t u : State}

theorem refl (q : Nat) (s : State) : s.Checked q s := ⟨rfl, rfl, rfl, id⟩

theorem trans (h : s.Checked q t) (k : t.Checked q u) : s.Checked q u :=
  ⟨k.now.trans h.now, k.mem.trans h.mem, k.boot.trans h.boot, fun e => k.spare (h.spare e)⟩

theorem put {f : Field} {v : Nat} (h : s.Checked q t) (hf : f.Apart (R.PD_REPAIR_SPARE_FAILED q)) (w : f.fits = true := by rfl) :
    s.Checked q (t.put f v) :=
  h.trans ⟨State.put_now .., State.put_mem .., State.put_boot .., fun e => (State.flag_put_apart t v hf w).trans e⟩

/-- Registers of other parts. -/
theorem putOther {f : Field} {v : Nat} (h : s.Checked q t) (hf : f.addr < 0x11104000 ∨ 0x11105000 ≤ f.addr) (hq : q < 4) : s.Checked q (t.put f v) := by
  have hne : (R.PD_REPAIR_SPARE_FAILED q).addr ≠ f.addr := by
    simp only [R.PD_REPAIR_SPARE_FAILED, R.PD_REPAIR]
    omega
  exact h.trans ⟨State.put_now .., State.put_mem .., State.put_boot .., fun e => (State.flag_congr (State.get_put_other t f _ v hne)).trans e⟩

theorem setReg {a : Nat} {v : Word} (h : s.Checked q t) (ha : a < 0x11104000 ∨ 0x11105000 ≤ a) (hq : q < 4) : s.Checked q (t.setReg a v) := by
  have hne : R.PD_REPAIR q ≠ a := by
    simp only [R.PD_REPAIR]
    omega
  exact h.trans ⟨rfl, rfl, rfl, fun e =>
    (State.flag_congr (congrArg (R.PD_REPAIR_SPARE_FAILED q).of (State.reg_setReg_other t a (R.PD_REPAIR q) v hne))).trans e⟩

theorem fails (h : s.Checked q t) (j : Nat) : s.Checked q (t.put (R.PD_REPAIR_SPARE_FAILED j) 1) := by
  refine h.trans ⟨State.put_now .., State.put_mem .., State.put_boot .., fun e => ?_⟩
  by_cases hj : q = j
  · subst hj
    exact State.flag_put t true
  · exact (State.flag_congr (State.get_put_other t (R.PD_REPAIR_SPARE_FAILED j) (R.PD_REPAIR_SPARE_FAILED q) 1
      (by simp only [R.PD_REPAIR_SPARE_FAILED, R.PD_REPAIR]; omega))).trans e

theorem alarmed (hq : q < 4) (h : s.Checked q t) (k : t.Alarmed u) : s.Checked q u :=
  h.trans ⟨k.keeps State.now, k.keeps State.mem, k.keeps State.boot, fun e => (State.flag_congr (k.get_of_block (by
    rw [show (R.PD_REPAIR_SPARE_FAILED q).addr / 2 ^ 20 = 0x111 by simp only [R.PD_REPAIR_SPARE_FAILED, R.PD_REPAIR]; omega]
    rfl))).trans e⟩

theorem event {e : Event} (hq : q < 4) (h : s.Checked q t) : s.Checked q (t.event e) := h.alarmed hq (.event (.refl t))

theorem report {r : Report} (hq : q < 4) (h : s.Checked q t) (hu : r.unit < 0x40) : s.Checked q (t.report r) := h.alarmed hq (.report (.refl t) hu)

theorem modPd {ch : Nat} {f : PdX → PdX} (h : s.Checked q t) : s.Checked q (t.modPd ch f) := h.trans ⟨rfl, rfl, rfl, id⟩

theorem modBf {f : BeamX → BeamX} (h : s.Checked q t) : s.Checked q (t.modBf f) := h.trans ⟨rfl, rfl, rfl, id⟩

theorem modMem {f : MemX → MemX} (h : s.Checked q t) : s.Checked q (t.modMem f) := h.trans ⟨rfl, rfl, rfl, id⟩

theorem modTh {f : ThX → ThX} (h : s.Checked q t) : s.Checked q (t.modTh f) := h.trans ⟨rfl, rfl, rfl, id⟩

theorem ite {c : Prop} [Decidable c] (h : s.Checked q t) (k : s.Checked q u) : s.Checked q (if c then t else u) := by
  split
  · exact h
  · exact k

theorem doIf {b : Bool} {f : State → State} (h : s.Checked q t) (k : ∀ u, s.Checked q u → s.Checked q (f u)) : s.Checked q (Machine.doIf b f t) :=
  doIf_keeps _ b f k t h

theorem forAll {α : Type} {l : List α} {f : α → State → State} (h : s.Checked q t) (k : ∀ a ∈ l, ∀ u, s.Checked q u → s.Checked q (f a u)) :
    s.Checked q (Machine.forAll l f t) := forAll_keeps _ l f k t h

end State.Checked

section
variable {q : Nat} (hq : q < 4) (s : State)
include hq

theorem State.pdRepair_checked {ch : Nat} (sy : Nat × Nat) : s.Checked q (s.pdRepair ch sy) := by
  unfold State.pdRepair
  extract_lets j onSpare u
  have hu : s.Checked q u := .modPd (.refl q s)
  clear_value u
  have hr : ∀ {cls : FClass} {c i : Nat}, (mkReport 0x0A cls c i).unit < 0x40 := Nat.le_of_ble_eq_true rfl
  have hn : ∀ v : State, s.Checked q v → s.Checked q (((v.modPd ch fun x => { x with noSpare := true }).report (mkReport 0x0A .clsU 0x0013 ch)).event
      (.pdNoSpare ch)) := fun v hv => .event hq (.report hq hv.modPd hr)
  refine .ite (hn _ (.put (.fails hu j) .above)) ?_
  have hf : s.Checked q (u.raiseBit (R.PD_REPAIR_FAILED j) (ch % 16)) := .put hu .below
  exact .ite (hn _ hf) (.event hq (.report hq (.put (.put hf .above) .above) hr))

theorem State.columnFail_checked (a : Nat) (d : Dir) (cs k : Nat) : s.Checked q (s.columnFail a d cs k) := by
  have hr : ∀ {cls : FClass} {c i : Nat}, (mkReport 0x0B cls c i).unit < 0x40 := Nat.le_of_ble_eq_true rfl
  unfold State.columnFail
  extract_lets j u onSpare from0 s0 quiet lost
  have hu : s.Checked q u := .putOther (.refl q s) (.inr (by decide)) hq
  have hquiet : ∀ v, s.Checked q v → s.Checked q (quiet v) := fun v hv => .forAll hv fun _ _ _ h => .modBf h
  have hlost : ∀ v, s.Checked q v → s.Checked q (lost v) := fun v hv => .event hq (.report hq (.modBf (hquiet v hv)) hr)
  have hj : R.BF_REPAIR j < 0x11104000 ∨ 0x11105000 ≤ R.BF_REPAIR j := .inr (by simp only [R.BF_REPAIR]; omega)
  clear_value quiet lost u
  refine .ite hu (.ite (hlost _ (.putOther (.putOther hu hj hq) hj hq)) ?_)
  have hf : s.Checked q (u.raiseBit (R.BF_REPAIR_FAILED j) (a % 16)) := .putOther hu hj hq
  refine .ite (hlost _ hf) (.event hq (.report hq (.modBf (hquiet _ (.putOther (.putOther hf hj hq) hj hq))) ?_))
  exact Nat.le_of_ble_eq_true rfl

theorem State.retireRecorded_checked : s.Checked q s.retireRecorded := by
  have hm : ∀ k, R.MEM_SPARE k < 0x11104000 ∨ 0x11105000 ≤ R.MEM_SPARE k := fun k => .inr (by simp only [R.MEM_SPARE]; omega)
  have hg : ∀ b, s.Checked q (s.retireGo b none).1 := fun b => by
    unfold State.retireGo
    split
    · exact .putOther (.refl q s) (.inr (by decide)) hq
    · next k _ => exact .putOther (.modMem (.putOther (.putOther (.refl q s) (hm k) hq) (hm k) hq)) (.inr (by decide)) hq
  unfold State.retireRecorded
  split
  · exact .ite (hg _) (.refl q s)
  · exact .refl q s

theorem State.showTh_checked : s.Checked q s.showTh := by
  unfold State.showTh
  refine .setReg (.setReg (.putOther (.putOther (.putOther (.putOther (.refl q s) ?_ hq) ?_ hq) ?_ hq) ?_ hq) ?_ hq) ?_ hq <;>
    exact .inr (by decide)

theorem State.advanceTry_checked : s.Checked q s.advanceTry := by
  unfold State.advanceTry
  split
  · exact .ite (.trans (.putOther (.modTh (.refl q s)) (.inr (by decide)) hq) (State.showTh_checked hq _)) (.putOther (.refl q s) (.inr (by decide)) hq)
  · exact .refl q s

/-- One quadrant's spares, as the built-in test finds them. -/
def State.spareTested (evals cols j : Nat) (s : State) : State :=
  doIf (cols.testBit (64 + j)) (fun s => s.put (R.BF_REPAIR_SPARE_FAILED j) 1)
    (doIf (evals.testBit (64 + j)) (fun s => s.put (R.PD_REPAIR_SPARE_FAILED j) 1) s)

theorem State.spareTested_checked (evals cols j : Nat) : s.Checked q (State.spareTested evals cols j s) :=
  .doIf (.doIf (.refl q s) fun _ h => .fails h j) fun _ h => .putOther h (.inr (by simp only [R.BF_REPAIR_SPARE_FAILED, R.BF_REPAIR]; omega)) hq

theorem State.spareTested_fails {evals : Nat} (cols : Nat) (h : evals.testBit (64 + q) = true) :
    (State.spareTested evals cols q s).flag (R.PD_REPAIR_SPARE_FAILED q) = true := by
  unfold State.spareTested
  rw [h, doIf_true]
  have hk : (s.put (R.PD_REPAIR_SPARE_FAILED q) 1).Checked q (doIf (cols.testBit (64 + q)) (fun s => s.put (R.BF_REPAIR_SPARE_FAILED q) 1)
      (s.put (R.PD_REPAIR_SPARE_FAILED q) 1)) :=
    .doIf (.refl q _) fun _ h => .putOther h (.inr (by simp only [R.BF_REPAIR_SPARE_FAILED, R.BF_REPAIR]; omega)) hq
  exact hk.spare (State.flag_put s true)

/-- A spare that fails the built-in test is marked (R573). -/
theorem State.selfTest_spec (evals cols : Nat) : s.Checked q (s.selfTest evals cols) ∧
    (evals.testBit (64 + q) = true → (s.selfTest evals cols).flag (R.PD_REPAIR_SPARE_FAILED q) = true) := by
  have h1 : s.Checked q (forAll (List.range 4) (State.spareTested evals cols) s) :=
    .forAll (.refl q s) fun j _ u h => h.trans (State.spareTested_checked hq u evals cols j)
  have h2 : ∀ u : State, u.Checked q (forAll (bitList 64 cols) (fun a s => s.columnFail a .dl 0 0)
      (forAll (bitList 64 evals) (fun ch s => s.pdRepair ch (s.sfn, 0)) u)) := fun u =>
    .forAll (.forAll (.refl q u) fun _ _ v h => h.trans (State.pdRepair_checked hq v _)) fun _ _ v h => h.trans (State.columnFail_checked hq v ..)
  refine ⟨h1.trans (h2 _), fun he => (h2 _).spare ?_⟩
  exact forAll_reaches (fun _ => True) (fun t => t.flag (R.PD_REPAIR_SPARE_FAILED q) = true) _ (State.spareTested evals cols) (List.mem_range.2 hq)
    (fun _ _ _ _ => trivial) (fun t _ => State.spareTested_fails hq t cols he)
    (fun j _ _ t _ ht => (State.spareTested_checked hq t evals cols j).spare ht) s trivial

end

theorem State.bootReady_none (s : State) (evals cols : Nat) (h : s.boot ≠ .firmware) : s.bootReady evals cols = s := by
  unfold State.bootReady
  exact if_neg h

/-- BOOT_READY ends boot (R573, R574). -/
theorem State.bootReady_spec (s : State) (evals cols : Nat) (h : s.boot = .firmware) {q : Nat} (hq : q < 4) :
    (s.bootReady evals cols).boot = .ready ∧ (s.bootReady evals cols).mem = s.mem ∧ (s.bootReady evals cols).now = s.now ∧
    (evals.testBit (64 + q) = true → (s.bootReady evals cols).flag (R.PD_REPAIR_SPARE_FAILED q) = true) := by
  obtain ⟨k1, k2⟩ := State.selfTest_spec hq s evals cols
  unfold State.bootReady
  rw [if_pos h]
  generalize s.selfTest evals cols = u at *
  have hr := State.retireRecorded_checked hq { u with boot := .ready }
  extract_lets src v n w
  have hw : ({ u with boot := .ready } : State).Checked q (w.event (.ready (w.reg R.TH_FWVER).toNat)).advanceTry :=
    .trans (.event hq (.modTh hr)) (State.advanceTry_checked hq _)
  exact ⟨hw.boot, hw.mem.trans k1.mem, hw.now.trans k1.now, fun e => hw.spare (k2 e)⟩

end Sys2Proof.Machine
end

section
/-! The statement of reset and boot. -/

namespace Sys2Proof.Machine

section
variable (s : State)

theorem State.resetRelease_none (mode : Nat) (rails : Bool) (h : s.boot ≠ .held ∨ s.pw.dead = true) : s.resetRelease mode rails = s := by
  unfold State.resetRelease
  exact if_neg (by rcases h with h | h <;> simp [h])

theorem State.resetRelease_eq (mode : Nat) (rails : Bool) (h1 : s.boot = .held) (h2 : s.pw.dead = false) : s.resetRelease mode rails =
    if rails then (s.modTh fun t => { t with mode := mode % 8 }).startRom
    else (s.modTh fun t => { t with mode := mode % 8 }).modTh fun t => { t with railWait := true } := by
  unfold State.resetRelease
  exact if_pos ⟨h1, by simp [h2]⟩

/-- The ROM runs: what it has set, and the phase of boot it lets the device enter (R570, R571). -/
theorem State.startRom_spec : s.startRom.boot = (if s.pw.shut = true then .held else if 3 < s.th.mode then .failed else .rom) ∧
    s.startRom.th.from0 = s.now ∧ s.startRom.th.railWait = false ∧ s.startRom.flag R.CASC_STATUS_ROLE = decide (s.th.mode = 3) ∧
    (s.th.mode ≠ 3 → s.startRom.get R.CASC_STATUS_DA = 0 ∧ s.startRom.flag R.CASC_STATUS_DA_VALID = true) ∧
    s.startRom.get R.THERM_CFG_SHUT_C = min 125 s.th.shutFuse ∧ s.startRom.mem = s.mem ∧ s.startRom.now = s.now ∧
    (∀ m ∈ romMasters, s.startRom.flag (R.WIN1_EN m 0) = true ∧ ∀ k, k < 8 → s.startRom.flag (R.WIN1_LOCK m k) = true) ∧
    s.startRom.th.mode = s.th.mode := by
  obtain ⟨⟨r, f, g, k0⟩, k1, k2, k3, k4⟩ := s.romSet_spec
  rw [State.startRom_eq]
  generalize s.romSet = u at *
  subst k0
  by_cases hs : s.pw.shut = true
  · rw [if_pos hs, if_pos hs]
    exact ⟨rfl, rfl, rfl, k1, k2, k3, rfl, rfl, k4, rfl⟩
  · rw [if_neg hs, if_neg hs]
    by_cases hm : 3 < s.th.mode
    · rw [if_pos hm, if_pos hm]
      exact ⟨rfl, rfl, rfl, k1, k2, k3, rfl, rfl, k4, rfl⟩
    · rw [if_neg hm, if_neg hm]
      exact ⟨rfl, rfl, rfl, k1, k2, k3, rfl, rfl, k4, rfl⟩

theorem State.selfRelease_none (h : s.th.railWait = false) : s.selfRelease = s := if_neg (by simp [h])

theorem State.selfRelease_eq (h : s.th.railWait = true) : s.selfRelease = s.startRom := if_pos h

theorem State.pllTimeout_none (h : s.boot ≠ .rom) : s.pllTimeout = s := if_neg h

theorem State.pllTimeout_eq (h : s.boot = .rom) : s.pllTimeout = { s with now := max s.now (s.th.from0 + 100 * msCycles), boot := .failed } := if_pos h

theorem State.bootRequest_none (h : ¬(s.boot = .image ∧ (s.th.mode = 1 ∨ s.th.mode = 2)) ∨ s.flag R.HP_STATUS_ETHREF_OK = false) :
    s.bootRequest = s := by
  unfold State.bootRequest
  exact if_neg fun ⟨h1, h2, h3⟩ => h.elim (fun h => h ⟨h1, h2⟩) fun h => absurd (h.symm.trans h3) (by decide)

/-- The image's request by broadcast, and the next one 100 ms on (R554). -/
theorem State.bootRequest_spec (h : s.boot = .image ∧ (s.th.mode = 1 ∨ s.th.mode = 2)) (he : s.flag R.HP_STATUS_ETHREF_OK = true) :
    ∃ (t : State) (p : Packet), s.bootRequest = t ∧
      t = { s with now := max s.now s.th.reqAt, th := { s.th with reqAt := t.now + 100 * msCycles }, out := s.out ++ [.packet .host p] } ∧
      p.opcode = 0x0A82 ∧ p.payload = timeBytes t.time ++ beBytes 8 Config.uid ++ beBytes 1 0xB1 ++ beBytes 1 s.th.arb := by
  unfold State.bootRequest
  rw [if_pos ⟨h.1, h.2, he⟩]
  exact ⟨_, _, rfl, rfl, rfl, rfl⟩

section
variable {a b : List Byte} (h : s.boot = .image) (hm : s.th.mode = 1 ∨ s.th.mode = 2)
include h hm

theorem State.imageLoaded_unasked (hg : s.th.bootGo = none) : s.imageLoaded a b = s := by
  rw [s.imageLoaded_host h hm, hg]

variable {c : Cmd} {len : Nat} (hg : s.th.bootGo = some (c, len)) {x : List Byte} (hx : x = (s.readClean (fwBase 0) len).1)
include hg hx

/-- The host's image passes: it starts, and BOOT_GO is answered (R554). -/
theorem State.imageLoaded_go (hi : s.imageCheck x = .ok) : ∃ fe out, s.imageLoaded a b =
    ({ s with th := { s.th with bootGo := none }, fe := fe, out := out } : State).bootImage x 2 := by
  rw [s.imageLoaded_host h hm, hg]
  dsimp only
  rw [← hx, if_pos (show (s.modTh fun t => { t with bootGo := none }).imageCheck x = .ok from hi)]
  obtain ⟨f, o, hr⟩ := (s.modTh fun t => { t with bootGo := none }).sendReply_shape c .ok 0 [] false
  rw [hr]
  exact ⟨f, o, rfl⟩

theorem State.imageLoaded_bad (hi : s.imageCheck x ≠ .ok) : ∃ fe out, s.imageLoaded a b =
    ({ s with th := { s.th with bootGo := none }, fe := fe, out := out } : State).rejectImage := by
  rw [s.imageLoaded_host h hm, hg]
  dsimp only
  rw [← hx, if_neg (show (s.modTh fun t => { t with bootGo := none }).imageCheck x ≠ .ok from hi)]
  obtain ⟨f, o, hr⟩ := (s.modTh fun t => { t with bootGo := none }).sendReply_shape c .authFail 0 [] false
  rw [hr]
  exact ⟨f, o, rfl⟩

end
end
end Sys2Proof.Machine

open Sys2Proof Sys2Proof.Machine

/-- Settles O55: reset by what it keeps, boot phase by phase, the end of power by the registers it keeps. -/
theorem resetAndBoot : Obligations.ResetAndBoot := by
  unfold Obligations.ResetAndBoot
  intro s fresh started booted hostBoot
  have hfresh : fresh s.deviceReset := ⟨rfl, rfl, rfl, rfl, rfl, s.deviceReset_time, rfl, rfl, rfl, rfl, rfl⟩
  refine ⟨fun short h => ?_, fun h hw => ?_, fun mode rails => ⟨fun h => ?_, fun h1 h2 => ⟨?_, ?_⟩⟩, fun h => ?_, fun h => ?_, fun h => ?_, fun h => ?_,
    fun a b => ⟨fun h => ?_, fun h hm => ⟨fun h1 h2 => ?_, fun h1 h2 => ?_, fun h1 h2 => ?_⟩, fun h hm hp => ⟨fun hi => ?_, fun hi ht => ?_, fun hi ht => ?_⟩,
      fun h hg => ?_, fun c len h hg => ?_⟩,
    fun h => ?_, fun h he => ?_, fun c => ?_, fun evals cols => ⟨fun h => ?_, fun h => ?_⟩, fun h => ?_, fun h1 h2 hw => ?_, ?_⟩
  · exact ⟨_, congrArg Host.Outcome.next (s.resetLow_eq h), hfresh, rfl⟩
  · obtain ⟨t, ht, k⟩ := s.resetLow_wakes h hw
    exact ⟨t, congrArg Host.Outcome.next ht, k⟩
  · exact congrArg Host.Outcome.next (s.resetRelease_none mode rails h)
  · exact congrArg Host.Outcome.next (s.resetRelease_eq mode false h1 h2)
  · obtain ⟨k1, k2, k3, k4, k5, k6, k7, k8, k9, k10⟩ := (s.modTh fun t => { t with mode := mode % 8 }).startRom_spec
    exact ⟨_, congrArg Host.Outcome.next (s.resetRelease_eq mode true h1 h2), ⟨k1, k2, k3, k4, k5, k6, k7, k8, k9⟩, k10⟩
  · exact congrArg Host.Outcome.next (s.selfRelease_none h)
  · obtain ⟨k1, k2, k3, k4, k5, k6, k7, k8, k9, k10⟩ := s.startRom_spec
    exact ⟨_, congrArg Host.Outcome.next (s.selfRelease_eq h), ⟨k1, k2, k3, k4, k5, k6, k7, k8, k9⟩, k10⟩
  · exact congrArg Host.Outcome.next (s.pllTimeout_none h)
  · exact congrArg Host.Outcome.next (s.pllTimeout_eq h)
  · exact congrArg Host.Outcome.next (s.imageLoaded_none h)
  · obtain ⟨k1, k2, k3, k4, k5, k6, k7, -⟩ := s.bootImage_spec a (src := 0) (by decide)
    exact ⟨_, congrArg Host.Outcome.next (s.imageLoaded_a h hm h1 h2), k1, k2, k3, k4, k5, k6, k7⟩
  · obtain ⟨k1, k2, k3, k4, k5, k6, k7, -⟩ := s.bootImage_spec b (src := 1) (by decide)
    exact ⟨_, congrArg Host.Outcome.next (s.imageLoaded_b h hm h1 h2), k1, k2, k3, k4, k5, k6, k7⟩
  · exact congrArg Host.Outcome.next (s.imageLoaded_fails h hm h1 h2)
  · obtain ⟨k1, k2, k3, k4, k5, k6, k7, -⟩ := s.bootImage_spec a (src := 3) (by decide)
    exact ⟨_, congrArg Host.Outcome.next ((s.imageLoaded_link h hm hp).trans (if_pos hi)), k1, k2, k3, k4, k5, k6, k7⟩
  · exact congrArg Host.Outcome.next ((s.imageLoaded_link h hm hp).trans ((if_neg hi).trans (s.rejectImage_again ht)))
  · exact congrArg Host.Outcome.next ((s.imageLoaded_link h hm hp).trans ((if_neg hi).trans (s.rejectImage_last ht)))
  · exact congrArg Host.Outcome.next (s.imageLoaded_unasked h.1 h.2 hg)
  · intro x
    refine ⟨fun hi => ?_, fun hi => ?_⟩
    · obtain ⟨f, o, he⟩ := s.imageLoaded_go (a := a) (b := b) h.1 h.2 hg (x := x) rfl hi
      obtain ⟨k1, k2, k3, k4, k5, k6, k7, k8⟩ :=
        State.bootImage_spec { s with th := { s.th with bootGo := none }, fe := f, out := o } x (src := 2) (by decide)
      exact ⟨_, congrArg Host.Outcome.next he, ⟨k1, k2, k3, k4, k5, k6, k7⟩, k8⟩
    · obtain ⟨f, o, he⟩ := s.imageLoaded_bad (a := a) (b := b) h.1 h.2 hg (x := x) rfl hi
      by_cases ht : s.th.tries < 3
      · exact ⟨_, congrArg Host.Outcome.next (he.trans (State.rejectImage_again _ ht)), rfl, rfl, rfl, fun _ => ⟨h.1, rfl⟩,
          fun e => absurd ht (by omega)⟩
      · exact ⟨_, congrArg Host.Outcome.next (he.trans (State.rejectImage_last _ (Nat.le_of_not_lt ht))), rfl, rfl, rfl,
          fun e => absurd e ht, fun _ => rfl⟩
  · exact congrArg Host.Outcome.next (s.bootRequest_none h)
  · obtain ⟨t, p, ht, k⟩ := s.bootRequest_spec h he
    exact ⟨t, p, congrArg Host.Outcome.next ht, k⟩
  · intro ofs b
    refine ⟨fun h => ⟨congrArg Host.Outcome.next (s.bootLoad_none c h), congrArg Host.Outcome.next (s.bootGo_none c h)⟩,
      fun h => ⟨fun h1 h2 h3 => ?_, fun h1 h2 h3 => congrArg Host.Outcome.next (s.bootGo_eq c h h1 h2 h3)⟩⟩
    have he := s.bootLoad_eq c h h1 h2 h3
    obtain ⟨x, hx⟩ := s.storeMem_spec (fwBase 0 + c.num 0 4) (c.payload.drop 4)
    rw [hx] at he
    exact ⟨_, rfl, rfl, congrArg Host.Outcome.next he⟩
  · exact congrArg Host.Outcome.next (s.bootReady_none evals cols h)
  · obtain ⟨k1, k2, k3, -⟩ := s.bootReady_spec evals cols h (q := 0) (by decide)
    exact ⟨_, Eq.refl _, k1, k2, k3, fun q hq => (s.bootReady_spec evals cols h hq).2.2.2⟩
  · exact congrArg Host.Outcome.next (s.shutdownGate_none h)
  · obtain ⟨t, ht, k⟩ := s.shutdownGate_spec h1 h2 hw
    exact ⟨t, congrArg Host.Outcome.next ht, k⟩
  · exact ⟨_, Eq.refl _, hfresh, rfl, rfl⟩
end

section
/-! The registers of the chain block, and what a correction's slew makes of its working copy (R72 to R74). -/

namespace Sys2Proof.Machine

/-! ### The register map of the chain block -/

theorem blockRows_chain {a : Nat} (h : 0x10000000 ≤ a) (h' : a < 0x10400000) : blockRows a = regRowsCHB := by
  have hb : 0x100 ≤ a >>> 20 ∧ a >>> 20 ≤ 0x103 := by
    rw [Nat.shiftRight_eq_div_pow]
    omega
  unfold blockRows
  generalize a >>> 20 = b at hb
  obtain ⟨h1, h2⟩ := hb
  interval_cases b <;> rfl

theorem State.regWrite_chb (s : State) (mid : Nat) {a : Nat} (v : Word) {r : RegRow} {ix : List Nat} (hr : findReg a = some (r, ix))
    (h : 0x10000000 ≤ a) (h' : a < 0x10400000) : s.regWrite mid a v = writeCHB r ix a v s := by
  have hb : 0x100 ≤ a >>> 20 ∧ a >>> 20 ≤ 0x103 := by
    rw [Nat.shiftRight_eq_div_pow]
    omega
  unfold State.regWrite
  rw [hr]
  dsimp only
  generalize a >>> 20 = b at hb
  obtain ⟨h1, h2⟩ := hb
  interval_cases b <;> rfl

/-- An address of a chain is an element of a row of one register per chain exactly at the row's own offset. -/
theorem matchDims_chain {ch o : Nat} (hc : ch < 64) (ho : o < 0x10000) :
    matchDims [(64, 0x10000)] (ch * 0x10000 + o) = if o = 0 then some [ch] else none := by
  have h1 : (ch * 0x10000 + o) / 0x10000 = ch := by omega
  have h2 : (ch * 0x10000 + o) % 0x10000 = o := by omega
  simp only [matchDims, h1, h2, if_pos hc]
  split <;> rfl

/-- A row of the chain block with one register per chain. -/
def RegRow.perChain (r : RegRow) : Bool :=
  r.dims == [(64, 0x10000)] && decide (0x10000000 ≤ r.base) && decide (r.base < 0x10010000)

theorem RegRow.perChain_iff {r : RegRow} :
    r.perChain = true ↔ r.dims = [(64, 0x10000)] ∧ 0x10000000 ≤ r.base ∧ r.base < 0x10010000 := by
  simp [RegRow.perChain, and_assoc]

/-- The rows of the chain block but the offset table's, which come first in it. -/
def chbRow (k : Fin 16) : RegRow := regRowsCHB.get (k.castLE (by decide))

theorem regRowsCHB_split (k : Fin 16) : regRowsCHB = regRowsCHB.take k ++ chbRow k :: regRowsCHB.drop (k + 1) := by
  revert k
  decide

theorem chbRow_perChain (k : Fin 16) : (chbRow k).perChain = true := by
  revert k
  decide

/-- The table lists the rows by rising address. -/
theorem chbRow_above (k : Fin 16) : ∀ x ∈ regRowsCHB.take k, x.perChain = true ∧ x.base < (chbRow k).base := by
  revert k
  decide

section
variable {ch : Nat} (hc : ch < 64) (k : Fin 16)
include hc

theorem findReg_chain : findReg ((chbRow k).base + ch * 0x10000) = some (chbRow k, [ch]) := by
  obtain ⟨hd, h0, h1⟩ := RegRow.perChain_iff.1 (chbRow_perChain k)
  have hs := regRowsCHB_split k
  have ha := chbRow_above k
  generalize chbRow k = r at *
  unfold findReg
  rw [blockRows_chain (by omega) (by omega), hs, List.findSome?_append, List.findSome?_eq_none_iff.2, Option.none_or,
    List.findSome?_cons, if_pos (by omega), hd, show r.base + ch * 0x10000 - r.base = ch * 0x10000 + 0 by omega,
    matchDims_chain hc (by decide), if_pos rfl]
  · rfl
  · intro x hx
    obtain ⟨hp, xr⟩ := ha x hx
    obtain ⟨xd, x0, -⟩ := RegRow.perChain_iff.1 hp
    rw [if_pos (by omega), xd, show r.base + ch * 0x10000 - x.base = ch * 0x10000 + (r.base - x.base) by omega,
      matchDims_chain hc (by omega), if_neg (by omega)]
    rfl

theorem resetAt_chain : resetAt ((chbRow k).base + ch * 0x10000) = resetWord (chbRow k) [ch] := by
  rw [resetAt, findReg_chain hc k]

/-- A register of a chain is written by the rules of the chain block. -/
theorem State.regWrite_chain (s : State) (mid : Nat) (v : Word) :
    s.regWrite mid ((chbRow k).base + ch * 0x10000) v = writeCHB (chbRow k) [ch] ((chbRow k).base + ch * 0x10000) v s := by
  obtain ⟨-, h0, h1⟩ := RegRow.perChain_iff.1 (chbRow_perChain k)
  exact s.regWrite_chb mid v (findReg_chain hc k) (by omega) (by omega)

end

end Sys2Proof.Machine
end

section
/-! Shadowed corrections: one slew step of a signed field, and of all the fields of an apply instant (R13, R22, R74). -/

namespace Sys2Proof.Machine

/-! ### Signed numbers of a field (R13) -/

section
variable {w : Nat} (hw : 0 < w)
include hw

theorem two_pow_pred : 2 ^ w = 2 * 2 ^ (w - 1) := by
  rw [← Nat.pow_succ', Nat.succ_eq_add_one, Nat.sub_add_cancel hw]

theorem toInt_bounds (n : Nat) : -(2 ^ (w - 1) : Nat) ≤ toInt w n ∧ toInt w n < (2 ^ (w - 1) : Nat) := by
  have hp := two_pow_pred hw
  have hn : n % 2 ^ w < 2 ^ w := Nat.mod_lt _ (Nat.two_pow_pos w)
  unfold toInt
  split <;> omega

theorem toInt_ofInt {i : Int} (h1 : -(2 ^ (w - 1) : Nat) ≤ i) (h2 : i < (2 ^ (w - 1) : Nat)) : toInt w (ofInt w i) = i := by
  have hp := two_pow_pred hw
  have hm : i % (2 ^ w : Nat) = if 0 ≤ i then i else i + (2 ^ w : Nat) := by
    split
    · exact Int.emod_eq_of_lt (by assumption) (by omega)
    · rw [← Int.add_emod_right, Int.emod_eq_of_lt (by omega) (by omega)]
  have hl : ofInt w i < 2 ^ w := by
    unfold ofInt
    rw [hm]
    split <;> omega
  unfold toInt
  rw [Nat.mod_eq_of_lt hl]
  unfold ofInt at *
  rw [hm] at *
  split <;> split <;> omega

end

theorem toInt_mod (w n : Nat) : toInt w (n % 2 ^ w) = toInt w n := by simp [toInt]

/-- A slew step stays between a value and its target. -/
theorem slewTo_bounds {lo hi cur tgt : Int} (step : Nat) (hc : lo ≤ cur ∧ cur < hi) (ht : lo ≤ tgt ∧ tgt < hi) :
    lo ≤ slewTo step cur tgt ∧ slewTo step cur tgt < hi := by
  unfold slewTo
  split
  · omega
  · split <;> omega

/-! ### Fields of the working copies (R22) -/

theorem Field.Apart.symm {f g : Field} (h : f.Apart g) : g.Apart f := by
  rcases h with h | h | h
  · exact .inl (Ne.symm h)
  · exact .inr (.inr h)
  · exact .inr (.inl h)

theorem State.wget_wput_apart (s : State) {f g : Field} (v : Nat) (d : f.Apart g) (h : f.fits = true) :
    (s.wput f v).wget g = s.wget g := by
  unfold State.wget State.wput
  by_cases e : g.addr = f.addr
  · rw [e, State.wrk_setWrk_same, Field.of_into_disjoint _ _ _ _ (Field.fits_le h) (d.resolve_left (fun n => n e))]
  · rw [State.wrk_setWrk_other _ _ _ _ e]

/-- A slewed field moves by one step toward its shadow (R74). -/
theorem State.slewField_toInt (s : State) {f : Field} (step : Nat) (h : f.fits = true) (hw : 0 < f.width) :
    toInt f.width ((s.slewField f step).wget f) = slewTo step (toInt f.width (s.wget f)) (toInt f.width (s.get f)) := by
  have hb := slewTo_bounds step (toInt_bounds hw (s.wget f)) (toInt_bounds hw (s.get f))
  unfold State.slewField
  rw [State.wget_wput_same _ _ _ (Field.fits_le h), toInt_mod, toInt_ofInt hw hb.1 hb.2]

/-- Fields that slew at one apply instant, each with its step. -/
def State.slewAll (l : List (Field × Nat)) (s : State) : State := forAll l (fun p s => s.slewField p.1 p.2) s

theorem State.slewAll_regs (l : List (Field × Nat)) (s : State) : (s.slewAll l).regs = s.regs := by
  unfold State.slewAll
  exact forAll_keeps (fun t => t.regs = s.regs) l (fun p s => s.slewField p.1 p.2) (fun _ _ _ h => h) s rfl

theorem State.slewAll_wget_apart {l : List (Field × Nat)} {g : Field} (h : ∀ p ∈ l, p.1.Apart g ∧ p.1.fits = true) (s : State) :
    (s.slewAll l).wget g = s.wget g := by
  unfold State.slewAll
  exact forAll_keeps (fun t => t.wget g = s.wget g) _ _
    (fun p hp t ht => (State.wget_wput_apart t _ (h p hp).1 (h p hp).2).trans ht) s rfl

/-- Fields that share no bit slew by one step each. -/
theorem State.slewAll_toInt {l : List (Field × Nat)} (hl : l.Pairwise fun p q => p.1.Apart q.1)
    (hf : ∀ p ∈ l, p.1.fits = true ∧ 0 < p.1.width) (s : State) {p : Field × Nat} (hp : p ∈ l) :
    toInt p.1.width ((s.slewAll l).wget p.1) = slewTo p.2 (toInt p.1.width (s.wget p.1)) (toInt p.1.width (s.get p.1)) := by
  induction l generalizing s with
  | nil => simp at hp
  | cons q t ih =>
    obtain ⟨hq, ht⟩ := List.pairwise_cons.1 hl
    have hqf := hf q (by simp)
    rcases List.mem_cons.1 hp with rfl | hpt
    · rw [show s.slewAll (p :: t) = (s.slewField p.1 p.2).slewAll t from rfl,
        State.slewAll_wget_apart (fun r hr => ⟨(hq r hr).symm, (hf r (by simp [hr])).1⟩), s.slewField_toInt p.2 hqf.1 hqf.2]
    · rw [show s.slewAll (q :: t) = (s.slewField q.1 q.2).slewAll t from rfl, ih ht (fun r hr => hf r (by simp [hr])) _ hpt,
        show (s.slewField q.1 q.2).wget p.1 = s.wget p.1 from State.wget_wput_apart s _ (hq p hpt) hqf.1]
      rfl

end Sys2Proof.Machine
end

section
/-! Enables of the chains (R68, R76, R77): one account of a direction's enable, for transmit and receive. -/

namespace Sys2Proof.Machine

/-! ### What a direction's power-down leaves -/

namespace State.OnChains

section
variable {s0 s : State}

/-- What reads neither the registers nor the chains is kept. -/
theorem keeps {β : Sort _} (h : s0.OnChains s) (π : State → β)
    (hπ : ∀ (u : State) regs chains, π { u with regs := regs, chains := chains } = π u := by intros; rfl) : π s = π s0 := by
  obtain ⟨r, c, rfl⟩ := h
  exact hπ s0 r c

theorem trans {t : State} (h : s0.OnChains s) (k : s.OnChains t) : s0.OnChains t := by
  obtain ⟨r, c, rfl⟩ := h
  obtain ⟨r', c', rfl⟩ := k
  exact ⟨_, _, rfl⟩

theorem setReg {a : Nat} {v : Word} (h : s0.OnChains s) : s0.OnChains (s.setReg a v) := by
  obtain ⟨r, c, rfl⟩ := h
  exact ⟨_, _, rfl⟩

theorem ite {t : State} {c : Prop} [Decidable c] (h : s0.OnChains s) (k : s0.OnChains t) : s0.OnChains (if c then s else t) := by
  split
  · exact h
  · exact k

theorem setRxon {ch : Nat} {b : Bool} (h : s0.OnChains s) : s0.OnChains (s.setRxon ch b) := by
  unfold State.setRxon
  extract_lets +onlyGivenNames _ _ s1
  have hs1 : s0.OnChains s1 := .doIf (.put (.put h)) fun _ h1 => .modChain h1
  exact .ite (.modChain hs1) hs1

theorem txDown {ch : Nat} (h : s0.OnChains s) : s0.OnChains (s.txDown ch) := .noteGate (.modChain (.put (.setTxon h)))

theorem rxDown {ch : Nat} (h : s0.OnChains s) : s0.OnChains (s.rxDown ch) := .modChain (.put (.setRxon h))

end
end State.OnChains

section
variable (s : State) {ch k : Nat}

theorem State.setRxon_chain_other (b : Bool) (h : k ≠ ch) : (s.setRxon ch b).chain k = s.chain k := by
  unfold State.setRxon
  extract_lets was s1 s2
  have h1 : s1.chain k = s.chain k := by unfold s1; rw [State.putBit_chain, State.put_chain]
  have h2 : s2.chain k = s.chain k := doIf_keeps (fun t => t.chain k = s.chain k) _ _
    (fun t ht => by unfold State.noteTrk; rw [State.modChain_chain_other _ _ h, ht]) s1 h1
  split
  · rw [State.modChain_chain_other _ _ h, h2]
  · exact h2

theorem State.setRxon_chains_length (b : Bool) : (s.setRxon ch b).chains.length = s.chains.length := by
  unfold State.setRxon
  extract_lets was s1 s2
  have h2 : s2.chains.length = s.chains.length := doIf_keeps (fun t => t.chains.length = s.chains.length) _ _
    (fun t ht => by unfold State.noteTrk; rw [State.modChain_chains_length, ht]) s1
      (by unfold s1; rw [State.putBit_chains, State.put_chains])
  split
  · rw [State.modChain_chains_length, h2]
  · exact h2

end

/-! ### One direction of the chains -/

/-- One direction of the chains: its slots, its register fields, what of a chain's own state is its, and its power-down. -/
structure ServiceDir where
  dir : Dir
  en : Nat → Field
  rdy : Nat → Field
  live : Nat → Field
  pin : Nat → Field
  up : ChainX → Option Nat
  dis : ChainX → Bool
  joined : ChainX → Bool
  startUp : Nat → ChainX → ChainX
  askDis : ChainX → ChainX
  endDis : ChainX → ChainX
  down : State → Nat → State

/-- The transmit direction. -/
def ServiceDir.tx : ServiceDir where
  dir := .dl
  en := R.CH_CTRL_TX_EN
  rdy := R.CH_STATUS_TX_RDY
  live := R.CH_STATUS_TX_LIVE
  pin ch := R.TXON_LIVE_TXON (ch / 32)
  up := ChainX.txUp
  dis := ChainX.txDis
  joined := ChainX.txIn
  startUp c x := { x with txUp := some c }
  askDis x := { x with txDis := true, runOpen := false }
  endDis x := { x with txDis := false }
  down := State.txDown

/-- The receive direction. -/
def ServiceDir.rx : ServiceDir where
  dir := .ul
  en := R.CH_CTRL_RX_EN
  rdy := R.CH_STATUS_RX_RDY
  live := R.CH_STATUS_RX_LIVE
  pin ch := R.RXON_LIVE_RXON (ch / 32)
  up := ChainX.rxUp
  dis := ChainX.rxDis
  joined := ChainX.rxJoined
  startUp c x := { x with rxUp := some c }
  askDis x := { x with rxDis := true }
  endDis x := { x with rxDis := false }
  down := State.rxDown

/-- A disable of a direction at its apply instant. -/
def State.applyDis (D : ServiceDir) (ch : Nat) (s : State) : State :=
  if D.dis (s.chain ch) then if s.flag (D.en ch) then s.modChain ch D.endDis else D.down s ch else s

theorem State.applyTxDis_eq (ch : Nat) (s : State) : State.applyTxDis ch s = s.applyDis .tx ch := rfl

theorem State.applyRxDis_eq (ch : Nat) (s : State) : State.applyRxDis ch s = s.applyDis .rx ch := rfl

/-- A write of a direction's enable. -/
def State.enWrite (D : ServiceDir) (s : State) (ch : Nat) (v : Bool) : State :=
  let old := s.flag (D.en ch)
  let x := s.chain ch
  let s := s.put (D.en ch) (b2n v)
  if s.chainGated ch then s
  else if !old && v then
    if s.flag (D.rdy ch) || D.dis x || (D.up x).isSome then s else s.modChain ch (D.startUp (s.now + powerUpCycles))
  else if old && !v then
    let s := s.modChain ch D.askDis
    doIf (s.activeOn D.dir (quadOf ch)).isEmpty (State.applyDis D ch) s
  else s

theorem State.txEnWrite_eq (s : State) (ch : Nat) (v : Bool) : s.txEnWrite ch v = s.enWrite .tx ch v := rfl

theorem State.rxEnWrite_eq (s : State) (ch : Nat) (v : Bool) : s.rxEnWrite ch v = s.enWrite .rx ch v := rfl

/-- The fields that a direction's power-down writes. -/
def ServiceDir.OffField (D : ServiceDir) (ch : Nat) (f : Field) : Prop := f = D.rdy ch ∨ f = D.live ch ∨ f = D.pin ch

/-- What holds of both directions: where their fields lie, and what their power-down does. -/
structure ServiceDir.Lawful (D : ServiceDir) : Prop where
  en_addr (ch : Nat) : (D.en ch).addr = R.CH_CTRL ch
  en_fits (ch : Nat) : (D.en ch).fits = true
  en_width (ch : Nat) : decide (0 < (D.en ch).width) = true
  rdy_addr (ch : Nat) : (D.rdy ch).addr = R.CH_STATUS ch
  live_addr (ch : Nat) : (D.live ch).addr = R.CH_STATUS ch
  rdy_low (ch : Nat) : (D.rdy ch).lo + (D.rdy ch).width ≤ 11
  live_low (ch : Nat) : (D.live ch).lo + (D.live ch).width ≤ 11
  pin_addr (ch : Nat) : 0x11700010 ≤ (D.pin ch).addr
  startUp_up (c : Nat) (x : ChainX) : D.up (D.startUp c x) = some c
  askDis_dis (x : ChainX) : D.dis (D.askDis x) = true
  onChains (s : State) (ch : Nat) : s.OnChains (D.down s ch)
  writes (s : State) (ch : Nat) : s.Writes (D.OffField ch) (D.down s ch)
  rdy_off (s : State) (ch : Nat) : (D.down s ch).flag (D.rdy ch) = false
  live_off {ch : Nat} (s : State) (h : ch < 64) : (D.down s ch).flag (D.live ch) = false
  chain_other {ch k : Nat} (s : State) (h : k ≠ ch) : (D.down s ch).chain k = s.chain k
  chain_off {ch : Nat} (s : State) (h : ch < s.chains.length) :
    D.up ((D.down s ch).chain ch) = none ∧ D.joined ((D.down s ch).chain ch) = false

theorem ServiceDir.tx_lawful : ServiceDir.tx.Lawful where
  en_addr _ := rfl
  en_fits _ := rfl
  en_width _ := rfl
  rdy_addr _ := rfl
  live_addr _ := rfl
  rdy_low _ := (by decide : 0 + 1 ≤ 11)
  live_low _ := (by decide : 2 + 1 ≤ 11)
  pin_addr ch := Nat.le_add_right ..
  startUp_up _ _ := rfl
  askDis_dis _ := rfl
  onChains s ch := .txDown (.refl s)
  writes s ch := by
    have h1 : s.Writes (ServiceDir.tx.OffField ch) (s.setTxon ch false) :=
      .same (.put (.put (.refl s) (.inr (.inl rfl))) (.inr (.inr rfl))) (s.setTxon_regs ch false)
    exact .same (.put h1 (.inl rfl)) ((State.noteGate_regs _ _ _).trans (State.modChain_regs ..))
  rdy_off s ch := by
    have h : ((s.setTxon ch false).put (R.CH_STATUS_TX_RDY ch) 0).get (R.CH_STATUS_TX_RDY ch) = 0 := State.get_put _ 0
    exact State.flag_eq_false.2 ((State.get_congr ((State.noteGate_regs _ _ _).trans (State.modChain_regs ..)) _).trans h)
  live_off {ch} s hc := by
    have ha : Field.Apart (R.TXON_LIVE_TXON (ch / 32)) (R.CH_STATUS_TX_LIVE ch) := .inl (by
      simp only [R.TXON_LIVE_TXON, R.TXON_LIVE, R.CH_STATUS_TX_LIVE, R.CH_STATUS]; omega)
    have h1 : (s.setTxon ch false).get (R.CH_STATUS_TX_LIVE ch) = 0 := by
      rw [State.get_congr (State.setTxon_regs s ch false), State.putBit, State.get_put_apart _ _ ha, State.get_put]
      rfl
    have h2 : ((s.setTxon ch false).put (R.CH_STATUS_TX_RDY ch) 0).get (R.CH_STATUS_TX_LIVE ch) = 0 :=
      (State.get_put_apart _ _ .above).trans h1
    exact State.flag_eq_false.2 ((State.get_congr ((State.noteGate_regs _ _ _).trans (State.modChain_regs ..)) _).trans h2)
  chain_other s h := by
    simp only [ServiceDir.tx, State.txDown]
    rw [State.noteGate_chain_other _ _ h, State.modChain_chain_other _ _ h, State.put_chain, State.setTxon_chain_other _ _ h]
  chain_off {ch} s h := by
    simp only [ServiceDir.tx, State.txDown]
    obtain ⟨log, hl⟩ := State.noteGate_chain s.now ch ch (((s.setTxon ch false).put (R.CH_STATUS_TX_RDY ch) 0).modChain ch fun x =>
      { x with txUp := none, txDis := false, txWait := false, runOpen := false, txIn := false })
    rw [hl, State.modChain_chain _ _ (by rw [State.put_chains, State.setTxon_chains_length]; exact h)]
    exact ⟨rfl, rfl⟩

theorem ServiceDir.rx_lawful : ServiceDir.rx.Lawful where
  en_addr _ := rfl
  en_fits _ := rfl
  en_width _ := rfl
  rdy_addr _ := rfl
  live_addr _ := rfl
  rdy_low _ := (by decide : 1 + 1 ≤ 11)
  live_low _ := (by decide : 3 + 1 ≤ 11)
  pin_addr ch := Nat.le_trans (by decide : 0x11700010 ≤ 0x11700018) (Nat.le_add_right ..)
  startUp_up _ _ := rfl
  askDis_dis _ := rfl
  onChains s ch := .rxDown (.refl s)
  writes s ch := by
    have h1 : s.Writes (ServiceDir.rx.OffField ch) (s.setRxon ch false) :=
      .same (.put (.put (.refl s) (.inr (.inl rfl))) (.inr (.inr rfl))) (s.setRxon_regs false)
    exact .same (.put h1 (.inl rfl)) (State.modChain_regs ..)
  rdy_off s ch := by
    have h : ((s.setRxon ch false).put (R.CH_STATUS_RX_RDY ch) 0).get (R.CH_STATUS_RX_RDY ch) = 0 := State.get_put _ 0
    exact State.flag_eq_false.2 ((State.modChain_get ..).trans h)
  live_off {ch} s hc := by
    have h : ((s.setRxon ch false).put (R.CH_STATUS_RX_RDY ch) 0).get (R.CH_STATUS_RX_LIVE ch) = 0 :=
      (State.get_put_apart _ _ .above).trans (s.setRxon_live hc)
    exact State.flag_eq_false.2 ((State.modChain_get ..).trans h)
  chain_other s h := by
    simp only [ServiceDir.rx, State.rxDown]
    rw [State.modChain_chain_other _ _ h, State.put_chain, State.setRxon_chain_other _ _ h]
  chain_off {ch} s h := by
    simp only [ServiceDir.rx, State.rxDown]
    rw [State.modChain_chain _ _ (by rw [State.put_chains, State.setRxon_chains_length]; exact h)]
    exact ⟨rfl, rfl⟩

/-! ### A disable and a write of an enable, in either direction -/

theorem State.chainGated_put_ctrl (s : State) {ch : Nat} (hc : ch < 64) {f : Field} (hf : f.addr = R.CH_CTRL ch) (v : Nat) :
    (s.put f v).chainGated ch = s.chainGated ch := by
  have e1 : (s.put f v).get R.PWR_STATUS_STATE_NOW = s.get R.PWR_STATUS_STATE_NOW :=
    State.get_put_other _ _ _ _ (by rw [hf]; simp only [R.PWR_STATUS_STATE_NOW, R.PWR_STATUS, R.CH_CTRL]; omega)
  have e2 : (s.put f v).get (R.PWR_CHGATE_CHG (ch / 32)) = s.get (R.PWR_CHGATE_CHG (ch / 32)) :=
    State.get_put_other _ _ _ _ (by rw [hf]; simp only [R.PWR_CHGATE_CHG, R.PWR_CHGATE, R.CH_CTRL]; omega)
  unfold State.chainGated State.radioPowered State.radioOn
  rw [e1, State.fbit_congr e2, State.put_pw]

namespace ServiceDir.Lawful

section
variable {D : ServiceDir} (L : D.Lawful) (s : State) {ch : Nat} (v : Bool)
include L

theorem applyDis_onChains : s.OnChains (s.applyDis D ch) := .ite (.ite (.modChain (.refl s)) (L.onChains s ch)) (.refl s)

theorem applyDis_writes : s.Writes (D.OffField ch) (s.applyDis D ch) :=
  .ite (.ite (.same (.refl s) (State.modChain_regs ..)) (L.writes s ch)) (.refl s)

theorem applyDis_chain_other {k : Nat} (h : k ≠ ch) : (s.applyDis D ch).chain k = s.chain k := by
  unfold State.applyDis
  split
  · split
    · exact State.modChain_chain_other _ _ h
    · exact L.chain_other s h
  · rfl

/-- A power-down leaves every register but CH_STATUS and the pins'. -/
theorem offField_ne {a : Nat} (h1 : a ≠ R.CH_STATUS ch) (h2 : a ≠ (D.pin ch).addr) : ∀ f, D.OffField ch f → a ≠ f.addr := by
  rintro f (rfl | rfl | rfl)
  · rwa [L.rdy_addr]
  · rwa [L.live_addr]
  · exact h2

theorem applyDis_reg {a : Nat} (h1 : a ≠ R.CH_STATUS ch) (h2 : a ≠ (D.pin ch).addr) : (s.applyDis D ch).reg a = s.reg a :=
  (L.applyDis_writes s).reg (L.offField_ne h1 h2)

variable (hc : ch < 64)
include hc

theorem ctrl_ne_pin : R.CH_CTRL ch ≠ (D.pin ch).addr := by
  have := L.pin_addr ch
  simp only [R.CH_CTRL]
  omega

/-- The enable of a gated chain, or one written with its own value, is only its bit. -/
theorem enWrite_idle (h : s.chainGated ch = true ∨ s.flag (D.en ch) = v) : s.enWrite D ch v = s.put (D.en ch) (b2n v) := by
  unfold State.enWrite
  dsimp only
  rw [s.chainGated_put_ctrl hc (L.en_addr ch)]
  rcases h with h | h
  · rw [if_pos h]
  · subst h
    cases s.flag (D.en ch) <;> simp

/-- A 0 to 1 write starts a power-up, unless the direction is in service, powering up or waiting for a disable. -/
theorem enWrite_up (hg : s.chainGated ch = false) (h0 : s.flag (D.en ch) = false) : s.enWrite D ch true =
    if s.flag (D.rdy ch) || D.dis (s.chain ch) || (D.up (s.chain ch)).isSome then s.put (D.en ch) 1
    else (s.put (D.en ch) 1).modChain ch (D.startUp (s.now + 9830)) := by
  have hr : (s.put (D.en ch) 1).flag (D.rdy ch) = s.flag (D.rdy ch) := State.flag_congr (State.get_put_other _ _ _ _ (by
    rw [L.rdy_addr, L.en_addr]; simp only [R.CH_STATUS, R.CH_CTRL]; omega))
  unfold State.enWrite
  dsimp only
  rw [s.chainGated_put_ctrl hc (L.en_addr ch), hg, h0, if_neg (by simp), if_pos (by simp), show b2n true = 1 from rfl, hr]
  rfl

/-- A 1 to 0 write asks for a disable, which acts at once if no slot is in force on the quadrant. -/
theorem enWrite_down (hg : s.chainGated ch = false) (h1 : s.flag (D.en ch) = true) : s.enWrite D ch false =
    doIf (s.activeOn D.dir (quadOf ch)).isEmpty (State.applyDis D ch) ((s.put (D.en ch) 0).modChain ch D.askDis) := by
  unfold State.enWrite
  dsimp only
  rw [s.chainGated_put_ctrl hc (L.en_addr ch), hg, h1, if_neg (by simp), if_neg (by simp), if_pos (by simp),
    show b2n false = 0 from rfl, State.activeOn_congr fun _ _ _ => State.reg_congr (State.modChain_regs ..) _,
    s.activeOn_put_ctrl hc (L.en_addr ch)]

/-- A write of an enable puts its bit, changes the chain's own state, and may take the direction down. -/
theorem enWrite_cases : ∃ f : ChainX → ChainX, s.enWrite D ch v = s.put (D.en ch) (b2n v) ∨
    s.enWrite D ch v = (s.put (D.en ch) (b2n v)).modChain ch f ∨
    s.enWrite D ch v = ((s.put (D.en ch) (b2n v)).modChain ch f).applyDis D ch := by
  by_cases hi : s.chainGated ch = true ∨ s.flag (D.en ch) = v
  · exact ⟨id, .inl (L.enWrite_idle s v hc hi)⟩
  · obtain ⟨hg, hf⟩ := not_or.1 hi
    rw [Bool.not_eq_true] at hg
    cases v with
    | true =>
      refine ⟨D.startUp (s.now + 9830), ?_⟩
      rw [L.enWrite_up s hc hg (by simpa using hf)]
      split
      · exact .inl rfl
      · exact .inr (.inl rfl)
    | false =>
      refine ⟨D.askDis, .inr ?_⟩
      rw [L.enWrite_down s hc hg (by simpa using hf)]
      cases (s.activeOn D.dir (quadOf ch)).isEmpty
      · exact .inl rfl
      · exact .inr rfl

/-- What a write of an enable leaves. -/
theorem enWrite_frame : (s.enWrite D ch v).flag (D.en ch) = v ∧ s.OnChains (s.enWrite D ch v) ∧
    (∀ k, k ≠ ch → (s.enWrite D ch v).chain k = s.chain k) ∧
    ∀ a, a ≠ R.CH_CTRL ch → a ≠ R.CH_STATUS ch → a ≠ (D.pin ch).addr → (s.enWrite D ch v).reg a = s.reg a := by
  have hf : (s.put (D.en ch) (b2n v)).flag (D.en ch) = v := State.flag_put s v (L.en_fits ch) (L.en_width ch)
  have hr : ∀ a, a ≠ R.CH_CTRL ch → (s.put (D.en ch) (b2n v)).reg a = s.reg a :=
    fun a h => State.reg_put_other s _ a _ (by rwa [L.en_addr])
  have hs : s.OnChains (s.put (D.en ch) (b2n v)) := .put (.refl s)
  have hk : ∀ k, (s.put (D.en ch) (b2n v)).chain k = s.chain k := fun k => State.put_chain ..
  obtain ⟨f, h⟩ := L.enWrite_cases s v hc
  generalize s.put (D.en ch) (b2n v) = u at *
  have hm : ∀ k, k ≠ ch → (u.modChain ch f).chain k = s.chain k := fun k n => (State.modChain_chain_other u f n).trans (hk k)
  rcases h with h | h | h <;> rw [h]
  · exact ⟨hf, hs, fun k _ => hk k, fun a h1 _ _ => hr a h1⟩
  · exact ⟨(State.flag_congr (State.modChain_get ..)).trans hf, .modChain hs, hm, fun a h1 _ _ => hr a h1⟩
  · have he : ∀ f, D.OffField ch f → f.Apart (D.en ch) := fun f hf => .inl (L.offField_ne (L.en_addr ch ▸ by
      simp only [R.CH_CTRL, R.CH_STATUS]; omega) (L.en_addr ch ▸ L.ctrl_ne_pin hc) f hf)
    refine ⟨((L.applyDis_writes _).flag he).trans ((State.flag_congr (State.modChain_get ..)).trans hf),
      (State.OnChains.modChain hs).trans (L.applyDis_onChains _), fun k n => (L.applyDis_chain_other _ n).trans (hm k n),
      fun a h1 h2 h3 => (L.applyDis_reg _ h2 h3).trans (hr a h1)⟩

theorem enWrite_up_chain (hl : ch < s.chains.length) (hg : s.chainGated ch = false) (h0 : s.flag (D.en ch) = false)
    (hr : s.flag (D.rdy ch) = false) (hd : D.dis (s.chain ch) = false) (hu : D.up (s.chain ch) = none) :
    D.up ((s.enWrite D ch true).chain ch) = some (s.now + 9830) := by
  rw [L.enWrite_up s hc hg h0, hr, hd, hu, if_neg (by simp), State.modChain_chain (s.put (D.en ch) 1) _ (by rwa [State.put_chains]), L.startUp_up]

/-- With a slot in force a disable waits. -/
theorem enWrite_down_waits (hl : ch < s.chains.length) (hg : s.chainGated ch = false) (h1 : s.flag (D.en ch) = true)
    (ha : s.activeOn D.dir (quadOf ch) ≠ []) : D.dis ((s.enWrite D ch false).chain ch) = true ∧
      (s.enWrite D ch false).reg (R.CH_STATUS ch) = s.reg (R.CH_STATUS ch) := by
  rw [L.enWrite_down s hc hg h1, List.isEmpty_eq_false_iff.2 ha, doIf_false, State.modChain_chain (s.put (D.en ch) 0) _ (by rwa [State.put_chains]), L.askDis_dis]
  exact ⟨rfl, State.reg_put_other s _ _ _ (by rw [L.en_addr]; simp only [R.CH_CTRL, R.CH_STATUS]; omega)⟩

/-- With no slot in force a disable takes the direction down at once. -/
theorem enWrite_down_acts (hl : ch < s.chains.length) (hg : s.chainGated ch = false) (h1 : s.flag (D.en ch) = true)
    (ha : s.activeOn D.dir (quadOf ch) = []) : (s.enWrite D ch false).flag (D.rdy ch) = false ∧
      (s.enWrite D ch false).flag (D.live ch) = false ∧ D.up ((s.enWrite D ch false).chain ch) = none ∧
      D.joined ((s.enWrite D ch false).chain ch) = false := by
  have hp : ch < (s.put (D.en ch) 0).chains.length := by rwa [State.put_chains]
  have hf : (s.put (D.en ch) 0).flag (D.en ch) = false := State.flag_put s false (L.en_fits ch) (L.en_width ch)
  rw [L.enWrite_down s hc hg h1, ha, List.isEmpty_nil, doIf_true, State.applyDis, State.modChain_chain _ _ hp, L.askDis_dis, if_pos rfl,
    State.flag_congr (State.modChain_get ..), hf, if_neg (by simp)]
  exact ⟨L.rdy_off _ ch, L.live_off _ hc, L.chain_off _ (by rwa [State.modChain_chains_length])⟩

/-- A write of an enable: what it leaves, and what each case does. -/
theorem enWrite_spec (hl : s.chains.length = 64) : ∃ t : State, s.enWrite D ch v = t ∧ t.flag (D.en ch) = v ∧ s.OnChains t ∧
    (∀ k, k ≠ ch → t.chain k = s.chain k) ∧
    (∀ a, a ≠ R.CH_CTRL ch → a ≠ R.CH_STATUS ch → a ≠ (D.pin ch).addr → t.reg a = s.reg a) ∧
    (s.chainGated ch = true ∨ s.flag (D.en ch) = v → t = s.put (D.en ch) (b2n v)) ∧
    (s.chainGated ch = false → s.flag (D.en ch) = false → v = true → s.flag (D.rdy ch) = false →
      D.dis (s.chain ch) = false → D.up (s.chain ch) = none → D.up (t.chain ch) = some (s.now + 9830)) ∧
    (s.chainGated ch = false → s.flag (D.en ch) = true → v = false →
      (s.activeOn D.dir (quadOf ch) ≠ [] → D.dis (t.chain ch) = true ∧ t.reg (R.CH_STATUS ch) = s.reg (R.CH_STATUS ch)) ∧
      (s.activeOn D.dir (quadOf ch) = [] → t.flag (D.rdy ch) = false ∧ t.flag (D.live ch) = false ∧ D.up (t.chain ch) = none ∧
        D.joined (t.chain ch) = false)) := by
  obtain ⟨h1, h2, h3, h4⟩ := L.enWrite_frame s v hc
  refine ⟨_, rfl, h1, h2, h3, h4, L.enWrite_idle s v hc, fun hg h hv => ?_, fun hg h hv => ?_⟩
  · subst hv
    exact L.enWrite_up_chain s hc (hl ▸ hc) hg h
  · subst hv
    exact ⟨L.enWrite_down_waits s hc (hl ▸ hc) hg h, L.enWrite_down_acts s hc (hl ▸ hc) hg h⟩

end
end ServiceDir.Lawful

/-! ### A power-up that completes (R68, R76) -/

section
variable (s : State) {ch : Nat}

theorem State.txPowerUpDone_none (h : (s.chain ch).txUp = none) : s.txPowerUpDone ch = s := by
  unfold State.txPowerUpDone
  rw [h]

theorem State.txPowerUpDone_eq (h : (s.chain ch).txUp ≠ none) :
    s.txPowerUpDone ch = (s.put (R.CH_STATUS_TX_RDY ch) 1).modChain ch fun x => { x with txUp := none } := by
  obtain ⟨c, hc⟩ := Option.ne_none_iff_exists'.1 h
  unfold State.txPowerUpDone
  rw [hc]

theorem State.rxPowerUpDone_none (h : (s.chain ch).rxUp = none) : s.rxPowerUpDone ch = s := by
  unfold State.rxPowerUpDone
  rw [h]

theorem State.rxPowerUpDone_eq (h : (s.chain ch).rxUp ≠ none) : s.rxPowerUpDone ch =
    ((s.loadDcoTable false ch).put (R.CH_STATUS_RX_RDY ch) 1).modChain ch fun x => { x with rxUp := none, rxJoined := false } := by
  obtain ⟨c, hc⟩ := Option.ne_none_iff_exists'.1 h
  unfold State.rxPowerUpDone
  rw [hc]

theorem State.moveCheck_none (h : s.pw.move = none) : s.moveCheck = s := by
  unfold State.moveCheck
  rw [h]

/-- The shown trims are a register of their own. -/
theorem State.showTrim_spec : s.OnChains (State.showTrim ch s) ∧ (State.showTrim ch s).chains = s.chains ∧
    ∀ a, a ≠ R.RX_DCO_TRIM ch → (State.showTrim ch s).reg a = s.reg a := by
  unfold State.showTrim
  split
  · exact ⟨.refl s, rfl, fun _ _ => rfl⟩
  · exact ⟨.put (.put (.refl s)), (State.put_chains ..).trans (State.put_chains ..), fun a h => (State.reg_put_other _ _ a _ h).trans (State.reg_put_other _ _ a _ h)⟩

/-- The shown estimates are a register of their own. -/
theorem State.showEst_spec : s.OnChains (State.showEst ch s) ∧ (State.showEst ch s).chains = s.chains ∧
    ∀ a, a ≠ R.RX_DCO_EST ch → (State.showEst ch s).reg a = s.reg a := by
  unfold State.showEst
  split
  · exact ⟨.refl s, rfl, fun _ _ => rfl⟩
  · exact ⟨.put (.put (.refl s)), (State.put_chains ..).trans (State.put_chains ..), fun a h => (State.reg_put_other _ _ a _ h).trans (State.reg_put_other _ _ a _ h)⟩

theorem State.loadDcoTable_nil (runs : Bool) (h : (s.chain ch).dcoLoad = []) : s.loadDcoTable runs ch = s := by
  unfold State.loadDcoTable
  rw [h]

theorem R.DCO_TABLE_inj {ch i k : Nat} (h : i ≠ k) : R.DCO_TABLE ch i ≠ R.DCO_TABLE ch k := by
  simp only [R.DCO_TABLE]
  omega

/-- The registers of the offset table take the words of a list. -/
theorem State.setTable_reg (l : List Word) {i : Nat} (hi : i < 61) :
    (forAll (List.range 61) (fun i s => s.setReg (R.DCO_TABLE ch i) (l.getD i 0)) s).reg (R.DCO_TABLE ch i) = l.getD i 0 :=
  forAll_reaches (fun _ => True) (fun t => t.reg (R.DCO_TABLE ch i) = l.getD i 0) _ _ (List.mem_range.2 hi) (fun _ _ _ _ => trivial)
    (fun t _ => State.reg_setReg_same t _ _)
    (fun _ _ hk t _ ht => (State.reg_setReg_other t _ _ _ (R.DCO_TABLE_inj (Ne.symm hk))).trans ht) s trivial

/-- A waiting table load writes the table, then changes the chain's own state and shows it. -/
theorem State.loadDcoTable_cons (runs : Bool) (hd : (s.chain ch).dcoLoad ≠ []) : ∃ f : ChainX → ChainX, (∀ x, (f x).dcoLoad = []) ∧
    s.loadDcoTable runs ch = State.showTrim ch (State.showEst ch (State.modChain
      (forAll (List.range 61) (fun i t => t.setReg (R.DCO_TABLE ch i) ((s.chain ch).dcoLoad.getD i 0)) s) ch f)) := by
  unfold State.loadDcoTable
  split
  · next h => exact absurd h hd
  · refine ⟨_, ?_, rfl⟩
    exact fun _ => rfl

/-- A waiting table load replaces all entries of the offset table at once (R68). -/
theorem State.loadDcoTable_spec (runs : Bool) (hl : ch < s.chains.length) : s.OnChains (s.loadDcoTable runs ch) ∧
    (s.loadDcoTable runs ch).chains.length = s.chains.length ∧ ((s.loadDcoTable runs ch).chain ch).dcoLoad = [] ∧
    ((s.chain ch).dcoLoad ≠ [] → ∀ i, i < 61 → (s.loadDcoTable runs ch).reg (R.DCO_TABLE ch i) = (s.chain ch).dcoLoad.getD i 0) := by
  by_cases hd : (s.chain ch).dcoLoad = []
  · rw [s.loadDcoTable_nil runs hd]
    exact ⟨.refl s, rfl, hd, fun h => absurd hd h⟩
  · obtain ⟨f, hf, he⟩ := s.loadDcoTable_cons runs hd
    have hr : ∀ i, i < 61 → _ = (s.chain ch).dcoLoad.getD i 0 := fun i hi => s.setTable_reg (ch := ch) _ hi
    obtain ⟨ht, hc⟩ := forAll_keeps (fun t => s.OnChains t ∧ t.chains = s.chains) (List.range 61)
      (fun i t => t.setReg (R.DCO_TABLE ch i) ((s.chain ch).dcoLoad.getD i 0)) (fun i _ t ht => ⟨.setReg ht.1, (State.setReg_chains ..).trans ht.2⟩)
      s ⟨.refl s, rfl⟩
    rw [he]
    generalize forAll (List.range 61) (fun i t => t.setReg (R.DCO_TABLE ch i) ((s.chain ch).dcoLoad.getD i 0)) s = t at *
    obtain ⟨e1, e2, e3⟩ := (t.modChain ch f).showEst_spec (ch := ch)
    obtain ⟨f1, f2, f3⟩ := (State.showEst ch (t.modChain ch f)).showTrim_spec (ch := ch)
    refine ⟨(ht.modChain.trans e1).trans f1, by rw [f2, e2, State.modChain_chains_length, hc], ?_, fun _ i hi => ?_⟩
    · rw [State.chain, f2, e2, ← State.chain, State.modChain_chain t f (hc ▸ hl), hf]
    · rw [f3 _ (by simp only [R.DCO_TABLE, R.RX_DCO_TRIM]; omega), e3 _ (by simp only [R.DCO_TABLE, R.RX_DCO_EST]; omega),
        State.reg_congr (State.modChain_regs ..), hr i hi]

variable (hc : ch < 64) (hl : s.chains.length = 64)
include hc hl

/-- A transmit power-up that completes raises TX_RDY. -/
theorem State.txPowerUpDone_spec (h : (s.chain ch).txUp ≠ none) : (s.txPowerUpDone ch).flag (R.CH_STATUS_TX_RDY ch) = true ∧
    (s.txPowerUpDone ch).chain ch = { s.chain ch with txUp := none } ∧ s.OnChains (s.txPowerUpDone ch) ∧
    ∀ a, a ≠ R.CH_STATUS ch → (s.txPowerUpDone ch).reg a = s.reg a := by
  rw [s.txPowerUpDone_eq h, State.modChain_chain (s.put _ 1) _ (by rw [State.put_chains, hl]; exact hc), State.put_chain]
  exact ⟨(State.flag_congr (State.modChain_get ..)).trans (State.flag_put s true), rfl, .modChain (.put (.refl s)),
    fun a h => (State.reg_congr (State.modChain_regs ..) a).trans (State.reg_put_other s _ a _ h)⟩

/-- A receive power-up that completes loads a waiting table and then raises RX_RDY. -/
theorem State.rxPowerUpDone_spec (h : (s.chain ch).rxUp ≠ none) : (s.rxPowerUpDone ch).flag (R.CH_STATUS_RX_RDY ch) = true ∧
    ((s.rxPowerUpDone ch).chain ch).rxUp = none ∧ ((s.rxPowerUpDone ch).chain ch).rxJoined = false ∧
    ((s.rxPowerUpDone ch).chain ch).dcoLoad = [] ∧ s.OnChains (s.rxPowerUpDone ch) ∧
    ((s.chain ch).dcoLoad ≠ [] → ∀ i, i < 61 → (s.rxPowerUpDone ch).reg (R.DCO_TABLE ch i) = (s.chain ch).dcoLoad.getD i 0) ∧
    ((s.chain ch).dcoLoad = [] → ∀ a, a ≠ R.CH_STATUS ch → (s.rxPowerUpDone ch).reg a = s.reg a) := by
  obtain ⟨d1, d2, d3, d4⟩ := s.loadDcoTable_spec (ch := ch) false (hl ▸ hc)
  have hn : (s.chain ch).dcoLoad = [] → s.loadDcoTable false ch = s := s.loadDcoTable_nil false
  rw [s.rxPowerUpDone_eq h]
  generalize s.loadDcoTable false ch = u at *
  rw [State.modChain_chain (u.put _ 1) _ (by rw [State.put_chains, d2, hl]; exact hc), State.put_chain]
  have hm : ∀ a, a ≠ R.CH_STATUS ch →
      ((u.put (R.CH_STATUS_RX_RDY ch) 1).modChain ch fun x => { x with rxUp := none, rxJoined := false }).reg a = u.reg a :=
    fun a h => (State.reg_congr (State.modChain_regs ..) a).trans (State.reg_put_other u _ a _ h)
  refine ⟨(State.flag_congr (State.modChain_get ..)).trans (State.flag_put u true), rfl, rfl, d3, .modChain (.put d1),
    fun h i hi => ?_, fun h a ha => ?_⟩
  · exact (hm _ (by simp only [R.DCO_TABLE, R.CH_STATUS]; omega)).trans (d4 h i hi)
  · exact (hm a ha).trans (congrArg (State.reg · a) (hn h))

end
end Sys2Proof.Machine

open Sys2Proof Sys2Proof.Machine

/-- Settles O16: a write of an enable is the same in both directions; a power-up that completes by what it raises. -/
theorem chainEnables : Obligations.ChainEnables := by
  unfold Obligations.ChainEnables
  refine ⟨fun ch v s hc hl => ?_, fun ch v s hc hl => ?_, fun ch s hc hl => ⟨fun h => ?_, fun h => ?_, fun h => ?_, fun h => ?_⟩,
    fun s h => s.moveCheck_none h⟩
  · obtain ⟨t, ht, h1, h2, h3⟩ := ServiceDir.tx_lawful.enWrite_spec s v hc hl
    exact ⟨t, congrArg Host.Outcome.next ((s.txEnWrite_eq ch v).trans ht), h1, h2.eq_with, h3⟩
  · obtain ⟨t, ht, h1, h2, h3⟩ := ServiceDir.rx_lawful.enWrite_spec s v hc hl
    exact ⟨t, congrArg Host.Outcome.next ((s.rxEnWrite_eq ch v).trans ht), h1, h2.eq_with, h3⟩
  · obtain ⟨h1, h2, h3, h4⟩ := s.txPowerUpDone_spec hc hl h
    exact ⟨_, rfl, h1, h2, h3.eq_with, h4⟩
  · exact congrArg (Host.Outcome.next <| State.moveCheck ·) (s.txPowerUpDone_none h)
  · obtain ⟨h1, h2, h3, h4, h5, h6, h7⟩ := s.rxPowerUpDone_spec hc hl h
    exact ⟨_, rfl, h1, h2, h3, h4, h5.eq_with, h6, h7⟩
  · exact congrArg (Host.Outcome.next <| State.moveCheck ·) (s.rxPowerUpDone_none h)
end

section
/-! What device reset leaves (R85, R309, R339, R436, R444, R473, R534). -/

namespace Sys2Proof.Machine

/-- A register file with nothing listed reads its reset values. -/
theorem State.reset_reg (a : Nat) : State.reset.reg a = resetAt a := rfl

section
variable {ch : Nat} (hc : ch < 64) (k : Fin 16)
include hc

theorem State.reset_reg_chain : State.reset.reg ((chbRow k).base + ch * 0x10000) = resetWord (chbRow k) [ch] :=
  (State.reset_reg _).trans (resetAt_chain hc k)

/-- A chain after reset: both directions disabled and their pins low, attenuation 127, gain 0, neutral corrections, no band (R85). -/
theorem State.reset_chain :
    State.reset.get (R.CH_CTRL_TX_EN ch) = 0 ∧ State.reset.get (R.CH_CTRL_RX_EN ch) = 0 ∧
    State.reset.get (R.TX_ATT_ATT ch) = 127 ∧ State.reset.get (R.RX_GAIN_GAIN ch) = 0 ∧
    State.reset.reg (R.TX_IQ ch) = 0x4000 ∧ State.reset.reg (R.RX_IQ ch) = 0x4000 ∧ State.reset.reg (R.TX_LOL ch) = 0 ∧
    State.reset.get (R.CH_STATUS_BAND ch) = 3 ∧
    State.reset.get (R.CH_STATUS_TX_LIVE ch) = 0 ∧ State.reset.get (R.CH_STATUS_RX_LIVE ch) = 0 := by
  have hctrl : State.reset.reg (R.CH_CTRL ch) = 0x100 := State.reset_reg_chain hc 1
  have hstat : State.reset.reg (R.CH_STATUS ch) = 0x30 := State.reset_reg_chain hc 2
  have hatt : State.reset.reg (R.TX_ATT ch) = 0x7F := State.reset_reg_chain hc 3
  have hgain : State.reset.reg (R.RX_GAIN ch) = 0 := State.reset_reg_chain hc 4
  have hrest : State.reset.reg (R.TX_IQ ch) = 0x4000 ∧ State.reset.reg (R.RX_IQ ch) = 0x4000 ∧ State.reset.reg (R.TX_LOL ch) = 0 :=
    ⟨State.reset_reg_chain hc 5, State.reset_reg_chain hc 7, State.reset_reg_chain hc 6⟩
  simp [State.get, Field.of, hctrl, hstat, hatt, hgain, hrest, R.CH_CTRL_TX_EN, R.CH_CTRL_RX_EN, R.TX_ATT_ATT, R.RX_GAIN_GAIN,
    R.CH_STATUS_BAND, R.CH_STATUS_TX_LIVE, R.CH_STATUS_RX_LIVE]

end

theorem State.reset_slotOwner : ∀ cs, cs < 8 → State.reset.slotOwner 0 cs = 0x1F ∧ State.reset.slotOwner 1 cs = 0x1F := by decide

theorem State.reset_beamOwner : ∀ b, b < 16 → State.reset.beamOwner b = 0x1F := by decide

theorem State.reset_sessState : ∀ x, x < 16 → State.reset.sessState x = sessClosed := by decide

end Sys2Proof.Machine

open Sys2Proof Sys2Proof.Machine

/-- Settles O6: the register file lists nothing, so every register reads its reset value, a chain's by its row of the table. -/
theorem resetState : Obligations.ResetState := by
  unfold Obligations.ResetState
  exact ⟨rfl, rfl, State.reset_reg, fun _ => rfl, fun _ hc => State.reset_chain hc, rfl, rfl, rfl, rfl, rfl,
    State.reset_slotOwner, State.reset_beamOwner, State.reset_sessState⟩
end

section
/-! Apply instants and register writes of the shadowed corrections (R74). -/

namespace Sys2Proof.Machine

/-- The registers of a chain's shadowed corrections. -/
def corrRegs (ch : Nat) : List Nat := [R.TX_IQ ch, R.RX_IQ ch, R.TX_LOL ch]

/-- CORR_SLEWING shows whether a working correction of the chain differs from its shadow (R74). -/
def State.SlewShown (s : State) (ch : Nat) : Prop :=
  s.flag (R.CH_STATUS_CORR_SLEWING ch) = true ↔ ∃ a ∈ corrRegs ch, s.wrk a ≠ s.reg a

theorem corrRegs_bounds {ch a : Nat} (hc : ch < 64) (h : a ∈ corrRegs ch) : a ≠ R.CH_STATUS ch ∧ a < 0x10400000 := by
  simp only [corrRegs, R.TX_IQ, R.RX_IQ, R.TX_LOL, List.mem_cons, List.not_mem_nil, or_false] at h
  simp only [R.CH_STATUS]
  omega

theorem State.wrk_congr {s t : State} (h : t.work = s.work) (a : Nat) : t.wrk a = s.wrk a := by
  unfold State.wrk
  rw [h]

theorem State.get_of_reg {s t : State} {f : Field} (h : t.reg f.addr = s.reg f.addr) : t.get f = s.get f := congrArg f.of h

theorem State.wget_of_wrk {s t : State} {f : Field} (h : t.wrk f.addr = s.wrk f.addr) : t.wget f = s.wget f := congrArg f.of h

theorem State.wget_congr {s t : State} (h : t.work = s.work) (f : Field) : t.wget f = s.wget f := State.wget_of_wrk (State.wrk_congr h _)

section
variable {s t : State} {ch : Nat}

theorem State.SlewShown.congr (h : s.SlewShown ch) (hf : t.flag (R.CH_STATUS_CORR_SLEWING ch) = s.flag (R.CH_STATUS_CORR_SLEWING ch))
    (hw : t.work = s.work) (hr : ∀ a ∈ corrRegs ch, t.reg a = s.reg a) : t.SlewShown ch := by
  unfold State.SlewShown at *
  rw [hf, h]
  refine exists_congr fun a => and_congr_right fun ha => ?_
  rw [hr a ha, State.wrk_congr hw]

theorem State.showSlewing_reg {a : Nat} (s : State) (h : a ≠ R.CH_STATUS ch) : (State.showSlewing ch s).reg a = s.reg a :=
  State.reg_put_other s _ a _ h

theorem State.showSlewing_work (s : State) : (State.showSlewing ch s).work = s.work := State.put_work ..

theorem State.showSlewing_shown (s : State) (hc : ch < 64) : (State.showSlewing ch s).SlewShown ch := by
  have hf : (State.showSlewing ch s).flag (R.CH_STATUS_CORR_SLEWING ch) = (corrRegs ch).any fun a => s.wrk a ≠ s.reg a := State.flag_put s _
  have hr : ∀ a ∈ corrRegs ch, (State.showSlewing ch s).reg a = s.reg a := fun a ha => s.showSlewing_reg (corrRegs_bounds hc ha).1
  unfold State.SlewShown
  rw [hf, List.any_eq_true]
  refine exists_congr fun a => and_congr_right fun ha => ?_
  rw [hr a ha, decide_eq_true_eq, State.wrk_congr s.showSlewing_work]

/-- A disable that acts leaves the corrections, and CORR_SLEWING with them. -/
theorem State.SlewShown.applyDis {D : ServiceDir} (L : D.Lawful) (hc : ch < 64) (h : s.SlewShown ch) : (s.applyDis D ch).SlewShown ch := by
  have hw : (s.applyDis D ch).work = s.work := (L.applyDis_onChains s).keeps State.work
  refine h.congr ((L.applyDis_writes s).flag ?_) hw fun a ha => ?_
  · have hp := L.pin_addr ch
    rintro f (rfl | rfl | rfl)
    · exact .inr (.inr (L.rdy_low ch))
    · exact .inr (.inr (L.live_low ch))
    · refine .inl ?_
      simp only [R.CH_STATUS_CORR_SLEWING, R.CH_STATUS]
      omega
  · obtain ⟨h1, h2⟩ := corrRegs_bounds hc ha
    exact L.applyDis_reg s h1 (by have := L.pin_addr ch; omega)

end

/-! ### An apply instant -/

section
variable {D : ServiceDir} (L : D.Lawful) {ch : Nat} (hc : ch < 64) {l : List (Field × Nat)}
  (hp : l.Pairwise fun p q => p.1.Apart q.1) (hf : ∀ p ∈ l, (p.1.fits = true ∧ 0 < p.1.width) ∧ p.1.addr ∈ corrRegs ch)
include L hc

/-- The end of an apply instant: fields slew, CORR_SLEWING follows, a waiting disable acts. -/
def State.slewAndShow (D : ServiceDir) (ch : Nat) (l : List (Field × Nat)) (s : State) : State :=
  State.applyDis D ch (State.showSlewing ch (s.slewAll l))

theorem State.slewAndShow_shown (s : State) : (s.slewAndShow D ch l).SlewShown ch := (State.showSlewing_shown _ hc).applyDis L hc

omit hc in
theorem State.slewAndShow_work (s : State) : (s.slewAndShow D ch l).work = (s.slewAll l).work :=
  ((L.applyDis_onChains _).keeps State.work).trans (State.showSlewing_work _)

theorem State.slewAndShow_reg {a : Nat} (s : State) (ha : a ∈ corrRegs ch) : (s.slewAndShow D ch l).reg a = s.reg a := by
  obtain ⟨h1, h2⟩ := corrRegs_bounds hc ha
  refine (L.applyDis_reg _ h1 (by have := L.pin_addr ch; omega)).trans ?_
  rw [State.showSlewing_reg _ h1, State.reg_congr (State.slewAll_regs l s)]

include hp hf

/-- Each field takes one slew step toward its shadow, which stays. -/
theorem State.slewAndShow_field (s : State) {p : Field × Nat} (h : p ∈ l) : (s.slewAndShow D ch l).get p.1 = s.get p.1 ∧
    toInt p.1.width ((s.slewAndShow D ch l).wget p.1) = slewTo p.2 (toInt p.1.width (s.wget p.1)) (toInt p.1.width (s.get p.1)) := by
  refine ⟨State.get_of_reg (State.slewAndShow_reg L hc s (hf p h).2), ?_⟩
  rw [State.wget_congr (State.slewAndShow_work L s), State.slewAll_toInt hp (fun q hq => (hf q hq).1) s h]

end

/-- The transmit corrections of a chain with their slew steps (R74). -/
def txSlews (ch : Nat) : List (Field × Nat) :=
  [(R.TX_IQ_PHASE ch, 16), (R.TX_IQ_GAIN ch, 16), (R.TX_LOL_LOL_Q ch, 4), (R.TX_LOL_LOL_I ch, 4)]

/-- The receive corrections of a chain with their slew steps (R74). -/
def rxSlews (ch : Nat) : List (Field × Nat) := [(R.RX_IQ_PHASE ch, 16), (R.RX_IQ_GAIN ch, 16)]

section
variable (s : State) (ch : Nat)

theorem txSlews_apart : (txSlews ch).Pairwise fun p q => p.1.Apart q.1 := by
  simp [txSlews, Field.Apart, R.TX_IQ_PHASE, R.TX_IQ_GAIN, R.TX_LOL_LOL_Q, R.TX_LOL_LOL_I, R.TX_IQ, R.TX_LOL]

theorem rxSlews_apart : (rxSlews ch).Pairwise fun p q => p.1.Apart q.1 := by
  simp [rxSlews, Field.Apart, R.RX_IQ_PHASE, R.RX_IQ_GAIN]

theorem txSlews_corr : ∀ p ∈ txSlews ch, (p.1.fits = true ∧ 0 < p.1.width) ∧ p.1.addr ∈ corrRegs ch := by
  simp [txSlews, corrRegs, Field.fits, R.TX_IQ_PHASE, R.TX_IQ_GAIN, R.TX_LOL_LOL_Q, R.TX_LOL_LOL_I]

theorem rxSlews_corr : ∀ p ∈ rxSlews ch, (p.1.fits = true ∧ 0 < p.1.width) ∧ p.1.addr ∈ corrRegs ch := by
  simp [rxSlews, corrRegs, Field.fits, R.RX_IQ_PHASE, R.RX_IQ_GAIN]

theorem State.applyTx_eq : State.applyTx ch s = (s.apply (R.TX_ATT ch)).slewAndShow .tx ch (txSlews ch) := rfl

theorem State.slewAndShow_rx : s.slewAndShow .rx ch (rxSlews ch) = State.applyRxDis ch (State.showSlewing ch
    ((s.slewField (R.RX_IQ_PHASE ch) 16).slewField (R.RX_IQ_GAIN ch) 16)) := rfl

/-- Before its slews a receive apply instant takes the gain, and shows the trim of a new one. -/
theorem State.applyRx_eq : ∃ u f, State.applyRx ch s = (State.slewAndShow .rx ch (rxSlews ch) u).modChain ch f ∧
    ∀ a ∈ corrRegs ch, u.reg a = s.reg a ∧ u.wrk a = s.wrk a := by
  unfold State.applyRx
  extract_lets g s1 s2 s3 s4
  refine ⟨s2, _, congrArg (State.modChain · ch _) (s2.slewAndShow_rx ch).symm, fun a ha => ?_⟩
  have hn : a ≠ R.RX_DCO_TRIM ch ∧ a ≠ R.RX_GAIN ch := by
    simp only [corrRegs, R.TX_IQ, R.RX_IQ, R.TX_LOL, List.mem_cons, List.not_mem_nil, or_false] at ha
    simp only [R.RX_DCO_TRIM, R.RX_GAIN]
    omega
  refine doIf_keeps (fun u => u.reg a = s.reg a ∧ u.wrk a = s.wrk a) _ _ (fun u ⟨h1, h2⟩ => ?_) s1
    ⟨State.reg_congr (State.setWrk_regs ..) a, State.wrk_apply_other _ _ _ hn.2⟩
  obtain ⟨t1, -, t3⟩ := (u.modChain ch fun x => { x with settle := u.now + 25 }).showTrim_spec (ch := ch)
  exact ⟨(t3 a hn.1).trans ((State.reg_congr (State.modChain_regs ..) a).trans h1),
    (t1.keeps (State.wrk · a)).trans ((State.wrk_congr (State.modChain_work ..) a).trans h2)⟩

variable {ch} (hc : ch < 64)
include hc

theorem State.applyTx_field {p : Field × Nat} (h : p ∈ txSlews ch) : (State.applyTx ch s).get p.1 = s.get p.1 ∧
    toInt p.1.width ((State.applyTx ch s).wget p.1) = slewTo p.2 (toInt p.1.width (s.wget p.1)) (toInt p.1.width (s.get p.1)) := by
  have hw : (s.apply (R.TX_ATT ch)).wget p.1 = s.wget p.1 := State.wget_of_wrk (State.wrk_apply_other _ _ _ (by
    have := (txSlews_corr ch p h).2
    simp only [corrRegs, R.TX_IQ, R.RX_IQ, R.TX_LOL, List.mem_cons, List.not_mem_nil, or_false] at this
    simp only [R.TX_ATT]
    omega))
  have hg : (s.apply (R.TX_ATT ch)).get p.1 = s.get p.1 := State.get_congr (State.setWrk_regs ..) _
  rw [s.applyTx_eq ch, ← hw, ← hg]
  exact State.slewAndShow_field ServiceDir.tx_lawful hc (txSlews_apart ch) (txSlews_corr ch) _ h

theorem State.applyTx_shown : (State.applyTx ch s).SlewShown ch := by
  rw [s.applyTx_eq ch]
  exact State.slewAndShow_shown ServiceDir.tx_lawful hc _

theorem State.applyRx_field {p : Field × Nat} (h : p ∈ rxSlews ch) : (State.applyRx ch s).get p.1 = s.get p.1 ∧
    toInt p.1.width ((State.applyRx ch s).wget p.1) = slewTo p.2 (toInt p.1.width (s.wget p.1)) (toInt p.1.width (s.get p.1)) := by
  obtain ⟨u, f, he, hu⟩ := s.applyRx_eq ch
  obtain ⟨hr, hw⟩ := hu _ (rxSlews_corr ch p h).2
  obtain ⟨h1, h2⟩ := State.slewAndShow_field ServiceDir.rx_lawful hc (rxSlews_apart ch) (rxSlews_corr ch) u h
  rw [he, ← State.get_of_reg hr, ← State.wget_of_wrk hw]
  exact ⟨(State.modChain_get ..).trans h1, (congrArg (toInt _) (State.wget_congr (State.modChain_work ..) _)).trans h2⟩

theorem State.applyRx_shown : (State.applyRx ch s).SlewShown ch := by
  obtain ⟨u, f, he, -⟩ := s.applyRx_eq ch
  rw [he]
  exact (State.slewAndShow_shown ServiceDir.rx_lawful hc u).congr (State.flag_congr (State.modChain_get ..)) (State.modChain_work ..)
    fun a _ => State.reg_congr (State.modChain_regs ..) a

end

/-! ### A register write (R14, R22) -/

/-- A register of two plain halves takes the word written. -/
theorem plainWord_halves {r : RegRow} (h : r.fields = [⟨31, 16, .rw⟩, ⟨15, 0, .rw⟩]) (old v : Word) : plainWord r old v = v := by
  unfold plainWord
  rw [h]
  refine BitVec.eq_of_toNat_eq ?_
  have := v.isLt
  simp only [List.foldl_cons, List.foldl_nil, bits, Nat.shiftRight_eq_div_pow, BitVec.toNat_ofNat]
  omega

section
variable (s : State) (mid : Nat) (v : Word) {ch : Nat} (hc : ch < 64)
include hc

theorem State.regWrite_TX_IQ : s.regWrite mid (R.TX_IQ ch) v = .ok (doIf (s.activeOn .dl (quadOf ch)).isEmpty (State.applyTx ch)
    (State.showSlewing ch (s.plainWrite (chbRow 5) (R.TX_IQ ch) v))) := s.regWrite_chain hc 5 mid v

theorem State.regWrite_TX_LOL : s.regWrite mid (R.TX_LOL ch) v = .ok (doIf (s.activeOn .dl (quadOf ch)).isEmpty (State.applyTx ch)
    (State.showSlewing ch (s.plainWrite (chbRow 6) (R.TX_LOL ch) v))) := s.regWrite_chain hc 6 mid v

theorem State.regWrite_RX_IQ : s.regWrite mid (R.RX_IQ ch) v = .ok (doIf (s.activeOn .ul (quadOf ch)).isEmpty (State.applyRx ch)
    (State.showSlewing ch (s.plainWrite (chbRow 7) (R.RX_IQ ch) v))) := s.regWrite_chain hc 7 mid v

/-- A correction written while its apply instant is to come: the working copies stay, and CORR_SLEWING follows the new shadow. -/
theorem State.corrWrite_spec {a : Nat} (ha : a ∈ corrRegs ch) (r : RegRow) {l : List Nat} (f : State → State) (hl : l ≠ [])
    (h : s.regWrite mid a v = .ok (doIf l.isEmpty f (State.showSlewing ch (s.plainWrite r a v)))) :
    ∃ t : State, exec (.registerWrite mid a v) s = .next t ∧ t.work = s.work ∧ t.reg a = plainWord r (s.reg a) v ∧ t.SlewShown ch := by
  rw [List.isEmpty_eq_false_iff.2 hl, doIf_false] at h
  refine ⟨State.showSlewing ch (s.plainWrite r a v), congrArg (Host.Outcome.next <| Wr.state ·) h,
    (State.showSlewing_work _).trans (State.setReg_work ..), ?_, State.showSlewing_shown _ hc⟩
  rw [State.showSlewing_reg _ (corrRegs_bounds hc ha).1]
  exact State.reg_setReg_same ..

end
end Sys2Proof.Machine

open Sys2Proof Sys2Proof.Machine

/-- Settles O18: each field of an apply instant by one slew step, a register write by what it leaves of the working copies. -/
theorem correctionsSlewToTheirShadows : Obligations.CorrectionsSlewToTheirShadows := by
  unfold Obligations.CorrectionsSlewToTheirShadows
  intro ch s hc
  refine ⟨fun p hp => s.applyTx_field hc hp, fun p hp => s.applyRx_field hc hp, fun t ht => ?_, fun mid v => ⟨fun hl a ha => ?_, fun hl => ?_⟩⟩
  · rcases List.mem_pair.1 ht with rfl | rfl
    · exact s.applyTx_shown hc
    · exact s.applyRx_shown hc
  · rcases List.mem_pair.1 ha with rfl | rfl
    · obtain ⟨t, h1, h2, h3, h4⟩ := s.corrWrite_spec mid v hc (by simp [corrRegs]) _ _ hl (s.regWrite_TX_IQ mid v hc)
      exact ⟨t, h1, h2, fun _ => h3.trans (plainWord_halves rfl _ _), h4⟩
    · obtain ⟨t, h1, h2, -, h4⟩ := s.corrWrite_spec mid v hc (by simp [corrRegs]) _ _ hl (s.regWrite_TX_LOL mid v hc)
      exact ⟨t, h1, h2, fun e => absurd e (by simp only [R.TX_LOL, R.TX_IQ]; omega), h4⟩
  · obtain ⟨t, h1, h2, h3, h4⟩ := s.corrWrite_spec mid v hc (by simp [corrRegs]) _ _ hl (s.regWrite_RX_IQ mid v hc)
    exact ⟨t, h1, h2, h3.trans (plainWord_halves rfl _ _), h4⟩
end

section
/-! Which synthesisers serve which quadrants, and what leaves that as it is (R94, R95, R103). -/

namespace Sys2Proof.Machine

/-! ### The fields that say so -/

/-- The states of the synthesisers, the mode, DRIFT, RESULT of a TUNE, and of each quadrant its source and divider. -/
inductive LoKey : Field → Prop
  | synA : LoKey R.LO_STATUS_SYNA_STATE
  | synB : LoKey R.LO_STATUS_SYNB_STATE
  | drift : LoKey R.LO_STATUS_DRIFT
  | mode : LoKey R.LO_CTRL_MODE
  | result : LoKey R.TUNE_CMD_RESULT
  | src (q : Nat) (h : q < 4) : LoKey (R.QLO_CFG_SRC q)
  | div (q : Nat) (h : q < 4) : LoKey (R.QLO_CFG_DIV q)

/-- A field that shares no bit with any of these. -/
def LoFree (f : Field) : Prop := ∀ g, LoKey g → f.Apart g

theorem LoKey.quiet {g : Field} (h : LoKey g) : quietBlock (g.addr / 2 ^ 20) = true := by
  cases h with
  | src q h => rw [quietBlock_iff]; simp only [R.QLO_CFG_SRC, R.QLO_CFG]; omega
  | div q h => rw [quietBlock_iff]; simp only [R.QLO_CFG_DIV, R.QLO_CFG]; omega
  | synA | synB | drift | mode | result => rfl

theorem LoKey.syn (i : Nat) : LoKey (synField i) := by
  unfold synField
  split
  · exact .synA
  · exact .synB

theorem synField_apart {i : Nat} (h : i < 2) : (synField (1 - i)).Apart (synField i) := by
  interval_cases i
  · exact .below
  · exact .above

theorem LoKey.addr {g : Field} (h : LoKey g) : 0x11000004 ≤ g.addr ∧ (g.addr < 0x11000030 ∨ g.addr = 0x1100004C) := by
  cases h with
  | src q h => simp only [R.QLO_CFG_SRC, R.QLO_CFG]; omega
  | div q h => simp only [R.QLO_CFG_DIV, R.QLO_CFG]; omega
  | synA | synB | drift | mode | result => decide

theorem LoFree.of_addr {f : Field} (h : f.addr < 0x11000004 ∨ 0x11000030 ≤ f.addr) (h' : f.addr ≠ 0x1100004C) : LoFree f :=
  fun _ hg => .inl (by have := hg.addr; omega)

/-- A register of a chain whose offset none of these has, whatever chain is named. -/
theorem LoFree.of_offset {f : Field} (h : 0x30 ≤ f.addr % 0x10000) (h' : f.addr % 0x10000 ≠ 0x4C) : LoFree f :=
  fun _ hg => .inl (by have := hg.addr; omega)

/-- The low half of a status register, of whatever chain, and the two flags of TUNE. -/
theorem LoFree.of_status {f : Field} (h : f.addr % 0x10000 = 8) (hb : f.lo + f.width ≤ 16 ∨ 23 ≤ f.lo ∧ f.lo + f.width ≤ 25) : LoFree f := by
  intro g hg
  cases hg with
  | synA => exact .inr (by simp only [R.LO_STATUS_SYNA_STATE]; omega)
  | synB => exact .inr (by simp only [R.LO_STATUS_SYNB_STATE]; omega)
  | drift => exact .inr (by simp only [R.LO_STATUS_DRIFT]; omega)
  | mode => exact .inl (by simp only [R.LO_CTRL_MODE, R.LO_CTRL]; omega)
  | result => exact .inl (by simp only [R.TUNE_CMD_RESULT, R.TUNE_CMD]; omega)
  | src q hq => exact .inl (by simp only [R.QLO_CFG_SRC, R.QLO_CFG]; omega)
  | div q hq => exact .inl (by simp only [R.QLO_CFG_DIV, R.QLO_CFG]; omega)

theorem LoFree.trim (q : Nat) (hq : q < 4) : LoFree (R.QLO_CFG_TRIM q) := by
  intro g hg
  cases hg with
  | src | div => exact .above
  | synA | synB | drift | mode | result =>
    exact .inl (by simp only [R.QLO_CFG_TRIM, R.QLO_CFG, R.LO_STATUS_SYNA_STATE, R.LO_STATUS_SYNB_STATE, R.LO_STATUS_DRIFT, R.LO_STATUS,
      R.LO_CTRL_MODE, R.LO_CTRL, R.TUNE_CMD_RESULT, R.TUNE_CMD]; omega)

theorem AlarmField.loFree {f : Field} (h : AlarmField f) : LoFree f := fun _ hg => h.apart_of_block hg.quiet

/-! ### What leaves them -/

/-- From `s0` on the time, the TUNEs, the synthesisers' own state and these fields stay; no LO in force is lost. -/
structure State.LoKept (s0 s : State) : Prop where
  now : s.now = s0.now
  tune : s.lo.tune = s0.lo.tune
  waiting : s.lo.waiting = s0.lo.waiting
  syns : s.lo.syns = s0.lo.syns
  tuned : ∀ q, s0.tuned q = true → s.tuned q = true
  writes : s0.Writes LoFree s

namespace State.LoKept

section
variable {s0 s t : State}

theorem refl (s : State) : s.LoKept s := ⟨rfl, rfl, rfl, rfl, fun _ h => h, .refl s⟩

theorem trans (h : s0.LoKept s) (k : s.LoKept t) : s0.LoKept t :=
  ⟨k.now.trans h.now, k.tune.trans h.tune, k.waiting.trans h.waiting, k.syns.trans h.syns, fun q hq => k.tuned q (h.tuned q hq),
    h.writes.trans k.writes⟩

theorem get (h : s0.LoKept s) {g : Field} (hg : LoKey g) : s.get g = s0.get g := h.writes.get g fun _ hf => hf g hg

theorem flag (h : s0.LoKept s) {g : Field} (hg : LoKey g) : s.flag g = s0.flag g := State.flag_congr (h.get hg)

theorem synState (h : s0.LoKept s) (i : Nat) : s.synState i = s0.synState i := h.get (.syn i)

/-- A step that leaves time and the LO system's own state. -/
theorem step (h : s0.LoKept s) (w : s.Writes LoFree t) (hn : t.now = s.now) (hl : t.lo = s.lo) : s0.LoKept t :=
  h.trans ⟨hn, congrArg LoX.tune hl, congrArg LoX.waiting hl, congrArg LoX.syns hl,
    fun q hq => (congrArg (LoX.hasLo · |>.testBit q) hl).trans hq, w⟩

theorem same (h : s0.LoKept s) (hr : t.regs = s.regs) (hn : t.now = s.now) (hl : t.lo = s.lo) : s0.LoKept t :=
  h.step (.same (.refl s) hr) hn hl

theorem put {f : Field} {v : Nat} (h : s0.LoKept s) (hf : LoFree f) (w : f.fits = true) : s0.LoKept (s.put f v) :=
  h.step (.put (.refl s) hf w) rfl rfl

theorem setReg {a : Nat} {v : Word} (h : s0.LoKept s) (hf : LoFree ⟨a, 0, 32⟩) : s0.LoKept (s.setReg a v) :=
  h.step (.setReg (.refl s) hf) rfl rfl

theorem doIf {b : Bool} {f : State → State} (h : s0.LoKept s) (k : ∀ u, s0.LoKept u → s0.LoKept (f u)) :
    s0.LoKept (Machine.doIf b f s) := doIf_keeps _ b f k s h

theorem forAll {α : Type} {l : List α} {f : α → State → State} (h : s0.LoKept s)
    (k : ∀ a ∈ l, ∀ u, s0.LoKept u → s0.LoKept (f a u)) : s0.LoKept (Machine.forAll l f s) := forAll_keeps _ l f k s h

theorem ite {c : Prop} [Decidable c] (h : s0.LoKept s) (k : s0.LoKept t) : s0.LoKept (if c then s else t) := by
  split
  · exact h
  · exact k

theorem sent (h : s0.LoKept s) (k : s.Sent t) : s0.LoKept t :=
  h.step (k.writes.mono fun _ hf => (AlarmField.sent hf).loFree) (k.keeps State.now) (k.keeps State.lo)

theorem event {e : Event} (h : s0.LoKept s) : s0.LoKept (s.event e) := h.sent (.event (.refl s))

/-- Time and the LO system's own state are kept along with what a chain's operation changes. -/
theorem onChains (h : s0.LoKept s) (k : s.OnChains t) (w : s.Writes LoFree t) : s0.LoKept t :=
  h.step w (k.keeps State.now) (k.keeps State.lo)

end
end State.LoKept
end Sys2Proof.Machine
end

section
/-! The calibration sequencer after a switch-over leaves the LO system as it is (R391, R395, R406). -/

namespace Sys2Proof.Machine

/-! ### Fields of chains -/

/-- A register of one of the 64 chains. -/
theorem LoFree.of_chain {f : Field} {o ch : Nat} (hc : ch < 64) (h : f.addr = o + ch * 0x10000) (ho : decide (o < 0x10010000) = true) :
    LoFree f := by
  have := of_decide_eq_true ho
  exact .of_addr (by omega) (by omega)

/-- A register of a chain whose offset none of the LO's registers has, whatever chain is named. -/
theorem LoFree.of_anyChain {f : Field} {o ch : Nat} (h : f.addr = o + ch * 0x10000)
    (ho : decide (0x30 ≤ o % 0x10000 ∧ o % 0x10000 ≠ 0x4C) = true) : LoFree f := by
  have := of_decide_eq_true ho
  exact .of_offset (by omega) (by omega)

theorem quadOf_of_mem_chainsOf {q ch : Nat} (h : ch ∈ chainsOf q) : quadOf ch = q := by
  obtain ⟨i, hi, rfl⟩ := List.mem_map.1 h
  have := List.mem_range.1 hi
  simp only [quadOf]
  omega

theorem LoFree.offField {D : ServiceDir} (L : D.Lawful) {ch : Nat} (hc : ch < 64) {f : Field} (h : D.OffField ch f) : LoFree f := by
  rcases h with rfl | rfl | rfl
  · exact .of_chain hc (L.rdy_addr ch) rfl
  · exact .of_chain hc (L.live_addr ch) rfl
  · have := L.pin_addr ch
    exact .of_addr (by omega) (by omega)

namespace State.LoKept

section
variable {s0 s : State} {ch : Nat} (h : s0.LoKept s)
include h

/-! ### Chains -/

theorem modChain {f : ChainX → ChainX} : s0.LoKept (s.modChain ch f) := h.same (State.modChain_regs ..) rfl rfl

theorem apply {a : Nat} : s0.LoKept (s.apply a) := h.same (State.setWrk_regs ..) rfl rfl

theorem slewField {f : Field} {n : Nat} : s0.LoKept (s.slewField f n) := h.same (State.setWrk_regs ..) rfl rfl

theorem applyDis {D : ServiceDir} (L : D.Lawful) (hc : ch < 64) : s0.LoKept (s.applyDis D ch) :=
  h.onChains (L.applyDis_onChains s) ((L.applyDis_writes s).mono fun _ hf => .offField L hc hf)

theorem showSlewing (hc : ch < 64) : s0.LoKept (State.showSlewing ch s) := .put h (.of_chain hc rfl rfl) rfl

theorem showTrim : s0.LoKept (State.showTrim ch s) := by
  unfold State.showTrim
  exact .ite h (.put (.put h (.of_anyChain rfl rfl) rfl) (.of_anyChain rfl rfl) rfl)

theorem showEst : s0.LoKept (State.showEst ch s) := by
  unfold State.showEst
  exact .ite h (.put (.put h (.of_anyChain rfl rfl) rfl) (.of_anyChain rfl rfl) rfl)

theorem applyTx (hc : ch < 64) : s0.LoKept (State.applyTx ch s) := by
  unfold State.applyTx
  extract_lets s1 s2 s3
  have h3 : s0.LoKept s3 := .slewField (.slewField (.slewField (.slewField (.apply h))))
  rw [State.applyTxDis_eq]
  exact applyDis (.showSlewing h3 hc) ServiceDir.tx_lawful hc

theorem applyRx (hc : ch < 64) : s0.LoKept (State.applyRx ch s) := by
  unfold State.applyRx
  extract_lets g s1 s2 s3 s4
  have h2 : s0.LoKept s2 := .doIf (.apply h) fun _ h1 => .showTrim (.modChain h1)
  have h4 : s0.LoKept s4 := by
    unfold s4
    rw [State.applyRxDis_eq]
    exact applyDis (.showSlewing (.slewField (.slewField h2)) hc) ServiceDir.rx_lawful hc
  exact .modChain h4

theorem countChain {a b c : Nat} : s0.LoKept (s.countChain ch a b c) :=
  .ite (.modChain h) (.put (.put (.put h (.of_anyChain rfl rfl) rfl) (.of_anyChain rfl rfl) rfl) (.of_anyChain rfl rfl) rfl)

/-- The calibration of a chain begins or ends, whatever chain the job names. -/
theorem setStale {b : Bool} : s0.LoKept (State.setStale ch b s) := by
  have h1 : s0.LoKept (s.put (R.CH_STATUS_STALE ch) (b2n b)) := .put h (.of_status
    (by simp only [R.CH_STATUS_STALE, R.CH_STATUS]; omega) (.inl (by simp only [R.CH_STATUS_STALE]; omega))) rfl
  exact .ite h1 (.showTrim (.showEst (.modChain (.countChain h1))))

theorem loadDcoTable {runs : Bool} : s0.LoKept (s.loadDcoTable runs ch) := by
  unfold State.loadDcoTable
  split
  · exact h
  · extract_lets _ _ _ s1
    have h1 : s0.LoKept s1 := .forAll h fun i hi _ h2 => .setReg h2 (.of_offset (by
      have := List.mem_range.1 hi
      simp only [R.DCO_TABLE]
      omega) (by
      have := List.mem_range.1 hi
      simp only [R.DCO_TABLE]
      omega))
    exact .showTrim (.showEst (.modChain h1))

theorem askDcoLoad {l : List Word} : s0.LoKept (s.askDcoLoad ch l) :=
  .doIf (.modChain h) fun _ h1 => .loadDcoTable h1

end

/-! ### The sequencer -/

section
variable {s0 s : State} (h : s0.LoKept s)
include h

theorem modCal {f : CalX → CalX} : s0.LoKept (s.modCal f) := h.same (State.modCal_regs ..) rfl rfl

theorem applyTrim {q : Nat} (hq : q < 4) : s0.LoKept (State.applyTrim q s) := by
  have hf : ∀ f : Field, f.addr = R.QLO_PHASE q → LoFree f := fun f e => .of_addr (by simp only [e, R.QLO_PHASE]; omega)
    (by simp only [e, R.QLO_PHASE]; omega)
  exact .put (.put h (hf _ rfl) rfl) (hf _ rfl) rfl

theorem writeTargets {q : Nat} (hq : q < 4) : s0.LoKept (State.writeTargets q s) := by
  unfold State.writeTargets
  refine .ite (.doIf (.put (.put (.forAll h fun ch hc u h1 => ?_) (.trim q hq) rfl) ?_ rfl) fun _ h1 => .applyTrim h1 hq) h
  · have hc : ch < 64 := by
      have := quadOf_of_mem_chainsOf hc
      simp only [quadOf] at this
      omega
    have hf : ∀ f : Field, f.addr = R.TX_IQ ch ∨ f.addr = R.RX_IQ ch ∨ f.addr = R.TX_LOL ch → LoFree f := fun f e => by
      rcases e with e | e | e <;> exact .of_chain hc e rfl
    exact .doIf (.doIf (.showSlewing (.put (.put (.put (.put (.put (.put h1 (hf _ (.inl rfl)) rfl) (hf _ (.inl rfl)) rfl)
      (hf _ (.inr (.inl rfl))) rfl) (hf _ (.inr (.inl rfl))) rfl) (hf _ (.inr (.inr rfl))) rfl) (hf _ (.inr (.inr rfl))) rfl) hc)
      fun _ h2 => .applyTx h2 hc) fun _ h2 => .applyRx h2 hc
  · exact .of_addr (by simp only [R.QLO_PHASE_SLEWING, R.QLO_PHASE]; omega) (by simp only [R.QLO_PHASE_SLEWING, R.QLO_PHASE]; omega)

theorem loadTables {q : Nat} : s0.LoKept (State.loadTables q s) := by
  unfold State.loadTables
  exact .ite (.forAll h fun _ _ _ h1 => .askDcoLoad h1) h

theorem chooseFp {q : Nat} (hq : q < 4) : s0.LoKept (State.chooseFp q s) := by
  have hu : LoFree R.CAL_STATUS_UNCAL := .of_addr (by decide) (by decide)
  unfold State.chooseFp
  refine .ite ?_ h
  split
  · refine .loadTables (.writeTargets (.modCal (.put (.put h ?_ rfl) hu rfl)) hq)
    exact .of_addr (by simp only [R.CAL_QSTAT_FP, R.CAL_QSTAT]; omega) (by simp only [R.CAL_QSTAT_FP, R.CAL_QSTAT]; omega)
  · exact .event (.put h hu rfl)

theorem releaseSwitch : s0.LoKept s.releaseSwitch :=
  .ite h (.put (.put h (.of_addr (by decide) (by decide)) rfl) (.of_addr (by simp only [R.ORX_CFG_BUSY, R.ORX_CFG]; omega)
    (by simp only [R.ORX_CFG_BUSY, R.ORX_CFG]; omega)) rfl)

theorem calWatch : s0.LoKept s.calWatch := by
  unfold State.calWatch
  split
  · exact .ite (.modCal (.doIf h fun _ h1 => .forAll h1 fun _ _ _ h2 => .setStale h2)) h
  · exact h

theorem storeMem {a : Nat} {l : List Byte} : s0.LoKept (s.storeMem a l) := by
  obtain ⟨x, hx⟩ := s.storeMem_spec a l
  rw [hx]
  exact h.same rfl rfl rfl

theorem saveDrifts : s0.LoKept s.saveDrifts := by
  unfold State.saveDrifts
  exact .storeMem h

/-- The end of a command: its place in its queue is free, and its COMPLETION is sent. -/
theorem completeJob {j : Option Cmd} {st : Status} {done : List Byte} : s0.LoKept (s.completeJob j st done) := by
  unfold State.completeJob
  split
  · next c =>
    have h1 : s0.LoKept (s.unrun c) := by
      unfold State.unrun State.showHeldOf
      split
      · refine .put (.same h rfl rfl rfl) (.of_addr ?_ ?_) rfl
        · simp only [R.SESS_STAT_HELD, R.SESS_STAT]; omega
        · simp only [R.SESS_STAT_HELD, R.SESS_STAT]; omega
      · exact .same h rfl rfl rfl
    unfold State.complete
    extract_lets u
    split
    · next hc => exact h1.sent (.putEvent (.refl _) (by simp at hc; omega))
    · exact h1
  · exact h

theorem endCalJob {st : Status} : s0.LoKept (s.endCalJob st) := by
  unfold State.endCalJob
  split
  · refine .completeJob (.saveDrifts (.put (.put (.releaseSwitch (.modCal (.doIf (.forAll h fun _ _ _ h1 => .setStale h1)
      fun _ h1 => .put h1 ?_ rfl))) (.of_addr (by decide) (by decide)) rfl) (.of_addr (by decide) (by decide)) rfl))
    exact .of_addr (by simp only [R.TEMP_STALE, R.TEMP]; omega) (by simp only [R.TEMP_STALE, R.TEMP]; omega)
  · exact h

/-- A switch-over moves the frequency points of the quadrants and may end a calibration (R395, R406). -/
theorem calSwitched {qs : List Nat} (hq : ∀ q ∈ qs, q < 4) : s0.LoKept (s.calSwitched qs) := by
  unfold State.calSwitched
  extract_lets s1
  have h1 : s0.LoKept s1 := .forAll h fun q hm _ h1 => .chooseFp h1 (hq q hm)
  split
  · exact .ite (.endCalJob h1) (.calWatch h1)
  · exact h1

/-! ### The TUNE's flags -/

theorem showTune : s0.LoKept s.showTune :=
  .put (.put h (.of_status (by decide) (.inr (by decide))) rfl) (.of_status (by decide) (.inr (by decide))) rfl

end
end State.LoKept
end Sys2Proof.Machine
end

section
/-! What follows the LO of a quadrant: band paths, NCO words, marks on captures (R55, R128, R139), and LO_READY with DRIFT (R110, R115). -/

namespace Sys2Proof.Machine

/-! ### Band paths, NCO words, marks on captures -/

/-- The fields of the NCO words. -/
def NcoBlock (f : Field) : Prop := 0x11100200 ≤ f.addr ∧ f.addr < 0x11100400

/-- The marks of captures on a fall of LO_READY or a switch-over (R139). -/
def MarkField (f : Field) : Prop := ∃ k < 8, f = R.CAP_STAT_LO_EVT k

/-- The band paths of a quadrant's chains. -/
def BandField (q : Nat) (f : Field) : Prop := ∃ ch, quadOf ch = q ∧ f = R.CH_STATUS_BAND ch

/-- From `s0` on only registers changed, those with fields `F`, and the log of the NCO words. -/
structure State.Shown (F : Field → Prop) (s0 s : State) : Prop where
  writes : s0.Writes F s
  shape : ∃ regs nco, s = { s0 with regs := regs, sig := { s0.sig with nco := nco } }

namespace State.Shown

section
variable {F : Field → Prop} {s0 s : State}

theorem refl (s : State) : s.Shown F s := ⟨.refl s, _, _, rfl⟩

theorem put {f : Field} {v : Nat} (h : s0.Shown F s) (hf : F f) (w : f.fits = true := by rfl) : s0.Shown F (s.put f v) := by
  obtain ⟨hw, r, n, rfl⟩ := h
  exact ⟨.put hw hf w, _, _, rfl⟩

theorem nco {l : List NcoWord} (h : s0.Shown F s) : s0.Shown F { s with sig := { s.sig with nco := l } } := by
  obtain ⟨hw, r, n, rfl⟩ := h
  exact ⟨.same hw rfl, _, _, rfl⟩

theorem doIf {b : Bool} {f : State → State} (h : s0.Shown F s) (k : ∀ u, s0.Shown F u → s0.Shown F (f u)) :
    s0.Shown F (Machine.doIf b f s) := doIf_keeps _ b f k s h

theorem forAll {α : Type} {l : List α} {f : α → State → State} (h : s0.Shown F s)
    (k : ∀ a ∈ l, ∀ u, s0.Shown F u → s0.Shown F (f a u)) : s0.Shown F (Machine.forAll l f s) := forAll_keeps _ l f k s h

/-- What reads neither the registers nor the log of the NCO words is kept. -/
theorem keeps {β : Sort _} (h : s0.Shown F s) (π : State → β)
    (hπ : ∀ (u : State) regs nco, π { u with regs := regs, sig := { u.sig with nco := nco } } = π u := by intros; rfl) : π s = π s0 := by
  obtain ⟨-, r, n, rfl⟩ := h
  exact hπ s0 r n

end
end State.Shown

section
variable (s : State) {q : Nat}

theorem State.setBand_shown (b : Nat) : s.Shown (BandField q) (s.setBand q b) :=
  .forAll (.refl s) fun ch hc _ h => .put h ⟨ch, quadOf_of_mem_chainsOf hc, rfl⟩

theorem State.setNcoQuad_shown (hq : q < 4) : s.Shown NcoBlock (State.setNcoQuad q s) := by
  refine .forAll (.refl s) fun p hp u h1 => .doIf h1 fun v h2 => ?_
  have hd := dirIx_lt p.1
  have hc : p.2 < 8 := by
    simp only [allSlots, slots, List.mem_append, List.mem_map, List.mem_range] at hp
    rcases hp with ⟨i, hi, rfl⟩ | ⟨i, hi, rfl⟩ <;> exact hi
  refine .put (.put (.nco h2) ?_) ?_
  · simp only [NcoBlock, R.NCO_NOW_LO_FTW_LO, R.NCO_NOW_LO]; omega
  · simp only [NcoBlock, R.NCO_NOW_HI_FTW_HI, R.NCO_NOW_HI]; omega

theorem State.markCaptures_shown : s.Shown MarkField (State.markCaptures q s) :=
  .forAll (.refl s) fun k hk _ h => .doIf h fun _ h1 => .put h1 ⟨k, List.mem_range.1 hk, rfl⟩

/-- The band path of every chain of the quadrant reads what it was set to. -/
theorem State.setBand_band {b ch : Nat} (hb : b < 4) (hc : quadOf ch = q) : (s.setBand q b).get (R.CH_STATUS_BAND ch) = b := by
  have hm : ch ∈ chainsOf q := List.mem_map.2 ⟨ch % 16, List.mem_range.2 (Nat.mod_lt _ (by decide)), by simp only [quadOf] at hc; omega⟩
  refine forAll_reaches (fun _ => True) (fun t => t.get (R.CH_STATUS_BAND ch) = b) _ _ hm (fun _ _ _ h => h) (fun t _ => ?_)
    (fun k _ hk t _ ht => ?_) s trivial
  · rw [State.get_put]
    exact Nat.mod_eq_of_lt hb
  · exact (State.get_put_apart t b (.inl (by simp only [R.CH_STATUS_BAND, R.CH_STATUS]; omega))).trans ht

end

theorem MarkField.addr {f : Field} (h : MarkField f) : 0x11100614 ≤ f.addr ∧ f.addr < 0x11100714 := by
  obtain ⟨k, hk, rfl⟩ := h
  simp only [R.CAP_STAT_LO_EVT, R.CAP_STAT]
  omega

theorem MarkField.loFree {f : Field} (h : MarkField f) : LoFree f := .of_addr (by have := h.addr; omega) (by have := h.addr; omega)

theorem NcoBlock.loFree {f : Field} (h : NcoBlock f) : LoFree f := by
  obtain ⟨h1, h2⟩ := h
  exact .of_addr (by omega) (by omega)

theorem BandField.loFree {q : Nat} {f : Field} (h : BandField q f) : LoFree f := by
  obtain ⟨ch, -, rfl⟩ := h
  exact .of_status (by simp only [R.CH_STATUS_BAND, R.CH_STATUS]; omega) (.inl (by simp only [R.CH_STATUS_BAND]; omega))

/-! ### LO_READY and DRIFT -/

/-- The fields that follow LO_READY, itself included. -/
inductive ReadyField : Field → Prop
  | ready : ReadyField R.LO_STATUS_LO_READY
  | mark {f : Field} (h : MarkField f) : ReadyField f
  | output {f : Field} (h : OutputField f) : ReadyField f

/-- From `s0` on only LO_READY changed, and what follows it. -/
structure State.Refreshed (s0 s : State) : Prop where
  writes : s0.Writes ReadyField s
  shape : ∃ regs chains adacs sig rxBad, s = { s0 with
    regs := regs, chains := chains, pa := { s0.pa with adacs := adacs }, sig := sig, lo := { s0.lo with rxBad := rxBad } }

/-- A turn of bringing LO_READY up to date: that of one quadrant. -/
def State.refreshQuad (q : Nat) (s : State) : State :=
  let was := s.fbit R.LO_STATUS_LO_READY q
  let is := s.loReadyNow q
  let s := s.putBit R.LO_STATUS_LO_READY q is
  doIf (was && !is) (fun s => (s.markCaptures q).modLo fun x => { x with rxBad := updAt x.rxBad q fun _ => 255 }) s

theorem State.refreshReady_eq (s : State) : s.refreshReady = (forAll (List.range 4) State.refreshQuad s.showDrift).settle := rfl

namespace State.Refreshed

section
variable {s0 s t : State}

theorem refl (s : State) : s.Refreshed s := ⟨.refl s, _, _, _, _, _, rfl⟩

theorem trans (h : s0.Refreshed s) (k : s.Refreshed t) : s0.Refreshed t := by
  obtain ⟨hw, r, c, a, g, b, rfl⟩ := h
  obtain ⟨kw, r', c', a', g', b', rfl⟩ := k
  exact ⟨hw.trans kw, r', c', a', g', b', rfl⟩

theorem putBit {q : Nat} {b : Bool} (h : s0.Refreshed s) : s0.Refreshed (s.putBit R.LO_STATUS_LO_READY q b) :=
  h.trans ⟨.put (.refl s) .ready, _, _, _, _, _, rfl⟩

theorem markCaptures {q : Nat} (h : s0.Refreshed s) : s0.Refreshed (State.markCaptures q s) := by
  obtain ⟨w, r, n, e⟩ := s.markCaptures_shown (q := q)
  exact h.trans ⟨w.mono fun _ => .mark, r, _, _, _, _, e⟩

theorem rxBad {f : List Nat → List Nat} (h : s0.Refreshed s) : s0.Refreshed (s.modLo fun x => { x with rxBad := f x.rxBad }) :=
  h.trans ⟨.same (.refl s) (State.modLo_regs ..), _, _, _, _, _, rfl⟩

theorem refreshQuad {q : Nat} (h : s0.Refreshed s) : s0.Refreshed (State.refreshQuad q s) := by
  unfold State.refreshQuad
  exact doIf_keeps _ _ _ (fun _ h1 => .rxBad (f := fun l => updAt l q fun _ => 255) (.markCaptures h1)) _ (.putBit h)

theorem settle (h : s0.Refreshed s) : s0.Refreshed s.settle := by
  obtain ⟨w, r, c, a, g, e⟩ := State.Driven.settle (.refl s)
  exact h.trans ⟨w.mono fun _ => .output, r, c, a, _, _, e⟩

/-- What reads neither the registers, the outputs nor the marks on uplink symbols is kept. -/
theorem keeps {β : Sort _} (h : s0.Refreshed s) (π : State → β)
    (hπ : ∀ (u : State) regs chains adacs sig rxBad, π { u with
      regs := regs, chains := chains, pa := { u.pa with adacs := adacs }, sig := sig, lo := { u.lo with rxBad := rxBad } } = π u := by
      intros; rfl) : π s = π s0 := by
  obtain ⟨-, r, c, a, g, b, rfl⟩ := h
  exact hπ s0 r c a g b

end
end State.Refreshed

theorem State.refreshReady_refreshed (s : State) : s.showDrift.Refreshed s.refreshReady := by
  rw [State.refreshReady_eq]
  exact .settle (forAll_keeps _ _ _ (fun _ _ _ h => .refreshQuad h) _ (.refl _))

/-- A field outside the outputs' blocks and the marks that shares no bit with LO_READY is left. -/
theorem ReadyField.apart {f g : Field} (h : ReadyField f) (hr : R.LO_STATUS_LO_READY.Apart g) (hb : quietBlock (g.addr / 2 ^ 20) = true)
    (hm : g.addr < 0x11100614 ∨ 0x11100714 ≤ g.addr) : f.Apart g := by
  cases h with
  | ready => exact hr
  | mark h => exact .inl (by have := h.addr; omega)
  | output h => exact h.apart_of_block hb

theorem LoFree.ready : LoFree R.LO_STATUS_LO_READY := .of_status (by decide) (.inl (by decide))

theorem ReadyField.loFree {f : Field} (h : ReadyField f) : LoFree f := by
  cases h with
  | ready => exact .ready
  | mark h => exact h.loFree
  | output h => exact (AlarmField.output h).loFree

section
variable {s0 s t : State}

theorem State.LoKept.refreshed (h : s0.LoKept s) (k : s.Refreshed t) : s0.LoKept t :=
  h.trans ⟨k.keeps State.now, k.keeps (·.lo.tune), k.keeps (·.lo.waiting), k.keeps (·.lo.syns),
    fun q hq => (k.keeps (State.tuned · q)).trans hq, k.writes.mono fun _ hf => hf.loFree⟩

theorem State.LoKept.shown {F : Field → Prop} (h : s0.LoKept s) (k : s.Shown F t) (hF : ∀ f, F f → LoFree f) : s0.LoKept t :=
  h.step (k.writes.mono hF) (k.keeps State.now) (k.keeps State.lo)

end

/-! ### What LO_READY reads -/

section
variable {s t : State} (h : s.Refreshed t)
include h

theorem State.Refreshed.get {g : Field} (hr : R.LO_STATUS_LO_READY.Apart g) (hb : quietBlock (g.addr / 2 ^ 20) = true := by rfl)
    (hm : decide (g.addr < 0x11100614 ∨ 0x11100714 ≤ g.addr) = true := by rfl) : t.get g = s.get g :=
  h.writes.get _ fun _ hf => hf.apart hr hb (of_decide_eq_true hm)

theorem State.Refreshed.activeOn (d : Dir) (q : Nat) : t.activeOn d q = s.activeOn d q := by
  refine State.activeOn_congr (fun d cs hc => State.reg_eq_of_get (h.get (.inl ?_) ?_ (decide_eq_true ?_))) d q <;> have := dirIx_lt d
  · simp only [R.CS_CFG, R.LO_STATUS_LO_READY, R.LO_STATUS]; omega
  · rw [quietBlock_iff]; simp only [R.CS_CFG]; omega
  · simp only [R.CS_CFG]; omega

theorem State.Refreshed.loReadyNow {q : Nat} (hq : q < 4) : t.loReadyNow q = s.loReadyNow q := by
  have k : s.LoKept t := .refreshed (.refl s) h
  have e1 : t.get R.PWR_STATUS_STATE_NOW = s.get R.PWR_STATUS_STATE_NOW := h.get (.inl (by decide))
  have e2 : t.get R.PWR_STATUS_QGATE = s.get R.PWR_STATUS_QGATE := h.get (.inl (by decide))
  have e3 : t.get R.LO_STATUS_QLO_LOCK = s.get R.LO_STATUS_QLO_LOCK := h.get .above
  have e4 : t.get R.LO_STATUS_ALIGNED = s.get R.LO_STATUS_ALIGNED := h.get .above
  have e5 : t.src q = s.src q := k.get (.src q hq)
  have e6 : t.lo.settleEnd = s.lo.settleEnd := h.keeps (·.lo.settleEnd)
  have e7 : t.lo.retuneQ = s.lo.retuneQ := h.keeps (·.lo.retuneQ)
  have e8 : t.lo.failHold = s.lo.failHold := h.keeps (·.lo.failHold)
  have e9 : t.tuned q = s.tuned q := h.keeps (State.tuned · q)
  unfold State.loReadyNow State.radioPowered State.radioOn State.quadGated State.failHeld State.aligned
  rw [e1, State.fbit_congr e2, State.fbit_congr e3, State.flag_congr e4, e5, e6, e7, e8, e9, k.synState, h.activeOn, h.activeOn,
    h.keeps State.pw]

end

section
variable (s : State)

theorem State.refreshQuad_ready {k q : Nat} (hk : k < 4) :
    (State.refreshQuad q s).fbit R.LO_STATUS_LO_READY k = if k = q then s.loReadyNow q else s.fbit R.LO_STATUS_LO_READY k := by
  unfold State.refreshQuad
  extract_lets was is u
  refine doIf_keeps (fun t => t.fbit R.LO_STATUS_LO_READY k = _) _ _ (fun t ht => ?_) u (State.fbit_putBit s _ q k is hk)
  refine (State.fbit_congr ?_ k).trans ht
  exact (State.get_congr (State.modLo_regs ..) _).trans (t.markCaptures_shown.writes.get _ fun f hf => .inl (by
    have := hf.addr
    simp only [R.LO_STATUS_LO_READY, R.LO_STATUS]
    omega))

/-- LO_READY of each quadrant then is as R110 says. -/
theorem State.refreshReady_ready {k : Nat} (hk : k < 4) : s.refreshReady.fbit R.LO_STATUS_LO_READY k = s.refreshReady.loReadyNow k := by
  rw [s.refreshReady_refreshed.loReadyNow hk]
  rw [State.refreshReady_eq]
  have hd : ∀ u : State, u.settle.fbit R.LO_STATUS_LO_READY k = u.fbit R.LO_STATUS_LO_READY k := fun u =>
    State.fbit_congr ((State.Driven.settle (.refl u)).get_of_block) k
  rw [hd]
  exact forAll_reaches s.showDrift.Refreshed (fun t => t.fbit R.LO_STATUS_LO_READY k = s.showDrift.loReadyNow k) _ State.refreshQuad
    (List.mem_range.2 hk) (fun q _ t ht => .refreshQuad ht) (fun t ht => by rw [State.refreshQuad_ready t hk, if_pos rfl, ht.loReadyNow hk])
    (fun q _ hq t _ ht => by rw [State.refreshQuad_ready t hk, if_neg (Ne.symm hq), ht]) _ (.refl _)

/-- A field that is neither LO_READY, DRIFT, an output nor a mark is left. -/
theorem State.refreshReady_get {g : Field} (hr : R.LO_STATUS_LO_READY.Apart g) (hd : R.LO_STATUS_DRIFT.Apart g)
    (hb : quietBlock (g.addr / 2 ^ 20) = true := by rfl) (hm : decide (g.addr < 0x11100614 ∨ 0x11100714 ≤ g.addr) = true := by rfl) :
    s.refreshReady.get g = s.get g := (s.refreshReady_refreshed.get hr hb hm).trans (State.get_put_apart s _ hd)

theorem State.refreshReady_keeps {β : Sort _} (π : State → β)
    (hπ : ∀ (u : State) regs chains adacs sig rxBad, π { u with
      regs := regs, chains := chains, pa := { u.pa with adacs := adacs }, sig := sig, lo := { u.lo with rxBad := rxBad } } = π u := by
      intros; rfl) : π s.refreshReady = π s :=
  (s.refreshReady_refreshed.keeps π hπ).trans (hπ s _ s.chains s.pa.adacs s.sig s.lo.rxBad)

/-- DRIFT goes out if no synthesiser drifts. -/
theorem State.refreshReady_drift (h : ∀ i, i < 2 → (s.syn i).drift = false) : s.refreshReady.flag R.LO_STATUS_DRIFT = false := by
  have hd : ((List.range 2).any fun i => s.synState i == synActive && (s.syn i).drift) = false := by simpa using fun i hi _ => h i hi
  rw [State.flag_congr (s.refreshReady_refreshed.get .above)]
  exact (State.flag_put s _).trans hd

theorem State.refreshReady_synState (i : Nat) : s.refreshReady.synState i = s.synState i :=
  ((State.LoKept.refl _).refreshed s.refreshReady_refreshed).synState i |>.trans (State.get_put_apart s _ (by
    unfold synField
    split
    · exact .below
    · exact .below))

end
end Sys2Proof.Machine
end

section
/-! The switch-over of synthesisers, its transient, and the relock of a quadrant (R101, R103, R107, R110, R115, R116, R125). -/

namespace Sys2Proof.Machine

/-! ### The synthesiser and divider of a quadrant -/

section
variable (s : State)

/-- Bringing LO_READY up to date leaves what says which synthesiser serves, but for DRIFT. -/
theorem State.refreshReady_key {g : Field} (hg : LoKey g) (hd : R.LO_STATUS_DRIFT.Apart g) : s.refreshReady.get g = s.get g :=
  s.refreshReady_get (LoFree.ready g hg) hd hg.quiet (decide_eq_true (by have := hg.addr; omega))

theorem synField_addr (i : Nat) : (synField i).addr = R.LO_STATUS := by
  unfold synField
  split <;> rfl

theorem synField_fits (i : Nat) : (synField i).fits = true := by
  unfold synField
  split <;> rfl

theorem synField_width (i : Nat) : (synField i).width = 3 := by
  unfold synField
  split <;> rfl

theorem State.synState_setSyn (i : Nat) {st : Nat} (h : st < 8) : (s.setSyn i st).synState i = st := by
  refine (State.get_put s st (synField_fits i)).trans ?_
  rw [synField_width]
  exact Nat.mod_eq_of_lt h

theorem synField_apart_cfg (i : Nat) {q : Nat} {g : Field} (hg : g.addr = R.QLO_CFG q) : (synField i).Apart g := by
  refine .inl ?_
  simp only [hg, synField_addr, R.QLO_CFG, R.LO_STATUS]
  omega

end

/-- The LO of a quadrant comes into force. -/
def LoX.lit (q : Nat) (x : LoX) : LoX := { x with hasLo := setBit x.hasLo q true, failHold := setBit x.failHold q false }

/-- A turn of a switch-over: that of one quadrant. -/
def State.switchQuad (i : Nat) (divs : List Nat) (q : Nat) (s : State) : State :=
  let s := (s.put (R.QLO_CFG_DIV q) (divs.getD q 0)).put (R.QLO_CFG_SRC q) i
  let b := bandOf (s.loCode q)
  let moved := s.get (R.CH_STATUS_BAND (16 * q)) ≠ b
  let s := doIf moved (fun s => (s.setBand q b).modLo fun x =>
    { x with settleEnd := updAt x.settleEnd q fun _ => some (s.now + 492) }) s
  let s := s.modLo (LoX.lit q)
  let s := doIf (!s.quadGated q) (fun s => s.raiseBit R.LO_STATUS_QLO_LOCK q) s
  (s.setNcoQuad q).markCaptures q

theorem State.switchQuads_eq (s : State) (qs : List Nat) (i : Nat) (divs : List Nat) : s.switchQuads qs i divs =
    ((doIf (!(forAll qs (State.switchQuad i divs) s).split) (fun s => forAll (List.range 4) (fun q s => s.put (R.QLO_CFG_SRC q) i) s)
      (forAll qs (State.switchQuad i divs) s)).setSyn i synActive).refreshReady := rfl

section
variable {s0 s : State} {q : Nat}

/-- An update of the LO system's own state that loses no LO in force. -/
theorem State.LoKept.modLo {f : LoX → LoX} (h : s0.LoKept s) (h0 : ∀ k, s.lo.hasLo.testBit k = true → (f s.lo).hasLo.testBit k = true)
    (h1 : (f s.lo).tune = s.lo.tune := by rfl) (h2 : (f s.lo).waiting = s.lo.waiting := by rfl) (h3 : (f s.lo).syns = s.lo.syns := by rfl) :
    s0.LoKept (s.modLo f) :=
  h.trans ⟨rfl, h1, h2, h3, h0, .same (.refl s) (State.modLo_regs ..)⟩

theorem State.LoKept.lit (h : s0.LoKept s) : s0.LoKept (s.modLo (LoX.lit q)) :=
  h.modLo fun k hk => by
    rw [LoX.lit, setBit_testBit, hk, ite_self]

theorem State.tuned_lit (s : State) : (s.modLo (LoX.lit q)).tuned q = true := by
  rw [State.tuned, State.modLo_lo, LoX.lit, setBit_testBit, if_pos rfl]

theorem State.src_put_other (s : State) {i k : Nat} (h : k ≠ q) : (s.put (R.QLO_CFG_SRC k) i).src q = s.src q := by
  rw [State.src, State.get_put_apart s i (.inl (by simp only [R.QLO_CFG_SRC, R.QLO_CFG]; omega)), State.src]

theorem State.tuned_put (s : State) (f : Field) (v : Nat) : (s.put f v).tuned q = s.tuned q := by
  rw [State.tuned, State.put_lo, State.tuned]

/-- The band paths of a quadrant move, and settle 492 cycles later. -/
theorem State.LoKept.moveBand {b n : Nat} (h : s0.LoKept s) : s0.LoKept ((s.setBand q b).modLo fun x =>
    { x with settleEnd := updAt x.settleEnd q fun _ => some n }) :=
  .modLo (.shown h (s.setBand_shown b) fun _ hf => hf.loFree) fun _ hk => hk

theorem State.get_put_div (s : State) (v : Nat) : (s.put (R.QLO_CFG_DIV q) v).get (R.QLO_CFG_DIV q) = v % 8 := State.get_put s v

theorem State.src_put (s : State) {i : Nat} (hi : i < 2) : (s.put (R.QLO_CFG_SRC q) i).src q = i :=
  (State.get_put s i).trans (Nat.mod_eq_of_lt (b := 2 ^ 1) hi)

/-- The turn of a quadrant sets its divider and source and puts its LO in force; the rest of what it does leaves them. -/
theorem State.switchQuad_kept (s : State) (i : Nat) (divs : List Nat) (hq : q < 4) :
    ((s.put (R.QLO_CFG_DIV q) (divs.getD q 0)).put (R.QLO_CFG_SRC q) i).LoKept (State.switchQuad i divs q s) ∧
      (State.switchQuad i divs q s).tuned q = true := by
  unfold State.switchQuad
  extract_lets s1 b moved s2 s3 s4
  have h2 : s1.LoKept s2 := .doIf (.refl s1) fun _ h => .moveBand h
  have h3 : s1.LoKept s3 := h2.lit
  have h4 : s3.LoKept s4 := .doIf (.refl s3) fun _ h => .put h (.of_status (by decide) (.inl (by decide))) rfl
  have h5 : s3.LoKept ((s4.setNcoQuad q).markCaptures q) :=
    .shown (.shown h4 (s4.setNcoQuad_shown hq) fun _ hf => hf.loFree) (State.markCaptures_shown _) fun _ hf => hf.loFree
  exact ⟨h3.trans h5, h5.tuned q s2.tuned_lit⟩

/-- From `s0` on time, TUNE, the synthesisers' own state and the mode stay; no LO in force is lost. -/
structure State.Switching (s0 s : State) : Prop where
  now : s.now = s0.now
  tune : s.lo.tune = s0.lo.tune
  syns : s.lo.syns = s0.lo.syns
  tuned : ∀ q, s0.tuned q = true → s.tuned q = true
  split : s.split = s0.split

theorem State.Switching.refl (s : State) : s.Switching s := ⟨rfl, rfl, rfl, fun _ h => h, rfl⟩

theorem State.Switching.trans {t : State} (h : s0.Switching s) (k : s.Switching t) : s0.Switching t :=
  ⟨k.now.trans h.now, k.tune.trans h.tune, k.syns.trans h.syns, fun q hq => k.tuned q (h.tuned q hq), k.split.trans h.split⟩

theorem State.Switching.kept {t : State} (h : s0.Switching s) (k : s.LoKept t) : s0.Switching t :=
  ⟨k.now.trans h.now, k.tune.trans h.tune, k.syns.trans h.syns, fun q hq => k.tuned q (h.tuned q hq), (k.flag .mode).trans h.split⟩

theorem State.Switching.put {f : Field} {v : Nat} (h : s0.Switching s) (hf : f.Apart R.LO_CTRL_MODE) (w : f.fits = true := by rfl) :
    s0.Switching (s.put f v) :=
  ⟨h.now, h.tune, h.syns, h.tuned, (State.flag_put_apart s v hf w).trans h.split⟩

theorem cfg_apart_mode {f : Field} (hf : f.addr = R.QLO_CFG q) : f.Apart R.LO_CTRL_MODE :=
  .inl (by simp only [hf, R.LO_CTRL_MODE, R.LO_CTRL, R.QLO_CFG]; omega)

theorem cfg_apart_cfg {k : Nat} {f g : Field} (h : k ≠ q) (hf : f.addr = R.QLO_CFG k) (hg : g.addr = R.QLO_CFG q) : f.Apart g :=
  .inl (by simp only [hf, hg, R.QLO_CFG]; omega)

theorem State.Switching.switchQuad {i : Nat} {divs : List Nat} (h : s0.Switching s) (hq : q < 4) : s0.Switching (State.switchQuad i divs q s) :=
  .kept (.put (.put h (cfg_apart_mode rfl)) (cfg_apart_mode rfl)) (s.switchQuad_kept i divs hq).1

end

section
variable (s : State) {i : Nat}

theorem State.refreshReady_switching : s.Switching s.refreshReady :=
  .kept (.put (.refl _) .below) (.refreshed (.refl _) s.refreshReady_refreshed)

theorem State.refreshReady_cfg {q : Nat} {g : Field} (hk : LoKey g) (hg : g.addr = R.QLO_CFG q) : s.refreshReady.get g = s.get g :=
  s.refreshReady_key hk (.inl (by simp only [hg, R.QLO_CFG, R.LO_STATUS_DRIFT, R.LO_STATUS]; omega))

/-- Every quadrant is given a source. -/
def State.serveAll (i : Nat) (s : State) : State := forAll (List.range 4) (fun q s => s.put (R.QLO_CFG_SRC q) i) s

theorem State.serveAll_spec (hi : i < 2) : s.Switching (s.serveAll i) ∧ (∀ q, q < 4 → (s.serveAll i).src q = i) ∧
    ∀ q, (s.serveAll i).tuned q = s.tuned q ∧ (s.serveAll i).get (R.QLO_CFG_DIV q) = s.get (R.QLO_CFG_DIV q) := by
  unfold State.serveAll
  refine ⟨forAll_keeps _ _ _ (fun q _ t ht => .put ht (cfg_apart_mode rfl)) s (.refl s), fun q hq => ?_, fun q => ?_⟩
  · exact forAll_reaches (fun _ => True) (fun t => t.src q = i) _ (fun q s => s.put (R.QLO_CFG_SRC q) i) (List.mem_range.2 hq)
      (fun _ _ _ h => h) (fun t _ => t.src_put hi) (fun k _ hk t _ ht => (t.src_put_other hk).trans ht) s trivial
  · refine forAll_keeps (fun t => t.tuned q = s.tuned q ∧ t.get (R.QLO_CFG_DIV q) = s.get (R.QLO_CFG_DIV q)) _ _
      (fun k _ t ht => ⟨(t.tuned_put _ _).trans ht.1, (State.get_put_apart t i ?_).trans ht.2⟩) s ⟨Eq.refl _, Eq.refl _⟩
    by_cases e : k = q
    · subst e
      exact .below
    · exact cfg_apart_cfg e rfl rfl

/-- A synthesiser becomes ACTIVE: nothing else of the LO system's changes. -/
theorem State.setSyn_spec : s.Switching (s.setSyn i synActive) ∧ (s.setSyn i synActive).synState i = synActive ∧
    ∀ q, (s.setSyn i synActive).tuned q = s.tuned q ∧ ∀ g : Field, g.addr = R.QLO_CFG q → (s.setSyn i synActive).get g = s.get g := by
  have h := s.synState_setSyn i (st := synActive) (by decide)
  rw [State.setSyn] at h ⊢
  exact ⟨.put (.refl s) (.inl (by rw [synField_addr]; decide)) (synField_fits i), h,
    fun q => ⟨s.tuned_put _ _, fun _ hg => State.get_put_apart s _ (synField_apart_cfg i hg) (synField_fits i)⟩⟩

end

section
variable (s : State) {qs : List Nat} {i : Nat} (divs : List Nat) (hqs : ∀ q ∈ qs, q < 4)
include hqs

/-- The turns of a switch-over: each of its quadrants has its divider and an LO in force. -/
theorem State.switchTurns_spec : s.Switching (forAll qs (State.switchQuad i divs) s) ∧ ∀ q ∈ qs,
    (forAll qs (State.switchQuad i divs) s).tuned q = true ∧
      (forAll qs (State.switchQuad i divs) s).get (R.QLO_CFG_DIV q) = divs.getD q 0 % 8 := by
  refine ⟨forAll_keeps _ _ _ (fun q hq t ht => .switchQuad ht (hqs q hq)) s (.refl s), fun q hq => ?_⟩
  refine forAll_reaches (fun _ => True) (fun t => t.tuned q = true ∧ t.get (R.QLO_CFG_DIV q) = divs.getD q 0 % 8) _ _ hq
    (fun _ _ _ h => h) (fun t _ => ?_) (fun k hk hkq t _ ht => ?_) s trivial
  · obtain ⟨h1, h2⟩ := t.switchQuad_kept i divs (hqs q hq)
    exact ⟨h2, (h1.get (.div q (hqs q hq))).trans ((State.get_put_apart _ i .below).trans (t.get_put_div _))⟩
  · obtain ⟨h1, -⟩ := t.switchQuad_kept i divs (hqs k hk)
    refine ⟨h1.tuned q (by rw [State.tuned_put, State.tuned_put, ht.1]), (h1.get (.div q (hqs q hq))).trans (Eq.trans ?_ ht.2)⟩
    exact (State.get_put_apart _ i (cfg_apart_cfg hkq rfl rfl)).trans (State.get_put_apart t _ (cfg_apart_cfg hkq rfl rfl))

/-- In PINGPONG the synthesiser switched to serves every quadrant and is ACTIVE (R103). -/
theorem State.switchQuads_spec (hi : i < 2) (hs : s.split = false) : ∃ t, s.switchQuads qs i divs = t ∧
    s.Switching t ∧ (∀ q, q < 4 → t.src q = i) ∧ t.synState i = synActive ∧
      ((∀ k, k < 2 → (s.syn k).drift = false) → t.flag R.LO_STATUS_DRIFT = false) ∧
      ∀ q ∈ qs, t.tuned q = true ∧ t.get (R.QLO_CFG_DIV q) = divs.getD q 0 % 8 := by
  obtain ⟨u1, u2⟩ := s.switchTurns_spec (i := i) divs hqs
  have he : s.switchQuads qs i divs = (((forAll qs (State.switchQuad i divs) s).serveAll i).setSyn i synActive).refreshReady := by
    rw [State.switchQuads_eq, u1.split, hs, Bool.not_false, doIf_true, State.serveAll]
  rw [he]
  generalize forAll qs (State.switchQuad i divs) s = u at *
  obtain ⟨w1, w2, w3⟩ := u.serveAll_spec hi
  generalize u.serveAll i = w at *
  obtain ⟨x1, x2, x3⟩ := w.setSyn_spec (i := i)
  generalize w.setSyn i synActive = x at *
  have hx : s.Switching x := (u1.trans w1).trans x1
  have hr := x.refreshReady_switching
  refine ⟨_, Eq.refl _, hx.trans hr, fun q hq => ?_, (x.refreshReady_synState i).trans x2, fun hd => x.refreshReady_drift fun k hk => ?_,
    fun q hq => ⟨hr.tuned q ?_, ?_⟩⟩
  · exact (x.refreshReady_cfg (.src q hq) rfl).trans (((x3 q).2 _ rfl).trans (w2 q hq))
  · rw [State.syn, hx.syns, ← State.syn, hd k hk]
  · rw [(x3 q).1, (w3 q).1, (u2 q hq).1]
  · rw [x.refreshReady_cfg (.div q (hqs q hq)) rfl, (x3 q).2 _ rfl, (w3 q).2, (u2 q hq).2]

end
end Sys2Proof.Machine
end

section
namespace Sys2Proof.Machine

/-! ### SWITCH_OVER -/

/-- A TUNE's switch-over begins: its synthesiser calibrates no more, and the transient runs from here. -/
def State.switchStart (s : State) (t : Tune) (c : Nat) : State :=
  let s := s.advanceTo c
  let s := s.modSyn t.syn fun x => { x with calAt := none, job := .none }
  s.modLo fun x => { x with tune := some { t with phase := .transient, doneAt := s.now } }

/-- The quadrants that a TUNE switches. -/
def State.switchSet (s : State) (t : Tune) : List Nat := (List.range 4).filter fun q => t.qmask.testBit q || s.tuned q

/-- The cycle from which a TUNE may switch over: its AT_EN frame. -/
def State.switchFrom (s : State) (t : Tune) : Nat := if t.atEn then (s.frameStart (frameFrom t.goFrame t.frame)).toNat else 0

section
variable (s : State) {t : Tune} {c : Nat}

theorem State.switchStart_spec : (s.switchStart t c).regs = s.regs ∧ (s.switchStart t c).now = max s.now c ∧
    (s.switchStart t c).lo.tune = some { t with phase := .transient, doneAt := max s.now c } ∧
    ∀ i, ((s.switchStart t c).syn i).drift = (s.syn i).drift := by
  refine ⟨rfl, rfl, rfl, fun i => ?_⟩
  have h : (s.switchStart t c).lo.syns = updAt s.lo.syns t.syn fun x => { x with calAt := none, job := .none } := rfl
  rw [State.syn, h, getD_updAt, State.syn]
  split <;> rfl

theorem State.switchOver_tune (ht : s.lo.tune = some t) (hp : t.phase = .boundary) (hr : s.synState t.syn = synReady)
    (hf : s.findSwitch (s.switchSet t) (s.bandMoves (s.switchSet t) t.code) (s.switchFrom t) 4096
      (max (max (s.now - 1) (s.switchFrom t - 1)) ((s.syn t.syn).calAt.getD 0)) = some c) (hc : c ≤ s.tuneDeadline t) :
    ∃ late, s.switchOver =
      (doIf late (fun s => s.event (.loApplyLate s.sfn)) ((s.switchStart t c).switchQuads (s.switchSet t) t.syn t.divs)).showTune := by
  unfold State.switchOver
  rw [ht]
  simp only [hp, hr, BEq.rfl, Bool.and_self, if_true]
  simp only [State.switchSet, State.switchFrom] at hf
  rw [hf]
  simp only [if_pos hc]
  exact ⟨_, Eq.refl _⟩

theorem State.switchOver_none (h : ∀ t, s.lo.tune = some t → t.phase ≠ .boundary) (hn : s.lo.tune = none → s.lo.swapPend = false) :
    s.switchOver = s := by
  unfold State.switchOver
  split
  · next t ht => rw [if_neg (by simp [h t ht])]
  · next ht => rw [if_neg (by simp [hn ht])]

theorem State.calSwitched_none (h : s.cal.job = none) : s.calSwitched [] = s := by
  have e : forAll [] State.chooseFp s = s := rfl
  unfold State.calSwitched
  simp only [e, h]

end

theorem mem_switchSet {s : State} {t : Tune} {q : Nat} (hq : q < 4) (h : t.qmask.testBit q = true) : q ∈ s.switchSet t := by
  simp [State.switchSet, hq, h]

theorem exec_switchOver_none (s : State) (h : ∀ t, s.lo.tune = some t → t.phase ≠ .boundary)
    (hn : s.lo.tune = none → s.lo.swapPend = false) (hj : s.cal.job = none) : exec .switchOver s = .next s := by
  show execSwitchOver s = _
  unfold execSwitchOver
  rw [s.switchOver_none h hn]
  have he : ((List.range 4).filter fun q => s.loCode q ≠ s.loCode q || s.src q ≠ s.src q) = [] := by simp
  extract_lets t
  rw [show t = s from rfl, he, s.calSwitched_none hj]

/-- SWITCH_OVER of a TUNE (R101, R103, R107). -/
theorem exec_switchOver_tune (s : State) {t : Tune} {c : Nat} (ht : s.lo.tune = some t) (hp : t.phase = .boundary) (hi : t.syn < 2)
    (hs : s.split = false) (hr : s.synState t.syn = synReady)
    (hf : s.findSwitch (s.switchSet t) (s.bandMoves (s.switchSet t) t.code) (s.switchFrom t) 4096
      (max (max (s.now - 1) (s.switchFrom t - 1)) ((s.syn t.syn).calAt.getD 0)) = some c) (hc : c ≤ s.tuneDeadline t) :
    ∃ u : State, exec .switchOver s = .next u ∧ u.now = max s.now c ∧
      u.lo.tune = some { t with phase := .transient, doneAt := max s.now c } ∧ (∀ q, q < 4 → u.src q = t.syn) ∧
      u.synState t.syn = synActive ∧ ((∀ i, i < 2 → (s.syn i).drift = false) → u.flag R.LO_STATUS_DRIFT = false) ∧
      ∀ q, q < 4 → t.qmask.testBit q = true → u.tuned q = true ∧ u.get (R.QLO_CFG_DIV q) = t.divs.getD q 0 % 8 := by
  obtain ⟨late, hw⟩ := s.switchOver_tune ht hp hr hf hc
  obtain ⟨v1, v2, v3, v4⟩ := s.switchStart_spec (t := t) (c := c)
  generalize s.switchStart t c = v at *
  obtain ⟨w, he, w1, w2, w3, w4, w5⟩ := v.switchQuads_spec t.divs (qs := s.switchSet t) (i := t.syn)
    (fun q hq => List.mem_range.1 (List.mem_filter.1 hq).1) hi ((State.flag_congr (State.get_congr v1 _)).trans hs)
  rw [he] at hw
  have hk : w.LoKept s.switchOver := by
    rw [hw]
    exact .showTune (.doIf (.refl w) fun _ h => .event h)
  have hu : ∃ u, exec .switchOver s = .next u ∧ w.LoKept u :=
    ⟨_, rfl, .calSwitched hk fun q hq => List.mem_range.1 (List.mem_filter.1 hq).1⟩
  obtain ⟨u, hx, hu⟩ := hu
  refine ⟨u, hx, ?_, ?_, fun q hq => (hu.get (.src q hq)).trans (w2 q hq), (hu.synState t.syn).trans w3, fun hd => ?_, fun q hq hm => ?_⟩
  · rw [hu.now, w1.now, v2]
  · rw [hu.tune, w1.tune, v3]
  · exact (hu.flag .drift).trans (w4 fun k hk => (v4 k).trans (hd k hk))
  · obtain ⟨h1, h2⟩ := w5 q (mem_switchSet hq hm)
    exact ⟨hu.tuned q h1, (hu.get (.div q hq)).trans h2⟩

/-! ### The end of the transient -/

section
variable (s : State) {t : Tune}

theorem State.startWaiting_none (h : s.lo.waiting = none) : s.startWaiting = s.showTune := by
  unfold State.startWaiting
  rw [h]
  split
  · next hw => exact absurd hw (by simp)
  · rfl

/-- The former active enters READY. -/
def State.readySyn (i : Nat) (s : State) : State := doIf (s.synState i == synActive) (fun s => s.setSyn i synReady) s

theorem State.readySyn_spec {i : Nat} (hi : i < 2) : (s.readySyn (1 - i)).now = s.now ∧ (s.readySyn (1 - i)).lo = s.lo ∧
    (s.synState (1 - i) = synActive → (s.readySyn (1 - i)).synState (1 - i) = synReady) ∧
    (s.readySyn (1 - i)).synState i = s.synState i := by
  unfold State.readySyn
  refine doIf_cases (fun u => u.now = s.now ∧ u.lo = s.lo ∧ (s.synState (1 - i) = synActive → u.synState (1 - i) = synReady) ∧
    u.synState i = s.synState i) (fun _ => ⟨rfl, rfl, fun _ => s.synState_setSyn _ (by decide), ?_⟩) fun hb => ⟨rfl, rfl, fun h => ?_, rfl⟩
  · exact State.get_put_apart s _ (synField_apart hi) (synField_fits _)
  · simp [h] at hb

theorem State.transientEnd_tune (h : s.lo.tune = some t) (hp : t.phase = .transient) :
    s.transientEnd = (((s.advanceTo (t.doneAt + 24)).readySyn (1 - t.syn)).finishTune .ok).startWaiting := by
  unfold State.transientEnd
  rw [h]
  simp only [hp, BEq.rfl, if_true]
  rfl

theorem State.transientEnd_none (h : ∀ t, s.lo.tune = some t → t.phase ≠ .transient) (hn : s.lo.tune = none → s.lo.swapAt = none) :
    s.transientEnd = s := by
  unfold State.transientEnd
  extract_lets
  split
  · next t ht => rw [if_neg (by simp [h t ht])]
  · next ht => rw [hn ht]

/-- A TUNE closes: none is in progress, and RESULT reads its status. -/
def State.tuneClosed (s : State) (st : Status) : State := (s.modLo fun x => { x with tune := none }).put R.TUNE_CMD_RESULT (statusCode st)

theorem State.finishTune_closed (st : Status) (h : s.lo.tune = some t) : ∃ done,
    s.finishTune st = ((s.tuneClosed st).completeJob t.cmd st done).showTune := by
  unfold State.finishTune
  rw [h]
  exact ⟨_, rfl⟩

theorem State.tuneClosed_spec : (s.tuneClosed .ok).now = s.now ∧ (s.tuneClosed .ok).lo.tune = none ∧
    (s.tuneClosed .ok).lo.waiting = s.lo.waiting ∧ (s.tuneClosed .ok).get R.TUNE_CMD_RESULT = 0 ∧
    ∀ i, (s.tuneClosed .ok).synState i = s.synState i := by
  unfold State.tuneClosed
  refine ⟨by rw [State.put_now, State.modLo_now], by rw [State.put_lo, State.modLo_lo], by rw [State.put_lo, State.modLo_lo],
    (State.get_put _ (statusCode .ok)).trans (by decide), fun i => ?_⟩
  have h1 : (s.modLo fun x => { x with tune := none }).synState i = s.synState i := State.get_congr (State.modLo_regs ..) _
  refine Eq.trans ?_ h1
  generalize s.modLo _ = u
  exact State.get_put_apart u _ (.inl (by rw [synField_addr]; decide))

/-- A TUNE that ends with nothing waiting leaves RESULT, and no TUNE. -/
theorem State.finishTune_spec (h : s.lo.tune = some t) (hw : s.lo.waiting = none) : ∃ u, (s.finishTune .ok).startWaiting = u ∧
    u.now = s.now ∧ u.lo.tune = none ∧ u.get R.TUNE_CMD_RESULT = 0 ∧ ∀ i, u.synState i = s.synState i := by
  obtain ⟨done, he⟩ := s.finishTune_closed .ok h
  obtain ⟨l1, l2, l3, l4, l5⟩ := s.tuneClosed_spec
  rw [he]
  generalize s.tuneClosed .ok = v at *
  have hv : v.LoKept (v.completeJob t.cmd .ok done).showTune := .showTune (.completeJob (.refl v))
  rw [State.startWaiting_none _ (hv.waiting.trans (l3.trans hw))]
  have hu := hv.showTune
  exact ⟨_, Eq.refl _, hu.now.trans l1, hu.tune.trans l2, (hu.get .result).trans l4, fun i => (hu.synState i).trans (l5 i)⟩

end

/-- SWITCH_OVER_TRANSIENT_END of a TUNE behind which none waits (R103, R107). -/
theorem exec_transientEnd_tune (s : State) {t : Tune} (h : s.lo.tune = some t) (hp : t.phase = .transient) (hi : t.syn < 2)
    (hw : s.lo.waiting = none) : ∃ u : State, exec .switchOverTransientEnd s = .next u ∧ u.now = max s.now (t.doneAt + 24) ∧
      u.lo.tune = none ∧ u.get R.TUNE_CMD_RESULT = 0 ∧ (s.synState (1 - t.syn) = synActive → u.synState (1 - t.syn) = synReady) ∧
      u.synState t.syn = s.synState t.syn := by
  obtain ⟨v1, v2, v3, v4⟩ := (s.advanceTo (t.doneAt + 24)).readySyn_spec hi
  have he := s.transientEnd_tune h hp
  generalize (s.advanceTo (t.doneAt + 24)).readySyn (1 - t.syn) = v at *
  obtain ⟨u, hu, u1, u2, u3, u4⟩ := v.finishTune_spec (t := t) (by rw [v2]; exact h) (by rw [v2]; exact hw)
  exact ⟨u, congrArg Host.Outcome.next (he.trans hu), u1.trans v1, u2, u3, fun ha => (u4 _).trans (v3 ha), (u4 _).trans v4⟩

/-! ### Band settling -/

/-- The band paths of a quadrant have settled. -/
def State.settledAt (s : State) (q c : Nat) : State :=
  (s.advanceTo c).modLo fun x => { x with settleEnd := updAt x.settleEnd q fun _ => none }

theorem State.bandSettled_eq (s : State) {q c : Nat} (h : s.lo.settleEnd.getD q none = some c) :
    s.bandSettled q = (s.settledAt q c).refreshReady.endRetune := by
  unfold State.bandSettled
  rw [h]
  rfl

theorem State.endRetune_none (s : State) (h : s.lo.tune = none) : s.endRetune = s := by
  unfold State.endRetune
  rw [h]

/-- BAND_SETTLE_DONE without a TUNE: LO_READY follows (R56, R110). -/
theorem exec_bandSettleDone_spec (s : State) {q c : Nat} (hq : q < 4) (hl : s.lo.settleEnd.length = 4)
    (h : s.lo.settleEnd.getD q none = some c) (ht : s.lo.tune = none) : ∃ u : State, exec (.bandSettleDone q) s = .next u ∧
      u.now = max s.now c ∧ u.lo.settleEnd.getD q none = none ∧
      (∀ k, k < 4 → u.fbit R.LO_STATUS_LO_READY k = u.loReadyNow k) ∧ u.mem = s.mem := by
  have he := s.bandSettled_eq h
  have hv : (s.settledAt q c).now = max s.now c ∧ (s.settledAt q c).lo.tune = none ∧
    (s.settledAt q c).lo.settleEnd = updAt s.lo.settleEnd q (fun _ => none) ∧ (s.settledAt q c).mem = s.mem := ⟨rfl, ht, rfl, rfl⟩
  generalize s.settledAt q c = v at *
  obtain ⟨v1, v2, v3, v4⟩ := hv
  rw [State.endRetune_none _ ((v.refreshReady_keeps (·.lo.tune)).trans v2)] at he
  refine ⟨v.refreshReady, congrArg Host.Outcome.next he, (v.refreshReady_keeps State.now).trans v1, ?_,
    fun k hk => v.refreshReady_ready hk, (v.refreshReady_keeps State.mem).trans v4⟩
  rw [v.refreshReady_keeps (·.lo.settleEnd), v3]
  exact getD_updAt_same _ none (hl.symm ▸ hq)

theorem exec_bandSettleDone_none (s : State) {q : Nat} (h : s.lo.settleEnd.getD q none = none) : exec (.bandSettleDone q) s = .next s := by
  show execBandSettleDone q s = _
  unfold execBandSettleDone State.bandSettled
  rw [h]

end Sys2Proof.Machine
end

section
namespace Sys2Proof.Machine

/-! ### The relock of a quadrant -/

/-- The LO code of a quadrant reads registers of the LO block, LO_STATUS not among them. -/
theorem State.loCode_of_get {s t : State} (h : ∀ g : Field, g.addr / 2 ^ 20 = 0x110 → g.addr ≠ R.LO_STATUS → t.get g = s.get g) {q : Nat}
    (hq : q < 4) : t.loCode q = s.loCode q := by
  have hc : ∀ g : Field, g.addr = R.QLO_CFG q → t.get g = s.get g := fun g e =>
    h g (by simp only [e, R.QLO_CFG]; omega) (by simp only [e, R.QLO_CFG, R.LO_STATUS]; omega)
  unfold State.loCode State.synNF
  rw [hc (R.QLO_CFG_SRC q) rfl, hc (R.QLO_CFG_DIV q) rfl, h R.SYN_N_SYNA_N rfl (by decide), h R.SYN_N_SYNB_N rfl (by decide),
    h R.SYNA_F_F rfl (by decide), h R.SYNB_F_F rfl (by decide)]

theorem bandOf_lt (code : Nat) : bandOf code < 4 := by
  unfold bandOf
  split
  · decide
  · split <;> decide

theorem OutputField.apart_band {f : Field} (h : OutputField f) (ch : Nat) : f.Apart (R.CH_STATUS_BAND ch) := by
  cases h <;> simp only [Field.Apart, R.CH_STATUS_TX_HELD, R.CH_STATUS_TX_LIVE, R.CH_STATUS, R.TXON_LIVE_TXON, R.TXON_LIVE,
    R.ADAC_CODE_NOW, R.ADAC_CODE, R.CH_STATUS_BAND] <;> omega

/-- A band path follows neither LO_READY nor the outputs. -/
theorem State.refreshReady_band (s : State) {ch : Nat} (hc : ch < 64) : s.refreshReady.get (R.CH_STATUS_BAND ch) = s.get (R.CH_STATUS_BAND ch) := by
  have ha : (R.CH_STATUS_BAND ch).addr < R.LO_STATUS := by simp only [R.CH_STATUS_BAND, R.CH_STATUS, R.LO_STATUS]; omega
  refine (s.refreshReady_refreshed.writes.get _ fun f hf => ?_).trans (State.get_put_apart s _ (.inl (Nat.ne_of_lt ha)))
  cases hf with
  | ready => exact .inl (Nat.ne_of_lt ha)
  | mark h => exact .inl (by have := h.addr; simp only [R.LO_STATUS] at ha; omega)
  | output h => exact h.apart_band ch

/-- The converter PLL of a quadrant relocks, and its QLO is asked for no more. -/
def State.convUp (q : Nat) (s : State) : State :=
  (s.modLo fun x => { x with relockQ := setBit x.relockQ q false }).raiseBit R.DFE_STATUS_CONV_LOCK q

/-- The QLO of a quadrant locks, and its band path follows. -/
def State.lockQuad (q : Nat) (s : State) : State := (s.raiseBit R.LO_STATUS_QLO_LOCK q).setBand q (bandOf (s.loCode q))

section
variable (s : State) {q : Nat}

theorem State.fbit_raiseBit {f : Field} (hq : q < f.width) (h : f.fits = true := by rfl) : (s.raiseBit f q).fbit f q = true :=
  (State.fbit_putBit s f q q true hq h).trans (if_pos rfl)

theorem State.quadRelock_off (h : s.radioPowered = false ∨ s.quadGated q = true) : s.quadRelock q = s := by
  unfold State.quadRelock
  rw [if_neg (by rcases h with h | h <;> simp [h])]

theorem State.quadRelock_on (h1 : s.radioPowered = true) (h2 : s.quadGated q = false) : s.quadRelock q =
    ((doIf ((s.convUp q).synState ((s.convUp q).src q) == synActive && (s.convUp q).tuned q) (State.lockQuad q)
      (s.convUp q)).setNcoQuad q).refreshReady := by
  unfold State.quadRelock
  rw [if_pos (by simp [h1, h2])]
  rfl

theorem State.convUp_spec (hq : q < 4) : (s.convUp q).fbit R.DFE_STATUS_CONV_LOCK q = true ∧
    (s.convUp q).lo = { s.lo with relockQ := setBit s.lo.relockQ q false } ∧
    ∀ g : Field, R.DFE_STATUS_CONV_LOCK.Apart g → (s.convUp q).get g = s.get g := by
  have hm : (s.modLo fun x => { x with relockQ := setBit x.relockQ q false }).lo = { s.lo with relockQ := setBit s.lo.relockQ q false } :=
    State.modLo_lo ..
  have hr : (s.modLo fun x => { x with relockQ := setBit x.relockQ q false }).regs = s.regs := State.modLo_regs ..
  unfold State.convUp
  generalize s.modLo _ = u at *
  exact ⟨u.fbit_raiseBit hq, hm, fun g hg => (State.get_put_apart u _ hg).trans (State.get_congr hr g)⟩

theorem State.lockQuad_spec (hq : q < 4) : (s.lockQuad q).fbit R.LO_STATUS_QLO_LOCK q = true ∧
    (∀ ch, quadOf ch = q → (s.lockQuad q).get (R.CH_STATUS_BAND ch) = bandOf (s.loCode q)) ∧ (s.lockQuad q).lo = s.lo ∧
    ∀ g : Field, 0x11100000 ≤ g.addr → (s.lockQuad q).get g = s.get g := by
  have h1 : (s.raiseBit R.LO_STATUS_QLO_LOCK q).fbit R.LO_STATUS_QLO_LOCK q = true := s.fbit_raiseBit hq
  have h2 : (s.raiseBit R.LO_STATUS_QLO_LOCK q).lo = s.lo := State.put_lo ..
  have h3 : ∀ g : Field, 0x11100000 ≤ g.addr → (s.raiseBit R.LO_STATUS_QLO_LOCK q).get g = s.get g := fun g hg =>
    State.get_put_apart s _ (.inl (by simp only [R.LO_STATUS_QLO_LOCK, R.LO_STATUS]; omega))
  unfold State.lockQuad
  generalize s.raiseBit R.LO_STATUS_QLO_LOCK q = u at *
  have hb := u.setBand_shown (q := q) (bandOf (s.loCode q))
  have ha : ∀ f, BandField q f → f.addr < 0x10400000 := by
    rintro f ⟨ch, hc, rfl⟩
    simp only [quadOf] at hc
    simp only [R.CH_STATUS_BAND, R.CH_STATUS]
    omega
  refine ⟨(State.fbit_congr (hb.writes.get _ fun f hf => .inl ?_) q).trans h1, fun ch hc => u.setBand_band (bandOf_lt _) hc,
    (hb.keeps State.lo).trans h2, fun g hg => (hb.writes.get _ fun f hf => .inl ?_).trans (h3 g hg)⟩
  · have := ha f hf
    simp only [R.LO_STATUS_QLO_LOCK, R.LO_STATUS]
    omega
  · have := ha f hf
    omega

/-- The QLO locks only where its synthesiser is ACTIVE and the quadrant has an LO. -/
theorem State.lockIf_spec (hq : q < 4) : ∃ x, doIf (s.synState (s.src q) == synActive && s.tuned q) (State.lockQuad q) s = x ∧ x.lo = s.lo ∧
    (∀ g : Field, 0x11100000 ≤ g.addr → x.get g = s.get g) ∧ (s.synState (s.src q) = synActive → s.tuned q = true →
      x.fbit R.LO_STATUS_QLO_LOCK q = true ∧ ∀ ch, quadOf ch = q → x.get (R.CH_STATUS_BAND ch) = bandOf (s.loCode q)) := by
  cases hb : s.synState (s.src q) == synActive && s.tuned q with
  | true =>
    obtain ⟨h1, h2, h3, h4⟩ := s.lockQuad_spec hq
    exact ⟨_, doIf_true _ _, h3, h4, fun _ _ => ⟨h1, h2⟩⟩
  | false => exact ⟨s, doIf_false _ _, rfl, fun _ _ => rfl, fun ha ht => by simp [ha, ht] at hb⟩

/-- The words of the NCOs are set and LO_READY follows: locks and band paths stay. -/
theorem State.relockShown_spec (hq : q < 4) : ∃ u, ((s.setNcoQuad q).refreshReady) = u ∧ u.lo.relockQ = s.lo.relockQ ∧
    (∀ g : Field, g = R.DFE_STATUS_CONV_LOCK ∨ g = R.LK_RING_RING ∨ g = R.LO_STATUS_QLO_LOCK → u.get g = s.get g) ∧
    (∀ ch, ch < 64 → u.get (R.CH_STATUS_BAND ch) = s.get (R.CH_STATUS_BAND ch)) ∧
    ∀ k, k < 4 → u.fbit R.LO_STATUS_LO_READY k = u.loReadyNow k := by
  have hn := s.setNcoQuad_shown hq
  have hg : ∀ g : Field, g.addr < 0x11100200 ∨ 0x11100400 ≤ g.addr → (s.setNcoQuad q).get g = s.get g := fun g hg =>
    hn.writes.get g fun f ⟨h1, h2⟩ => .inl (by omega)
  have hl : (s.setNcoQuad q).lo = s.lo := hn.keeps State.lo
  generalize s.setNcoQuad q = v at *
  refine ⟨_, Eq.refl _, (v.refreshReady_keeps (·.lo.relockQ)).trans (congrArg LoX.relockQ hl), ?_, fun ch hc => ?_,
    fun k hk => v.refreshReady_ready hk⟩
  · rintro g (rfl | rfl | rfl)
    · exact (v.refreshReady_get (.inl (by decide)) (.inl (by decide))).trans (hg _ (by decide))
    · exact (v.refreshReady_get (.inl (by decide)) (.inl (by decide))).trans (hg _ (by decide))
    · exact (v.refreshReady_get .above .below).trans (hg _ (by decide))
  · exact (v.refreshReady_band hc).trans (hg _ (.inl (by simp only [R.CH_STATUS_BAND, R.CH_STATUS]; omega)))

/-- An ungated quadrant with power locks its converter PLL, and its QLO where its synthesiser is ACTIVE and it has an LO (R116, R125). -/
theorem State.quadRelock_spec (hq : q < 4) (h1 : s.radioPowered = true) (h2 : s.quadGated q = false) : ∃ u, s.quadRelock q = u ∧
    u.fbit R.DFE_STATUS_CONV_LOCK q = true ∧ u.lo.relockQ = setBit s.lo.relockQ q false ∧
    (s.synState (s.src q) = synActive → s.tuned q = true → u.fbit R.LO_STATUS_QLO_LOCK q = true ∧
      ∀ ch, quadOf ch = q → u.get (R.CH_STATUS_BAND ch) = bandOf (s.loCode q)) ∧
    u.get R.LK_RING_RING = s.get R.LK_RING_RING ∧ ∀ k, k < 4 → u.fbit R.LO_STATUS_LO_READY k = u.loReadyNow k := by
  rw [s.quadRelock_on h1 h2]
  obtain ⟨w1, w2, w3⟩ := s.convUp_spec hq
  generalize s.convUp q = w at *
  have hlo : ∀ g : Field, g.addr / 2 ^ 20 = 0x110 → w.get g = s.get g := fun g hg =>
    w3 g (.inl (by simp only [R.DFE_STATUS_CONV_LOCK, R.DFE_STATUS]; omega))
  have hsrc : w.src q = s.src q := hlo _ (by simp only [R.QLO_CFG_SRC, R.QLO_CFG]; omega)
  have hsyn : ∀ i, w.synState i = s.synState i := fun i => hlo _ (by rw [synField_addr]; rfl)
  have htun : w.tuned q = s.tuned q := by rw [State.tuned, w2, State.tuned]
  obtain ⟨x, hx, x1, x2, x3⟩ := w.lockIf_spec hq
  rw [hsrc, hsyn, htun, State.loCode_of_get (fun g hg _ => hlo g hg) hq] at x3
  rw [hx]
  obtain ⟨u, he, u1, u2, u3, u4⟩ := x.relockShown_spec hq
  refine ⟨u, he, ?_, ?_, fun ha ht => ?_, ?_, u4⟩
  · exact (State.fbit_congr ((u2 _ (.inl rfl)).trans (x2 _ (by decide))) q).trans w1
  · rw [u1, x1, w2]
  · obtain ⟨h3, h4⟩ := x3 ha ht
    refine ⟨(State.fbit_congr (u2 _ (.inr (.inr rfl))) q).trans h3, fun ch hc => (u3 ch ?_).trans (h4 ch hc)⟩
    simp only [quadOf] at hc
    omega
  · exact (u2 _ (.inr (.inl rfl))).trans ((x2 _ (by decide)).trans (w3 _ (.inl (by decide))))

end

/-! ### The ring of the quadrant's island -/

/-- The ring of a quadrant's island failed: it shows in LK_RING and is reported (R519). -/
def State.ringFailed (q : Nat) (s : State) : State :=
  let m := 2 ^ (4 + q % 4)
  let s := s.put R.LK_RING_RING (s.get R.LK_RING_RING ||| m)
  (s.report (mkReport 0x02 .clsU 0x0010 m)).eventAll (.retentionLost (List.replicate 16 0 ++ beBytes 2 m ++ beBytes 2 0))

theorem exec_quadrantRelock (q : Nat) (bad : Bool) (s : State) :
    exec (.quadrantRelock q bad) s = .next ((doIf bad (State.ringFailed q) s).quadRelock q).moveCheck := rfl

theorem State.Alarmed.eventAll {s0 s : State} {e : Event} (h : s0.Alarmed s) : s0.Alarmed (s.eventAll e) := by
  have hs : s.Sent (s.eventAll e) := by
    unfold State.eventAll
    exact .forAll (.refl s) fun _ hx _ k => .putEvent k (List.mem_range.1 (List.mem_filter.1 hx).1)
  exact h.trans hs.alarmed

section
variable (s : State) {q : Nat}

theorem State.ringFailed_spec (hq : q < 4) : (s.ringFailed q).lo = s.lo ∧ (s.ringFailed q).pw = s.pw ∧
    (∀ g : Field, quietBlock (g.addr / 2 ^ 20) = true → R.LK_RING_RING.Apart g → (s.ringFailed q).get g = s.get g) ∧
    (s.ringFailed q).fbit R.LK_RING_RING (4 + q) = true := by
  have hv : (s.put R.LK_RING_RING (s.get R.LK_RING_RING ||| 2 ^ (4 + q % 4))).lo = s.lo ∧
      (s.put R.LK_RING_RING (s.get R.LK_RING_RING ||| 2 ^ (4 + q % 4))).pw = s.pw := ⟨State.put_lo .., State.put_pw ..⟩
  have hg : ∀ g : Field, R.LK_RING_RING.Apart g →
      (s.put R.LK_RING_RING (s.get R.LK_RING_RING ||| 2 ^ (4 + q % 4))).get g = s.get g := fun g hg => State.get_put_apart s _ hg
  have hr : (s.put R.LK_RING_RING (s.get R.LK_RING_RING ||| 2 ^ (4 + q % 4))).fbit R.LK_RING_RING (4 + q) = true := by
    rw [State.fbit, State.get_put, Nat.testBit_mod_two_pow, Nat.testBit_or, Nat.testBit_two_pow, Nat.mod_eq_of_lt hq]
    have : 4 + q < R.LK_RING_RING.width := by simp only [R.LK_RING_RING]; omega
    simp [this]
  unfold State.ringFailed
  extract_lets m u
  rw [show s.put R.LK_RING_RING (s.get R.LK_RING_RING ||| 2 ^ (4 + q % 4)) = u from rfl] at hv hg hr
  clear_value u
  have ha : u.Alarmed ((u.report (mkReport 0x02 .clsU 0x0010 m)).eventAll
      (.retentionLost (List.replicate 16 0 ++ beBytes 2 m ++ beBytes 2 0))) := .eventAll (.report (.refl u))
  exact ⟨(ha.keeps State.lo).trans hv.1, (ha.keeps State.pw).trans hv.2, fun g hb h => (ha.get_of_block hb).trans (hg g h),
    (State.fbit_congr ha.get_of_block _).trans hr⟩

/-- QUADRANT_RELOCK of an ungated quadrant with power (R116, R125, R519). -/
theorem exec_quadrantRelock_on (bad : Bool) (hq : q < 4) (h1 : s.radioPowered = true) (h2 : s.quadGated q = false) :
    ∃ u : State, exec (.quadrantRelock q bad) s = .next u.moveCheck ∧
      u.fbit R.DFE_STATUS_CONV_LOCK q = true ∧ u.lo.relockQ = setBit s.lo.relockQ q false ∧
      (s.synState (s.src q) = synActive → s.tuned q = true → u.fbit R.LO_STATUS_QLO_LOCK q = true ∧
        ∀ ch, quadOf ch = q → u.get (R.CH_STATUS_BAND ch) = bandOf (s.loCode q)) ∧
      (bad = true → u.fbit R.LK_RING_RING (4 + q) = true) ∧
      ∀ k, k < 4 → u.fbit R.LO_STATUS_LO_READY k = u.loReadyNow k := by
  rw [exec_quadrantRelock]
  have hv : (doIf bad (State.ringFailed q) s).lo = s.lo ∧ (doIf bad (State.ringFailed q) s).pw = s.pw ∧
      (∀ g : Field, quietBlock (g.addr / 2 ^ 20) = true → R.LK_RING_RING.Apart g → (doIf bad (State.ringFailed q) s).get g = s.get g) ∧
      (bad = true → (doIf bad (State.ringFailed q) s).fbit R.LK_RING_RING (4 + q) = true) := by
    obtain ⟨r1, r2, r3, r4⟩ := s.ringFailed_spec hq
    cases bad with
    | true => exact ⟨r1, r2, r3, fun _ => r4⟩
    | false => exact ⟨rfl, rfl, fun _ _ _ => rfl, fun h => by simp at h⟩
  generalize doIf bad (State.ringFailed q) s = v at *
  obtain ⟨v1, v2, v3, v4⟩ := hv
  have hlo : ∀ g : Field, g.addr / 2 ^ 20 = 0x110 → v.get g = s.get g := fun g hg =>
    v3 g (by rw [hg]; rfl) (.inl (by simp only [R.LK_RING_RING, R.LK_RING]; omega))
  have hsrc : v.src q = s.src q := hlo _ (by simp only [R.QLO_CFG_SRC, R.QLO_CFG]; omega)
  have hsyn : ∀ i, v.synState i = s.synState i := fun i => hlo _ (by rw [synField_addr]; rfl)
  have htun : v.tuned q = s.tuned q := by rw [State.tuned, v1, State.tuned]
  have hpow : v.radioPowered = s.radioPowered := by
    unfold State.radioPowered State.radioOn
    rw [v2, v3 R.PWR_STATUS_STATE_NOW rfl (.inl (by decide))]
  have hgate : v.quadGated q = s.quadGated q := State.fbit_congr (v3 _ rfl (.inl (by decide))) q
  obtain ⟨u, he, u1, u2, u3, u4, u5⟩ := v.quadRelock_spec hq (hpow.trans h1) (hgate.trans h2)
  rw [hsrc, hsyn, htun, State.loCode_of_get (fun g hg _ => hlo g hg) hq] at u3
  exact ⟨u, congrArg (fun t : State => Host.Outcome.next t.moveCheck) he, u1, by rw [u2, v1], u3,
    fun hb => (State.fbit_congr u4 _).trans (v4 hb), u5⟩

end
end Sys2Proof.Machine

open Sys2Proof Sys2Proof.Machine

/-- Settles O24: a switch-over through its turns, and what follows it leaves; LO_READY by the refresh that ends each operation. -/
theorem switchOverOfSynthesisers : Obligations.SwitchOverOfSynthesisers := by
  unfold Obligations.SwitchOverOfSynthesisers
  refine ⟨exec_switchOver_none, fun s t c ht hp hi hs hr => ?_, fun s t ht hp hi hw => exec_transientEnd_tune s ht hp hi hw,
    fun s h hn => congrArg Host.Outcome.next (s.transientEnd_none h hn), fun s q c hq hl h ht => exec_bandSettleDone_spec s hq hl h ht,
    fun s q h => exec_bandSettleDone_none s h, fun s q bad hq => ⟨fun h1 h2 => exec_quadrantRelock_on s bad hq h1 h2, fun h => ?_⟩⟩
  · intro qs from0 hf hc
    exact exec_switchOver_tune s ht hp hi hs hr hf hc
  · rw [exec_quadrantRelock, doIf_false, s.quadRelock_off h]
end
